-- ==== Sys2Proof/Word.lean ====
section
/-! DEFINITION. The word types of the WX8: bytes, the 32-bit registers of its windows and the 64-bit fields of its packets. -/

namespace Sys2Proof

/-- One byte of memory. -/
abbrev Byte := BitVec 8

/-- One register of a unit window (00 R5: accesses are 32 bits). -/
abbrev Word := BitVec 32

end Sys2Proof
end

