-- ==== Sys2Proof/Config.lean ====
section
/-! DEFINITION. What the manual leaves open or names without defining: uninterpreted constants. No proof can see a value of
one, so a claim holds whatever it is. -/

namespace Sys2Proof.Config

/-- A free value, by the number of free values consumed before it: for a result the manual does not state. -/
opaque freeValue : Nat → Nat

/-- The DRAM fitted to the board: bit 0 two ranks, bit 1 16 Gb dies (13 R519). -/
opaque dramFit : Nat

/-- The device's 64-bit OTP serial (15 R587). -/
opaque otpSerial : Nat

/-- The key of the vault seal, derived from the device key (19 R712). -/
opaque vaultKey : List Byte

/-- SHA-384 of the Thilar public key, held in boot ROM (16 R613). -/
opaque thilarHash : List Byte

/-- The OTP fields CUST_KEY0 and CUST_KEY1: a hash, or unprogrammed (16 R613). -/
opaque custKey : Nat → Option (List Byte)

/-- Whether firmware of a VERSION can read SETTINGS records of a set with a SCHEMA (16 R630). -/
opaque readsSchema (version set schema : Nat) : Bool

/-- The Plate SRAM contents of a start-up bundle (06 R307: the manual gives no layout). -/
opaque bundlePlate (bundle : List Byte) : List Byte

/-- The output table of a start-up bundle: output, layer and Plate offset of each list, and the MODE_SET parameters of each
output (06 R307: the manual gives no layout). -/
opaque bundleLists (bundle : List Byte) : List (Nat × Nat × Nat)
opaque bundleModes (bundle : List Byte) : List (Nat × List Byte)

/-- The boot ROM's default plate: its Plate SRAM contents, with its list at offset 0 (06 R308). -/
opaque defaultPlate : List Byte

/-- The OTP field BOOT_OUTPUTS, one bit for each output (06 R308). -/
opaque bootOutputs : Nat

/-- The public key in a device certificate that verifies under the Thilar device CA key (18 R684: the manual gives no format). -/
opaque certKey (certificate : List Byte) : Option (List Byte)

/-- This device's certificate, and signatures under its device key (18 R684). -/
opaque deviceCert : List Byte
opaque deviceSign (digest : List Byte) : List Byte

/-- The Ethernet address of a Dzivlink port (18 R682). -/
opaque portMac (port : Nat) : List Byte

end Sys2Proof.Config
end

