-- ==== Sys2Proof/Machine/Sparse.lean ====
section
/-! DEFINITION. Two canonical representations of sparse data, as plain lists: a map from a number to a value with a
default for what is not listed, and a map of runs in which long ranges share one value. -/

namespace Sys2Proof.Machine

/-- A sparse map: pairs of a key and a value, keys strictly rising, no value equal to the default of its key. -/
abbrev SMap (α : Type) := List (Nat × α)

/-- The value at a key; `d` is what an unlisted key reads as. -/
def SMap.get {α : Type} (d : Nat → α) : List (Nat × α) → Nat → α
  | [], k => d k
  | (j, v) :: t, k => if j = k then v else SMap.get d t k

/-- Inserts or replaces the entry of a key, keeping the keys rising. -/
def SMap.ins {α : Type} : List (Nat × α) → Nat → α → List (Nat × α)
  | [], k, v => [(k, v)]
  | (j, w) :: t, k, v =>
    if k < j then (k, v) :: (j, w) :: t
    else if k = j then (k, v) :: t
    else (j, w) :: SMap.ins t k v

/-- Removes the entry of a key. -/
def SMap.del {α : Type} (m : List (Nat × α)) (k : Nat) : List (Nat × α) :=
  m.filter (fun e => e.1 != k)

/-- Writes a value; writing the default removes the entry, so that equal maps are equal lists. -/
def SMap.set {α : Type} [DecidableEq α] (d : Nat → α) (m : List (Nat × α)) (k : Nat) (v : α) : List (Nat × α) :=
  if v = d k then SMap.del m k else SMap.ins m k v

/-- Forgets every entry whose key lies in the range, so that it reads as its default. -/
def SMap.clear {α : Type} (m : List (Nat × α)) (lo hi : Nat) : List (Nat × α) :=
  m.filter (fun e => decide (e.1 < lo) || decide (hi ≤ e.1))

/-- The canonical form: keys strictly rising and no entry at its default. -/
def SMap.wf {α : Type} [DecidableEq α] (d : Nat → α) : List (Nat × α) → Bool
  | [] => true
  | [(k, v)] => decide (v ≠ d k)
  | (k, v) :: (j, w) :: t => decide (v ≠ d k) && decide (k < j) && SMap.wf d ((j, w) :: t)

/-- A finite map without a default: the entry of a key, if it has one. -/
def SMap.find {α : Type} : List (Nat × α) → Nat → Option α
  | [], _ => none
  | (j, v) :: t, k => if j = k then some v else SMap.find t k

/-- A map of runs: `(k, v)` says that from key `k` on, up to the next entry, the value is `v`; before the first entry
the value is 0. -/
abbrev RunMap := List (Nat × Nat)

/-- The value at a key, `cur` being the value of the run that the list starts in. -/
def RunMap.getFrom (cur : Nat) : RunMap → Nat → Nat
  | [], _ => cur
  | (j, v) :: t, k => if k < j then cur else RunMap.getFrom v t k

/-- The value at a key. -/
def RunMap.get (m : RunMap) (k : Nat) : Nat := RunMap.getFrom 0 m k

/-- Joins neighbouring runs of equal value. -/
def RunMap.join (cur : Nat) : RunMap → RunMap
  | [] => []
  | (k, v) :: t => if v = cur then RunMap.join cur t else (k, v) :: RunMap.join v t

/-- Gives every key of `lo ≤ k < hi` the value `v`. -/
def RunMap.setRange (m : RunMap) (lo hi v : Nat) : RunMap :=
  if lo < hi then
    RunMap.join 0 (m.filter (fun e => decide (e.1 < lo)) ++ [(lo, v), (hi, RunMap.get m hi)]
      ++ m.filter (fun e => decide (hi < e.1)))
  else m

/-- Whether every key of `lo ≤ k < hi` has a value that satisfies `p`. -/
def RunMap.allIn (m : RunMap) (lo hi : Nat) (p : Nat → Bool) : Bool :=
  decide (hi ≤ lo) ||
    (p (RunMap.get m lo) && m.all (fun e => decide (e.1 ≤ lo) || decide (hi ≤ e.1) || p e.2))

end Sys2Proof.Machine
end

