-- ==== Sys2Proof/Machine/Regs.lean ====
section
/-! DEFINITION. The register windows of the WX8 (01 R20-R23): every 32-bit register the chapters lay out, with its address,
its instances, who may read and write it, and its fields with access type and reset value (00 R3, R7). -/

namespace Sys2Proof.Machine

/-- The access types of 00 R3. -/
inductive Acc where
  | rw
  | ro
  | wo
  | w1c
  | rws
  | rwm
  deriving DecidableEq, Repr

/-- Whose accesses reach a register; every other access reads 0 and is ignored. -/
inductive Pol where
  /-- no limit beyond the access types -/
  | all
  /-- the mediator and the S-world -/
  | ms
  /-- the S-world alone -/
  | s
  /-- the owner of the mailbox page and the S-world (02 R73) -/
  | mbx
  deriving DecidableEq, Repr

/-- A field: its highest and lowest bit, its access type, its value after a cold reset. -/
structure FieldDesc where
  hi  : Nat
  lo  : Nat
  acc : Acc
  rst : Nat
  deriving DecidableEq, Repr

/-- A register: the address of instance 0, the stride and the number of instances, its readers and writers, its fields. -/
structure RegDesc where
  base   : Nat
  stride : Nat
  count  : Nat
  rd     : Pol
  wr     : Pol
  fields : List FieldDesc
  deriving DecidableEq, Repr

/-- A named field of a register with the place of its instances. -/
structure Fld where
  base   : Nat
  stride : Nat
  hi     : Nat
  lo     : Nat
  deriving DecidableEq, Repr

/-- The width of a field. -/
def Fld.width (f : Fld) : Nat := f.hi + 1 - f.lo

/-- The address of instance `n` of the register that holds the field. -/
def Fld.addr (f : Fld) (n : Nat) : Nat := f.base + n * f.stride

/-- The address of `DEV_ID`, instance `n` (00 R8). -/
def Reg.DEV_ID (n : Nat := 0) : Nat := 0x10000000 + n * 4
/-- The address of `DEV_BUSERR`, instance `n` (01 R26). -/
def Reg.DEV_BUSERR (n : Nat := 0) : Nat := 0x10000010 + n * 4
/-- The address of `DEV_BUSERR_ADDR_LO`, instance `n` (01 R26). -/
def Reg.DEV_BUSERR_ADDR_LO (n : Nat := 0) : Nat := 0x10000014 + n * 4
/-- The address of `DEV_BUSERR_ADDR_HI`, instance `n` (01 R26). -/
def Reg.DEV_BUSERR_ADDR_HI (n : Nat := 0) : Nat := 0x10000018 + n * 4
/-- The address of `DEV_SPAIR_CTRL`, instance `n` (02 R42). -/
def Reg.DEV_SPAIR_CTRL (n : Nat := 0) : Nat := 0x10000100 + n * 4
/-- The address of `DEV_SPAIR_STAT`, instance `n` (02 R44). -/
def Reg.DEV_SPAIR_STAT (n : Nat := 0) : Nat := 0x10000104 + n * 4
/-- The address of `DEV_DBG`, instance `n` (02 R78). -/
def Reg.DEV_DBG (n : Nat := 0) : Nat := 0x10000180 + n * 4
/-- The address of `DEV_SGUEST`, instance `n` (02 R48). -/
def Reg.DEV_SGUEST (n : Nat := 0) : Nat := 0x10000200 + n * 4
/-- The address of `DEV_SHWIN_BASE`, instance `n` (02 R52). -/
def Reg.DEV_SHWIN_BASE (n : Nat := 0) : Nat := 0x10000300 + n * 8
/-- The address of `DEV_SHWIN_LIMIT`, instance `n` (02 R52). -/
def Reg.DEV_SHWIN_LIMIT (n : Nat := 0) : Nat := 0x10000304 + n * 8
/-- The address of `DEV_SHWIN_SACC`, instance `n` (02 R53). -/
def Reg.DEV_SHWIN_SACC (n : Nat := 0) : Nat := 0x10000380 + n * 4
/-- The address of `DEV_EPOCH`, instance `n` (04 R183). -/
def Reg.DEV_EPOCH (n : Nat := 0) : Nat := 0x10000400 + n * 4
/-- The address of `DEV_FW_STAT`, instance `n` (16 R635). -/
def Reg.DEV_FW_STAT (n : Nat := 0) : Nat := 0x10000480 + n * 4
/-- The address of `DEV_FW_VER`, instance `n` (16 R635). -/
def Reg.DEV_FW_VER (n : Nat := 0) : Nat := 0x10000484 + n * 4
/-- The address of `DEV_FAULT_STAT`, instance `n` (17 R670). -/
def Reg.DEV_FAULT_STAT (n : Nat := 0) : Nat := 0x10000500 + n * 4
/-- The address of `DEV_FAULT_FIRST`, instance `n` (17 R670). -/
def Reg.DEV_FAULT_FIRST (n : Nat := 0) : Nat := 0x10000504 + n * 4
/-- The address of `DEV_FAULT_TIME_LO`, instance `n` (17 R670). -/
def Reg.DEV_FAULT_TIME_LO (n : Nat := 0) : Nat := 0x10000508 + n * 4
/-- The address of `DEV_FAULT_TIME_HI`, instance `n` (17 R670). -/
def Reg.DEV_FAULT_TIME_HI (n : Nat := 0) : Nat := 0x1000050c + n * 4
/-- The address of `DEV_SWDOG`, instance `n` (17 R670). -/
def Reg.DEV_SWDOG (n : Nat := 0) : Nat := 0x10000510 + n * 4
/-- The address of `DEV_VMCLIENT`, instance `n` (02 R45). -/
def Reg.DEV_VMCLIENT (n : Nat := 0) : Nat := 0x10010000 + n * 4
/-- The address of `DEV_CLINK`, instance `n` (02 R47). -/
def Reg.DEV_CLINK (n : Nat := 0) : Nat := 0x10020000 + n * 4
/-- The address of `INT_BAND`, instance `n` (02 R62). -/
def Reg.INT_BAND (n : Nat := 0) : Nat := 0x10100000 + n * 4
/-- The address of `INT_SPRIO`, instance `n` (02 R64). -/
def Reg.INT_SPRIO (n : Nat := 0) : Nat := 0x10100100 + n * 4
/-- The address of `INT_STOP`, instance `n` (02 R65). -/
def Reg.INT_STOP (n : Nat := 0) : Nat := 0x10100300 + n * 4
/-- The address of `INT_SACK`, instance `n` (02 R65). -/
def Reg.INT_SACK (n : Nat := 0) : Nat := 0x10100304 + n * 4
/-- The address of `INT_MBX_OWNER`, instance `n` (02 R69). -/
def Reg.INT_MBX_OWNER (n : Nat := 0) : Nat := 0x10100400 + n * 4
/-- The address of `INT_MBX_SCTRL`, instance `n` (02 R71). -/
def Reg.INT_MBX_SCTRL (n : Nat := 0) : Nat := 0x10100800 + n * 4
/-- The address of `INT_MBX_N2S`, instance `n` (02 R768). -/
def Reg.INT_MBX_N2S (n : Nat := 0) : Nat := 0x10100c00 + n * 4
/-- The address of `INT_MBX_DOOR`, instance `n` (02 R74). -/
def Reg.INT_MBX_DOOR (n : Nat := 0) : Nat := 0x10110200 + n * 4096
/-- The address of `INT_MBX_STAT`, instance `n` (02 R76). -/
def Reg.INT_MBX_STAT (n : Nat := 0) : Nat := 0x10110204 + n * 4096
/-- The address of `CP_CTXBASE_LO`, instance `n` (03 R139). -/
def Reg.CP_CTXBASE_LO (n : Nat := 0) : Nat := 0x10200000 + n * 4
/-- The address of `CP_CTXBASE_HI`, instance `n` (03 R139). -/
def Reg.CP_CTXBASE_HI (n : Nat := 0) : Nat := 0x10200004 + n * 4
/-- The address of `CP_PRING_CFG0`, instance `n` (03 R140). -/
def Reg.CP_PRING_CFG0 (n : Nat := 0) : Nat := 0x10200100 + n * 64
/-- The address of `CP_PRING_SQ_LO0`, instance `n` (03 R140). -/
def Reg.CP_PRING_SQ_LO0 (n : Nat := 0) : Nat := 0x10200104 + n * 64
/-- The address of `CP_PRING_SQ_HI0`, instance `n` (03 R140). -/
def Reg.CP_PRING_SQ_HI0 (n : Nat := 0) : Nat := 0x10200108 + n * 64
/-- The address of `CP_PRING_CQ_LO0`, instance `n` (03 R140). -/
def Reg.CP_PRING_CQ_LO0 (n : Nat := 0) : Nat := 0x1020010c + n * 64
/-- The address of `CP_PRING_CQ_HI0`, instance `n` (03 R140). -/
def Reg.CP_PRING_CQ_HI0 (n : Nat := 0) : Nat := 0x10200110 + n * 64
/-- The address of `CP_PRING_EQ_LO0`, instance `n` (03 R140). -/
def Reg.CP_PRING_EQ_LO0 (n : Nat := 0) : Nat := 0x10200114 + n * 64
/-- The address of `CP_PRING_EQ_HI0`, instance `n` (03 R140). -/
def Reg.CP_PRING_EQ_HI0 (n : Nat := 0) : Nat := 0x10200118 + n * 64
/-- The address of `CP_PRING_CFG1`, instance `n` (03 R140). -/
def Reg.CP_PRING_CFG1 (n : Nat := 0) : Nat := 0x10200140 + n * 64
/-- The address of `CP_PRING_SQ_LO1`, instance `n` (03 R140). -/
def Reg.CP_PRING_SQ_LO1 (n : Nat := 0) : Nat := 0x10200144 + n * 64
/-- The address of `CP_PRING_SQ_HI1`, instance `n` (03 R140). -/
def Reg.CP_PRING_SQ_HI1 (n : Nat := 0) : Nat := 0x10200148 + n * 64
/-- The address of `CP_PRING_CQ_LO1`, instance `n` (03 R140). -/
def Reg.CP_PRING_CQ_LO1 (n : Nat := 0) : Nat := 0x1020014c + n * 64
/-- The address of `CP_PRING_CQ_HI1`, instance `n` (03 R140). -/
def Reg.CP_PRING_CQ_HI1 (n : Nat := 0) : Nat := 0x10200150 + n * 64
/-- The address of `CP_PRING_EQ_LO1`, instance `n` (03 R140). -/
def Reg.CP_PRING_EQ_LO1 (n : Nat := 0) : Nat := 0x10200154 + n * 64
/-- The address of `CP_PRING_EQ_HI1`, instance `n` (03 R140). -/
def Reg.CP_PRING_EQ_HI1 (n : Nat := 0) : Nat := 0x10200158 + n * 64
/-- The address of `PCIE_LINK_STAT`, instance `n` (04 R198). -/
def Reg.PCIE_LINK_STAT (n : Nat := 0) : Nat := 0x11200000 + n * 4
/-- The address of `PCIE_FLR_PEND`, instance `n` (04 R198). -/
def Reg.PCIE_FLR_PEND (n : Nat := 0) : Nat := 0x11200008 + n * 4
/-- The address of `PCIE_ERR`, instance `n` (04 R198). -/
def Reg.PCIE_ERR (n : Nat := 0) : Nat := 0x11200010 + n * 4
/-- The address of `DPTX_LINK`, instance `n` (05 R206). -/
def Reg.DPTX_LINK (n : Nat := 0) : Nat := 0x10380000 + n * 256
/-- The address of `DPTX_STAT`, instance `n` (05 R206). -/
def Reg.DPTX_STAT (n : Nat := 0) : Nat := 0x10380004 + n * 256
/-- The address of `DTG_CTRL`, instance `n` (05 R209). -/
def Reg.DTG_CTRL (n : Nat := 0) : Nat := 0x10300000 + n * 256
/-- The address of `DTG_HSIZE`, instance `n` (05 R209). -/
def Reg.DTG_HSIZE (n : Nat := 0) : Nat := 0x10300004 + n * 256
/-- The address of `DTG_HSYNC`, instance `n` (05 R209). -/
def Reg.DTG_HSYNC (n : Nat := 0) : Nat := 0x10300008 + n * 256
/-- The address of `DTG_VSIZE`, instance `n` (05 R209). -/
def Reg.DTG_VSIZE (n : Nat := 0) : Nat := 0x1030000c + n * 256
/-- The address of `DTG_VSYNC`, instance `n` (05 R209). -/
def Reg.DTG_VSYNC (n : Nat := 0) : Nat := 0x10300010 + n * 256
/-- The address of `DTG_PCLK_NUM`, instance `n` (05 R209). -/
def Reg.DTG_PCLK_NUM (n : Nat := 0) : Nat := 0x10300014 + n * 256
/-- The address of `DTG_PCLK_DEN`, instance `n` (05 R209). -/
def Reg.DTG_PCLK_DEN (n : Nat := 0) : Nat := 0x10300018 + n * 256
/-- The address of `DTG_BG`, instance `n` (05 R209). -/
def Reg.DTG_BG (n : Nat := 0) : Nat := 0x1030001c + n * 256
/-- The address of `DTG_APPLY`, instance `n` (05 R209). -/
def Reg.DTG_APPLY (n : Nat := 0) : Nat := 0x10300020 + n * 256
/-- The address of `DTG_LOWREF`, instance `n` (05 R209). -/
def Reg.DTG_LOWREF (n : Nat := 0) : Nat := 0x10300024 + n * 256
/-- The address of `DTG_STAT`, instance `n` (05 R209). -/
def Reg.DTG_STAT (n : Nat := 0) : Nat := 0x10300028 + n * 256
/-- The address of `DTG_FRAME`, instance `n` (05 R209). -/
def Reg.DTG_FRAME (n : Nat := 0) : Nat := 0x1030002c + n * 256
/-- The address of `DPIPE_LCTRL`, instance `n` (05 R225). -/
def Reg.DPIPE_LCTRL (n : Nat := 0) : Nat := 0x10341000 + n * 64
/-- The address of `DPIPE_LOWNER`, instance `n` (05 R225). -/
def Reg.DPIPE_LOWNER (n : Nat := 0) : Nat := 0x10341004 + n * 64
/-- The address of `DPIPE_LADDR_LO`, instance `n` (05 R225). -/
def Reg.DPIPE_LADDR_LO (n : Nat := 0) : Nat := 0x10341008 + n * 64
/-- The address of `DPIPE_LADDR_HI`, instance `n` (05 R225). -/
def Reg.DPIPE_LADDR_HI (n : Nat := 0) : Nat := 0x1034100c + n * 64
/-- The address of `DPIPE_LCADDR_LO`, instance `n` (05 R225). -/
def Reg.DPIPE_LCADDR_LO (n : Nat := 0) : Nat := 0x10341010 + n * 64
/-- The address of `DPIPE_LCADDR_HI`, instance `n` (05 R225). -/
def Reg.DPIPE_LCADDR_HI (n : Nat := 0) : Nat := 0x10341014 + n * 64
/-- The address of `DPIPE_LPITCH`, instance `n` (05 R225). -/
def Reg.DPIPE_LPITCH (n : Nat := 0) : Nat := 0x10341018 + n * 64
/-- The address of `DPIPE_LSRC_POS`, instance `n` (05 R225). -/
def Reg.DPIPE_LSRC_POS (n : Nat := 0) : Nat := 0x1034101c + n * 64
/-- The address of `DPIPE_LSRC_SIZE`, instance `n` (05 R225). -/
def Reg.DPIPE_LSRC_SIZE (n : Nat := 0) : Nat := 0x10341020 + n * 64
/-- The address of `DPIPE_LDST_POS`, instance `n` (05 R225). -/
def Reg.DPIPE_LDST_POS (n : Nat := 0) : Nat := 0x10341024 + n * 64
/-- The address of `DPIPE_LDST_SIZE`, instance `n` (05 R225). -/
def Reg.DPIPE_LDST_SIZE (n : Nat := 0) : Nat := 0x10341028 + n * 64
/-- The address of `DPIPE_LPLACE_POS`, instance `n` (05 R225). -/
def Reg.DPIPE_LPLACE_POS (n : Nat := 0) : Nat := 0x1034102c + n * 64
/-- The address of `DPIPE_LPLACE_SIZE`, instance `n` (05 R225). -/
def Reg.DPIPE_LPLACE_SIZE (n : Nat := 0) : Nat := 0x10341030 + n * 64
/-- The address of `DPIPE_LFILL`, instance `n` (05 R225). -/
def Reg.DPIPE_LFILL (n : Nat := 0) : Nat := 0x10341034 + n * 64
/-- The address of `DPIPE_LBUF`, instance `n` (05 R225). -/
def Reg.DPIPE_LBUF (n : Nat := 0) : Nat := 0x10341038 + n * 64
/-- The address of `DPIPE_LSTAT`, instance `n` (05 R225). -/
def Reg.DPIPE_LSTAT (n : Nat := 0) : Nat := 0x1034103c + n * 64
/-- The address of `ETCH_OUT_STAT`, instance `n` (06 R306). -/
def Reg.ETCH_OUT_STAT (n : Nat := 0) : Nat := 0x10400000 + n * 64
/-- The address of `ETCH_SAFE_BG`, instance `n` (06 R306). -/
def Reg.ETCH_SAFE_BG (n : Nat := 0) : Nat := 0x10400004 + n * 64
/-- The address of `ETCH_BLINK_STAT`, instance `n` (06 R306). -/
def Reg.ETCH_BLINK_STAT (n : Nat := 0) : Nat := 0x10400008 + n * 64
/-- The address of `ETCH_PEAK`, instance `n` (06 R306). -/
def Reg.ETCH_PEAK (n : Nat := 0) : Nat := 0x1040000c + n * 64
/-- The address of `ETCH_LIVE`, instance `n` (06 R306). -/
def Reg.ETCH_LIVE (n : Nat := 0) : Nat := 0x10400400 + n * 4
/-- The address of `ETCH_PEND`, instance `n` (06 R306). -/
def Reg.ETCH_PEND (n : Nat := 0) : Nat := 0x10400480 + n * 4
/-- The address of `ETCH_WPROT`, instance `n` (06 R306). -/
def Reg.ETCH_WPROT (n : Nat := 0) : Nat := 0x10400800 + n * 4
/-- The address of `PROOF_CTRL`, instance `n` (07 R343). -/
def Reg.PROOF_CTRL (n : Nat := 0) : Nat := 0x10500000 + n * 64
/-- The address of `PROOF_STAT`, instance `n` (07 R343). -/
def Reg.PROOF_STAT (n : Nat := 0) : Nat := 0x10500004 + n * 64
/-- The address of `PROOF_WIN`, instance `n` (07 R343). -/
def Reg.PROOF_WIN (n : Nat := 0) : Nat := 0x10500008 + n * 64
/-- The address of `PROOF_FAIL`, instance `n` (07 R343). -/
def Reg.PROOF_FAIL (n : Nat := 0) : Nat := 0x1050000c + n * 64
/-- The address of `PROOF_SINK`, instance `n` (07 R343). -/
def Reg.PROOF_SINK (n : Nat := 0) : Nat := 0x10500010 + n * 64
/-- The address of `PROOF_CHECKED`, instance `n` (07 R343). -/
def Reg.PROOF_CHECKED (n : Nat := 0) : Nat := 0x10500014 + n * 64
/-- The address of `PROOF_RSV`, instance `n` (07 R343). -/
def Reg.PROOF_RSV (n : Nat := 0) : Nat := 0x10500400 + n * 4
/-- The address of `GRV_CTXBASE_LO`, instance `n` (08 R373). -/
def Reg.GRV_CTXBASE_LO (n : Nat := 0) : Nat := 0x10600000 + n * 4
/-- The address of `GRV_CTXBASE_HI`, instance `n` (08 R373). -/
def Reg.GRV_CTXBASE_HI (n : Nat := 0) : Nat := 0x10600004 + n * 4
/-- The address of `GRV_ENG_STAT`, instance `n` (08 R373). -/
def Reg.GRV_ENG_STAT (n : Nat := 0) : Nat := 0x10600100 + n * 4
/-- The address of `GRV_PIXELS`, instance `n` (08 R373). -/
def Reg.GRV_PIXELS (n : Nat := 0) : Nat := 0x10600200 + n * 4
/-- The address of `TCH_CFG`, instance `n` (09 R424). -/
def Reg.TCH_CFG (n : Nat := 0) : Nat := 0x10700000 + n * 64
/-- The address of `TCH_RXCFG`, instance `n` (09 R424). -/
def Reg.TCH_RXCFG (n : Nat := 0) : Nat := 0x10700004 + n * 64
/-- The address of `TCH_STAT`, instance `n` (09 R424). -/
def Reg.TCH_STAT (n : Nat := 0) : Nat := 0x10700008 + n * 64
/-- The address of `TCH_NOISE`, instance `n` (09 R424). -/
def Reg.TCH_NOISE (n : Nat := 0) : Nat := 0x1070000c + n * 64
/-- The address of `TCH_TONES`, instance `n` (09 R424). -/
def Reg.TCH_TONES (n : Nat := 0) : Nat := 0x10700400 + n * 4
/-- The address of `HAP_CFG`, instance `n` (10 R445). -/
def Reg.HAP_CFG (n : Nat := 0) : Nat := 0x10800000 + n * 64
/-- The address of `HAP_DRIVE`, instance `n` (10 R445). -/
def Reg.HAP_DRIVE (n : Nat := 0) : Nat := 0x10800004 + n * 64
/-- The address of `HAP_LIM`, instance `n` (10 R445). -/
def Reg.HAP_LIM (n : Nat := 0) : Nat := 0x10800008 + n * 64
/-- The address of `HAP_STAT`, instance `n` (10 R445). -/
def Reg.HAP_STAT (n : Nat := 0) : Nat := 0x1080000c + n * 64
/-- The address of `HAP_SIG`, instance `n` (10 R445). -/
def Reg.HAP_SIG (n : Nat := 0) : Nat := 0x10800010 + n * 64
/-- The address of `HAP_MEAS`, instance `n` (10 R445). -/
def Reg.HAP_MEAS (n : Nat := 0) : Nat := 0x10800014 + n * 64
/-- The address of `HAP_WEAR`, instance `n` (10 R445). -/
def Reg.HAP_WEAR (n : Nat := 0) : Nat := 0x10800018 + n * 64
/-- The address of `HAP_STARTS`, instance `n` (10 R445). -/
def Reg.HAP_STARTS (n : Nat := 0) : Nat := 0x1080001c + n * 64
/-- The address of `HAP_DRIVE_S`, instance `n` (10 R445). -/
def Reg.HAP_DRIVE_S (n : Nat := 0) : Nat := 0x10800020 + n * 64
/-- The address of `HAP_TRIG_CFG`, instance `n` (10 R445). -/
def Reg.HAP_TRIG_CFG (n : Nat := 0) : Nat := 0x10800400 + n * 4
/-- The address of `HAP_VHAP`, instance `n` (10 R445). -/
def Reg.HAP_VHAP (n : Nat := 0) : Nat := 0x10800800 + n * 4
/-- The address of `AUD_CTRL`, instance `n` (11 R499). -/
def Reg.AUD_CTRL (n : Nat := 0) : Nat := 0x10900000 + n * 4
/-- The address of `AUD_ALARM`, instance `n` (11 R499). -/
def Reg.AUD_ALARM (n : Nat := 0) : Nat := 0x10900004 + n * 4
/-- The address of `AUD_ALARM_STAT`, instance `n` (11 R499). -/
def Reg.AUD_ALARM_STAT (n : Nat := 0) : Nat := 0x10900008 + n * 4
/-- The address of `AUD_STAT`, instance `n` (11 R499). -/
def Reg.AUD_STAT (n : Nat := 0) : Nat := 0x1090000c + n * 4
/-- The address of `AUD_PORT_STAT`, instance `n` (11 R499). -/
def Reg.AUD_PORT_STAT (n : Nat := 0) : Nat := 0x10900100 + n * 4
/-- The address of `ARB_POOL_CFG0`, instance `n` (12 R516). -/
def Reg.ARB_POOL_CFG0 (n : Nat := 0) : Nat := 0x10a00000 + n * 4
/-- The address of `ARB_POOL_CFG1`, instance `n` (12 R516). -/
def Reg.ARB_POOL_CFG1 (n : Nat := 0) : Nat := 0x10a00004 + n * 4
/-- The address of `ARB_POOL_CFG2`, instance `n` (12 R516). -/
def Reg.ARB_POOL_CFG2 (n : Nat := 0) : Nat := 0x10a00008 + n * 4
/-- The address of `ARB_POOL_CFG3`, instance `n` (12 R516). -/
def Reg.ARB_POOL_CFG3 (n : Nat := 0) : Nat := 0x10a0000c + n * 4
/-- The address of `ARB_POOL_STAT`, instance `n` (12 R516). -/
def Reg.ARB_POOL_STAT (n : Nat := 0) : Nat := 0x10a00010 + n * 4
/-- The address of `ARB_UNIT`, instance `n` (12 R516). -/
def Reg.ARB_UNIT (n : Nat := 0) : Nat := 0x10a00100 + n * 4
/-- The address of `ARB_TAKE`, instance `n` (12 R516). -/
def Reg.ARB_TAKE (n : Nat := 0) : Nat := 0x10a00200 + n * 4
/-- The address of `ARB_OVERRUN`, instance `n` (12 R516). -/
def Reg.ARB_OVERRUN (n : Nat := 0) : Nat := 0x10a00210 + n * 4
/-- The address of `MC_CFG`, instance `n` (13 R566). -/
def Reg.MC_CFG (n : Nat := 0) : Nat := 0x10b00000 + n * 4
/-- The address of `MC_AGE`, instance `n` (13 R566). -/
def Reg.MC_AGE (n : Nat := 0) : Nat := 0x10b00004 + n * 4
/-- The address of `MC_FREEZE`, instance `n` (13 R566). -/
def Reg.MC_FREEZE (n : Nat := 0) : Nat := 0x10b00008 + n * 4
/-- The address of `MC_RD`, instance `n` (13 R566). -/
def Reg.MC_RD (n : Nat := 0) : Nat := 0x10b0000c + n * 4
/-- The address of `MC_CE_TH`, instance `n` (13 R566). -/
def Reg.MC_CE_TH (n : Nat := 0) : Nat := 0x10b00010 + n * 4
/-- The address of `MC_THAW`, instance `n` (13 R566). -/
def Reg.MC_THAW (n : Nat := 0) : Nat := 0x10b00014 + n * 4
/-- The address of `MC_INKF`, instance `n` (13 R566). -/
def Reg.MC_INKF (n : Nat := 0) : Nat := 0x10b00020 + n * 4
/-- The address of `MC_RD_STAT`, instance `n` (13 R566). -/
def Reg.MC_RD_STAT (n : Nat := 0) : Nat := 0x10b00030 + n * 4
/-- The address of `MC_INKF_ADDR_LO`, instance `n` (01 R26). -/
def Reg.MC_INKF_ADDR_LO (n : Nat := 0) : Nat := 0x10b00024 + n * 4
/-- The address of `MC_INKF_ADDR_HI`, instance `n` (01 R26). -/
def Reg.MC_INKF_ADDR_HI (n : Nat := 0) : Nat := 0x10b00028 + n * 4
/-- The address of `MC_SLOT_CFG`, instance `n` (13 R566). -/
def Reg.MC_SLOT_CFG (n : Nat := 0) : Nat := 0x10b00100 + n * 4
/-- The address of `MC_CH_STAT`, instance `n` (13 R566). -/
def Reg.MC_CH_STAT (n : Nat := 0) : Nat := 0x10b00200 + n * 4
/-- The address of `MC_CE_DATA`, instance `n` (13 R566). -/
def Reg.MC_CE_DATA (n : Nat := 0) : Nat := 0x10b00240 + n * 4
/-- The address of `MC_CE_META`, instance `n` (13 R566). -/
def Reg.MC_CE_META (n : Nat := 0) : Nat := 0x10b00280 + n * 4
/-- The address of `MC_FRZ_STAT`, instance `n` (13 R566). -/
def Reg.MC_FRZ_STAT (n : Nat := 0) : Nat := 0x10b00300 + n * 16
/-- The address of `MC_FRZ_ADDR_LO`, instance `n` (01 R26). -/
def Reg.MC_FRZ_ADDR_LO (n : Nat := 0) : Nat := 0x10b00304 + n * 16
/-- The address of `MC_FRZ_ADDR_HI`, instance `n` (01 R26). -/
def Reg.MC_FRZ_ADDR_HI (n : Nat := 0) : Nat := 0x10b00308 + n * 16
/-- The address of `MC_FRZ_SYND`, instance `n` (13 R566). -/
def Reg.MC_FRZ_SYND (n : Nat := 0) : Nat := 0x10b0030c + n * 16
/-- The address of `MC_MIRROR`, instance `n` (13 R566). -/
def Reg.MC_MIRROR (n : Nat := 0) : Nat := 0x10b00400 + n * 4
/-- The address of `HALL_STAT`, instance `n` (14 R584). -/
def Reg.HALL_STAT (n : Nat := 0) : Nat := 0x10c00000 + n * 4
/-- The address of `HALL_BYTES`, instance `n` (14 R584). -/
def Reg.HALL_BYTES (n : Nat := 0) : Nat := 0x10c00040 + n * 4
/-- The address of `HALL_FAILS`, instance `n` (14 R584). -/
def Reg.HALL_FAILS (n : Nat := 0) : Nat := 0x10c00080 + n * 4
/-- The address of `FOL_CFG`, instance `n` (15 R610). -/
def Reg.FOL_CFG (n : Nat := 0) : Nat := 0x10d00000 + n * 4
/-- The address of `FOL_STAT`, instance `n` (15 R610). -/
def Reg.FOL_STAT (n : Nat := 0) : Nat := 0x10d00004 + n * 4
/-- The address of `TTH_PORT_STAT`, instance `n` (18 R696). -/
def Reg.TTH_PORT_STAT (n : Nat := 0) : Nat := 0x10e00000 + n * 4
/-- The address of `TTH_TIME_STAT`, instance `n` (18 R696). -/
def Reg.TTH_TIME_STAT (n : Nat := 0) : Nat := 0x10e00010 + n * 4
/-- The address of `TTH_GROUP`, instance `n` (18 R696). -/
def Reg.TTH_GROUP (n : Nat := 0) : Nat := 0x10e00020 + n * 4
/-- The address of `TTH_GROUP_STAT`, instance `n` (18 R696). -/
def Reg.TTH_GROUP_STAT (n : Nat := 0) : Nat := 0x10e00024 + n * 4
/-- The address of `TTH_MEMBER`, instance `n` (18 R696). -/
def Reg.TTH_MEMBER (n : Nat := 0) : Nat := 0x10e00400 + n * 4
/-- The address of `PWR_STATE`, instance `n` (19 R727). -/
def Reg.PWR_STATE (n : Nat := 0) : Nat := 0x10f00000 + n * 4
/-- The address of `PWR_WAKE`, instance `n` (19 R727). -/
def Reg.PWR_WAKE (n : Nat := 0) : Nat := 0x10f00004 + n * 4
/-- The address of `PWR_RESUME_LO`, instance `n` (19 R727). -/
def Reg.PWR_RESUME_LO (n : Nat := 0) : Nat := 0x10f00008 + n * 4
/-- The address of `PWR_RESUME_HI`, instance `n` (19 R727). -/
def Reg.PWR_RESUME_HI (n : Nat := 0) : Nat := 0x10f0000c + n * 4
/-- The address of `PWR_AVS`, instance `n` (19 R727). -/
def Reg.PWR_AVS (n : Nat := 0) : Nat := 0x10f00010 + n * 4
/-- The address of `PWR_RAIL`, instance `n` (19 R727). -/
def Reg.PWR_RAIL (n : Nat := 0) : Nat := 0x10f00100 + n * 4
/-- The address of `PWR_SCLAIM0`, instance `n` (02 R90). -/
def Reg.PWR_SCLAIM0 (n : Nat := 0) : Nat := 0x10f00200 + n * 4
/-- The address of `PWR_SCLAIM1`, instance `n` (02 R90). -/
def Reg.PWR_SCLAIM1 (n : Nat := 0) : Nat := 0x10f00204 + n * 4
/-- The address of `PWR_SPOLICY0`, instance `n` (02 R90). -/
def Reg.PWR_SPOLICY0 (n : Nat := 0) : Nat := 0x10f00208 + n * 4
/-- The address of `PWR_SPOLICY1`, instance `n` (02 R90). -/
def Reg.PWR_SPOLICY1 (n : Nat := 0) : Nat := 0x10f0020c + n * 4
/-- The address of `PWR_SREADY0`, instance `n` (02 R90). -/
def Reg.PWR_SREADY0 (n : Nat := 0) : Nat := 0x10f00210 + n * 4
/-- The address of `PWR_SREADY1`, instance `n` (02 R90). -/
def Reg.PWR_SREADY1 (n : Nat := 0) : Nat := 0x10f00214 + n * 4
/-- The address of `PWR_CLAIMED0`, instance `n` (02 R90). -/
def Reg.PWR_CLAIMED0 (n : Nat := 0) : Nat := 0x10f00218 + n * 4
/-- The address of `PWR_CLAIMED1`, instance `n` (02 R90). -/
def Reg.PWR_CLAIMED1 (n : Nat := 0) : Nat := 0x10f0021c + n * 4
/-- The address of `AON_RTC`, instance `n` (15 R610). -/
def Reg.AON_RTC (n : Nat := 0) : Nat := 0x11000000 + n * 4
/-- The address of `AON_STAT`, instance `n` (19 R728). -/
def Reg.AON_STAT (n : Nat := 0) : Nat := 0x11000004 + n * 4
/-- The address of `AON_BOOTS`, instance `n` (19 R728). -/
def Reg.AON_BOOTS (n : Nat := 0) : Nat := 0x11000008 + n * 4
/-- The address of `AON_ALARM`, instance `n` (19 R728). -/
def Reg.AON_ALARM (n : Nat := 0) : Nat := 0x1100000c + n * 4
/-- The address of `AON_CASE_TIME`, instance `n` (19 R728). -/
def Reg.AON_CASE_TIME (n : Nat := 0) : Nat := 0x11000014 + n * 4
/-- The address of `AON_CASE`, instance `n` (19 R728). -/
def Reg.AON_CASE (n : Nat := 0) : Nat := 0x11000010 + n * 4
/-- The address of `AON_BACKED`, instance `n` (19 R728). -/
def Reg.AON_BACKED (n : Nat := 0) : Nat := 0x11000040 + n * 4
/-- The address of `RUB_CFG`, instance `n` (17 R671). -/
def Reg.RUB_CFG (n : Nat := 0) : Nat := 0x11100000 + n * 4
/-- The address of `RUB_STAT`, instance `n` (17 R671). -/
def Reg.RUB_STAT (n : Nat := 0) : Nat := 0x11100004 + n * 4
/-- The address of `RUB_MISS`, instance `n` (17 R671). -/
def Reg.RUB_MISS (n : Nat := 0) : Nat := 0x11100008 + n * 4
/-- The address of `RUB_TIME_LO`, instance `n` (17 R671). -/
def Reg.RUB_TIME_LO (n : Nat := 0) : Nat := 0x1110000c + n * 4
/-- The address of `RUB_TIME_HI`, instance `n` (17 R671). -/
def Reg.RUB_TIME_HI (n : Nat := 0) : Nat := 0x11100010 + n * 4
/-- The address of `LSIO_SOWN`, instance `n` (20 R750). -/
def Reg.LSIO_SOWN (n : Nat := 0) : Nat := 0x113ff000 + n * 4
/-- The address of `LSIO_SGPIO`, instance `n` (20 R750). -/
def Reg.LSIO_SGPIO (n : Nat := 0) : Nat := 0x113ff004 + n * 4
/-- The address of `LSIO_CTRL`, instance `n` (20 R753). -/
def Reg.LSIO_CTRL (n : Nat := 0) : Nat := 0x11300000 + n * 4096
/-- The address of `LSIO_STAT`, instance `n` (20 R753). -/
def Reg.LSIO_STAT (n : Nat := 0) : Nat := 0x11300004 + n * 4096
/-- The address of `LSIO_INT_EN`, instance `n` (20 R753). -/
def Reg.LSIO_INT_EN (n : Nat := 0) : Nat := 0x11300008 + n * 4096
/-- The address of `LSIO_INT_STAT`, instance `n` (20 R753). -/
def Reg.LSIO_INT_STAT (n : Nat := 0) : Nat := 0x1130000c + n * 4096
/-- The address of `LSIO_TX_PUSH`, instance `n` (20 R753). -/
def Reg.LSIO_TX_PUSH (n : Nat := 0) : Nat := 0x11300010 + n * 4096
/-- The address of `LSIO_RX_POP`, instance `n` (20 R753). -/
def Reg.LSIO_RX_POP (n : Nat := 0) : Nat := 0x11300014 + n * 4096
/-- The address of `LSIO_RX_HEAD`, instance `n` (20 R753). -/
def Reg.LSIO_RX_HEAD (n : Nat := 0) : Nat := 0x11300018 + n * 4096
/-- The address of `LSIO_CFG`, instance `n` (20 R755). -/
def Reg.LSIO_CFG (n : Nat := 0) : Nat := 0x1130001c + n * 4096
/-- The address of `LSIO_DCFG`, instance `n` (20 R755). -/
def Reg.LSIO_DCFG (n : Nat := 0) : Nat := 0x1130c020 + n * 4096
/-- The address of `LSIO_ERRCNT`, instance `n` (20 R755). -/
def Reg.LSIO_ERRCNT (n : Nat := 0) : Nat := 0x1130c024 + n * 4096
/-- The address of `LSIO_CANF_ID0`, instance `n` (20 R755). -/
def Reg.LSIO_CANF_ID0 (n : Nat := 0) : Nat := 0x1130c100 + n * 8
/-- The address of `LSIO_CANF_MASK0`, instance `n` (20 R755). -/
def Reg.LSIO_CANF_MASK0 (n : Nat := 0) : Nat := 0x1130c104 + n * 8
/-- The address of `LSIO_CANF_ID1`, instance `n` (20 R755). -/
def Reg.LSIO_CANF_ID1 (n : Nat := 0) : Nat := 0x1130d100 + n * 8
/-- The address of `LSIO_CANF_MASK1`, instance `n` (20 R755). -/
def Reg.LSIO_CANF_MASK1 (n : Nat := 0) : Nat := 0x1130d104 + n * 8
/-- The address of `LSIO_GPIO_IN`, instance `n` (20 R756). -/
def Reg.LSIO_GPIO_IN (n : Nat := 0) : Nat := 0x11310000 + n * 4
/-- The address of `LSIO_GPIO_OUT`, instance `n` (20 R756). -/
def Reg.LSIO_GPIO_OUT (n : Nat := 0) : Nat := 0x11310010 + n * 4
/-- The address of `LSIO_GPIO_OE`, instance `n` (20 R756). -/
def Reg.LSIO_GPIO_OE (n : Nat := 0) : Nat := 0x11310020 + n * 4
/-- The address of `LSIO_GPIO_IRQ`, instance `n` (20 R756). -/
def Reg.LSIO_GPIO_IRQ (n : Nat := 0) : Nat := 0x11310030 + n * 4
/-- The address of `LSIO_GPIO_EDGE`, instance `n` (20 R756). -/
def Reg.LSIO_GPIO_EDGE (n : Nat := 0) : Nat := 0x11310040 + n * 4

/-! The named fields. -/

def F.DEV_ID_VENDOR : Fld := ⟨0x10000000, 4, 31, 24⟩
def F.DEV_ID_FAMILY : Fld := ⟨0x10000000, 4, 23, 16⟩
def F.DEV_ID_PART : Fld := ⟨0x10000000, 4, 15, 8⟩
def F.DEV_ID_STEP_MAJOR : Fld := ⟨0x10000000, 4, 7, 4⟩
def F.DEV_ID_STEP_MINOR : Fld := ⟨0x10000000, 4, 3, 0⟩
def F.DEV_BUSERR_VALID : Fld := ⟨0x10000010, 4, 31, 31⟩
def F.DEV_BUSERR_OVERFLOW : Fld := ⟨0x10000010, 4, 30, 30⟩
def F.DEV_BUSERR_KIND : Fld := ⟨0x10000010, 4, 29, 27⟩
def F.DEV_BUSERR_WORLD : Fld := ⟨0x10000010, 4, 26, 26⟩
def F.DEV_BUSERR_ORIGIN : Fld := ⟨0x10000010, 4, 25, 24⟩
def F.DEV_BUSERR_WRITE : Fld := ⟨0x10000010, 4, 12, 12⟩
def F.DEV_BUSERR_CLIENT : Fld := ⟨0x10000010, 4, 11, 0⟩
def F.DEV_BUSERR_ADDR_LO_ADDR : Fld := ⟨0x10000014, 4, 31, 0⟩
def F.DEV_BUSERR_ADDR_HI_ADDR : Fld := ⟨0x10000018, 4, 15, 0⟩
def F.DEV_SPAIR_CTRL_CKPT : Fld := ⟨0x10000100, 4, 7, 4⟩
def F.DEV_SPAIR_CTRL_STANDBY_EN : Fld := ⟨0x10000100, 4, 0, 0⟩
def F.DEV_SPAIR_STAT_ACTIVE : Fld := ⟨0x10000104, 4, 31, 31⟩
def F.DEV_SPAIR_STAT_STANDBY : Fld := ⟨0x10000104, 4, 30, 30⟩
def F.DEV_SPAIR_STAT_SWITCHED : Fld := ⟨0x10000104, 4, 29, 29⟩
def F.DEV_SPAIR_STAT_SWITCH_TIME : Fld := ⟨0x10000104, 4, 15, 0⟩
def F.DEV_DBG_LOCK_SINV : Fld := ⟨0x10000180, 4, 7, 7⟩
def F.DEV_DBG_LOCK_SNINV : Fld := ⟨0x10000180, 4, 6, 6⟩
def F.DEV_DBG_LOCK_NINV : Fld := ⟨0x10000180, 4, 5, 5⟩
def F.DEV_DBG_LOCK_NNINV : Fld := ⟨0x10000180, 4, 4, 4⟩
def F.DEV_DBG_SINV : Fld := ⟨0x10000180, 4, 3, 3⟩
def F.DEV_DBG_SNINV : Fld := ⟨0x10000180, 4, 2, 2⟩
def F.DEV_DBG_NINV : Fld := ⟨0x10000180, 4, 1, 1⟩
def F.DEV_DBG_NNINV : Fld := ⟨0x10000180, 4, 0, 0⟩
def F.DEV_SGUEST_VALID : Fld := ⟨0x10000200, 4, 31, 31⟩
def F.DEV_SGUEST_CLIENT : Fld := ⟨0x10000200, 4, 11, 0⟩
def F.DEV_SHWIN_BASE_ADDR : Fld := ⟨0x10000300, 8, 31, 0⟩
def F.DEV_SHWIN_LIMIT_ADDR : Fld := ⟨0x10000304, 8, 31, 0⟩
def F.DEV_SHWIN_SACC_ACCEPT : Fld := ⟨0x10000380, 4, 15, 0⟩
def F.DEV_EPOCH_BOOT : Fld := ⟨0x10000400, 4, 31, 16⟩
def F.DEV_EPOCH_EPOCH : Fld := ⟨0x10000400, 4, 15, 0⟩
def F.DEV_FW_STAT_STATE : Fld := ⟨0x10000480, 4, 31, 30⟩
def F.DEV_FW_STAT_FW_SLOT : Fld := ⟨0x10000480, 4, 29, 29⟩
def F.DEV_FW_STAT_SAPP_SLOT : Fld := ⟨0x10000480, 4, 28, 28⟩
def F.DEV_FW_STAT_SAPP_TRIAL : Fld := ⟨0x10000480, 4, 27, 27⟩
def F.DEV_FW_STAT_UNREADABLE : Fld := ⟨0x10000480, 4, 26, 26⟩
def F.DEV_FW_STAT_MED_VOTE : Fld := ⟨0x10000480, 4, 25, 25⟩
def F.DEV_FW_STAT_MED_DONE : Fld := ⟨0x10000480, 4, 24, 24⟩
def F.DEV_FW_STAT_SVN_FLOOR : Fld := ⟨0x10000480, 4, 22, 16⟩
def F.DEV_FW_STAT_WINDOW_S : Fld := ⟨0x10000480, 4, 11, 0⟩
def F.DEV_FW_VER_VERSION : Fld := ⟨0x10000484, 4, 31, 0⟩
def F.DEV_FAULT_STAT_SAFE : Fld := ⟨0x10000500, 4, 31, 31⟩
def F.DEV_FAULT_STAT_FAULT : Fld := ⟨0x10000500, 4, 30, 30⟩
def F.DEV_FAULT_STAT_SAFE_CAUSE : Fld := ⟨0x10000500, 4, 23, 20⟩
def F.DEV_FAULT_STAT_CLASSES : Fld := ⟨0x10000500, 4, 15, 1⟩
def F.DEV_FAULT_FIRST_CLASS : Fld := ⟨0x10000504, 4, 31, 28⟩
def F.DEV_FAULT_FIRST_INSTANCE : Fld := ⟨0x10000504, 4, 15, 0⟩
def F.DEV_FAULT_TIME_LO_TIME : Fld := ⟨0x10000508, 4, 31, 0⟩
def F.DEV_FAULT_TIME_HI_TIME : Fld := ⟨0x1000050c, 4, 31, 0⟩
def F.DEV_SWDOG_ENABLE : Fld := ⟨0x10000510, 4, 31, 31⟩
def F.DEV_SWDOG_KICK : Fld := ⟨0x10000510, 4, 30, 30⟩
def F.DEV_SWDOG_PERIOD_MS : Fld := ⟨0x10000510, 4, 15, 0⟩
def F.DEV_VMCLIENT_VALID : Fld := ⟨0x10010000, 4, 31, 31⟩
def F.DEV_VMCLIENT_CLIENT : Fld := ⟨0x10010000, 4, 11, 0⟩
def F.DEV_CLINK_INK7 : Fld := ⟨0x10020000, 4, 31, 28⟩
def F.DEV_CLINK_INK6 : Fld := ⟨0x10020000, 4, 27, 24⟩
def F.DEV_CLINK_INK5 : Fld := ⟨0x10020000, 4, 23, 20⟩
def F.DEV_CLINK_INK4 : Fld := ⟨0x10020000, 4, 19, 16⟩
def F.DEV_CLINK_INK3 : Fld := ⟨0x10020000, 4, 15, 12⟩
def F.DEV_CLINK_INK2 : Fld := ⟨0x10020000, 4, 11, 8⟩
def F.DEV_CLINK_INK1 : Fld := ⟨0x10020000, 4, 7, 4⟩
def F.DEV_CLINK_INK0 : Fld := ⟨0x10020000, 4, 3, 0⟩
def F.INT_BAND_S : Fld := ⟨0x10100000, 4, 31, 0⟩
def F.INT_SPRIO_P7 : Fld := ⟨0x10100100, 4, 31, 28⟩
def F.INT_SPRIO_P6 : Fld := ⟨0x10100100, 4, 27, 24⟩
def F.INT_SPRIO_P5 : Fld := ⟨0x10100100, 4, 23, 20⟩
def F.INT_SPRIO_P4 : Fld := ⟨0x10100100, 4, 19, 16⟩
def F.INT_SPRIO_P3 : Fld := ⟨0x10100100, 4, 15, 12⟩
def F.INT_SPRIO_P2 : Fld := ⟨0x10100100, 4, 11, 8⟩
def F.INT_SPRIO_P1 : Fld := ⟨0x10100100, 4, 7, 4⟩
def F.INT_SPRIO_P0 : Fld := ⟨0x10100100, 4, 3, 0⟩
def F.INT_STOP_VALID : Fld := ⟨0x10100300, 4, 31, 31⟩
def F.INT_STOP_PRIO : Fld := ⟨0x10100300, 4, 15, 12⟩
def F.INT_STOP_SOURCE : Fld := ⟨0x10100300, 4, 8, 0⟩
def F.INT_SACK_SOURCE : Fld := ⟨0x10100304, 4, 8, 0⟩
def F.INT_MBX_OWNER_CLIENT_OWNED : Fld := ⟨0x10100400, 4, 31, 31⟩
def F.INT_MBX_OWNER_CLIENT : Fld := ⟨0x10100400, 4, 11, 0⟩
def F.INT_MBX_SCTRL_ENABLE : Fld := ⟨0x10100800, 4, 31, 31⟩
def F.INT_MBX_SCTRL_TAKE : Fld := ⟨0x10100800, 4, 30, 30⟩
def F.INT_MBX_SCTRL_SEND : Fld := ⟨0x10100800, 4, 29, 29⟩
def F.INT_MBX_SCTRL_LEN : Fld := ⟨0x10100800, 4, 24, 16⟩
def F.INT_MBX_SCTRL_SEQ : Fld := ⟨0x10100800, 4, 15, 0⟩
def F.INT_MBX_N2S_SEQ : Fld := ⟨0x10100c00, 4, 31, 16⟩
def F.INT_MBX_N2S_LEN : Fld := ⟨0x10100c00, 4, 8, 0⟩
def F.INT_MBX_DOOR_SEQ : Fld := ⟨0x10110200, 4096, 31, 16⟩
def F.INT_MBX_DOOR_LEN : Fld := ⟨0x10110200, 4096, 8, 0⟩
def F.INT_MBX_STAT_N2S_FULL : Fld := ⟨0x10110204, 4096, 31, 31⟩
def F.INT_MBX_STAT_S2N_FULL : Fld := ⟨0x10110204, 4096, 30, 30⟩
def F.INT_MBX_STAT_REFUSED : Fld := ⟨0x10110204, 4096, 29, 29⟩
def F.INT_MBX_STAT_ENABLED : Fld := ⟨0x10110204, 4096, 28, 28⟩
def F.INT_MBX_STAT_OWNER_CHANGED : Fld := ⟨0x10110204, 4096, 27, 27⟩
def F.INT_MBX_STAT_S2N_LEN : Fld := ⟨0x10110204, 4096, 24, 16⟩
def F.INT_MBX_STAT_S2N_SEQ : Fld := ⟨0x10110204, 4096, 15, 0⟩
def F.CP_CTXBASE_LO_ADDR : Fld := ⟨0x10200000, 4, 31, 19⟩
def F.CP_CTXBASE_HI_ADDR : Fld := ⟨0x10200004, 4, 15, 0⟩
def F.CP_PRING_CFG0_ENABLE : Fld := ⟨0x10200100, 64, 31, 31⟩
def F.CP_PRING_CFG0_EQ_LOG2 : Fld := ⟨0x10200100, 64, 30, 27⟩
def F.CP_PRING_CFG0_CQ_LOG2 : Fld := ⟨0x10200100, 64, 26, 22⟩
def F.CP_PRING_CFG0_SQ_LOG2 : Fld := ⟨0x10200100, 64, 21, 17⟩
def F.CP_PRING_CFG0_FENCE_TMO : Fld := ⟨0x10200100, 64, 15, 0⟩
def F.CP_PRING_SQ_LO0_ADDR : Fld := ⟨0x10200104, 64, 31, 12⟩
def F.CP_PRING_SQ_HI0_ADDR : Fld := ⟨0x10200108, 64, 15, 0⟩
def F.CP_PRING_CQ_LO0_ADDR : Fld := ⟨0x1020010c, 64, 31, 12⟩
def F.CP_PRING_CQ_HI0_ADDR : Fld := ⟨0x10200110, 64, 15, 0⟩
def F.CP_PRING_EQ_LO0_ADDR : Fld := ⟨0x10200114, 64, 31, 12⟩
def F.CP_PRING_EQ_HI0_ADDR : Fld := ⟨0x10200118, 64, 15, 0⟩
def F.CP_PRING_CFG1_ENABLE : Fld := ⟨0x10200140, 64, 31, 31⟩
def F.CP_PRING_CFG1_EQ_LOG2 : Fld := ⟨0x10200140, 64, 30, 27⟩
def F.CP_PRING_CFG1_CQ_LOG2 : Fld := ⟨0x10200140, 64, 26, 22⟩
def F.CP_PRING_CFG1_SQ_LOG2 : Fld := ⟨0x10200140, 64, 21, 17⟩
def F.CP_PRING_CFG1_FENCE_TMO : Fld := ⟨0x10200140, 64, 15, 0⟩
def F.CP_PRING_SQ_LO1_ADDR : Fld := ⟨0x10200144, 64, 31, 12⟩
def F.CP_PRING_SQ_HI1_ADDR : Fld := ⟨0x10200148, 64, 15, 0⟩
def F.CP_PRING_CQ_LO1_ADDR : Fld := ⟨0x1020014c, 64, 31, 12⟩
def F.CP_PRING_CQ_HI1_ADDR : Fld := ⟨0x10200150, 64, 15, 0⟩
def F.CP_PRING_EQ_LO1_ADDR : Fld := ⟨0x10200154, 64, 31, 12⟩
def F.CP_PRING_EQ_HI1_ADDR : Fld := ⟨0x10200158, 64, 15, 0⟩
def F.PCIE_LINK_STAT_UP : Fld := ⟨0x11200000, 4, 31, 31⟩
def F.PCIE_LINK_STAT_PERST : Fld := ⟨0x11200000, 4, 30, 30⟩
def F.PCIE_LINK_STAT_SPEED : Fld := ⟨0x11200000, 4, 29, 26⟩
def F.PCIE_LINK_STAT_WIDTH : Fld := ⟨0x11200000, 4, 25, 21⟩
def F.PCIE_LINK_STAT_VFS : Fld := ⟨0x11200000, 4, 15, 8⟩
def F.PCIE_FLR_PEND_FN : Fld := ⟨0x11200008, 4, 31, 0⟩
def F.PCIE_ERR_VALID : Fld := ⟨0x11200010, 4, 31, 31⟩
def F.PCIE_ERR_UNCORR : Fld := ⟨0x11200010, 4, 30, 30⟩
def F.PCIE_ERR_COUNT : Fld := ⟨0x11200010, 4, 15, 0⟩
def F.DPTX_LINK_TRAIN : Fld := ⟨0x10380000, 256, 31, 31⟩
def F.DPTX_LINK_RATE : Fld := ⟨0x10380000, 256, 27, 24⟩
def F.DPTX_LINK_LANES : Fld := ⟨0x10380000, 256, 23, 22⟩
def F.DPTX_LINK_BPC10 : Fld := ⟨0x10380000, 256, 21, 21⟩
def F.DPTX_LINK_SSC : Fld := ⟨0x10380000, 256, 20, 20⟩
def F.DPTX_LINK_ASYNC : Fld := ⟨0x10380000, 256, 19, 19⟩
def F.DPTX_LINK_AUDIO : Fld := ⟨0x10380000, 256, 18, 18⟩
def F.DPTX_LINK_LANE_POL : Fld := ⟨0x10380000, 256, 11, 8⟩
def F.DPTX_LINK_LANE_REV : Fld := ⟨0x10380000, 256, 7, 7⟩
def F.DPTX_STAT_HPD : Fld := ⟨0x10380004, 256, 31, 31⟩
def F.DPTX_STAT_TRAINED : Fld := ⟨0x10380004, 256, 30, 30⟩
def F.DPTX_STAT_LOST : Fld := ⟨0x10380004, 256, 29, 29⟩
def F.DPTX_STAT_IRQ_HPD : Fld := ⟨0x10380004, 256, 28, 28⟩
def F.DPTX_STAT_RATE : Fld := ⟨0x10380004, 256, 27, 24⟩
def F.DPTX_STAT_LANES : Fld := ⟨0x10380004, 256, 23, 22⟩
def F.DPTX_STAT_FAILS : Fld := ⟨0x10380004, 256, 15, 8⟩
def F.DTG_CTRL_ENABLE : Fld := ⟨0x10300000, 256, 31, 31⟩
def F.DTG_CTRL_LOCKED : Fld := ⟨0x10300000, 256, 30, 30⟩
def F.DTG_CTRL_CLAIMED : Fld := ⟨0x10300000, 256, 29, 29⟩
def F.DTG_CTRL_VSYNC_POL : Fld := ⟨0x10300000, 256, 1, 1⟩
def F.DTG_CTRL_HSYNC_POL : Fld := ⟨0x10300000, 256, 0, 0⟩
def F.DTG_HSIZE_HFP : Fld := ⟨0x10300004, 256, 31, 16⟩
def F.DTG_HSIZE_HACTIVE : Fld := ⟨0x10300004, 256, 15, 0⟩
def F.DTG_HSYNC_HBP : Fld := ⟨0x10300008, 256, 31, 16⟩
def F.DTG_HSYNC_HSYNC : Fld := ⟨0x10300008, 256, 15, 0⟩
def F.DTG_VSIZE_VFP : Fld := ⟨0x1030000c, 256, 31, 16⟩
def F.DTG_VSIZE_VACTIVE : Fld := ⟨0x1030000c, 256, 15, 0⟩
def F.DTG_VSYNC_VBP : Fld := ⟨0x10300010, 256, 31, 16⟩
def F.DTG_VSYNC_VSYNC : Fld := ⟨0x10300010, 256, 15, 0⟩
def F.DTG_PCLK_NUM_NUM : Fld := ⟨0x10300014, 256, 23, 0⟩
def F.DTG_PCLK_DEN_DEN : Fld := ⟨0x10300018, 256, 23, 0⟩
def F.DTG_BG_RED : Fld := ⟨0x1030001c, 256, 29, 20⟩
def F.DTG_BG_GREEN : Fld := ⟨0x1030001c, 256, 19, 10⟩
def F.DTG_BG_BLUE : Fld := ⟨0x1030001c, 256, 9, 0⟩
def F.DTG_APPLY_ARM : Fld := ⟨0x10300020, 256, 31, 31⟩
def F.DTG_APPLY_LINE : Fld := ⟨0x10300020, 256, 13, 0⟩
def F.DTG_LOWREF_ENABLE : Fld := ⟨0x10300024, 256, 31, 31⟩
def F.DTG_LOWREF_IDLE_FRAMES : Fld := ⟨0x10300024, 256, 23, 16⟩
def F.DTG_LOWREF_SINK_MIN_HZ : Fld := ⟨0x10300024, 256, 15, 8⟩
def F.DTG_LOWREF_MIN_HZ : Fld := ⟨0x10300024, 256, 7, 0⟩
def F.DTG_STAT_VBLANK : Fld := ⟨0x10300028, 256, 31, 31⟩
def F.DTG_STAT_STRETCH : Fld := ⟨0x10300028, 256, 30, 30⟩
def F.DTG_STAT_LINE : Fld := ⟨0x10300028, 256, 15, 0⟩
def F.DTG_FRAME_COUNT : Fld := ⟨0x1030002c, 256, 31, 0⟩
def F.DPIPE_LCTRL_ARM : Fld := ⟨0x10341000, 64, 31, 31⟩
def F.DPIPE_LCTRL_ENABLE : Fld := ⟨0x10341000, 64, 30, 30⟩
def F.DPIPE_LCTRL_PREMULT : Fld := ⟨0x10341000, 64, 29, 29⟩
def F.DPIPE_LCTRL_ROT : Fld := ⟨0x10341000, 64, 28, 27⟩
def F.DPIPE_LCTRL_CSC_2020 : Fld := ⟨0x10341000, 64, 26, 26⟩
def F.DPIPE_LCTRL_FULL_RANGE : Fld := ⟨0x10341000, 64, 25, 25⟩
def F.DPIPE_LCTRL_GALPHA : Fld := ⟨0x10341000, 64, 23, 16⟩
def F.DPIPE_LCTRL_FORMAT : Fld := ⟨0x10341000, 64, 15, 12⟩
def F.DPIPE_LCTRL_Z : Fld := ⟨0x10341000, 64, 11, 8⟩
def F.DPIPE_LCTRL_OUTPUT : Fld := ⟨0x10341000, 64, 3, 0⟩
def F.DPIPE_LOWNER_VALID : Fld := ⟨0x10341004, 64, 31, 31⟩
def F.DPIPE_LOWNER_CLIENT : Fld := ⟨0x10341004, 64, 11, 0⟩
def F.DPIPE_LADDR_LO_ADDR : Fld := ⟨0x10341008, 64, 31, 6⟩
def F.DPIPE_LADDR_HI_ADDR : Fld := ⟨0x1034100c, 64, 15, 0⟩
def F.DPIPE_LCADDR_LO_ADDR : Fld := ⟨0x10341010, 64, 31, 6⟩
def F.DPIPE_LCADDR_HI_ADDR : Fld := ⟨0x10341014, 64, 15, 0⟩
def F.DPIPE_LPITCH_PITCH : Fld := ⟨0x10341018, 64, 15, 0⟩
def F.DPIPE_LSRC_POS_Y : Fld := ⟨0x1034101c, 64, 31, 16⟩
def F.DPIPE_LSRC_POS_X : Fld := ⟨0x1034101c, 64, 15, 0⟩
def F.DPIPE_LSRC_SIZE_H : Fld := ⟨0x10341020, 64, 31, 16⟩
def F.DPIPE_LSRC_SIZE_W : Fld := ⟨0x10341020, 64, 15, 0⟩
def F.DPIPE_LDST_POS_Y : Fld := ⟨0x10341024, 64, 31, 16⟩
def F.DPIPE_LDST_POS_X : Fld := ⟨0x10341024, 64, 15, 0⟩
def F.DPIPE_LDST_SIZE_H : Fld := ⟨0x10341028, 64, 31, 16⟩
def F.DPIPE_LDST_SIZE_W : Fld := ⟨0x10341028, 64, 15, 0⟩
def F.DPIPE_LPLACE_POS_Y : Fld := ⟨0x1034102c, 64, 31, 16⟩
def F.DPIPE_LPLACE_POS_X : Fld := ⟨0x1034102c, 64, 15, 0⟩
def F.DPIPE_LPLACE_SIZE_H : Fld := ⟨0x10341030, 64, 31, 16⟩
def F.DPIPE_LPLACE_SIZE_W : Fld := ⟨0x10341030, 64, 15, 0⟩
def F.DPIPE_LFILL_FILL : Fld := ⟨0x10341034, 64, 31, 0⟩
def F.DPIPE_LBUF_SIZE_KIB : Fld := ⟨0x10341038, 64, 29, 20⟩
def F.DPIPE_LBUF_LOW_KIB : Fld := ⟨0x10341038, 64, 19, 10⟩
def F.DPIPE_LBUF_CRIT_KIB : Fld := ⟨0x10341038, 64, 9, 0⟩
def F.DPIPE_LSTAT_FAULTED : Fld := ⟨0x1034103c, 64, 31, 31⟩
def F.DPIPE_LSTAT_REASON : Fld := ⟨0x1034103c, 64, 30, 28⟩
def F.DPIPE_LSTAT_UNDERRUNS : Fld := ⟨0x1034103c, 64, 15, 0⟩
def F.ETCH_OUT_STAT_SWAP_ARMED : Fld := ⟨0x10400000, 64, 31, 31⟩
def F.ETCH_OUT_STAT_STARTUP : Fld := ⟨0x10400000, 64, 30, 30⟩
def F.ETCH_OUT_STAT_SAFE : Fld := ⟨0x10400000, 64, 29, 29⟩
def F.ETCH_OUT_STAT_PEND : Fld := ⟨0x10400000, 64, 23, 20⟩
def F.ETCH_OUT_STAT_LIVE : Fld := ⟨0x10400000, 64, 19, 16⟩
def F.ETCH_OUT_STAT_SWAPS : Fld := ⟨0x10400000, 64, 15, 0⟩
def F.ETCH_SAFE_BG_RED : Fld := ⟨0x10400004, 64, 29, 20⟩
def F.ETCH_SAFE_BG_GREEN : Fld := ⟨0x10400004, 64, 19, 10⟩
def F.ETCH_SAFE_BG_BLUE : Fld := ⟨0x10400004, 64, 9, 0⟩
def F.ETCH_BLINK_STAT_RUNNING : Fld := ⟨0x10400008, 64, 7, 4⟩
def F.ETCH_BLINK_STAT_PHASE : Fld := ⟨0x10400008, 64, 3, 0⟩
def F.ETCH_PEAK_EDGES : Fld := ⟨0x1040000c, 64, 31, 23⟩
def F.ETCH_PEAK_GLYPHS : Fld := ⟨0x1040000c, 64, 22, 16⟩
def F.ETCH_PEAK_BITMAPS : Fld := ⟨0x1040000c, 64, 15, 10⟩
def F.ETCH_LIVE_VALID : Fld := ⟨0x10400400, 4, 31, 31⟩
def F.ETCH_LIVE_OFFSET : Fld := ⟨0x10400400, 4, 23, 0⟩
def F.ETCH_PEND_VALID : Fld := ⟨0x10400480, 4, 31, 31⟩
def F.ETCH_PEND_OFFSET : Fld := ⟨0x10400480, 4, 23, 0⟩
def F.ETCH_WPROT_VALID : Fld := ⟨0x10400800, 4, 31, 31⟩
def F.ETCH_WPROT_OVERFLOW : Fld := ⟨0x10400800, 4, 30, 30⟩
def F.ETCH_WPROT_OFFSET : Fld := ⟨0x10400800, 4, 23, 0⟩
def F.PROOF_CTRL_ENABLE : Fld := ⟨0x10500000, 64, 31, 31⟩
def F.PROOF_CTRL_GUARD : Fld := ⟨0x10500000, 64, 30, 30⟩
def F.PROOF_CTRL_SINK_EN : Fld := ⟨0x10500000, 64, 29, 29⟩
def F.PROOF_CTRL_SINK_PERIOD : Fld := ⟨0x10500000, 64, 23, 16⟩
def F.PROOF_CTRL_AREA : Fld := ⟨0x10500000, 64, 11, 0⟩
def F.PROOF_STAT_STATE : Fld := ⟨0x10500004, 64, 31, 30⟩
def F.PROOF_STAT_UNCHECKED : Fld := ⟨0x10500004, 64, 29, 29⟩
def F.PROOF_STAT_BANK : Fld := ⟨0x10500004, 64, 28, 28⟩
def F.PROOF_STAT_PASS : Fld := ⟨0x10500004, 64, 27, 27⟩
def F.PROOF_STAT_LONG_SEEK : Fld := ⟨0x10500004, 64, 26, 26⟩
def F.PROOF_STAT_MISMATCH : Fld := ⟨0x10500004, 64, 25, 25⟩
def F.PROOF_STAT_SINK_MISMATCH : Fld := ⟨0x10500004, 64, 24, 24⟩
def F.PROOF_STAT_TAKEOVERS : Fld := ⟨0x10500004, 64, 15, 0⟩
def F.PROOF_WIN_REJECTED : Fld := ⟨0x10500008, 64, 31, 16⟩
def F.PROOF_WIN_ACTIVE : Fld := ⟨0x10500008, 64, 15, 0⟩
def F.PROOF_FAIL_VALID : Fld := ⟨0x1050000c, 64, 31, 31⟩
def F.PROOF_FAIL_OVERFLOW : Fld := ⟨0x1050000c, 64, 30, 30⟩
def F.PROOF_FAIL_WINDOW : Fld := ⟨0x1050000c, 64, 27, 24⟩
def F.PROOF_FAIL_LINE : Fld := ⟨0x1050000c, 64, 12, 0⟩
def F.PROOF_SINK_VALID : Fld := ⟨0x10500010, 64, 31, 31⟩
def F.PROOF_SINK_FAILS : Fld := ⟨0x10500010, 64, 23, 16⟩
def F.PROOF_SINK_LAST_FRAME : Fld := ⟨0x10500010, 64, 15, 0⟩
def F.PROOF_CHECKED_LINES : Fld := ⟨0x10500014, 64, 31, 0⟩
def F.PROOF_RSV_STATE : Fld := ⟨0x10500400, 4, 31, 30⟩
def F.PROOF_RSV_OUTPUT : Fld := ⟨0x10500400, 4, 26, 24⟩
def F.PROOF_RSV_QUEUE : Fld := ⟨0x10500400, 4, 23, 16⟩
def F.PROOF_RSV_PASS_US : Fld := ⟨0x10500400, 4, 15, 0⟩
def F.GRV_CTXBASE_LO_ADDR : Fld := ⟨0x10600000, 4, 31, 23⟩
def F.GRV_CTXBASE_HI_ADDR : Fld := ⟨0x10600004, 4, 15, 0⟩
def F.GRV_ENG_STAT_BUSY : Fld := ⟨0x10600100, 4, 31, 31⟩
def F.GRV_ENG_STAT_LOCKED : Fld := ⟨0x10600100, 4, 30, 30⟩
def F.GRV_ENG_STAT_INPLACE : Fld := ⟨0x10600100, 4, 29, 29⟩
def F.GRV_ENG_STAT_ORIGIN : Fld := ⟨0x10600100, 4, 28, 26⟩
def F.GRV_ENG_STAT_OPERATION : Fld := ⟨0x10600100, 4, 25, 22⟩
def F.GRV_ENG_STAT_CLIENT : Fld := ⟨0x10600100, 4, 11, 0⟩
def F.GRV_PIXELS_COUNT : Fld := ⟨0x10600200, 4, 31, 0⟩
def F.TCH_CFG_ENABLE : Fld := ⟨0x10700000, 64, 31, 31⟩
def F.TCH_CFG_SAFETY : Fld := ⟨0x10700000, 64, 30, 30⟩
def F.TCH_CFG_HBLANK : Fld := ⟨0x10700000, 64, 29, 29⟩
def F.TCH_CFG_MIRROR_U : Fld := ⟨0x10700000, 64, 28, 28⟩
def F.TCH_CFG_MIRROR_V : Fld := ⟨0x10700000, 64, 27, 27⟩
def F.TCH_CFG_SWAP : Fld := ⟨0x10700000, 64, 26, 26⟩
def F.TCH_CFG_OUTPUT : Fld := ⟨0x10700000, 64, 23, 16⟩
def F.TCH_CFG_TX_FIRST : Fld := ⟨0x10700000, 64, 15, 8⟩
def F.TCH_CFG_TX_COUNT : Fld := ⟨0x10700000, 64, 7, 0⟩
def F.TCH_RXCFG_RX_FIRST : Fld := ⟨0x10700004, 64, 24, 16⟩
def F.TCH_RXCFG_RX_COUNT : Fld := ⟨0x10700004, 64, 7, 0⟩
def F.TCH_STAT_STATE : Fld := ⟨0x10700008, 64, 31, 29⟩
def F.TCH_STAT_LEVEL : Fld := ⟨0x10700008, 64, 28, 27⟩
def F.TCH_STAT_UNSYNCED : Fld := ⟨0x10700008, 64, 26, 26⟩
def F.TCH_STAT_SPLIT : Fld := ⟨0x10700008, 64, 25, 25⟩
def F.TCH_STAT_OVERFLOW : Fld := ⟨0x10700008, 64, 24, 24⟩
def F.TCH_STAT_CONTACTS : Fld := ⟨0x10700008, 64, 23, 19⟩
def F.TCH_STAT_SCANS : Fld := ⟨0x10700008, 64, 15, 0⟩
def F.TCH_NOISE_WORST_BIN : Fld := ⟨0x1070000c, 64, 31, 24⟩
def F.TCH_NOISE_SKIPPED : Fld := ⟨0x1070000c, 64, 23, 16⟩
def F.TCH_NOISE_HOPS : Fld := ⟨0x1070000c, 64, 15, 0⟩
def F.TCH_TONES_BINS : Fld := ⟨0x10700400, 4, 31, 0⟩
def F.HAP_CFG_ENABLE : Fld := ⟨0x10800000, 64, 31, 31⟩
def F.HAP_CFG_CLAIMED : Fld := ⟨0x10800000, 64, 30, 30⟩
def F.HAP_CFG_STOP_MS : Fld := ⟨0x10800000, 64, 23, 16⟩
def F.HAP_CFG_STALL_PCT : Fld := ⟨0x10800000, 64, 15, 8⟩
def F.HAP_CFG_OPEN_MA : Fld := ⟨0x10800000, 64, 7, 0⟩
def F.HAP_DRIVE_OD_MV : Fld := ⟨0x10800004, 64, 31, 16⟩
def F.HAP_DRIVE_RATED_MV : Fld := ⟨0x10800004, 64, 15, 0⟩
def F.HAP_LIM_RATED_RPM : Fld := ⟨0x10800008, 64, 31, 16⟩
def F.HAP_LIM_ILIM_MA : Fld := ⟨0x10800008, 64, 8, 0⟩
def F.HAP_STAT_STATE : Fld := ⟨0x1080000c, 64, 31, 30⟩
def F.HAP_STAT_FAULT : Fld := ⟨0x1080000c, 64, 29, 28⟩
def F.HAP_STAT_SAFETY : Fld := ⟨0x1080000c, 64, 27, 27⟩
def F.HAP_STAT_REPLACED : Fld := ⟨0x1080000c, 64, 26, 26⟩
def F.HAP_STAT_SAT : Fld := ⟨0x1080000c, 64, 25, 25⟩
def F.HAP_STAT_SIG_VALID : Fld := ⟨0x1080000c, 64, 24, 24⟩
def F.HAP_STAT_EFFECT : Fld := ⟨0x1080000c, 64, 23, 16⟩
def F.HAP_STAT_SEGMENT : Fld := ⟨0x1080000c, 64, 15, 8⟩
def F.HAP_STAT_IGNORED : Fld := ⟨0x1080000c, 64, 7, 0⟩
def F.HAP_SIG_R : Fld := ⟨0x10800010, 64, 31, 16⟩
def F.HAP_SIG_BEMF : Fld := ⟨0x10800010, 64, 15, 0⟩
def F.HAP_MEAS_R : Fld := ⟨0x10800014, 64, 31, 16⟩
def F.HAP_MEAS_BEMF : Fld := ⟨0x10800014, 64, 15, 0⟩
def F.HAP_WEAR_COUNT : Fld := ⟨0x10800018, 64, 31, 0⟩
def F.HAP_STARTS_COUNT : Fld := ⟨0x1080001c, 64, 31, 0⟩
def F.HAP_DRIVE_S_COUNT : Fld := ⟨0x10800020, 64, 31, 0⟩
def F.HAP_TRIG_CFG_ENABLE : Fld := ⟨0x10800400, 4, 31, 31⟩
def F.HAP_TRIG_CFG_SAFETY : Fld := ⟨0x10800400, 4, 30, 30⟩
def F.HAP_TRIG_CFG_EDGE : Fld := ⟨0x10800400, 4, 29, 28⟩
def F.HAP_TRIG_CFG_ACTUATOR : Fld := ⟨0x10800400, 4, 26, 24⟩
def F.HAP_TRIG_CFG_RISE_EFFECT : Fld := ⟨0x10800400, 4, 23, 16⟩
def F.HAP_TRIG_CFG_FALL_EFFECT : Fld := ⟨0x10800400, 4, 15, 8⟩
def F.HAP_VHAP_MV : Fld := ⟨0x10800800, 4, 15, 0⟩
def F.AUD_CTRL_STATE : Fld := ⟨0x10900000, 4, 31, 30⟩
def F.AUD_CTRL_SRAMP : Fld := ⟨0x10900000, 4, 25, 16⟩
def F.AUD_CTRL_RAMP : Fld := ⟨0x10900000, 4, 9, 0⟩
def F.AUD_ALARM_ENABLE : Fld := ⟨0x10900004, 4, 31, 31⟩
def F.AUD_ALARM_DUCK : Fld := ⟨0x10900004, 4, 30, 30⟩
def F.AUD_ALARM_DUCK_DB : Fld := ⟨0x10900004, 4, 29, 24⟩
def F.AUD_ALARM_SLOTS : Fld := ⟨0x10900004, 4, 15, 0⟩
def F.AUD_ALARM_STAT_SOUNDING : Fld := ⟨0x10900008, 4, 31, 31⟩
def F.AUD_ALARM_STAT_SAFE_CAD : Fld := ⟨0x10900008, 4, 30, 30⟩
def F.AUD_ALARM_STAT_MISMATCH : Fld := ⟨0x10900008, 4, 29, 29⟩
def F.AUD_ALARM_STAT_FAIL6 : Fld := ⟨0x10900008, 4, 28, 28⟩
def F.AUD_ALARM_STAT_FAIL7 : Fld := ⟨0x10900008, 4, 27, 27⟩
def F.AUD_ALARM_STAT_MISMATCHES : Fld := ⟨0x10900008, 4, 15, 0⟩
def F.AUD_STAT_NOGEN : Fld := ⟨0x1090000c, 4, 31, 16⟩
def F.AUD_STAT_STREAMS : Fld := ⟨0x1090000c, 4, 15, 8⟩
def F.AUD_STAT_CAPTURES : Fld := ⟨0x1090000c, 4, 7, 0⟩
def F.AUD_PORT_STAT_ENABLED : Fld := ⟨0x10900100, 4, 31, 31⟩
def F.AUD_PORT_STAT_CLOCKED : Fld := ⟨0x10900100, 4, 30, 30⟩
def F.AUD_PORT_STAT_DOMAIN : Fld := ⟨0x10900100, 4, 29, 28⟩
def F.AUD_PORT_STAT_ALARM : Fld := ⟨0x10900100, 4, 27, 27⟩
def F.AUD_PORT_STAT_RATE_HZ : Fld := ⟨0x10900100, 4, 16, 0⟩
def F.ARB_POOL_CFG0_RESTART_LIMIT : Fld := ⟨0x10a00000, 4, 23, 16⟩
def F.ARB_POOL_CFG0_LOCK_MAX_US : Fld := ⟨0x10a00000, 4, 15, 0⟩
def F.ARB_POOL_CFG1_RESTART_LIMIT : Fld := ⟨0x10a00004, 4, 23, 16⟩
def F.ARB_POOL_CFG1_LOCK_MAX_US : Fld := ⟨0x10a00004, 4, 15, 0⟩
def F.ARB_POOL_CFG2_RESTART_LIMIT : Fld := ⟨0x10a00008, 4, 23, 16⟩
def F.ARB_POOL_CFG2_LOCK_MAX_US : Fld := ⟨0x10a00008, 4, 15, 0⟩
def F.ARB_POOL_CFG3_RESTART_LIMIT : Fld := ⟨0x10a0000c, 4, 23, 16⟩
def F.ARB_POOL_CFG3_LOCK_MAX_US : Fld := ⟨0x10a0000c, 4, 15, 0⟩
def F.ARB_POOL_STAT_BUSY : Fld := ⟨0x10a00010, 4, 31, 24⟩
def F.ARB_POOL_STAT_LOCKED : Fld := ⟨0x10a00010, 4, 23, 16⟩
def F.ARB_POOL_STAT_QUEUED : Fld := ⟨0x10a00010, 4, 15, 10⟩
def F.ARB_POOL_STAT_HELD : Fld := ⟨0x10a00010, 4, 9, 0⟩
def F.ARB_UNIT_VALID : Fld := ⟨0x10a00100, 4, 31, 31⟩
def F.ARB_UNIT_LOCKED : Fld := ⟨0x10a00100, 4, 30, 30⟩
def F.ARB_UNIT_SHIELDED : Fld := ⟨0x10a00100, 4, 29, 29⟩
def F.ARB_UNIT_WORLD : Fld := ⟨0x10a00100, 4, 28, 28⟩
def F.ARB_UNIT_ORIGIN : Fld := ⟨0x10a00100, 4, 27, 26⟩
def F.ARB_UNIT_RANK : Fld := ⟨0x10a00100, 4, 25, 24⟩
def F.ARB_UNIT_CLIENT : Fld := ⟨0x10a00100, 4, 11, 0⟩
def F.ARB_TAKE_COUNT : Fld := ⟨0x10a00200, 4, 31, 0⟩
def F.ARB_OVERRUN_VALID : Fld := ⟨0x10a00210, 4, 31, 31⟩
def F.ARB_OVERRUN_COUNT : Fld := ⟨0x10a00210, 4, 15, 0⟩
def F.MC_CFG_FENCED : Fld := ⟨0x10b00000, 4, 31, 28⟩
def F.MC_CFG_RATE : Fld := ⟨0x10b00000, 4, 27, 26⟩
def F.MC_CFG_RANKS : Fld := ⟨0x10b00000, 4, 25, 25⟩
def F.MC_CFG_DENSITY : Fld := ⟨0x10b00000, 4, 24, 24⟩
def F.MC_CFG_USABLE : Fld := ⟨0x10b00000, 4, 7, 0⟩
def F.MC_AGE_ISO_LIMIT : Fld := ⟨0x10b00004, 4, 23, 16⟩
def F.MC_AGE_RT_LIMIT : Fld := ⟨0x10b00004, 4, 15, 8⟩
def F.MC_AGE_BE_LIMIT : Fld := ⟨0x10b00004, 4, 7, 0⟩
def F.MC_FREEZE_LIMIT : Fld := ⟨0x10b00008, 4, 9, 0⟩
def F.MC_RD_THRESHOLD : Fld := ⟨0x10b0000c, 4, 31, 16⟩
def F.MC_RD_THROTTLE_US : Fld := ⟨0x10b0000c, 4, 15, 8⟩
def F.MC_CE_TH_COUNT : Fld := ⟨0x10b00010, 4, 15, 0⟩
def F.MC_THAW_ACTION : Fld := ⟨0x10b00014, 4, 7, 4⟩
def F.MC_THAW_CHANNEL : Fld := ⟨0x10b00014, 4, 3, 0⟩
def F.MC_INKF_VALID : Fld := ⟨0x10b00020, 4, 31, 31⟩
def F.MC_INKF_OVERFLOW : Fld := ⟨0x10b00020, 4, 30, 30⟩
def F.MC_INKF_STORED : Fld := ⟨0x10b00020, 4, 29, 27⟩
def F.MC_INKF_CARRIED : Fld := ⟨0x10b00020, 4, 26, 24⟩
def F.MC_INKF_WORLD : Fld := ⟨0x10b00020, 4, 23, 23⟩
def F.MC_INKF_ORIGIN : Fld := ⟨0x10b00020, 4, 22, 21⟩
def F.MC_INKF_WRITE : Fld := ⟨0x10b00020, 4, 20, 20⟩
def F.MC_INKF_CHANNEL : Fld := ⟨0x10b00020, 4, 19, 16⟩
def F.MC_INKF_CLIENT : Fld := ⟨0x10b00020, 4, 11, 0⟩
def F.MC_RD_STAT_VALID : Fld := ⟨0x10b00030, 4, 31, 31⟩
def F.MC_RD_STAT_OVERFLOW : Fld := ⟨0x10b00030, 4, 30, 30⟩
def F.MC_RD_STAT_RANK : Fld := ⟨0x10b00030, 4, 29, 29⟩
def F.MC_RD_STAT_BANK : Fld := ⟨0x10b00030, 4, 28, 25⟩
def F.MC_RD_STAT_CHANNEL : Fld := ⟨0x10b00030, 4, 24, 21⟩
def F.MC_RD_STAT_ORIGIN : Fld := ⟨0x10b00030, 4, 20, 19⟩
def F.MC_RD_STAT_CLIENT : Fld := ⟨0x10b00030, 4, 11, 0⟩
def F.MC_INKF_ADDR_LO_ADDR : Fld := ⟨0x10b00024, 4, 31, 0⟩
def F.MC_INKF_ADDR_HI_ADDR : Fld := ⟨0x10b00028, 4, 15, 0⟩
def F.MC_SLOT_CFG_PENDING : Fld := ⟨0x10b00100, 4, 31, 31⟩
def F.MC_SLOT_CFG_OVER : Fld := ⟨0x10b00100, 4, 30, 30⟩
def F.MC_SLOT_CFG_SAFE_SLOTS : Fld := ⟨0x10b00100, 4, 28, 24⟩
def F.MC_SLOT_CFG_ISO_RSV : Fld := ⟨0x10b00100, 4, 21, 16⟩
def F.MC_SLOT_CFG_ISO_DISP : Fld := ⟨0x10b00100, 4, 13, 8⟩
def F.MC_CH_STAT_STATE : Fld := ⟨0x10b00200, 4, 31, 30⟩
def F.MC_CH_STAT_REFRESH : Fld := ⟨0x10b00200, 4, 29, 28⟩
def F.MC_CH_STAT_OWED : Fld := ⟨0x10b00200, 4, 27, 24⟩
def F.MC_CH_STAT_INFLIGHT : Fld := ⟨0x10b00200, 4, 22, 16⟩
def F.MC_CH_STAT_FREEZES : Fld := ⟨0x10b00200, 4, 15, 0⟩
def F.MC_CE_DATA_DATA : Fld := ⟨0x10b00240, 4, 31, 0⟩
def F.MC_CE_META_CHECK : Fld := ⟨0x10b00280, 4, 31, 16⟩
def F.MC_CE_META_TAG : Fld := ⟨0x10b00280, 4, 15, 0⟩
def F.MC_FRZ_STAT_VALID : Fld := ⟨0x10b00300, 16, 31, 31⟩
def F.MC_FRZ_STAT_CAUSE : Fld := ⟨0x10b00300, 16, 30, 28⟩
def F.MC_FRZ_STAT_SELF : Fld := ⟨0x10b00300, 16, 27, 27⟩
def F.MC_FRZ_STAT_ACTION : Fld := ⟨0x10b00300, 16, 26, 24⟩
def F.MC_FRZ_STAT_MR : Fld := ⟨0x10b00300, 16, 23, 16⟩
def F.MC_FRZ_STAT_ELAPSED_US : Fld := ⟨0x10b00300, 16, 15, 0⟩
def F.MC_FRZ_ADDR_LO_ADDR : Fld := ⟨0x10b00304, 16, 31, 0⟩
def F.MC_FRZ_ADDR_HI_ADDR : Fld := ⟨0x10b00308, 16, 15, 0⟩
def F.MC_FRZ_SYND_S2 : Fld := ⟨0x10b0030c, 16, 31, 24⟩
def F.MC_FRZ_SYND_S1 : Fld := ⟨0x10b0030c, 16, 23, 16⟩
def F.MC_FRZ_SYND_S0 : Fld := ⟨0x10b0030c, 16, 15, 8⟩
def F.MC_MIRROR_STATE : Fld := ⟨0x10b00400, 4, 31, 30⟩
def F.MC_MIRROR_PRIMARY : Fld := ⟨0x10b00400, 4, 29, 28⟩
def F.MC_MIRROR_SECONDARY : Fld := ⟨0x10b00400, 4, 27, 26⟩
def F.MC_MIRROR_SERVING : Fld := ⟨0x10b00400, 4, 25, 25⟩
def F.MC_MIRROR_REPAIRS : Fld := ⟨0x10b00400, 4, 15, 0⟩
def F.HALL_STAT_BUSY : Fld := ⟨0x10c00000, 4, 31, 31⟩
def F.HALL_STAT_LOCKED : Fld := ⟨0x10c00000, 4, 30, 30⟩
def F.HALL_STAT_MODE : Fld := ⟨0x10c00000, 4, 29, 28⟩
def F.HALL_STAT_WORLD : Fld := ⟨0x10c00000, 4, 27, 27⟩
def F.HALL_STAT_ORIGIN : Fld := ⟨0x10c00000, 4, 26, 25⟩
def F.HALL_STAT_WIDTH : Fld := ⟨0x10c00000, 4, 24, 19⟩
def F.HALL_STAT_CLIENT : Fld := ⟨0x10c00000, 4, 11, 0⟩
def F.HALL_BYTES_COUNT : Fld := ⟨0x10c00040, 4, 31, 0⟩
def F.HALL_FAILS_COUNT : Fld := ⟨0x10c00080, 4, 31, 0⟩
def F.FOL_CFG_BASE : Fld := ⟨0x10d00000, 4, 31, 16⟩
def F.FOL_CFG_SIZE : Fld := ⟨0x10d00000, 4, 15, 0⟩
def F.FOL_STAT_STATE : Fld := ⟨0x10d00004, 4, 31, 29⟩
def F.FOL_STAT_ACTIVE : Fld := ⟨0x10d00004, 4, 28, 28⟩
def F.FOL_STAT_COMPACTING : Fld := ⟨0x10d00004, 4, 27, 27⟩
def F.FOL_STAT_PF_DONE : Fld := ⟨0x10d00004, 4, 26, 26⟩
def F.FOL_STAT_BADCRC : Fld := ⟨0x10d00004, 4, 15, 0⟩
def F.TTH_PORT_STAT_UP : Fld := ⟨0x10e00000, 4, 31, 31⟩
def F.TTH_PORT_STAT_MODE : Fld := ⟨0x10e00000, 4, 30, 29⟩
def F.TTH_PORT_STAT_FEC : Fld := ⟨0x10e00000, 4, 28, 27⟩
def F.TTH_PORT_STAT_GM_PORT : Fld := ⟨0x10e00000, 4, 26, 26⟩
def F.TTH_TIME_STAT_SYNC : Fld := ⟨0x10e00010, 4, 31, 31⟩
def F.TTH_TIME_STAT_GM : Fld := ⟨0x10e00010, 4, 30, 30⟩
def F.TTH_TIME_STAT_OFFSET : Fld := ⟨0x10e00010, 4, 23, 0⟩
def F.TTH_GROUP_VALID : Fld := ⟨0x10e00020, 4, 31, 31⟩
def F.TTH_GROUP_ALARM_EN : Fld := ⟨0x10e00020, 4, 30, 30⟩
def F.TTH_GROUP_MEMBER : Fld := ⟨0x10e00020, 4, 25, 16⟩
def F.TTH_GROUP_ETYPE : Fld := ⟨0x10e00020, 4, 15, 0⟩
def F.TTH_GROUP_STAT_REFUSED : Fld := ⟨0x10e00024, 4, 31, 16⟩
def F.TTH_GROUP_STAT_PRESENT : Fld := ⟨0x10e00024, 4, 10, 0⟩
def F.TTH_MEMBER_STATE : Fld := ⟨0x10e00400, 4, 31, 0⟩
def F.PWR_STATE_STATE : Fld := ⟨0x10f00000, 4, 31, 29⟩
def F.PWR_STATE_WAKE_CAUSE : Fld := ⟨0x10f00000, 4, 23, 16⟩
def F.PWR_STATE_HELD : Fld := ⟨0x10f00000, 4, 5, 0⟩
def F.PWR_WAKE_PANEL_EN : Fld := ⟨0x10f00004, 4, 31, 31⟩
def F.PWR_WAKE_PANEL : Fld := ⟨0x10f00004, 4, 30, 28⟩
def F.PWR_WAKE_RTC_EN : Fld := ⟨0x10f00004, 4, 27, 27⟩
def F.PWR_WAKE_GPIO : Fld := ⟨0x10f00004, 4, 7, 0⟩
def F.PWR_RESUME_LO_ADDR : Fld := ⟨0x10f00008, 4, 31, 2⟩
def F.PWR_RESUME_HI_ADDR : Fld := ⟨0x10f0000c, 4, 15, 0⟩
def F.PWR_AVS_ENABLE : Fld := ⟨0x10f00010, 4, 31, 31⟩
def F.PWR_AVS_MARGIN_MV : Fld := ⟨0x10f00010, 4, 23, 16⟩
def F.PWR_AVS_VOUT_MV : Fld := ⟨0x10f00010, 4, 15, 0⟩
def F.PWR_RAIL_VALID : Fld := ⟨0x10f00100, 4, 31, 31⟩
def F.PWR_RAIL_SLEEP_OFF : Fld := ⟨0x10f00100, 4, 30, 30⟩
def F.PWR_RAIL_AVS : Fld := ⟨0x10f00100, 4, 29, 29⟩
def F.PWR_RAIL_ORDER : Fld := ⟨0x10f00100, 4, 28, 24⟩
def F.PWR_RAIL_DELAY_MS : Fld := ⟨0x10f00100, 4, 23, 16⟩
def F.PWR_RAIL_PAGE : Fld := ⟨0x10f00100, 4, 15, 8⟩
def F.PWR_RAIL_ADDR : Fld := ⟨0x10f00100, 4, 6, 0⟩
def F.PWR_SCLAIM0_D : Fld := ⟨0x10f00200, 4, 31, 0⟩
def F.PWR_SCLAIM1_D : Fld := ⟨0x10f00204, 4, 13, 0⟩
def F.PWR_SPOLICY0_D : Fld := ⟨0x10f00208, 4, 31, 0⟩
def F.PWR_SPOLICY1_D : Fld := ⟨0x10f0020c, 4, 13, 0⟩
def F.PWR_SREADY0_D : Fld := ⟨0x10f00210, 4, 31, 0⟩
def F.PWR_SREADY1_D : Fld := ⟨0x10f00214, 4, 13, 0⟩
def F.PWR_CLAIMED0_D : Fld := ⟨0x10f00218, 4, 31, 0⟩
def F.PWR_CLAIMED1_D : Fld := ⟨0x10f0021c, 4, 13, 0⟩
def F.AON_RTC_SECONDS : Fld := ⟨0x11000000, 4, 31, 0⟩
def F.AON_STAT_RTC_VALID : Fld := ⟨0x11000004, 4, 31, 31⟩
def F.AON_STAT_VBAT_LOST : Fld := ⟨0x11000004, 4, 30, 30⟩
def F.AON_STAT_SEAL_BAD : Fld := ⟨0x11000004, 4, 29, 29⟩
def F.AON_STAT_CASE_OPEN : Fld := ⟨0x11000004, 4, 28, 28⟩
def F.AON_BOOTS_COUNT : Fld := ⟨0x11000008, 4, 31, 0⟩
def F.AON_ALARM_SECONDS : Fld := ⟨0x1100000c, 4, 31, 0⟩
def F.AON_CASE_TIME_SECONDS : Fld := ⟨0x11000014, 4, 31, 0⟩
def F.AON_CASE_COUNT : Fld := ⟨0x11000010, 4, 31, 16⟩
def F.AON_BACKED_VALUE : Fld := ⟨0x11000040, 4, 31, 0⟩
def F.RUB_CFG_AUTO_MS : Fld := ⟨0x11100000, 4, 31, 16⟩
def F.RUB_CFG_IN_EN : Fld := ⟨0x11100000, 4, 3, 3⟩
def F.RUB_CFG_IN_EDGE : Fld := ⟨0x11100000, 4, 2, 2⟩
def F.RUB_CFG_GROUP_EN : Fld := ⟨0x11100000, 4, 1, 1⟩
def F.RUB_CFG_OUT_EN : Fld := ⟨0x11100000, 4, 0, 0⟩
def F.RUB_STAT_HELD : Fld := ⟨0x11100004, 4, 31, 31⟩
def F.RUB_STAT_LATE : Fld := ⟨0x11100004, 4, 30, 30⟩
def F.RUB_STAT_SOURCES : Fld := ⟨0x11100004, 4, 23, 16⟩
def F.RUB_STAT_SEQ : Fld := ⟨0x11100004, 4, 15, 0⟩
def F.RUB_MISS_FIRST : Fld := ⟨0x11100008, 4, 31, 24⟩
def F.RUB_MISS_COUNT : Fld := ⟨0x11100008, 4, 15, 0⟩
def F.RUB_TIME_LO_TIME : Fld := ⟨0x1110000c, 4, 31, 0⟩
def F.RUB_TIME_HI_TIME : Fld := ⟨0x11100010, 4, 31, 0⟩
def F.LSIO_SOWN_PORT : Fld := ⟨0x113ff000, 4, 13, 0⟩
def F.LSIO_SGPIO_PIN : Fld := ⟨0x113ff004, 4, 31, 0⟩
def F.LSIO_CTRL_ENABLE : Fld := ⟨0x11300000, 4096, 31, 31⟩
def F.LSIO_CTRL_LOOPBACK : Fld := ⟨0x11300000, 4096, 30, 30⟩
def F.LSIO_CTRL_RX_TH : Fld := ⟨0x11300000, 4096, 13, 8⟩
def F.LSIO_STAT_BUSY : Fld := ⟨0x11300004, 4096, 31, 31⟩
def F.LSIO_STAT_STATE : Fld := ⟨0x11300004, 4096, 30, 29⟩
def F.LSIO_STAT_TX_FREE : Fld := ⟨0x11300004, 4096, 22, 16⟩
def F.LSIO_STAT_RX_COUNT : Fld := ⟨0x11300004, 4096, 14, 8⟩
def F.LSIO_INT_EN_STATE_CHANGE : Fld := ⟨0x11300008, 4096, 5, 5⟩
def F.LSIO_INT_EN_RX_OVERRUN : Fld := ⟨0x11300008, 4096, 4, 4⟩
def F.LSIO_INT_EN_ERROR : Fld := ⟨0x11300008, 4096, 3, 3⟩
def F.LSIO_INT_EN_DONE : Fld := ⟨0x11300008, 4096, 2, 2⟩
def F.LSIO_INT_EN_TX_EMPTY : Fld := ⟨0x11300008, 4096, 1, 1⟩
def F.LSIO_INT_EN_RX_READY : Fld := ⟨0x11300008, 4096, 0, 0⟩
def F.LSIO_INT_STAT_STATE_CHANGE : Fld := ⟨0x1130000c, 4096, 5, 5⟩
def F.LSIO_INT_STAT_RX_OVERRUN : Fld := ⟨0x1130000c, 4096, 4, 4⟩
def F.LSIO_INT_STAT_ERROR : Fld := ⟨0x1130000c, 4096, 3, 3⟩
def F.LSIO_INT_STAT_DONE : Fld := ⟨0x1130000c, 4096, 2, 2⟩
def F.LSIO_INT_STAT_TX_EMPTY : Fld := ⟨0x1130000c, 4096, 1, 1⟩
def F.LSIO_INT_STAT_RX_READY : Fld := ⟨0x1130000c, 4096, 0, 0⟩
def F.LSIO_TX_PUSH_ENTRY : Fld := ⟨0x11300010, 4096, 31, 0⟩
def F.LSIO_RX_POP_ENTRY : Fld := ⟨0x11300014, 4096, 31, 0⟩
def F.LSIO_RX_HEAD_ENTRY : Fld := ⟨0x11300018, 4096, 31, 0⟩
def F.LSIO_CFG_CFG : Fld := ⟨0x1130001c, 4096, 31, 0⟩
def F.LSIO_DCFG_DCFG : Fld := ⟨0x1130c020, 4096, 31, 13⟩
def F.LSIO_ERRCNT_TEC : Fld := ⟨0x1130c024, 4096, 15, 8⟩
def F.LSIO_ERRCNT_REC : Fld := ⟨0x1130c024, 4096, 7, 0⟩
def F.LSIO_CANF_ID0_ENABLE : Fld := ⟨0x1130c100, 8, 31, 31⟩
def F.LSIO_CANF_ID0_IDE : Fld := ⟨0x1130c100, 8, 29, 29⟩
def F.LSIO_CANF_ID0_ID : Fld := ⟨0x1130c100, 8, 28, 0⟩
def F.LSIO_CANF_MASK0_MASK : Fld := ⟨0x1130c104, 8, 28, 0⟩
def F.LSIO_CANF_ID1_ENABLE : Fld := ⟨0x1130d100, 8, 31, 31⟩
def F.LSIO_CANF_ID1_IDE : Fld := ⟨0x1130d100, 8, 29, 29⟩
def F.LSIO_CANF_ID1_ID : Fld := ⟨0x1130d100, 8, 28, 0⟩
def F.LSIO_CANF_MASK1_MASK : Fld := ⟨0x1130d104, 8, 28, 0⟩
def F.LSIO_GPIO_IN_PIN : Fld := ⟨0x11310000, 4, 31, 0⟩
def F.LSIO_GPIO_OUT_PIN : Fld := ⟨0x11310010, 4, 31, 0⟩
def F.LSIO_GPIO_OE_PIN : Fld := ⟨0x11310020, 4, 31, 0⟩
def F.LSIO_GPIO_IRQ_PIN : Fld := ⟨0x11310030, 4, 31, 0⟩
def F.LSIO_GPIO_EDGE_PIN : Fld := ⟨0x11310040, 4, 31, 0⟩

/-- Registers of the window at 0x10000000, part 0. -/
def regWindow0p0 : List RegDesc := [
  ⟨0x10000000, 4, 1, .all, .all, [⟨31,24,.ro,84⟩,⟨23,16,.ro,87⟩,⟨15,8,.ro,8⟩,⟨7,4,.ro,1⟩,⟨3,0,.ro,0⟩]⟩,
  ⟨0x10000010, 4, 1, .ms, .ms, [⟨31,31,.w1c,0⟩,⟨30,30,.w1c,0⟩,⟨29,27,.ro,0⟩,⟨26,26,.ro,0⟩,⟨25,24,.ro,0⟩,⟨23,13,.ro,0⟩,⟨12,12,.ro,0⟩,⟨11,0,.ro,0⟩]⟩,
  ⟨0x10000014, 4, 1, .ms, .ms, [⟨31,0,.ro,0⟩]⟩,
  ⟨0x10000018, 4, 1, .ms, .ms, [⟨31,16,.ro,0⟩,⟨15,0,.ro,0⟩]⟩,
  ⟨0x10000100, 4, 1, .all, .all, [⟨31,8,.ro,0⟩,⟨7,4,.rws,8⟩,⟨3,1,.ro,0⟩,⟨0,0,.rws,1⟩]⟩,
  ⟨0x10000104, 4, 1, .s, .all, [⟨31,31,.ro,0⟩,⟨30,30,.ro,0⟩,⟨29,29,.w1c,0⟩,⟨28,16,.ro,0⟩,⟨15,0,.ro,0⟩]⟩,
  ⟨0x10000180, 4, 1, .all, .all, [⟨31,8,.ro,0⟩,⟨7,7,.ro,0⟩,⟨6,6,.ro,0⟩,⟨5,5,.ro,0⟩,⟨4,4,.ro,0⟩,⟨3,3,.rws,0⟩,⟨2,2,.rws,0⟩,⟨1,1,.rws,0⟩,⟨0,0,.rws,0⟩]⟩,
  ⟨0x10000200, 4, 8, .all, .all, [⟨31,31,.rws,0⟩,⟨30,12,.ro,0⟩,⟨11,0,.rws,0⟩]⟩,
  ⟨0x10000300, 8, 16, .all, .all, [⟨31,0,.rwm,4294967295⟩]⟩,
  ⟨0x10000304, 8, 16, .all, .all, [⟨31,0,.rwm,0⟩]⟩,
  ⟨0x10000380, 4, 1, .all, .all, [⟨31,16,.ro,0⟩,⟨15,0,.rws,0⟩]⟩,
  ⟨0x10000400, 4, 16, .all, .all, [⟨31,16,.ro,0⟩,⟨15,0,.ro,0⟩]⟩,
  ⟨0x10000480, 4, 1, .ms, .all, [⟨31,30,.ro,0⟩,⟨29,29,.ro,0⟩,⟨28,28,.ro,0⟩,⟨27,27,.ro,0⟩,⟨26,26,.ro,0⟩,⟨25,25,.ro,0⟩,⟨24,24,.ro,0⟩,⟨23,23,.ro,0⟩,⟨22,16,.ro,0⟩,⟨15,12,.ro,0⟩,⟨11,0,.ro,0⟩]⟩,
  ⟨0x10000484, 4, 1, .ms, .all, [⟨31,0,.ro,0⟩]⟩,
  ⟨0x10000500, 4, 1, .ms, .s, [⟨31,31,.ro,0⟩,⟨30,30,.ro,1⟩,⟨29,24,.ro,0⟩,⟨23,20,.ro,0⟩,⟨19,16,.ro,0⟩,⟨15,1,.ro,0⟩,⟨0,0,.ro,0⟩]⟩,
  ⟨0x10000504, 4, 1, .ms, .s, [⟨31,28,.ro,0⟩,⟨27,16,.ro,0⟩,⟨15,0,.ro,0⟩]⟩,
  ⟨0x10000508, 4, 1, .ms, .s, [⟨31,0,.ro,0⟩]⟩,
  ⟨0x1000050c, 4, 1, .ms, .s, [⟨31,0,.ro,0⟩]⟩,
  ⟨0x10000510, 4, 1, .ms, .s, [⟨31,31,.rws,0⟩,⟨30,30,.wo,0⟩,⟨29,16,.ro,0⟩,⟨15,0,.rws,100⟩]⟩,
  ⟨0x10010000, 4, 16384, .all, .all, [⟨31,31,.rwm,0⟩,⟨30,12,.ro,0⟩,⟨11,0,.rwm,0⟩]⟩]

/-- Registers of the window at 0x10000000, part 1. -/
def regWindow0p1 : List RegDesc := [
  ⟨0x10020000, 4, 512, .all, .all, [⟨31,28,.rwm,0⟩,⟨27,24,.rwm,0⟩,⟨23,20,.rwm,0⟩,⟨19,16,.rwm,0⟩,⟨15,12,.rwm,0⟩,⟨11,8,.rwm,0⟩,⟨7,4,.rwm,0⟩,⟨3,0,.rwm,0⟩]⟩]

/-- Registers of the window at 0x10100000, part 0. -/
def regWindow1p0 : List RegDesc := [
  ⟨0x10100000, 4, 16, .all, .all, [⟨31,0,.rws,0⟩]⟩,
  ⟨0x10100100, 4, 64, .all, .all, [⟨31,28,.rws,0⟩,⟨27,24,.rws,0⟩,⟨23,20,.rws,0⟩,⟨19,16,.rws,0⟩,⟨15,12,.rws,0⟩,⟨11,8,.rws,0⟩,⟨7,4,.rws,0⟩,⟨3,0,.rws,0⟩]⟩,
  ⟨0x10100300, 4, 1, .s, .s, [⟨31,31,.ro,0⟩,⟨30,16,.ro,0⟩,⟨15,12,.ro,0⟩,⟨11,9,.ro,0⟩,⟨8,0,.ro,0⟩]⟩,
  ⟨0x10100304, 4, 1, .s, .s, [⟨31,9,.wo,0⟩,⟨8,0,.wo,0⟩]⟩,
  ⟨0x10100400, 4, 16, .all, .all, [⟨31,31,.rwm,0⟩,⟨30,12,.ro,0⟩,⟨11,0,.rwm,0⟩]⟩,
  ⟨0x10100800, 4, 16, .s, .s, [⟨31,31,.rws,0⟩,⟨30,30,.wo,0⟩,⟨29,29,.wo,0⟩,⟨28,25,.ro,0⟩,⟨24,16,.rws,0⟩,⟨15,0,.rws,0⟩]⟩,
  ⟨0x10100c00, 4, 16, .s, .s, [⟨31,16,.ro,0⟩,⟨15,9,.ro,0⟩,⟨8,0,.ro,0⟩]⟩,
  ⟨0x10110200, 4096, 16, .mbx, .mbx, [⟨31,16,.wo,0⟩,⟨15,9,.wo,0⟩,⟨8,0,.wo,0⟩]⟩,
  ⟨0x10110204, 4096, 16, .mbx, .mbx, [⟨31,31,.ro,0⟩,⟨30,30,.w1c,0⟩,⟨29,29,.w1c,0⟩,⟨28,28,.ro,0⟩,⟨27,27,.ro,0⟩,⟨26,25,.ro,0⟩,⟨24,16,.ro,0⟩,⟨15,0,.ro,0⟩]⟩]

/-- Registers of the window at 0x10200000, part 0. -/
def regWindow2p0 : List RegDesc := [
  ⟨0x10200000, 4, 1, .ms, .all, [⟨31,19,.rwm,0⟩,⟨18,0,.ro,0⟩]⟩,
  ⟨0x10200004, 4, 1, .ms, .all, [⟨31,16,.ro,0⟩,⟨15,0,.rwm,0⟩]⟩,
  ⟨0x10200100, 64, 1, .s, .s, [⟨31,31,.rws,0⟩,⟨30,27,.rws,4⟩,⟨26,22,.rws,4⟩,⟨21,17,.rws,6⟩,⟨16,16,.ro,0⟩,⟨15,0,.rws,0⟩]⟩,
  ⟨0x10200104, 64, 1, .s, .s, [⟨31,12,.rws,0⟩,⟨11,0,.ro,0⟩]⟩,
  ⟨0x10200108, 64, 1, .s, .s, [⟨31,16,.ro,0⟩,⟨15,0,.rws,0⟩]⟩,
  ⟨0x1020010c, 64, 1, .s, .s, [⟨31,12,.rws,0⟩,⟨11,0,.ro,0⟩]⟩,
  ⟨0x10200110, 64, 1, .s, .s, [⟨31,16,.ro,0⟩,⟨15,0,.rws,0⟩]⟩,
  ⟨0x10200114, 64, 1, .s, .s, [⟨31,12,.rws,0⟩,⟨11,0,.ro,0⟩]⟩,
  ⟨0x10200118, 64, 1, .s, .s, [⟨31,16,.ro,0⟩,⟨15,0,.rws,0⟩]⟩,
  ⟨0x10200140, 64, 1, .ms, .ms, [⟨31,31,.rwm,0⟩,⟨30,27,.rwm,4⟩,⟨26,22,.rwm,4⟩,⟨21,17,.rwm,6⟩,⟨16,16,.ro,0⟩,⟨15,0,.rwm,0⟩]⟩,
  ⟨0x10200144, 64, 1, .ms, .ms, [⟨31,12,.rwm,0⟩,⟨11,0,.ro,0⟩]⟩,
  ⟨0x10200148, 64, 1, .ms, .ms, [⟨31,16,.ro,0⟩,⟨15,0,.rwm,0⟩]⟩,
  ⟨0x1020014c, 64, 1, .ms, .ms, [⟨31,12,.rwm,0⟩,⟨11,0,.ro,0⟩]⟩,
  ⟨0x10200150, 64, 1, .ms, .ms, [⟨31,16,.ro,0⟩,⟨15,0,.rwm,0⟩]⟩,
  ⟨0x10200154, 64, 1, .ms, .ms, [⟨31,12,.rwm,0⟩,⟨11,0,.ro,0⟩]⟩,
  ⟨0x10200158, 64, 1, .ms, .ms, [⟨31,16,.ro,0⟩,⟨15,0,.rwm,0⟩]⟩]

/-- Registers of the window at 0x10300000, part 0. -/
def regWindow3p0 : List RegDesc := [
  ⟨0x10380000, 256, 8, .ms, .ms, [⟨31,31,.wo,0⟩,⟨30,28,.ro,0⟩,⟨27,24,.rwm,0⟩,⟨23,22,.rwm,2⟩,⟨21,21,.rwm,0⟩,⟨20,20,.rwm,0⟩,⟨19,19,.rwm,0⟩,⟨18,18,.rwm,0⟩,⟨17,12,.ro,0⟩,⟨11,8,.rwm,0⟩,⟨7,7,.rwm,0⟩,⟨6,0,.ro,0⟩]⟩,
  ⟨0x10380004, 256, 8, .ms, .ms, [⟨31,31,.ro,0⟩,⟨30,30,.ro,0⟩,⟨29,29,.w1c,0⟩,⟨28,28,.w1c,0⟩,⟨27,24,.ro,0⟩,⟨23,22,.ro,0⟩,⟨21,16,.ro,0⟩,⟨15,8,.ro,0⟩,⟨7,0,.ro,0⟩]⟩,
  ⟨0x10300000, 256, 8, .ms, .ms, [⟨31,31,.rwm,0⟩,⟨30,30,.ro,0⟩,⟨29,29,.ro,0⟩,⟨28,2,.ro,0⟩,⟨1,1,.rwm,1⟩,⟨0,0,.rwm,1⟩]⟩,
  ⟨0x10300004, 256, 8, .ms, .ms, [⟨31,16,.rwm,88⟩,⟨15,0,.rwm,1920⟩]⟩,
  ⟨0x10300008, 256, 8, .ms, .ms, [⟨31,16,.rwm,148⟩,⟨15,0,.rwm,44⟩]⟩,
  ⟨0x1030000c, 256, 8, .ms, .ms, [⟨31,16,.rwm,4⟩,⟨15,0,.rwm,1080⟩]⟩,
  ⟨0x10300010, 256, 8, .ms, .ms, [⟨31,16,.rwm,36⟩,⟨15,0,.rwm,5⟩]⟩,
  ⟨0x10300014, 256, 8, .ms, .ms, [⟨31,24,.ro,0⟩,⟨23,0,.rwm,825⟩]⟩,
  ⟨0x10300018, 256, 8, .ms, .ms, [⟨31,24,.ro,0⟩,⟨23,0,.rwm,26624⟩]⟩,
  ⟨0x1030001c, 256, 8, .ms, .ms, [⟨31,30,.ro,0⟩,⟨29,20,.rwm,0⟩,⟨19,10,.rwm,0⟩,⟨9,0,.rwm,0⟩]⟩,
  ⟨0x10300020, 256, 8, .ms, .ms, [⟨31,31,.rwm,0⟩,⟨30,14,.ro,0⟩,⟨13,0,.rwm,16383⟩]⟩,
  ⟨0x10300024, 256, 8, .ms, .ms, [⟨31,31,.rwm,0⟩,⟨30,24,.ro,0⟩,⟨23,16,.rwm,3⟩,⟨15,8,.rwm,0⟩,⟨7,0,.rwm,10⟩]⟩,
  ⟨0x10300028, 256, 8, .ms, .ms, [⟨31,31,.ro,0⟩,⟨30,30,.ro,0⟩,⟨29,16,.ro,0⟩,⟨15,0,.ro,0⟩]⟩,
  ⟨0x1030002c, 256, 8, .ms, .ms, [⟨31,0,.ro,0⟩]⟩,
  ⟨0x10341000, 64, 64, .ms, .ms, [⟨31,31,.rwm,0⟩,⟨30,30,.rwm,0⟩,⟨29,29,.rwm,0⟩,⟨28,27,.rwm,0⟩,⟨26,26,.rwm,0⟩,⟨25,25,.rwm,0⟩,⟨24,24,.ro,0⟩,⟨23,16,.rwm,255⟩,⟨15,12,.rwm,0⟩,⟨11,8,.ro,0⟩,⟨7,4,.ro,0⟩,⟨3,0,.ro,15⟩]⟩,
  ⟨0x10341004, 64, 64, .ms, .ms, [⟨31,31,.ro,0⟩,⟨30,12,.ro,0⟩,⟨11,0,.ro,0⟩]⟩,
  ⟨0x10341008, 64, 64, .ms, .ms, [⟨31,6,.rwm,0⟩,⟨5,0,.ro,0⟩]⟩,
  ⟨0x1034100c, 64, 64, .ms, .ms, [⟨31,16,.ro,0⟩,⟨15,0,.rwm,0⟩]⟩,
  ⟨0x10341010, 64, 64, .ms, .ms, [⟨31,6,.rwm,0⟩,⟨5,0,.ro,0⟩]⟩,
  ⟨0x10341014, 64, 64, .ms, .ms, [⟨31,16,.ro,0⟩,⟨15,0,.rwm,0⟩]⟩]

/-- Registers of the window at 0x10300000, part 1. -/
def regWindow3p1 : List RegDesc := [
  ⟨0x10341018, 64, 64, .ms, .ms, [⟨31,16,.ro,0⟩,⟨15,0,.rwm,0⟩]⟩,
  ⟨0x1034101c, 64, 64, .ms, .ms, [⟨31,16,.rwm,0⟩,⟨15,0,.rwm,0⟩]⟩,
  ⟨0x10341020, 64, 64, .ms, .ms, [⟨31,16,.rwm,0⟩,⟨15,0,.rwm,0⟩]⟩,
  ⟨0x10341024, 64, 64, .ms, .ms, [⟨31,16,.rwm,0⟩,⟨15,0,.rwm,0⟩]⟩,
  ⟨0x10341028, 64, 64, .ms, .ms, [⟨31,16,.rwm,0⟩,⟨15,0,.rwm,0⟩]⟩,
  ⟨0x1034102c, 64, 64, .ms, .ms, [⟨31,16,.ro,0⟩,⟨15,0,.ro,0⟩]⟩,
  ⟨0x10341030, 64, 64, .ms, .ms, [⟨31,16,.ro,0⟩,⟨15,0,.ro,0⟩]⟩,
  ⟨0x10341034, 64, 64, .ms, .ms, [⟨31,0,.rwm,4278190080⟩]⟩,
  ⟨0x10341038, 64, 64, .ms, .ms, [⟨31,30,.ro,0⟩,⟨29,20,.rwm,0⟩,⟨19,10,.rwm,0⟩,⟨9,0,.rwm,0⟩]⟩,
  ⟨0x1034103c, 64, 64, .ms, .ms, [⟨31,31,.ro,0⟩,⟨30,28,.ro,0⟩,⟨27,16,.ro,0⟩,⟨15,0,.ro,0⟩]⟩]

/-- Registers of the window at 0x10400000, part 0. -/
def regWindow4p0 : List RegDesc := [
  ⟨0x10400000, 64, 8, .s, .s, [⟨31,31,.ro,0⟩,⟨30,30,.ro,0⟩,⟨29,29,.ro,0⟩,⟨28,24,.ro,0⟩,⟨23,20,.ro,0⟩,⟨19,16,.ro,0⟩,⟨15,0,.ro,0⟩]⟩,
  ⟨0x10400004, 64, 8, .s, .s, [⟨31,30,.ro,0⟩,⟨29,20,.rws,0⟩,⟨19,10,.rws,0⟩,⟨9,0,.rws,0⟩]⟩,
  ⟨0x10400008, 64, 8, .s, .s, [⟨31,8,.ro,0⟩,⟨7,4,.ro,0⟩,⟨3,0,.ro,15⟩]⟩,
  ⟨0x1040000c, 64, 8, .s, .s, [⟨31,23,.ro,0⟩,⟨22,16,.ro,0⟩,⟨15,10,.ro,0⟩,⟨9,0,.ro,0⟩]⟩,
  ⟨0x10400400, 4, 32, .s, .s, [⟨31,31,.ro,0⟩,⟨30,24,.ro,0⟩,⟨23,0,.ro,0⟩]⟩,
  ⟨0x10400480, 4, 32, .s, .s, [⟨31,31,.ro,0⟩,⟨30,24,.ro,0⟩,⟨23,0,.ro,0⟩]⟩,
  ⟨0x10400800, 4, 1, .s, .s, [⟨31,31,.w1c,0⟩,⟨30,30,.w1c,0⟩,⟨29,24,.ro,0⟩,⟨23,0,.ro,0⟩]⟩]

/-- Registers of the window at 0x10500000, part 0. -/
def regWindow5p0 : List RegDesc := [
  ⟨0x10500000, 64, 8, .s, .s, [⟨31,31,.ro,0⟩,⟨30,30,.ro,0⟩,⟨29,29,.ro,0⟩,⟨28,24,.ro,0⟩,⟨23,16,.ro,0⟩,⟨15,12,.ro,0⟩,⟨11,0,.ro,0⟩]⟩,
  ⟨0x10500004, 64, 8, .s, .s, [⟨31,30,.ro,0⟩,⟨29,29,.ro,0⟩,⟨28,28,.ro,0⟩,⟨27,27,.ro,0⟩,⟨26,26,.ro,0⟩,⟨25,25,.w1c,0⟩,⟨24,24,.w1c,0⟩,⟨23,16,.ro,0⟩,⟨15,0,.ro,0⟩]⟩,
  ⟨0x10500008, 64, 8, .s, .s, [⟨31,16,.ro,0⟩,⟨15,0,.ro,0⟩]⟩,
  ⟨0x1050000c, 64, 8, .s, .s, [⟨31,31,.w1c,0⟩,⟨30,30,.w1c,0⟩,⟨29,28,.ro,0⟩,⟨27,24,.ro,0⟩,⟨23,13,.ro,0⟩,⟨12,0,.ro,0⟩]⟩,
  ⟨0x10500010, 64, 8, .s, .s, [⟨31,31,.ro,0⟩,⟨30,24,.ro,0⟩,⟨23,16,.ro,0⟩,⟨15,0,.ro,0⟩]⟩,
  ⟨0x10500014, 64, 8, .s, .s, [⟨31,0,.ro,0⟩]⟩,
  ⟨0x10500400, 4, 1, .s, .s, [⟨31,30,.ro,0⟩,⟨29,27,.ro,0⟩,⟨26,24,.ro,0⟩,⟨23,16,.ro,0⟩,⟨15,0,.ro,0⟩]⟩]

/-- Registers of the window at 0x10600000, part 0. -/
def regWindow6p0 : List RegDesc := [
  ⟨0x10600000, 4, 1, .ms, .all, [⟨31,23,.rwm,0⟩,⟨22,0,.ro,0⟩]⟩,
  ⟨0x10600004, 4, 1, .ms, .all, [⟨31,16,.ro,0⟩,⟨15,0,.rwm,0⟩]⟩,
  ⟨0x10600100, 4, 4, .ms, .all, [⟨31,31,.ro,0⟩,⟨30,30,.ro,0⟩,⟨29,29,.ro,0⟩,⟨28,26,.ro,0⟩,⟨25,22,.ro,0⟩,⟨21,12,.ro,0⟩,⟨11,0,.ro,0⟩]⟩,
  ⟨0x10600200, 4, 4, .ms, .all, [⟨31,0,.ro,0⟩]⟩]

/-- Registers of the window at 0x10700000, part 0. -/
def regWindow7p0 : List RegDesc := [
  ⟨0x10700000, 64, 8, .ms, .all, [⟨31,31,.ro,0⟩,⟨30,30,.ro,0⟩,⟨29,29,.ro,0⟩,⟨28,28,.ro,0⟩,⟨27,27,.ro,0⟩,⟨26,26,.ro,0⟩,⟨25,24,.ro,0⟩,⟨23,16,.ro,255⟩,⟨15,8,.ro,0⟩,⟨7,0,.ro,0⟩]⟩,
  ⟨0x10700004, 64, 8, .ms, .all, [⟨31,25,.ro,0⟩,⟨24,16,.ro,0⟩,⟨15,8,.ro,0⟩,⟨7,0,.ro,0⟩]⟩,
  ⟨0x10700008, 64, 8, .ms, .all, [⟨31,29,.ro,0⟩,⟨28,27,.ro,0⟩,⟨26,26,.ro,0⟩,⟨25,25,.ro,0⟩,⟨24,24,.w1c,0⟩,⟨23,19,.ro,0⟩,⟨18,16,.ro,0⟩,⟨15,0,.ro,0⟩]⟩,
  ⟨0x1070000c, 64, 8, .ms, .all, [⟨31,24,.ro,0⟩,⟨23,16,.ro,0⟩,⟨15,0,.ro,0⟩]⟩,
  ⟨0x10700400, 4, 32, .ms, .all, [⟨31,0,.ro,0⟩]⟩]

/-- Registers of the window at 0x10800000, part 0. -/
def regWindow8p0 : List RegDesc := [
  ⟨0x10800000, 64, 8, .ms, .all, [⟨31,31,.rwm,0⟩,⟨30,30,.ro,0⟩,⟨29,24,.ro,0⟩,⟨23,16,.rwm,12⟩,⟨15,8,.rwm,40⟩,⟨7,0,.rwm,20⟩]⟩,
  ⟨0x10800004, 64, 8, .ms, .all, [⟨31,16,.rwm,4000⟩,⟨15,0,.rwm,3000⟩]⟩,
  ⟨0x10800008, 64, 8, .ms, .all, [⟨31,16,.rwm,12000⟩,⟨15,9,.ro,0⟩,⟨8,0,.rwm,400⟩]⟩,
  ⟨0x1080000c, 64, 8, .ms, .all, [⟨31,30,.ro,0⟩,⟨29,28,.ro,0⟩,⟨27,27,.ro,0⟩,⟨26,26,.w1c,0⟩,⟨25,25,.w1c,0⟩,⟨24,24,.ro,0⟩,⟨23,16,.ro,0⟩,⟨15,8,.ro,0⟩,⟨7,0,.ro,0⟩]⟩,
  ⟨0x10800010, 64, 8, .ms, .all, [⟨31,16,.ro,0⟩,⟨15,0,.ro,0⟩]⟩,
  ⟨0x10800014, 64, 8, .ms, .all, [⟨31,16,.ro,0⟩,⟨15,0,.ro,0⟩]⟩,
  ⟨0x10800018, 64, 8, .ms, .all, [⟨31,0,.ro,0⟩]⟩,
  ⟨0x1080001c, 64, 8, .ms, .all, [⟨31,0,.ro,0⟩]⟩,
  ⟨0x10800020, 64, 8, .ms, .all, [⟨31,0,.ro,0⟩]⟩,
  ⟨0x10800400, 4, 8, .ms, .all, [⟨31,31,.rwm,0⟩,⟨30,30,.rws,0⟩,⟨29,28,.rwm,1⟩,⟨27,27,.ro,0⟩,⟨26,24,.rwm,0⟩,⟨23,16,.rwm,0⟩,⟨15,8,.rwm,0⟩,⟨7,0,.ro,0⟩]⟩,
  ⟨0x10800800, 4, 1, .ms, .all, [⟨31,16,.ro,0⟩,⟨15,0,.ro,0⟩]⟩]

/-- Registers of the window at 0x10900000, part 0. -/
def regWindow9p0 : List RegDesc := [
  ⟨0x10900000, 4, 1, .ms, .all, [⟨31,30,.ro,0⟩,⟨29,26,.ro,0⟩,⟨25,16,.rws,40⟩,⟨15,10,.ro,0⟩,⟨9,0,.rwm,40⟩]⟩,
  ⟨0x10900004, 4, 1, .ms, .all, [⟨31,31,.ro,0⟩,⟨30,30,.ro,0⟩,⟨29,24,.ro,0⟩,⟨23,16,.ro,0⟩,⟨15,0,.ro,0⟩]⟩,
  ⟨0x10900008, 4, 1, .ms, .s, [⟨31,31,.ro,0⟩,⟨30,30,.ro,0⟩,⟨29,29,.w1c,0⟩,⟨28,28,.w1c,0⟩,⟨27,27,.w1c,0⟩,⟨26,16,.ro,0⟩,⟨15,0,.ro,0⟩]⟩,
  ⟨0x1090000c, 4, 1, .ms, .all, [⟨31,16,.ro,0⟩,⟨15,8,.ro,0⟩,⟨7,0,.ro,0⟩]⟩,
  ⟨0x10900100, 4, 8, .ms, .all, [⟨31,31,.ro,0⟩,⟨30,30,.ro,0⟩,⟨29,28,.ro,0⟩,⟨27,27,.ro,0⟩,⟨26,17,.ro,0⟩,⟨16,0,.ro,0⟩]⟩]

/-- Registers of the window at 0x10a00000, part 0. -/
def regWindow10p0 : List RegDesc := [
  ⟨0x10a00000, 4, 1, .ms, .ms, [⟨31,24,.ro,0⟩,⟨23,16,.rwm,16⟩,⟨15,0,.ro,50⟩]⟩,
  ⟨0x10a00004, 4, 1, .ms, .ms, [⟨31,24,.ro,0⟩,⟨23,16,.rwm,16⟩,⟨15,0,.ro,20⟩]⟩,
  ⟨0x10a00008, 4, 1, .ms, .ms, [⟨31,24,.ro,0⟩,⟨23,16,.rwm,16⟩,⟨15,0,.ro,3000⟩]⟩,
  ⟨0x10a0000c, 4, 1, .ms, .ms, [⟨31,24,.ro,0⟩,⟨23,16,.rwm,16⟩,⟨15,0,.ro,1000⟩]⟩,
  ⟨0x10a00010, 4, 4, .ms, .ms, [⟨31,24,.ro,0⟩,⟨23,16,.ro,0⟩,⟨15,10,.ro,0⟩,⟨9,0,.ro,0⟩]⟩,
  ⟨0x10a00100, 4, 14, .ms, .ms, [⟨31,31,.ro,0⟩,⟨30,30,.ro,0⟩,⟨29,29,.ro,0⟩,⟨28,28,.ro,0⟩,⟨27,26,.ro,0⟩,⟨25,24,.ro,0⟩,⟨23,12,.ro,0⟩,⟨11,0,.ro,0⟩]⟩,
  ⟨0x10a00200, 4, 4, .ms, .ms, [⟨31,0,.ro,0⟩]⟩,
  ⟨0x10a00210, 4, 4, .ms, .ms, [⟨31,31,.w1c,0⟩,⟨30,16,.ro,0⟩,⟨15,0,.ro,0⟩]⟩]

/-- Registers of the window at 0x10b00000, part 0. -/
def regWindow11p0 : List RegDesc := [
  ⟨0x10b00000, 4, 1, .ms, .s, [⟨31,28,.ro,0⟩,⟨27,26,.ro,0⟩,⟨25,25,.rws,0⟩,⟨24,24,.rws,0⟩,⟨23,8,.ro,0⟩,⟨7,0,.ro,14⟩]⟩,
  ⟨0x10b00004, 4, 1, .ms, .s, [⟨31,24,.ro,0⟩,⟨23,16,.rws,60⟩,⟨15,8,.rws,40⟩,⟨7,0,.rws,20⟩]⟩,
  ⟨0x10b00008, 4, 1, .ms, .s, [⟨31,10,.ro,0⟩,⟨9,0,.rws,50⟩]⟩,
  ⟨0x10b0000c, 4, 1, .ms, .s, [⟨31,16,.rws,4096⟩,⟨15,8,.rws,8⟩,⟨7,0,.ro,0⟩]⟩,
  ⟨0x10b00010, 4, 1, .ms, .s, [⟨31,16,.ro,0⟩,⟨15,0,.rws,256⟩]⟩,
  ⟨0x10b00014, 4, 1, .ms, .s, [⟨31,8,.wo,0⟩,⟨7,4,.wo,0⟩,⟨3,0,.wo,0⟩]⟩,
  ⟨0x10b00020, 4, 1, .ms, .s, [⟨31,31,.w1c,0⟩,⟨30,30,.w1c,0⟩,⟨29,27,.ro,0⟩,⟨26,24,.ro,0⟩,⟨23,23,.ro,0⟩,⟨22,21,.ro,0⟩,⟨20,20,.ro,0⟩,⟨19,16,.ro,0⟩,⟨15,12,.ro,0⟩,⟨11,0,.ro,0⟩]⟩,
  ⟨0x10b00030, 4, 1, .ms, .s, [⟨31,31,.w1c,0⟩,⟨30,30,.w1c,0⟩,⟨29,29,.ro,0⟩,⟨28,25,.ro,0⟩,⟨24,21,.ro,0⟩,⟨20,19,.ro,0⟩,⟨18,12,.ro,0⟩,⟨11,0,.ro,0⟩]⟩,
  ⟨0x10b00024, 4, 1, .ms, .s, [⟨31,0,.ro,0⟩]⟩,
  ⟨0x10b00028, 4, 1, .ms, .s, [⟨31,16,.ro,0⟩,⟨15,0,.ro,0⟩]⟩,
  ⟨0x10b00100, 4, 4, .ms, .s, [⟨31,31,.ro,0⟩,⟨30,30,.ro,0⟩,⟨29,29,.ro,0⟩,⟨28,24,.ro,0⟩,⟨23,22,.ro,0⟩,⟨21,16,.ro,0⟩,⟨15,14,.ro,0⟩,⟨13,8,.ro,0⟩,⟨7,0,.ro,0⟩]⟩,
  ⟨0x10b00200, 4, 16, .ms, .s, [⟨31,30,.ro,2⟩,⟨29,28,.ro,0⟩,⟨27,24,.ro,0⟩,⟨23,23,.ro,0⟩,⟨22,16,.ro,0⟩,⟨15,0,.ro,0⟩]⟩,
  ⟨0x10b00240, 4, 16, .ms, .s, [⟨31,0,.ro,0⟩]⟩,
  ⟨0x10b00280, 4, 16, .ms, .s, [⟨31,16,.ro,0⟩,⟨15,0,.ro,0⟩]⟩,
  ⟨0x10b00300, 16, 16, .ms, .s, [⟨31,31,.w1c,0⟩,⟨30,28,.ro,0⟩,⟨27,27,.ro,0⟩,⟨26,24,.ro,0⟩,⟨23,16,.ro,0⟩,⟨15,0,.ro,0⟩]⟩,
  ⟨0x10b00304, 16, 16, .ms, .s, [⟨31,0,.ro,0⟩]⟩,
  ⟨0x10b00308, 16, 16, .ms, .s, [⟨31,16,.ro,0⟩,⟨15,0,.ro,0⟩]⟩,
  ⟨0x10b0030c, 16, 16, .ms, .s, [⟨31,24,.ro,0⟩,⟨23,16,.ro,0⟩,⟨15,8,.ro,0⟩,⟨7,0,.ro,0⟩]⟩,
  ⟨0x10b00400, 4, 8, .ms, .s, [⟨31,30,.ro,0⟩,⟨29,28,.ro,0⟩,⟨27,26,.ro,0⟩,⟨25,25,.ro,0⟩,⟨24,16,.ro,0⟩,⟨15,0,.ro,0⟩]⟩]

/-- Registers of the window at 0x10c00000, part 0. -/
def regWindow12p0 : List RegDesc := [
  ⟨0x10c00000, 4, 8, .ms, .all, [⟨31,31,.ro,0⟩,⟨30,30,.ro,0⟩,⟨29,28,.ro,0⟩,⟨27,27,.ro,0⟩,⟨26,25,.ro,0⟩,⟨24,19,.ro,0⟩,⟨18,12,.ro,0⟩,⟨11,0,.ro,0⟩]⟩,
  ⟨0x10c00040, 4, 8, .ms, .all, [⟨31,0,.ro,0⟩]⟩,
  ⟨0x10c00080, 4, 8, .ms, .all, [⟨31,0,.ro,0⟩]⟩]

/-- Registers of the window at 0x10d00000, part 0. -/
def regWindow13p0 : List RegDesc := [
  ⟨0x10d00000, 4, 1, .ms, .all, [⟨31,16,.rws,0⟩,⟨15,0,.rws,32⟩]⟩,
  ⟨0x10d00004, 4, 1, .ms, .all, [⟨31,29,.ro,0⟩,⟨28,28,.ro,0⟩,⟨27,27,.ro,0⟩,⟨26,26,.w1c,0⟩,⟨25,16,.ro,0⟩,⟨15,0,.ro,0⟩]⟩]

/-- Registers of the window at 0x10e00000, part 0. -/
def regWindow14p0 : List RegDesc := [
  ⟨0x10e00000, 4, 2, .ms, .all, [⟨31,31,.ro,0⟩,⟨30,29,.ro,0⟩,⟨28,27,.ro,0⟩,⟨26,26,.ro,0⟩,⟨25,0,.ro,0⟩]⟩,
  ⟨0x10e00010, 4, 1, .ms, .all, [⟨31,31,.ro,0⟩,⟨30,30,.ro,0⟩,⟨29,24,.ro,0⟩,⟨23,0,.ro,0⟩]⟩,
  ⟨0x10e00020, 4, 1, .ms, .all, [⟨31,31,.ro,0⟩,⟨30,30,.ro,0⟩,⟨29,26,.ro,0⟩,⟨25,16,.ro,0⟩,⟨15,0,.ro,34997⟩]⟩,
  ⟨0x10e00024, 4, 1, .ms, .all, [⟨31,16,.ro,0⟩,⟨15,11,.ro,0⟩,⟨10,0,.ro,0⟩]⟩,
  ⟨0x10e00400, 4, 128, .ms, .all, [⟨31,0,.ro,0⟩]⟩]

/-- Registers of the window at 0x10f00000, part 0. -/
def regWindow15p0 : List RegDesc := [
  ⟨0x10f00000, 4, 1, .ms, .all, [⟨31,29,.ro,0⟩,⟨28,24,.ro,0⟩,⟨23,16,.ro,0⟩,⟨15,6,.ro,0⟩,⟨5,0,.ro,0⟩]⟩,
  ⟨0x10f00004, 4, 1, .ms, .all, [⟨31,31,.rwm,0⟩,⟨30,28,.rwm,0⟩,⟨27,27,.rwm,0⟩,⟨26,8,.ro,0⟩,⟨7,0,.rwm,0⟩]⟩,
  ⟨0x10f00008, 4, 1, .ms, .all, [⟨31,2,.rwm,0⟩,⟨1,0,.ro,0⟩]⟩,
  ⟨0x10f0000c, 4, 1, .ms, .all, [⟨31,16,.ro,0⟩,⟨15,0,.rwm,0⟩]⟩,
  ⟨0x10f00010, 4, 1, .ms, .all, [⟨31,31,.rws,1⟩,⟨30,24,.ro,0⟩,⟨23,16,.rws,25⟩,⟨15,0,.ro,0⟩]⟩,
  ⟨0x10f00100, 4, 12, .ms, .all, [⟨31,31,.rws,0⟩,⟨30,30,.rws,0⟩,⟨29,29,.rws,0⟩,⟨28,24,.rws,0⟩,⟨23,16,.rws,0⟩,⟨15,8,.rws,255⟩,⟨7,7,.ro,0⟩,⟨6,0,.rws,0⟩]⟩,
  ⟨0x10f00200, 4, 1, .ms, .all, [⟨31,0,.rws,0⟩]⟩,
  ⟨0x10f00204, 4, 1, .ms, .all, [⟨31,14,.ro,0⟩,⟨13,0,.rws,0⟩]⟩,
  ⟨0x10f00208, 4, 1, .ms, .all, [⟨31,0,.rws,0⟩]⟩,
  ⟨0x10f0020c, 4, 1, .ms, .all, [⟨31,14,.ro,0⟩,⟨13,0,.rws,0⟩]⟩,
  ⟨0x10f00210, 4, 1, .ms, .all, [⟨31,0,.ro,0⟩]⟩,
  ⟨0x10f00214, 4, 1, .ms, .all, [⟨31,14,.ro,0⟩,⟨13,0,.ro,0⟩]⟩,
  ⟨0x10f00218, 4, 1, .ms, .all, [⟨31,0,.ro,0⟩]⟩,
  ⟨0x10f0021c, 4, 1, .ms, .all, [⟨31,14,.ro,0⟩,⟨13,0,.ro,0⟩]⟩]

/-- Registers of the window at 0x11000000, part 0. -/
def regWindow16p0 : List RegDesc := [
  ⟨0x11000000, 4, 1, .ms, .ms, [⟨31,0,.ro,0⟩]⟩,
  ⟨0x11000004, 4, 1, .ms, .ms, [⟨31,31,.ro,0⟩,⟨30,30,.w1c,0⟩,⟨29,29,.w1c,0⟩,⟨28,28,.ro,0⟩,⟨27,0,.ro,0⟩]⟩,
  ⟨0x11000008, 4, 1, .ms, .ms, [⟨31,0,.rws,0⟩]⟩,
  ⟨0x1100000c, 4, 1, .ms, .ms, [⟨31,0,.rwm,0⟩]⟩,
  ⟨0x11000014, 4, 1, .ms, .ms, [⟨31,0,.ro,0⟩]⟩,
  ⟨0x11000010, 4, 1, .ms, .ms, [⟨31,16,.ro,0⟩,⟨15,0,.ro,0⟩]⟩,
  ⟨0x11000040, 4, 16, .ms, .ms, [⟨31,0,.rws,0⟩]⟩]

/-- Registers of the window at 0x11100000, part 0. -/
def regWindow17p0 : List RegDesc := [
  ⟨0x11100000, 4, 1, .s, .s, [⟨31,16,.rws,0⟩,⟨15,4,.ro,0⟩,⟨3,3,.rws,0⟩,⟨2,2,.rws,0⟩,⟨1,1,.rws,0⟩,⟨0,0,.rws,1⟩]⟩,
  ⟨0x11100004, 4, 1, .s, .s, [⟨31,31,.ro,0⟩,⟨30,30,.ro,0⟩,⟨29,24,.ro,0⟩,⟨23,16,.ro,0⟩,⟨15,0,.ro,0⟩]⟩,
  ⟨0x11100008, 4, 1, .s, .s, [⟨31,24,.ro,0⟩,⟨23,16,.ro,0⟩,⟨15,0,.ro,0⟩]⟩,
  ⟨0x1110000c, 4, 1, .s, .s, [⟨31,0,.ro,0⟩]⟩,
  ⟨0x11100010, 4, 1, .s, .s, [⟨31,0,.ro,0⟩]⟩]

/-- Registers of the window at 0x11200000, part 0. -/
def regWindow18p0 : List RegDesc := [
  ⟨0x11200000, 4, 1, .ms, .all, [⟨31,31,.ro,0⟩,⟨30,30,.ro,0⟩,⟨29,26,.ro,0⟩,⟨25,21,.ro,0⟩,⟨20,16,.ro,0⟩,⟨15,8,.ro,0⟩,⟨7,0,.ro,0⟩]⟩,
  ⟨0x11200008, 4, 2, .ms, .all, [⟨31,0,.w1c,0⟩]⟩,
  ⟨0x11200010, 4, 1, .ms, .all, [⟨31,31,.w1c,0⟩,⟨30,30,.ro,0⟩,⟨29,16,.ro,0⟩,⟨15,0,.ro,0⟩]⟩]

/-- Registers of the window at 0x11300000, part 0. -/
def regWindow19p0 : List RegDesc := [
  ⟨0x113ff000, 4, 1, .all, .s, [⟨31,14,.ro,0⟩,⟨13,0,.rws,0⟩]⟩,
  ⟨0x113ff004, 4, 2, .all, .s, [⟨31,0,.rws,0⟩]⟩,
  ⟨0x11300000, 4096, 14, .ms, .ms, [⟨31,31,.rwm,0⟩,⟨30,30,.rwm,0⟩,⟨29,14,.ro,0⟩,⟨13,8,.rwm,1⟩,⟨7,0,.ro,0⟩]⟩,
  ⟨0x11300004, 4096, 14, .ms, .ms, [⟨31,31,.ro,0⟩,⟨30,29,.ro,0⟩,⟨28,23,.ro,0⟩,⟨22,16,.ro,64⟩,⟨15,15,.ro,0⟩,⟨14,8,.ro,0⟩,⟨7,0,.ro,0⟩]⟩,
  ⟨0x11300008, 4096, 14, .ms, .ms, [⟨31,6,.ro,0⟩,⟨5,5,.rwm,0⟩,⟨4,4,.rwm,0⟩,⟨3,3,.rwm,0⟩,⟨2,2,.rwm,0⟩,⟨1,1,.rwm,0⟩,⟨0,0,.rwm,0⟩]⟩,
  ⟨0x1130000c, 4096, 14, .ms, .ms, [⟨31,6,.ro,0⟩,⟨5,5,.w1c,0⟩,⟨4,4,.w1c,0⟩,⟨3,3,.w1c,0⟩,⟨2,2,.w1c,0⟩,⟨1,1,.ro,1⟩,⟨0,0,.ro,0⟩]⟩,
  ⟨0x11300010, 4096, 14, .ms, .ms, [⟨31,0,.wo,0⟩]⟩,
  ⟨0x11300014, 4096, 14, .ms, .ms, [⟨31,0,.wo,0⟩]⟩,
  ⟨0x11300018, 4096, 14, .ms, .ms, [⟨31,0,.ro,0⟩]⟩,
  ⟨0x1130001c, 4096, 14, .ms, .ms, [⟨31,0,.rwm,0⟩]⟩,
  ⟨0x1130c020, 4096, 2, .ms, .ms, [⟨31,13,.rwm,0⟩,⟨12,0,.ro,0⟩]⟩,
  ⟨0x1130c024, 4096, 2, .ms, .ms, [⟨31,16,.ro,0⟩,⟨15,8,.ro,0⟩,⟨7,0,.ro,0⟩]⟩,
  ⟨0x1130c100, 8, 16, .ms, .ms, [⟨31,31,.rwm,0⟩,⟨30,30,.ro,0⟩,⟨29,29,.rwm,0⟩,⟨28,0,.rwm,0⟩]⟩,
  ⟨0x1130c104, 8, 16, .ms, .ms, [⟨31,29,.ro,0⟩,⟨28,0,.rwm,0⟩]⟩,
  ⟨0x1130d100, 8, 16, .ms, .ms, [⟨31,31,.rwm,0⟩,⟨30,30,.ro,0⟩,⟨29,29,.rwm,0⟩,⟨28,0,.rwm,0⟩]⟩,
  ⟨0x1130d104, 8, 16, .ms, .ms, [⟨31,29,.ro,0⟩,⟨28,0,.rwm,0⟩]⟩,
  ⟨0x11310000, 4, 2, .ms, .ms, [⟨31,0,.ro,0⟩]⟩,
  ⟨0x11310010, 4, 2, .ms, .ms, [⟨31,0,.rwm,0⟩]⟩,
  ⟨0x11310020, 4, 2, .ms, .ms, [⟨31,0,.rwm,0⟩]⟩,
  ⟨0x11310030, 4, 4, .ms, .ms, [⟨31,0,.rwm,0⟩]⟩]

/-- Registers of the window at 0x11300000, part 1. -/
def regWindow19p1 : List RegDesc := [
  ⟨0x11310040, 4, 2, .ms, .ms, [⟨31,0,.w1c,0⟩]⟩]

/-- The registers of the 1 MiB window with this number (address bits 31:20 less 0x100). -/
def regWindow : Nat → List RegDesc
  | 0 => regWindow0p0 ++ regWindow0p1
  | 1 => regWindow1p0
  | 2 => regWindow2p0
  | 3 => regWindow3p0 ++ regWindow3p1
  | 4 => regWindow4p0
  | 5 => regWindow5p0
  | 6 => regWindow6p0
  | 7 => regWindow7p0
  | 8 => regWindow8p0
  | 9 => regWindow9p0
  | 10 => regWindow10p0
  | 11 => regWindow11p0
  | 12 => regWindow12p0
  | 13 => regWindow13p0
  | 14 => regWindow14p0
  | 15 => regWindow15p0
  | 16 => regWindow16p0
  | 17 => regWindow17p0
  | 18 => regWindow18p0
  | 19 => regWindow19p0 ++ regWindow19p1
  | _ => []

/-- Whether a number lies in one of the ranges. -/
def inRanges (l : List (Nat × Nat)) (n : Nat) : Bool := l.any (fun r => decide (r.1 ≤ n) && decide (n ≤ r.2))

/-- The fixed band-S interrupt sources (02 R61 and the source tables of the unit chapters). -/
def srcFixedS (n : Nat) : Bool := inRanges [(1, 9), (32, 54), (160, 169), (176, 207), (224, 231), (240, 245), (320, 322), (336, 340), (384, 387), (422, 429), (448, 463)] n

/-- The fixed band-N sources: mailbox replies (02 R61). -/
def srcFixedN (n : Nat) : Bool := inRanges [(464, 479)] n

/-- Source 0 and the reserved sources (02 R61 and the unit chapters). -/
def srcReserved (n : Nat) : Bool := inRanges [(0, 0), (10, 15), (19, 31), (55, 63), (88, 95), (128, 159), (170, 175), (246, 255), (268, 287), (291, 303), (308, 319), (323, 335), (341, 351), (388, 399), (430, 431), (437, 447), (480, 511)] n

/-- The register at an address, if the address is that of one. -/
def findReg (a : Nat) : Option RegDesc :=
  (regWindow (a / 0x100000 - 0x100)).find? (fun d =>
    decide (d.base ≤ a) && decide ((a - d.base) % d.stride = 0) && decide ((a - d.base) / d.stride < d.count))

/-- The value of the fields after a cold reset. -/
def fieldsReset (l : List FieldDesc) : Nat := l.foldl (fun acc f => acc + f.rst * 2 ^ f.lo) 0

/-- The reset value of `INT_BAND[j]` (02 R62): 1 for the fixed-S sources. -/
def intBandReset (j : Nat) : Nat :=
  (List.range 32).foldl (fun acc i => if srcFixedS (32 * j + i) then acc + 2 ^ i else acc) 0

/-- The value of every register after a cold reset (00 R7); an address that is no register reads 0. -/
@[irreducible] def regReset (a : Nat) : Word :=
  match findReg a with
  | none => 0
  | some d => if d.base = Reg.INT_BAND then BitVec.ofNat 32 (intBandReset ((a - d.base) / 4)) else BitVec.ofNat 32 (fieldsReset d.fields)

/-- Bits `hi` to `lo` of a word, as a number. -/
def bitsOf (w : Word) (hi lo : Nat) : Nat := w.toNat / 2 ^ lo % 2 ^ (hi + 1 - lo)

/-- The word with bits `hi` to `lo` replaced by the low bits of `v`. -/
def putBits (w : Word) (hi lo v : Nat) : Word :=
  BitVec.ofNat 32 (w.toNat - bitsOf w hi lo * 2 ^ lo + v % 2 ^ (hi + 1 - lo) * 2 ^ lo)

end Sys2Proof.Machine
end

