-- ==== Sys2Proof/Syntax.lean ====
section
/-! DEFINITION. The commands of the WX8 block: one constructor per row of spec/opcode_table.json, and the operand types
they share. The table gives its rows no operands; each operand is what the rule of the row says the command carries. -/

namespace Sys2Proof

/-- Who issues an access (01 R12, R14): the S-world, the mediator, Thilar firmware acting for itself, or a client. -/
inductive Who where
  | s
  | med
  | fw
  | client (n : Nat)
  deriving DecidableEq, Repr

/-- A submitter's ring set (03, Rings and where they live). -/
inductive RingId where
  | s
  | med
  | client (n : Nat)
  deriving DecidableEq, Repr

/-- A service class of a memory request (01 R12, 13 R537); `isoUrgent` is urgent ISO. -/
inductive Cls where
  | be
  | rt
  | iso
  | isoUrgent
  | safe
  | isoCritical
  deriving DecidableEq, Repr

/-- A memory request: who issues it, whether a core does (13 R552), and its class. -/
structure Req where
  who  : Who
  core : Bool
  cls  : Cls
  deriving DecidableEq, Repr

/-- The row activation an access makes, where it opens a row (13 R548): the rank, bank and row. The manual does not give the
map from an address to these, so the command carries them; `none` is an access to an open row. -/
structure RowAct where
  rank : Nat
  bank : Nat
  row  : Nat
  deriving DecidableEq, Repr

/-- A requester at the Engine Arbiter (12 R501): the packet in an execution place, or a firmware task of a rank (0 S,
1 mediator). -/
inductive Requester where
  | packet (k : Nat)
  | task (rank id : Nat)
  deriving DecidableEq, Repr

/-- An inbound PCIe request (04 R192, R193): a doorbell write through BAR0, a read or a write through BAR2, or an ATS
translation request. -/
inductive PcieReq where
  | doorbell (off : Nat) (v : Word)
  | read (addr len : Nat)
  | write (addr : Nat) (data : List Byte)
  | ats
  deriving DecidableEq, Repr

/-- What the sink answers on AUX (05 R243). -/
inductive AuxReply where
  | ack (data : List Byte)
  | nack
  | deferred
  | silent
  deriving DecidableEq, Repr

/-- The commands of the WX8, one constructor per row of spec/opcode_table.json, in its order. -/
inductive Instr where
  /-- R3. A write to a register that has no row of its own takes effect according to its access type, including W1C clears and RWS or RWM world checks. -/
  | registerWrite (buffered : Bool) (who : Who) (addr : Nat) (v : Word)
  /-- R5. An access to a register window, doorbell page or mailbox page that is not an aligned 32-bit access is ignored or reads 0, and is recorded with KIND 0x3. -/
  | misalignedWindowAccess (who : Who) (write : Bool) (addr : Nat)
  /-- R24. An access to an unmapped address, or an N-world access to an S-world-only region, is refused with an access fault or an error response. -/
  | unmappedAccess (who : Who) (core : Bool) (write : Bool) (addr : Nat)
  /-- R25. An access to the register window of a gated unit is ignored or reads 0, and is recorded. -/
  | gatedWindowAccess (who : Who) (write : Bool) (addr : Nat)
  /-- R530. A DRAM data-word read is decoded and is returned, refused as an ink fault, or answered with a poisoned response. -/
  | memoryRead (r : Req) (addr : Nat) (noise : List (Nat × Byte)) (act : Option RowAct)
  /-- R531. A whole-word DRAM write checks the stored ink and writes the data with POISON cleared, or is refused as an ink fault. -/
  | memoryWrite (buffered : Bool) (gen : Nat) (r : Req) (addr : Nat) (data : List Byte) (act : Option RowAct)
  /-- R532. A partial-word write is done as a read-modify-write and is refused on an ink fault, a poisoned word or an uncorrectable word. -/
  | partialWrite (buffered : Bool) (gen : Nat) (r : Req) (addr : Nat) (data : List Byte) (noise : List (Nat × Byte)) (act : Option RowAct)
  /-- R526. A corrected word is written back within 1 µs, unless a write to that word arrives first. -/
  | correctionWriteback (addr : Nat)
  /-- R527. The daily patrol reads each data word, and poisons an uncorrectable word without freezing the channel. -/
  | patrolRead (addr : Nat) (noise : List (Nat × Byte))
  /-- R538. A queued request whose age passes its class limit is promoted one class. -/
  | requestAgePromotion (c : Nat) (ix : Nat)
  /-- R544. At each refresh interval the channel issues, postpones or pulls in an all-bank refresh batch. -/
  | refreshBatch (c : Nat)
  /-- R545. Every 4 ms the controller reads mode register 4 and sets the channel's refresh rate. -/
  | mr4Poll (c : Nat) (ind : Nat)
  /-- R551. Every 100 ms the controller reads back the DRAM mode registers, and a mismatch freezes the channel. -/
  | modeRegisterReadback (c : Nat) (mismatch : Option Nat)
  /-- R551. A parity error on the command path to the PHY freezes the channel. -/
  | commandPathParityError (c : Nat)
  /-- R548. Every 32 ms all heavy-row counts are cleared and the throttles end. -/
  | heavyRowWindowClear
  /-- R542. At the end of a table round the rebuilt shadow slot table replaces the active one. -/
  | slotTableSwap (g : Nat)
  /-- R553. MC_THAW with ACTION 1 poisons the failing word or words and resumes the channel. -/
  | thawPoison (who : Who) (c : Nat)
  /-- R553. MC_THAW with ACTION 2 rewrites the mode registers and resumes the channel. -/
  | thawRewriteMr (who : Who) (c : Nat)
  /-- R553. MC_THAW with ACTION 3 starts a retraining. -/
  | thawRetrain (who : Who) (c : Nat)
  /-- R553. MC_THAW with ACTION 4 fences the channel's group. -/
  | thawFence (who : Who) (c : Nat)
  /-- R554. A channel that is not thawed within FREEZE_LIMIT thaws itself with the action its cause gives. -/
  | selfThaw (c : Nat)
  /-- R555. WCK-to-DQ tracking that finds drift beyond the trained margin starts a retraining. -/
  | wckDrift
  /-- R555. The end of a training attempt either resumes all channels at the new rate or steps the rate down and tries again. -/
  | retrainAttemptEnd (failed : Nat)
  /-- R560. When the copy of an establishing mirror finishes, the mirror becomes active and MIRROR_STATE is written. -/
  | mirrorCopyDone (m : Nat)
  /-- R535. Checks permissions over the range, then writes zero data and the new ink page by page. -/
  | scrub (k : Nat) (upto : Option Nat)
  /-- R540. Sets SAFE_SLOTS and ISO_RSV for a group and rebuilds its shadow slot table. -/
  | slotSet (k : Nat)
  /-- R559. Sets up or releases a mirror of a primary range in a second group. -/
  | mirrorSet (k : Nat)
  /-- R555. S-ring command that starts a DRAM retraining. -/
  | retrain (k : Nat)
  /-- R563. Returns memory-controller, channel or group status. -/
  | memQuery (k : Nat)
  /-- R35. When a checkpoint period has passed or the commit buffer is full, the active pair's buffered writes are released and its register state is checkpointed. -/
  | checkpointCommit
  /-- R38. A comparator mismatch of the active pair discards its uncommitted writes and starts a switch to pair B, or enters the safe state without a standby. -/
  | lockstepMismatch
  /-- R38. Pair B resumes from the last commit, and band-S interrupts since that commit are pending again. -/
  | pairBResume
  /-- R63. A write to INT_BAND moves sources between bands together with their pending state. -/
  | intBandWrite (who : Who) (j : Nat) (v : Word)
  /-- R65. A write to INT_SACK clears the pending state of a band-S source. -/
  | intSack (who : Who) (v : Word)
  /-- R66. A pending band-S source of priority 1-15 is signalled to the active safety pair within 0.5 µs. -/
  | secureInterruptSignal
  /-- R767. The APLIC sends a pending band-N source's message to an IMSIC file and clears its pending bit. -/
  | aplicMessageSend (src : Nat)
  /-- R70. A change of mailbox owner clears both buffers, both FULL bits and INT_MBX_N2S, and raises source 448+m. -/
  | intMbxOwnerWrite (who : Who) (m : Nat) (v : Word)
  /-- R71. A write of TAKE in INT_MBX_SCTRL clears N2S_FULL. -/
  | mbxTake (who : Who) (m : Nat) (v : Word)
  /-- R77. A write of SEND in INT_MBX_SCTRL posts the reply, sets S2N_FULL and raises source 464+m. -/
  | mbxSend (who : Who) (m : Nat) (v : Word)
  /-- R75. The owner's write of INT_MBX_DOOR freezes the message, latches LEN and SEQ and raises source 448+m, or sets REFUSED. -/
  | mbxDoorbell (who : Who) (m : Nat) (v : Word)
  /-- R75. A write to the N2S buffer is accepted only from the owner while N2S_FULL is 0. -/
  | mbxBufferWrite (who : Who) (m : Nat) (off : Nat) (v : Word)
  /-- R82. A JTAG debug access is carried out with the attributes of the halted core, within the enables in effect. -/
  | debugAccess (sWorld : Bool) (r : Req) (write : Bool) (addr : Nat) (data : List Byte)
  /-- R89. An S-world claim of a domain that is off or being cut completes the cut and then restores the domain. -/
  | pwrSclaimWrite (who : Who) (j : Nat) (v : Word)
  /-- R86. A held deferred cut is applied within 100 µs of its last claimed domain being released, and DEFERRED_APPLIED is written. -/
  | deferredApply (ix : Nat)
  /-- R108. A write of CP_DB_SQ_TAIL makes new submission entries visible and may make the context resident. -/
  | sqTailDoorbell (who : Who) (ring : RingId) (v : Word)
  /-- R126. A write of CP_DB_CQ_HEAD frees completion entries and retries any completion write that faulted. -/
  | cqHeadDoorbell (who : Who) (ring : RingId) (v : Word)
  /-- R144. A write of CP_DB_EQ_HEAD frees event entries and writes any pending EVENTS_LOST. -/
  | eqHeadDoorbell (who : Who) (ring : RingId) (v : Word)
  /-- R103. A write of CP_DB_SQ_RESUME sets the submission head and clears HALTED. -/
  | sqResume (who : Who) (ring : RingId) (v : Word)
  /-- R116. The WX8 checks the packet at the head of a ring once entries, a slot, an execution place and completion room are available, then starts it or refuses it. -/
  | packetStart (ring : RingId)
  /-- R121. A waiting packet's fence word is re-evaluated after a signal to it or every 50 µs. -/
  | fenceEvaluate (ring : RingId)
  /-- R122. A fence wait that has not held for the ring's timeout completes with FENCE_TIMEOUT. -/
  | fenceTimeout (ring : RingId)
  /-- R131. An operation that ends writes its signal and then its completion entry. -/
  | packetComplete (k : Nat)
  /-- R167. Every 100 µs client credits are reset, pending SHARE_SETs apply and waiting contexts may evict resident ones. -/
  | quantumBoundary
  /-- R169. A freed hardware ring slot is given to the waiting context with the most credit. -/
  | contextResident
  /-- R134. Does nothing apart from its fences. -/
  | nop (k : Nat)
  /-- R135. Sets up a client's rings, rank, fence timeout and class mask. -/
  | ringSetup (k : Nat)
  /-- R137. Stops a client ring, dropping its unstarted packets, and completes once the started ones have ended. -/
  | ringDisable (k : Nat)
  /-- R769. When the last started packet of a ring set being taken out of service completes, its heads and tails reset and ENABLED clears. -/
  | ringSetDrained (ring : RingId)
  /-- R134. Returns a ring set's state and indexes. -/
  | ringQuery (k : Nat)
  /-- R134. Sets which unit classes write events to the submitter's ring. -/
  | eventMask (k : Nat)
  /-- R134. Returns device time in ns. -/
  | timeRead (k : Nat)
  /-- R140. Setting ENABLE in CP_PRING_CFG puts the S or mediator ring set in service. -/
  | pringEnable (who : Who) (p : Nat) (v : Word)
  /-- R769. Clearing ENABLE in CP_PRING_CFG takes the S or mediator ring set out of service. -/
  | pringDisable (who : Who) (p : Nat) (v : Word)
  /-- R158. Returns a client's instance state, share and counts. -/
  | instanceQuery (k : Nat)
  /-- R178. Increments the client's generation and abandons every operation of the old generation. -/
  | instanceReset (k : Nat)
  /-- R180. When no old-generation work remains, the reset completes and the ring restarts. -/
  | instanceResetDone (c : Nat)
  /-- R160. Sets a client's weight, in-flight limit and pool quotas from the next quantum. -/
  | shareSet (k : Nat)
  /-- R171. Grants or revokes an output, panel, actuator, stream or queue pair. -/
  | grant (k : Nat)
  /-- R165. A forced shrink or revoke takes effect at the unit's stated moment and raises EVICTED or GRANT_CHANGED. -/
  | resourceRemoval (ix : Nat)
  /-- R186. Sets a device context's second-stage translation. -/
  | devctxSet (k : Nat)
  /-- R187. Binds a client to a device context and a first-stage root. -/
  | clientBind (k : Nat)
  /-- R191. Invalidates cached DMA translations in the given scope. -/
  | iotlbInval (k : Nat)
  /-- R195. Maps or unmaps a PCIe function and PASID to a client. -/
  | pasidMap (k : Nat)
  /-- R193. An inbound PCIe request is resolved to a client and served, or is answered with Unsupported Request. -/
  | pcieInboundRequest (fn : Nat) (pasid : Option Nat) (q : PcieReq)
  /-- R197. A function-level reset resets every client mapped to the function and writes FLR_RESET. -/
  | pcieFlr (fn : Nat)
  /-- R741. PCIE_PERST_N low resets the link and performs a function-level reset of every function. -/
  | pciePerst (low : Bool)
  /-- R198. Link up, link down or a speed change updates PCIE_LINK_STAT and raises source 432. -/
  | pcieLinkChange (up : Bool) (speed : Nat) (width : Nat) (vfs : Nat)
  /-- R198. A correctable or uncorrectable PCIe error updates PCIE_ERR and raises source 434 or 435. -/
  | pcieError (uncorr : Bool)
  /-- R202. Writing TRAIN starts a training series at the configured settings. -/
  | dptxTrain (who : Who) (n : Nat) (v : Word)
  /-- R202. A training attempt ends as trained, is retried, or fails after the third attempt with LINK_EVENT kind 5. -/
  | trainingAttemptEnd (n : Nat) (ok : Bool)
  /-- R203. HPD low for more than 2 ms counts as an unplug and stops the transmitter. -/
  | hpdUnplug (n : Nat)
  /-- R203. HPD high for 100 ms starts a retraining at the configured settings. -/
  | hpdPlug (n : Nat)
  /-- R204. An IRQ_HPD from the sink makes the WX8 read lane status and retrain when lock is lost. -/
  | irqHpd (n : Nat) (lost : Bool)
  /-- R772. Writing 1 to DTG_CTRL.ENABLE makes the shadow timing live and starts the timing generator at line 0. -/
  | dtgEnable (who : Who) (n : Nat) (v : Word)
  /-- R212. Writing ARM in DTG_APPLY arms the output's shadow set. -/
  | applyArm (who : Who) (n : Nat) (v : Word)
  /-- R211. Writing ARM in DPIPE_LCTRL arms a layer slot's shadow set. -/
  | layerArm (who : Who) (l : Nat) (v : Word)
  /-- R212. At the apply line every armed shadow set of the output applies in one cycle. -/
  | applyLine (n : Nat)
  /-- R212. At line VACTIVE the frame counter increments, and swaps, timing changes and deferred removals take effect. -/
  | frameBoundary (n : Nat)
  /-- R283. At the first VSYNC line the blink phases are latched and frame lock is measured. -/
  | verticalStart (n : Nat)
  /-- R250. A fetch that cannot deliver data makes the layer show its fill colour, sets FAULTED where required and writes LAYER_FAULT. -/
  | layerFetchFault (l : Nat) (reason : Nat) (line : Nat)
  /-- R228. A layer whose buffer runs dry shows its fill colour to the end of the line and counts the underrun. -/
  | layerUnderrun (l : Nat) (line : Nat)
  /-- R244. Returns an output's timing, link and size status. -/
  | outputQuery (k : Nat)
  /-- R256. Checks a new mode and link and applies it, holds it for the S-world, or stops the stream with OFF. -/
  | modeSet (k : Nat)
  /-- R243. Runs a native or I2C-over-AUX transaction. -/
  | auxXfer (k : Nat) (reply : AuxReply)
  /-- R217. Assigns a slot to a client and output with its z and placement. -/
  | layerAssign (k : Nat)
  /-- R236. Frees a slot at the output's next frame boundary. -/
  | layerUnassign (k : Nat)
  /-- R237. Loads a slot's shadow set, recomputes its buffer and arms it. -/
  | layerSet (k : Nat)
  /-- R238. Changes the source addresses of 1-4 slots and arms them together. -/
  | flip (k : Nat)
  /-- R239. Reads a slot's palette into its shadow set and arms it. -/
  | paletteSet (k : Nat)
  /-- R268. A write to a locked Plate SRAM page is discarded, recorded in ETCH_WPROT, raises source 168 and writes PLATE_WRITE_REFUSED. -/
  | plateLockedWrite (who : Who) (addr : Nat)
  /-- R298. Submits a plate list to the list checker for a layer, optionally arming a swap. -/
  | listLoad (k : Nat)
  /-- R299. Makes the pending entries of the named layers empty. -/
  | listUnload (k : Nat)
  /-- R288. The checker accepts the list as pending and locks its pages, or refuses it with a reason. -/
  | listCheckDone
  /-- R300. Arms the etched swap of the named outputs. -/
  | swap (k : Nat)
  /-- R269. A retired list is released, its page locks drop and LIST_RELEASED is written. -/
  | listRelease (ix : Nat)
  /-- R301. Starts or restarts a blink counter on the named outputs. -/
  | blinkSet (k : Nat)
  /-- R282. A blink counter's phase changes, which counts as a change and ends a stretched porch where it is used. -/
  | blinkPhaseChange (n : Nat) (c : Nat)
  /-- R302. Accepts or refuses the MODE_SET held for an output. -/
  | modeDecide (k : Nat)
  /-- R303. Returns an output's etched status. -/
  | etchQuery (k : Nat)
  /-- R318. A window line's CRC from the pins is compared with its reference, and a mismatch is reported or starts a takeover. -/
  | proofVerdict (n : Nat) (w : Nat) (line : Nat) (crc : Nat)
  /-- R326. At the first line start after the reserve pipe's pipeline is full, the stream switches to it and TAKEOVER_DONE is written. -/
  | takeoverSwitch (n : Nat) (line : Nat)
  /-- R322. The idle reserve pipe starts the next queued proof pass. -/
  | proofPassStart
  /-- R321. A pass ends, its bank is written and PASS_DONE is written. -/
  | proofPassEnd
  /-- R334. At the end of the return-check frame the output either switches back to its pipe with RETURNED or stays on the reserve pipe. -/
  | returnCheckEnd (n : Nat) (bad : Option Nat)
  /-- R335. Every SINK_PERIOD frames the sink's CRC is read over AUX and compared. -/
  | sinkCrcRead (n : Nat) (crc : Option (Nat × List Nat × List Nat))
  /-- R337. Enables, guards or disables Proof on an output and sets its proof area. -/
  | guardSet (k : Nat)
  /-- R338. Writes watch-window entries and queues a pass. -/
  | windowSet (k : Nat)
  /-- R339. Arms the return check of an output in takeover. -/
  | proofReturn (k : Nat)
  /-- R333. Starts a takeover as if the next window line had mismatched, without a fault. -/
  | proofForce (k : Nat)
  /-- R340. Returns Proof status for an output. -/
  | proofQuery (k : Nat)
  /-- R352. Graver fills a rectangle with a colour. -/
  | fill (k : Nat)
  /-- R353. Graver fills a rectangle with a linear gradient. -/
  | gradient (k : Nat)
  /-- R352. Graver copies a rectangle with optional rotation and mirroring. -/
  | copy (k : Nat)
  /-- R354. Graver composes a source over a background with a Porter-Duff mode. -/
  | blend (k : Nat)
  /-- R352. Graver scales a rectangle with a bilinear or bicubic filter. -/
  | scale (k : Nat)
  /-- R353. Graver converts a rectangle between formats. -/
  | convert (k : Nat)
  /-- R356. Graver fills a path inside the clip. -/
  | pathFill (k : Nat)
  /-- R356. Graver strokes a path inside the clip. -/
  | pathStroke (k : Nat)
  /-- R357. Graver draws a glyph run from an atlas in client memory. -/
  | grvGlyphs (k : Nat)
  /-- R371. Loads the client's Graver palette. -/
  | grvPaletteLoad (k : Nat)
  /-- R371. Saves the client's Graver context. -/
  | grvCtxSave (k : Nat)
  /-- R371. Restores a Graver context after the checks of R185. -/
  | grvCtxRestore (k : Nat)
  /-- R366. An in-place strip ends, its engine is released and the next strip is requested. -/
  | graverStripEnd (k : Nat)
  /-- R372. A write of GRV_CTXBASE places the context table and increments the class 0x05 epoch. -/
  | grvCtxbaseWrite (who : Who) (hi : Bool) (v : Word)
  /-- R505. A request for a pool is granted at once, takes away an eligible holder, is queued, is held outside, or is refused. -/
  | arbiterRequest (q : Requester) (pool : Nat) (lockNs : Option Nat)
  /-- R506. The taken unit stops the holder's work, the head is granted, and the holder re-enters the queue. -/
  | takeAwayStop (u : Nat)
  /-- R509. A released or withdrawn unit becomes free and is granted to the head of the queue. -/
  | arbiterRelease (u : Nat)
  /-- R513. A locked sequence passing LOCK_MAX increments ARB_OVERRUN and raises source 304+k. -/
  | lockOverrun (u : Nat)
  /-- R574. Computes, appends or checks and strips a check value over the input segments. -/
  | hallRun (k : Nat)
  /-- R583. Returns a Hallmark channel's status and counts. -/
  | hallQuery (k : Nat)
  /-- R383. A panel's scan starts LEAD µs after a frame boundary, a nominal period, or its free-running timer. -/
  | scanStart (p : Nat)
  /-- R378. A drive window's 512 samples are demodulated into raw values and noise figures. -/
  | driveWindowEnd (p : Nat) (win : List (Bool × List Nat))
  /-- R380. A quiet survey records the noise of all 80 bins. -/
  | surveyEnd (p : Nat) (win : List (Bool × List Nat))
  /-- R384. A survey that cannot be placed within 2 x SURVEY_FRAMES is skipped and counted. -/
  | surveySkipped (p : Nat)
  /-- R405. After the last drive window the touch-downs, lift-offs and positions are decided and the baselines are updated. -/
  | scanDecision (p : Nat) (copy2 : Option (List Nat))
  /-- R403. The scan's report is written to each set-up report ring and source 208+p is raised. -/
  | reportWrite (p : Nat)
  /-- R394. A contact stationary for PERSIST_S becomes PERSISTENT. -/
  | persistTimer (p : Nat) (id : Nat)
  /-- R389. An idle panel moves to the next idle level when its idle time expires. -/
  | idleLevelTimer (p : Nat)
  /-- R380. Every SURVEY_FRAMES nominal frames a survey falls due. -/
  | surveyDue (p : Nat)
  /-- R397. In Sleep the wake panel scans every 500 ms and requests wake-up on a contact. -/
  | wakeScan (wins : List (List (Bool × List Nat)))
  /-- R415. Sets a panel's lines, output, drive and mapping, and enables or disables it. -/
  | panelSet (k : Nat)
  /-- R416. Sets a panel's thresholds and idle levels. -/
  | panelTune (k : Nat)
  /-- R417. Sets up or removes the submitter's report ring. -/
  | reportSetup (k : Nat)
  /-- R418. Sets or frees a touch zone. -/
  | zoneSet (k : Nat)
  /-- R396. Absorbs a persistent contact into the baseline at the next scan. -/
  | absorb (k : Nat)
  /-- R419. Puts a panel back into ACQUIRE. -/
  | recalibrate (k : Nat)
  /-- R420. Returns a panel's status, noise, contacts and zone count. -/
  | panelQuery (k : Nat)
  /-- R421. Saves a panel's set-up parameters. -/
  | tchCtxSave (k : Nat)
  /-- R421. Restores a panel's set-up parameters and enters ACQUIRE when enabled. -/
  | tchCtxRestore (k : Nat)
  /-- R438. An enabled edge on HAP_TRIG[k] starts its effect on the actuator within 5 µs. -/
  | hapTrigEdge (j : Nat) (rising : Bool)
  /-- R409. A zone action starts its effect on its actuator within 100 µs of the decision. -/
  | hapticZoneTrigger (z : Nat)
  /-- R429. A segment's duration ends and the next segment starts, or the effect ends and coasts. -/
  | segmentEnd (a : Nat)
  /-- R440. A coast window during a sustain segment measures back-EMF and checks for STALL. -/
  | coastWindow (a : Nat) (bemf : Nat)
  /-- R439. 200 µs after drive start the current is checked for OPEN, and R_EST is recorded. -/
  | openCheck (a : Nat) (ma : Nat)
  /-- R427. Current above 600 mA coasts the bridge and records a SHORT fault. -/
  | overcurrent (a : Nat) (ma : Nat)
  /-- R426. Every 1 ms VHAP is measured and duties are recomputed. -/
  | vhapMeasure (mv : Nat)
  /-- R447. Starts an effect, or STOP, on an actuator. -/
  | play (k : Nat)
  /-- R447. Loads a waveform slot. -/
  | waveLoad (k : Nat)
  /-- R447. Frees a waveform slot. -/
  | waveFree (k : Nat)
  /-- R447. Returns an actuator's status, measurements and counts. -/
  | actQuery (k : Nat)
  /-- R447. Learns a signature, resets wear counts, or clears an actuator fault. -/
  | maint (k : Nat)
  /-- R452. Configures a TDM, I2S or DisplayPort audio port. -/
  | portSet (k : Nat)
  /-- R476. Writes multiplexer routes into a shadow bank. -/
  | routeSet (k : Nat)
  /-- R471. Writes a bus's settings into its shadow bank. -/
  | busSet (k : Nat)
  /-- R474. Arms the swap of the named shadow banks at the next sample boundary. -/
  | safeload (k : Nat)
  /-- R475. At the sample boundary the named banks swap and SAFELOAD_DONE is written. -/
  | safeloadSwap (v : Bool)
  /-- R465. Moves the router between SERVICE, TEST and RECOVERY. -/
  | routerState (k : Nat)
  /-- R477. Attaches or detaches a generator pair to a bus. -/
  | genSet (k : Nat)
  /-- R478. Starts, stops or stores a tone cadence. -/
  | toneSet (k : Nat)
  /-- R478. A cadence step ends and the next step or repeat starts, or the cadence ends with TONE_DONE. -/
  | cadenceStepEnd (g : Nat)
  /-- R480. Plays a ROM beep on a generator. -/
  | beepPlay (k : Nat)
  /-- R480. A zone action injects its beep into a bus within 100 µs of the decision. -/
  | zoneBeepTrigger (z : Nat)
  /-- R467. A crossfade ends, the old path detaches and a held change starts. -/
  | crossfadeEnd (d : Nat)
  /-- R482. Sets up or removes a memory or capture stream. -/
  | streamSetup (k : Nat)
  /-- R484. Starts, stops or sets the gain of a stream. -/
  | streamCtrl (k : Nat)
  /-- R483. Once per millisecond a stream's ring is read or written under its owner's identity. -/
  | streamFetch (st : Nat) (frames : List Nat)
  /-- R492. Enables or disables the alarm pair and sets ducking. -/
  | alarmSet (k : Nat)
  /-- R496. Returns router, stream, bus or multiplexer status. -/
  | audioQuery (k : Nat)
  /-- R488. Saves a stream's set-up and position. -/
  | audCtxSave (k : Nat)
  /-- R488. Restores a stream's set-up and position after the checks of R185. -/
  | audCtxRestore (k : Nat)
  /-- R454. A stopped or out-of-range port clock silences the port and writes PORT_EVENT. -/
  | portClockLost (p : Nat) (rate : Nat)
  /-- R454. A port whose clock is back in range resumes at its first complete frame. -/
  | portClockBack (p : Nat) (rate : Nat)
  /-- R490. A difference between the lanes of bus 15 sets MISMATCH, raises source 240 and writes ALARM_EVENT. -/
  | alarmLaneMismatch
  /-- R491. A read-back difference on an alarm port in 2 frames marks that member failed. -/
  | alarmMemberFail (m : Nat)
  /-- R608. Returns the Folio's status. -/
  | folioQuery (k : Nat)
  /-- R597. Snapshots the counters and commits the lifetime records. -/
  | folioFlush (k : Nat)
  /-- R608. Commits a SETTINGS record. -/
  | settingsWrite (k : Nat)
  /-- R608. Reads a SETTINGS record. -/
  | settingsRead (k : Nat)
  /-- R608. Reads a log record by index. -/
  | logRead (k : Nat)
  /-- R602. Sets or deletes a calendar entry. -/
  | calSet (k : Nat)
  /-- R608. Marks an inspection done, moves its due day on and writes a MAINT record. -/
  | calDone (k : Nat)
  /-- R605. Erases both areas and starts a new Folio. -/
  | folioAdopt (k : Nat)
  /-- R597. Every 15 minutes of RTC time the counters are flushed to the Folio. -/
  | flushTimer
  /-- R590. A flash program on port 1 ends, and the next step of the record or its commit follows. -/
  | flashProgramDone (ok : Bool)
  /-- R594. The new area's header is committed and COMPACTED is written. -/
  | compactionCommit
  /-- R603. At each change of day the calendar entries are evaluated. -/
  | dayChange
  /-- R600. Once a minute the hottest sensor adds one minute to its Tj bin. -/
  | histogramMinute (tj : Int)
  /-- R606. A fall of PWR_FAIL_N stops Folio work, snapshots the counters and commits a COUNTERS record. -/
  | pwrFailFall
  /-- R719. A rise of PWR_FAIL_N with supplies in range resumes Folio writes and writes POWER_RESTORED. -/
  | pwrFailRise (ok : Bool)
  /-- R621. PORESET_N rising runs the boot ROM, loads firmware, shows the start-up plate, clears DRAM and starts service. -/
  | coldBoot
  /-- R618. An image received on UART 0 is verified, written to slot A and followed by a cold reset. -/
  | uartRecoveryImage (image : List Byte)
  /-- R632. Returns firmware status and versions. -/
  | fwQuery (k : Nat)
  /-- R622. Erases the inactive slot of a pair. -/
  | fwErase (k : Nat)
  /-- R622. Writes image data into the inactive slot. -/
  | fwWrite (k : Nat)
  /-- R623. Verifies the inactive slot's image. -/
  | fwVerify (k : Nat)
  /-- R624. Starts the pause that activates the verified inactive slot on trial. -/
  | fwActivate (k : Nat)
  /-- R624. The new firmware starts, checks its settings, resumes command service and opens the health window. -/
  | activationResume
  /-- R627. Confirms the pair on trial and may advance FW_SVN. -/
  | fwConfirm (k : Nat)
  /-- R628. Abandons the trial and falls back. -/
  | fwAbandon (k : Nat)
  /-- R628. The health window ending without confirmation falls back to the old slot. -/
  | healthWindowExpiry
  /-- R667. Returns fault status and the first fault. -/
  | faultQuery (k : Nat)
  /-- R667. Releases FAULT_N and clears CLASSES. -/
  | faultClear (k : Nat)
  /-- R667. Enters the safe state on command. -/
  | safeEnter (k : Nat)
  /-- R642. A fault that asserts FAULT_N is committed as a FAULT record within 1 s. -/
  | faultRecord
  /-- R636. A timing generator whose line count stalls for 4 line periods is a class 7 fault, and its panels free-run. -/
  | timingStall (n : Nat)
  /-- R636. The root PLL losing lock or a domain clock stopping is a class 14 fault handled from the always-on domain. -/
  | clockFault
  /-- R638. An uncorrectable on-chip SRAM word enters the safe state or gives a poisoned response. -/
  | sramUncorrectable (arr : Nat) (layer : Option Nat)
  /-- R659. A write of KICK restarts the watchdog period. -/
  | swdogKick (who : Who) (v : Word)
  /-- R659. The watchdog expiring is a class 15 fault and enters the safe state. -/
  | watchdogExpiry
  /-- R660. Fires a Rubbing trigger, locally or as a group trigger. -/
  | rubFire (k : Nat)
  /-- R660. An enabled edge on RUB_IN is accepted as a Rubbing trigger. -/
  | rubInEdge
  /-- R660. 64 cycles after acceptance every unit latches its snapshot, or the trigger is counted as missed. -/
  | rubbingLatch
  /-- R661. A held snapshot is released after AUTO_MS. -/
  | rubAutoRelease
  /-- R666. Returns the snapshot records in the reader's view. -/
  | rubRead (k : Nat)
  /-- R667. Releases the held snapshot and clears RUB_MISS. -/
  | rubRelease (k : Nat)
  /-- R693. Configures a Dzivlink port's mode and FEC. -/
  | linkSet (k : Nat)
  /-- R674. Sets the gPTP domain and priorities. -/
  | timeSet (k : Nat)
  /-- R682. Sets the group, member number and group key. -/
  | groupSet (k : Nat)
  /-- R693. Sets or clears roster entries. -/
  | rosterSet (k : Nat)
  /-- R685. Admits a REPLACED or UNKNOWN member into the roster. -/
  | admitMember (k : Nat)
  /-- R686. Sends an ALARM frame on both ports. -/
  | alarmSend (k : Nat)
  /-- R678. Frame-locks an output to an anchor and period. -/
  | lockSet (k : Nat)
  /-- R689. Sets an intercom channel's transmit and receive. -/
  | intercomSet (k : Nat)
  /-- R690. Binds a queue pair to a port, address, VLAN and rings. -/
  | qpSetup (k : Nat)
  /-- R693. Makes the WX8 re-read a queue pair's rings. -/
  | qpKick (k : Nat)
  /-- R693. Returns port and time status. -/
  | linkQuery (k : Nat)
  /-- R683. A received group frame is authenticated and acted on, or refused. -/
  | groupFrameReceived (port : Nat) (frame : List Byte)
  /-- R675. An 802.1AS message updates network time and steers device time. -/
  | ptpMessage (port : Nat) (off : Int) (gm : Bool)
  /-- R676. syncReceiptTimeout with no other grandmaster clears SYNC and writes TIME_LOST. -/
  | syncTimeout (other : Bool)
  /-- R684. Every 100 ms a HELLO is sent, and every 10 s an IDENT. -/
  | helloTimer
  /-- R684. A PRESENT member without a HELLO for 300 ms becomes LOST. -/
  | memberTimeout (j : Nat)
  /-- R663. Device time reaching a group trigger's TIME fires the Rubbing trigger. -/
  | groupTriggerTime
  /-- R689. Every 2 ms an intercom channel sends 32 samples as an INTERCOM frame. -/
  | intercomFrameSend (j : Nat) (samples : List Nat)
  /-- R689. A receive channel whose buffer has been empty for 20 ms becomes inactive. -/
  | intercomIdle (j : Nat)
  /-- R691. A received client frame is delivered to the matching queue pair's ring. -/
  | qpFrameReceived (port : Nat) (frame : List Byte)
  /-- R691. A transmit descriptor with OWN set is sent with the QP's VLAN, or refused. -/
  | qpTransmit (q : Nat)
  /-- R672. A Dzivlink port's link comes up or goes down. -/
  | ethLinkChange (port : Nat) (up : Bool)
  /-- R703. Requests a move to Run, Dim, Sleep or Vault. -/
  | powerState (k : Nat)
  /-- R707. An applied Sleep request drains the N-world, flushes, stops outputs, self-refreshes DRAM and powers domains down. -/
  | sleepEntry
  /-- R710. A Vault request flushes, stops outputs, writes the seal and turns off every rail. -/
  | vaultEntry
  /-- R708. A wake panel contact, wake GPIO edge, RTC alarm or S ring request starts the exit from Sleep or Vault. -/
  | wakeSource (cause : Nat) (pin : Nat)
  /-- R709. Rails, domains and DRAM return, and the cores resume at PWR_RESUME. -/
  | sleepExit
  /-- R704. In Dim a cluster whose cores have all waited for 100 µs is clock-gated. -/
  | clusterIdleGate (c : Nat)
  /-- R704. An interrupt to a gated cluster resumes it within 20 µs. -/
  | clusterWake (c : Nat)
  /-- R699. Turns a power domain off, on or resets it. -/
  | domainSet (k : Nat)
  /-- R700. A restored domain is powered with reset registers, PWR_SREADY is set and STATE_CHANGED is written. -/
  | domainRestored (d : Nat)
  /-- R721. S ring or mediator command for a warm reset or an N-world reset. -/
  | reset (k : Nat)
  /-- R723. The N-world reset clears N-world DRAM, verifies the boot image, releases the cores and writes N_RESET_DONE. -/
  | nworldResetDone
  /-- R721. RESET_N low for at least 1 µs starts a warm reset. -/
  | resetNLow
  /-- R653. PORESET_N low holds the device in reset with FAULT_N and SAFE_N driven low. -/
  | poresetLow
  /-- R720. Sets the RTC directly or from network time. -/
  | rtcSet (k : Nat)
  /-- R724. Returns power and always-on status. -/
  | powerQuery (k : Nat)
  /-- R715. A rail reporting power good lets the sequence continue after DELAY_MS. -/
  | railPowerGood (r : Nat)
  /-- R716. A rail not reporting power good within 10 ms is retried, then reported with RAIL_FAULT. -/
  | railTimeout (r : Nat) (status : Nat)
  /-- R717. Every 1 ms the AVS rail is moved one step towards the lowest voltage that keeps the margin. -/
  | avsAdjust (dir : Nat)
  /-- R718. The hottest sensor reaching the Tj limit raises source 4. -/
  | tjLimit
  /-- R714. A debounced fall of CASE_OPEN_N counts the opening, stores its RTC and raises source 6. -/
  | caseOpen
  /-- R713. VBAT below 1.6 V with no main supply loses the always-on contents. -/
  | vbatLoss
  /-- R751. Assigning ports or pins to the S-world, or releasing them, moves their sources to band S and resets released ports. -/
  | lsioSownWrite (who : Who) (addr : Nat) (v : Word)
  /-- R753. A write of LSIO_CTRL starts or stops a port, and stopping empties both FIFOs. -/
  | lsioCtrlWrite (who : Who) (p : Nat) (v : Word)
  /-- R753. Appends one entry to a port's transmit FIFO, or sets ERROR when it is full. -/
  | lsioTxPush (who : Who) (p : Nat) (v : Word)
  /-- R753. Removes the head entry of a port's receive FIFO. -/
  | lsioRxPop (who : Who) (p : Nat) (v : Word)
  /-- R754. A received byte or CAN frame enters the receive FIFO, or is dropped with RX_OVERRUN. -/
  | lsioRxEntry (p : Nat) (entries : List Nat)
  /-- R754. A stop, an emptied UART transmitter or a sent CAN frame sets DONE. -/
  | lsioTxDone (p : Nat)
  /-- R754. A NACK, arbitration loss, timeout or bus error sets ERROR, and I2C discards entries up to the next START. -/
  | lsioBusError (p : Nat) (tec : Nat) (rec : Nat)
  /-- R755. A CAN FD controller changes error state, including bus-off recovery, and sets STATE_CHANGE. -/
  | canStateChange (p : Nat) (st : Nat)
  /-- R756. A selected edge on a GPIO pin sets its EDGE bit and makes its group's source pending. -/
  | gpioEdge (ix : Nat) (level : Bool)
  /-- R594. A block erase on an xSPI port ends, letting compaction, FOLIO_ADOPT or FW_ERASE go on, and FW_STAGED with DATA0 0 is written when the slot is erased. -/
  | flashEraseDone (port : Nat) (ok : Bool)
  /-- R623. The deferred verification of the inactive slot ends, marks the slot verified or not, and writes FW_STAGED with the result. -/
  | fwVerifyDone
  /-- R562. The scrub of a released mirror's secondary range to ink 0 ends, the range returns to the address map and MIRROR_STATE is written. -/
  | mirrorReleaseDone (m : Nat)
  /-- R636. A read of an on-chip SRAM word finds one damaged symbol, corrects it in line and writes it back within 1 µs as a class 12 fault. -/
  | sramCe
  /-- R466. A gain, stop or ducking ramp reaches its target, so mute becomes exact zero and a stopped playback stream reads no further frames. -/
  | gainRampEnd (ix : Nat)
  /-- R748. The always-on domain powers up from VDD_AON or VBAT, drives PWR_HOLD low until its own reset ends, then high within 2 ms. -/
  | aonPowerUp
  /-- R721. RESET_N rises after a warm reset and the boot sequence of R621 runs, reloading the safety application and the start-up plate. -/
  | warmResetRelease
  deriving DecidableEq, Repr

end Sys2Proof
end

