-- ==== Sys2Proof/Machine/TypesCore.lean ====
section
/-! DEFINITION. The parts of the state that every unit shares: the answer port, the worlds and interrupts (02), the rings and
packets (03), the clients (04) and the memory controller (13). -/

namespace Sys2Proof.Machine

/-- What the last access got as its answer: the model's own view of the response side of the fabric. -/
inductive Resp where
  | none
  /-- data returned to a read -/
  | data (bytes : List Byte)
  /-- the access was carried out (a write) -/
  | done
  /-- a read of a register the reader may not see, or of a gated or misaligned place, returns 0; a write is ignored (00 R5, 01 R25) -/
  | zero
  /-- an access-fault exception at a core (01 R24) -/
  | accessFault
  /-- an error response (01 R24) -/
  | errorResponse
  /-- an ink fault (01 R15); no data -/
  | inkFault
  /-- a poisoned response (13 R530) -/
  | poisoned
  /-- a frozen response (13 R552) -/
  | frozen
  /-- a fenced response (13 R557) -/
  | fenced
  /-- a core's request waits at its channel (13 R552) -/
  | waits
  /-- Unsupported Request on PCIe (04 R193) -/
  | unsupported
  deriving DecidableEq, Repr

/-- One write held in the commit buffer of the active pair (02 R35). -/
inductive Buffered where
  | reg (addr : Nat) (v : Word)
  | mem (addr : Nat) (data : List Byte)
  deriving DecidableEq, Repr

/-- A power request held under 02 R85-R87: what it will do, the domains it cuts, its submitter and its TAG.
`kind` 0 is DOMAIN_SET off, 1 DOMAIN_SET reset, 2 POWER_STATE to Sleep, 3 to Vault. -/
structure Deferred where
  kind    : Nat
  domains : List Nat
  ring    : RingId
  tag     : Nat
  deriving DecidableEq, Repr

/-- Worlds, safety pairs, interrupts, mailboxes and debug (02). -/
structure Wld where
  /-- pending state of sources 1-511, in whichever band each source is (R61, R63, R767) -/
  pend      : BitVec 512
  /-- band-S sources pending or taken since the last commit (R40) -/
  taken     : BitVec 512
  /-- the band-S source last signalled to the active pair (R66) -/
  signalled : Option Nat
  /-- sources whose messages the APLIC has sent, oldest first (R767) -/
  aplicSent : List Nat
  /-- buffered writes of the active pair, oldest first (R35) -/
  commitBuf : List Buffered
  /-- checkpoint commits so far (R35); the registers a checkpoint copies are the cores' own -/
  commits   : Nat
  /-- a switch to pair B is under way since this cycle (R38) -/
  switching : Option Nat
  /-- pair A is held out of service (after R41) -/
  pairAHeld : Bool
  /-- S-world invasive debug in effect (R80) -/
  sinvEff   : Bool
  /-- S-world non-invasive debug in effect (R80) -/
  sninvEff  : Bool
  /-- mailbox m: bytes 512m to 512m+255 are its N2S buffer, 512m+256 to 512m+511 its S2N buffer (R72) -/
  mbx       : SMap Byte
  /-- held power requests, oldest first (R87) -/
  deferred  : List Deferred
  deriving DecidableEq, Repr

/-- The header, fence block and parameters of a packet (03 R109-R113). -/
structure Packet where
  opcode    : Nat
  entries   : Nat
  flags     : Nat
  client    : Nat
  gen       : Nat
  tag       : Nat
  waitAddr  : Nat
  waitValue : Nat
  sigAddr   : Nat
  sigValue  : Nat
  params    : List Byte
  index     : Nat
  deriving DecidableEq, Repr

/-- The completion a packet ends with (03 R129, R132): STATUS and RESULT0-RESULT3. -/
structure Result where
  status : Nat
  r0     : Nat
  r1     : Nat
  r2     : Nat
  r3     : Nat
  deriving DecidableEq, Repr

/-- A packet in execution (03 R125): its ring, the packet, its generation stamp, how often it was restarted (R133), an
operation's own progress counter, and its result once the operation has ended. -/
structure Started where
  ring     : RingId
  pkt      : Packet
  restarts : Nat
  progress : Nat
  result   : Option Result
  /-- the result was known at once, but the completion waits for a later moment (04 R163, 13 R563) -/
  held     : Bool
  deriving DecidableEq, Repr

/-- A ring set in service or not (03 R98-R145). Heads and tails are ring indexes; `cqPass` and `eqPass` count the passes
through the rings, from which PHASE follows (R130). -/
structure RingSet where
  enabled   : Bool
  draining  : Bool
  sqLog     : Nat
  cqLog     : Nat
  eqLog     : Nat
  sqBase    : Nat
  cqBase    : Nat
  eqBase    : Nat
  sqHead    : Nat
  sqTail    : Nat
  cqHead    : Nat
  cqTail    : Nat
  eqHead    : Nat
  eqTail    : Nat
  cqPass    : Nat
  eqPass    : Nat
  /-- completion entries reserved for started packets (R126) -/
  reserved  : Nat
  halted    : Bool
  haltIndex : Nat
  /-- the BAD_LENGTH completion of the halting packet still waits for room (R117) -/
  haltOwed  : Option Packet
  doorBad   : Bool
  /-- completion entries whose write faulted, oldest first (R145) -/
  stalled   : List (Packet × Result)
  /-- events dropped since the last EVENTS_LOST, and the CODE of the first (R144) -/
  lost      : Nat
  lostCode  : Nat
  /-- unit classes whose events are written (R134, EVENT_MASK) -/
  mask      : Nat
  fenceTmo  : Nat
  rank      : Nat
  classMask : Nat
  /-- the packet at the head passed its checks and waits on its fence since this cycle (R121, R122) -/
  wait      : Option (Packet × Nat)
  /-- the place of the RING_DISABLE that takes the set out of service (R137) -/
  disableBy : Option Nat
  /-- unstarted packets dropped by the disable (R137) -/
  dropped   : Nat
  deriving DecidableEq, Repr

/-- Rings, packets and residency (03; 04 R167-R170). -/
structure Cp where
  /-- ring sets: client n at key n, the mediator at 4096, the S-world at 4097 -/
  rings     : SMap RingSet
  /-- the packets in execution, by place (R125) -/
  places    : SMap (Option Started)
  /-- resident contexts in the order they became resident (R99) -/
  resident  : List Nat
  /-- contexts waiting for residency, in the order of their doorbells (04 R169) -/
  waiting   : List Nat
  deriving DecidableEq, Repr

/-- The values of a SHARE_SET (04 R160) waiting for the quantum boundary, with the place that carries it. -/
structure Share where
  place    : Nat
  ring     : RingId
  force    : Bool
  weight   : Nat
  inflight : Nat
  layers   : Nat
  streams  : Nat
  captures : Nat
  qpairs   : Nat
  deriving DecidableEq, Repr

/-- A client's translation binding (04 R187). -/
structure Binding where
  dc     : Nat
  mode   : Nat
  pscid  : Nat
  root   : Nat
  deriving DecidableEq, Repr

/-- The instance of a client (04 R151, R152). -/
structure Client where
  gen        : Nat
  weight     : Nat
  inflight   : Nat
  layers     : Nat
  streams    : Nat
  captures   : Nat
  qpairs     : Nat
  credit     : Nat
  /-- an instance reset is under way; the place of the INSTANCE_RESET that started it, if a packet did -/
  resetting  : Bool
  resetBy    : Option Nat
  /-- completions and engine writes discarded by this reset (R179, R180) -/
  discardedC : Nat
  discardedW : Nat
  /-- both together since cold reset (R158) -/
  discarded  : Nat
  shares     : List Share
  /-- submitter of the SHARE_SET whose evictions are still under way, and how many remain (R163) -/
  shrinking  : Option (RingId × Nat)
  bind       : Option Binding
  deriving DecidableEq, Repr

/-- A removal of a resource not yet in effect (04 R165, R173): type, instance, client, layer slot, whether it is a revoke, who
asked, and the client the resource goes to afterwards. -/
structure Removal where
  type     : Nat
  inst     : Nat
  client   : Nat
  slot     : Nat
  revoke   : Bool
  ring     : RingId
  next     : Option Nat
  deriving DecidableEq, Repr

/-- A device context (04 R186). -/
structure DevCtx where
  mode  : Nat
  gscid : Nat
  root  : Nat
  deriving DecidableEq, Repr

/-- A cached translation of one 4 KiB page (04 R188, R191). -/
structure TlbEntry where
  client : Nat
  dc     : Nat
  vpage  : Nat
  ppage  : Nat
  write  : Bool
  deriving DecidableEq, Repr

/-- A PCIe mapping (04 R195); `pasid` none is the no-PASID client. -/
structure PasidMap where
  fn     : Nat
  pasid  : Option Nat
  client : Nat
  vector : Nat
  deriving DecidableEq, Repr

/-- Clients, grants, translation and PCIe (04). -/
structure Cl where
  clients  : SMap Client
  /-- outputs granted to clients (R172) -/
  outputs  : List (Nat × Nat)
  /-- holder of a panel, actuator, stream, capture stream or queue pair, at key 64 type + instance (R172) -/
  holders  : SMap (Option Nat)
  removals : List Removal
  devctx   : SMap (Option DevCtx)
  tlb      : List TlbEntry
  pasids   : List PasidMap
  /-- MSI-X messages written: function and vector, oldest first (R194) -/
  msix     : List (Nat × Nat)
  /-- functions with a function-level reset under way (R197) -/
  flr      : List (Nat × Nat)
  deriving DecidableEq, Repr

/-- What a channel froze on (13 R551, R552). -/
structure Freeze where
  cause : Nat
  addr  : Nat
  ink   : Nat
  since : Nat
  mr    : Nat
  deriving DecidableEq, Repr

/-- A request waiting in a channel's queue (13 R537, R538, R552): its present and native class, when it entered, and what it does. -/
structure Queued where
  req    : Req
  cls    : Cls
  since  : Nat
  addr   : Nat
  write  : Option (List Byte)
  deriving DecidableEq, Repr

/-- An entry of a heavy-row table (13 R548). -/
structure HeavyRow where
  ch    : Nat
  rank  : Nat
  bank  : Nat
  row   : Nat
  who   : Who
  count : Nat
  deriving DecidableEq, Repr

/-- A mirror (13 R559): its primary and secondary base, its size in bytes, and whether it is being released. -/
structure Mirror where
  primary   : Nat
  secondary : Nat
  size      : Nat
  releasing : Bool
  deriving DecidableEq, Repr

/-- The memory controller (13). Data words are numbered by physical address divided by 32. -/
structure Mc where
  /-- the stored INK of every DRAM word (R523, R57) -/
  inks      : RunMap
  /-- the words with POISON 1 (R523) -/
  poison    : SMap Bool
  /-- damaged symbols of stored words: per word, symbol number and the error in it (R524, R525) -/
  damage    : SMap (List (Nat × Byte))
  /-- damaged side words, by channel × 2^32 + side word (R521, R551 cause 2) -/
  sideBad   : SMap Bool
  /-- word addresses whose corrected data wait to be written back (R526) -/
  writeback : List Nat
  /-- freezes in force, per channel (R551) -/
  frozen    : SMap (Option Freeze)
  /-- channels whose last self-thaw was at this cycle (R554) -/
  selfThaw  : SMap (Option Nat)
  /-- queued requests per channel, oldest first (R522, R537) -/
  queues    : SMap (List Queued)
  /-- batches pulled in per channel (R544) -/
  ahead     : SMap Nat
  /-- DRAM mode registers that differ from the controller's copy: channel, register (R551 cause 4) -/
  mrBad     : List (Nat × Nat)
  /-- heavy-row tables (R548) and the throttles in force: channel, rank, bank, requester (R549) -/
  heavy     : List HeavyRow
  throttled : List (Nat × Nat × Nat × Who)
  /-- the counts the active slot table of a group is built from: SAFE_SLOTS and ISO_DISP + ISO_RSV (R540) -/
  active    : SMap (Nat × Nat)
  /-- the counts of the shadow table that waits for the end of the round (R542) -/
  shadow    : SMap (Option (Nat × Nat))
  /-- SLOT_SET packets that complete at the swap, per group (R563) -/
  slotWait  : SMap (List Nat)
  /-- a retraining under way: the rate it began at, attempts so far, channels and cause as started (R555) -/
  retrain   : Option (Nat × Nat)
  /-- the groups fenced in the retraining under way, detected as class 11 at its end (17 R636) -/
  newFences : List Nat
  mirrors   : SMap (Option Mirror)
  /-- the next word of the patrol (R527) -/
  patrol    : Nat
  /-- when INK_FAULT was last written for a client (R533) -/
  inkTime   : SMap (Option Nat)
  /-- RANKS and DENSITY are fixed: the first training has begun (R519) -/
  trained   : Bool
  deriving DecidableEq, Repr

end Sys2Proof.Machine
end

