-- ==== Sys2Proof/Machine/TypesAudio.lean ====
section
/-! DEFINITION. The state of the audio router (11) beside its registers: multiplexers, buses, banks, generators and streams. Gains are in
hundredths of a dB, with mute at −120 dB (R463, R466). -/

namespace Sys2Proof.Machine

/-- A gain on its way: from, to, the cycle it began in, its length in samples, and the cycles of a sample (11 R466). -/
structure Ramp where
  start   : Int
  target  : Int
  began   : Nat
  samples : Nat
  period  : Nat
  deriving DecidableEq, Repr

/-- A source code and a gain code (11 R458, R463). -/
structure Route where
  src  : Nat
  gain : Nat
  deriving DecidableEq, Repr

/-- A crossfade: the source that ramps to mute, its gain when the fade began, and when that was (11 R467). -/
structure Fade where
  src   : Nat
  start : Int
  began : Nat
  deriving DecidableEq, Repr

/-- A multiplexer (11 R459, R467, R473): its active and shadow copies, the route the graph carries, and a running gain ramp or crossfade. -/
structure Mux where
  act  : Route
  shd  : Route
  cur  : Route
  ramp : Option Ramp
  fade : Option Fade
  deriving DecidableEq, Repr

/-- A bus (11 R469-R473): the 48 bytes of BUS_SET in its active and shadow copies, its domain, the scale in force, and its ramps. -/
structure Bus where
  act   : List Byte
  shd   : List Byte
  domV  : Bool
  scale : Int
  sramp : Option Ramp
  mramp : Option Ramp
  deriving DecidableEq, Repr

/-- A step of a cadence (11 R478). -/
structure ToneStep where
  freq  : Nat
  level : Nat
  dur   : Nat
  deriving DecidableEq, Repr

/-- A cadence: its steps, REPEAT, waveform (11 R478). -/
structure Cadence where
  steps  : List ToneStep
  rep    : Nat
  square : Bool
  deriving DecidableEq, Repr

/-- A running cadence: passes still to come (255 for ever), the running step and its beginning, and the submitter; the safe cadence has none. -/
structure Tone where
  cad   : Cadence
  left  : Nat
  step  : Nat
  began : Nat
  ring  : Option RingId
  deriving DecidableEq, Repr

/-- A generator pair (11 R477, R480): its bus, beep gain, running cadence, and the beep last started with its cycle. -/
structure GenPair where
  bus  : Option Nat
  gain : Nat
  tone : Option Tone
  beep : Option (Nat × Nat)
  deriving DecidableEq, Repr

/-- A memory or capture stream (11 R481-R486): owner, the 16 bytes of STREAM_SETUP, started, stopping after its ramp, gain in force and its
ramp, the router's index, fetched frames not yet played, FLAGS, events counted, and when the last event was written. -/
structure AStream where
  owner    : RingId
  params   : List Byte
  started  : Bool
  stopping : Bool
  gain     : Nat
  ramp     : Option Ramp
  index    : Nat
  fifo     : List Nat
  flags    : Nat
  count    : Nat
  recent   : Nat
  noted    : Option Nat
  deriving DecidableEq, Repr

/-- A SAFELOAD that waits for its sample boundary: banks, submitter, and the place that completes (11 R474). -/
structure Swap where
  banks : Nat
  ring  : RingId
  place : Nat
  deriving DecidableEq, Repr

/-- The audio router (11). -/
structure Aud where
  /-- PORT_SET parameters, 8 bytes, ports 0-15 (R452) -/
  ports    : SMap (List Byte)
  muxes    : SMap Mux
  buses    : SMap Bus
  swaps    : List Swap
  pairs    : SMap GenPair
  safeCad  : Cadence
  /-- playback streams at 0-67, capture streams at 128-159 -/
  streams  : SMap (Option AStream)
  /-- intercom receive channels that Dzivlink delivers (R470) -/
  rxOn     : Nat
  /-- the ducking stage of buses 0-14 (R494) -/
  duck     : Int
  dramp    : Option Ramp
  /-- buses 0-14 are muted (R495) -/
  muted    : Bool
  /-- spares counted in use: bits 0 and 1 a failed member, bit 2 a lane mismatch (17 R648) -/
  spare    : Nat
  deriving DecidableEq, Repr

/-- No route. -/
def Route.none : Route := ⟨0, 0⟩

/-- A multiplexer after reset selects silence. -/
def Mux.blank : Mux := ⟨Route.none, Route.none, Route.none, .none, .none⟩

/-- A bus after reset. -/
def Bus.blank : Bus := ⟨List.replicate 48 0, List.replicate 48 0, false, 0, none, none⟩

/-- A generator pair after reset. -/
def GenPair.blank : GenPair := ⟨none, 0, none, none⟩

/-- The safe cadence until the S-world stores another (11 R495). -/
def safeCadence : Cadence := ⟨[⟨800, 219, 250⟩, ⟨1000, 219, 250⟩], 255, false⟩

/-- The router after reset. -/
def Aud.reset : Aud :=
  { ports := [], muxes := [], buses := [], swaps := [], pairs := [], safeCad := safeCadence, streams := [], rxOn := 0, duck := 0
    dramp := none, muted := false, spare := 0 }

end Sys2Proof.Machine
end

