-- ==== Sys2Proof/Machine/TypesBoot.lean ====
section
/-! DEFINITION. The state of firmware slots, updates and their pauses (16), and of power states and the always-on domain (19)
beside their registers. -/

namespace Sys2Proof.Machine

/-- A valid boot control block (16 R616). Its MAGIC and TAG hold by being here; a copy that does not verify is `none`. -/
structure BootBlock where
  seq        : Nat
  fwActive   : Nat
  fwTrial    : Bool
  sappActive : Nat
  sappTrial  : Bool
  trialSeq   : Nat
  deriving DecidableEq, Repr

/-- A pause (16 R624, R628): the pair, whether it is a fallback and of which cause, the cycle it began in, whether the commit point is
passed, and the options of the activation. `stopped` says that packets in execution have been stopped (R624 step 2). -/
structure Pause where
  pair      : Nat
  back      : Bool
  cause     : Nat
  began     : Nat
  committed : Bool
  stopped   : Bool
  window    : Nat
  vote      : Bool
  deriving DecidableEq, Repr

/-- An event held during a pause (16 R625), with the device time of its moment. -/
structure HeldEvent where
  ring   : RingId
  code   : Nat
  inst   : Nat
  client : Nat
  d0     : Nat
  d1     : Nat
  d2     : Nat
  d3     : Nat
  time   : Nat
  deriving DecidableEq, Repr

/-- Work on an inactive slot that goes on after its packet (16 R622, R632): an erase with the blocks left, or a verification. -/
structure SlotJob where
  pair   : Nat
  slot   : Nat
  verify : Bool
  blocks : Nat
  rank   : Nat
  deriving DecidableEq, Repr

/-- Firmware and boot (16). -/
structure Fw where
  /-- xSPI port 0 from OTP FW_BASE, by offset (R615); an unlisted byte is erased, 0xFF -/
  flash    : SMap Byte
  /-- the N-world boot image, by offset from OTP NBOOT_BASE -/
  nboot    : SMap Byte
  copyA    : Option BootBlock
  copyB    : Option BootBlock
  /-- slots that are verified (R623), at bit 2 pair + slot -/
  verified : Nat
  jobs     : List SlotJob
  pause    : Option Pause
  held     : List HeldEvent
  /-- the health window: its pair, the cycle it began in and its minutes (R627) -/
  window   : Option (Nat × Nat × Nat)
  /-- FW_CONFIRM of the S ring has been accepted (R627) -/
  sDone    : Bool
  /-- the OTP counter FW_SVN (R614) -/
  svn      : Nat
  /-- VERSION and SVN of the running safety application, 0 when none runs -/
  sappVer  : Nat
  sappOk   : Bool
  /-- the S ring and the mediator ring accept ENABLE (R621 step 8) -/
  service  : Bool
  /-- neither firmware slot verified: the ROM waits for an image (R618) -/
  recovery : Bool
  deriving DecidableEq, Repr

/-- A rail sequence under way (19 R715, R716): on or off, the rails left in order, and the attempts made for the first. -/
structure RailJob where
  on    : Bool
  left  : List Nat
  tries : Nat
  deriving DecidableEq, Repr

/-- Power states and the always-on domain (19). -/
structure Pwr where
  /-- a wake source that fired during the entry to Sleep (R708) -/
  wakeHeld  : Option Nat
  /-- the WX8 is in Vault (R710) -/
  vault     : Bool
  /-- `PWR_HOLD` is high (R710, R711; 20 R748) -/
  hold      : Bool
  /-- rails commanded off by the power controller, by number -/
  railsOff  : Nat
  railJob   : Option RailJob
  /-- the vault seal and SEAL_RTC (R712) -/
  vaultSeal : Option (List Byte × Nat)
  /-- the always-on contents were lost (R713) -/
  lost      : Bool
  /-- the always-on counters must be read back from the Folio at the next boot -/
  recount   : Bool
  /-- domains being restored, with the place of the DOMAIN_SET that waits (R700) -/
  restoring : List (Nat × Option Nat)
  /-- clock-gated application clusters (R704) -/
  gated     : Nat
  /-- openings of the case not yet recorded: their RTC (R714) -/
  openings  : List Nat
  /-- an N-world reset is under way (R723) -/
  nReset    : Bool
  /-- the cycle in which `PWR_FAIL_N` fell (R719) -/
  pfAt      : Option Nat
  /-- `RESET_N` is low (R721) -/
  resetLow  : Bool
  /-- domains in retention (R706) -/
  retained  : Bool
  /-- domains that are cut: without power and clock, bit d (R698-R700) -/
  off       : Nat
  /-- domains that DOMAIN_SET has turned off, which Run leaves off (R702) -/
  offRun    : Nat
  /-- cuts that wait for a locked sequence: the domain and the place of its DOMAIN_SET (R699) -/
  cutting   : List (Nat × Nat)
  /-- `PWR_WAKE` as Vault entry found it: what wakes from Vault (R711) -/
  wake      : Nat
  deriving DecidableEq, Repr

/-- Firmware as delivered: erased flash, no boot control block. -/
def Fw.reset : Fw :=
  { flash := [], nboot := [], copyA := none, copyB := none, verified := 0, jobs := [], pause := none, held := [], window := none, sDone := false, svn := 0
    sappVer := 0, sappOk := false, service := false, recovery := false }

/-- Power after a cold reset: Run, with the main supply on. -/
def Pwr.reset : Pwr :=
  { wakeHeld := none, vault := false, hold := true, railsOff := 0, railJob := none, vaultSeal := none, lost := false, recount := false
    restoring := [], gated := 0, openings := [], nReset := false, pfAt := none, resetLow := false, retained := false, off := 0, offRun := 0, cutting := [], wake := 0 }

end Sys2Proof.Machine
end

