-- ==== Sys2Proof/Machine/TypesServices.lean ====
section
/-! DEFINITION. The state of the Engine Arbiter (12) and of faults, the safe state and Rubbing snapshots (17). -/

namespace Sys2Proof.Machine

/-- A grant of a unit (12 R505, R506, R508, R511). `order` counts grants, `since` is its cycle, `takes` the take-aways its
operation has met, `stopping` that the unit is being taken from this holder. -/
structure Grant where
  holder   : Requester
  rank     : Nat
  locked   : Bool
  shielded : Bool
  order    : Nat
  since    : Nat
  takes    : Nat
  stopping : Bool
  overran  : Bool
  deriving DecidableEq, Repr

/-- A request in a pool's queue or held outside (12 R503, R504); `taken` says that it re-entered after a take-away. -/
structure Request where
  holder : Requester
  rank   : Nat
  locked : Bool
  takes  : Nat
  taken  : Bool
  seq    : Nat
  deriving DecidableEq, Repr

/-- The Engine Arbiter (12). Units are numbered as in R516. -/
structure Arb where
  units   : SMap (Option Grant)
  queues  : SMap (List Request)
  outside : SMap (List Request)
  seq     : Nat
  deriving DecidableEq, Repr

/-- A FAULT record not yet committed (17 R642). -/
structure FaultRec where
  cls   : Nat
  inst  : Nat
  time  : Nat
  rtc   : Nat
  seq   : Nat
  count : Nat
  deriving DecidableEq, Repr

/-- One record of a Rubbing snapshot (17 R664): class, INSTANCE, OWNER and the words W0-W5. -/
structure SnapRec where
  cls   : Nat
  inst  : Nat
  owner : Nat
  words : List Nat
  deriving DecidableEq, Repr

/-- Faults, pins, the watchdog and the Rubbing snapshot (17). -/
structure Flt where
  /-- `FAULT_N` is asserted (R652, R653) -/
  faultN     : Bool
  /-- `SAFE_N` is asserted (R653, R655) -/
  safeN      : Bool
  /-- records not yet committed (R642) -/
  records    : List FaultRec
  /-- when the last record of a class and instance was committed, at key 65536 class + instance (R642) -/
  lastRec    : SMap (Option Nat)
  /-- a fault that asserts `FAULT_N` has been recorded since reset (R653) -/
  seen       : Bool
  /-- start of the watchdog period (R659) -/
  kicked     : Nat
  /-- accepted triggers that wait for their latch, oldest first: cycle, sources, and whether late (R660, R663) -/
  triggers   : List (Nat × Nat × Bool)
  /-- the records of the held snapshot (R661, R664) -/
  snapshot   : Option (List SnapRec)
  /-- the cycle of the latch (R661, R662) -/
  latchedAt  : Nat
  /-- the cycle in which `RUB_OUT` went high (R662) -/
  rubOut     : Option Nat
  /-- group triggers waiting for their device time (R663) -/
  groupTrig  : List Nat
  /-- the cycle of the fault that `DEV_FAULT_FIRST` holds (R650) -/
  firstAt    : Nat
  /-- bit n: the timing generator of output n has stalled (R636 class 7, R640) -/
  stalled    : Nat
  /-- `PORESET_N` is high (20 R741) -/
  poresetHi  : Bool
  /-- the application cores are held in reset -/
  coresHeld  : Bool
  deriving DecidableEq, Repr

end Sys2Proof.Machine
end

