-- ==== Sys2Proof/Machine/TypesDisplay.lean ====
section
/-! DEFINITION. The state of display outputs and layer slots beside their registers (05). The registers hold the shadow values
(05 R214); what is here is live, armed or waiting. -/

namespace Sys2Proof.Machine

/-- An output's timing: polarities, horizontal and vertical sizes, pixel-rate ratio (05 R207, R209). -/
structure Timing where
  hpol : Nat
  vpol : Nat
  hact : Nat
  hfp  : Nat
  hsy  : Nat
  hbp  : Nat
  vact : Nat
  vfp  : Nat
  vsy  : Nat
  vbp  : Nat
  num  : Nat
  den  : Nat
  deriving DecidableEq, Repr

/-- A mode a MODE_SET asked for (05 R242): its timing, the `DPTX_LINK` word it makes, its TAG, and whether it is an OFF. -/
structure Mode where
  timing : Timing
  link   : Nat
  tag    : Nat
  off    : Bool
  deriving DecidableEq, Repr

/-- An output (05). -/
structure Output where
  /-- the timing in use (R772) -/
  live     : Timing
  /-- the live `DTG_BG` (R224) -/
  liveBg   : Nat
  /-- a timing that has applied and takes effect at the frame boundary (R772) -/
  nextTiming : Option Timing
  /-- the stream runs (R203, R258) -/
  stream   : Bool
  /-- the stream resumes at the next frame boundary (R203, R258) -/
  resuming : Bool
  /-- attempts made in the training series under way (R202) -/
  training : Option Nat
  /-- a training was asked for while no sink was there (R202) -/
  trainDue : Bool
  /-- MODE_APPLIED waits for the stream: the cycle the mode took effect in, and whether the link is retrained for it (R258, R773) -/
  black    : Option (Nat × Bool)
  /-- an accepted MODE_SET waits for the frame boundary (R257, R258, R261) -/
  accepted : Option Mode
  /-- a MODE_SET held for the S-world (R260) -/
  held     : Option Mode
  /-- frames without a change (R253) -/
  idle     : Nat
  /-- a change happened in this frame (R254) -/
  changed  : Bool
  /-- `DTG_LOWREF` as in effect (R209) -/
  lowref   : Nat
  /-- `DPTX_LINK.AUDIO` as in effect (R206) -/
  audio    : Bool
  /-- the apply of this cycle has ended the stretched porch (R255) -/
  ending   : Bool
  deriving DecidableEq, Repr

/-- The live copy of a layer slot's registers (05 R225). -/
structure Layer where
  ctrl    : Nat
  addr    : Nat
  caddr   : Nat
  pitch   : Nat
  srcPos  : Nat
  srcSize : Nat
  dstPos  : Nat
  dstSize : Nat
  fill    : Nat
  buf     : Nat
  deriving DecidableEq, Repr

/-- A layer slot (05). -/
structure SlotSt where
  live     : Layer
  /-- the packet that armed the shadow set: its TAG, and how many packets it superseded (R241) -/
  armedBy  : Option (Nat × Nat)
  /-- shadow and live palettes as bytes of 256 ARGB8888 entries; empty stands for zeros (R239) -/
  palShadow : List Byte
  palLive   : List Byte
  /-- a register write has changed the shadow set since it was last admitted or applied (R226, R232) -/
  written  : Bool
  /-- a LAYER_UNASSIGN or a removal waits for the frame boundary (R236, R248) -/
  leaving  : Bool
  /-- a re-placement waits for the next apply: z, position, size (R235) -/
  replace  : Option (Nat × Nat × Nat)
  /-- LAYER_FAULT was written in this frame (R251) -/
  faultSent : Bool
  /-- lines underrun in this frame, and the first (R245, R251) -/
  underLines : Nat
  underFirst : Nat
  /-- the ISO charge as admitted, a fraction in bytes per second, and the channel groups it falls on (R230); for the live
  set and for the armed one (R543) -/
  charge    : Nat × Nat
  groups    : List Nat
  nextCharge : Option ((Nat × Nat) × List Nat)
  deriving DecidableEq, Repr

/-- Outputs and slots. -/
structure Disp where
  outs  : SMap Output
  slots : SMap SlotSt
  deriving DecidableEq, Repr

/-- The 1920×1080 60 Hz reference timing of the reset values (05 R208, R209). -/
def Timing.ref : Timing :=
  { hpol := 1, vpol := 1, hact := 1920, hfp := 88, hsy := 44, hbp := 148, vact := 1080, vfp := 4, vsy := 5, vbp := 36, num := 825, den := 26624 }

/-- An output after reset. -/
def Output.idleOut : Output :=
  { live := Timing.ref, liveBg := 0, nextTiming := none, stream := false, resuming := false, training := none, trainDue := false
    black := none, accepted := none, held := none, idle := 0, changed := false, lowref := 0x0003000A, audio := false, ending := false }

/-- A slot's live registers after reset (05 R225). -/
def Layer.blank : Layer :=
  { ctrl := 0x00FF000F, addr := 0, caddr := 0, pitch := 0, srcPos := 0, srcSize := 0, dstPos := 0, dstSize := 0, fill := 0xFF000000, buf := 0 }

/-- An unassigned slot. -/
def SlotSt.blank : SlotSt :=
  { live := Layer.blank, armedBy := none, palShadow := [], palLive := [], written := false, leaving := false, replace := none, faultSent := false
    underLines := 0, underFirst := 0, charge := (0, 1), groups := [], nextCharge := none }

/-- Outputs and slots after reset. -/
def Disp.reset : Disp := { outs := [], slots := [] }

end Sys2Proof.Machine
end

