-- ==== Sys2Proof/Machine/TypesDziv.lean ====
section
/-! DEFINITION. The state of Dzivlink (18) and of the low-speed I/O ports (20) beside their registers. -/

namespace Sys2Proof.Machine

/-- A group member as this device knows it (18 R683-R685): its roster hash, the state of R684, the cycle of its last HELLO, whether
an IDENT has matched the roster, the key hash of its last verified IDENT, whether that was debug-open, and for each TYPE the last
SEQ that came by port 0 and by port 1; the higher of the two is the last accepted. -/
structure Member where
  roster  : Option (List Byte)
  state   : Nat
  hello   : Option Nat
  identOk : Bool
  ident   : Option (List Byte)
  debug   : Bool
  seqs    : SMap (Option (Nat × Nat))
  deriving DecidableEq, Repr

/-- A frame lock (18 R678-R680): ANCHOR, PERIOD in 32.32 ns, how many frames in a row have been within ±250 ns, and the last error
in ns. -/
structure Lock where
  anchor : Nat
  period : Nat
  good   : Nat
  err    : Int
  deriving DecidableEq, Repr

/-- An intercom channel (18 R689): what it sends and what it receives, and the jitter buffer: frames waiting, and the cycle the last
came in. -/
structure Intercom where
  tx     : Bool
  rx     : Bool
  depth  : Nat
  member : Nat
  chan   : Nat
  buffer : List (List Byte)
  last   : Nat
  deriving DecidableEq, Repr

/-- A queue pair (18 R690): where it is bound, its rings and indexes, whose memory they lie in, and which of its rings wait for a
kick. -/
structure Qp where
  owner : RingId
  port  : Nat
  log   : Nat
  bcast : Bool
  vlan  : Nat
  mac   : List Byte
  txBase : Nat
  rxBase : Nat
  txIdx : Nat
  rxIdx : Nat
  txIdle : Bool
  rxIdle : Bool
  deriving DecidableEq, Repr

/-- Dzivlink (18). -/
structure Dziv where
  /-- ports with LINK_SET ENABLE, bit p (R693) -/
  enabled  : Nat
  group    : Nat
  /-- the group key, in the key store (R682) -/
  key      : List Byte
  members  : SMap Member
  /-- frames sent so far: the count of their SEQ (R682) -/
  seq      : Nat
  /-- frames sent on the wire: port and bytes without FCS, oldest first -/
  sent     : List (Nat × List Byte)
  /-- when the last HELLO was sent, and how many (R684) -/
  helloAt  : Nat
  hellos   : Nat
  locks    : SMap (Option Lock)
  intercom : SMap Intercom
  qps      : SMap (Option Qp)
  /-- DOMAIN, PRIORITY1, PRIORITY2, LOG_SYNC of TIME_SET (R674) -/
  time     : Nat × Nat × Nat × Nat
  /-- device time has been stepped once since cold reset, and the cycle of the last 802.1AS message (R675) -/
  synced   : Bool
  lastPtp  : Nat
  deriving DecidableEq, Repr

/-- The low-speed I/O ports (20 R753, R754): their FIFOs, and I2C ports that discard entries up to the next START, bit k. -/
structure Lsio where
  tx   : SMap (List Nat)
  rx   : SMap (List Nat)
  skip : Nat
  deriving DecidableEq, Repr

/-- A member nothing is known of. -/
def Member.blank : Member := { roster := none, state := 0, hello := none, identOk := false, ident := none, debug := false, seqs := [] }

/-- An intercom channel after reset: DEPTH 6 ms (18 R689). -/
def Intercom.blank : Intercom := { tx := false, rx := false, depth := 6, member := 0, chan := 0, buffer := [], last := 0 }

/-- Dzivlink after a cold reset. -/
def Dziv.reset : Dziv :=
  { enabled := 0, group := 0, key := [], members := [], seq := 0, sent := [], helloAt := 0, hellos := 0, locks := [], intercom := [], qps := []
    time := (0, 0, 0, 0), synced := false, lastPtp := 0 }

/-- Low-speed I/O after a cold reset: empty FIFOs. -/
def Lsio.reset : Lsio := { tx := [], rx := [], skip := 0 }

end Sys2Proof.Machine
end

