-- ==== Sys2Proof/Machine/TypesEtch.lean ====
section
/-! DEFINITION. The state of etched layers (06) and of the Proof units and the reserve pipe (07) beside their registers, Plate
SRAM and the proof areas in it. Layer k of output n has the index j = 4n + k (06 R306). -/

namespace Sys2Proof.Machine

/-- An accepted plate list (06 R267, R284, R309): its Plate offset and LENGTH, the pages it holds locked, the blink counters its
palette follows (bit c for counter c), and whether it belongs to the start-up plate. -/
structure EtchList where
  off      : Nat
  len      : Nat
  pages    : List Nat
  counters : Nat
  startup  : Bool
  deriving DecidableEq, Repr

/-- The values of a blink counter (06 R282): START in ms of device time. -/
structure Blink where
  onMs  : Nat
  offMs : Nat
  start : Nat
  deriving DecidableEq, Repr

/-- Etched layers (06). -/
structure Etch where
  /-- lock count of each 4 KiB page of Plate SRAM (R267) -/
  locks     : SMap Nat
  /-- live and pending lists by layer index (R291, R292); a pending unload is a PEND bit without a list -/
  live      : SMap (Option EtchList)
  pend      : SMap (Option EtchList)
  /-- lists that left the live state and are not yet released, with their layer index (R269) -/
  retiring  : List (Nat × EtchList)
  /-- places of the LIST_LOAD and LIST_UNLOAD packets at the checker, in the order they started (R289) -/
  checker   : List Nat
  /-- TAG of the packet that armed the swap of an output (R293, R304) -/
  armedBy   : SMap (Option Nat)
  /-- blink counters at key 4 output + counter, and the values that wait for the vertical start (R282, R301) -/
  blinks    : SMap (Option Blink)
  blinkNext : SMap (Option Blink)
  /-- writes refused under R268 whose event is still to be written: requester and Plate offset -/
  refused   : List (Who × Nat)
  /-- layer indexes j whose Burin read an uncorrectable word, bit j: transparent until the layer's next swap (17 R638) -/
  dark      : Nat
  deriving DecidableEq, Repr

/-- A takeover under way (07 R326, R333): its output, the line of the first mismatched window line, and whether PROOF_FORCE
started it. -/
structure Takeover where
  out    : Nat
  line   : Nat
  forced : Bool
  deriving DecidableEq, Repr

/-- Proof and the reserve pipe (07). -/
structure Proof where
  /-- outputs with a pass queued or running, in the order they were queued (R319, R322) -/
  queue    : List Nat
  /-- the cycle in which the running pass started (R321) -/
  passFrom : Nat
  /-- a finished pass whose bank is not yet active: true when it was for a pending set (R323) -/
  ready    : SMap (Option Bool)
  /-- a takeover between the verdict and the switch (R326) -/
  takeover : Option Takeover
  /-- the cycle of the switch to the reserve pipe (R326, R341) -/
  carried  : Nat
  /-- a PROOF_FORCE is armed for the output (R333) -/
  forced   : SMap Bool
  /-- the fetched layers show their fill colours to the end of the frame (R328) -/
  filling  : SMap Bool
  /-- the CRC from the pins and the reference CRC of the last window line checked on an output (17 R665) -/
  lastCrc  : SMap (Nat × Nat)
  deriving DecidableEq, Repr

/-- Etched layers after reset. -/
def Etch.reset : Etch :=
  { locks := [], live := [], pend := [], retiring := [], checker := [], armedBy := [], blinks := [], blinkNext := [], refused := [], dark := 0 }

/-- Proof after reset. -/
def Proof.reset : Proof := { queue := [], passFrom := 0, ready := [], takeover := none, carried := 0, forced := [], filling := [], lastCrc := [] }

end Sys2Proof.Machine
end

