-- ==== Sys2Proof/Machine/TypesFolio.lean ====
section
/-! DEFINITION. The state of the Folio journal, the always-on counters and the inspection calendar (15). -/

namespace Sys2Proof.Machine

/-- A record in an area (15 R589-R591): TYPE, SEQ, body, whether it is committed, whether its CRC holds and whether LEN and LEN_INV agree. -/
structure FRec where
  typ       : Nat
  seq       : Nat
  body      : List Byte
  committed : Bool
  crcOk     : Bool
  lenOk     : Bool
  deriving DecidableEq, Repr

/-- An area of the partition (15 R587, R588): whether every byte is erased, the header's fields, and the records in order. -/
structure FArea where
  blank     : Bool
  magic     : Bool
  gen       : Nat
  device    : Nat
  tagOk     : Bool
  committed : Bool
  recs      : List FRec
  deriving DecidableEq, Repr

/-- What follows a record's commit. -/
inductive After where
  | none
  /-- the operation in this place ends with OK -/
  | op (k : Nat)
  /-- an actuator takes the learned signature and its wear counts are reset (10 R443) -/
  | wear (a r b : Nat)
  /-- the activation's commit point follows (16 R624) -/
  | commitPoint
  deriving DecidableEq, Repr

/-- A record waiting to be written, or being written. -/
structure FWrite where
  typ   : Nat
  body  : List Byte
  rankS : Bool
  after : After
  deriving DecidableEq, Repr

/-- Where a compaction stands (15 R594): blocks of the inactive area still to erase, or the records still to copy and how many were. -/
inductive Compact where
  | erase (blocks : Nat)
  | copy (left : List FRec) (copied : Nat)
  deriving DecidableEq, Repr

/-- The Folio (15). -/
structure Fol where
  areaA    : FArea
  areaB    : FArea
  /-- the last SEQ used (R589) -/
  seq      : Nat
  /-- the record being written, whether its body is programmed, and its SEQ (R590) -/
  writing  : Option (FWrite × Bool × Nat)
  queue    : List FWrite
  compact  : Option Compact
  /-- blocks of both areas still to erase for FOLIO_ADOPT, with the state it found and the foreign DEVICE (R605) -/
  adopt    : Option (Nat × Nat × Nat)
  /-- the always-on counters, by their offset in the COUNTERS body (R598) -/
  counters : SMap Nat
  /-- minutes of Tj by bin, and TJ_MAX in 0.1 °C (R600) -/
  hist     : SMap Nat
  tjMax    : Option Int
  /-- entries whose CAL_DUE (bit 0) or CAL_OVERDUE (bit 1) was written for a DUE_DAY: entry, day, bits (R603) -/
  calSent  : List (Nat × Nat × Nat)
  /-- the day last evaluated, and the RTC of the last flush (R597, R603) -/
  day      : Nat
  flushed  : Nat
  /-- `PWR_FAIL_N` is low (R606) -/
  pfLow    : Bool
  deriving DecidableEq, Repr

/-- An erased area. -/
def FArea.erased : FArea := { blank := true, magic := false, gen := 0, device := 0, tagOk := false, committed := false, recs := [] }

/-- The Folio as delivered: both areas erased. -/
def Fol.reset : Fol :=
  { areaA := FArea.erased, areaB := FArea.erased, seq := 0, writing := none, queue := [], compact := none, adopt := none, counters := []
    hist := [], tjMax := none, calSent := [], day := 0, flushed := 0, pfLow := false }

end Sys2Proof.Machine
end

