-- ==== Sys2Proof/Machine/TypesGraver.lean ====
section
/-! DEFINITION. The state of the Graver engines (08) beside their registers. -/

namespace Sys2Proof.Machine

/-- The Graver engines (08): palettes of 256 ARGB8888 entries as bytes, by ring key; an empty one stands for zeros (R348, R369). -/
structure Grv where
  palettes : SMap (List Byte)
  deriving DecidableEq, Repr

/-- The Graver engines after reset. -/
def Grv.reset : Grv := { palettes := [] }

end Sys2Proof.Machine
end

