-- ==== Sys2Proof/Machine/TypesHaptic.lean ====
section
/-! DEFINITION. The state of Stipple (10) beside its registers: actuators, running effects and waveform RAM. -/

namespace Sys2Proof.Machine

/-- A segment (10 R428, R432): AMP as its byte, PHASE (0 overdrive, 1 sustain, 2 brake, 3 coast) and its duration in ms. -/
structure Seg where
  amp   : Nat
  phase : Nat
  dur   : Nat
  deriving DecidableEq, Repr

/-- A loaded waveform slot (10 R431). -/
structure Wave where
  owner : RingId
  rep   : Nat
  segs  : List Seg
  deriving DecidableEq, Repr

/-- What triggered an effect (10 R436, R448): a pin, a zone, a PLAY with its submitter and TAG, a MAINT that learns, or a stop of
another effect that no PLAY asked for, with the submitter of the stopped one. -/
inductive Origin where
  | pin (k : Nat)
  | zone (z : Nat)
  | play (r : RingId) (tag : Nat)
  | learn (r : RingId)
  | stop (of : Option RingId)
  deriving DecidableEq, Repr

/-- A running effect (10 R429, R434-R436, R440): its number and origin, its whole segment list, the index of the running segment, the
passes still to come, whether a brake segment has been reached, coast windows done in this segment,
the cycle the segment began in, and the settings in force since its start (R445). -/
structure Effect where
  number   : Nat
  origin   : Origin
  safety   : Bool
  segs     : List Seg
  idx      : Nat
  rounds   : Nat
  braked   : Bool
  windows  : Nat
  began    : Nat
  cfg      : Word
  drv      : Word
  lim      : Word
  deriving DecidableEq, Repr

/-- The bridge of an actuator (10 R425). -/
inductive Bridge where
  | forward
  | reverse
  | shortBrake
  | coast
  deriving DecidableEq, Repr

/-- A learning of a signature (10 R441, R443): whether the wear counts are reset with it, the resistance measured so far, and the
back-EMF of the coast windows so far, newest first. -/
structure Learn where
  wear  : Bool
  rsig  : Nat
  bemfs : List Nat
  deriving DecidableEq, Repr

/-- An actuator (10). -/
structure Act where
  run       : Option Effect
  bridge    : Bridge
  /-- duty in steps of 1/12,800 (R426) -/
  duty      : Nat
  /-- the cycle of a drive start whose current is not yet checked (R439) -/
  openDue   : Option Nat
  /-- consecutive coast windows below STALL_PCT, and drive starts with R_EST off by more than 25 % (R439, R442) -/
  low       : Nat
  odd       : Nat
  learn     : Option Learn
  /-- wear counted up to this cycle; thousandths and seconds not yet whole (R444) -/
  counted   : Nat
  revs      : Nat
  drive     : Nat
  /-- wear resets so far (15 R599) -/
  resets    : Nat
  deriving DecidableEq, Repr

/-- Stipple (10). -/
structure Hap where
  acts  : SMap Act
  waves : SMap (Option Wave)
  deriving DecidableEq, Repr

/-- An actuator after reset. -/
def Act.blank : Act :=
  { run := none, bridge := .coast, duty := 0, openDue := none, low := 0, odd := 0, learn := none, counted := 0, revs := 0, drive := 0
    resets := 0 }

/-- Stipple after reset. -/
def Hap.reset : Hap := { acts := [], waves := [] }

end Sys2Proof.Machine
end

