-- ==== Sys2Proof/Machine/TypesTouch.lean ====
section
/-! DEFINITION. The state of the Tracer (09) beside its registers: panels, nodes, contacts, report rings, zones. -/

namespace Sys2Proof.Machine

/-- A node (09 R378-R381, R391-R393): its raw value, baseline and delta, whether its last raw value is valid, whether it waits for
its re-calibrated baseline, the amplitude of the new bin in a handover, the sum and number of raw values acquired, and the
baseline ACQUIRE gave it. -/
structure NodeSt where
  raw   : Nat
  base  : Nat
  delta : Int
  valid : Bool
  recal : Bool
  hop   : Nat
  sum   : Nat
  count : Nat
  first : Nat
  deriving DecidableEq, Repr

/-- A touch zone (09 R407, R418): owner, panel, FLAGS, rectangle, actions, and the stamp of the ZONE_SET that wrote it. -/
structure Zone where
  owner    : RingId
  panel    : Nat
  flags    : Nat
  x        : Nat
  y        : Nat
  w        : Nat
  h        : Nat
  act      : Nat
  downEff  : Nat
  upEff    : Nat
  gen      : Nat
  downBeep : Nat
  upBeep   : Nat
  stamp    : Nat
  deriving DecidableEq, Repr

/-- A contact (09 R394, R399, R404, R408): number, peak node, position in 1/16 pixel, peak delta, area, where and when its stillness
began, the zone it fired as that zone was, and its age; `up` and `absorbed` mark its last report, and `owed` that its touch-down was decided
in Sleep and is still to be reported (R397). -/
structure Contact where
  id         : Nat
  i          : Nat
  j          : Nat
  x          : Nat
  y          : Nat
  signal     : Nat
  area       : Nat
  stillX     : Nat
  stillY     : Nat
  since      : Nat
  persistent : Bool
  zone       : Option (Nat × Zone)
  age        : Nat
  down       : Bool
  up         : Bool
  absorbed   : Bool
  owed       : Bool
  deriving DecidableEq, Repr

/-- A report ring (09 R402, R403). -/
structure RepRing where
  base  : Nat
  log   : Nat
  index : Nat
  seq   : Nat
  deriving DecidableEq, Repr

/-- A scan under way (09 R378, R381, R383): windows of the scan and windows done, whether the second half waits for the next frame,
whether a channel clipped, the handover in it (slot, old bin, new bin), and device time and frame at its last window. -/
structure Scan where
  windows : Nat
  done    : Nat
  waiting : Bool
  noise   : Bool
  hop     : Option (Nat × Nat × Nat)
  time    : Nat
  frame   : Nat
  deriving DecidableEq, Repr

/-- A panel (09). -/
structure Panel where
  /-- parameters of PANEL_SET, 24 bytes, and of PANEL_TUNE, 32 bytes (R415, R416, R421) -/
  params    : List Byte
  tune      : List Byte
  /-- nodes, at key 256 i + j -/
  nodes     : SMap NodeSt
  /-- the bin of each tone slot (R377) -/
  slots     : List Nat
  /-- noise last recorded of each bin 16-95, and by the latest survey (R380) -/
  noise     : List Nat
  surveyed  : List Nat
  surveyDue : Bool
  /-- ACQUIRE waits for its survey, and whether that survey picks the tone set (R382, R391) -/
  needSurvey : Bool
  pickTones : Bool
  acqScans  : Nat
  scan      : Option Scan
  contacts  : List Contact
  /-- candidates under debounce: node and consecutive scans (R398) -/
  cands     : List (Nat × Nat × Nat)
  /-- ABSORBs that wait for the next scan: contact and submitter (R396) -/
  absorbs   : List (Nat × RingId)
  /-- the panel is idle since this cycle (R389), and scan opportunities passed over since its last scan -/
  idleSince : Nat
  skipped   : Nat
  ringC     : Option RepRing
  ringS     : Option RepRing
  /-- a report decided and not yet written, without its SEQ (R403, R405) -/
  report    : Option (List Byte)
  /-- frame of the last REPORT_FAULT (R406) -/
  faultAt   : Option Nat
  /-- consecutive bad scans of each line: transmit line i at key i, receive line j at key 128 + j (17 R636 class 8) -/
  badLines  : SMap Nat
  deriving DecidableEq, Repr

/-- A zone's action on its way to Stipple or the audio router (09 R409, R412): zone, target, effect or beep, whether the zone is a safety
zone, and the zone's owner. -/
structure ZoneAct where
  zone   : Nat
  target : Nat
  what   : Nat
  safety : Bool
  owner  : RingId
  deriving DecidableEq, Repr

/-- The Tracer (09). -/
structure Touch where
  panels  : SMap Panel
  zones   : SMap (Option Zone)
  stamp   : Nat
  haptics : List ZoneAct
  beeps   : List ZoneAct
  deriving DecidableEq, Repr

/-- A node before anything was measured. -/
def NodeSt.blank : NodeSt := ⟨0, 0, 0, true, false, 0, 0, 0, 0⟩

/-- The defaults of PANEL_TUNE (09 R416). -/
def tuneDefault : List Byte :=
  [0, 1, 6, 0, 160, 0, 96, 0, 96, 0, 128, 0, 0x58, 2, 0, 0, 1, 0, 10, 0, 120, 0, 2, 6, 30, 8, 24, 0, 0, 0, 0, 0]

/-- A panel after reset. -/
def Panel.blank : Panel :=
  { params := List.replicate 24 0, tune := tuneDefault, nodes := [], slots := [], noise := [], surveyed := [], surveyDue := false
    needSurvey := false, pickTones := false, acqScans := 0, scan := none, contacts := [], cands := [], absorbs := [], idleSince := 0
    skipped := 0, ringC := none, ringS := none, report := none, faultAt := none, badLines := [] }

/-- The Tracer after reset. -/
def Touch.reset : Touch := { panels := [], zones := [], stamp := 0, haptics := [], beeps := [] }

end Sys2Proof.Machine
end

