-- ==== Sys2Proof/Machine/State.lean ====
section
/-! DEFINITION. The state of the WX8 block, its state after reset, and the reasons it stops. -/

namespace Sys2Proof.Machine

/-- Why the block stops with a fault. No command of the WX8 has no effect at all, so nothing raises one now. -/
inductive Fault where
  /-- raised by nothing: the spec gives every command an effect; a stop here would be safe -/
  | none
  deriving DecidableEq, Repr

/-- Why the block refuses a command. -/
inductive Refusal where
  /-- raised by Dispatch for a command that has no meaning yet; safe -/
  | notModelled (mnemonic : String)
  deriving DecidableEq, Repr

/-- The WX8: every register and every other piece of state the manual gives it, and the queue of commands that wait. -/
structure State where
  /-- commands waiting, first in first out -/
  pending : List Instr
  /-- the answer to the last access -/
  resp    : Resp
  /-- the 32-bit registers of the unit windows, by physical address (01 R20-R23) -/
  regs    : SMap Word
  /-- the bytes of DRAM, Safety SRAM, Plate SRAM and boot ROM, by physical address (01 R20) -/
  mem     : List Host.Cell
  /-- elapsed `CLK_FAB` cycles (01 R9) -/
  cyc     : Nat
  /-- offset that steers device time to network time, in ns (18 R675) -/
  devOff  : Int
  /-- free values consumed so far: the model's own counter -/
  free    : Nat
  wld     : Wld
  cp      : Cp
  cl      : Cl
  mc      : Mc
  arb     : Arb
  flt     : Flt
  disp    : Disp
  etch    : Etch
  prf     : Proof
  grv     : Grv
  touch   : Touch
  hap     : Hap
  fol     : Fol
  aud     : Aud
  fw      : Fw
  pwr     : Pwr
  dziv    : Dziv
  lsio    : Lsio
  deriving DecidableEq, Repr

/-- A ring set out of service (03 R137: heads and tails 0, ENABLED clear). -/
def RingSet.off : RingSet :=
  { enabled := false, draining := false, sqLog := 6, cqLog := 4, eqLog := 4, sqBase := 0, cqBase := 0, eqBase := 0
    sqHead := 0, sqTail := 0, cqHead := 0, cqTail := 0, eqHead := 0, eqTail := 0, cqPass := 0, eqPass := 0
    reserved := 0, halted := false, haltIndex := 0, haltOwed := none, doorBad := false, stalled := [], lost := 0
    lostCode := 0, mask := 0xFFFF, fenceTmo := 0, rank := 0, classMask := 0, wait := none, disableBy := none, dropped := 0 }

/-- A client's instance after a cold reset (04 R152). -/
def Client.fresh : Client :=
  { gen := 1, weight := 16, inflight := 8, layers := 0, streams := 0, captures := 0, qpairs := 0, credit := 0
    resetting := false, resetBy := none, discardedC := 0, discardedW := 0, discarded := 0, shares := [], shrinking := none
    bind := none }

/-- Worlds and interrupts after a cold reset. -/
def Wld.reset : Wld :=
  { pend := 0, taken := 0, signalled := none, aplicSent := [], commitBuf := [], commits := 0, switching := none
    pairAHeld := false, sinvEff := false, sninvEff := false, mbx := [], deferred := [] }

/-- Rings and packets after a cold reset. -/
def Cp.reset : Cp := { rings := [], places := [], resident := [], waiting := [] }

/-- Clients after a cold reset (04 R152). -/
def Cl.reset : Cl :=
  { clients := [], outputs := [], holders := [], removals := [], devctx := [], tlb := [], pasids := [], msix := [], flr := [] }

/-- The memory controller after a cold reset. -/
def Mc.reset : Mc :=
  { inks := [], poison := [], damage := [], sideBad := [], writeback := [], frozen := [], selfThaw := [], queues := []
    ahead := [], mrBad := [], heavy := [], throttled := [], active := [], shadow := [], slotWait := [], retrain := none, newFences := []
    mirrors := [], patrol := 0, inkTime := [], trained := false }

/-- The Engine Arbiter after a cold reset. -/
def Arb.reset : Arb := { units := [], queues := [], outside := [], seq := 0 }

/-- Faults and pins after a cold reset: `PORESET_N` is low, so `FAULT_N` and `SAFE_N` are driven low (17 R653). -/
def Flt.reset : Flt :=
  { faultN := true, safeN := true, records := [], lastRec := [], seen := false, kicked := 0, triggers := []
    snapshot := none, latchedAt := 0, rubOut := none, groupTrig := [], firstAt := 0, stalled := 0, poresetHi := false, coresHeld := true }

/-- The WX8 right after a cold reset: every register at its reset value, memory with nothing listed. -/
def State.reset : State :=
  { pending := [], resp := .none, regs := [], mem := [], cyc := 0, devOff := 0, free := 0, wld := Wld.reset, cp := Cp.reset
    cl := Cl.reset, mc := Mc.reset, arb := Arb.reset, flt := Flt.reset, disp := Disp.reset, etch := Etch.reset
    prf := Proof.reset, grv := Grv.reset, touch := Touch.reset, hap := Hap.reset
    fol := Fol.reset, aud := Aud.reset, fw := Fw.reset, pwr := Pwr.reset, dziv := Dziv.reset, lsio := Lsio.reset }

end Sys2Proof.Machine
end

