-- ==== Sys2Proof/Machine/Ops.lean ====
section
/-! DEFINITION. The named operations over registers, interrupts, time, bytes and the packets in execution. -/

namespace Sys2Proof.Machine

/-! Registers (00 R3, 01 R20). -/

/-- The stored value of the register at an address. -/
def State.rg (s : State) (a : Nat) : Word := SMap.get regReset s.regs a

/-- The hardware's own write of a register. -/
def State.setRg (s : State) (a : Nat) (v : Word) : State := { s with regs := SMap.set regReset s.regs a v }

/-- The value of a field of instance `n` of its register. -/
def State.fld (s : State) (f : Fld) (n : Nat := 0) : Nat := bitsOf (s.rg (f.addr n)) f.hi f.lo

/-- The hardware's own write of a field; a value too wide for it is cut to its width. -/
def State.setFld (s : State) (f : Fld) (v : Nat) (n : Nat := 0) : State :=
  s.setRg (f.addr n) (putBits (s.rg (f.addr n)) f.hi f.lo v)

/-- Whether a one-bit field is 1. -/
def State.flag (s : State) (f : Fld) (n : Nat := 0) : Bool := decide (s.fld f n ≠ 0)

/-- Writes a one-bit field from a Bool. -/
def State.setFlag (s : State) (f : Fld) (b : Bool) (n : Nat := 0) : State := s.setFld f (if b then 1 else 0) n

/-- Adds to a counter field, which stays at its greatest value once there. -/
def State.satInc (s : State) (f : Fld) (n : Nat := 0) (k : Nat := 1) : State :=
  s.setFld f (min (s.fld f n + k) (2 ^ f.width - 1)) n

/-- Whether a writer's RWM fields are taken: the S-world's, and the mediator's outside the safe state (00 R3; 17 R656). -/
def rwmWriter (safe : Bool) (who : Who) : Bool := who == .s || (who == .med && !safe)

/-- Whether the writer of a register may write a field of this access type (00 R3), in the safe state or outside it (17 R656). -/
def Acc.takes (a : Acc) (safe : Bool) (who : Who) : Bool :=
  match a with
  | .rw => true
  | .ro => false
  | .wo => false
  | .w1c => true
  | .rws => who == .s
  | .rwm => rwmWriter safe who

/-- The new value of a field: a W1C bit is cleared where 1 is written, every other writable field takes what is written (00 R3). -/
def FieldDesc.write (f : FieldDesc) (safe : Bool) (who : Who) (old new : Word) (acc : Word) : Word :=
  if f.acc.takes safe who then
    if f.acc = .w1c then putBits acc f.hi f.lo (bitsOf (old &&& ~~~ new) f.hi f.lo)
    else putBits acc f.hi f.lo (bitsOf new f.hi f.lo)
  else acc

/-- The value of a register after a write by `who`, field by field (00 R3). -/
def RegDesc.write (d : RegDesc) (safe : Bool) (who : Who) (old new : Word) : Word :=
  d.fields.foldl (fun acc f => f.write safe who old new acc) old

/-- Whether a policy lets this requester through; a mailbox page is decided by its owner (02 R73), not here. -/
def Pol.lets (p : Pol) (who : Who) : Bool :=
  match p with
  | .all => true
  | .ms => who == .s || who == .med
  | .s => who == .s
  | .mbx => true

/-! Time (01 R9, 03 R134). -/

/-- Device time in ns: elapsed cycles of 3125/3744 ns each, plus the offset of network time (18 R675). -/
def State.devTime (s : State) : Nat := ((s.cyc * 3125 / 3744 : Nat) + s.devOff).toNat

/-- The number of `CLK_FAB` cycles in a span of nanoseconds, rounded up: at 1,198.08 MHz a cycle is 3125/3744 ns. -/
def nsCycles (ns : Nat) : Nat := (ns * 3744 + 3124) / 3125

/-- The nanoseconds in a span of cycles. -/
def cyclesNs (c : Nat) : Nat := c * 3125 / 3744

/-- Microseconds since a cycle. -/
def State.usSince (s : State) (c : Nat) : Nat := cyclesNs (s.cyc - c) / 1000

/-- Whether at least so many nanoseconds have passed since a cycle. -/
def State.passed (s : State) (c ns : Nat) : Bool := decide (nsCycles ns ≤ s.cyc - c)

/-! Free values. -/

/-- Consumes one free value. -/
def State.fresh (s : State) : State := { s with free := s.free + 1 }

/-- The free value that the next `fresh` consumes, below a bound that the manual sets. -/
def State.freeBelow (s : State) (n : Nat) : Nat := Config.freeValue s.free % n

/-! Interrupts (02 R61-R68, R767). -/

/-- Makes a source pending; a source that is already pending stays pending once (02 R68, R767). -/
def State.raise (s : State) (src : Nat) : State :=
  { s with wld := { s.wld with pend := s.wld.pend ||| (1#512 <<< src) } }

/-- Whether a source is pending. -/
def State.isPend (s : State) (src : Nat) : Bool := s.wld.pend.getLsbD src

/-- Clears the pending state of a source. -/
def State.clearSrc (s : State) (src : Nat) : State :=
  { s with wld := { s.wld with pend := s.wld.pend &&& ~~~ (1#512 <<< src) } }

/-- Whether a source is the one of a low-speed I/O port that is assigned to the S-world, which is in band S (20 R751). -/
def State.sPortSrc (s : State) (src : Nat) : Bool := decide (400 ≤ src) && decide (src < 414) && (s.rg Reg.LSIO_SOWN).getLsbD (src - 400)

/-- Whether a source is in band S (02 R62; 20 R751). -/
def State.bandS (s : State) (src : Nat) : Bool := (s.rg (Reg.INT_BAND (src / 32))).getLsbD (src % 32) || s.sPortSrc src

/-- The secure priority of a source (02 R64). -/
def State.prio (s : State) (src : Nat) : Nat :=
  bitsOf (s.rg (Reg.INT_SPRIO (src / 8))) (4 * (src % 8) + 3) (4 * (src % 8))

/-- Sets a W1C bit and raises a source when the bit goes from 0 to 1; sets the second bit when it was already 1
(01 R26, 13 R533). The result says whether the bit was 0. -/
def State.firstOrOver (s : State) (valid ovr : Fld) : Bool × State :=
  if s.flag valid then (false, s.setFld ovr 1) else (true, s.setFld valid 1)

/-! Bytes: memory structures are little-endian (00, Notation). -/

/-- The number that `n` bytes at an offset spell, low byte first; bytes past the end count as 0. -/
def leAt (l : List Byte) (off n : Nat) : Nat :=
  (l.drop off).take n |>.foldr (fun b acc => b.toNat + 256 * acc) 0

/-- A number as `n` bytes, low byte first. -/
def leBytes : Nat → Nat → List Byte
  | 0, _ => []
  | n + 1, v => BitVec.ofNat 8 v :: leBytes n (v / 256)

/-- Bit `i` of a number. -/
def bit (v i : Nat) : Bool := v.testBit i

/-- Bits `hi` to `lo` of a number. -/
def bits (v hi lo : Nat) : Nat := v / 2 ^ lo % 2 ^ (hi + 1 - lo)

/-- 16 bits read as a signed number (two's complement). -/
def signed (w v : Nat) : Int := if v < 2 ^ (w - 1) then (v : Int) else (v : Int) - (2 ^ w : Nat)

/-! Packets in execution (03 R125). -/

/-- The packet in an execution place. -/
def State.place (s : State) (k : Nat) : Option Started := SMap.get (fun _ => none) s.cp.places k

/-- Puts a packet into an execution place, or empties it. -/
def State.setPlace (s : State) (k : Nat) (p : Option Started) : State :=
  { s with cp := { s.cp with places := SMap.set (fun _ => none) s.cp.places k p } }

/-- Whether the power state keeps the N-world from starting packets: entering, in or leaving Sleep, or entering Vault (19 R707). -/
def State.asleep (s : State) : Bool := decide (2 ≤ s.fld F.PWR_STATE_STATE)

/-- Whether the packet in a place holds a locked grant of the flash port, whose sequence runs to its end (16 R624). -/
def State.locksFlash (s : State) (k : Nat) : Bool :=
  match SMap.get (fun _ => none) s.arb.units 12 with
  | some g => g.locked && g.holder == .packet k
  | none => false

/-- Whether a packet in execution stands still: stopped by a pause (16 R624 step 2), or an N-world packet taken away for Sleep
(19 R707). -/
def State.standsStill (s : State) (k : Nat) (p : Started) : Bool :=
  (match s.fw.pause with
    | some x => x.stopped && !s.locksFlash k
    | none => false)
  || (decide (3 ≤ s.fld F.PWR_STATE_STATE) && p.ring != .s)

/-- The packet of an operation that may act now: it is in place `k`, has this opcode, has not ended and does not stand still. -/
def State.opAt (s : State) (k opcode : Nat) : Option Started :=
  match s.place k with
  | some p => if p.pkt.opcode = opcode ∧ p.result = none ∧ s.standsStill k p = false then some p else none
  | none => none

/-- Ends the operation in place `k` with a STATUS and RESULT0-RESULT3 (03 R129, R132). -/
def State.endOp (s : State) (k status : Nat) (r0 r1 r2 r3 : Nat := 0) : State :=
  match s.place k with
  | some p => s.setPlace k (some { p with result := some ⟨status, r0, r1, r2, r3⟩ })
  | none => s

/-- Ends the operation, but holds its completion for a later moment. -/
def State.endOpHeld (s : State) (k status : Nat) (r0 r1 r2 r3 : Nat := 0) : State :=
  match s.place k with
  | some p => s.setPlace k (some { p with result := some ⟨status, r0, r1, r2, r3⟩, held := true })
  | none => s

/-- Lets a held completion be written. -/
def State.releaseOp (s : State) (k : Nat) : State :=
  match s.place k with
  | some p => s.setPlace k (some { p with held := false })
  | none => s

/-- Replaces an operation's own progress counter. -/
def State.setProgress (s : State) (k n : Nat) : State :=
  match s.place k with
  | some p => s.setPlace k (some { p with progress := n })
  | none => s

/-- The places that hold a packet. -/
def State.busyPlaces (s : State) : List (Nat × Started) :=
  s.cp.places.filterMap (fun e => e.2.map (fun p => (e.1, p)))

/-- Parameters of a started packet: one, two, four or eight bytes at an offset from P (03 R113). -/
def Started.p8 (p : Started) (off : Nat) : Nat := leAt p.pkt.params off 1
def Started.p16 (p : Started) (off : Nat) : Nat := leAt p.pkt.params off 2
def Started.p32 (p : Started) (off : Nat) : Nat := leAt p.pkt.params off 4
def Started.p64 (p : Started) (off : Nat) : Nat := leAt p.pkt.params off 8

/-- The status codes of 03 R132. -/
def St.ok : Nat := 0x0
def St.deferred : Nat := 0x1
def St.busy : Nat := 0x2
def St.badOpcode : Nat := 0x3
def St.badLength : Nat := 0x4
def St.badClient : Nat := 0x5
def St.noPermission : Nat := 0x6
def St.range : Nat := 0x7
def St.lockNest : Nat := 0x8
def St.lockTooLong : Nat := 0x9
def St.restarted : Nat := 0xA
def St.fenceTimeout : Nat := 0xB
def St.frozen : Nat := 0xC
def St.staleContext : Nat := 0xD
def St.settingsUnreadable : Nat := 0xE
def St.abortedActivation : Nat := 0xF
def St.checkFailed : Nat := 0x10

/-! Ring sets and clients. -/

/-- The key of a ring set in the table of ring sets. -/
def ringKey : RingId → Nat
  | .client n => n
  | .med => 4096
  | .s => 4097

/-- The ring set of a submitter. -/
def State.ring (s : State) (r : RingId) : RingSet := SMap.get (fun _ => RingSet.off) s.cp.rings (ringKey r)

/-- Replaces a ring set. -/
def State.setRing (s : State) (r : RingId) (x : RingSet) : State :=
  { s with cp := { s.cp with rings := SMap.set (fun _ => RingSet.off) s.cp.rings (ringKey r) x } }

/-- The party that a ring belongs to. -/
def ringWho : RingId → Who
  | .s => .s
  | .med => .med
  | .client n => .client n

/-- The client number a ring carries in packets and completions (03 R110). -/
def ringClient : RingId → Nat
  | .client n => n
  | _ => 0

/-- A client's instance. -/
def State.client (s : State) (n : Nat) : Client := SMap.get (fun _ => Client.fresh) s.cl.clients n

/-- Replaces a client's instance. -/
def State.setClient (s : State) (n : Nat) (c : Client) : State :=
  { s with cl := { s.cl with clients := SMap.set (fun _ => Client.fresh) s.cl.clients n c } }

/-- The client that holds a resource of a type, if one does (04 R172): 2 panel, 3 actuator, 4 stream, 5 capture stream, 6 queue pair. -/
def State.holder (s : State) (type inst : Nat) : Option Nat := SMap.get (fun _ => none) s.cl.holders (64 * type + inst)

/-- Whether a grant is being taken from a client: the removal is accepted and has not taken effect (04 R165). -/
def State.losing (s : State) (type inst c : Nat) : Bool :=
  s.cl.removals.any (fun x => x.type == type && x.inst == inst && x.client == c)

/-- Whether a client is named in a VALID `DEV_SGUEST` entry (02 R48). -/
def State.isSGuest (s : State) (n : Nat) : Bool :=
  (List.range 8).any (fun j => s.flag F.DEV_SGUEST_VALID j && decide (s.fld F.DEV_SGUEST_CLIENT j = n))

/-- Whether the WX8 is in the safe state (17 R654). -/
def State.safe (s : State) : Bool := s.flag F.DEV_FAULT_STAT_SAFE

/-- Whether a writer's RWM fields are taken now (00 R3; 17 R656). -/
def State.mayRwm (s : State) (who : Who) : Bool := rwmWriter s.safe who

/-- Answers an access. -/
def State.answer (s : State) (r : Resp) : State := { s with resp := r }

/-- The bytes of an always-on counter at an offset of the COUNTERS body (15 R598). -/
def counterBytes (off : Nat) : Nat := if (16 ≤ off ∧ off < 56) ∨ off = 160 then 8 else 4

/-- An always-on counter. -/
def State.counter (s : State) (off : Nat) : Nat := SMap.get (fun _ => 0) s.fol.counters off

/-- Adds to an always-on counter, which saturates and never wraps (15 R598). -/
def State.count (s : State) (off : Nat) (n : Nat := 1) : State :=
  { s with fol := { s.fol with counters := SMap.set (fun _ => 0) s.fol.counters off (min (s.counter off + n) (2 ^ (8 * counterBytes off) - 1)) } }

/-- Counts an epoch of a unit class (04 R183). -/
def State.bumpEpoch (s : State) (c : Nat) : State :=
  s.setFld F.DEV_EPOCH_EPOCH ((s.fld F.DEV_EPOCH_EPOCH c + 1) % 0x10000) c

end Sys2Proof.Machine
end

