-- ==== Sys2Proof/Machine/Flags.lean ====
section
/-! DEFINITION. Check values: the CRC-32C of packets and contexts (03 R112, 04 R184). The WX8 block has no processor flags. -/

namespace Sys2Proof.Machine

/-- One bit of a reflected CRC-32 with the reversed polynomial. -/
def crcBit (poly crc : Nat) : Nat := if crc % 2 = 1 then (crc / 2) ^^^ poly else crc / 2

/-- One byte of a reflected CRC-32. -/
def crcByte (poly crc : Nat) (b : Byte) : Nat :=
  crcBit poly (crcBit poly (crcBit poly (crcBit poly (crcBit poly (crcBit poly (crcBit poly (crcBit poly (crc ^^^ b.toNat))))))))

/-- The register after some bytes. Both branches are the same step; asking whether the register is 0 makes the kernel evaluate it before it goes on. -/
def crcBytes (poly : Nat) : List Byte → Nat → Nat
  | [], c => c
  | b :: t, c => if c = 0 then crcBytes poly t (crcByte poly 0 b) else crcBytes poly t (crcByte poly c b)

/-- A reflected CRC-32 with initial value and final exclusive or of 0xFFFF_FFFF. -/
def crc32 (poly : Nat) (l : List Byte) : Nat := crcBytes poly l 0xFFFFFFFF ^^^ 0xFFFFFFFF

/-- CRC-32C: the Castagnoli polynomial 0x1EDC_6F41, reflected 0x82F6_3B78 (03 R112). -/
def crc32c (l : List Byte) : Nat := crc32 0x82F63B78 l

/-- The bytes with `n` of them from `off` taken as zero (03 R112, 04 R184). -/
def zeroed (l : List Byte) (off n : Nat) : List Byte := l.take off ++ List.replicate n 0 ++ l.drop (off + n)

end Sys2Proof.Machine
end

