-- ==== Sys2Proof/Machine/Mem.lean ====
section
/-! DEFINITION. The address map (01 R20), the inks (02 R45-R56), the Crosshatch code (13 R523-R525), and the reading and
writing of memory words and byte ranges at physical addresses (13 R530-R532, R557-R562). -/

namespace Sys2Proof.Machine

/-! The address map. -/

/-- The first DRAM address (01 R20). -/
def dramBase : Nat := 0x800000000

/-- The usable DRAM in bytes: seven eighths of what is fitted (01 R20, 13 R519). -/
def State.usable (s : State) : Nat := s.fld F.MC_CFG_USABLE * 2 ^ 30

/-- What lies at a physical address (01 R20). -/
inductive Region where
  | rom
  | safetySram
  | plateSram
  | window
  | doorbell
  | dram
  | none
  deriving DecidableEq, Repr

/-- The region of an address (01 R20). -/
def State.region (s : State) (a : Nat) : Region :=
  if a < 0x40000 then .rom
  else if 0x1000000 ≤ a ∧ a < 0x1200000 then .safetySram
  else if 0x2000000 ≤ a ∧ a < 0x2C00000 then .plateSram
  else if 0x10000000 ≤ a ∧ a < 0x11400000 then .window
  else if 0x20000000 ≤ a ∧ a < 0x21000000 then .doorbell
  else if dramBase ≤ a ∧ a < dramBase + s.usable then .dram
  else .none

/-- The channel group of a DRAM address (13 R520). -/
def State.groupOf (s : State) (a : Nat) : Nat := (a - dramBase) / (s.usable / 4)

/-- The byte offset within the group (13 R520). -/
def State.groupOff (s : State) (a : Nat) : Nat := (a - dramBase) % (s.usable / 4)

/-- The channel of a DRAM address: `4g + (o[9:8] XOR o[17:16])` (13 R520). -/
def State.channelOf (s : State) (a : Nat) : Nat :=
  let o := s.groupOff a
  4 * s.groupOf a + ((o / 0x100 % 4) ^^^ (o / 0x10000 % 4))

/-- The channel-local byte address: `o` with bits 9:8 removed (13 R520). -/
def State.localOf (s : State) (a : Nat) : Nat :=
  let o := s.groupOff a
  o / 0x400 * 0x100 + o % 0x100

/-- The physical address of a channel-local byte address: the inverse of `channelOf` and `localOf`. -/
def State.addrOf (s : State) (c l : Nat) : Nat :=
  let hi := l / 0x100
  dramBase + (c / 4) * (s.usable / 4) + hi * 0x400 + ((c % 4) ^^^ (hi / 0x40 % 4)) * 0x100 + l % 0x100

/-- The side word that holds a data word's side bits, as a key of `Mc.sideBad` (13 R521). -/
def State.sideKey (s : State) (a : Nat) : Nat := s.channelOf a * 2 ^ 32 + s.localOf a / 32 / 7

/-! Inks (02 R49-R54). -/

/-- A party's home ink; 0 stands for a client without one (02 R49-R51). -/
def State.homeInk (s : State) (w : Who) : Nat :=
  match w with
  | .s => 1
  | .med => 2
  | .fw => 2
  | .client n => if s.isSGuest n then 3 else bitsOf (s.rg (Reg.DEV_CLINK (n / 8))) (4 * (n % 8) + 3) (4 * (n % 8))

/-- Whether an address lies in enabled shared window `j` (02 R52). -/
def State.inWindow (s : State) (a j : Nat) : Bool :=
  let lo := (s.rg (Reg.DEV_SHWIN_BASE j)).toNat
  let hi := (s.rg (Reg.DEV_SHWIN_LIMIT j)).toNat
  decide (lo ≤ a / 0x10000) && decide (a / 0x10000 ≤ hi)

/-- The ink a DRAM transaction carries (02 R54); `none` for a client without home ink, whose every DRAM access is an ink
fault (02 R51). -/
def State.carried (s : State) (w : Who) (a : Nat) : Option Nat :=
  if s.homeInk w = 0 then none
  else match w with
    | .fw => some 2
    | .s => if (List.range 16).any (fun j => s.inWindow a j && bit (s.fld F.DEV_SHWIN_SACC_ACCEPT) j) then some 4 else some 1
    | _ => if (List.range 16).any (fun j => s.inWindow a j) then some 4 else some (s.homeInk w)

/-! The Crosshatch code (13 R524, R525), over GF(2^8) with the polynomial 0x11D and α = 2. -/

/-- Multiplication by α. -/
def gfDouble (a : Nat) : Nat := if 2 * a < 256 then 2 * a else (2 * a) ^^^ 0x11D

/-- Multiplication by α^n. -/
def gfAlpha : Nat → Nat → Nat
  | 0, a => a
  | n + 1, a => gfAlpha n (gfDouble a)

/-- Syndrome `j` of a word whose symbols hold these errors: symbol `i` of the 36 has the exponent 35 − i (13 R524). -/
def syndrome (j : Nat) (errs : List (Nat × Byte)) : Nat :=
  errs.foldl (fun acc e => acc ^^^ gfAlpha (j * (35 - e.1)) e.2.toNat) 0

/-- What a decode found (13 R525). -/
inductive Decode where
  | clean
  | corrected (symbol : Nat)
  | uncorrectable
  deriving DecidableEq, Repr

/-- The exponent at which a single error explains the three syndromes. -/
def locate (s0 s1 s2 : Nat) : Option Nat :=
  (List.range 36).find? (fun k => decide (gfAlpha k s0 = s1) && decide (gfAlpha k s1 = s2))

/-- Adds an error to a symbol of a word; errors of one symbol add by exclusive or. -/
def addErr (errs : List (Nat × Byte)) (i : Nat) (e : Byte) : List (Nat × Byte) :=
  SMap.set (fun _ => 0) errs i (SMap.get (fun _ => 0) errs i ^^^ e)

/-- Decodes a word with these symbol errors: what it is classified as, and the errors that remain after correction
(13 R525: three or more damaged symbols give whatever the code yields). -/
def decodeWord (errs : List (Nat × Byte)) : Decode × List (Nat × Byte) :=
  let s0 := syndrome 0 errs
  let s1 := syndrome 1 errs
  let s2 := syndrome 2 errs
  if s0 = 0 ∧ s1 = 0 ∧ s2 = 0 then
    if (SMap.get (fun _ => 0) errs 32).toNat / 16 = 0 then (.clean, errs) else (.uncorrectable, errs)
  else if s0 = 0 then (.uncorrectable, errs)
  else match locate s0 s1 s2 with
    | none => (.uncorrectable, errs)
    | some k =>
      let left := addErr errs (35 - k) (BitVec.ofNat 8 s0)
      if (SMap.get (fun _ => 0) left 32).toNat / 16 = 0 then (.corrected (35 - k), left) else (.uncorrectable, errs)

/-! Words and bytes. -/

/-- A byte of memory; one that nothing has written reads 0 (DRAM: 16 R621 clears it; on-chip SRAM: the model's choice). -/
def State.byte (s : State) (a : Nat) : Byte := SMap.get (fun _ => 0) s.mem a

/-- `n` bytes from an address. -/
def State.bytesAt (s : State) (a n : Nat) : List Byte := (List.range n).map (fun i => s.byte (a + i))

/-- Writes bytes from an address on, in the list of cells. -/
def putCells : List Host.Cell → Nat → List Byte → List Host.Cell
  | m, _, [] => m
  | m, a, b :: l => putCells (SMap.set (fun _ => 0) m a b) (a + 1) l

/-- Writes bytes from an address on. -/
def State.putBytes (s : State) (a : Nat) (l : List Byte) : State := { s with mem := putCells s.mem a l }

/-- The number of the data word at an address. -/
def wordNo (a : Nat) : Nat := a / 32

/-- The stored ink of the word at an address. -/
def State.inkAt (s : State) (a : Nat) : Nat := RunMap.get s.mc.inks (wordNo a)

/-- Whether the word at an address is poisoned. -/
def State.poisonAt (s : State) (a : Nat) : Bool := SMap.get (fun _ => false) s.mc.poison (wordNo a)

/-- The damaged symbols of the word at an address. -/
def State.damageAt (s : State) (a : Nat) : List (Nat × Byte) := SMap.get (fun _ => []) s.mc.damage (wordNo a)

/-- Whether the side word of the word at an address is damaged beyond correction. -/
def State.sideBadAt (s : State) (a : Nat) : Bool :=
  if s.mc.sideBad.isEmpty then false else SMap.get (fun _ => false) s.mc.sideBad (s.sideKey a)

/-! Mirrors (13 R559-R562). -/

/-- Mirror `m`, if it is set. -/
def State.mirror (s : State) (m : Nat) : Option Mirror := SMap.get (fun _ => none) s.mc.mirrors m

/-- The mirrors that are set, with their numbers. -/
def State.mirrorList (s : State) : List (Nat × Mirror) := s.mc.mirrors.filterMap (fun e => e.2.map (fun m => (e.1, m)))

/-- Whether an address lies in a mirror's secondary range, which answers as unmapped (R559). -/
def State.inSecondary (s : State) (a : Nat) : Bool :=
  s.mirrorList.any (fun e => decide (e.2.secondary ≤ a) && decide (a < e.2.secondary + e.2.size))

/-- The mirror whose primary range holds an address. -/
def State.mirrorOf (s : State) (a : Nat) : Option (Nat × Mirror) :=
  s.mirrorList.find? (fun e => decide (e.2.primary ≤ a) && decide (a < e.2.primary + e.2.size) && !e.2.releasing)

/-- Where an access to a primary address is served: the secondary range once it serves (R562). -/
def State.served (s : State) (a : Nat) : Nat :=
  match s.mirrorOf a with
  | some (m, x) => if s.flag F.MC_MIRROR_SERVING m then x.secondary + (a - x.primary) else a
  | none => a

/-- The copy that a write to a primary address also writes, while the mirror establishes or is active (R560). -/
def State.copyOf (s : State) (a : Nat) : Option Nat :=
  match s.mirrorOf a with
  | some (m, x) => if s.fld F.MC_MIRROR_STATE m = 1 ∨ s.fld F.MC_MIRROR_STATE m = 2 then some (x.secondary + (a - x.primary)) else none
  | none => none

/-- The copy of a word of an active mirror, which serves when the primary word is uncorrectable (R561). -/
def State.activeCopy (s : State) (a : Nat) : Option Nat :=
  match s.mirrorOf a with
  | some (m, x) => if s.fld F.MC_MIRROR_STATE m = 2 then some (x.secondary + (a - x.primary)) else none
  | none => none

/-! Faults of an access. -/

/-- What a failed access leaves to be recorded: an ink fault (13 R533), an uncorrectable word that freezes its channel
(13 R551; `cause` 1 data word, 2 side word; `ink` that of the request), or an unmapped or S-world-only address (01 R24). -/
inductive Incident where
  | ink (w : Who) (a : Nat) (write : Bool) (stored carried : Nat)
  | uncorr (a cause ink : Nat)
  | unmapped (w : Who) (a : Nat) (write : Bool) (kind : Nat)
  deriving DecidableEq, Repr

/-- Why an access of a unit failed: the reason numbers of 05 R250 (1 translation or error response, 2 ink, 3 poisoned or
uncorrectable, 4 frozen, 5 fenced), and what there is to record. -/
structure XFault where
  reason : Nat
  inc    : Option Incident
  deriving DecidableEq, Repr

/-- What a channel's state answers a requester other than a core with (13 R552, R555, R557; 19 R705). -/
def State.channelFault (s : State) (c : Nat) : Option XFault :=
  match s.fld F.MC_CH_STAT_STATE c with
  | 0 => none
  | 3 => some ⟨5, none⟩
  | _ => some ⟨4, none⟩

/-- The test of the ink (13 R530 order 1, R531). -/
def State.inkFault (s : State) (w : Who) (a stored : Nat) (write : Bool) : Option XFault :=
  match s.carried w a with
  | none => some ⟨2, some (.ink w a write stored 0)⟩
  | some i => if i = stored then none else some ⟨2, some (.ink w a write stored i)⟩

/-- The errors that remain in a word after decoding, from its copy where the primary is uncorrectable, or its side word is, and a mirror is
active (13 R561); the flag says that the copy served. -/
def State.decoded (s : State) (a : Nat) : Decode × List (Nat × Byte) × Bool :=
  match (if s.sideBadAt a then (Decode.uncorrectable, s.damageAt a) else decodeWord (s.damageAt a)) with
  | (.uncorrectable, e) =>
    match s.activeCopy a with
    | some b =>
      if s.sideBadAt b then (.uncorrectable, e, false)
      else match decodeWord (s.damageAt b) with
        | (.uncorrectable, _) => (.uncorrectable, e, false)
        | (d, l) => (d, l, true)
    | none => (.uncorrectable, e, false)
  | (d, l) => (d, l, false)

/-- Decides a read of a DRAM word (13 R530, after R525 and the channel's state): `none` when the data are returned. -/
def State.dramReadFault (s : State) (w : Who) (addr : Nat) (write : Bool) : Option XFault :=
  let a0 := addr / 32 * 32
  let a := s.served a0
  match s.channelFault (s.channelOf a) with
  | some f => some f
  | none =>
    let ink := (s.carried w a0).getD 0
    match s.decoded a with
      | (.uncorrectable, _, _) => some ⟨3, some (.uncorr a (if s.sideBadAt a then 2 else 1) ink)⟩
      | (_, left, _) =>
        let t := (SMap.get (fun _ => 0) left 32).toNat
        match s.inkFault w addr (s.inkAt a ^^^ (t % 8)) write with
        | some f => some f
        | none => if xor (s.poisonAt a) (bit t 3) then some ⟨3, none⟩ else none

/-- Decides a write of a whole DRAM word (13 R531): its side bits are read first, those of an active mirror's copy where its own side word is
uncorrectable (R561). -/
def State.dramWriteFault (s : State) (w : Who) (addr : Nat) : Option XFault :=
  let a0 := addr / 32 * 32
  let a := s.served a0
  match s.channelFault (s.channelOf a) with
  | some f => some f
  | none =>
    if s.sideBadAt a && ((s.activeCopy a0).map s.sideBadAt).getD true then some ⟨3, some (.uncorr a 2 ((s.carried w a0).getD 0))⟩
    else s.inkFault w addr (s.inkAt a) true

/-- Decides an access to memory at a physical address (01 R20, R24; 13 R559). `whole` says that it writes a whole word. -/
def State.physFault (s : State) (w : Who) (a : Nat) (write whole : Bool) : Option XFault :=
  match s.region a with
  | .dram =>
    if s.inSecondary a then some ⟨1, some (.unmapped w a write 0)⟩
    else if write && whole then s.dramWriteFault w a
    else s.dramReadFault w a write
  | .rom => if w = .s then none else some ⟨1, some (.unmapped w a write 1)⟩
  | .safetySram => if w = .s then none else some ⟨1, some (.unmapped w a write 1)⟩
  | .plateSram => if w = .s then none else some ⟨1, some (.unmapped w a write 1)⟩
  | .window => some ⟨1, none⟩
  | .doorbell => some ⟨1, none⟩
  | .none => some ⟨1, some (.unmapped w a write 0)⟩

/-- The corrected bytes of a DRAM word from `off`, `n` of them (13 R525, R561). -/
def State.dramBytes (s : State) (a0 off n : Nat) : List Byte :=
  let a := s.served a0
  match s.decoded a with
  | (_, left, fromCopy) =>
    let b := if fromCopy then (s.activeCopy a0).getD a else a
    if left.isEmpty then s.bytesAt (b + off) n
    else (List.range n).map (fun i => s.byte (b + off + i) ^^^ SMap.get (fun _ => 0) left (off + i))

/-- The pieces of a byte range that lie in one 32-byte word each: address and length. -/
def pieces : Nat → Nat → Nat → List (Nat × Nat)
  | 0, _, _ => []
  | fuel + 1, a, n =>
    if n = 0 then [] else
      let k := min n (32 - a % 32)
      (a, k) :: pieces fuel (a + k) (n - k)

/-- Reads a byte range at a physical address: the bytes, or the fault of the first word that fails. -/
def State.physRead (s : State) (w : Who) (a n : Nat) : Except XFault (List Byte) :=
  (pieces (n / 32 + 2) a n).foldr (fun p acc =>
    match s.physFault w p.1 false false with
    | some f => .error f
    | none =>
      match acc with
      | .error f => .error f
      | .ok rest =>
        if s.region p.1 = .dram then .ok (s.dramBytes (p.1 / 32 * 32) (p.1 % 32) p.2 ++ rest)
        else .ok (s.bytesAt p.1 p.2 ++ rest)) (.ok [])

/-- Stores bytes in one DRAM word whose check has passed: the data, POISON 0, a fresh codeword, and the same in its copy
(13 R531, R526, R560). -/
def State.storeDram (s : State) (a0 off : Nat) (l : List Byte) : State :=
  let put (s : State) (a : Nat) : State :=
    let s := s.putBytes (a + off) l
    { s with mc := { s.mc with
        poison := SMap.set (fun _ => false) s.mc.poison (wordNo a) false
        damage := SMap.set (fun _ => []) s.mc.damage (wordNo a) []
        writeback := s.mc.writeback.filter (fun x => x != a) } }
  match s.copyOf a0 with
  | some b => put (put s (s.served a0)) b
  | none => put s (s.served a0)

/-! Locked pages of Plate SRAM (06 R267, R268; 07 R317). -/

/-- The first address of Plate SRAM (06 R266). -/
def plateBase : Nat := 0x2000000

/-- The size of Plate SRAM in bytes. -/
def plateSize : Nat := 0xC00000

/-- Whether a page of Plate SRAM belongs to the proof area of an output whose Proof is enabled (07 R317): 35 pages. -/
def State.proofPage (s : State) (pg : Nat) : Bool :=
  (List.range 8).any (fun n => s.flag F.PROOF_CTRL_ENABLE n && decide (s.fld F.PROOF_CTRL_AREA n ≤ pg)
    && decide (pg < s.fld F.PROOF_CTRL_AREA n + 35))

/-- The lock count of a page (06 R267). -/
def State.lockCount (s : State) (pg : Nat) : Nat := SMap.get (fun _ => 0) s.etch.locks pg

/-- Whether a write to an address of Plate SRAM is discarded (06 R268, 07 R317). -/
def State.plateLocked (s : State) (a : Nat) : Bool :=
  let pg := (a - plateBase) / 4096
  decide (s.lockCount pg ≠ 0) || s.proofPage pg

/-- Records a write that a locked page refuses: the first in `ETCH_WPROT`, source 168, and the event that is still to be written
(06 R268). -/
def State.refusePlate (s : State) (w : Who) (a : Nat) : State :=
  let s := match s.firstOrOver F.ETCH_WPROT_VALID F.ETCH_WPROT_OVERFLOW with
    | (true, s) => s.setFld F.ETCH_WPROT_OFFSET (a - plateBase)
    | (false, s) => s
  let s := s.raise 168
  { s with etch := { s.etch with refused := s.etch.refused ++ [(w, a - plateBase)] } }

/-- Adds one to the correction counter of a symbol: data, tag or check (13 R525), and raises the channel's source at each
multiple of the threshold (13 R565). -/
def State.countCorrection (s : State) (c sym : Nat) : State :=
  let s := if sym < 32 then s.satInc F.MC_CE_DATA_DATA c
    else if sym = 32 then s.satInc F.MC_CE_META_TAG c
    else s.satInc F.MC_CE_META_CHECK c
  let t := s.fld F.MC_CE_TH_COUNT
  let n := s.fld F.MC_CE_DATA_DATA c + s.fld F.MC_CE_META_TAG c + s.fld F.MC_CE_META_CHECK c
  if t ≠ 0 ∧ n % t = 0 then s.raise (72 + c) else s

/-- What a successful read leaves behind for one word: a correction is counted and waits to be written back (13 R525, R526);
data served from a mirror's copy rewrite the primary word and count a repair (13 R561). -/
def State.noteRead (s : State) (a0 : Nat) : State :=
  let a := s.served a0
  if (s.damageAt a).isEmpty && !s.sideBadAt a then s
  else match s.decoded a with
    | (.clean, _, false) => s
    | (.uncorrectable, _, _) => s
    | (.corrected sym, _, false) =>
      let s := s.countCorrection (s.channelOf a) sym
      { s with mc := { s.mc with writeback := if s.mc.writeback.contains a then s.mc.writeback else s.mc.writeback ++ [a] } }
    | (_, _, true) =>
      let l := s.dramBytes a0 0 32
      let s := match s.mirrorOf a0 with
        | some (m, _) => s.satInc F.MC_MIRROR_REPAIRS m
        | none => s
      s.storeDram a0 0 l

/-- Writes bytes that lie in one word, after its check; the write of part of a DRAM word reads it first (13 R532). -/
def State.storeWord (s : State) (w : Who) (a : Nat) (l : List Byte) : Option XFault × State :=
  let base := a / 32 * 32
  match s.physFault w a true (decide (l.length = 32)) with
  | some f => (some f, s)
  | none =>
    if s.region a = .dram then
      if l.length = 32 then (none, s.storeDram base 0 l)
      else
        let old := s.dramBytes base 0 32
        (none, (s.noteRead base).storeDram base 0 (old.take (a % 32) ++ l ++ old.drop (a % 32 + l.length)))
    else if s.region a = .rom then (none, s)
    else if s.region a = .plateSram ∧ s.plateLocked a then (none, s.refusePlate w a)
    else (none, s.putBytes a l)

/-- Writes a byte range at a physical address, word by word; the first word that fails stops it, and what was written stays. -/
def State.physWriteGo (w : Who) : List (Nat × Nat) → List Byte → State → Option XFault × State
  | [], _, s => (none, s)
  | p :: ps, l, s =>
    match s.storeWord w p.1 (l.take p.2) with
    | (some f, s') => (some f, s')
    | (none, s') => State.physWriteGo w ps (l.drop p.2) s'

/-- Writes bytes at a physical address. -/
def State.physWrite (s : State) (w : Who) (a : Nat) (l : List Byte) : Option XFault × State :=
  State.physWriteGo w (pieces (l.length / 32 + 2) a l.length) l s

/-- What a successful read of a range leaves behind. -/
def State.noteReads (s : State) (a n : Nat) : State :=
  if s.mc.damage.isEmpty && s.mc.sideBad.isEmpty then s
  else (pieces (n / 32 + 2) a n).foldl (fun s p => if s.region p.1 = .dram then s.noteRead (p.1 / 32 * 32) else s) s

end Sys2Proof.Machine
end

