-- ==== Sys2Proof/Machine/Burin.lean ====
section
/-! DEFINITION. Plate lists: their format, the list checker's checks and costs (06 R270-R280, R286-R288), and the pixels the Burin
draws (06 R264, R265, R272-R281). -/

namespace Sys2Proof.Machine

/-! Reading Plate SRAM. -/

/-- Bytes of Plate SRAM from a Plate offset. -/
def State.plateBytes (s : State) (off n : Nat) : List Byte := s.bytesAt (plateBase + off) n

/-- A little-endian number in Plate SRAM. -/
def State.plate (s : State) (off n : Nat) : Nat := leAt (s.plateBytes off n) 0 n

/-- One entry of a list: its offset within the list and its Plate offset. -/
structure PEnt where
  at_ : Nat
  off : Nat
  deriving DecidableEq, Repr

/-- A field of an entry. -/
def State.ent (s : State) (e : PEnt) (off n : Nat) : Nat := s.plate (e.off + off) n

/-- A signed 16-bit field. -/
def s16 (v : Nat) : Int := signed 16 v

/-- The header of a list (R270). -/
structure PHead where
  off    : Nat
  count  : Nat
  length : Nat
  pal    : Nat
  orgX   : Int
  orgY   : Int
  deriving DecidableEq, Repr

/-- Reads a list's header. -/
def State.listHead (s : State) (off : Nat) : PHead :=
  { off := off, count := s.plate (off + 2) 2, length := s.plate (off + 4) 4, pal := s.plate (off + 8) 4
    orgX := s16 (s.plate (off + 12) 2), orgY := s16 (s.plate (off + 14) 2) }

/-- The entries of a list, by their LEN fields. -/
def State.entsFrom (s : State) (h : PHead) : Nat → Nat → List PEnt
  | 0, _ => []
  | n + 1, at_ => if h.length ≤ at_ then [] else ⟨at_, h.off + at_⟩ :: s.entsFrom h n (at_ + 8 * s.plate (h.off + at_ + 2) 2)

/-- The entries of a list. -/
def State.listEnts (s : State) (h : PHead) : List PEnt := s.entsFrom h h.count 32

/-- KIND, FLAGS, FG, BG and WIDTH of an entry (R271). -/
def State.eKind (s : State) (e : PEnt) : Nat := s.ent e 0 1
def State.eFlags (s : State) (e : PEnt) : Nat := s.ent e 1 1
def State.eFg (s : State) (e : PEnt) : Nat := s.ent e 4 1
def State.eBg (s : State) (e : PEnt) : Nat := s.ent e 5 1
def State.eWidth (s : State) (e : PEnt) : Nat := s.ent e 6 1
def State.eHatch (s : State) (e : PEnt) : Bool := bit (s.eFlags e) 0

/-- An adjusted X or Y coordinate (R274). -/
def State.eX (s : State) (h : PHead) (e : PEnt) (off : Nat) : Int := s16 (s.ent e off 2) + h.orgX
def State.eY (s : State) (h : PHead) (e : PEnt) (off : Nat) : Int := s16 (s.ent e off 2) + h.orgY

/-- The length of an entry in 8-byte units (R273). -/
def State.eLen (s : State) (e : PEnt) : Nat :=
  let h := if s.eHatch e then 1 else 0
  match s.eKind e with
  | 1 => 2 + h
  | 2 => 3 + h
  | 3 => 2
  | 4 => 3
  | 5 => 2 + h
  | 6 => 2 + (s.ent e 8 2 + 1) / 2 + h
  | 7 => 3 + (s.ent e 16 2 + 3) / 4
  | _ => 3

/-! Geometry (R272-R274). Points are on a grid of 1/256 pixel. -/

/-- The integer square root. -/
def isqrtGo : Nat → Nat → Nat → Nat → Nat
  | 0, _, lo, _ => lo
  | f + 1, n, lo, hi =>
    if hi ≤ lo + 1 then lo
    else
      let m := (lo + hi) / 2
      if m * m ≤ n then isqrtGo f n m hi else isqrtGo f n lo m

/-- The greatest number whose square is at most `n`. -/
def isqrt (n : Nat) : Nat := isqrtGo (n.log2 + 2) n 0 (2 ^ (n.log2 / 2 + 1))

/-- The coordinate `p + k / 2 · w ÷ √l2` (k and w signed) on the grid of 1/256 pixel, rounded to nearest with halves away from zero. -/
def cornerCoord (p : Int) (num : Int) (l2 : Nat) : Int :=
  let a := num.natAbs
  let m := isqrt (a * a / l2)
  let exactHalf := m % 2 == 1 && m * m * l2 == a * a
  let total := if num < 0 then 2 * p - m else 2 * p + m
  if exactHalf then (if 0 ≤ total then (total + 1) / 2 else -((1 - total) / 2))
  else if num < 0 then p - (m + 1) / 2 else p + (m + 1) / 2

/-- The four corners of a LINE on the grid of 1/256 pixel (R274); none for a line of zero length without SQUARE_CAP. -/
def lineCorners (x0 y0 x1 y1 : Int) (width : Nat) (cap : Bool) : List (Int × Int) :=
  let dx := x1 - x0
  let dy := y1 - y0
  let w : Int := width
  if dx = 0 ∧ dy = 0 then
    if cap then
      [(256 * x0 - 128 * w, 256 * y0 - 128 * w), (256 * x0 + 128 * w, 256 * y0 - 128 * w),
       (256 * x0 + 128 * w, 256 * y0 + 128 * w), (256 * x0 - 128 * w, 256 * y0 + 128 * w)]
    else []
  else
    let l2 := (dx * dx + dy * dy).natAbs
    let c : Int := if cap then 1 else 0
    -- at an end of direction u = ±(dx, dy), the corner lies width/2 along u (with a cap) and width/2 to the side
    let at_ (x y ux uy sx sy : Int) : Int × Int :=
      (cornerCoord (256 * x) (256 * w * (c * ux + sx)) l2, cornerCoord (256 * y) (256 * w * (c * uy + sy)) l2)
    [at_ x0 y0 (-dx) (-dy) (-dy) dx, at_ x1 y1 dx dy (-dy) dx, at_ x1 y1 dx dy dy (-dx), at_ x0 y0 (-dx) (-dy) dy (-dx)]

/-- The winding number of a polygon at the sample of pixel (x, y); a sample on a boundary is inside when the region lies to its right
or below it (R272). -/
def winding (pts : List (Int × Int)) (x y : Int) : Int :=
  let sx := 256 * x + 128
  let sy := 256 * y + 128
  (pts.zip (pts.drop 1 ++ pts.take 1)).foldl (fun acc e =>
    let (xa, ya) := e.1
    let (xb, yb) := e.2
    if ya ≤ sy ∧ sy < yb then (if (sy - ya) * (xb - xa) ≤ (sx - xa) * (yb - ya) then acc + 1 else acc)
    else if yb ≤ sy ∧ sy < ya then (if (sy - yb) * (xa - xb) ≤ (sx - xb) * (ya - yb) then acc - 1 else acc)
    else acc) 0

/-- Whether a sample lies in a disc of radius `r` (R274). -/
def inDisc (cx cy : Int) (r : Nat) (x y : Int) : Bool :=
  decide ((2 * x + 1 - 2 * cx) * (2 * x + 1 - 2 * cx) + (2 * y + 1 - 2 * cy) * (2 * y + 1 - 2 * cy) ≤ 4 * ((r : Int) * r))

/-- Whether a sample lies in an annulus; an inner radius of 0 leaves nothing out (R274). -/
def inAnnulus (cx cy : Int) (outer inner : Nat) (x y : Int) : Bool :=
  inDisc cx cy outer x y && (inner == 0 || !inDisc cx cy inner x y)

/-- cos of k/16 degrees for k up to 1,440, scaled by 2^80: the Taylor series with a scaled π. -/
def cosScaled (k : Nat) : Int :=
  let pi : Int := 3797952473636338580787994  -- π · 2^80
  let x : Int := (k : Int) * pi / 2880
  let x2 := x * x / 2 ^ 80
  let r := (List.range 16).foldl (fun (a : Int × Int) (n : Nat) =>
    (a.1 + a.2, -(a.2 * x2 / 2 ^ 80 / (((2 * n + 1) * (2 * n + 2) : Nat) : Int)))) (0, 2 ^ 80)
  r.1

/-- round(32,768 × cos) of k/16 degrees, for k up to 1,440. -/
def cosQuarter (k : Nat) : Int := (cosScaled k * 32768 * 2 + 2 ^ 80) / 2 ^ 81

/-- The direction of an angle in 1/16 degree, clockwise on the screen from the positive x axis (R274). -/
def direction (a : Nat) : Int × Int :=
  let k := a % 5760
  let q := k % 1440
  let c := cosQuarter q
  let d := cosQuarter (1440 - q)
  match k / 1440 with
  | 0 => (c, d)
  | 1 => (-d, c)
  | 2 => (-c, -d)
  | _ => (d, -c)

/-- Whether a vector lies in a sector (R274). -/
def inSector (start sweep : Nat) (vx vy : Int) : Bool :=
  if sweep = 5760 then true
  else
    let a := direction start
    let b := direction (start + sweep)
    let fromStart := a.1 * vy - a.2 * vx
    let toEnd := vx * b.2 - vy * b.1
    if sweep ≤ 2880 then decide (0 ≤ fromStart) && decide (0 ≤ toEnd)
    else !(decide (toEnd < 0) && decide (fromStart < 0))

/-- Whether a pixel lies in a rectangle. -/
def inRect (x0 y0 w h x y : Int) : Bool := decide (x0 ≤ x) && decide (x < x0 + w) && decide (y0 ≤ y) && decide (y < y0 + h)

/-- Whether a pixel lies in a rectangle with rounded corners (R273). -/
def inRRect (x0 y0 w h : Int) (r : Nat) (x y : Int) : Bool :=
  inRect x0 y0 w h x y &&
    (let left := decide (x < x0 + r)
     let right := decide (x0 + w - r ≤ x)
     let top := decide (y < y0 + r)
     let bottom := decide (y0 + h - r ≤ y)
     let cx := if left then x0 + (r : Int) else x0 + w - r
     let cy := if top then y0 + (r : Int) else y0 + h - r
     !((left || right) && (top || bottom)) || inDisc cx cy r x y)

/-- The vertices of a POLY, adjusted. -/
def State.polyPts (s : State) (h : PHead) (e : PEnt) : List (Int × Int) :=
  (List.range (s.ent e 8 2)).map (fun i => (s.eX h e (16 + 4 * i), s.eY h e (18 + 4 * i)))

/-- The corners of a LINE entry. -/
def State.entLine (s : State) (h : PHead) (e : PEnt) : List (Int × Int) :=
  lineCorners (s.eX h e 8) (s.eY h e 10) (s.eX h e 12) (s.eY h e 14) (s.eWidth e) (bit (s.eFlags e) 3)

/-- Whether a region primitive covers a pixel (R272-R274). -/
def State.covers (s : State) (h : PHead) (e : PEnt) (x y : Int) : Bool :=
  let wd := s.eWidth e
  let x0 := s.eX h e 8
  let y0 := s.eY h e 10
  let w : Int := s.ent e 12 2
  let hh : Int := s.ent e 14 2
  let solid := wd = 0 ∨ w ≤ 2 * wd ∨ hh ≤ 2 * wd
  match s.eKind e with
  | 1 => inRect x0 y0 w hh x y && (decide solid || !inRect (x0 + wd) (y0 + wd) (w - 2 * wd) (hh - 2 * wd) x y)
  | 2 =>
    let r := s.ent e 16 2
    inRRect x0 y0 w hh r x y && (decide solid || !inRRect (x0 + wd) (y0 + wd) (w - 2 * wd) (hh - 2 * wd) (r - wd) x y)
  | 3 => winding (s.entLine h e) x y != 0
  | 4 =>
    let r := s.ent e 12 2
    inAnnulus x0 y0 r (r - wd) x y && inSector (s.ent e 14 2) (s.ent e 16 2) (2 * x + 1 - 2 * x0) (2 * y + 1 - 2 * y0)
  | 5 =>
    let r := s.ent e 12 2
    if wd = 0 then inDisc x0 y0 r x y else inAnnulus x0 y0 r (r - wd) x y
  | 6 =>
    let n := winding ((s.polyPts h e).map (fun p => (256 * p.1, 256 * p.2))) x y
    if bit (s.eFlags e) 2 then decide (n % 2 ≠ 0) else decide (n ≠ 0)
  | _ => false

/-! Glyph runs and bitmaps (R276-R280). -/

/-- A glyph box of a run: left column, top line, width, and where its pixels lie. -/
structure GBox where
  code : Nat
  left : Int
  top  : Int
  gw   : Nat
  data : Nat
  deriving DecidableEq, Repr

/-- The glyph boxes of a run from a code on (R279). -/
def State.runBoxes (s : State) (e : PEnt) (atlas : Nat) (top : Int) : Nat → Nat → Int → List GBox
  | 0, _, _ => []
  | n + 1, i, pen =>
    let rec_ := atlas + 16 + 8 * (s.ent e (24 + 2 * i) 2 - s.plate (atlas + 4) 2)
    ⟨i, pen + signed 8 (s.plate (rec_ + 6) 1), top, s.plate (rec_ + 4) 1, atlas + s.plate rec_ 4⟩
      :: s.runBoxes e atlas top n (i + 1) (pen + s.plate (rec_ + 5) 1)

/-- The glyph boxes of a GLYPHS entry. -/
def State.glyphBoxes (s : State) (h : PHead) (e : PEnt) : List GBox :=
  let atlas := s.ent e 8 4
  s.runBoxes e atlas (s.eY h e 14 - s.plate (atlas + 8) 1) (s.ent e 16 2) 0 (s.eX h e 12)

/-- A packed pixel: column `i` of a row that starts at a Plate offset, at a depth (R277). -/
def State.packed (s : State) (row i depth : Nat) : Nat := s.plate (row + i * depth / 8) 1 / 2 ^ (i * depth % 8) % 2 ^ depth

/-- What an entry paints on a pixel, in order: palette index, and the part of its alpha in fifteenths (R273-R280). -/
def State.paints (s : State) (h : PHead) (e : PEnt) (x y : Int) : List (Nat × Nat) :=
  match s.eKind e with
  | 7 =>
    let atlas := s.ent e 8 4
    let depth := s.plate (atlas + 2) 1
    let ch := s.plate (atlas + 3) 1
    (s.glyphBoxes h e).filterMap (fun b =>
      if inRect b.left b.top b.gw ch x y then
        let v := s.packed (b.data + (y - b.top).toNat * ((b.gw * depth + 7) / 8)) (x - b.left).toNat depth
        if v = 0 then none else some (s.eFg e, if depth = 1 then 15 else v)
      else none)
  | 8 =>
    let x0 := s.eX h e 12
    let y0 := s.eY h e 14
    if inRect x0 y0 (s.ent e 16 2) (s.ent e 18 2) x y then
      let v := s.packed (s.ent e 8 4 + (y - y0).toNat * s.ent e 20 2) (x - x0).toNat (s.ent e 22 1)
      if v = 0 ∧ bit (s.eFlags e) 4 then [] else [((s.eFg e + v) % 256, 15)]
    else []
  | _ =>
    if s.covers h e x y then
      if s.eHatch e then
        let pat := s.ent e (8 * s.eLen e - 8 + (y % 8).toNat) 1
        if bit pat (x % 8).toNat then [(s.eFg e, 15)] else if bit (s.eFlags e) 1 then [(s.eBg e, 15)] else []
      else [(s.eFg e, 15)]
    else []

/-! Colours and blending (R264, R265, R281). -/

/-- A pixel of a layer or composite: premultiplied red, green, blue, and alpha, 10 bits each. -/
structure Pix where
  r : Nat
  g : Nat
  b : Nat
  q : Nat
  deriving DecidableEq, Repr

/-- A fully transparent pixel. -/
def Pix.clear : Pix := ⟨0, 0, 0, 0⟩

/-- 8 bits widened to 10 (R265). -/
def widen (v : Nat) : Nat := v * 4 + v / 64

/-- A quotient to nearest, halves up (R265). -/
def roundDiv (a b : Nat) : Nat := (2 * a + b) / (2 * b)

/-- Paints colour c with alpha a over a layer pixel (R264). -/
def Pix.paint (p : Pix) (r g b a : Nat) : Pix :=
  let m (c v : Nat) := roundDiv (c * a + v * (1023 - a)) 1023
  ⟨m r p.r, m g p.g, m b p.b, roundDiv (1023 * a + p.q * (1023 - a)) 1023⟩

/-- Puts a finished layer over the composite of the layers below it (R264). -/
def Pix.onto (k p : Pix) : Pix :=
  let m (c v : Nat) := roundDiv (1023 * c + v * (1023 - k.q)) 1023
  ⟨m k.r p.r, m k.g p.g, m k.b p.b, m k.q p.q⟩

/-- The ARGB8888 colour of a palette entry when its counter's phase is on or off (R281). -/
def State.palColour (s : State) (pal i : Nat) (on : Bool) : Nat :=
  let e := pal + 16 * i
  let steady := s.plate (e + 8) 1 == 0
  let first := steady || (on != bit (s.plate (e + 9) 1) 0)
  s.plate (if first then e else e + 4) 4

/-- Draws one pixel of a list: `phase c` is counter c's phase (R264, R278, R281). -/
def State.listPixel (s : State) (off : Nat) (phase : Nat → Bool) (x y : Int) : Pix :=
  let h := s.listHead off
  (s.listEnts h).foldl (fun p e =>
    (s.paints h e x y).foldl (fun p u =>
      let argb := s.palColour h.pal u.1 (phase (s.plate (h.pal + 16 * u.1 + 8) 1 - 1))
      let a := widen (bits argb 31 24)
      p.paint (widen (bits argb 23 16)) (widen (bits argb 15 8)) (widen (bits argb 7 0)) (if u.2 = 15 then a else roundDiv (a * u.2) 15)) p)
    Pix.clear

/-- The blink counters that the palette entries painted on a pixel follow, bit c for counter c (R281, R320). -/
def State.listCounters (s : State) (off : Nat) (x y : Int) : Nat :=
  let h := s.listHead off
  (s.listEnts h).foldl (fun m e =>
    (s.paints h e x y).foldl (fun m u =>
      let b := s.plate (h.pal + 16 * u.1 + 8) 1
      if b = 0 then m else m ||| 2 ^ (b - 1)) m) 0

/-- The etched composite of a set of lists in increasing z (R264). -/
def State.composite (s : State) (lists : List Nat) (phase : Nat → Bool) (x y : Int) : Pix :=
  lists.foldl (fun p off => (s.listPixel off phase x y).onto p) Pix.clear

/-! The cost of a list per line (R273, R286). -/

/-- A run of lines on which something is counted. -/
structure Span where
  at_  : Nat
  lo   : Int
  hi   : Int
  cost : Nat
  deriving DecidableEq, Repr

/-- The spans of an entry that count edges. -/
def State.edgeSpans (s : State) (h : PHead) (e : PEnt) : List Span :=
  let wd := s.eWidth e
  let y0 := s.eY h e 10
  let cost := if wd = 0 then 2 else 4
  match s.eKind e with
  | 1 => [⟨e.at_, y0, y0 + s.ent e 14 2 - 1, cost⟩]
  | 2 => [⟨e.at_, y0, y0 + s.ent e 14 2 - 1, cost⟩]
  | 3 =>
    match (s.entLine h e).map (·.2) with
    | [] => []
    | y :: t =>
      let lo := t.foldl min y
      let hi := t.foldl max y
      [⟨e.at_, lo / 256, (hi + 255) / 256 - 1, 2⟩]
  | 4 => [⟨e.at_, y0 - s.ent e 12 2, y0 + s.ent e 12 2 - 1, 6⟩]
  | 5 => [⟨e.at_, y0 - s.ent e 12 2, y0 + s.ent e 12 2 - 1, cost⟩]
  | 6 =>
    let p := (s.polyPts h e).map (·.2)
    (p.zip (p.drop 1 ++ p.take 1)).filterMap (fun q => if q.1 = q.2 then none else some ⟨e.at_, min q.1 q.2, max q.1 q.2 - 1, 1⟩)
  | _ => []

/-- The glyph spans of an entry. -/
def State.glyphSpans (s : State) (h : PHead) (e : PEnt) : List Span :=
  if s.eKind e = 7 then
    let ch : Int := s.plate (s.ent e 8 4 + 3) 1
    (s.glyphBoxes h e).filterMap (fun b => if b.gw = 0 then none else some ⟨e.at_, b.top, b.top + ch - 1, 1⟩)
  else []

/-- The bitmap spans of an entry. -/
def State.bitmapSpans (s : State) (h : PHead) (e : PEnt) : List Span :=
  if s.eKind e = 8 then [⟨e.at_, s.eY h e 14, s.eY h e 14 + s.ent e 18 2 - 1, 1⟩] else []

/-- The spans of a kind in a list of lists. -/
def State.spansOf (s : State) (f : State → PHead → PEnt → List Span) (offs : List Nat) : List Span :=
  offs.flatMap (fun off => let h := s.listHead off; (s.listEnts h).flatMap (fun e => f s h e))

/-- The count on a line. -/
def countOn (l : List Span) (y : Int) : Nat := l.foldl (fun a p => if p.lo ≤ y ∧ y ≤ p.hi then a + p.cost else a) 0

/-- The lines 0-8,191 on which a count can rise: those where a span starts, and line 0. -/
def riseLines (l : List Span) : List Int := (0 :: l.map (fun p => max 0 p.lo)).filter (fun y => decide (y < 8192))

/-- The greatest count of any line 0-8,191 (R286, R290). -/
def peakOf (l : List Span) : Nat := (riseLines l).foldl (fun a y => max a (countOn l y)) 0

/-- The first line over a limit. -/
def firstOver (l : List Span) (limit : Nat) : Option Int :=
  ((riseLines l).filter (fun y => decide (limit < countOn l y))).foldl (fun b y =>
    match b with
    | none => some y
    | some m => some (min m y)) none

/-! The list checker (R288). -/

/-- Why a list is refused: the reason, the offset within the list, and the first line over budget. -/
structure Refused where
  reason : Nat
  off    : Nat
  line   : Nat
  deriving DecidableEq, Repr

/-- The first test of a list that fails gives its offset. -/
def firstBad (l : List (Bool × Nat)) : Option Nat := (l.find? (fun t => !t.1)).map (·.2)

/-- Whether bytes are all 0. -/
def State.zeros (s : State) (off n : Nat) : Bool := (s.plateBytes off n).all (fun b => b == 0)

/-- Check 1 (R270). -/
def State.headFault (s : State) (off : Nat) : Option Nat :=
  let h := s.listHead off
  firstBad [(s.plate off 2 == 1, 0), (decide (1 ≤ h.count) && decide (h.count ≤ 16384), 2),
    (decide (48 ≤ h.length) && decide (h.length ≤ 1048576) && h.length % 8 == 0 && decide (off + h.length ≤ plateSize), 4),
    (h.pal % 64 == 0, 8), (s.zeros (off + 20) 12, 20)]

/-- Check 3: KIND, FLAGS, BG and reserved bytes (R271, R273, R274), as an offset within the entry. -/
def State.formFault (s : State) (e : PEnt) : Option Nat :=
  let k := s.eKind e
  let f := s.eFlags e
  let filled := s.eWidth e == 0
  let hatchOk := (k == 1 || k == 2 || k == 5 || k == 6) && filled
  let flagsOk := decide (f < 32) && (!bit f 0 || hatchOk) && (!bit f 1 || bit f 0) && (!bit f 2 || k == 6) && (!bit f 3 || k == 3)
    && (!bit f 4 || k == 8)
  let z (off n : Nat) : Bool × Nat := (s.zeros (e.off + off) n, off)
  let nv := s.ent e 8 2
  let nc := s.ent e 16 2
  let extra : List (Bool × Nat) := match k with
    | 2 => [z 18 6]
    | 4 => [z 18 6]
    | 5 => [z 14 2]
    | 6 => [z 10 6, z (16 + 4 * nv) (4 * (nv % 2))]
    | 7 => [z 18 6, z (24 + 2 * nc) (2 * ((4 - nc % 4) % 4))]
    | 8 => [z 23 1]
    | _ => []
  firstBad ([(decide (1 ≤ k) && decide (k ≤ 8), 0), (flagsOk, 1), (bit f 1 || s.eBg e == 0, 5), z 7 1] ++ extra)

/-- A coordinate whose sum with ORG leaves the 16-bit range (R274). -/
def coordOk (v : Int) : Bool := decide (-32768 ≤ v) && decide (v ≤ 32767)

/-- Check 5: the geometry fields (R274), as an offset within the entry. -/
def State.geomFault (s : State) (h : PHead) (e : PEnt) : Option Nat :=
  let w := s.eWidth e
  let f (off : Nat) := s.ent e off 2
  let x (off : Nat) : Bool × Nat := (coordOk (s.eX h e off), off)
  let y (off : Nat) : Bool × Nat := (coordOk (s.eY h e off), off)
  let size (off : Nat) : Bool × Nat := (decide (1 ≤ f off) && decide (f off ≤ 8192), off)
  firstBad (match s.eKind e with
    | 1 => [x 8, y 10, size 12, size 14]
    | 2 => [x 8, y 10, size 12, size 14, (decide (2 * f 16 ≤ min (f 12) (f 14)), 16)]
    | 3 => [(decide (1 ≤ w), 6), x 8, y 10, x 12, y 14]
    | 4 => [(decide (1 ≤ w), 6), x 8, y 10, (decide (1 ≤ f 12) && decide (f 12 ≤ 8191) && decide (w ≤ f 12), 12),
        (decide (f 14 ≤ 5759), 14), (decide (1 ≤ f 16) && decide (f 16 ≤ 5760), 16)]
    | 5 => [x 8, y 10, (decide (1 ≤ f 12) && decide (f 12 ≤ 8191) && decide (w ≤ f 12), 12)]
    | 6 => [(w == 0, 6), (decide (3 ≤ f 8) && decide (f 8 ≤ 256), 8)]
        ++ (List.range (min 256 (f 8))).flatMap (fun i => [x (16 + 4 * i), y (18 + 4 * i)])
    | 7 => [(w == 0, 6), x 12, y 14, (decide (1 ≤ f 16) && decide (f 16 ≤ 256), 16)]
    | _ => [(w == 0, 6), (s.ent e 8 4 % 8 == 0, 8), x 12, y 14, size 16, size 18,
        (f 20 % 8 == 0 && decide (f 16 * s.ent e 22 1 ≤ 8 * f 20), 20), ([1, 2, 4, 8].contains (s.ent e 22 1), 22)])

/-- Check 6 of an entry: its atlas or bitmap lies in Plate SRAM and is aligned. -/
def State.placeFault (s : State) (e : PEnt) : Option Nat :=
  let a := s.ent e 8 4
  match s.eKind e with
  | 7 => if a % 64 = 0 ∧ a + 16 ≤ plateSize ∧ a + s.plate (a + 12) 4 ≤ plateSize then none else some 8
  | 8 => if a + s.ent e 18 2 * s.ent e 20 2 ≤ plateSize then none else some 8
  | _ => none

/-- Check 7 of an entry: its atlas follows R276, and each code lies in the atlas with its pixels within SIZE (R277). -/
def State.atlasFault (s : State) (e : PEnt) : Option Nat :=
  if s.eKind e ≠ 7 then none
  else
    let a := s.ent e 8 4
    let depth := s.plate (a + 2) 1
    let ch := s.plate (a + 3) 1
    let first := s.plate (a + 4) 2
    let count := s.plate (a + 6) 2
    let size := s.plate (a + 12) 4
    if !(s.plate a 2 == 1 && (depth == 1 || depth == 4) && decide (1 ≤ ch) && decide (1 ≤ count) && decide (first + count ≤ 65536)
        && decide (s.plate (a + 8) 1 ≤ ch) && s.zeros (a + 9) 3 && decide (16 + 8 * count ≤ size) && decide (size ≤ 4194304)) then some 8
    else
      ((List.range (s.ent e 16 2)).find? (fun i =>
        let c := s.ent e (24 + 2 * i) 2
        let r := a + 16 + 8 * (c - first)
        !(decide (first ≤ c) && decide (c < first + count) && s.plate (r + 7) 1 == 0
          && decide (s.plate r 4 + ch * ((s.plate (r + 4) 1 * depth + 7) / 8) ≤ size)))).map (fun i => 24 + 2 * i)

/-- Checks 3 to 7 of one entry, in that order. -/
def State.entFault (s : State) (h : PHead) (e : PEnt) : Option Refused :=
  match s.formFault e with
  | some o => some ⟨3, e.at_ + o, 0⟩
  | none =>
    if s.ent e 2 2 ≠ s.eLen e ∨ h.length < e.at_ + 8 * s.eLen e then some ⟨4, e.at_, 0⟩
    else match s.geomFault h e with
      | some o => some ⟨5, e.at_ + o, 0⟩
      | none => match s.placeFault e with
        | some o => some ⟨6, e.at_ + o, 0⟩
        | none => (s.atlasFault e).map (fun o => ⟨7, e.at_ + o, 0⟩)

/-- The entries of a list one after another, and its end. -/
def State.entsFault (s : State) (h : PHead) : Nat → Nat → Option Refused
  | 0, at_ => if at_ = h.length then none else some ⟨4, 4, 0⟩
  | n + 1, at_ =>
    let e : PEnt := ⟨at_, h.off + at_⟩
    if h.length < at_ + 8 then some ⟨4, at_, 0⟩
    else match s.entFault h e with
      | some r => some r
      | none => s.entsFault h n (at_ + 8 * s.ent e 2 2)

/-- Whether a palette entry follows R281. -/
def State.palEntryOk (s : State) (pal i : Nat) : Bool :=
  let e := pal + 16 * i
  decide (s.plate (e + 8) 1 ≤ 4) && decide (s.plate (e + 9) 1 ≤ 1) && s.zeros (e + 10) 6

/-- Reasons 9 to 11: a budget of the checked set with the new list in place (R286). -/
def State.budgetFault (s : State) (off : Nat) (others : List Nat) (f : State → PHead → PEnt → List Span) (limit reason : Nat) :
    Option Refused :=
  let own := s.spansOf f [off]
  match firstOver (own ++ s.spansOf f others) limit with
  | none => none
  | some y => some ⟨reason, ((own.find? (fun p => decide (p.lo ≤ y) && decide (y ≤ p.hi))).map (·.at_)).getD 0, y.toNat⟩

/-- The list checker on the list at a Plate offset, with the other layers' lists of the checked set (R288). -/
def State.checkList (s : State) (off : Nat) (others : List Nat) : Option Refused :=
  match s.headFault off with
  | some o => some ⟨1, o, 0⟩
  | none =>
    let h := s.listHead off
    if crc32c (zeroed (s.plateBytes off h.length) 16 4) ≠ s.plate (off + 16) 4 then some ⟨2, 16, 0⟩
    else match s.entsFault h h.count 32 with
      | some r => some r
      | none =>
        if plateSize < h.pal + 4096 then some ⟨6, 8, 0⟩
        else if !(List.range 256).all (fun i => s.palEntryOk h.pal i) then some ⟨8, 8, 0⟩
        else match s.budgetFault off others State.edgeSpans 256 9 with
          | some r => some r
          | none => match s.budgetFault off others State.glyphSpans 64 10 with
            | some r => some r
            | none => s.budgetFault off others State.bitmapSpans 32 11

/-- The pages of a Plate range. -/
def pagesOf (off n : Nat) : List Nat := (List.range ((off + n + 4095) / 4096 - off / 4096)).map (fun i => off / 4096 + i)

/-- The pages a list touches, each once (R267). -/
def State.listPages (s : State) (off : Nat) : List Nat :=
  let h := s.listHead off
  let more := (s.listEnts h).flatMap (fun e =>
    match s.eKind e with
    | 7 => pagesOf (s.ent e 8 4) (s.plate (s.ent e 8 4 + 12) 4)
    | 8 => pagesOf (s.ent e 8 4) (s.ent e 18 2 * s.ent e 20 2)
    | _ => [])
  (pagesOf off h.length ++ pagesOf h.pal 4096 ++ more).eraseDups

/-- The blink counters that a list's palette follows (R284). -/
def State.palCounters (s : State) (off : Nat) : Nat :=
  let pal := (s.listHead off).pal
  (List.range 256).foldl (fun m i => let b := s.plate (pal + 16 * i + 8) 1; if b = 0 then m else m ||| 2 ^ (b - 1)) 0

end Sys2Proof.Machine
end

