-- ==== Sys2Proof/Machine/Dma.lean ====
section
/-! DEFINITION. Device DMA: two-stage translation (01 R19, 04 R186-R188, R770), cached translations (04 R188, R191), and
the reading and writing of byte ranges under a party's identity (03 R101). -/

namespace Sys2Proof.Machine

/-- A fault of a translation without anything to record. -/
def transFault : XFault := ⟨1, none⟩

/-- How a failed table read ends the access being translated (04 R770): a frozen or fenced channel as such, everything else as
a translation fault; what there is to record stays. -/
def tableFault (f : XFault) : XFault := if f.reason = 4 ∨ f.reason = 5 then f else ⟨1, f.inc⟩

/-- Whether a leaf entry grants the access, in the RISC-V format: V, U and A set, R for a read, W and D for a write; the address
bits below a superpage are 0 (PRESUMED: the format of the RISC-V IOMMU specification that 01 R19 names). -/
def leafGrants (pte lvl : Nat) (write : Bool) : Bool :=
  bit pte 4 && bit pte 6 && (if write then bit pte 2 && bit pte 7 else bit pte 1)
    && decide (bits pte 53 10 % 2 ^ (9 * lvl) = 0)

/-- Walks a table from a level down: `read` reads an 8-byte entry; `top` is the index width of the first level. -/
def walk (read : Nat → Except XFault Nat) (va : Nat) (write : Bool) : List Nat → Nat → Nat → Except XFault Nat
  | [], _, _ => .error transFault
  | l :: ls, width, base =>
    match read (base + 8 * (va / 2 ^ (12 + 9 * l) % 2 ^ width)) with
    | .error f => .error (tableFault f)
    | .ok pte =>
      if !bit pte 0 || (!bit pte 1 && bit pte 2) then .error transFault
      else if bit pte 1 || bit pte 3 then
        if leafGrants pte l write then .ok (bits pte 53 10 * 4096 + va % 2 ^ (12 + 9 * l)) else .error transFault
      else walk read va write ls 9 (bits pte 53 10 * 4096)

/-- The second stage of a device context: Bare, or Sv48x4 with its tables at physical addresses under the mediator's identity
(04 R186, R188, R770). -/
def State.stage2 (s : State) (dc gpa : Nat) (write : Bool) : Except XFault Nat :=
  match SMap.get (fun _ => none) s.cl.devctx dc with
  | none => .error transFault
  | some d =>
    if d.mode = 0 then .ok gpa
    else if 2 ^ 50 ≤ gpa then .error transFault
    else walk (fun a => match s.physRead .med a 8 with
        | .error f => .error f
        | .ok l => .ok (leAt l 0 8)) gpa write [3, 2, 1, 0] 11 d.root

/-- Both stages for a client's I/O address (04 R187, R188, R770). -/
def State.stage1 (s : State) (c va : Nat) (write : Bool) : Except XFault Nat :=
  match (s.client c).bind with
  | none => .error transFault
  | some b =>
    if b.mode = 0 then s.stage2 b.dc va write
    else if 2 ^ 47 ≤ va ∧ va < 2 ^ 64 - 2 ^ 47 then .error transFault
    else match walk (fun a => match s.stage2 b.dc a false with
        | .error f => .error f
        | .ok pa => match s.physRead (.client c) pa 8 with
          | .error f => .error f
          | .ok l => .ok (leAt l 0 8)) va write [3, 2, 1, 0] 9 b.root with
      | .error f => .error f
      | .ok gpa => s.stage2 b.dc gpa write

/-- The cached translation of a page, if there is one that covers this kind of access (04 R188, R191). -/
def State.cached (s : State) (c va : Nat) (write : Bool) : Option Nat :=
  (s.cl.tlb.find? (fun e => e.client == c && e.vpage == va / 4096 && (e.write || !write))).map (fun e => e.ppage * 4096 + va % 4096)

/-- The physical address behind a party's address: physical for the S-world, the mediator and firmware (03 R101). -/
def State.translate (s : State) (w : Who) (va : Nat) (write : Bool) : Except XFault Nat :=
  match w with
  | .client c =>
    match s.cached c va write with
    | some pa => .ok pa
    | none => s.stage1 c va write
  | _ => .ok va

/-- Keeps a translation that an access used (04 R188). -/
def State.cache (s : State) (w : Who) (va pa : Nat) (write : Bool) : State :=
  match w with
  | .client c =>
    if (s.cached c va write).isSome then s
    else { s with cl := { s.cl with tlb := s.cl.tlb ++
        [⟨c, ((s.client c).bind.map (·.dc)).getD 0, va / 4096, pa / 4096, write⟩] } }
  | _ => s

/-- The pieces of a range that lie in one 4 KiB page each. -/
def pagePieces : Nat → Nat → Nat → List (Nat × Nat)
  | 0, _, _ => []
  | fuel + 1, a, n =>
    if n = 0 then [] else
      let k := min n (4096 - a % 4096)
      (a, k) :: pagePieces fuel (a + k) (n - k)

/-- Reads page pieces one after another. -/
def State.dmaReadGo (w : Who) : List (Nat × Nat) → List Byte → State → Except XFault (List Byte) × State
  | [], acc, s => (.ok acc, s)
  | p :: ps, acc, s =>
    match s.translate w p.1 false with
    | .error f => (.error f, s)
    | .ok pa =>
      match s.physRead w pa p.2 with
      | .error f => (.error f, s)
      | .ok l => State.dmaReadGo w ps (acc ++ l) ((s.cache w p.1 pa false).noteReads pa p.2)

/-- Reads bytes under a party's identity and translation: the bytes, or the fault of the first word that fails. -/
def State.dmaRead (s : State) (w : Who) (va n : Nat) : Except XFault (List Byte) × State :=
  State.dmaReadGo w (pagePieces (n / 4096 + 2) va n) [] s

/-- Writes page pieces one after another. -/
def State.dmaWriteGo (w : Who) : List (Nat × Nat) → List Byte → State → Option XFault × State
  | [], _, s => (none, s)
  | p :: ps, l, s =>
    match s.translate w p.1 true with
    | .error f => (some f, s)
    | .ok pa =>
      match (s.cache w p.1 pa true).physWrite w pa (l.take p.2) with
      | (some f, s') => (some f, s')
      | (none, s') => State.dmaWriteGo w ps (l.drop p.2) s'

/-- Writes bytes under a party's identity and translation; the first word that fails stops it, and what was written stays. -/
def State.dmaWrite (s : State) (w : Who) (va : Nat) (l : List Byte) : Option XFault × State :=
  State.dmaWriteGo w (pagePieces (l.length / 4096 + 2) va l.length) l s

/-- Records an ink fault in `MC_INKF`, the first fully and a later one as OVERFLOW, and raises source 64 + g for the first
(13 R533). -/
def State.recordInk (s : State) (w : Who) (a : Nat) (write : Bool) (stored carried : Nat) : State :=
  match s.firstOrOver F.MC_INKF_VALID F.MC_INKF_OVERFLOW with
  | (false, s) => s
  | (true, s) =>
    let s := s.setFld F.MC_INKF_STORED stored
    let s := s.setFld F.MC_INKF_CARRIED carried
    let s := s.setFlag F.MC_INKF_WORLD (w = .s)
    let s := s.setFld F.MC_INKF_ORIGIN (match w with | .client _ => 0 | .med => 1 | .fw => 2 | .s => 0)
    let s := s.setFlag F.MC_INKF_WRITE write
    let s := s.setFld F.MC_INKF_CHANNEL (s.channelOf a)
    let s := s.setFld F.MC_INKF_CLIENT (match w with | .client n => n | _ => 0)
    let s := s.setRg (Reg.MC_INKF_ADDR_LO) (BitVec.ofNat 32 a)
    let s := s.setRg (Reg.MC_INKF_ADDR_HI) (BitVec.ofNat 32 (a / 2 ^ 32))
    s.raise (64 + s.groupOf a)

/-- Records a refused access in `DEV_BUSERR`, the first fully and a later one as OVERFLOW, and raises source 16 for the first
(01 R26). -/
def State.recordBus (s : State) (w : Who) (a : Nat) (write : Bool) (kind : Nat) : State :=
  match s.firstOrOver F.DEV_BUSERR_VALID F.DEV_BUSERR_OVERFLOW with
  | (false, s) => s
  | (true, s) =>
    let s := s.setFld F.DEV_BUSERR_KIND kind
    let s := s.setFlag F.DEV_BUSERR_WORLD (w = .s)
    let s := s.setFld F.DEV_BUSERR_ORIGIN (match w with | .client _ => 0 | .med => 1 | .fw => 2 | .s => 0)
    let s := s.setFlag F.DEV_BUSERR_WRITE write
    let s := s.setFld F.DEV_BUSERR_CLIENT (match w with | .client n => n | _ => 0)
    let s := s.setRg (Reg.DEV_BUSERR_ADDR_LO) (BitVec.ofNat 32 a)
    let s := s.setRg (Reg.DEV_BUSERR_ADDR_HI) (BitVec.ofNat 32 (a / 2 ^ 32 % 2 ^ 16))
    s.raise 16

/-! Gated units (01 R25). -/

/-- The domain of a register window, by the address of the register (01 R22; R697). The fabric's own windows lie in domain 6. -/
def State.addrDomain (s : State) (a : Nat) : Nat :=
  match a / 0x100000 with
  | 0x101 => 5
  | 0x102 => 10
  | 0x103 =>
    if a < 0x10341000 then 11 + (a - 0x10300000) / 256 % 8
    else if a < 0x10380000 then (let n := s.fld F.DPIPE_LCTRL_OUTPUT ((a - 0x10341000) / 64 % 64); if n < 8 then 19 + n else 6)
    else 11 + (a - 0x10380000) / 256 % 8
  | 0x104 => if a < 0x10400400 then 19 + (a - 0x10400000) / 64 % 8 else if a < 0x10400800 then 19 + (a - 0x10400400) % 128 / 16 else 4
  | 0x105 => if a < 0x10500400 then 11 + (a - 0x10500000) / 64 % 8 else 27
  | 0x106 => 28
  | 0x107 => 30
  | 0x108 => 35
  | 0x109 => 36
  | 0x10A => 10
  | 0x10B =>
    if 0x10B00200 ≤ a ∧ a < 0x10B002C0 then 37 + (a - 0x10B00200) % 64 / 16
    else if 0x10B00300 ≤ a ∧ a < 0x10B00400 then 37 + (a - 0x10B00300) / 64
    else 6
  | 0x10C => 29
  | 0x10D => 43
  | 0x10E => 41
  | 0x10F => 0
  | 0x110 => 0
  | 0x112 => 42
  | 0x113 => 44
  | _ => 6

/-- Whether a domain is gated: off, or in retention (01 R25; R706). -/
def State.gatedDomain (s : State) (d : Nat) : Bool := bit s.pwr.off d || (s.pwr.retained && decide (11 ≤ d) && decide (d < 28))

/-- Whether the unit whose register lies at an address is gated. -/
def State.gatedAt (s : State) (a : Nat) : Bool := s.gatedDomain (s.addrDomain a)

/-- A write to the register window of a gated unit is ignored and recorded (01 R25, R26). -/
def State.refuseGated (s : State) (w : Who) (a : Nat) : State := (s.recordBus w a true 2).answer .zero

end Sys2Proof.Machine
end

