-- ==== Sys2Proof/Machine/Rings.lean ====
section
/-! DEFINITION. Writing completion entries and event entries into a submitter's rings (03 R129-R131, R142-R146). -/

namespace Sys2Proof.Machine

/-- MSI-X: the vector of a client's mapping is written with every completion or event entry for it (04 R194), except in the
safe state (17 R656). -/
def State.msix (s : State) (c : Nat) : State :=
  if s.safe then s
  else match s.cl.pasids.find? (fun m => m.client == c) with
    | some m => { s with cl := { s.cl with msix := s.cl.msix ++ [(m.fn, m.vector)] } }
    | none => s

/-- The sources of 03 R146 for an entry written to a ring, and MSI-X for a client. -/
def State.noticeEntry (s : State) (r : RingId) (sS sM : Nat) : State :=
  match r with
  | .s => s.raise sS
  | .med => s.raise sM
  | .client c => s.msix c

/-- Events that are not free but the last entry: a ring of N entries takes ordinary events while fewer than N − 2 are unread,
so that one more entry stays for EVENTS_LOST (03 R144; DEDUCED). -/
def RingSet.eqUsed (x : RingSet) : Nat := (x.eqTail + 2 ^ x.eqLog - x.eqHead) % 2 ^ x.eqLog

/-- The 32 bytes of an event entry (03 R142). -/
def eventBytes (code inst client gen phase time d0 d1 d2 d3 : Nat) : List Byte :=
  leBytes 2 code ++ leBytes 2 inst ++ leBytes 2 (client % 4096 + 0x8000 * phase) ++ leBytes 2 gen ++ leBytes 8 time
    ++ leBytes 4 d0 ++ leBytes 4 d1 ++ leBytes 4 d2 ++ leBytes 4 d3

/-- Counts a dropped event (03 R144). -/
def State.loseEvent (s : State) (r : RingId) (code : Nat) : State :=
  let x := s.ring r
  s.setRing r { x with lost := min (x.lost + 1) 0xFFFFFFFF, lostCode := if x.lost = 0 then code else x.lostCode }

/-- What a failed write of an entry leaves in the registers; it writes no event of its own. -/
def State.noteQuiet (s : State) (f : XFault) : State :=
  match f.inc with
  | some (.ink w a wr st ca) => s.recordInk w a wr st ca
  | some (.unmapped w a wr k) => s.recordBus w a wr k
  | _ => s

/-- Writes an event entry at the ring's tail; a faulting write drops the event and counts it (03 R144, R145). -/
def State.putEvent (s : State) (r : RingId) (code inst client d0 d1 d2 d3 : Nat) (time : Nat := s.devTime) : State :=
  let x := s.ring r
  let gen := match r with
    | .client c => (s.client c).gen
    | _ => if client = 0 then 0 else (s.client client).gen
  match s.dmaWrite (ringWho r) (x.eqBase + 32 * x.eqTail)
      (eventBytes code inst client gen ((x.eqPass + 1) % 2) time d0 d1 d2 d3) with
  | (some f, s) => (s.noteQuiet f).loseEvent r code
  | (none, s) =>
    let x := s.ring r
    let wrap := x.eqTail + 1 = 2 ^ x.eqLog
    (s.setRing r { x with eqTail := (x.eqTail + 1) % 2 ^ x.eqLog, eqPass := if wrap then x.eqPass + 1 else x.eqPass }).noticeEntry r 9 289

/-- Writes an event entry, or drops and counts it when only the last entry is free (03 R144). -/
def State.writeEvent (s : State) (e : HeldEvent) : State :=
  let x := s.ring e.ring
  if !x.enabled || x.draining then s
  else if 2 ^ x.eqLog ≤ x.eqUsed + 2 then s.loseEvent e.ring e.code
  else s.putEvent e.ring e.code e.inst e.client e.d0 e.d1 e.d2 e.d3 e.time

/-- Holds an event during a pause: up to 64 of each ring set, and beyond that it is counted as lost (16 R625). -/
def State.holdEvent (s : State) (e : HeldEvent) : State :=
  if 64 ≤ (s.fw.held.filter (fun h => h.ring = e.ring)).length then s.loseEvent e.ring e.code
  else { s with fw := { s.fw with held := s.fw.held ++ [e] } }

/-- Writes the held events, oldest first (16 R624). -/
def State.flushHeld (s : State) : State :=
  s.fw.held.foldl (fun (s : State) e => s.writeEvent e) { s with fw := { s.fw with held := [] } }

/-- Whether a pause is under way (16 R624). -/
def State.paused (s : State) : Bool := s.fw.pause.isSome

/-- Raises an event for a ring (03 R142-R144): nothing while the set is out of service or leaving it (R137, R769), nothing for a
class the mask clears; held during a pause (16 R625). -/
def State.event (s : State) (r : RingId) (code inst : Nat) (d0 d1 d2 d3 : Nat := 0) (client : Nat := ringClient r) : State :=
  let x := s.ring r
  let e : HeldEvent := { ring := r, code := code, inst := inst, client := client, d0 := d0, d1 := d1, d2 := d2, d3 := d3, time := s.devTime }
  if !x.enabled || x.draining || !bit x.mask (code / 1024) then s
  else if s.paused then s.holdEvent e
  else s.writeEvent e

/-- An event for the S ring and the mediator ring. -/
def State.eventSM (s : State) (code inst : Nat) (d0 d1 d2 d3 : Nat := 0) : State :=
  (s.event .s code inst d0 d1 d2 d3).event .med code inst d0 d1 d2 d3

/-- An event for a client and, as a copy, for the ring that caused it, if that is another (04 R159). -/
def State.eventCopy (s : State) (c : Nat) (r : RingId) (code inst : Nat) (d0 d1 d2 d3 : Nat := 0) : State :=
  let s := s.event (.client c) code inst d0 d1 d2 d3
  if r = .client c then s else s.event r code inst d0 d1 d2 d3 c

/-- INSTANCE of an event that concerns none (03 R142). -/
def noInst : Nat := 0xFFFF

/-- The 32 bytes of a completion entry (03 R129). -/
def completionBytes (p : Packet) (x : Result) (phase : Nat) : List Byte :=
  leBytes 4 p.tag ++ leBytes 2 x.status ++ leBytes 2 (p.client % 4096 + 0x8000 * phase) ++ leBytes 2 p.gen ++ leBytes 2 p.opcode
    ++ leBytes 4 p.index ++ leBytes 4 x.r0 ++ leBytes 4 x.r1 ++ leBytes 4 x.r2 ++ leBytes 4 x.r3

/-- Used and reserved completion entries (03 R126). -/
def RingSet.cqUsed (x : RingSet) : Nat := (x.cqTail + 2 ^ x.cqLog - x.cqHead) % 2 ^ x.cqLog + x.reserved

/-- Whether a completion entry can be reserved (03 R126). -/
def RingSet.canReserve (x : RingSet) : Bool := decide (x.cqUsed < 2 ^ x.cqLog - 1)

/-- Writes one completion entry at the tail; the flag says whether the write succeeded (03 R129, R130, R145, R146). -/
def State.putCompletion (s : State) (r : RingId) (p : Packet) (res : Result) : Bool × State :=
  let x := s.ring r
  match s.dmaWrite (ringWho r) (x.cqBase + 32 * x.cqTail) (completionBytes p res ((x.cqPass + 1) % 2)) with
  | (some f, s) => (false, s.noteQuiet f)
  | (none, s) =>
    let x := s.ring r
    let wrap := x.cqTail + 1 = 2 ^ x.cqLog
    (true, (s.setRing r { x with cqTail := (x.cqTail + 1) % 2 ^ x.cqLog, cqPass := if wrap then x.cqPass + 1 else x.cqPass
                                 reserved := x.reserved - 1 }).noticeEntry r 8 288)

/-- Writes a completion into its reserved entry. A faulting write keeps the entry reserved, is retried at the next
`CP_DB_CQ_HEAD` write and writes RING_HALTED with DATA1 2 (03 R145); a completion behind a stalled one waits with it. The ring is not
halted, so source 290 is not raised (03 R146; DEDUCED). -/
def State.complete (s : State) (r : RingId) (p : Packet) (res : Result) : State :=
  let x := s.ring r
  if !x.stalled.isEmpty then s.setRing r { x with stalled := x.stalled ++ [(p, res)] }
  else match s.putCompletion r p res with
    | (true, s) => s
    | (false, s) =>
      let x := s.ring r
      let s := s.setRing r { x with stalled := [(p, res)] }
      s.event r 0x0003 noInst x.cqTail 2

/-- Reserves a completion entry (03 R126). -/
def State.reserve (s : State) (r : RingId) : State :=
  let x := s.ring r
  s.setRing r { x with reserved := x.reserved + 1 }

/-- Releases a reserved entry that will not be written. -/
def State.unreserve (s : State) (r : RingId) : State :=
  let x := s.ring r
  s.setRing r { x with reserved := x.reserved - 1 }

end Sys2Proof.Machine
end

