-- ==== Sys2Proof/Machine/AudioOps.lean ====
section
/-! DEFINITION. The operations of the audio router (11): gains and ramps, sources and their activity, scaling and ducking, crossfades,
generators, ports, and the entry into RECOVERY. -/

namespace Sys2Proof.Machine

/-- Replaces the router's state. -/
def State.setAud (s : State) (a : Aud) : State := { s with aud := a }

/-- A multiplexer, a bus, a generator pair and a stream. -/
def State.mux (s : State) (d : Nat) : Mux := SMap.get (fun _ => Mux.blank) s.aud.muxes d
def State.bus (s : State) (k : Nat) : Bus := SMap.get (fun _ => Bus.blank) s.aud.buses k
def State.pair (s : State) (u : Nat) : GenPair := SMap.get (fun _ => GenPair.blank) s.aud.pairs u
def State.stream (s : State) (k : Nat) : Option AStream := SMap.get (fun _ => none) s.aud.streams k
def State.setMux (s : State) (d : Nat) (m : Mux) : State :=
  { s with aud := { s.aud with muxes := SMap.set (fun _ => Mux.blank) s.aud.muxes d m } }
def State.setBus (s : State) (k : Nat) (b : Bus) : State :=
  { s with aud := { s.aud with buses := SMap.set (fun _ => Bus.blank) s.aud.buses k b } }
def State.setPair (s : State) (u : Nat) (g : GenPair) : State :=
  { s with aud := { s.aud with pairs := SMap.set (fun _ => GenPair.blank) s.aud.pairs u g } }
def State.setStream (s : State) (k : Nat) (x : Option AStream) : State :=
  { s with aud := { s.aud with streams := SMap.set (fun _ => none) s.aud.streams k x } }

/-! Gains and ramps (R463, R466, R468). -/

/-- A gain code in hundredths of a dB; mute counts as −120 dB. -/
def centi (g : Nat) : Int := if g = 0 then -12000 else ((g : Int) - 231) * 50

/-- The cycles of a sample of domain A or V (R451): `CLK_FAB` is 24,960 times 48 kHz. -/
def samplePeriod (v : Bool) : Nat := if v then 74880 else 24960

/-- Samples of domain A since reset. -/
def State.aSamples (s : State) : Nat := s.cyc / 24960

/-- The value of a ramp at a cycle, one step per sample. -/
def Ramp.value (r : Ramp) (now : Nat) : Int :=
  let k := min r.samples ((now - r.began) / r.period)
  r.start + (r.target - r.start) * (k : Int) / (max 1 r.samples : Nat)

/-- The ramp time in samples: RAMP or SRAMP in 0.5 ms; 0 acts as 40, and more than 1,000 as 1,000 (R499). -/
def State.rampSamples (s : State) (bus15 v : Bool) : Nat :=
  let r := s.fld (if bus15 then F.AUD_CTRL_SRAMP else F.AUD_CTRL_RAMP)
  (if r = 0 then 40 else min r 1000) * (if v then 8 else 24)

/-- Whether the router is in SERVICE, where changes ramp (R466-R468). -/
def State.inService (s : State) : Bool := s.fld F.AUD_CTRL_STATE == 1

/-- A change of gain from a current value (R466, R468): a ramp in SERVICE, none otherwise or when nothing changes. -/
def State.rampTo (s : State) (cur target : Int) (bus15 v : Bool) : Option Ramp :=
  if s.inService && cur != target then some ⟨cur, target, s.cyc, s.rampSamples bus15 v, samplePeriod v⟩ else none

/-- A gain in force: the ramp's value, or the target without one. -/
def gainNow (r : Option Ramp) (target : Int) (now : Nat) : Int :=
  match r with
  | some x => x.value now
  | none => target

/-! Domains and permissions of routes (R455, R458-R461). -/

/-- The domain of a port's slots in the graph: V, or A (R455). -/
def State.portV (s : State) (p : Nat) : Bool := decide (s.fld F.AUD_PORT_STAT_DOMAIN p = 1)

/-- Whether a stream is in domain V. -/
def State.streamV (s : State) (k : Nat) : Bool := ((s.stream k).map (fun x => bit (leAt x.params 1 1) 1)).getD false

/-- Whether a multiplexer is in domain V (R459). -/
def State.muxV (s : State) (d : Nat) : Bool :=
  if d < 0x100 then (s.bus (d / 16)).domV
  else if d < 0x180 then s.portV ((d - 0x100) / 16)
  else if d < 0x1C0 then false
  else if d < 0x1E0 then s.streamV (128 + (d - 0x1C0))
  else if d < 0x1E8 then true
  else decide (8 ≤ d - 0x1E8)

/-- The domain of a source (R458): whether it is V; `none` for silence, which fits any. -/
def State.srcV (s : State) (c : Nat) : Option Bool :=
  if c = 0 then none
  else if c < 0x81 then some (s.portV ((c - 1) / 16))
  else if c < 0x89 then some false
  else if c < 0xC9 then some (s.streamV (c - 0x89))
  else if c < 0xD1 then some true
  else if c < 0xE1 then some (decide (c - 0xD1 < 8))
  else if c < 0xF1 then some (s.bus (c - 0xE1)).domV
  else some false

/-! Activity and scaling (R470). -/

/-- Whether a source is active, following bridges and buses to a depth. A PDM channel has no port to disable, and counts as active; a bus is
active while one of its inputs is (DEDUCED). -/
def State.srcActive (s : State) : Nat → Nat → Bool
  | 0, _ => false
  | f + 1, c =>
    if c = 0 then false
    else if c < 0x81 then s.flag F.AUD_PORT_STAT_ENABLED ((c - 1) / 16) && s.flag F.AUD_PORT_STAT_CLOCKED ((c - 1) / 16)
    else if c < 0x89 then true
    else if c < 0xC9 then ((s.stream (c - 0x89)).map (·.started)).getD false
    else if c < 0xD1 then bit s.aud.rxOn (c - 0xC9)
    else if c < 0xE1 then
      let m := s.mux (0x1E8 + (c - 0xD1))
      m.cur.gain != 0 && s.srcActive f m.cur.src
    else if c < 0xF1 then
      s.aud.muxes.any (fun e => decide (e.1 / 16 = c - 0xE1) && e.2.cur.gain != 0 && s.srcActive f e.2.cur.src)
    else ((s.stream (64 + (c - 0xF1))).map (·.started)).getD false

/-- The active inputs of a bus. -/
def State.activeInputs (s : State) (k : Nat) : Nat :=
  (s.aud.muxes.filter (fun e => decide (e.1 / 16 = k) && e.2.cur.gain != 0 && s.srcActive 24 e.2.cur.src)).length

/-- 20 log₁₀ N in hundredths of a dB, N from 0 to 16. -/
def logTable : List Int := [0, 0, 602, 954, 1204, 1398, 1556, 1690, 1806, 1908, 2000, 2083, 2158, 2228, 2292, 2352, 2408]

/-- 10 log₁₀ N in hundredths of a dB, N from 0 to 16. -/
def halfLogTable : List Int := [0, 0, 301, 477, 602, 699, 778, 845, 903, 954, 1000, 1041, 1079, 1114, 1146, 1176, 1204]

/-- The scale of a bus with `n` active inputs under SCALE (R470). -/
def scaleOf (mode n : Nat) : Int :=
  match mode with
  | 1 => -((logTable[n]?).getD 0)
  | 2 => -((halfLogTable[n]?).getD 0)
  | _ => 0

/-- SCALE, GAIN and the other fields of a bus's settings (R471). -/
def busScale (l : List Byte) : Nat := bits (leAt l 1 1) 3 2
def busGain (l : List Byte) : Nat := leAt l 2 1

/-- Brings a bus's automatic scaling to its number of active inputs (R470). -/
def State.syncBus (s : State) (k : Nat) : State :=
  let b := s.bus k
  let t := scaleOf (busScale b.act) (s.activeInputs k)
  if t = b.scale then s
  else s.setBus k { b with scale := t, sramp := s.rampTo (gainNow b.sramp b.scale s.cyc) t (k == 15) b.domV }

/-- Whether bus 15 is sounding (R494). -/
def State.sounding (s : State) : Bool := (s.pair 7).tone.isSome || decide (0 < s.activeInputs 15)

/-- Brings SOUNDING and the ducking stage to what bus 15 does (R494): down over 5 ms, back over 250 ms, in every router state. -/
def State.syncDuck (s : State) : State :=
  let on := s.sounding
  let s := s.setFlag F.AUD_ALARM_STAT_SOUNDING on
  let db := s.fld F.AUD_ALARM_DUCK_DB
  let t : Int := if on && s.flag F.AUD_ALARM_ENABLE && s.flag F.AUD_ALARM_DUCK then (if 61 ≤ db then -12000 else -(db * 100)) else 0
  if t = s.aud.duck then s
  else
    let cur := gainNow s.aud.dramp s.aud.duck s.cyc
    s.setAud { s.aud with duck := t, dramp := some ⟨cur, t, s.cyc, if t < cur then 240 else 12000, samplePeriod false⟩ }

/-- Brings scaling, sounding and ducking up to date after a change (R470, R494). -/
def State.audSync (s : State) : State := (s.aud.buses.foldl (fun (s : State) e => s.syncBus e.1) s).syncDuck

/-! Routes in force (R466-R468). -/

/-- Carries a multiplexer's active copy into the graph: a crossfade for a new source, a ramp for a new gain; held while a crossfade runs. -/
def State.applyMux (s : State) (d : Nat) : State :=
  let m := s.mux d
  let now := gainNow m.ramp (centi m.cur.gain) s.cyc
  let b15 := decide (d / 16 = 15)
  if m.fade.isSome ∨ m.act = m.cur then s
  else if m.act.src ≠ m.cur.src ∧ s.inService then
    s.setMux d { m with cur := m.act, fade := some ⟨m.cur.src, now, s.cyc⟩, ramp := s.rampTo (-12000) (centi m.act.gain) b15 (s.muxV d) }
  else s.setMux d { m with cur := m.act, fade := none, ramp := s.rampTo now (centi m.act.gain) b15 (s.muxV d) }

/-- Sets a multiplexer to a route at once, in every copy. -/
def State.forceMux (s : State) (d : Nat) (r : Route) : State := s.setMux d ⟨r, r, r, none, none⟩

/-- The 32 transmit slots of ports 6 and 7 select silence (R492, R493). -/
def State.dropAlarmRoutes (s : State) : State := (List.range 32).foldl (fun (s : State) i => s.forceMux (0x160 + i) Route.none) s

/-! Streams (R481-R487). -/

/-- Shows how many streams are started (R499). -/
def State.showStreams (s : State) : State :=
  let on := s.aud.streams.filter (fun e => (e.2.map (·.started)).getD false)
  (s.setFld F.AUD_STAT_STREAMS (on.filter (fun e => decide (e.1 < 128))).length).setFld F.AUD_STAT_CAPTURES
    (on.filter (fun e => decide (128 ≤ e.1))).length

/-- A stream stops at once: no further frames are read, and its setup is kept. -/
def State.haltStream (s : State) (k : Nat) : State :=
  match s.stream k with
  | none => s
  | some x => (s.setStream k (some { x with started := false, stopping := false, ramp := none, fifo := [] })).showStreams

/-- Every ramp and crossfade jumps to its end (R468). -/
def State.endRamps (s : State) : State :=
  let s := s.aud.muxes.foldl (fun (s : State) e => let m := s.mux e.1; s.setMux e.1 { m with cur := m.act, ramp := none, fade := none }) s
  let s := s.aud.buses.foldl (fun (s : State) e => let b := s.bus e.1; s.setBus e.1 { b with sramp := none, mramp := none }) s
  s.aud.streams.foldl (fun (s : State) e =>
    match s.stream e.1 with
    | some x => if x.stopping then s.haltStream e.1 else s.setStream e.1 (some { x with ramp := none })
    | none => s) s

/-- Moves the router into a state (R465, R468). -/
def State.setRouter (s : State) (st : Nat) : State :=
  let s := s.setFld F.AUD_CTRL_STATE st
  if st = 1 then s else s.endRamps

/-! Generators (R477-R480). -/

/-- The pair attached to a bus, generator 15 being pair 7. -/
def State.pairOf (s : State) (gen : Nat) : Option Nat :=
  if gen = 15 then some 7 else (List.range 7).find? (fun u => (s.pair u).bus == some gen)

/-- TONE_DONE to the submitter of a cadence, and its source (R479, R497, R498): 0 ended, 1 replaced, 2 stopped. -/
def State.toneDone (s : State) (u : Nat) (t : Tone) (how : Nat) : State :=
  let gen := if u = 7 then 15 else ((s.pair u).bus).getD 0
  match t.ring with
  | some r => (s.event r 0x2006 noInst gen how).raise (if u = 7 then 244 else 267)
  | none => s.raise (if u = 7 then 244 else 267)

/-- Starts a cadence on a pair in place of the one that runs (R479). -/
def State.startTone (s : State) (u : Nat) (c : Cadence) (ring : Option RingId) : State :=
  let s := match (s.pair u).tone with
    | some t => s.toneDone u t 1
    | none => s
  s.setPair u { s.pair u with tone := some ⟨c, c.rep, 0, s.cyc, ring⟩ }

/-- Stops a pair's cadence. -/
def State.stopTone (s : State) (u : Nat) : State :=
  match (s.pair u).tone with
  | some t => (s.toneDone u t 2).setPair u { s.pair u with tone := none }
  | none => s

/-- Plays a beep on a generator; without a pair, or a beep of that number, it is counted (R477, R480). -/
def State.beep (s : State) (gen b : Nat) : State :=
  if b = 0 ∨ 9 < b then s.satInc F.AUD_STAT_NOGEN
  else match s.pairOf gen with
    | none => s.satInc F.AUD_STAT_NOGEN
    | some u => s.setPair u { s.pair u with beep := some (b, s.cyc) }

/-! Ports (R452-R457). -/

/-- The PORT_SET parameters of a port. -/
def State.port (s : State) (p : Nat) : List Byte := SMap.get (fun _ => List.replicate 8 0) s.aud.ports p

/-- Whether a port is enabled. -/
def portEnabled (l : List Byte) : Bool := bit (leAt l 1 1) 0

/-- Puts PORT_SET parameters into effect: a master's clocks are there at once, a slave's are measured (R453, R454). -/
def State.applyPort (s : State) (p : Nat) (l : List Byte) : State :=
  let s := s.setAud { s.aud with ports := SMap.set (fun _ => List.replicate 8 0) s.aud.ports p l }
  if 8 ≤ p then s
  else
    let o := leAt l 1 1
    let master := bit o 0 && bit o 1
    let s := (s.setFlag F.AUD_PORT_STAT_ENABLED (bit o 0) p).setFld F.AUD_PORT_STAT_DOMAIN (bits o 5 4) p
    let s := s.setFlag F.AUD_PORT_STAT_CLOCKED master p
    s.setFld F.AUD_PORT_STAT_RATE_HZ (if master then (if bits o 5 4 = 1 then 16000 else 48000) else 0) p

/-! The alarm pair and RECOVERY (R489-R495). -/

/-- Marks ports 6 and 7 as members of the alarm pair, or not. -/
def State.showAlarm (s : State) : State :=
  let on := s.flag F.AUD_ALARM_ENABLE
  (s.setFlag F.AUD_PORT_STAT_ALARM on 6).setFlag F.AUD_PORT_STAT_ALARM on 7

/-- Re-enabling clears the alarm's failures and frees the spares they use (R492; 17 R648). -/
def State.clearAlarmFails (s : State) : State :=
  let s := ((s.setFld F.AUD_ALARM_STAT_FAIL6 0).setFld F.AUD_ALARM_STAT_FAIL7 0).setFld F.AUD_ALARM_STAT_MISMATCH 0
  s.setAud { s.aud with spare := 0 }

/-- The router in the safe state (R495): RECOVERY, buses 0-14 muted, N-world streams stopped, the safe cadence where generator 15 does not
run, and the alarm enabled in its reset configuration where it is not. -/
def State.enterRecovery (s : State) : State :=
  let s := s.setRouter 3
  let s := s.setAud { s.aud with muted := true }
  let s := s.aud.streams.foldl (fun (s : State) e => if 64 ≤ e.1 ∧ e.1 < 68 then s else s.haltStream e.1) s
  let idle := (s.pair 7).tone.isNone
  let s := if idle then (s.startTone 7 s.aud.safeCad none).event .s 0x2007 noInst 4 (s.aSamples % 2 ^ 32) else s
  let s := if s.flag F.AUD_ALARM_ENABLE then s
    else
      let l (p : Nat) : List Byte := [BitVec.ofNat 8 p, 0x07, 2, 32, 24, 0, 0, 0]
      let s := (s.applyPort 6 (l 6)).applyPort 7 (l 7)
      let s := s.dropAlarmRoutes.clearAlarmFails
      (s.setRg Reg.AUD_ALARM 0x80000003#32).showAlarm
  ((s.setFld F.AUD_ALARM_STAT_SAFE_CAD 1).raise 245).audSync

end Sys2Proof.Machine
end

