-- ==== Sys2Proof/Machine/ArbOps.lean ====
section
/-! DEFINITION. The Engine Arbiter's operations (12): queues, grants, take-aways, withdrawals. -/

namespace Sys2Proof.Machine

/-- The pool of a unit (12 R516). -/
def poolOf (u : Nat) : Nat := if u < 4 then 0 else if u < 12 then 1 else if u = 12 then 2 else 3

/-- The units of a pool (12 R500, R516). -/
def unitsOf (pool : Nat) : List Nat :=
  match pool with
  | 0 => [0, 1, 2, 3]
  | 1 => [4, 5, 6, 7, 8, 9, 10, 11]
  | 2 => [12]
  | _ => [13]

/-- The register that holds a pool's RESTART_LIMIT and LOCK_MAX_US (12 R516). -/
def State.poolCfg (s : State) (pool : Nat) : Word := s.rg (Reg.ARB_POOL_CFG0 + 4 * pool)

/-- A pool's LOCK_MAX in ns (12 R500, R516). -/
def State.lockMaxNs (s : State) (pool : Nat) : Nat := bitsOf (s.poolCfg pool) 15 0 * 1000

/-- The grant of a unit. -/
def State.grant (s : State) (u : Nat) : Option Grant := SMap.get (fun _ => none) s.arb.units u

/-- Replaces the grant of a unit. -/
def State.setGrant (s : State) (u : Nat) (g : Option Grant) : State :=
  { s with arb := { s.arb with units := SMap.set (fun _ => none) s.arb.units u g } }

/-- A pool's queue and the requests held outside it. -/
def State.queue (s : State) (pool : Nat) : List Request := SMap.get (fun _ => []) s.arb.queues pool
def State.outside (s : State) (pool : Nat) : List Request := SMap.get (fun _ => []) s.arb.outside pool

/-- Replaces a pool's queue and its held-outside list. -/
def State.setQueue (s : State) (pool : Nat) (q o : List Request) : State :=
  { s with arb := { s.arb with queues := SMap.set (fun _ => []) s.arb.queues pool q
                               outside := SMap.set (fun _ => []) s.arb.outside pool o } }

/-- The rank of a requester: 0 S, 1 mediator, 2 guest-high, 3 guest-low (12 R501, R516). -/
def State.rankOf (s : State) (q : Requester) : Nat :=
  match q with
  | .task r _ => r
  | .packet k =>
    match s.place k with
    | none => 3
    | some p =>
      match p.ring with
      | .s => 0
      | .med => 1
      | .client n => if (s.ring (.client n)).rank = 1 then 2 else 3

/-- The unit that a requester holds, if it holds one (12 R502). -/
def State.heldBy (s : State) (q : Requester) : Option (Nat × Grant) :=
  s.arb.units.findSome? (fun e => e.2.bind (fun g => if g.holder = q then some (e.1, g) else none))

/-- Whether a requester holds a unit of a pool. -/
def State.holdsIn (s : State) (q : Requester) (pool : Nat) : Option Nat :=
  match s.heldBy q with
  | some (u, g) => if poolOf u = pool ∧ !g.stopping then some u else none
  | none => none

/-- Whether request `a` stands before request `b` in a queue (12 R504). -/
def Request.before (a b : Request) : Bool :=
  if a.rank ≠ b.rank then decide (a.rank < b.rank)
  else if a.taken ≠ b.taken then a.taken
  else decide (a.seq < b.seq)

/-- Inserts a request at its place in a queue (12 R504). -/
def insertRequest (x : Request) : List Request → List Request
  | [] => [x]
  | y :: t => if x.before y then x :: y :: t else y :: insertRequest x t

/-- Whether a queue has an entry that a request of this rank may use: 32 entries, of which 0-7 hold only rank S (12 R503). -/
def queueFits (q : List Request) (rank : Nat) : Bool :=
  let nS := (q.filter (fun x => x.rank = 0)).length
  let nN := q.length - nS
  if rank = 0 then decide (nS < 8) || decide (nN + (nS - 8) < 24) else decide (nN + (nS - 8) < 24)

/-- The newest entry of lower rank, which a request without an entry displaces (12 R504). -/
def displaced (q : List Request) (rank : Nat) : Option Request :=
  q.foldl (fun best x => if rank < x.rank then
      match best with
      | none => some x
      | some b => if b.seq < x.seq then some x else some b
    else best) none

/-- Enters a request: into the queue, in place of a displaced entry, or held outside (12 R503, R504). -/
def State.enqueue (s : State) (pool : Nat) (x : Request) : State :=
  let q := s.queue pool
  let o := s.outside pool
  if queueFits q x.rank then s.setQueue pool (insertRequest x q) o
  else match displaced q x.rank with
    | some d => s.setQueue pool (insertRequest x (q.filter (fun y => y != d))) (o ++ [d])
    | none => s.setQueue pool q (o ++ [x])

/-- Offers the held-outside requests again, in arrival order (12 R504). -/
def State.reoffer (s : State) (pool : Nat) : State :=
  let r := (s.outside pool).foldl (fun (acc : List Request × List Request) x =>
    if queueFits acc.1 x.rank then (insertRequest x acc.1, acc.2) else (acc.1, acc.2 ++ [x])) (s.queue pool, [])
  s.setQueue pool r.1 r.2

/-- Grants a unit to a request (12 R505, R508, R511). -/
def State.grantTo (s : State) (u : Nat) (x : Request) : State :=
  let limit := bitsOf (s.poolCfg (poolOf u)) 23 16
  let s := s.setGrant u (some { holder := x.holder, rank := x.rank, locked := x.locked
                                shielded := decide (limit ≠ 0) && decide (limit ≤ x.takes), order := s.arb.seq, since := s.cyc
                                takes := x.takes, stopping := false, overran := false })
  { s with arb := { s.arb with seq := s.arb.seq + 1 } }

/-- Whether a request may take a grant away (12 R506, R508, R511). -/
def Grant.eligible (g : Grant) (rank : Nat) : Bool :=
  decide (rank < g.rank) && !g.locked && !(g.shielded && decide (1 < rank)) && !g.stopping

/-- The unit that the head of the queue takes away: lowest rank, then most recently granted (12 R506). -/
def State.victim (s : State) (pool rank : Nat) : Option Nat :=
  (unitsOf pool).foldl (fun best u =>
    match s.grant u with
    | none => best
    | some g =>
      if g.eligible rank then
        match best with
        | none => some u
        | some b =>
          match s.grant b with
          | none => some u
          | some h => if h.rank < g.rank ∨ (h.rank = g.rank ∧ h.order < g.order) then some u else some b
      else best) none

/-- Whether a unit may be granted: its domain is neither off nor waiting to be cut (19 R697, R699). -/
def State.unitOn (s : State) (u : Nat) : Bool :=
  let d := if u < 4 then 28 else if u < 12 then 29 else 43
  !bit s.pwr.off d && !s.pwr.cutting.any (fun x => x.1 == d)

/-- A decision of the arbiter for one pool: nothing for the N-world around Sleep (19 R707); a free unit goes to the head of the queue; without one, the head marks the unit it
takes away, unless one is already stopping for it (12 R505, R506). -/
def State.decideOnce (s : State) (pool : Nat) : State :=
  match s.queue pool with
  | [] => s
  | x :: t =>
    if s.asleep && x.rank != 0 then s
    else match (unitsOf pool).find? (fun u => (s.grant u).isNone && s.unitOn u) with
    | some u => ((s.setQueue pool t (s.outside pool)).grantTo u x).reoffer pool
    | none =>
      if (unitsOf pool).any (fun u => ((s.grant u).map (·.stopping)).getD false) then s
      else match s.victim pool x.rank with
        | none => s
        | some u =>
          match s.grant u with
          | none => s
          | some g => s.setGrant u (some { g with stopping := true })

/-- Decisions until nothing more can be granted in the pool. -/
def State.decidePool (s : State) (pool : Nat) : State :=
  (unitsOf pool).foldl (fun s _ => s.decideOnce pool) (s.decideOnce pool)

/-- Frees a unit and lets the arbiter decide (12 R505, R509). -/
def State.releaseUnit (s : State) (u : Nat) : State := (s.setGrant u none).decidePool (poolOf u)

/-- Counts a take-away of a requester: in `ARB_TAKE`, and in the restarts of its operation, which starts again from the
beginning (12 R502, R507; 03 R133), or FW_WRITE its page (16 R622). -/
def State.countTake (s : State) (pool : Nat) (q : Requester) : State :=
  let s := s.satInc F.ARB_TAKE_COUNT pool
  match q with
  | .task _ _ => s
  | .packet k =>
    match s.place k with
    | some p => s.setPlace k (some { p with restarts := p.restarts + 1, progress := if p.pkt.opcode = 0x3002 then p.progress else 0 })
    | none => s

/-- Removes a requester's queued and held-outside requests (12 R509). -/
def State.unqueue (s : State) (q : Requester) : State :=
  [0, 1, 2, 3].foldl (fun s pool =>
    (s.setQueue pool ((s.queue pool).filter (fun x => x.holder != q)) ((s.outside pool).filter (fun x => x.holder != q))).reoffer pool) s

/-- Withdraws everything a requester holds or asks for (12 R509). -/
def State.withdraw (s : State) (q : Requester) : State :=
  let s := s.unqueue q
  match s.heldBy q with
  | some (u, _) => s.releaseUnit u
  | none => s

/-- Ends an operation that holds a unit: the result, and the unit freed (12 R505). -/
def State.endOpFree (s : State) (k status : Nat) (r0 r1 r2 r3 : Nat := 0) : State :=
  (s.endOp k status r0 r1 r2 r3).withdraw (.packet k)

/-- What follows a Folio commit, without the packet in place `k`. -/
def After.without (k : Nat) (a : After) : After :=
  match a with
  | .op j => if j = k then .none else a
  | _ => a

/-- A Folio write, without the packet in place `k`. -/
def FWrite.without (k : Nat) (w : FWrite) : FWrite := { w with after := w.after.without k }

/-- Forgets the packet in place `k` wherever something would end it later: what it asked for goes on without it, but a SHARE_SET
that has not applied is gone. -/
def State.forgetPlace (s : State) (k : Nat) : State :=
  { s with
    fol := { s.fol with queue := s.fol.queue.map (FWrite.without k)
                        writing := s.fol.writing.map (fun x => (x.1.without k, x.2)) }
    aud := { s.aud with swaps := s.aud.swaps.map (fun x => if x.place = k then { x with place := 128 } else x) }
    mc := { s.mc with slotWait := s.mc.slotWait.filterMap (fun (e : Nat × List Nat) =>
        let l := e.2.filter (fun j => j != k)
        if l.isEmpty then none else some (e.1, l)) }
    pwr := { s.pwr with cutting := s.pwr.cutting.filter (fun x => x.2 != k)
                        restoring := s.pwr.restoring.map (fun x => if x.2 = some k then (x.1, none) else x) }
    cp := { s.cp with rings := s.cp.rings.map (fun (e : Nat × RingSet) => if e.2.disableBy = some k then (e.1, { e.2 with disableBy := none }) else e) }
    cl := { s.cl with clients := (s.cl.clients.map (fun (e : Nat × Client) =>
        (e.1, { e.2 with shares := e.2.shares.filter (fun x => x.place != k)
                         resetBy := if e.2.resetBy = some k then none else e.2.resetBy }))).filter (fun e => decide (e.2 ≠ Client.fresh)) } }

/-- The task that runs a dropped packet's locked flash sequence to its end (04 R178): 4096 and the client's number, or 0. -/
def orphanTask (r : RingId) : Requester :=
  match r with
  | .client n => .task 1 (4096 + n)
  | _ => .task 1 0

/-- Takes a packet out of execution without a completion (04 R179; 17 R656): its reserved entry is released, its requests and
grants withdrawn; a locked sequence on the flash port runs on as a task of its own (04 R178). -/
def State.dropPlace (s : State) (k : Nat) : State :=
  match s.place k with
  | none => s
  | some p =>
    let s := match s.heldBy (.packet k) with
      | some (12, g) => if g.locked then s.setGrant 12 (some { g with holder := orphanTask p.ring }) else s
      | _ => s
    (((s.withdraw (.packet k)).setPlace k none).unreserve p.ring).forgetPlace k

/-- Withdraws every N-world grant and request, locked ones included, except a locked sequence on the flash port (17 R655). -/
def State.withdrawNWorld (s : State) : State :=
  let s := [0, 1, 2, 3].foldl (fun s pool =>
    s.setQueue pool ((s.queue pool).filter (fun x => x.rank = 0)) ((s.outside pool).filter (fun x => x.rank = 0))) s
  (List.range 14).foldl (fun s u =>
    match s.grant u with
    | none => s
    | some g => if g.rank = 0 ∨ (u = 12 ∧ g.locked) then s else s.releaseUnit u) s

end Sys2Proof.Machine
end

