-- ==== Sys2Proof/Machine/HapticOps.lean ====
section
/-! DEFINITION. The operations of the haptic drivers (10): the ROM library, bridges and duties, wear, starting, ending and stopping effects. -/

namespace Sys2Proof.Machine

/-- Actuator `a`. -/
def State.act (s : State) (a : Nat) : Act := SMap.get (fun _ => Act.blank) s.hap.acts a

/-- Replaces actuator `a`. -/
def State.setAct (s : State) (a : Nat) (x : Act) : State :=
  { s with hap := { s.hap with acts := SMap.set (fun _ => Act.blank) s.hap.acts a x } }

/-- A waveform slot, if it is loaded. -/
def State.wave (s : State) (k : Nat) : Option Wave := SMap.get (fun _ => none) s.hap.waves k

/-- Loads or frees a waveform slot. -/
def State.setWave (s : State) (k : Nat) (w : Option Wave) : State :=
  { s with hap := { s.hap with waves := SMap.set (fun _ => none) s.hap.waves k w } }

/-- The magnitude of AMP, a signed byte. -/
def Seg.mag (g : Seg) : Nat := if g.amp < 128 then g.amp else 256 - g.amp

/-! The ROM library (R430). -/

/-- An overdrive, a sustain, a reverse brake and a coast segment. -/
def segO (amp dur : Nat) : Seg := ⟨amp, 0, dur⟩
def segS (amp dur : Nat) : Seg := ⟨amp, 1, dur⟩
def segB (amp dur : Nat) : Seg := ⟨256 - amp, 2, dur⟩
def segC (dur : Nat) : Seg := ⟨0, 3, dur⟩

/-- A list of segments a number of times. -/
def timesSegs (k : Nat) (l : List Seg) : List Seg := (List.range k).flatMap (fun _ => l)

/-- CLICK_n. -/
def clickSegs (n : Nat) : List Seg := [segO 127 (n + 4), segB 127 ((n + 5) / 2)]

/-- The effects that come in families of eight: family `f` from 0, member `n` from 1 to 8. -/
def romFamily (f n : Nat) : List Seg :=
  match f with
  | 0 => clickSegs n
  | 1 => [segO 80 (n + 4), segB 80 ((n + 5) / 2)]
  | 2 => clickSegs n ++ [segC 60] ++ clickSegs n
  | 3 => [segO 127 n, segB 127 1]
  | 4 => [segO 127 20, segS 100 (50 * n), segB 127 20]
  | 5 => [segO 127 20, segS 127 (50 * n), segB 127 25]
  | 6 => timesSegs n [segO 127 10, segS 110 40, segB 127 10, segC 90]
  | 7 => segO 127 15 :: (List.range 8).map (fun i => segS (40 + 12 * i) (10 * n)) ++ [segB 127 20]
  | 8 => segO 127 15 :: (List.range 8).map (fun i => segS (124 - 12 * i) (10 * n)) ++ [segB 100 15]
  | 9 => timesSegs n [segO 127 15, segS 127 135, segB 127 20, segC 130]
  | 10 => timesSegs n [segO 127 8, segB 127 4, segC 80, segO 127 8, segB 127 4, segC 400]
  | 11 => [segO 127 (n + 4), segS 90 40, segB 127 12, segC 80] ++ clickSegs n
  | 12 => timesSegs 3 [segO 127 10, segS (63 + 8 * n) 60, segB 127 15, segC 60]
  | 13 => [segO 127 15, segS 60 (100 * n), segB 100 15]
  | _ => [segO (40 + 10 * n) 3, segB (40 + 10 * n) 2]

/-- The segments of ROM effect `e`, 1 to 127. -/
def romEffect (e : Nat) : List Seg :=
  if e ≤ 120 then romFamily ((e - 1) / 8) ((e - 1) % 8 + 1)
  else match e with
    | 121 => [segO 127 20, segS 127 2000, segB 127 30]
    | 122 => [segO 100 10, segS 70 60, segB 100 10]
    | 123 => timesSegs 5 [segO 127 10, segS 127 90, segB 127 15, segC 85]
    | 124 => timesSegs 10 [segO 127 10, segS 127 40, segB 127 10, segC 40]
    | 125 => [segO 127 10, segS 127 40, segB 127 10, segC 150, segO 127 10, segB 127 5]
    | 126 => timesSegs 3 [segO 127 15, segS 127 185, segB 127 25, segC 275]
    | _ => [segO 127 15, segS 32 250, segS 64 250, segS 96 250, segS 127 250, segB 127 25]

/-- The segment list and REPEAT of an effect number (R433); `none` for 0, a slot without a waveform, and numbers that name nothing. -/
def State.effectSegs (s : State) (e : Nat) : Option (List Seg × Nat) :=
  if e = 0 then none
  else if e < 128 then some (romEffect e, 0)
  else if e < 160 then (s.wave (e - 128)).map (fun w => (w.segs, w.rep))
  else none

/-! Settings in force (R445). -/

def Effect.ratedMv (e : Effect) : Nat := bitsOf e.drv 15 0

/-- OD_MV; below RATED_MV it acts as RATED_MV. -/
def Effect.odMv (e : Effect) : Nat := max (bitsOf e.drv 31 16) e.ratedMv

/-- STALL_PCT: 10-90; other values act as 40. -/
def Effect.stallPct (e : Effect) : Nat := let v := bitsOf e.cfg 15 8; if 10 ≤ v ∧ v ≤ 90 then v else 40

/-- OPEN_MA: 5-100; other values act as 20. -/
def Effect.openMa (e : Effect) : Nat := let v := bitsOf e.cfg 7 0; if 5 ≤ v ∧ v ≤ 100 then v else 20


def Effect.rpm (e : Effect) : Nat := bitsOf e.lim 31 16

/-- The running segment. -/
def Effect.seg (e : Effect) : Option Seg := e.segs[e.idx]?

/-- 127 times the voltage in mV that a segment asks for (R428). -/
def Effect.ask127 (e : Effect) (g : Seg) : Nat := g.mag * (if g.phase = 1 then e.ratedMv else if g.phase = 3 then 0 else e.odMv)

/-- What a segment does with the bridge (R428). -/
def Seg.bridge (g : Seg) : Bridge :=
  match g.phase with
  | 0 => .forward
  | 1 => .forward
  | 2 => if g.amp = 0 then .shortBrake else .reverse
  | _ => .coast

/-- Whether a bridge drives the winding. -/
def Bridge.drives (b : Bridge) : Bool := b == .forward || b == .reverse

/-! Wear (R444). -/

/-- The estimated speed in rpm, rounded down. -/
def State.actSpeed (s : State) (a : Nat) (e : Effect) (g : Seg) : Nat :=
  match g.phase with
  | 0 => e.rpm / 2
  | 1 =>
    let b := s.fld F.HAP_SIG_BEMF a
    if 0 < e.windows ∧ s.flag F.HAP_STAT_SIG_VALID a ∧ b ≠ 0 then e.rpm * s.fld F.HAP_MEAS_BEMF a / b else e.rpm * g.mag / 127
  | 2 => if g.amp = 0 then 0 else e.rpm / 2
  | _ => 0

/-- Adds to a counter that carries a remainder: the new remainder and the whole units. -/
def carryUnits (acc unit : Nat) : Nat × Nat := (acc % unit, acc / unit)

/-- Counts revolutions and seconds of drive up to now (R444). A cycle is 3125/3744 ns: 3125 per cycle of 60·10¹²·3744 for a thousand
revolutions, and of 10⁹·3744 for a second. -/
def State.actWear (s : State) (a : Nat) : State :=
  let x := s.act a
  let d := (s.cyc - x.counted) * 3125
  match x.run.bind (fun e => e.seg.map (fun g => (e, g))) with
  | none => s.setAct a { x with counted := s.cyc }
  | some (e, g) =>
    let r := carryUnits (x.revs + d * s.actSpeed a e g) (60000000000000 * 3744)
    let t := carryUnits (if x.bridge = .coast then x.drive else x.drive + d) (1000000000 * 3744)
    let s := s.setAct a { x with counted := s.cyc, revs := r.1, drive := t.1 }
    (s.satInc F.HAP_WEAR_COUNT a r.2).satInc F.HAP_DRIVE_S_COUNT a t.2

/-! Duty (R426). -/

/-- The duty in steps of 1/12,800, rounded to nearest, and whether it was clamped at 1. -/
def dutyOf (ask127 vhap : Nat) : Nat × Bool :=
  if 127 * vhap < ask127 then (12800, true)
  else if vhap = 0 then (0, false)
  else ((2 * 12800 * ask127 + 127 * vhap) / (2 * 127 * vhap), false)

/-- Sets the duty of the running segment from `VHAP` (R426). -/
def State.actDuty (s : State) (a : Nat) : State :=
  let x := s.act a
  match x.run.bind (fun e => e.seg.map (fun g => e.ask127 g)) with
  | none => s.setAct a { x with duty := 0 }
  | some v =>
    let d := dutyOf v (s.fld F.HAP_VHAP_MV)
    let s := s.setAct a { x with duty := if x.bridge.drives then d.1 else 0 }
    if d.2 && x.bridge.drives then s.setFld F.HAP_STAT_SAT 1 a else s

/-! Segments and effects (R429, R434-R437). -/

/-- Starts the segment at the effect's index: the bridge and its duty; a drive start from coast or short brake is counted and its current
checked 200 µs later (R428, R439, R442, R444). -/
def State.beginSeg (s : State) (a : Nat) (e : Effect) : State :=
  match e.seg with
  | none => s
  | some g =>
    let x := s.act a
    let b := g.bridge
    let start := b.drives && !x.bridge.drives
    let e := { e with began := s.cyc, windows := 0, braked := e.braked || g.phase == 2 }
    let due := if start then some s.cyc else if b.drives then x.openDue else none
    let s := s.setAct a { x with run := some e, bridge := b, openDue := due }
    let s := if start then s.satInc F.HAP_STARTS_COUNT a else s
    let s := (s.setFld F.HAP_STAT_STATE 2 a).setFld F.HAP_STAT_EFFECT e.number a
    ((s.setFld F.HAP_STAT_SEGMENT e.idx a).setFlag F.HAP_STAT_SAFETY e.safety a).actDuty a

/-- The end of an effect: EFFECT_DONE to the submitter of its PLAY, and source 232 + n (R448, R449). -/
def State.doneEvent (s : State) (a : Nat) (e : Effect) (how : Nat) : State :=
  let s := match e.origin with
    | .play r tag => s.event r 0x1C01 a e.number how tag
    | _ => s
  s.raise (232 + a)

/-- Nothing runs on an actuator: the bridge coasts (R429). -/
def State.actIdle (s : State) (a : Nat) (state : Nat) : State :=
  let x := s.act a
  let s := s.setAct a { x with run := none, bridge := .coast, duty := 0, openDue := none }
  let s := (s.setFld F.HAP_STAT_STATE state a).setFld F.HAP_STAT_EFFECT 0 a
  (s.setFld F.HAP_STAT_SEGMENT 0 a).setFld F.HAP_STAT_SAFETY 0 a

/-- STATE of an actuator on which nothing runs. -/
def State.restState (s : State) (a : Nat) : Nat :=
  if s.fld F.HAP_STAT_FAULT a ≠ 0 then 3 else if s.flag F.HAP_CFG_ENABLE a then 1 else 0

/-- Starts an effect: the running one is replaced at once, and ends as `how` says (R434, R437, R448). -/
def State.startEffect (s : State) (a number : Nat) (origin : Origin) (safety : Bool) (segs : List Seg) (rep : Nat) (how : Nat := 1) : State :=
  let s := s.actWear a
  let x := s.act a
  let s := match x.run with
    | some e => s.doneEvent a e how
    | none => s
  let s := s.setAct a { s.act a with run := none, learn := none }
  s.beginSeg a { number := number, origin := origin, safety := safety, segs := segs, idx := 0, rounds := rep, braked := false
                 windows := 0, began := s.cyc, cfg := s.rg (Reg.HAP_CFG a), drv := s.rg (Reg.HAP_DRIVE a)
                 lim := s.rg (Reg.HAP_LIM a) }

/-- STOP on a running effect (R435): from its first brake segment on it runs to its end, else the standard stop, effect 0 of R430, takes its
place, and the effect ends as stopped (R448). -/
def State.stopEffect (s : State) (a : Nat) (origin : Origin) (safety : Bool) : State :=
  match (s.act a).run with
  | none => s
  | some e => if e.braked then s else s.startEffect a 0 origin safety [segB 127 (max 1 (s.fld F.HAP_CFG_STOP_MS a))] 0 2

/-- The origin of a stop that no PLAY asked for. -/
def Effect.stopped (e : Effect) : Origin :=
  match e.origin with
  | .play r _ => .stop (some r)
  | .learn r => .stop (some r)
  | .stop r => .stop r
  | _ => .stop none

/-- What an actuator does with a trigger (R434-R436, R439, R656; R433): 1 a safety effect runs, 2 disabled, 3 faulted, and `none` when it
takes it. -/
def State.actRefuses (s : State) (a : Nat) (safety : Bool) : Option Nat :=
  if ((s.act a).run.map (·.safety)).getD false && !safety then some 1
  else if !s.flag F.HAP_CFG_ENABLE a then some 2
  else if s.fld F.HAP_STAT_STATE a = 3 then some 3
  else none

/-- A trigger reaches an actuator: ignored and counted under R436, ignored when disabled or faulted, and otherwise its effect starts;
effect 0 of a pin or a zone, and a slot without a waveform, mean no action (R433). -/
def State.trigger (s : State) (a e : Nat) (origin : Origin) (safety : Bool) : State :=
  if s.safe && !safety then s
  else match s.effectSegs e with
    | none => s
    | some (segs, rep) =>
      match s.actRefuses a safety with
      | some 1 => s.satInc F.HAP_STAT_IGNORED a
      | some _ => s
      | none => s.startEffect a e origin safety segs rep

/-- An actuator is taken from its holder: the running effect stops, unless a safety trigger started it (R435, R436; 04 R165). -/
def State.actBrake (s : State) (a : Nat) : State :=
  match (s.act a).run with
  | some e => if e.safety then s else s.stopEffect a e.stopped false
  | none => s

/-- In the safe state, effects that safety triggers did not start stop (17 R656). -/
def State.stopOrdinary (s : State) : State :=
  (List.range 8).foldl (fun (s : State) a => s.actBrake a) s

/-- The effects that a client's PLAYs started on an actuator stop at its instance reset (R435; 04 R178). -/
def State.actRevoke (s : State) (a c : Nat) : State :=
  match (s.act a).run with
  | some e => match e.origin with
    | .play (.client d) _ => if c = d then s.stopEffect a e.stopped e.safety else s
    | _ => s
  | none => s

/-- Frees every waveform slot a client loaded (R431). -/
def State.freeWaves (s : State) (c : Nat) : State :=
  (List.range 24).foldl (fun (s : State) k => if (s.wave k).map (·.owner) = some (.client c) then s.setWave k none else s) s

/-- Stipple loses its power: waveform RAM loses its contents and no effect runs (R450). The epoch of class 0x07 counts when it is back
(19 R701). -/
def State.hapClear (s : State) : State :=
  let s := (List.range 8).foldl (fun (s : State) a =>
    let s := s.actWear a
    let x := s.act a
    (s.setAct a { Act.blank with counted := x.counted, revs := x.revs, drive := x.drive, resets := x.resets }).actIdle a (s.restState a)) s
  { s with hap := { s.hap with waves := [] } }

end Sys2Proof.Machine
end

