-- ==== Sys2Proof/Machine/FolioOps.lean ====
section
/-! DEFINITION. The Folio journal (15 R585-R600): areas, queuing and writing records, looking them up, what compaction keeps, and the
records of a flush. -/

namespace Sys2Proof.Machine

/-- Whether the Folio takes records: not in FOREIGN or DAMAGED (15 R604). -/
def State.folioOpen (s : State) : Bool := s.fld F.FOL_STAT_STATE == 1 || s.fld F.FOL_STAT_STATE == 2

/-- The active area's records (15 R588). -/
def State.activeArea (s : State) : FArea := if s.flag F.FOL_STAT_ACTIVE then s.fol.areaB else s.fol.areaA

/-- The other area. -/
def State.inactiveArea (s : State) : FArea := if s.flag F.FOL_STAT_ACTIVE then s.fol.areaA else s.fol.areaB

/-- Replaces the active area. -/
def State.setActive (s : State) (x : FArea) : State :=
  if s.flag F.FOL_STAT_ACTIVE then { s with fol := { s.fol with areaB := x } } else { s with fol := { s.fol with areaA := x } }

/-- Replaces the other area. -/
def State.setInactive (s : State) (x : FArea) : State :=
  if s.flag F.FOL_STAT_ACTIVE then { s with fol := { s.fol with areaA := x } } else { s with fol := { s.fol with areaB := x } }

/-- The 256-byte pages of an area: half of SIZE × 128 KiB (15 R586). -/
def State.areaPages (s : State) : Nat := s.fld F.FOL_CFG_SIZE * 256

/-- The 64 KiB erase blocks of an area. -/
def State.areaBlocks (s : State) : Nat := s.fld F.FOL_CFG_SIZE

/-- The pages a record fills: a 16-byte header, the body and 4 bytes of CRC (15 R589). -/
def FRec.pages (r : FRec) : Nat := (20 + r.body.length + 255) / 256

/-- The used pages of an area, its header included. -/
def FArea.used (x : FArea) : Nat := 1 + x.recs.foldl (fun n r => n + r.pages) 0

/-- The records that count: committed, with a good CRC, before the first of unreadable length (15 R591). -/
def FArea.good (x : FArea) : List FRec := (x.recs.takeWhile (fun r => r.lenOk)).filter (fun r => r.committed && r.crcOk)

/-- Bytes 0–3 of a record's body (15 R592). -/
def FRec.key (r : FRec) : Nat := leAt r.body 0 4

/-- The latest record of a type and key (15 R592). -/
def State.record (s : State) (typ key : Nat) : Option FRec :=
  (s.activeArea.good.filter (fun r => r.typ == typ && r.key == key)).getLast?

/-- A whole record. -/
def FRec.whole (typ seq : Nat) (body : List Byte) : FRec := { typ := typ, seq := seq, body := body, committed := true, crcOk := true, lenOk := true }

/-- A record whose COMMIT is not 0: it has never been written (15 R590). -/
def FRec.torn (typ seq : Nat) (body : List Byte) : FRec := { typ := typ, seq := seq, body := body, committed := false, crcOk := false, lenOk := true }

/-- Appends a record to the active area. -/
def State.appendRec (s : State) (r : FRec) : State :=
  let x := s.activeArea
  s.setActive { x with recs := x.recs ++ [r] }

/-- Whether new writes wait for a compaction's copy step (15 R594). -/
def State.copying (s : State) : Bool :=
  match s.fol.compact with
  | some (.copy _ _) => true
  | some (.erase 0) => true
  | _ => false

/-- The body of a FIRMWARE record that opens a trial carries its own SEQ as its key (15 R592, 16 R634): 0 stands for it until then. -/
def ownKey (typ n : Nat) (body : List Byte) : List Byte :=
  if typ = 0x10 ∧ leAt body 0 4 = 0 then leBytes 4 n ++ body.drop 4 else body

/-- Starts the next queued record when the Folio is free: not while one is being written, power is failing, a compaction copies or an
adoption erases (15 R590, R594, R604-R606). -/
def State.folioNext (s : State) : State :=
  if s.fol.writing.isSome || !s.folioOpen || s.fol.pfLow || s.copying || s.fol.adopt.isSome then s
  else match s.fol.queue with
    | [] => s
    | w :: q =>
      let n := s.fol.seq + 1
      { s with fol := { s.fol with queue := q, seq := n, writing := some ({ w with body := ownKey w.typ n w.body }, false, n) } }

/-- Puts a write into the queue: one of rank S before those of lower rank. -/
def queueWrite (q : List FWrite) (w : FWrite) : List FWrite :=
  if w.rankS then q.filter (·.rankS) ++ [w] ++ q.filter (fun x => !x.rankS) else q ++ [w]

/-- Abandons the record being written: it stays uncommitted, and its write waits to begin again (15 R590, R606; 19 R719). -/
def State.abandonWrite (s : State) : State :=
  match s.fol.writing with
  | none => s
  | some (w, _, n) =>
    let s := s.appendRec (FRec.torn w.typ n w.body)
    let w := if w.typ = 0x10 ∧ leAt w.body 0 4 = n then { w with body := leBytes 4 0 ++ w.body.drop 4 } else w
    { s with fol := { s.fol with writing := none, queue := w :: s.fol.queue } }

/-- Asks for a record (15 R590, R608): a request of rank S waits for no other write, except a commit that has started. -/
def State.folioWrite (s : State) (w : FWrite) : State :=
  let s := match s.fol.writing with
    | some (x, false, _) => if w.rankS && !x.rankS then s.abandonWrite else s
    | _ => s
  let s := { s with fol := { s.fol with queue := queueWrite s.fol.queue w } }
  s.folioNext

/-- Writes and commits a record at once. -/
def State.commitNow (s : State) (typ : Nat) (body : List Byte) : State :=
  let n := s.fol.seq + 1
  let s := { s with fol := { s.fol with seq := n } }
  s.appendRec (FRec.whole typ n (ownKey typ n body))

/-! Compaction (15 R592, R594-R596). -/

/-- Whether a later record of a list has the same type and key. -/
def superseded (r : FRec) (later : List FRec) : Bool := later.any (fun x => x.typ == r.typ && x.key == r.key)

/-- The records that stay, apart from the limits on logs: every MAINT, FIRMWARE and FAULT record, and the latest per key of any other
type. -/
def latestOnly : List FRec → List FRec
  | [] => []
  | r :: t =>
    if r.typ = 0x10 ∨ r.typ = 0x11 ∨ r.typ = 0x12 then r :: latestOnly t
    else if superseded r t then latestOnly t else r :: latestOnly t

/-- Drops the oldest `n` records of a type. -/
def dropOldest (typ : Nat) : Nat → List FRec → List FRec
  | 0, l => l
  | _ + 1, [] => []
  | n + 1, r :: t => if r.typ = typ then dropOldest typ n t else r :: dropOldest typ (n + 1) t

/-- Keeps the newest `n` records of a type. -/
def keepNewest (typ n : Nat) (l : List FRec) : List FRec :=
  dropOldest typ ((l.filter (fun r => r.typ == typ)).length - n) l

/-- The pages that records and a header fill. -/
def pagesFor (l : List FRec) : Nat := 1 + l.foldl (fun n r => n + r.pages) 0

/-- Drops FAULT records, oldest first, until the records fill at most half of the area (15 R596): what stays and how many went. -/
def shedFaults (limit : Nat) : Nat → List FRec → Nat → List FRec × Nat
  | 0, l, n => (l, n)
  | fuel + 1, l, n =>
    if 2 * pagesFor l ≤ limit then (l, n)
    else if (l.any (fun r => r.typ == 0x11)) then shedFaults limit fuel (dropOldest 0x11 1 l) (n + 1)
    else (l, n)

/-- What a compaction copies, and how many FAULT records it drops for space (15 R592, R596). -/
def State.keptRecords (s : State) : List FRec × Nat :=
  let l := keepNewest 0x11 512 (keepNewest 0x10 128 (latestOnly s.activeArea.good))
  shedFaults s.areaPages 512 l 0

/-- Starts a compaction when the active area is three quarters used (15 R594). -/
def State.compactIfFull (s : State) : State :=
  if s.fol.compact.isNone && s.fol.adopt.isNone && !s.fol.pfLow && s.folioOpen && decide (3 * s.areaPages ≤ 4 * s.activeArea.used) then
    { s.setFld F.FOL_STAT_COMPACTING 1 with fol := { s.fol with compact := some (.erase s.areaBlocks) } }
  else s

/-! Flushes (15 R597-R600). -/

/-- Bytes of an always-on counter in the COUNTERS body. -/
def State.counterField (s : State) (off : Nat) : List Byte := leBytes (counterBytes off) (s.counter off)

/-- The COUNTERS body, 192 bytes (15 R598). -/
def State.countersBody (s : State) : List Byte :=
  leBytes 4 0 ++ leBytes 4 1 ++ leBytes 4 (s.rg Reg.AON_RTC).toNat ++ leBytes 4 0
    ++ [16, 24, 32, 40, 48].flatMap (fun o => s.counterField o)
    ++ (List.range 10).flatMap (fun i => s.counterField (56 + 4 * i))
    ++ (List.range 16).flatMap (fun i => s.counterField (96 + 4 * i))
    ++ s.counterField 160 ++ leBytes 24 0

/-- The body of an actuator's WEAR record (15 R599). -/
def State.wearBody (s : State) (a : Nat) : List Byte :=
  leBytes 4 a ++ leBytes 4 (s.rg (Reg.HAP_WEAR a)).toNat ++ leBytes 4 (s.rg (Reg.HAP_STARTS a)).toNat
    ++ leBytes 4 (s.rg (Reg.HAP_DRIVE_S a)).toNat ++ leBytes 4 (s.rg (Reg.HAP_SIG a)).toNat
    ++ leBytes 4 (s.fld F.HAP_STAT_SIG_VALID a) ++ leBytes 4 (s.act a).resets

/-- The HISTOGRAM body (15 R600). -/
def State.histBody (s : State) : List Byte :=
  leBytes 4 0 ++ (List.range 16).flatMap (fun b => leBytes 4 (SMap.get (fun _ => 0) s.fol.hist b))
    ++ leBytes 4 (((s.fol.tjMax.getD 0) % (2 ^ 32 : Int)).toNat)

/-- The records of a flush, from one snapshot (15 R597); the last carries what follows its commit. -/
def State.flushRecords (s : State) (rankS : Bool) (after : After) : List FWrite :=
  [⟨2, s.countersBody, rankS, .none⟩] ++ (List.range 8).map (fun a => ⟨3, s.wearBody a, rankS, .none⟩) ++ [⟨4, s.histBody, rankS, after⟩]

end Sys2Proof.Machine
end

