-- ==== Sys2Proof/Machine/FaultOps.lean ====
section
/-! DEFINITION. Recording faults, accepting Rubbing triggers, entering the safe state (17 R636-R661), freezing a channel
(13 R551, R552), and the consequences of a failed access. -/

namespace Sys2Proof.Machine

/-- Whether a fault class asserts `FAULT_N` (17 R636): all but class 12. -/
def assertsFaultN (cls : Nat) : Bool := cls != 12

/-- Counts a missed Rubbing trigger, keeping the sources of the first, and raises source 385 (17 R661, R669). -/
def State.rubMissed (s : State) (sources : Nat) : State :=
  let s := if s.fld F.RUB_MISS_COUNT = 0 then s.setFld F.RUB_MISS_FIRST sources else s
  (s.satInc F.RUB_MISS_COUNT).raise 385

/-- Adds a trigger to those that wait, in the order of their cycles; triggers of one cycle make one latch (17 R661). -/
def addTrigger (c sources : Nat) (late : Bool) : List (Nat × Nat × Bool) → List (Nat × Nat × Bool)
  | [] => [(c, sources, late)]
  | (d, x, l) :: t =>
    if c = d then (d, x ||| sources, l || late) :: t
    else if c < d then (c, sources, late) :: (d, x, l) :: t
    else (d, x, l) :: addTrigger c sources late t

/-- Accepts a Rubbing trigger with the given SOURCES in a cycle: it waits for its latch; a trigger that arrives while a snapshot is held
is missed (17 R660, R661). SOURCES 0 is the latch of a safe state that no other trigger asks for (R655 step 1). -/
def State.rubTrigger (s : State) (sources : Nat) (late : Bool := false) (at_ : Nat := s.cyc) : State :=
  if s.flt.snapshot.isSome then (if sources = 0 then s else s.rubMissed sources)
  else { s with flt := { s.flt with triggers := addTrigger at_ sources late s.flt.triggers } }

/-- SEQ of the latch that a trigger of this cycle will make; `none` when a held snapshot, or one that an earlier trigger is about to
make, keeps it from latching (17 R661, R668). -/
def State.nextSeq (s : State) : Option Nat :=
  if s.flt.snapshot.isSome || s.flt.triggers.any (fun t => t.1 != s.cyc) then none else some ((s.fld F.RUB_STAT_SEQ + 1) % 0x10000)

/-- Keeps a FAULT record for committing, or counts a further fault of its class and instance (17 R642). `extra` raises COUNT,
for a freeze inside another's window (17 R649). -/
def State.faultRecord (s : State) (cls inst extra : Nat) : State :=
  let waiting := s.flt.records.any (fun r => r.cls = cls ∧ r.inst = inst)
  if waiting then
    { s with flt := { s.flt with records := s.flt.records.map (fun r =>
        if r.cls = cls ∧ r.inst = inst then { r with count := min (r.count + 1) 0xFFFF } else r) } }
  else
    { s with flt := { s.flt with
        records := s.flt.records ++ [{ cls := cls, inst := inst, time := s.devTime, rtc := (s.rg Reg.AON_RTC).toNat
                                       seq := s.nextSeq.getD 0xFFFF, count := extra }] } }

/-- Records a fault (17 R636, R642, R652, R660, R668, R669): the class bit, the first fault with its time (of the faults of one cycle the lowest class, R650), the FAULT event,
source 387, and for a class that asserts it `FAULT_N`, the record, and but for class 14 the Rubbing trigger and in the safe state the Rubbing trigger (R651, R655). -/
def State.fault (s : State) (cls inst : Nat) (extra : Nat := 0) : State :=
  let s := s.setFld F.DEV_FAULT_STAT_CLASSES (s.fld F.DEV_FAULT_STAT_CLASSES ||| 2 ^ (cls - 1))
  let s := if s.fld F.DEV_FAULT_FIRST_CLASS = 0 ∨ (s.flt.firstAt = s.cyc ∧ cls < s.fld F.DEV_FAULT_FIRST_CLASS) then
      let s := { s with flt := { s.flt with firstAt := s.cyc } }
      let s := s.setFld F.DEV_FAULT_FIRST_CLASS cls
      let s := s.setFld F.DEV_FAULT_FIRST_INSTANCE inst
      let s := s.setRg Reg.DEV_FAULT_TIME_LO (BitVec.ofNat 32 s.devTime)
      s.setRg Reg.DEV_FAULT_TIME_HI (BitVec.ofNat 32 (s.devTime / 2 ^ 32))
    else s
  let s := s.raise 387
  let s := if assertsFaultN cls then
      let s := s.faultRecord cls inst extra
      let s := s.setFld F.DEV_FAULT_STAT_FAULT 1
      { s with flt := { s.flt with faultN := true, seen := true } }
    else s
  let rub := assertsFaultN cls && cls != 14 && !s.safe
  let seq := if rub then s.nextSeq.getD 0xFFFFFFFF else 0xFFFFFFFF
  let s := if rub then s.rubTrigger 0b000100 else s
  s.eventSM 0x3401 inst cls inst seq

/-- Ends a pause: waits on fences do not count its time, and the held events are written (16 R624, R625). -/
def State.endPause (s : State) : State :=
  match s.fw.pause with
  | none => s
  | some x =>
    let late (r : RingSet) : RingSet := { r with wait := r.wait.map (fun w => (w.1, w.2 + (s.cyc - x.began))) }
    let s := { s with cp := { s.cp with rings := s.cp.rings.map (fun (e : Nat × RingSet) => (e.1, late e.2)) } }
    ({ s with fw := { s.fw with pause := none } }).flushHeld

/-- Abandons an activation before its commit point (16 R626, 17 R658): the FIRMWARE record that would have opened the trial is not
written. -/
def State.abandonActivation (s : State) : State :=
  match s.fw.pause with
  | none => s
  | some x =>
    if x.back || x.committed then s
    else
      let s := match s.fol.writing with
        | some (w, _, _) => if w.after == After.commitPoint then s.abandonWrite else s
        | none => s
      let s := { s with fol := { s.fol with queue := s.fol.queue.filter (fun w => w.after != After.commitPoint) } }
      ((s.setFld F.DEV_FW_STAT_STATE 0).endPause).folioNext

/-- Stops every N-world packet in execution; none writes a completion (17 R656). -/
def State.stopNWorld (s : State) : State :=
  s.busyPlaces.foldl (fun s e => if e.2.ring = .s then s else s.dropPlace e.1) s

/-- Enters the safe state (17 R654-R656); in the safe state already, nothing changes (R651). For class 14 only step 2 is carried
out. `trig` are the sources of the Rubbing trigger that is still to be accepted. -/
def State.enterSafe (s : State) (cause cls : Nat) : State :=
  if s.safe then s
  else
    let s := if cause = 6 then s.rubTrigger 0 else s
    let s := s.setFld F.DEV_FAULT_STAT_SAFE 1
    let s := s.setFld F.DEV_FAULT_STAT_SAFE_CAUSE cause
    let s := s.setFld F.DEV_FAULT_STAT_FAULT 1
    let s := { s with flt := { s.flt with faultN := true, safeN := true, coresHeld := true } }
    let s := s.raise 386
    let s := (List.range 8).foldl (fun s n => s.setFld F.ETCH_OUT_STAT_SAFE 1 n) s
    let s := s.stopNWorld.abandonActivation
    let s := (s.withdrawNWorld).count 84
    let s := if cause = 4 then s else s.stopOrdinary.enterRecovery
    if cause = 4 then s else s.eventSM 0x3402 noInst cause cls

/-- Freezes a channel (13 R551, R552): no new command, `MC_FRZ_*` latched, source 32 + c, the Rubbing trigger, class 10, and
CHANNEL_FROZEN; queued requests of requesters other than cores leave with a frozen response. A channel that is not running
stays as it is. -/
def State.freeze (s : State) (c cause addr ink mr : Nat) (synd : Nat × Nat × Nat := (0, 0, 0)) : State :=
  if s.fld F.MC_CH_STAT_STATE c ≠ 0 then s
  else
    let others := (List.range 16).any (fun d => decide (s.fld F.MC_CH_STAT_STATE d = 1))
    let s := s.setFld F.MC_CH_STAT_STATE 1 c
    let s := (s.satInc F.MC_CH_STAT_FREEZES c).count 72
    let s := s.setRg (Reg.MC_FRZ_STAT c) (BitVec.ofNat 32 (2 ^ 31 + cause * 2 ^ 28 + mr % 256 * 2 ^ 16))
    let s := s.setRg (Reg.MC_FRZ_ADDR_LO c) (BitVec.ofNat 32 addr)
    let s := s.setRg (Reg.MC_FRZ_ADDR_HI c) (BitVec.ofNat 32 (addr / 2 ^ 32 % 2 ^ 16))
    let s := s.setRg (Reg.MC_FRZ_SYND c) (BitVec.ofNat 32 (synd.2.2 * 2 ^ 24 + synd.2.1 * 2 ^ 16 + synd.1 * 2 ^ 8))
    let s := { s with mc := { s.mc with
        frozen := SMap.set (fun _ => none) s.mc.frozen c (some ⟨cause, addr, ink, s.cyc, mr⟩)
        queues := SMap.set (fun _ => []) s.mc.queues c ((SMap.get (fun _ => []) s.mc.queues c).filter (fun q => q.req.core)) } }
    let s := s.raise (32 + c)
    let s := s.rubTrigger 0b010000
    let s := s.fault 10 c (if others then 1 else 0)
    s.eventSM 0x2402 c cause (addr % 2 ^ 32)

/-- Records what a failed access leaves (13 R533, R551; 01 R26). INK_FAULT goes to the mediator at most once per millisecond for
each client (13 R533). -/
def State.incident (s : State) (i : Incident) : State :=
  match i with
  | .unmapped w a write kind => s.recordBus w a write kind
  | .uncorr a cause ink =>
    let e := s.damageAt (s.served a)
    s.freeze (s.channelOf a) cause a ink 0 (syndrome 0 e, syndrome 1 e, syndrome 2 e)
  | .ink w a write stored carried =>
    let s := s.recordInk w a write stored carried
    let c := match w with | .client n => n | _ => 4096
    let due := match SMap.get (fun _ => none) s.mc.inkTime c with
      | none => true
      | some t => s.passed t 1000000
    if due then
      let s := { s with mc := { s.mc with inkTime := SMap.set (fun _ => none) s.mc.inkTime c (some s.cyc) } }
      s.event .med 0x2401 (s.channelOf a) (c % 4096) (a % 2 ^ 32) (stored * 16 + carried)
    else s

/-- Records what a fault of a unit's access leaves. -/
def State.noteFault (s : State) (f : XFault) : State :=
  match f.inc with
  | some i => s.incident i
  | none => s

/-- WORLD in bit 31, ORIGIN in bits 25:24, CLIENT in bits 11:0 (06 R304). -/
def whoWord (w : Who) : Nat :=
  match w with
  | .s => 0x80000000
  | .med => 0x01000000
  | .fw => 0x02000000
  | .client n => n

/-- Writes the PLATE_WRITE_REFUSED events that wait (06 R268, R304). -/
def State.flushPlate (s : State) : State :=
  let l := s.etch.refused
  l.foldl (fun s e => s.event .s 0x0C03 noInst e.2 (whoWord e.1)) { s with etch := { s.etch with refused := [] } }

/-- Reads bytes for a unit under a party's identity, with everything a failure leaves behind. -/
def State.unitRead (s : State) (w : Who) (va n : Nat) : Except Nat (List Byte) × State :=
  match s.dmaRead w va n with
  | (.ok l, s) => (.ok l, s)
  | (.error f, s) => (.error f.reason, s.noteFault f)

/-- Writes bytes for a unit under a party's identity, with everything a failure leaves behind; `none` when all were written. -/
def State.unitWrite (s : State) (w : Who) (va : Nat) (l : List Byte) : Option Nat × State :=
  match s.dmaWrite w va l with
  | (none, s) => (none, s.flushPlate)
  | (some f, s) => (some f.reason, (s.noteFault f).flushPlate)

end Sys2Proof.Machine
end

