-- ==== Sys2Proof/Machine/Contexts.lean ====
section
/-! DEFINITION. Saved contexts: their header and the checks of a restore (04 R183-R185), and the outcome of a faulting access. -/

namespace Sys2Proof.Machine

/-- The first word of a context header: SAVER and CLIENT (04 R184). -/
def saverWord (r : RingId) : Nat :=
  match r with
  | .client n => n
  | .med => 0x4000
  | .s => 0x8000

/-- The generation a saver writes (04 R184). -/
def State.saverGen (s : State) (r : RingId) : Nat :=
  match r with
  | .client n => (s.client n).gen
  | _ => 0

/-- A context of a unit class with its header and CRC before its body (04 R184). -/
def State.sealContext (s : State) (r : RingId) (cls version : Nat) (body : List Byte) : List Byte :=
  let head (crc : Nat) : List Byte :=
    leBytes 2 (saverWord r) ++ leBytes 2 (s.saverGen r) ++ leBytes 2 (s.fld F.DEV_EPOCH_BOOT cls) ++ leBytes 2 (s.fld F.DEV_EPOCH_EPOCH cls)
      ++ leBytes 2 cls ++ leBytes 2 version ++ leBytes 4 crc
  head (crc32c (head 0 ++ body)) ++ body

/-- The checks of a restore, in order; `none` when all hold (04 R185). -/
def State.contextFault (s : State) (r : RingId) (cls version : Nat) (l : List Byte) : Option Nat :=
  if leAt l 8 2 ≠ cls ∨ leAt l 10 2 ≠ version then some St.range
  else if crc32c (zeroed l 12 4) ≠ leAt l 12 4 then some St.checkFailed
  else if leAt l 0 2 ≠ saverWord r then some St.noPermission
  else if leAt l 2 2 ≠ s.saverGen r then some St.staleContext
  else if leAt l 4 2 ≠ s.fld F.DEV_EPOCH_BOOT cls ∨ leAt l 6 2 ≠ s.fld F.DEV_EPOCH_EPOCH cls then some St.staleContext
  else none

/-- The status of an operation whose access faulted: `FROZEN` on a frozen or fenced channel, `RANGE` otherwise (03 R132). -/
def faultStatus (reason : Nat) : Nat := if reason = 4 ∨ reason = 5 then St.frozen else St.range

end Sys2Proof.Machine
end

