-- ==== Sys2Proof/Machine/GraverParams.lean ====
section
/-! DEFINITION. Pixel formats (05 R219), and the surfaces, rectangles and parameter rules of the Graver's drawing operations (08). -/

namespace Sys2Proof.Machine

/-- Bytes per pixel of plane 0 (05 R219, R220). -/
def planeBytes (format : Nat) : Nat := match format with | 0 => 4 | 1 => 4 | 2 => 4 | 3 => 2 | 7 => 2 | _ => 1

/-- Whether a format has a 4:2:0 chroma plane (05 R219). -/
def isYuv (format : Nat) : Bool := format == 6 || format == 7

/-! Surfaces and rectangles (R347-R349). -/

/-- A surface descriptor (R347). -/
structure Surf where
  at_    : Nat
  addr   : Nat
  caddr  : Nat
  pitch  : Nat
  w      : Nat
  h      : Nat
  format : Nat
  opts   : Nat
  deriving DecidableEq, Repr

/-- A rectangle (R349). -/
structure Rct where
  x : Nat
  y : Nat
  w : Nat
  h : Nat
  deriving DecidableEq, Repr

/-- The surface at an offset from P. -/
def surfAt (l : List Byte) (o : Nat) : Surf :=
  ⟨o, leAt l o 8, leAt l (o + 8) 8, leAt l (o + 16) 4, leAt l (o + 20) 2, leAt l (o + 22) 2, leAt l (o + 24) 1, leAt l (o + 25) 1⟩

/-- The rectangle at an offset from P. -/
def rectAt (l : List Byte) (o : Nat) : Rct := ⟨leAt l o 2, leAt l (o + 2) 2, leAt l (o + 4) 2, leAt l (o + 6) 2⟩

/-- The byte span of a rectangle of a surface (R363). -/
def Surf.span (x : Surf) (r : Rct) : Nat × Nat := (x.addr + r.y * x.pitch, x.addr + (r.y + r.h) * x.pitch)

/-- Whether two byte spans overlap; an empty span overlaps nothing. -/
def spansMeet (a b : Nat × Nat) : Bool := decide (a.1 < a.2) && decide (b.1 < b.2) && decide (a.1 < b.2) && decide (b.1 < a.2)

/-- Whether an operation is in place (R363). -/
def inPlace (opcode : Nat) (l : List Byte) : Bool :=
  let d := (surfAt l 0).span (rectAt l 32)
  let src := spansMeet d ((surfAt l 48).span (rectAt l 80))
  match opcode with
  | 0x1402 => src
  | 0x1403 => leAt l 88 8 == 0 || src || spansMeet d ((surfAt l 88).span (rectAt l 120))
  | 0x1404 => src
  | 0x1405 => src
  | 0x1406 => leAt l 44 1 == 1
  | 0x1407 => leAt l 44 1 == 1
  | 0x1408 => leAt l 44 1 == 1
  | _ => false

/-! Parameter rules (R347-R352, R363, R364). -/

/-- The rules of a surface descriptor: status and offset of the first field at fault. -/
def surfRules (l : List Byte) (o : Nat) (dst : Bool) : List (Bool × Nat × Nat) :=
  let f := surfAt l o
  [(decide (1 ≤ f.w) && decide (f.w ≤ 16384), St.badLength, 0), (decide (1 ≤ f.h) && decide (f.h ≤ 16384), St.badLength, 0),
   (f.addr % 64 == 0, St.range, o), (!isYuv f.format || f.caddr % 64 == 0, St.range, o + 8),
   (f.pitch % 64 == 0 && decide (64 ≤ f.pitch) && decide (f.pitch ≤ 262144) && decide (f.w * planeBytes f.format ≤ f.pitch), St.range, o + 16),
   (if dst then decide (f.format ≤ 4) else decide (f.format ≤ 7), St.range, o + 24), (decide (f.opts < 8), St.range, o + 25),
   (leAt l (o + 26) 6 == 0, St.range, o + 26)]

/-- The rule of a rectangle within its surface. -/
def rectRule (l : List Byte) (o so : Nat) : Bool × Nat × Nat :=
  let r := rectAt l o
  let f := surfAt l so
  (decide (r.x + r.w ≤ f.w) && decide (r.y + r.h ≤ f.h), St.range, o)

/-- The rules of an operation's own fields (R352). -/
def graverFields (opcode : Nat) (l : List Byte) : List (Bool × Nat × Nat) :=
  let d := rectAt l 32
  let r := rectAt l 80
  let p8 (i : Nat) := leAt l i 1
  let z (o n : Nat) : Bool × Nat × Nat := (leAt l o n == 0, St.range, o)
  let same : Bool × Nat × Nat := (r.w == d.w && r.h == d.h, St.range, 80)
  match opcode with
  | 0x1400 => [z 44 4]
  | 0x1401 => []
  | 0x1402 => [(decide (p8 40 < 8), St.range, 40), z 41 7, ((surfAt l 48).format == (surfAt l 0).format, St.range, 72),
      (if p8 40 % 2 = 1 then r.w == d.h && r.h == d.w else r.w == d.w && r.h == d.h, St.range, 80)]
  | 0x1403 => [(decide (p8 40 ≤ 11), St.range, 40), z 42 6, same]
  | 0x1404 => [(decide (p8 40 ≤ 1), St.range, 40), z 41 7,
      (decide (r.w ≤ 16 * d.w) && decide (d.w ≤ 16 * r.w) && decide (r.h ≤ 16 * d.h) && decide (d.h ≤ 16 * r.h), St.range, 80)]
  | 0x1405 => [z 40 8, same]
  | 0x1408 => [(decide (p8 44 ≤ 1), St.range, 44), z 45 1, (leAt l 48 8 % 64 == 0, St.range, 48), z 68 4]
  | _ => [(leAt l 56 4 % 8 == 0 && decide (leAt l 56 4 ≤ 1048576), St.range, 56), (decide (p8 44 ≤ 1), St.range, 44),
      (if opcode = 0x1406 then decide (p8 45 ≤ 1) else decide (p8 45 % 4 ≤ 2) && decide (p8 45 / 4 ≤ 2), St.range, 45),
      (opcode == 0x1406 || (decide (1 ≤ leAt l 46 2) && decide (leAt l 46 2 ≤ 4096)), St.range, 46), (leAt l 48 8 % 8 == 0, St.range, 48),
      z 60 4]

/-- Bytes per pixel of a format, both planes counted, in halves. -/
def pixelHalves (format : Nat) : Nat := match format with | 6 => 3 | 7 => 6 | f => 2 * planeBytes f

/-- The rules of in-place operations that the parameters decide (R363, R364). N of GLYPHS needs its codes. -/
def inPlaceRules (opcode : Nat) (l : List Byte) : List (Bool × Nat × Nat) :=
  let d := rectAt l 32
  if inPlace opcode l then
    let may := match opcode with
      | 0x1402 => leAt l 40 1 % 4 == 0
      | 0x1404 => false
      | 0x1405 => pixelHalves (surfAt l 48).format == pixelHalves (surfAt l 0).format
      | _ => true
    [(may, St.range, 48), (opcode == 0x1408 || decide (d.w * d.h ≤ 1048576), St.range, 32)]
  else []

/-- The parameters of a drawing operation: the status and offset of the first at fault; lengths come first (03 R116, R118, R132). -/
def graverFault (opcode : Nat) (l : List Byte) : Option (Nat × Nat) :=
  let hasSrc := 0x1402 ≤ opcode ∧ opcode ≤ 0x1405
  let bg := if opcode = 0x1403 then
      if leAt l 88 8 = 0 then [(leAt l 96 32 == 0, St.range, 96)]
      else surfRules l 88 false ++ [rectRule l 120 88, ((rectAt l 120).w == (rectAt l 32).w && (rectAt l 120).h == (rectAt l 32).h, St.range, 120)]
    else []
  let rules := surfRules l 0 true ++ [rectRule l 32 0] ++ (if hasSrc then surfRules l 48 false ++ [rectRule l 80 48] else [])
    ++ graverFields opcode l ++ bg ++ inPlaceRules opcode l
  match rules.find? (fun t => !t.1 && t.2.1 == St.badLength) with
  | some t => some t.2
  | none => (rules.filter (fun t => !t.1)).foldl (fun b t =>
      match b with
      | none => some t.2
      | some e => if t.2.2 < e.2 then some t.2 else b) none

end Sys2Proof.Machine
end

