-- ==== Sys2Proof/Machine/Operands.lean ====
section
/-! DEFINITION. The operations of the unit classes as the command processors see them (03 R114-R118, R147-R150): which rings may
submit each, whether it may be locked, how many bytes of parameters it needs, and the range of every parameter. -/

namespace Sys2Proof.Machine

/-- The range rule of one parameter. -/
inductive Rng where
  /-- at most `n` -/
  | le (n : Nat)
  /-- from `a` to `b` -/
  | within (a b : Nat)
  /-- one of a list -/
  | oneOf (l : List Nat)
  /-- must be 0: a reserved field -/
  | zero
  /-- a multiple of `n` -/
  | aligned (n : Nat)
  /-- bits outside the mask must be 0 -/
  | mask (m : Nat)
  /-- a length from `a` to `b`; outside it the packet is refused with `BAD_LENGTH` -/
  | len (a b : Nat)
  /-- a length that is one of a list; another is refused with `BAD_LENGTH` -/
  | lenOf (l : List Nat)
  deriving DecidableEq, Repr

/-- The rule of the field at an offset from P, of a width in bytes. -/
structure FieldRule where
  off   : Nat
  width : Nat
  rng   : Rng
  deriving DecidableEq, Repr

/-- One operation of a unit class: its opcode, who may submit it (the S ring, the mediator ring, client rings), whether it may
carry LOCKED, the bytes of parameters it needs, and the rules of its parameters in the order of their offsets. -/
structure OpSpec where
  opcode   : Nat
  byS      : Bool
  byMed    : Bool
  byClient : Bool
  lock     : Bool
  len      : Nat
  fields   : List FieldRule
  deriving DecidableEq, Repr

/-- Whether a value keeps a rule. -/
def Rng.holds : Rng → Nat → Bool
  | .le n, v => decide (v ≤ n)
  | .within a b, v => decide (a ≤ v) && decide (v ≤ b)
  | .oneOf l, v => l.contains v
  | .zero, v => v == 0
  | .aligned n, v => v % n == 0
  | .mask m, v => (v &&& m) == v
  | .len a b, v => decide (a ≤ v) && decide (v ≤ b)
  | .lenOf l, v => l.contains v

/-- Whether a rule is about a length, whose breach is `BAD_LENGTH` (03 R132). -/
def Rng.isLen : Rng → Bool
  | .len _ _ => true
  | .lenOf _ => true
  | _ => false

/-- The value of a rule's field. -/
def FieldRule.value (f : FieldRule) (params : List Byte) : Nat := leAt params f.off f.width

/-- The first parameter at fault: its status and the offset it reports. A length out of its range is found first and reports 0
(03 R116 check 8, R118). -/
def checkFields (l : List FieldRule) (params : List Byte) : Option (Nat × Nat) :=
  match l.find? (fun f => f.rng.isLen && !f.rng.holds (f.value params)) with
  | some _ => some (St.badLength, 0)
  | none =>
    match l.find? (fun f => !f.rng.holds (f.value params)) with
    | some f => some (St.range, f.off)
    | none => none

/-- Class 0x00, device (03 R134, R135). -/
def opsDevice : List OpSpec := [
  ⟨0x0000, true, true, true, false, 0, []⟩,
  ⟨0x0001, true, true, false, false, 34, [⟨0, 2, .le 4095⟩, ⟨2, 1, .within 6 16⟩, ⟨3, 1, .within 4 16⟩, ⟨4, 1, .within 4 12⟩,
    ⟨5, 1, .le 1⟩, ⟨6, 2, .le 60000⟩, ⟨8, 8, .aligned 4096⟩, ⟨16, 8, .aligned 4096⟩, ⟨24, 8, .aligned 4096⟩]⟩,
  ⟨0x0002, true, true, false, false, 2, [⟨0, 2, .le 4095⟩]⟩,
  ⟨0x0003, true, true, true, false, 2, [⟨0, 2, .le 4095⟩]⟩,
  ⟨0x0004, true, true, true, false, 2, []⟩,
  ⟨0x0005, true, true, true, false, 0, []⟩]

/-- Class 0x01, clients (04 R157, R160, R171, R186, R187, R190, R195). -/
def opsClient : List OpSpec := [
  ⟨0x0400, true, true, true, false, 2, [⟨0, 2, .le 4095⟩]⟩,
  ⟨0x0401, true, true, false, false, 2, [⟨0, 2, .le 4095⟩]⟩,
  ⟨0x0402, true, true, false, false, 9, [⟨0, 2, .le 4095⟩, ⟨2, 1, .mask 1⟩, ⟨4, 1, .le 120⟩, ⟨5, 1, .le 64⟩, ⟨6, 1, .le 64⟩,
    ⟨7, 1, .le 32⟩, ⟨8, 1, .le 32⟩]⟩,
  ⟨0x0403, true, true, false, false, 8, [⟨0, 2, .le 4095⟩, ⟨2, 1, .within 1 6⟩, ⟨3, 1, .le 1⟩, ⟨4, 1, .mask 1⟩, ⟨5, 1, .zero⟩]⟩,
  ⟨0x0404, false, true, false, false, 16, [⟨1, 1, .oneOf [0, 9]⟩, ⟨4, 4, .zero⟩, ⟨8, 8, .aligned 16384⟩]⟩,
  ⟨0x0405, false, true, false, false, 16, [⟨0, 2, .le 4095⟩, ⟨3, 1, .oneOf [0, 9]⟩, ⟨4, 4, .le 0xFFFFF⟩, ⟨8, 8, .aligned 4096⟩]⟩,
  ⟨0x0406, false, true, true, false, 16, [⟨0, 1, .le 3⟩, ⟨2, 2, .le 4095⟩, ⟨8, 8, .aligned 4096⟩]⟩,
  ⟨0x0407, false, true, false, false, 9, [⟨0, 1, .le 63⟩, ⟨1, 1, .mask 3⟩, ⟨2, 2, .le 4095⟩, ⟨4, 4, .le 0xFFFFF⟩, ⟨8, 1, .le 63⟩]⟩]

/-- Class 0x02, display (05 R233-R243). -/
def opsDisplay : List OpSpec := [
  ⟨0x0800, true, true, true, false, 1, [⟨0, 1, .le 7⟩]⟩,
  ⟨0x0801, false, true, false, false, 28, [⟨0, 1, .le 7⟩, ⟨1, 1, .mask 0xBF⟩]⟩,
  ⟨0x0802, true, true, false, false, 24, [⟨2, 1, .len 1 16⟩, ⟨0, 1, .le 7⟩, ⟨1, 1, .le 3⟩, ⟨3, 1, .zero⟩]⟩,
  ⟨0x0803, false, true, false, false, 16, [⟨0, 1, .oneOf (255 :: List.range 64)⟩, ⟨1, 1, .le 7⟩, ⟨2, 2, .le 4095⟩, ⟨4, 1, .le 15⟩,
    ⟨5, 3, .zero⟩, ⟨8, 2, .le 8191⟩, ⟨10, 2, .le 8191⟩, ⟨12, 2, .within 1 8192⟩, ⟨14, 2, .within 1 8192⟩]⟩,
  ⟨0x0804, false, true, false, false, 1, [⟨0, 1, .le 63⟩]⟩,
  ⟨0x0805, false, true, true, false, 44, [⟨4, 2, .len 64 65472⟩, ⟨28, 2, .len 1 8192⟩, ⟨30, 2, .len 1 8192⟩, ⟨36, 2, .len 1 8192⟩,
    ⟨38, 2, .len 1 8192⟩, ⟨0, 1, .le 63⟩, ⟨1, 1, .le 7⟩, ⟨2, 1, .mask 0x3F⟩, ⟨4, 2, .aligned 64⟩, ⟨6, 2, .zero⟩, ⟨8, 8, .aligned 64⟩,
    ⟨24, 2, .le 8191⟩, ⟨26, 2, .le 8191⟩, ⟨32, 2, .le 8191⟩, ⟨34, 2, .le 8191⟩]⟩,
  ⟨0x0806, false, true, true, false, 8, [⟨0, 1, .len 1 4⟩, ⟨1, 7, .zero⟩]⟩,
  ⟨0x0807, false, true, true, false, 16, [⟨0, 1, .le 63⟩, ⟨8, 8, .aligned 64⟩]⟩]

/-- The conditions of R220 and R221 that join fields of LAYER_SET: the offset of the first field at fault. -/
def layerFault (params : List Byte) : Option Nat :=
  let p8 (i : Nat) := leAt params i 1
  let p16 (i : Nat) := leAt params i 2
  let f := p8 1
  if p16 4 < (p16 24 + p16 28) * planeBytes f then some 4
  else if isYuv f && leAt params 16 8 % 64 != 0 then some 16
  else if isYuv f && p16 24 % 2 != 0 then some 24
  else if isYuv f && p16 26 % 2 != 0 then some 26
  else if isYuv f && p16 28 % 2 != 0 then some 28
  else if isYuv f && p16 30 % 2 != 0 then some 30
  else if 4 * p16 36 < p16 28 ∨ 8 * p16 28 < p16 36 then some 36
  else if 4 * p16 38 < p16 30 ∨ 8 * p16 30 < p16 38 then some 38
  else none

/-- The first entry of a FLIP at fault (05 R238). -/
def flipFault (params : List Byte) : Option Nat :=
  (List.range (leAt params 0 1)).findSome? (fun i =>
    let o := 24 * i
    if 63 < leAt params (8 + o) 1 then some (8 + o)
    else if leAt params (9 + o) 7 ≠ 0 then some (9 + o)
    else if leAt params (16 + o) 8 % 64 ≠ 0 then some (16 + o)
    else none)

/-- Class 0x03, etched layers (06 R297-R303). -/
def opsEtched : List OpSpec := [
  ⟨0x0C00, true, false, false, false, 8, [⟨0, 1, .le 7⟩, ⟨1, 1, .le 3⟩, ⟨2, 1, .mask 1⟩, ⟨3, 1, .zero⟩, ⟨4, 4, .le 0xFFFFFF⟩, ⟨4, 4, .aligned 64⟩]⟩,
  ⟨0x0C01, true, false, false, false, 3, [⟨0, 1, .le 7⟩, ⟨1, 1, .mask 0xF⟩, ⟨2, 1, .mask 1⟩]⟩,
  ⟨0x0C02, true, false, false, false, 1, []⟩,
  ⟨0x0C03, true, false, false, false, 16, [⟨1, 1, .le 3⟩, ⟨2, 2, .within 10 10000⟩, ⟨4, 2, .within 10 10000⟩, ⟨6, 2, .zero⟩]⟩,
  ⟨0x0C04, true, false, false, false, 2, [⟨0, 1, .le 7⟩, ⟨1, 1, .le 1⟩]⟩,
  ⟨0x0C05, true, false, false, false, 1, [⟨0, 1, .le 7⟩]⟩]

/-- Class 0x04, Proof (07 R336-R340). -/
def opsProof : List OpSpec := [
  ⟨0x1000, true, false, false, false, 8, [⟨0, 1, .le 7⟩, ⟨1, 1, .mask 7⟩, ⟨3, 1, .zero⟩, ⟨4, 4, .le 0xBDD000⟩, ⟨4, 4, .aligned 4096⟩]⟩,
  ⟨0x1001, true, false, false, false, 24, [⟨2, 1, .len 1 16⟩, ⟨0, 1, .le 7⟩, ⟨1, 1, .le 15⟩, ⟨3, 5, .zero⟩]⟩,
  ⟨0x1002, true, false, false, false, 1, [⟨0, 1, .le 7⟩]⟩,
  ⟨0x1003, true, false, false, false, 1, [⟨0, 1, .le 7⟩]⟩,
  ⟨0x1004, true, true, false, false, 1, [⟨0, 1, .le 7⟩]⟩]

/-- The first entry of a WINDOW_SET at fault (07 R316, R338). -/
def windowFault (params : List Byte) : Option Nat :=
  if 16 < leAt params 1 1 + leAt params 2 1 then some 2
  else (List.range (leAt params 2 1)).findSome? (fun i =>
    let o := 8 + 16 * i
    let f (j : Nat) := leAt params (o + j) 2
    if 8191 < f 0 then some o
    else if 8191 < f 2 then some (o + 2)
    else if f 4 = 0 ∨ 8192 < f 0 + f 4 then some (o + 4)
    else if f 6 = 0 ∨ 512 < f 6 ∨ 8192 < f 2 + f 6 then some (o + 6)
    else if 1 < leAt params (o + 8) 1 then some (o + 8)
    else if leAt params (o + 9) 7 ≠ 0 then some (o + 9)
    else none)

/-- Class 0x05, Graver (08 R350, R367, R371). The drawing operations' parameters are checked by `graverFault`. -/
def opsGraver : List OpSpec := [
  ⟨0x1400, true, true, true, true, 48, []⟩, ⟨0x1401, true, true, true, true, 56, []⟩, ⟨0x1402, true, true, true, true, 88, []⟩,
  ⟨0x1403, true, true, true, true, 128, []⟩, ⟨0x1404, true, true, true, true, 88, []⟩, ⟨0x1405, true, true, true, true, 88, []⟩,
  ⟨0x1406, true, true, true, true, 64, []⟩, ⟨0x1407, true, true, true, true, 64, []⟩, ⟨0x1408, true, true, true, true, 72, []⟩,
  ⟨0x1409, true, true, true, false, 8, [⟨0, 8, .aligned 64⟩]⟩, ⟨0x140A, true, true, true, false, 8, [⟨0, 8, .aligned 64⟩]⟩,
  ⟨0x140B, true, true, true, false, 8, [⟨0, 8, .aligned 64⟩]⟩]

/-- Class 0x06, touch (09 R414-R421). -/
def opsTouch : List OpSpec := [
  ⟨0x1800, true, true, false, false, 24, [⟨5, 1, .len 1 128⟩, ⟨8, 1, .len 1 192⟩, ⟨0, 1, .le 7⟩, ⟨1, 1, .mask 0x1F⟩,
    ⟨2, 1, .oneOf (255 :: List.range 8)⟩, ⟨3, 1, .within 1 15⟩, ⟨6, 2, .le 511⟩, ⟨9, 1, .within 24 240⟩, ⟨10, 2, .mask 0x7FFF⟩, ⟨12, 2, .le 8191⟩,
    ⟨14, 2, .le 8191⟩, ⟨16, 2, .within 1 8192⟩, ⟨18, 2, .within 1 8192⟩, ⟨20, 1, .le 200⟩, ⟨21, 3, .zero⟩]⟩,
  ⟨0x1801, true, true, false, false, 32, [⟨0, 1, .le 7⟩, ⟨1, 1, .within 1 4⟩, ⟨2, 1, .within 2 12⟩, ⟨3, 1, .zero⟩, ⟨4, 2, .within 16 32767⟩,
    ⟨8, 2, .within 16 32767⟩, ⟨10, 2, .within 16 4096⟩, ⟨22, 1, .within 1 255⟩, ⟨23, 1, .within 1 255⟩, ⟨24, 1, .within 1 255⟩,
    ⟨25, 1, .within 1 255⟩, ⟨26, 2, .within 1 32767⟩, ⟨28, 4, .zero⟩]⟩,
  ⟨0x1802, true, false, true, false, 16, [⟨0, 1, .le 7⟩, ⟨1, 1, .oneOf [0, 2, 3, 4, 5, 6, 7, 8, 9, 10]⟩, ⟨8, 8, .aligned 4096⟩]⟩,
  ⟨0x1803, true, true, true, false, 24, [⟨0, 2, .le 255⟩, ⟨3, 1, .mask 0x1F⟩]⟩,
  ⟨0x1804, true, false, true, false, 2, [⟨0, 1, .le 7⟩, ⟨1, 1, .le 19⟩]⟩,
  ⟨0x1805, true, true, false, false, 1, [⟨0, 1, .le 7⟩]⟩,
  ⟨0x1806, true, true, true, false, 1, [⟨0, 1, .le 7⟩]⟩,
  ⟨0x1807, false, true, false, false, 16, [⟨0, 1, .le 7⟩, ⟨8, 8, .aligned 64⟩]⟩,
  ⟨0x1808, false, true, false, false, 16, [⟨0, 1, .le 7⟩, ⟨8, 8, .aligned 64⟩]⟩]

/-- The rules of PANEL_TUNE that join fields (09 R416). -/
def tuneFault (l : List Byte) : Option Nat :=
  let idle := [(16, leAt l 16 2), (18, leAt l 18 2), (20, leAt l 20 2)].filter (fun e => e.2 != 0)
  let bad := (idle.zip (idle.drop 1)).find? (fun e => decide (e.2.2 < e.1.2))
  if leAt l 6 2 < 8 ∨ leAt l 4 2 < leAt l 6 2 + 8 then some 6
  else if leAt l 12 4 ≠ 0 ∧ (leAt l 12 4 < 60 ∨ 86400 < leAt l 12 4) then some 12
  else match bad with
    | some e => some e.2.1
    | none => if leAt l 23 1 < leAt l 22 1 then some 23 else if leAt l 24 1 < leAt l 23 1 then some 24 else none

/-- The fields of an enabled ZONE_SET (09 R418). -/
def zoneFault (l : List Byte) : Option (Nat × Nat) :=
  let p8 (i : Nat) := leAt l i 1
  let eff (v : Nat) : Bool := decide (v < 160)
  if leAt l 8 2 = 0 ∨ 8192 < leAt l 8 2 ∨ leAt l 10 2 = 0 ∨ 8192 < leAt l 10 2 then some (St.badLength, 0)
  else if 7 < p8 2 then some (St.range, 2)
  else if 8191 < leAt l 4 2 then some (St.range, 4)
  else if 8191 < leAt l 6 2 then some (St.range, 6)
  else if 7 < p8 12 ∧ p8 12 ≠ 255 then some (St.range, 12)
  else if !eff (p8 13) then some (St.range, 13)
  else if !eff (p8 14) then some (St.range, 14)
  else if 15 < p8 15 ∧ p8 15 ≠ 255 then some (St.range, 15)
  else if leAt l 18 6 ≠ 0 then some (St.range, 18)
  else none

/-- Class 0x07, haptics (10 R446). -/
def opsHaptic : List OpSpec := [
  ⟨0x1C00, true, true, true, false, 8, [⟨0, 1, .le 7⟩, ⟨1, 1, .le 159⟩, ⟨2, 6, .zero⟩]⟩,
  ⟨0x1C01, true, true, true, false, 12, [⟨1, 1, .len 1 64⟩, ⟨0, 1, .le 31⟩, ⟨3, 5, .zero⟩]⟩,
  ⟨0x1C02, true, true, true, false, 1, [⟨0, 1, .le 31⟩]⟩,
  ⟨0x1C03, true, true, true, false, 1, [⟨0, 1, .le 7⟩]⟩,
  ⟨0x1C04, true, true, false, false, 2, [⟨0, 1, .le 7⟩, ⟨1, 1, .le 2⟩]⟩]

/-- Whether a segment's AMP goes with its phase (10 R428, R432). -/
def ampFits (amp phase : Nat) : Bool :=
  match phase with
  | 0 => decide (1 ≤ amp) && decide (amp ≤ 127)
  | 1 => decide (1 ≤ amp) && decide (amp ≤ 127)
  | 2 => amp == 0 || decide (129 ≤ amp)
  | _ => amp == 0

/-- The first bad segment of a WAVE_LOAD (10 R432, R447): its offset from P. -/
def waveFault (l : List Byte) : Option Nat :=
  (List.range (leAt l 1 1)).findSome? (fun i =>
    let o := 8 + 4 * i
    let d := leAt l (o + 2) 2
    if 3 < leAt l (o + 1) 1 ∨ !ampFits (leAt l o 1) (leAt l (o + 1) 1) ∨ d = 0 ∨ 10000 < d then some o else none)

/-- Class 0x08, audio (11 R496). -/
def opsAudio : List OpSpec := [
  ⟨0x2000, true, true, false, false, 8, [⟨0, 1, .le 15⟩, ⟨1, 1, .mask 0x3F⟩, ⟨5, 3, .zero⟩]⟩,
  ⟨0x2001, true, true, false, false, 16, [⟨2, 1, .len 1 32⟩, ⟨0, 1, .le 2⟩, ⟨1, 1, .mask 1⟩, ⟨3, 5, .zero⟩]⟩,
  ⟨0x2002, true, true, false, false, 48, [⟨0, 1, .le 15⟩, ⟨1, 1, .mask 0x1F⟩, ⟨3, 1, .le 60⟩, ⟨6, 2, .within 10 1000⟩]⟩,
  ⟨0x2003, true, true, false, false, 1, [⟨0, 1, .le 7⟩]⟩,
  ⟨0x2004, true, true, false, false, 1, [⟨0, 1, .within 1 3⟩]⟩,
  ⟨0x2005, true, true, false, false, 8, [⟨0, 1, .le 6⟩, ⟨1, 1, .oneOf (255 :: List.range 15)⟩, ⟨3, 5, .zero⟩]⟩,
  ⟨0x2006, true, true, false, false, 8, [⟨0, 1, .le 15⟩, ⟨1, 1, .mask 0xF⟩]⟩,
  ⟨0x2007, true, true, false, false, 2, [⟨0, 1, .le 15⟩]⟩,
  ⟨0x2008, true, true, true, false, 16, [⟨2, 1, .lenOf [0, 6, 7, 8, 9, 10, 11, 12, 13, 14, 15, 16]⟩, ⟨1, 1, .mask 0xF⟩, ⟨4, 4, .zero⟩,
    ⟨8, 8, .aligned 64⟩]⟩,
  ⟨0x2009, true, true, true, false, 4, [⟨1, 1, .mask 1⟩, ⟨2, 1, .le 2⟩]⟩,
  ⟨0x200A, true, false, false, false, 8, [⟨0, 1, .mask 3⟩, ⟨4, 2, .le 1000⟩, ⟨6, 2, .zero⟩]⟩,
  ⟨0x200B, true, true, true, false, 4, [⟨0, 1, .le 4⟩]⟩,
  ⟨0x200C, false, true, true, false, 16, [⟨1, 1, .mask 1⟩, ⟨8, 8, .aligned 64⟩]⟩,
  ⟨0x200D, false, true, true, false, 16, [⟨1, 1, .mask 1⟩, ⟨8, 8, .aligned 64⟩]⟩]

/-- PORT_SET's conditions (11 R452-R454). -/
def portFault (l : List Byte) : Option (Nat × Nat) :=
  let p8 (i : Nat) := leAt l i 1
  let o := p8 1
  let slots := p8 2
  let dom := bits o 5 4
  if 8 ≤ p8 0 then
    if slots ≠ 2 ∧ slots ≠ 8 then some (St.badLength, 0) else if p8 4 ≠ 16 ∧ p8 4 ≠ 24 then some (St.range, 4) else none
  else if (if bit o 2 then slots ≠ 2 else slots = 0 ∨ 16 < slots) then some (St.badLength, 0)
  else if dom = 3 ∨ (dom = 2 ∧ bit o 1) then some (St.range, 1)
  else if p8 3 ≠ 16 ∧ p8 3 ≠ 24 ∧ p8 3 ≠ 32 then some (St.range, 3)
  else if bit o 1 ∧ (if dom = 1 then 1536 else 512) % (slots * p8 3) ≠ 0 then some (St.range, 2)
  else if bit o 2 ∧ p8 3 = 24 ∧ dom ≠ 1 then some (St.range, 3)
  else if p8 3 < p8 4 ∨ (p8 4 ≠ 16 ∧ p8 4 ≠ 24 ∧ p8 4 ≠ 32) then some (St.range, 4)
  else none

/-- A ROUTE_SET entry with a reserved field that is not 0 (11 R476). -/
def routeFault (l : List Byte) : Option Nat :=
  (List.range (leAt l 2 1)).findSome? (fun i =>
    let o := 8 + 8 * i
    if 511 < leAt l o 2 ∨ 511 < leAt l (o + 2) 2 ∨ leAt l (o + 5) 3 ≠ 0 then some o else none)

/-- BUS_SET's conditions (11 R471). -/
def busFault (l : List Byte) : Option Nat :=
  let o := leAt l 1 1
  let hpf := leAt l 4 2
  if bits o 3 2 = 3 then some 1
  else if hpf ≠ 0 ∧ (hpf < 20 ∨ 500 < hpf) then some 4
  else (List.range 5).findSome? (fun b =>
    let p := 8 + 8 * b
    let f := leAt l (p + 2) 2
    let q := leAt l (p + 4) 2
    let g := signed 8 (leAt l (p + 1) 1)
    if 3 < leAt l p 1 then some p
    else if g < -30 ∨ 30 < g then some (p + 1)
    else if f < 20 ∨ (if bit o 1 then 7200 else 21600) < f then some (p + 2)
    else if q < 30 ∨ 1000 < q then some (p + 4)
    else if leAt l (p + 6) 2 ≠ 0 then some (p + 6)
    else none)

/-- TONE_SET's conditions (11 R478); with STOP the other fields are ignored. -/
def toneFault (l : List Byte) : Option (Nat × Nat) :=
  let p8 (i : Nat) := leAt l i 1
  if bit (p8 1) 3 then none
  else if p8 2 = 0 ∨ 8 < p8 2 then some (St.badLength, 0)
  else if bit (p8 1) 2 ∧ p8 0 ≠ 15 then some (St.range, 1)
  else if leAt l 4 4 ≠ 0 then some (St.range, 4)
  else (List.range (p8 2)).findSome? (fun i =>
    let o := 8 + 8 * i
    let f := leAt l o 2
    let d := leAt l (o + 4) 2
    if f ≠ 0 ∧ (f < 20 ∨ 8000 < f) then some (St.range, o)
    else if p8 (o + 3) ≠ 0 then some (St.range, o + 3)
    else if d = 0 ∨ 10000 < d then some (St.range, o + 4)
    else if leAt l (o + 6) 2 ≠ 0 then some (St.range, o + 6)
    else none)

/-- AUDIO_QUERY's INDEX (11 R496). -/
def audioIndexFault (l : List Byte) : Option (Nat × Nat) :=
  let i := leAt l 2 2
  match leAt l 0 1 with
  | 1 => if 67 < i then some (St.range, 2) else none
  | 2 => if 31 < i then some (St.range, 2) else none
  | 3 => if 15 < i then some (St.range, 2) else none
  | 4 => if 0x1F7 < i then some (St.range, 2) else none
  | _ => none

/-- Class 0x09, memory (13 R534, R563). -/
def opsMemory : List OpSpec := [
  ⟨0x2400, true, true, false, false, 16, [⟨0, 8, .aligned 4096⟩, ⟨12, 1, .le 7⟩, ⟨13, 3, .zero⟩]⟩,
  ⟨0x2401, true, false, false, false, 8, [⟨0, 1, .le 3⟩, ⟨1, 1, .le 16⟩, ⟨2, 1, .le 32⟩, ⟨3, 5, .zero⟩]⟩,
  ⟨0x2402, true, false, false, false, 20, [⟨0, 1, .le 7⟩, ⟨1, 1, .le 1⟩, ⟨2, 1, .le 3⟩, ⟨3, 5, .zero⟩, ⟨8, 8, .aligned 0x200000⟩,
    ⟨16, 4, .len 1 0xFFFFFFFF⟩, ⟨16, 4, .le 4096⟩]⟩,
  ⟨0x2403, true, false, false, false, 0, []⟩,
  ⟨0x2404, true, true, false, false, 2, [⟨0, 1, .le 2⟩]⟩]

/-- Class 0x0A, Hallmark (14 R571, R572). -/
def opsHallmark : List OpSpec := [
  ⟨0x2800, true, true, true, true, 64, [⟨3, 1, .len 1 128⟩, ⟨0, 1, .le 2⟩, ⟨1, 1, .within 1 64⟩, ⟨2, 1, .mask 7⟩, ⟨4, 4, .zero⟩,
    ⟨40, 8, .zero⟩]⟩,
  ⟨0x2801, true, true, false, false, 1, [⟨0, 1, .le 7⟩]⟩]

/-- The first LEN that carries the sum of the input lengths past 0xFFFF_FFFF (14 R573). -/
def hallSumFault (l : List Byte) : Option Nat :=
  ((List.range (leAt l 3 1)).foldl (fun (a : Nat × Option Nat) i =>
    let n := a.1 + leAt l (56 + 16 * i) 4
    (n, if a.2.isNone && decide (0xFFFFFFFF < n) then some (56 + 16 * i) else a.2)) (0, none)).2

/-- The bytes a HALL_RUN writes (14 R574, R577). -/
def hallOut (l : List Byte) : Nat :=
  let n := (List.range (leAt l 3 1)).foldl (fun n i => n + leAt l (56 + 16 * i) 4) 0
  let k := (leAt l 1 1 + 7) / 8
  match leAt l 0 1 with
  | 0 => 0
  | 1 => n + k
  | _ => if leAt l 32 8 = 0 then 0 else n - k

/-- Whether the output range of a HALL_RUN overlaps an input segment in a way that 14 R575 does not allow. -/
def hallOverlap (l : List Byte) : Bool :=
  let d := leAt l 32 8
  let out := hallOut l
  let same := leAt l 3 1 == 1 && leAt l 48 8 == d
  !same && (List.range (leAt l 3 1)).any (fun i =>
    let a := leAt l (48 + 16 * i) 8
    let n := leAt l (56 + 16 * i) 4
    decide (0 < n) && decide (0 < out) && decide (a < d + out) && decide (d < a + n))

/-- HALL_RUN's conditions (14 R572, R573, R575). -/
def hallFault (l : List Byte) : Option (Nat × Nat) :=
  let w := leAt l 1 1
  match hallSumFault l with
  | some o => some (St.badLength, o)
  | none =>
    if 2 ^ w ≤ leAt l 8 8 then some (St.range, 8)
    else if 2 ^ w ≤ leAt l 16 8 then some (St.range, 16)
    else if 2 ^ w ≤ leAt l 24 8 then some (St.range, 24)
    else match (List.range (leAt l 3 1)).find? (fun i => leAt l (60 + 16 * i) 4 != 0) with
      | some i => some (St.range, if hallOverlap l then 32 else 60 + 16 * i)
      | none => if hallOverlap l then some (St.range, 32) else none

/-- Class 0x0B, Folio (15 R608). -/
def opsFolio : List OpSpec := [
  ⟨0x2C00, true, true, false, false, 0, []⟩,
  ⟨0x2C01, true, true, false, false, 0, []⟩,
  ⟨0x2C02, true, true, false, false, 16, [⟨4, 4, .len 0 16364⟩, ⟨1, 1, .zero⟩, ⟨2, 2, .within 1 65535⟩]⟩,
  ⟨0x2C03, true, true, false, false, 16, [⟨4, 4, .len 0 16364⟩, ⟨1, 1, .zero⟩]⟩,
  ⟨0x2C04, true, true, false, false, 16, []⟩,
  ⟨0x2C05, true, false, false, false, 48, [⟨0, 4, .le 63⟩, ⟨6, 2, .le 3650⟩, ⟨12, 2, .le 365⟩, ⟨14, 2, .zero⟩]⟩,
  ⟨0x2C06, true, false, false, false, 4, [⟨0, 4, .le 63⟩]⟩,
  ⟨0x2C07, true, false, false, false, 0, []⟩]

/-- Class 0x0C, firmware (16 R632). -/
def opsFirmware : List OpSpec := [
  ⟨0x3000, true, true, false, false, 0, []⟩,
  ⟨0x3001, true, true, false, false, 1, [⟨0, 1, .le 1⟩]⟩,
  ⟨0x3002, true, true, false, false, 24, [⟨8, 4, .len 1 65536⟩, ⟨0, 1, .le 1⟩, ⟨1, 3, .zero⟩, ⟨4, 4, .aligned 256⟩]⟩,
  ⟨0x3003, true, true, false, false, 1, [⟨0, 1, .le 1⟩]⟩,
  ⟨0x3004, true, false, false, false, 3, [⟨0, 1, .le 1⟩, ⟨1, 1, .le 60⟩, ⟨2, 1, .mask 1⟩]⟩,
  ⟨0x3005, true, true, false, false, 1, [⟨0, 1, .le 1⟩]⟩,
  ⟨0x3006, true, false, false, false, 1, [⟨0, 1, .le 1⟩]⟩]

/-- Class 0x0E, Dzivlink (18 R693). -/
def opsDziv : List OpSpec := [
  ⟨0x3800, true, true, false, false, 4, [⟨0, 1, .le 1⟩, ⟨1, 1, .le 3⟩, ⟨2, 1, .le 2⟩, ⟨3, 1, .mask 1⟩]⟩,
  ⟨0x3801, true, false, false, false, 4, [⟨0, 1, .le 127⟩, ⟨3, 1, .oneOf [0, 249, 250, 251, 252, 253, 254, 255]⟩]⟩,
  ⟨0x3802, true, false, false, false, 16, [⟨4, 2, .le 1023⟩, ⟨6, 1, .mask 1⟩, ⟨8, 8, .within 0x1000000 0x11FFFE0⟩]⟩,
  ⟨0x3803, true, false, false, false, 8, [⟨0, 1, .len 1 16⟩]⟩,
  ⟨0x3804, true, false, false, false, 2, [⟨0, 2, .le 1023⟩]⟩,
  ⟨0x3805, true, false, false, false, 24, [⟨2, 1, .le 7⟩, ⟨3, 1, .zero⟩]⟩,
  ⟨0x3806, true, true, false, false, 24, [⟨0, 1, .le 7⟩, ⟨1, 1, .mask 1⟩]⟩,
  ⟨0x3807, true, true, false, false, 7, [⟨0, 1, .le 7⟩, ⟨1, 1, .mask 3⟩, ⟨2, 1, .within 2 20⟩, ⟨4, 2, .le 1023⟩, ⟨6, 1, .le 7⟩]⟩,
  ⟨0x3808, false, true, true, false, 32, [⟨0, 1, .le 31⟩, ⟨1, 1, .le 1⟩, ⟨2, 1, .oneOf [0, 4, 5, 6, 7, 8, 9, 10, 11, 12]⟩, ⟨3, 1, .mask 1⟩,
    ⟨4, 2, .le 4094⟩, ⟨8, 1, .mask 0xFE⟩]⟩,
  ⟨0x3809, false, true, true, false, 1, [⟨0, 1, .le 31⟩]⟩,
  ⟨0x380A, true, true, false, false, 0, []⟩]

/-- The first bad entry of a ROSTER_SET (18 R693). -/
def rosterFault (l : List Byte) : Option Nat :=
  (List.range (leAt l 0 1)).findSome? (fun i =>
    let o := 8 + 56 * i
    if 1023 < leAt l o 2 then some o else if leAt l (o + 2) 6 ≠ 0 then some (o + 2) else none)

/-- Class 0x0D, faults and Rubbing (17 R667). -/
def opsFault : List OpSpec := [
  ⟨0x3400, true, true, false, false, 0, []⟩,
  ⟨0x3401, true, false, false, false, 0, []⟩,
  ⟨0x3402, true, false, false, false, 0, []⟩,
  ⟨0x3403, true, true, false, false, 16, [⟨0, 1, .mask 1⟩]⟩,
  ⟨0x3404, true, true, true, false, 16, [⟨4, 4, .len 1 32768⟩, ⟨4, 4, .aligned 32⟩]⟩,
  ⟨0x3405, true, false, false, false, 0, []⟩]

/-- Class 0x0F, power (19 R724). -/
def opsPower : List OpSpec := [
  ⟨0x3C00, true, true, false, false, 1, [⟨0, 1, .le 3⟩]⟩,
  ⟨0x3C01, true, true, false, false, 3, [⟨0, 1, .le 45⟩, ⟨1, 1, .le 2⟩, ⟨2, 1, .mask 1⟩]⟩,
  ⟨0x3C02, true, true, false, false, 1, [⟨0, 1, .within 1 2⟩]⟩,
  ⟨0x3C03, true, false, false, false, 8, [⟨0, 1, .mask 1⟩]⟩,
  ⟨0x3C04, true, true, false, false, 0, []⟩]

/-- The operations of a unit class (03 R114). -/
def opsOfClass : Nat → List OpSpec
  | 0x00 => opsDevice
  | 0x01 => opsClient
  | 0x02 => opsDisplay
  | 0x03 => opsEtched
  | 0x04 => opsProof
  | 0x05 => opsGraver
  | 0x06 => opsTouch
  | 0x07 => opsHaptic
  | 0x08 => opsAudio
  | 0x09 => opsMemory
  | 0x0A => opsHallmark
  | 0x0B => opsFolio
  | 0x0C => opsFirmware
  | 0x0D => opsFault
  | 0x0E => opsDziv
  | 0x0F => opsPower
  | _ => []

/-- The operation of an opcode, if the class has it. -/
def opSpec (opcode : Nat) : Option OpSpec := (opsOfClass (opcode / 1024)).find? (fun o => o.opcode == opcode)

/-- The bytes of parameters an operation needs, where its parameters decide that. -/
def OpSpec.need (o : OpSpec) (params : List Byte) : Nat :=
  match o.opcode with
  | 0x0806 => 8 + 24 * min 4 (leAt params 0 1)
  | 0x1001 => 8 + 16 * min 16 (leAt params 2 1)
  | 0x2800 => 48 + 16 * min 128 (leAt params 3 1)
  | 0x2001 => 8 + 8 * min 32 (leAt params 2 1)
  | 0x2006 => if bit (leAt params 1 1) 3 then 8 else 8 + 8 * min 8 (leAt params 2 1)
  | 0x1C01 => 8 + 4 * min 64 (leAt params 1 1)
  | 0x3803 => 8 + 56 * min 16 (leAt params 0 1)
  | _ => o.len

/-- Rules that join two parameters of an operation. -/
def crossCheck (opcode : Nat) (params : List Byte) : Option (Nat × Nat) :=
  let p8 (i : Nat) := leAt params i 1
  let p16 (i : Nat) := leAt params i 2
  match opcode with
  | 0x0403 =>
    let n := match p8 2 with | 1 => 8 | 2 => 8 | 3 => 8 | 4 => 64 | _ => 32
    if n ≤ p16 6 then some (St.range, 6) else none
  | 0x0802 => if (if p8 1 < 2 then 0xFFFFF else 0x7F) < leAt params 4 4 then some (St.range, 4) else none
  | 0x0805 => (layerFault params).map (fun o => (St.range, o))
  | 0x0806 => (flipFault params).map (fun o => (St.range, o))
  | 0x1000 =>
    if bit (p8 1) 0 then (if bit (p8 1) 2 ∧ p8 2 = 0 then some (St.range, 2) else none) else if p8 1 ≠ 0 then some (St.range, 1) else none
  | 0x1001 => (windowFault params).map (fun o => (St.range, o))
  | 0x1400 => graverFault opcode params
  | 0x1401 => graverFault opcode params
  | 0x1402 => graverFault opcode params
  | 0x1403 => graverFault opcode params
  | 0x1404 => graverFault opcode params
  | 0x1405 => graverFault opcode params
  | 0x1406 => graverFault opcode params
  | 0x1407 => graverFault opcode params
  | 0x1408 => graverFault opcode params
  | 0x1800 => if 256 < p8 4 + p8 5 then some (St.range, 4) else if 512 < p16 6 + p8 8 then some (St.range, 6) else none
  | 0x1801 => (tuneFault params).map (fun o => (St.range, o))
  | 0x1803 => if bit (p8 3) 0 then zoneFault params else none
  | 0x1C01 => (waveFault params).map (fun o => (St.range, o))
  | 0x2000 => portFault params
  | 0x2001 => (routeFault params).map (fun o => (St.range, o))
  | 0x2002 => (busFault params).map (fun o => (St.range, o))
  | 0x2006 => toneFault params
  | 0x2008 => if bits (p8 1) 3 2 = 3 then some (St.range, 1) else none
  | 0x200B => audioIndexFault params
  | 0x2800 => hallFault params
  | 0x2C05 => if p16 6 ≠ 0 ∧ p16 4 = 0 then some (St.range, 4) else none
  | 0x3002 => if (if p8 0 = 0 then 0x1000000 else 0x400000) < leAt params 4 4 + leAt params 8 4 then some (St.range, 8) else none
  | 0x3803 => (rosterFault params).map (fun o => (St.range, o))
  | 0x2404 => if (p8 0 = 1 ∧ 15 < p8 1) ∨ (p8 0 = 2 ∧ 3 < p8 1) then some (St.range, 1) else none
  | _ => none

/-- Every parameter of an operation within its range (03 R116 check 9). -/
def checkParams (o : OpSpec) (params : List Byte) : Option (Nat × Nat) :=
  match checkFields o.fields params, crossCheck o.opcode params with
  | some (a, i), some (b, j) =>
    if a = St.badLength then some (a, i) else if b = St.badLength then some (b, j) else if j < i then some (b, j) else some (a, i)
  | some e, none => some e
  | none, c => c

end Sys2Proof.Machine
end

