-- ==== Sys2Proof/Machine/Graver.lean ====
section
/-! DEFINITION. The Graver 2D engines (08). -/

namespace Sys2Proof.Machine

/-! Colour (R353). Pixels are premultiplied, 10 bits each. -/

/-- A field of `w` bits widened to 10 bits by repeating its top bits; at 8 bits this is the widening of 06 R265 (DEDUCED). -/
def widenBits (w v : Nat) : Nat :=
  match w with
  | 2 => v * 341
  | 5 => v * 32 + v
  | 6 => v * 16 + v / 4
  | 8 => widen v
  | _ => v

/-- 10 bits rounded to a field of `w` bits, to nearest, halves up (R353). -/
def narrowBits (w v : Nat) : Nat := roundDiv (v * (2 ^ w - 1)) 1023

/-- Premultiplies a straight colour. -/
def Pix.premul (p : Pix) : Pix := ⟨roundDiv (p.r * p.q) 1023, roundDiv (p.g * p.q) 1023, roundDiv (p.b * p.q) 1023, p.q⟩

/-- Divides a premultiplied colour by its alpha; an alpha of 0 gives colour 0 (R353). -/
def Pix.straight (p : Pix) : Pix :=
  let d (c : Nat) : Nat := if p.q = 0 then 0 else min 1023 (roundDiv (c * 1023) p.q)
  ⟨d p.r, d p.g, d p.b, p.q⟩

/-- A straight ARGB8888 colour, premultiplied. -/
def argbPix (v : Nat) : Pix := (⟨widen (bits v 23 16), widen (bits v 15 8), widen (bits v 7 0), widen (bits v 31 24)⟩ : Pix).premul

/-- A source pixel of an RGB, A8 or palette format from its number, before premultiplying; `colour` is that of A8 (05 R219). -/
def rawPix (format v : Nat) (colour : Nat) : Pix :=
  match format with
  | 0 => ⟨widen (bits v 23 16), widen (bits v 15 8), widen (bits v 7 0), widen (bits v 31 24)⟩
  | 1 => ⟨widen (bits v 23 16), widen (bits v 15 8), widen (bits v 7 0), 1023⟩
  | 2 => ⟨bits v 29 20, bits v 19 10, bits v 9 0, widenBits 2 (bits v 31 30)⟩
  | 3 => ⟨widenBits 5 (bits v 15 11), widenBits 6 (bits v 10 5), widenBits 5 (bits v 4 0), 1023⟩
  | _ => ⟨bits colour 29 20, bits colour 19 10, bits colour 9 0, widen v⟩

/-- The bytes of a pixel in a destination format (R348, R353). -/
def Pix.store (p0 : Pix) (format : Nat) (premult : Bool) : List Byte :=
  let p := if premult then p0 else p0.straight
  match format with
  | 0 => leBytes 4 (narrowBits 8 p.q * 2 ^ 24 + narrowBits 8 p.r * 2 ^ 16 + narrowBits 8 p.g * 2 ^ 8 + narrowBits 8 p.b)
  | 1 => leBytes 4 (0xFF * 2 ^ 24 + narrowBits 8 p.r * 2 ^ 16 + narrowBits 8 p.g * 2 ^ 8 + narrowBits 8 p.b)
  | 2 => leBytes 4 (narrowBits 2 p.q * 2 ^ 30 + p.r * 2 ^ 20 + p.g * 2 ^ 10 + p.b)
  | 3 => leBytes 2 (narrowBits 5 p.r * 2 ^ 11 + narrowBits 6 p.g * 2 ^ 5 + narrowBits 5 p.b)
  | _ => [BitVec.ofNat 8 (narrowBits 8 p.q)]

/-- A faulting access: the operand's offset from P and the reason (R360). -/
abbrev GFault := Nat × Nat

/-- Reads a number for an operand. -/
def State.gread (s : State) (w : Who) (operand addr n : Nat) : Except GFault Nat × State :=
  match s.unitRead w addr n with
  | (.ok l, s) => (.ok (leAt l 0 n), s)
  | (.error r, s) => (.error (operand, r), s)

/-- Reads a source pixel, premultiplied (R353). The manual fixes neither how chroma is interpolated nor how the conversion to RGB is
rounded (05 R223), and gives A8 no colour here; those colours are free values. -/
def State.readPix (s : State) (r : RingId) (f : Surf) (x y : Nat) : Except GFault Pix × State :=
  let w := ringWho r
  let fin (p : Pix) : Pix := if bit f.opts 0 then p else p.premul
  let b := planeBytes f.format
  match s.gread w f.at_ (f.addr + y * f.pitch + x * b) b with
  | (.error e, s) => (.error e, s)
  | (.ok v, s) =>
    if isYuv f.format then
      match s.gread w f.at_ (f.caddr + y / 2 * f.pitch + x / 2 * 2 * b) (2 * b) with
      | (.error e, s) => (.error e, s)
      | (.ok _, s) =>
        let c := s.freeBelow (2 ^ 30)
        (.ok ⟨bits c 29 20, bits c 19 10, bits c 9 0, 1023⟩, s.fresh)
    else if f.format = 5 then
      let pal := SMap.get (fun _ => []) s.grv.palettes (ringKey r)
      (.ok (fin (rawPix 0 (leAt pal (4 * v) 4) 0)), s)
    else if f.format = 4 then (.ok (fin (rawPix 4 v (s.freeBelow (2 ^ 30)))), s.fresh)
    else (.ok (fin (rawPix f.format v 0)), s)

/-! Blending (R354). -/

/-- Fa and Fb of a mode, in 1/1023. -/
def pdFactors (op sa ba : Nat) : Nat × Nat :=
  match op with
  | 0 => (0, 0)
  | 1 => (1023, 0)
  | 2 => (0, 1023)
  | 3 => (1023, 1023 - sa)
  | 4 => (1023 - ba, 1023)
  | 5 => (ba, 0)
  | 6 => (0, sa)
  | 7 => (1023 - ba, 0)
  | 8 => (0, 1023 - sa)
  | 9 => (ba, 1023 - sa)
  | 10 => (1023 - ba, sa)
  | _ => (1023 - ba, 1023 - sa)

/-- Scales a premultiplied pixel by n / d. -/
def Pix.scale (p : Pix) (n d : Nat) : Pix := ⟨roundDiv (p.r * n) d, roundDiv (p.g * n) d, roundDiv (p.b * n) d, roundDiv (p.q * n) d⟩

/-- out = src × Fa + bg × Fb. -/
def Pix.blend (a b : Pix) (op : Nat) : Pix :=
  let f := pdFactors op a.q b.q
  let m (u v : Nat) := min 1023 (roundDiv (u * f.1 + v * f.2) 1023)
  ⟨m a.r b.r, m a.g b.g, m a.b b.b, m a.q b.q⟩

/-! Paths (R355, R356). -/

/-- A command of a path. -/
structure PCmd where
  cmd : Nat
  x   : Int
  y   : Int
  ok  : Bool
  deriving DecidableEq, Repr

/-- The commands of a path's bytes. -/
def pathCmds (l : List Byte) : List PCmd :=
  (List.range (l.length / 8)).map (fun i =>
    let c := leAt l (8 * i) 1
    let x := leAt l (8 * i + 4) 2
    let y := leAt l (8 * i + 6) 2
    ⟨c, s16 x, s16 y, decide (1 ≤ c) && decide (c ≤ 6) && leAt l (8 * i + 1) 3 == 0 && (c != 5 || (x == 0 && y == 0))⟩)

/-- The first command of a path at fault, by its number (R355). `pts` counts the PT commands still owed. -/
def pathFaultGo : List PCmd → Nat → Nat → Option Nat
  | [], _, _ => none
  | c :: t, i, pts =>
    if !c.ok ∨ (i = 0 ∧ c.cmd ≠ 1) ∨ (0 < pts ∧ c.cmd ≠ 6) ∨ (pts = 0 ∧ c.cmd = 6) then some i
    else pathFaultGo t (i + 1) (match c.cmd with | 3 => 1 | 4 => 2 | 6 => pts - 1 | _ => 0)

/-- The first command at fault; a QUAD or CUBIC that ends the path without its points is itself at fault. -/
def pathFault (l : List PCmd) : Option Nat :=
  match pathFaultGo l 0 0 with
  | some i => some i
  | none =>
    match l.reverse with
    | [] => none
    | a :: t =>
      if a.cmd = 3 ∨ a.cmd = 4 then some (l.length - 1)
      else match t with
        | b :: _ => if a.cmd = 6 ∧ b.cmd = 4 then some (l.length - 2) else none
        | [] => none

/-- Whether the manual leaves the coverage of a path open: it has curves, whose flattening is not fixed, or goes on after a CLOSE without a
MOVE. -/
def pathOpen (l : List PCmd) : Bool :=
  l.any (fun c => c.cmd == 3 || c.cmd == 4) || (l.zip (l.drop 1)).any (fun e => e.1.cmd == 5 && e.2.cmd != 1)

/-- The subpaths of a path of straight lines. -/
def pathLoops (l : List PCmd) : List (List (Int × Int)) :=
  let r := l.foldl (fun (a : List (List (Int × Int)) × List (Int × Int)) c =>
    match c.cmd with
    | 1 => (a.1 ++ [a.2], [(c.x, c.y)])
    | 2 => (a.1, a.2 ++ [(c.x, c.y)])
    | _ => a) ([], [])
  r.1 ++ [r.2]

/-- The winding number of a closed polygon at a sample, on whatever grid both are given; boundaries as 06 R272 takes them. -/
def windingAt (pts : List (Int × Int)) (sx sy : Int) : Int :=
  (pts.zip (pts.drop 1 ++ pts.take 1)).foldl (fun acc e =>
    let (xa, ya) := e.1
    let (xb, yb) := e.2
    if ya ≤ sy ∧ sy < yb then (if (sy - ya) * (xb - xa) ≤ (sx - xa) * (yb - ya) then acc + 1 else acc)
    else if yb ≤ sy ∧ sy < ya then (if (sy - yb) * (xa - xb) ≤ (sx - xb) * (ya - yb) then acc - 1 else acc)
    else acc) 0

/-- Covered samples of the 4 × 4 grid of pixel (x, y) of the clip: samples at odd eighths of a pixel (R356; DEDUCED: an even grid). -/
def coverage (loops : List (List (Int × Int))) (evenOdd : Bool) (x y : Nat) : Nat :=
  (List.range 16).foldl (fun n k =>
    let sx : Int := 16 * x + 4 * (k % 4 : Nat) + 2
    let sy : Int := 16 * y + 4 * (k / 4 : Nat) + 2
    let w := loops.foldl (fun a l => a + windingAt l sx sy) 0
    if (if evenOdd then w % 2 ≠ 0 else w ≠ 0) then n + 1 else n) 0

/-! Glyph runs in client memory (R357; 06 R276-R279). -/

/-- An atlas and the glyph boxes of a run, relative to the clip. -/
structure GRun where
  atlas : Nat
  depth : Nat
  cellH : Nat
  boxes : List GBox
  deriving DecidableEq, Repr

/-- Whether 16 bytes are the header of an atlas (06 R276). -/
def atlasHeader (h : List Byte) : Bool :=
  leAt h 0 2 == 1 && (leAt h 2 1 == 1 || leAt h 2 1 == 4) && decide (1 ≤ leAt h 3 1) && decide (1 ≤ leAt h 6 2)
    && decide (leAt h 4 2 + leAt h 6 2 ≤ 65536) && decide (leAt h 8 1 ≤ leAt h 3 1) && leAt h 9 3 == 0
    && decide (16 + 8 * leAt h 6 2 ≤ leAt h 12 4) && decide (leAt h 12 4 ≤ 4194304)

/-- Whether 8 bytes are a glyph record of an atlas with this header (06 R277). -/
def glyphRecord (h l : List Byte) : Bool :=
  leAt l 7 1 == 0 && decide (leAt l 0 4 + leAt h 3 1 * ((leAt l 4 1 * leAt h 2 1 + 7) / 8) ≤ leAt h 12 4)

/-- Reads the glyph boxes of a run; the offset of the operand at fault for a code outside the atlas or a record that breaks R277. -/
def State.gboxes (w : Who) (atlas : Nat) (h codes : List Byte) (top : Int) : List Nat → Int → List GBox → State →
    Except GFault (Except Nat (List GBox)) × State
  | [], _, acc, s => (.ok (.ok acc), s)
  | i :: t, pen, acc, s =>
    let c := leAt codes (2 * i) 2
    let first := leAt h 4 2
    if c < first ∨ first + leAt h 6 2 ≤ c then (.ok (.error 56), s)
    else match s.unitRead w (atlas + 16 + 8 * (c - first)) 8 with
      | (.error r, s) => (.error (48, r), s)
      | (.ok l, s) =>
        if !glyphRecord h l then (.ok (.error 48), s)
        else State.gboxes w atlas h codes top t (pen + leAt l 5 1)
          (acc ++ [⟨i, pen + signed 8 (leAt l 6 1), top, leAt l 4 1, atlas + leAt l 0 4⟩]) s

/-- Reads the atlas header and the codes of a GLYPHS operation, and places its boxes; the offset of the operand at fault for an atlas that
breaks 06 R276-R277 or a code outside it. -/
def State.glyphRun (s : State) (w : Who) (l : List Byte) : Except GFault (Except Nat GRun) × State :=
  let atlas := leAt l 48 8
  let n := leAt l 46 2
  match s.unitRead w atlas 16 with
  | (.error r, s) => (.error (48, r), s)
  | (.ok h, s) =>
    if !atlasHeader h then (.ok (.error 48), s)
    else match s.unitRead w (leAt l 56 8) (2 * n) with
    | (.error r, s) => (.error (48, r), s)
    | (.ok codes, s) =>
      let top := s16 (leAt l 66 2) - leAt h 8 1
      match State.gboxes w atlas h codes top (List.range n) (s16 (leAt l 64 2)) [] s with
      | (.error e, s) => (.error e, s)
      | (.ok (.error o), s) => (.ok (.error o), s)
      | (.ok (.ok b), s) => (.ok (.ok ⟨atlas, leAt h 2 1, leAt h 3 1, b⟩), s)

/-- The pixels of the glyph boxes within the clip (R358). -/
def GRun.pixels (g : GRun) (clip : Rct) : Nat :=
  g.boxes.foldl (fun a b =>
    let x := (min (b.left + (b.gw : Int)) (clip.w : Int) - max b.left 0).toNat
    let y := (min (b.top + (g.cellH : Int)) (clip.h : Int) - max b.top 0).toNat
    a + x * y) 0

/-! Drawing one pixel. -/

/-- What a drawing operation needs beside its parameters: its path or its glyph run. -/
structure GCtx where
  op    : Nat
  ring  : RingId
  l     : List Byte
  cmds  : List PCmd
  loops : List (List (Int × Int))
  run   : Option GRun
  deriving DecidableEq, Repr

/-- GRADIENT's colour at a pixel of the rectangle (R353). -/
def gradientPix (l : List Byte) (x y : Nat) : Pix :=
  let c0 := leAt l 40 4
  let c1 := leAt l 44 4
  let x0 := s16 (leAt l 48 2)
  let y0 := s16 (leAt l 50 2)
  let dx := s16 (leAt l 52 2) - x0
  let dy := s16 (leAt l 54 2) - y0
  let den := 2 * (dx * dx + dy * dy)
  let num := max 0 (min den ((2 * (x : Int) + 1 - 2 * x0) * dx + (2 * (y : Int) + 1 - 2 * y0) * dy))
  let m (hi lo : Nat) : Nat :=
    let a : Int := widen (bits c0 hi lo)
    let b : Int := widen (bits c1 hi lo)
    if den = 0 then a.toNat else ((2 * (a * den + (b - a) * num) + den) / (2 * den)).toNat
  (⟨m 23 16, m 15 8, m 7 0, m 31 24⟩ : Pix).premul

/-- The source pixel that COPY's rotation and mirror take to pixel (x, y) of the destination (R352): the mirror comes first, then a
clockwise rotation. -/
def copySource (rot : Nat) (src : Rct) (x y : Nat) : Nat × Nat :=
  let p := match rot % 4 with
    | 0 => (x, y)
    | 1 => (y, src.h - 1 - x)
    | 2 => (src.w - 1 - x, src.h - 1 - y)
    | _ => (src.w - 1 - y, x)
  (src.x + (if bit rot 2 then src.w - 1 - p.1 else p.1), src.y + p.2)

/-- Paints a colour with a part n/d of its alpha, in MODE SRC or OVER (R356-R357). -/
def State.paintPix (s : State) (c : GCtx) (dst : Surf) (x y : Nat) (n d : Nat) : Except GFault (Option Pix) × State :=
  let colour := (argbPix (leAt c.l 40 4)).scale n d
  if n = 0 then (.ok none, s)
  else if leAt c.l 44 1 = 0 then (.ok (some colour), s)
  else match s.readPix c.ring dst x y with
    | (.error e, s) => (.error e, s)
    | (.ok b, s) => (.ok (some (colour.blend b 3)), s)

/-- Paints the glyphs of a run on a pixel, one after another (R357; 06 R278). -/
def State.glyphPix (c : GCtx) (g : GRun) (dst : Surf) (dx dy : Nat) (x y : Nat) : List GBox → Option Pix → State →
    Except GFault (Option Pix) × State
  | [], acc, s => (.ok acc, s)
  | b :: t, acc, s =>
    if inRect b.left b.top b.gw g.cellH x y then
      let col := (x - b.left).toNat
      let byte_ := b.data + ((y : Int) - b.top).toNat * ((b.gw * g.depth + 7) / 8) + col * g.depth / 8
      match s.gread (ringWho c.ring) 48 byte_ 1 with
      | (.error e, s) => (.error e, s)
      | (.ok v0, s) =>
        let v := v0 / 2 ^ (col * g.depth % 8) % 2 ^ g.depth
        let n := if g.depth = 1 then 15 * v else v
        match acc with
        | some p =>
          let colour := (argbPix (leAt c.l 40 4)).scale n 15
          let q := if n = 0 then p else if leAt c.l 44 1 = 0 then colour else colour.blend p 3
          State.glyphPix c g dst dx dy x y t (some q) s
        | none =>
          match s.paintPix c dst dx dy n 15 with
          | (.error e, s) => (.error e, s)
          | (.ok p, s) => State.glyphPix c g dst dx dy x y t p s
    else State.glyphPix c g dst dx dy x y t acc s

/-- The pixel an operation writes at (x, y) of its destination rectangle; none where it leaves the pixel. The filter taps and rounding of
SCALE, the flattening of curves and the outline of strokes are not fixed by the manual: those values are free. -/
def State.drawPix (s : State) (c : GCtx) (x y : Nat) : Except GFault (Option Pix) × State :=
  let l := c.l
  let dst := surfAt l 0
  let dr := rectAt l 32
  let src := surfAt l 48
  let sr := rectAt l 80
  let wrap (o : Except GFault Pix × State) : Except GFault (Option Pix) × State :=
    match o with
    | (.ok p, s) => (.ok (some p), s)
    | (.error e, s) => (.error e, s)
  match c.op with
  | 0x1400 => (.ok (some (argbPix (leAt l 40 4))), s)
  | 0x1401 => (.ok (some (gradientPix l x y)), s)
  | 0x1402 =>
    let p := copySource (leAt l 40 1) sr x y
    wrap (s.readPix c.ring src p.1 p.2)
  | 0x1403 =>
    match s.readPix c.ring src (sr.x + x) (sr.y + y) with
    | (.error e, s) => (.error e, s)
    | (.ok a, s) =>
      let br := if leAt l 88 8 = 0 then dr else rectAt l 120
      match s.readPix c.ring (if leAt l 88 8 = 0 then dst else surfAt l 88) (br.x + x) (br.y + y) with
      | (.error e, s) => (.error e, s)
      | (.ok b, s) => (.ok (some ((a.scale (leAt l 41 1) 255).blend b (leAt l 40 1))), s)
  | 0x1404 =>
    match s.readPix c.ring src (sr.x + x * sr.w / dr.w) (sr.y + y * sr.h / dr.h) with
    | (.error e, s) => (.error e, s)
    | (.ok _, s) =>
      let v := s.freeBelow (2 ^ 40)
      (.ok (some ⟨bits v 9 0, bits v 19 10, bits v 29 20, bits v 39 30⟩), s.fresh)
  | 0x1405 => wrap (s.readPix c.ring src (sr.x + x) (sr.y + y))
  | 0x1406 =>
    if pathOpen c.cmds then s.fresh.paintPix c dst (dr.x + x) (dr.y + y) (s.freeBelow 17) 16
    else s.paintPix c dst (dr.x + x) (dr.y + y) (coverage c.loops (leAt l 45 1 == 1) x y) 16
  | 0x1407 => s.fresh.paintPix c dst (dr.x + x) (dr.y + y) (s.freeBelow 17) 16
  | _ =>
    match c.run with
    | none => (.ok none, s)
    | some g => State.glyphPix c g dst (dr.x + x) (dr.y + y) x y g.boxes none s

/-! Rows and strips (R360, R365). -/

/-- Draws the pixels of a row: the bytes of each pixel written, with its address. -/
def State.drawCells (c : GCtx) : List (Nat × Nat) → List (Nat × List Byte) → State → Except GFault (List (Nat × List Byte)) × State
  | [], acc, s => (.ok acc, s)
  | p :: t, acc, s =>
    match s.drawPix c p.1 p.2 with
    | (.error e, s) => (.error e, s)
    | (.ok none, s) => State.drawCells c t acc s
    | (.ok (some px), s) =>
      let dst := surfAt c.l 0
      let dr := rectAt c.l 32
      let a := dst.addr + (dr.y + p.2) * dst.pitch + (dr.x + p.1) * planeBytes dst.format
      State.drawCells c t (acc ++ [(a, px.store dst.format (bit dst.opts 0))]) s

/-- Writes pixels one after another; the count of those written, and the fault that stopped it. -/
def State.putCellsG (w : Who) : List (Nat × List Byte) → Nat → State → Option GFault × Nat × State
  | [], n, s => (none, n, s)
  | e :: t, n, s =>
    match s.unitWrite w e.1 e.2 with
    | (none, s) => State.putCellsG w t (n + 1) s
    | (some r, s) => (some (0, r), n, s)

/-- The cells of some rows. -/
def rowCells (w : Nat) (rows : List Nat) : List (Nat × Nat) := rows.flatMap (fun y => (List.range w).map (fun x => (x, y)))

/-- Draws groups of rows; all operands of a group are read before it is written (R365). -/
def State.drawGroups (c : GCtx) (w : Nat) : List (List Nat) → Nat → State → Option GFault × Nat × State
  | [], n, s => (none, n, s)
  | g :: t, n, s =>
    match State.drawCells c (rowCells w g) [] s with
    | (.error e, s) => (some e, n, s)
    | (.ok cells, s) =>
      match State.putCellsG (ringWho c.ring) cells n s with
      | (some e, n, s) => (some e, n, s)
      | (none, n, s) => State.drawGroups c w t n s

/-- The strips of an in-place operation, in the order they run (R365). -/
def stripRows (opcode : Nat) (l : List Byte) : List (List Nat) :=
  let dr := rectAt l 32
  let per := max 1 (65536 / max 1 dr.w)
  let strips := (List.range ((dr.h + per - 1) / per)).map (fun i => (List.range (min per (dr.h - i * per))).map (fun j => i * per + j))
  let d := (surfAt l 0).span dr
  let above (o r : Nat) : Bool := decide (((surfAt l o).span (rectAt l r)).1 < d.1)
  let up := match opcode with
    | 0x1402 => above 48 80
    | 0x1405 => above 48 80
    | 0x1403 => above 48 80 || (leAt l 88 8 != 0 && above 88 120)
    | _ => false
  if up then strips.reverse else strips

/-! Lengths (R358, R367). -/

/-- Destination pixels per cycle (R350). -/
def graverRate (opcode : Nat) (l : List Byte) : Nat :=
  match opcode with
  | 0x1400 => 8
  | 0x1401 => 8
  | 0x1402 => if leAt l 40 1 % 2 = 1 then 2 else 8
  | 0x1404 => if leAt l 40 1 = 1 then 2 else 4
  | 0x1406 => 2
  | 0x1407 => 2
  | _ => 4

/-- N of an operation, or of one strip (R358). -/
def State.graverN (s : State) (p : Started) (strip : Option (List Nat)) : Nat :=
  let l := p.pkt.params
  let dr := rectAt l 32
  match strip with
  | some rows => dr.w * rows.length
  | none =>
    if p.pkt.opcode = 0x1408 then
      match s.glyphRun (ringWho p.ring) l with
      | (.ok (.ok g), _) => g.pixels dr
      | _ => 0
    else dr.w * dr.h

/-- Whether an operation's T exceeds a length in ns: T = 250 ns + N ÷ rate cycles of 3125/3744 ns (R358). -/
def graverOver (n rate ns : Nat) : Bool := decide (ns * 3744 * rate < 250 * 3744 * rate + n * 3125)

/-! The operations (R350, R359-R367). -/

/-- Prepares a path or glyph operation: its commands or its run; an error is a status with RESULT0 and RESULT1. -/
def State.graverCtx (s : State) (p : Started) : Except (Nat × Nat × Nat) GCtx × State :=
  let l := p.pkt.params
  let base : GCtx := ⟨p.pkt.opcode, p.ring, l, [], [], none⟩
  let w := ringWho p.ring
  if p.pkt.opcode = 0x1406 ∨ p.pkt.opcode = 0x1407 then
    match s.unitRead w (leAt l 48 8) (leAt l 56 4) with
    | (.error r, s) => (.error (if faultStatus r = St.frozen then (St.frozen, 0, 0) else (St.range, 48, r)), s)
    | (.ok b, s) =>
      let c := pathCmds b
      match pathFault c with
      | some i => (.error (St.range, 8 * i, 0), s)
      | none => (.ok { base with cmds := c, loops := pathLoops c }, s)
  else if p.pkt.opcode = 0x1408 then
    match s.glyphRun w l with
    | (.error (o, r), s) => (.error (if faultStatus r = St.frozen then (St.frozen, 0, 0) else (St.range, o, r)), s)
    | (.ok (.error o), s) => (.error (St.range, o, 0), s)
    | (.ok (.ok g), s) =>
      if inPlace 0x1408 l && decide (1048576 < g.pixels (rectAt l 32)) then (.error (St.range, 32, 0), s)
      else (.ok { base with run := some g }, s)
  else (.ok base, s)

/-- Whether an operation draws nothing: an empty rectangle, an empty path or run (R349, R352). -/
def graverEmpty (opcode : Nat) (l : List Byte) : Bool :=
  let dr := rectAt l 32
  dr.w == 0 || dr.h == 0 || ((opcode == 0x1406 || opcode == 0x1407) && leAt l 56 4 == 0) || (opcode == 0x1408 && leAt l 46 2 == 0)

/-- `GRV_ENG_STAT` of an engine that runs a strip (R373). -/
def engineWord (p : Started) : Nat :=
  let origin := match p.ring with | .client _ => 0 | .med => 1 | .s => 4
  0xE0000000 + origin * 2 ^ 26 + p.pkt.opcode % 16 * 2 ^ 22 + ringClient p.ring

/-- Counts pixels an engine wrote (R373). -/
def State.countPixels (s : State) (u n : Nat) : State := s.setRg (Reg.GRV_PIXELS u) (s.rg (Reg.GRV_PIXELS u) + BitVec.ofNat 32 n)

/-- RESULT0 so far of an in-place operation is kept as the pixels of its finished strips. -/
def State.graverFault (s : State) (k : Nat) (e : GFault) : State :=
  if faultStatus e.2 = St.frozen then s.endOpFree k St.frozen else s.endOpFree k St.range e.1 e.2

/-- Runs a drawing operation on the engine it holds: the whole operation, or the next strip of an in-place one (R362, R365, R366). The
progress counter holds twice the strips that have ended, and one more while a strip has run; above it, the pixels written. -/
def State.graverRun (s : State) (k opcode : Nat) : State :=
  match s.opAt k opcode with
  | none => s
  | some p =>
    match s.holdsIn (.packet k) 0 with
    | none => s
    | some u =>
      let l := p.pkt.params
      let dr := rectAt l 32
      if graverEmpty opcode l then s.endOpFree k St.ok 0 1 u (if inPlace opcode l then 0 else p.restarts)
      else if p.progress % 2 = 1 then s
      else match s.graverCtx p with
        | (.error (st, r0, r1), s) => s.endOpFree k st r0 r1
        | (.ok c, s) =>
          if inPlace opcode l then
            match (stripRows opcode l)[p.progress / 2 % 2 ^ 16]? with
            | none => s
            | some rows =>
              match State.drawGroups c dr.w [rows] 0 s with
              | (some e, n, s) => (s.countPixels u n).graverFault k e
              | (none, n, s) =>
                let s := (s.countPixels u n).setRg (Reg.GRV_ENG_STAT u) (BitVec.ofNat 32 (engineWord p))
                s.setProgress k (p.progress + 1 + n * 2 ^ 17)
          else
            match State.drawGroups c dr.w ((List.range dr.h).map (fun y => [y])) 0 s with
            | (some e, n, s) => (s.countPixels u n).graverFault k e
            | (none, n, s) => (s.countPixels u n).endOpFree k St.ok n 1 u p.restarts

/-- GRAVER_STRIP_END: the engine is released, and the next strip requests one again, or the operation ends (R359, R366). -/
def execGraverStripEnd (k : Nat) (s : State) : Host.Outcome State Fault Refusal :=
  match s.place k with
  | none => .next s
  | some p =>
    match s.holdsIn (.packet k) 0 with
    | none => .next s
    | some u =>
      if p.result.isSome ∨ p.progress % 2 = 0 ∨ p.pkt.opcode / 1024 ≠ 5 then .next s
      else
        let strips := stripRows p.pkt.opcode p.pkt.params
        let s := s.setRg (Reg.GRV_ENG_STAT u) 0
        let done := p.progress / 2 % 2 ^ 16 + 1
        if strips.length ≤ done then .next (s.endOpFree k St.ok (p.progress / 2 ^ 17) strips.length u 0)
        else
          let rank := s.rankOf (.packet k)
          let s := (s.withdraw (.packet k)).setProgress k (p.progress + 1)
          let s := { s with arb := { s.arb with seq := s.arb.seq + 1 } }
          .next ((s.enqueue 0 { holder := .packet k, rank := rank, locked := true, takes := 0, taken := false, seq := s.arb.seq }).decidePool 0)

/-- FILL (R351-R353). -/
def execFill (k : Nat) (s : State) : Host.Outcome State Fault Refusal := .next (s.graverRun k 0x1400)

/-- GRADIENT (R353). -/
def execGradient (k : Nat) (s : State) : Host.Outcome State Fault Refusal := .next (s.graverRun k 0x1401)

/-- COPY (R352). -/
def execCopy (k : Nat) (s : State) : Host.Outcome State Fault Refusal := .next (s.graverRun k 0x1402)

/-- BLEND (R354). -/
def execBlend (k : Nat) (s : State) : Host.Outcome State Fault Refusal := .next (s.graverRun k 0x1403)

/-- SCALE (R352). -/
def execScale (k : Nat) (s : State) : Host.Outcome State Fault Refusal := .next (s.graverRun k 0x1404)

/-- CONVERT (R352, R353). -/
def execConvert (k : Nat) (s : State) : Host.Outcome State Fault Refusal := .next (s.graverRun k 0x1405)

/-- PATH_FILL (R355, R356). -/
def execPathFill (k : Nat) (s : State) : Host.Outcome State Fault Refusal := .next (s.graverRun k 0x1406)

/-- PATH_STROKE (R355, R356). -/
def execPathStroke (k : Nat) (s : State) : Host.Outcome State Fault Refusal := .next (s.graverRun k 0x1407)

/-- GLYPHS (R357). -/
def execGrvGlyphs (k : Nat) (s : State) : Host.Outcome State Fault Refusal := .next (s.graverRun k 0x1408)

/-! Palettes and contexts (R369-R372). -/

/-- Replaces a submitter's palette. -/
def State.setGrvPalette (s : State) (r : RingId) (l : List Byte) : State :=
  { s with grv := { s.grv with palettes := SMap.set (fun _ => []) s.grv.palettes (ringKey r) (if l.all (fun b => b == 0) then [] else l) } }

/-- A submitter's palette as 1,024 bytes. -/
def State.grvPalette (s : State) (r : RingId) : List Byte :=
  let l := SMap.get (fun _ => []) s.grv.palettes (ringKey r)
  if l.isEmpty then List.replicate 1024 0 else l

/-- Whether an in-place operation of the ring lies between strips (R371). -/
def State.betweenStrips (s : State) (r : RingId) : Bool :=
  s.busyPlaces.any (fun e => e.2.ring == r && e.2.pkt.opcode / 1024 == 5 && e.2.result.isNone && decide (0 < e.2.progress) && e.2.progress % 2 == 0)

/-- PALETTE_LOAD (R371). -/
def execGrvPaletteLoad (k : Nat) (s : State) : Host.Outcome State Fault Refusal :=
  match s.opAt k 0x1409 with
  | none => .next s
  | some p =>
    if (s.holdsIn (.packet k) 0).isNone then .next s
    else match s.unitRead (ringWho p.ring) (p.p64 0) 1024 with
      | (.error r, s) => .next (s.endOpFree k (faultStatus r))
      | (.ok l, s) => .next ((s.setGrvPalette p.ring l).endOpFree k St.ok)

/-- CTX_SAVE of the Graver (R371). -/
def execGrvCtxSave (k : Nat) (s : State) : Host.Outcome State Fault Refusal :=
  match s.opAt k 0x140A with
  | none => .next s
  | some p =>
    if (s.holdsIn (.packet k) 0).isNone then .next s
    else if s.betweenStrips p.ring then .next (s.endOpFree k St.busy)
    else
      let ctx := s.sealContext p.ring 5 1 (s.grvPalette p.ring ++ List.replicate 64 0)
      match s.unitWrite (ringWho p.ring) (p.p64 0) ctx with
      | (none, s) => .next (s.endOpFree k St.ok)
      | (some r, s) => .next (s.endOpFree k (faultStatus r))

/-- CTX_RESTORE of the Graver (R371; 04 R185). -/
def execGrvCtxRestore (k : Nat) (s : State) : Host.Outcome State Fault Refusal :=
  match s.opAt k 0x140B with
  | none => .next s
  | some p =>
    if (s.holdsIn (.packet k) 0).isNone then .next s
    else if s.betweenStrips p.ring then .next (s.endOpFree k St.busy)
    else match s.unitRead (ringWho p.ring) (p.p64 0) 1104 with
      | (.error r, s) => .next (s.endOpFree k (faultStatus r))
      | (.ok l, s) =>
        match s.contextFault p.ring 5 1 l with
        | some st => .next (s.endOpFree k st)
        | none => .next ((s.setGrvPalette p.ring ((l.drop 16).take 1024)).endOpFree k St.ok)

/-- GRV_CTXBASE_WRITE: the base takes the written bits, and class 0x05's epoch is counted (R370, R372, R373). -/
def execGrvCtxbaseWrite (who : Who) (hi : Bool) (v : Word) (s : State) : Host.Outcome State Fault Refusal :=
  let a := if hi then Reg.GRV_CTXBASE_HI else Reg.GRV_CTXBASE_LO
  if s.gatedAt a then .next (s.refuseGated who a)
  else if !s.mayRwm who then .next s
  else
    let s := if hi then s.setRg Reg.GRV_CTXBASE_HI (v &&& 0x0000FFFF) else s.setRg Reg.GRV_CTXBASE_LO (v &&& 0xFF800000)
    .next (s.bumpEpoch 5)

end Sys2Proof.Machine
end

