-- ==== Sys2Proof/Machine/Arbiter.lean ====
section
/-! DEFINITION. The Engine Arbiter's commands (12): requests, take-aways, releases, lock overruns, and its registers. -/

namespace Sys2Proof.Machine

/-- The pool that an operation needs (12 R500): Graver operations (08 R345) and Hallmark runs by their opcode; the flash port and the sideband
master for the operations that use them. -/
def poolFits (opcode pool : Nat) : Bool :=
  match pool with
  | 0 => decide (0x1400 ≤ opcode) && decide (opcode ≤ 0x140B)
  | 1 => opcode == 0x2800
  | _ => decide (0x2C00 ≤ opcode)

/-- The sum of the input lengths of a HALL_RUN (14 R573). -/
def hallTotal (l : List Byte) : Nat := (List.range (leAt l 3 1)).foldl (fun n i => n + leAt l (56 + 16 * i) 4) 0

/-- Whether a HALL_RUN of `n` input bytes takes longer than a span in ns (14 R579): T = 250 ns + n ÷ 19.16928 bytes per ns. -/
def hallOver (n ns : Nat) : Bool := decide (ns * 1916928 < 250 * 1916928 + n * 100000)

/-- The lock a request asks for: whether it is locked, and whether its declared length is longer than LOCK_MAX (12 R510; 08 R365, R367; 14
R579). A task's, and a packet's for the flash port or the sideband master, is `lockNs`. -/
def State.lockAsked (s : State) (q : Requester) (pool : Nat) (lockNs : Option Nat) : Bool × Bool :=
  let other : Bool × Bool := match lockNs with
    | some ns => (true, decide (s.lockMaxNs pool < ns))
    | none => (false, false)
  match q with
  | .task _ _ => other
  | .packet k =>
    match s.place k with
    | none => other
    | some p =>
      let flagged := bit p.pkt.flags 3
      match pool with
      | 0 =>
        if inPlace p.pkt.opcode p.pkt.params then (true, false)
        else (flagged, flagged && graverOver (s.graverN p none) (graverRate p.pkt.opcode p.pkt.params) (s.lockMaxNs 0))
      | 1 => (flagged, flagged && hallOver (hallTotal p.pkt.params) (s.lockMaxNs 1))
      | _ => other

/-- Refuses a request: a packet's operation ends with the status, and holds what it held (12 R510, R512). -/
def State.refuseRequest (s : State) (q : Requester) (status : Nat) : State :=
  match q with
  | .packet k => s.endOp k status
  | .task _ _ => s

/-- Whether a requester may ask for a pool now: a task, or a packet in execution that needs the pool; in the safe state only of rank S. -/
def State.mayRequest (s : State) (q : Requester) (pool : Nat) : Bool :=
  (!s.safe || s.rankOf q == 0) &&
    match q with
    | .task r _ => decide (r < 2)
    | .packet k =>
      match s.place k with
      | some p => p.result.isNone && poolFits p.pkt.opcode pool
      | none => false

/-- ARBITER_REQUEST (R501-R505, R510, R512). -/
def execArbiterRequest (q : Requester) (pool : Nat) (lockNs : Option Nat) (s : State) : Host.Outcome State Fault Refusal :=
  let waiting := (s.queue pool ++ s.outside pool).any (fun x => x.holder == q)
  if !s.mayRequest q pool ∨ waiting then .next s
  else
    let held := s.heldBy q
    let a := s.lockAsked q pool lockNs
    if (held.map (fun h => h.2.locked)).getD false then .next (s.refuseRequest q St.lockNest)
    else if a.2 then .next (s.refuseRequest q St.lockTooLong)
    else
      let s := match held with
        | some (u, _) => (s.setGrant u none).countTake (poolOf u) q
        | none => s
      let takes := match q with
        | .packet k => ((s.place k).map (·.restarts)).getD 0
        | .task _ _ => 0
      let x : Request := { holder := q, rank := s.rankOf q, locked := a.1, takes := takes, taken := false, seq := s.arb.seq }
      let s := ({ s with arb := { s.arb with seq := s.arb.seq + 1 } }).enqueue pool x
      let s := s.decidePool pool
      .next (match held with
        | some (u, _) => s.decidePool (poolOf u)
        | none => s)

/-- TAKE_AWAY_STOP: the unit stops its holder's operation, which re-enters the queue, and the head is granted (R504, R506, R507). -/
def execTakeAwayStop (u : Nat) (s : State) : Host.Outcome State Fault Refusal :=
  match s.grant u with
  | none => .next s
  | some g =>
    if !g.stopping then .next s
    else
      let pool := poolOf u
      let s := (s.setGrant u none).countTake pool g.holder
      -- the request that took the unit away is granted before the stopped one re-enters
      let s := s.decideOnce pool
      let x : Request := { holder := g.holder, rank := g.rank, locked := false, takes := g.takes + 1, taken := true, seq := s.arb.seq }
      let s := ({ s with arb := { s.arb with seq := s.arb.seq + 1 } }).enqueue pool x
      .next (s.decidePool pool)

/-- ARBITER_RELEASE: a holder whose work has ended, or a firmware task, gives its unit back (R505, R509). -/
def execArbiterRelease (u : Nat) (s : State) : Host.Outcome State Fault Refusal :=
  match s.grant u with
  | none => .next s
  | some g =>
    let done := match g.holder with
      | .task _ _ => true
      | .packet k =>
        match s.place k with
        | some p => p.result.isSome
        | none => true
    if done then .next (s.releaseUnit u) else .next s

/-- LOCK_OVERRUN: a locked sequence passes its pool's LOCK_MAX; it is counted and never broken (R513, R517). -/
def execLockOverrun (u : Nat) (s : State) : Host.Outcome State Fault Refusal :=
  match s.grant u with
  | none => .next s
  | some g =>
    let pool := poolOf u
    if !g.locked ∨ g.overran ∨ !s.passed g.since (s.lockMaxNs pool) then .next s
    else
      let s := s.setGrant u (some { g with overran := true })
      let s := (s.satInc F.ARB_OVERRUN_COUNT pool).setFld F.ARB_OVERRUN_VALID 1 pool
      .next (s.raise (304 + pool))

/-! Registers (R516). -/

/-- WORLD, ORIGIN and CLIENT of a requester: bit 14, bits 13:12 (0 client, 1 mediator, 2 firmware) and bits 11:0 (01 R12). -/
def State.holderWord (s : State) (q : Requester) : Nat :=
  match q with
  | .task 0 _ => 2 ^ 14 + 2 * 2 ^ 12
  | .task _ _ => 2 * 2 ^ 12
  | .packet k =>
    match s.place k with
    | none => 0
    | some p =>
      match p.ring with
      | .s => 2 ^ 14
      | .med => 2 ^ 12
      | .client c => c

/-- What `ARB_UNIT` reads as. -/
def State.arbUnitWord (s : State) (u : Nat) : Nat :=
  match s.grant u with
  | none => 0
  | some g =>
    let w := s.holderWord g.holder
    2 ^ 31 + (if g.locked then 2 ^ 30 else 0) + (if g.shielded then 2 ^ 29 else 0) + w / 2 ^ 14 * 2 ^ 28 + w / 2 ^ 12 % 4 * 2 ^ 26
      + g.rank * 2 ^ 24 + w % 2 ^ 12

/-- What `ARB_POOL_STAT` reads as. -/
def State.arbPoolWord (s : State) (k : Nat) : Nat :=
  let us := unitsOf k
  let mask (p : Grant → Bool) : Nat :=
    (us.zip (List.range us.length)).foldl (fun a e => if ((s.grant e.1).map p).getD false then a + 2 ^ e.2 else a) 0
  mask (fun _ => true) * 2 ^ 24 + mask (·.locked) * 2 ^ 16 + (s.queue k).length * 2 ^ 10 + min (s.outside k).length 1023

end Sys2Proof.Machine
end

