-- ==== Sys2Proof/Machine/Audio.lean ====
section
/-! DEFINITION. The audio router (11): ports, routes, buses, banks, generators, streams and the alarm pair. -/

namespace Sys2Proof.Machine

/-- The client that holds a playback stream (type 4) or a capture stream (type 5) (04 R172). -/
def State.streamHolder (s : State) (type inst : Nat) : Option Nat := SMap.get (fun _ => none) s.cl.holders (64 * type + inst)

/-! Ports (R452-R455). -/

/-- Whether a multiplexer carries anything but silence. -/
def Mux.live (m : Mux) : Bool := m.act.src != 0 || m.cur.src != 0

/-- Whether port `p` is routed: a slot of it selected, or a transmit slot with a source (R455), bus 15 on an alarm port included (R492). -/
def State.portRouted (s : State) (p : Nat) : Bool :=
  let slot (c : Nat) : Bool := decide (1 + 16 * p ≤ c) && decide (c < 17 + 16 * p)
  (s.flag F.AUD_ALARM_ENABLE && (p == 6 || p == 7)) || s.aud.muxes.any (fun e => slot e.2.act.src || slot e.2.cur.src
    || (decide (0x100 + 16 * p ≤ e.1) && decide (e.1 < 0x110 + 16 * p) && e.2.live))

/-- PORT_SET (R452-R455, R492). -/
def execPortSet (k : Nat) (s : State) : Host.Outcome State Fault Refusal :=
  match s.opAt k 0x2000 with
  | none => .next s
  | some q =>
    let p := q.p8 0
    if q.ring = .med ∧ s.flag F.AUD_ALARM_ENABLE ∧ (p = 6 ∨ p = 7) then .next (s.endOp k St.noPermission)
    else if p < 8 ∧ bits (q.p8 1) 5 4 ≠ s.fld F.AUD_PORT_STAT_DOMAIN p ∧ s.portRouted p then .next (s.endOp k St.busy)
    else .next (((s.applyPort p (q.pkt.params.take 8)).audSync).endOp k St.ok)

/-- PORT_EVENT to the mediator, and to the S ring for ports 6 and 7 (R497, R498). -/
def State.portEvent (s : State) (p what rate : Nat) : State :=
  let s := s.event .med 0x2005 noInst p what rate
  let s := if p = 6 ∨ p = 7 then s.event .s 0x2005 noInst p what rate else s
  s.raise (256 + p)

/-- PORT_CLOCK_LOST: a slave's clock stops (rate 0) or leaves its range (R454). -/
def execPortClockLost (p rate : Nat) (s : State) : Host.Outcome State Fault Refusal :=
  if s.flag F.AUD_PORT_STAT_CLOCKED p ∧ s.flag F.AUD_PORT_STAT_ENABLED p ∧ !bit (leAt (s.port p) 1 1) 1 then
    let s := (s.setFld F.AUD_PORT_STAT_CLOCKED 0 p).setFld F.AUD_PORT_STAT_RATE_HZ rate p
    .next ((s.portEvent p (if rate ≠ 0 ∧ s.fld F.AUD_PORT_STAT_DOMAIN p = 2 then 3 else 1) rate).audSync)
  else .next s

/-- Whether a measured frame rate is right for a port's domain (R454). -/
def State.rateFits (s : State) (p rate : Nat) : Bool :=
  match s.fld F.AUD_PORT_STAT_DOMAIN p with
  | 0 => rate == 48000
  | 1 => rate == 16000
  | _ => decide (8000 ≤ rate) && decide (rate ≤ 96000)

/-- PORT_CLOCK_BACK: a slave's clock is there and within range (R454). -/
def execPortClockBack (p rate : Nat) (s : State) : Host.Outcome State Fault Refusal :=
  if !s.flag F.AUD_PORT_STAT_CLOCKED p ∧ s.flag F.AUD_PORT_STAT_ENABLED p ∧ s.rateFits p rate then
    let s := (s.setFld F.AUD_PORT_STAT_CLOCKED 1 p).setFld F.AUD_PORT_STAT_RATE_HZ rate p
    .next ((s.portEvent p 2 rate).audSync)
  else .next s

/-! Routes and banks (R459-R461, R473-R476). -/

/-- The bank of a multiplexer (R461, R473): 2 S, 1 V, 0 A. -/
def State.muxBank (s : State) (d : Nat) : Nat :=
  if 0xF0 ≤ d ∧ d < 0x100 then 2
  else if 0x160 ≤ d ∧ d < 0x180 ∧ s.flag F.AUD_ALARM_ENABLE then 2
  else if s.muxV d then 1 else 0

/-- Whether an entry needs the S ring (R461). -/
def State.routeDenied (s : State) (ring : RingId) (d c : Nat) : Bool :=
  ring != .s && ((decide (0xF0 ≤ c) && decide (c < 0xF5)) || s.muxBank d == 2)

/-- Whether a source may be selected by a multiplexer (R458-R461). -/
def State.routeFits (s : State) (d c : Nat) : Bool :=
  let isBus := decide (0xE1 ≤ c) && decide (c < 0xF1)
  let isS := decide (0xF1 ≤ c)
  decide (d < 0x1F8) && decide (c < 0xF5) && !(decide (d < 0x100) && isBus) && !(isS && !(decide (0xF0 ≤ d) && decide (d < 0x100)))
    && (match s.srcV c with
        | none => true
        | some v => v == s.muxV d)

/-- The buses that the output of bus `k`, or of bridge `k - 16`, reaches through bridges, under a choice of the route of every multiplexer
(R460). -/
def reachBuses (route : Nat → Nat) (dests : List Nat) : Nat → Nat → List Nat
  | 0, _ => []
  | f + 1, k =>
    let src := if k < 16 then 0xE1 + k else 0xD1 + (k - 16)
    dests.flatMap (fun d =>
      if route d ≠ src then []
      else if d < 0x100 then (d / 16) :: reachBuses route dests f (d / 16)
      else if 0x1E8 ≤ d ∧ d < 0x1F8 then reachBuses route dests f (16 + (d - 0x1E8))
      else [])

/-- Whether some bus's output reaches the bus itself (R460). -/
def State.hasLoop (s : State) (route : Nat → Nat) : Bool :=
  let dests := (s.aud.muxes.map (·.1)).filter (fun d => decide (d < 0x100) || (decide (0x1E8 ≤ d) && decide (d < 0x1F8)))
  (List.range 16).any (fun k => (reachBuses route dests 33 k).contains k)

/-- An entry of ROUTE_SET: destination, source and gain (R476). -/
def routeEntry (q : Started) (i : Nat) : Nat × Route := (q.p16 (8 + 8 * i), ⟨q.p16 (10 + 8 * i), q.p8 (12 + 8 * i)⟩)

/-- Applies the entries of a ROUTE_SET to the shadow in order; the result says which entry is at fault (R459, R460, R476). -/
def State.routeAll (s : State) (q : Started) (bank : Nat) : State × Option Nat :=
  (List.range (q.p8 2)).foldl (fun (a : State × Option Nat) i =>
    match a.2 with
    | some _ => a
    | none =>
      let s := a.1
      let e := routeEntry q i
      if s.muxBank e.1 ≠ bank ∨ !s.routeFits e.1 e.2.src then (s, some (8 + 8 * i))
      else
        let s := s.setMux e.1 { s.mux e.1 with shd := e.2 }
        if s.hasLoop (fun d => (s.mux d).shd.src) then (s, some (8 + 8 * i)) else (s, none)) (s, none)

/-- Whether swapping banks would join a loop with an active bank (R460). -/
def State.swapLoops (s : State) (banks : Nat) : Bool :=
  s.hasLoop (fun d => if bit banks (s.muxBank d) then (s.mux d).shd.src else (s.mux d).act.src)

/-- Arms a swap of banks, which completes the operation in place `k` (R474). -/
def State.armBanks (s : State) (k banks : Nat) (ring : RingId) : State :=
  s.setAud { s.aud with swaps := s.aud.swaps ++ [⟨banks, ring, k⟩] }

/-- ROUTE_SET (R459-R461, R476); with APPLY it goes on as the SAFELOAD of its bank. -/
def execRouteSet (k : Nat) (s : State) : Host.Outcome State Fault Refusal :=
  match s.opAt k 0x2001 with
  | none => .next s
  | some q =>
    let bank := q.p8 0
    let denied := (List.range (q.p8 2)).any (fun i => let e := routeEntry q i; s.routeDenied q.ring e.1 e.2.src)
    if q.ring ≠ .s ∧ (bank = 2 ∨ denied) then .next (s.endOp k St.noPermission)
    else match s.routeAll q bank with
      | (_, some o) => .next (s.endOp k St.range o)
      | (t, none) =>
        if q.p8 1 = 0 then .next (t.endOp k St.ok)
        else if t.swapLoops (2 ^ bank) then .next (s.endOp k St.range)
        else .next (t.armBanks k (2 ^ bank) q.ring)

/-- The bank of a bus (R473). -/
def State.busBank (s : State) (k : Nat) : Nat := if k = 15 then 2 else if (s.bus k).domV then 1 else 0

/-- Whether a bus is in use: an input with a source, or a multiplexer that selects its output (R472). -/
def State.busRouted (s : State) (k : Nat) : Bool :=
  s.aud.muxes.any (fun e => (decide (e.1 / 16 = k) && e.2.live) || e.2.act.src == 0xE1 + k || e.2.cur.src == 0xE1 + k)

/-- BUS_SET (R471, R472); with APPLY it goes on as the SAFELOAD of the bus's bank. -/
def execBusSet (k : Nat) (s : State) : Host.Outcome State Fault Refusal :=
  match s.opAt k 0x2002 with
  | none => .next s
  | some q =>
    let n := q.p8 0
    let v := bit (q.p8 1) 1
    let b := s.bus n
    if n = 15 ∧ q.ring ≠ .s then .next (s.endOp k St.noPermission)
    else if n = 15 ∧ v then .next (s.endOp k St.range 1)
    else if v != b.domV ∧ s.busRouted n then .next (s.endOp k St.busy)
    else
      let t := s.setBus n { b with domV := v, shd := q.pkt.params.take 48 }
      if !bit (q.p8 1) 0 then .next (t.endOp k St.ok)
      else if t.swapLoops (2 ^ t.busBank n) then .next (s.endOp k St.range)
      else .next (t.armBanks k (2 ^ t.busBank n) q.ring)

/-- SAFELOAD (R460, R474). -/
def execSafeload (k : Nat) (s : State) : Host.Outcome State Fault Refusal :=
  match s.opAt k 0x2003 with
  | none => .next s
  | some q =>
    if bit (q.p8 0) 2 ∧ q.ring ≠ .s then .next (s.endOp k St.noPermission)
    else if q.p8 0 = 0 then .next (s.endOp k St.ok)
    else if s.swapLoops (q.p8 0) then .next (s.endOp k St.range)
    else .next (s.armBanks k (q.p8 0) q.ring)

/-- Copies a bus's shadow into its active copy; a new master gain ramps (R466, R471, R475). -/
def State.swapBus (s : State) (k : Nat) : State :=
  let b := s.bus k
  let old := centi (busGain b.act)
  s.setBus k { b with act := b.shd, mramp := if busGain b.act = busGain b.shd then b.mramp
                                             else s.rampTo (gainNow b.mramp old s.cyc) (centi (busGain b.shd)) (k == 15) b.domV }

/-- The named banks swap (R474, R475): each shadow becomes active, and changed gains and routes start on this sample. -/
def State.swapBanks (s : State) (banks : Nat) : State :=
  let ds := (s.aud.muxes.map (·.1)).filter (fun d => bit banks (s.muxBank d))
  let s := ds.foldl (fun (s : State) d => let m := s.mux d; s.setMux d { m with act := m.shd }) s
  let ks := (s.aud.buses.map (·.1)).filter (fun k => bit banks (s.busBank k))
  let s := ks.foldl (fun (s : State) k => s.swapBus k) s
  ds.foldl (fun (s : State) d => s.applyMux d) s

/-- SAFELOAD_SWAP: a sample boundary of domain A, which with `v` is one of domain V too (R451, R474): every armed swap that is due takes
place, its packet completes, and SAFELOAD_DONE is written. -/
def execSafeloadSwap (v : Bool) (s : State) : Host.Outcome State Fault Refusal :=
  let due := s.aud.swaps.filter (fun w => v || !bit w.banks 1)
  let s := s.setAud { s.aud with swaps := s.aud.swaps.filter (fun w => !(v || !bit w.banks 1)) }
  let s := s.swapBanks (due.foldl (fun b w => b ||| w.banks) 0)
  let s := due.foldl (fun (s : State) w =>
    ((s.endOp w.place St.ok).event w.ring 0x2001 noInst w.banks (s.aSamples % 2 ^ 32)).raise 266) s
  .next (if due.isEmpty then s else s.audSync)

/-- ROUTER_STATE (R465, R468). -/
def execRouterState (k : Nat) (s : State) : Host.Outcome State Fault Refusal :=
  match s.opAt k 0x2004 with
  | none => .next s
  | some q =>
    let old := s.fld F.AUD_CTRL_STATE
    let want := q.p8 0
    let allowed := if want = 1 then decide (old = 0 ∨ old = 2) || (old == 3 && q.ring == .s)
                   else if want = 2 then old == 1 else q.ring == .s
    if allowed then .next (((s.setRouter want).audSync).endOp k St.ok) else .next (s.endOp k St.noPermission)

/-- GAIN_RAMP_END: a ramp reaches its target (R466, R484, R494). Ramp `i` is that of multiplexer `i` below 512, of the master gain of bus
`i - 512` and the scale of bus `i - 528`, of playback stream `i - 544`, and 700 that of ducking. -/
def execGainRampEnd (i : Nat) (s : State) : Host.Outcome State Fault Refusal :=
  if i < 512 then .next (s.setMux i { s.mux i with ramp := none })
  else if i < 528 then .next (s.setBus (i - 512) { s.bus (i - 512) with mramp := none })
  else if i < 544 then .next (s.setBus (i - 528) { s.bus (i - 528) with sramp := none })
  else if i < 612 then
    match s.stream (i - 544) with
    | none => .next s
    | some x =>
      if x.ramp.isNone then .next s
      else if x.stopping then .next ((s.haltStream (i - 544)).audSync)
      else .next (s.setStream (i - 544) (some { x with ramp := none }))
  else if i = 700 then .next (s.setAud { s.aud with dramp := none })
  else .next s

/-- CROSSFADE_END: the old path is detached, and a held change starts as a new crossfade (R467). -/
def execCrossfadeEnd (d : Nat) (s : State) : Host.Outcome State Fault Refusal :=
  let m := s.mux d
  if m.fade.isNone then .next s
  else .next (((s.setMux d { m with fade := none, ramp := none }).applyMux d).audSync)

/-! Generators (R477-R480). -/

/-- GEN_SET (R477): a moved or detached pair is silenced. -/
def execGenSet (k : Nat) (s : State) : Host.Outcome State Fault Refusal :=
  match s.opAt k 0x2005 with
  | none => .next s
  | some q =>
    let u := q.p8 0
    let b := if q.p8 1 = 0xFF then none else some (q.p8 1)
    let taken := (List.range 7).any (fun w => w != u && b.isSome && (s.pair w).bus == b)
    if taken then .next (s.endOp k St.busy)
    else
      let s := if (s.pair u).bus = b then s else
        let t := s.stopTone u
        t.setPair u { t.pair u with beep := none }
      .next (((s.setPair u { s.pair u with bus := b, gain := q.p8 2 }).audSync).endOp k St.ok)

/-- The cadence of a TONE_SET (R478). -/
def toneOf (q : Started) : Cadence :=
  ⟨(List.range (q.p8 2)).map (fun i => ⟨q.p16 (8 + 8 * i), q.p8 (10 + 8 * i), q.p16 (12 + 8 * i)⟩), q.p8 3, bit (q.p8 1) 1⟩

/-- The first step whose frequency a V bus does not carry (R478). -/
def toneTooHigh (q : Started) : Option Nat := (List.range (q.p8 2)).find? (fun i => decide (7000 < q.p16 (8 + 8 * i)))

/-- TONE_SET (R477-R479). -/
def execToneSet (k : Nat) (s : State) : Host.Outcome State Fault Refusal :=
  match s.opAt k 0x2006 with
  | none => .next s
  | some q =>
    let g := q.p8 0
    let o := q.p8 1
    if g = 15 ∧ q.ring ≠ .s then .next (s.endOp k St.noPermission)
    else if bit o 3 then
      match s.pairOf g with
      | some u => .next (((s.stopTone u).audSync).endOp k St.ok)
      | none => .next ((s.satInc F.AUD_STAT_NOGEN).endOp k St.ok)
    else if bit o 2 then .next ((s.setAud { s.aud with safeCad := toneOf q }).endOp k St.ok)
    else if !bit o 0 then .next (s.endOp k St.ok)
    else if (s.bus g).domV ∧ (toneTooHigh q).isSome then .next (s.endOp k St.range (8 + 8 * (toneTooHigh q).getD 0))
    else match s.pairOf g with
      | some u => .next (((s.startTone u (toneOf q) (some q.ring)).audSync).endOp k St.ok)
      | none => .next ((s.satInc F.AUD_STAT_NOGEN).endOp k St.ok)

/-- CADENCE_STEP_END of a generator: the next step, the next pass, or the end with TONE_DONE (R478, R479). -/
def execCadenceStepEnd (g : Nat) (s : State) : Host.Outcome State Fault Refusal :=
  match s.pairOf g with
  | none => .next s
  | some u =>
    match (s.pair u).tone with
    | none => .next s
    | some t =>
      if t.step + 1 < t.cad.steps.length then .next (s.setPair u { s.pair u with tone := some { t with step := t.step + 1, began := s.cyc } })
      else if t.cad.rep = 255 ∨ 0 < t.left then
        let left := if t.cad.rep = 255 then t.left else t.left - 1
        .next (s.setPair u { s.pair u with tone := some { t with step := 0, began := s.cyc, left := left } })
      else .next (((s.toneDone u t 0).setPair u { s.pair u with tone := none }).audSync)

/-- BEEP_PLAY (R477, R480). -/
def execBeepPlay (k : Nat) (s : State) : Host.Outcome State Fault Refusal :=
  match s.opAt k 0x2007 with
  | none => .next s
  | some q =>
    if q.p8 0 = 15 ∧ q.ring ≠ .s then .next (s.endOp k St.noPermission)
    else .next ((s.beep (q.p8 0) (q.p8 1)).endOp k St.ok)

/-- ZONE_BEEP_TRIGGER: the oldest beep that zone `z` issued reaches its generator (R477, R480; 09 R412). -/
def execZoneBeepTrigger (z : Nat) (s : State) : Host.Outcome State Fault Refusal :=
  match s.touch.beeps.find? (fun h => h.zone == z) with
  | none => .next s
  | some h =>
    let s := { s with touch := { s.touch with beeps := s.touch.beeps.erase h } }
    .next (s.beep h.target h.what)

/-! Streams (R481-R488). -/

/-- The fields of a stream's setup. -/
def AStream.size (x : AStream) : Nat := if bits (leAt x.params 1 1) 3 2 = 0 then 2 else 4
def AStream.frames (x : AStream) : Nat := 2 ^ leAt x.params 2 1
def AStream.base (x : AStream) : Nat := leAt x.params 8 8
def AStream.v (x : AStream) : Bool := bit (leAt x.params 1 1) 1

/-- Samples in a millisecond of a stream's domain. -/
def AStream.perMs (x : AStream) : Nat := if x.v then 16 else 48

/-- The address of a frame (R481). -/
def AStream.frameAddr (x : AStream) (f : Nat) : Nat := x.base + 64 + x.size * (f % x.frames)

/-- The table key of a stream that a packet names: capture streams from 128 on. -/
def streamKey (num : Nat) (capture : Bool) : Nat := if capture then 128 + num else num

/-- Whether a ring may name a stream (R482; 04 R155). -/
def State.namesStream (s : State) (r : RingId) (num : Nat) (capture : Bool) : Bool :=
  match r with
  | .client c => let type := if capture then 5 else 4; s.streamHolder type num == some c && !s.losing type num c
  | _ => true

/-- Who owns a stream that a ring sets up: its holder, or the ring (R482, R483). -/
def State.streamOwner (s : State) (r : RingId) (num : Nat) (capture : Bool) : RingId :=
  if !capture ∧ 64 ≤ num then .s
  else match s.streamHolder (if capture then 5 else 4) num with
    | some c => .client c
    | none => r

/-- A stream number beyond what a ring may name: its offset from P (R482). -/
def numTooHigh (r : RingId) (num : Nat) (capture : Bool) : Bool :=
  if capture then decide (31 < num) else decide (67 < num) || (decide (63 < num) && r != .s)

/-- Whether a ring of frames lies in Safety SRAM (R482). -/
def inSafetySram (base len : Nat) : Bool := decide (0x1000000 ≤ base) && decide (base + len ≤ 0x1200000)

/-- A stream as set up. -/
def newStream (owner : RingId) (params : List Byte) (index : Nat) : AStream :=
  ⟨owner, params, false, false, leAt params 3 1, none, index, [], 0, 0, 0, none⟩

/-- STREAM_SETUP (R481, R482). -/
def execStreamSetup (k : Nat) (s : State) : Host.Outcome State Fault Refusal :=
  match s.opAt k 0x2008 with
  | none => .next s
  | some q =>
    let num := q.p8 0
    let cap := bit (q.p8 1) 0
    let key := streamKey num cap
    let x := newStream (s.streamOwner q.ring num cap) (q.pkt.params.take 16) 0
    let sw := !cap && decide (64 ≤ num)
    if numTooHigh q.ring num cap then .next (s.endOp k St.range)
    else if !s.namesStream q.ring num cap then .next (s.endOp k St.noPermission)
    else if ((s.stream key).map (·.started)).getD false then .next (s.endOp k St.busy)
    else if q.p8 2 = 0 then .next (((s.setStream key none).audSync).endOp k St.ok)
    else if sw ∧ x.v then .next (s.endOp k St.range 1)
    else if sw ∧ !inSafetySram x.base (64 + x.size * x.frames) then .next (s.endOp k St.range 8)
    else .next (((s.setStream key (some x)).audSync).endOp k St.ok)

/-- Starts a set-up stream; a playback stream ramps from mute to its gain, or from where its stop ramp stands (R466, R484). -/
def State.startStream (s : State) (key : Nat) (x : AStream) : State :=
  let from_ := if x.stopping then gainNow x.ramp (-12000) s.cyc else -12000
  let r := if key < 128 then s.rampTo from_ (centi x.gain) (decide (64 ≤ key ∧ key < 68)) x.v else none
  ((s.setStream key (some { x with started := true, stopping := false, ramp := r })).showStreams).audSync

/-- Stops a stream: a playback stream ramps to mute and then reads no further frames (R484). -/
def State.stopStream (s : State) (key : Nat) : State :=
  match s.stream key with
  | none => s
  | some x =>
    if !x.started then s
    else if key < 128 ∧ s.inService then
      let r := s.rampTo (gainNow x.ramp (centi x.gain) s.cyc) (-12000) (decide (64 ≤ key ∧ key < 68)) x.v
      if r.isNone then (s.haltStream key).audSync else s.setStream key (some { x with stopping := true, ramp := r })
    else (s.haltStream key).audSync

/-- STREAM_CTRL (R484); a stream that is not set up has nothing to control, and the operation answers RANGE. In the safe state no N-world
stream starts (R495). -/
def execStreamCtrl (k : Nat) (s : State) : Host.Outcome State Fault Refusal :=
  match s.opAt k 0x2009 with
  | none => .next s
  | some q =>
    let num := q.p8 0
    let cap := bit (q.p8 1) 0
    let key := streamKey num cap
    if numTooHigh q.ring num cap then .next (s.endOp k St.range)
    else if !s.namesStream q.ring num cap then .next (s.endOp k St.noPermission)
    else match s.stream key with
      | none => .next (s.endOp k St.range)
      | some x =>
        match q.p8 2 with
        | 0 => .next ((s.stopStream key).endOp k St.ok)
        | 1 =>
          if s.safe ∧ !(64 ≤ key ∧ key < 68) then .next (s.endOp k St.busy)
          else if x.started ∧ !x.stopping then .next (s.endOp k St.ok)
          else .next ((s.startStream key x).endOp k St.ok)
        | _ =>
          let g := q.p8 3
          let r := if x.started ∧ !x.stopping ∧ key < 128 then
              s.rampTo (gainNow x.ramp (centi x.gain) s.cyc) (centi g) (decide (64 ≤ key ∧ key < 68)) x.v
            else x.ramp
          .next ((s.setStream key (some { x with gain := g, ramp := r })).endOp k St.ok)

/-- Reports missing or overwritten frames: FLAGS, the counts, and the event at most once per second (R485, R497, R498). -/
def State.noteMissing (s : State) (key n : Nat) : State :=
  match s.stream key with
  | none => s
  | some x =>
    let cap := decide (128 ≤ key)
    let x := { x with flags := x.flags ||| (if cap then 2 else 1), count := min (x.count + n) 0xFFFFFFFF, recent := min (x.recent + n) 0xFFFFFFFF }
    let due := match x.noted with
      | none => true
      | some t => s.passed t 1000000000
    if due then
      let s := s.setStream key (some { x with recent := 0, noted := some s.cyc })
      let s := s.event x.owner (if cap then 0x2004 else 0x2002) noInst (key % 128) x.recent
      s.raise (if cap then 265 else if 64 ≤ key then 243 else 264)
    else s.setStream key (some x)

/-- A faulting access stops a stream without a ramp; its setup is kept (R486). A frozen or fenced channel stops nothing (R485). -/
def State.streamFault (s : State) (key reason frame : Nat) : State :=
  match s.stream key with
  | none => s
  | some x =>
    if reason = 4 ∨ reason = 5 then s
    else
      let cap := if 128 ≤ key then 256 else 0
      let s := (s.haltStream key).event x.owner 0x2003 noInst (key % 128 + cap) reason frame
      s.raise (if 64 ≤ key ∧ key < 68 then 243 else 264)

/-- Reads frames from index `f` on: what was read, and where and why it stopped. -/
def State.readFrames (x : AStream) : Nat → Nat → List Nat → State → (List Nat × Option (Nat × Nat)) × State
  | 0, _, acc, s => ((acc, none), s)
  | n + 1, f, acc, s =>
    match s.unitRead (ringWho x.owner) (x.frameAddr f) x.size with
    | (.ok l, s) => State.readFrames x n ((f + 1) % 2 ^ 32) (acc ++ [leAt l 0 x.size]) s
    | (.error r, s) => ((acc, some (r, f)), s)

/-- Writes frames from index `f` on: how many were written, and where and why it stopped. -/
def State.writeFrames (x : AStream) : List Nat → Nat → Nat → State → (Nat × Option (Nat × Nat)) × State
  | [], _, done, s => ((done, none), s)
  | v :: t, f, done, s =>
    match s.unitWrite (ringWho x.owner) (x.frameAddr f) (leBytes x.size v) with
    | (none, s) => State.writeFrames x t ((f + 1) % 2 ^ 32) (done + 1) s
    | (some r, s) => ((done, some (r, f)), s)

/-- Writes a stream's index and FLAGS into its header (R481). -/
def State.writeHead (s : State) (key : Nat) : State :=
  match s.stream key with
  | none => s
  | some x =>
    match s.unitWrite (ringWho x.owner) (x.base + if key < 128 then 4 else 0) (leBytes 4 x.index) with
    | (some r, s) => s.streamFault key r x.index
    | (none, s) =>
      match s.unitWrite (ringWho x.owner) (x.base + 8) (leBytes 1 x.flags) with
      | (some r, s) => s.streamFault key r x.index
      | (none, s) => s

/-- The samples of the coming millisecond are played: missing ones are silence and an underrun (R485). -/
def State.playMs (s : State) (key : Nat) : State :=
  match s.stream key with
  | none => s
  | some x =>
    if !x.started then s
    else
      let short := x.perMs - x.fifo.length
      let s := s.setStream key (some { x with fifo := x.fifo.drop x.perMs })
      if short = 0 then s else s.noteMissing key short

/-- A playback stream's millisecond (R483, R485, R486): WRITE is read, frames are fetched up to 2 ms ahead, READ is written back. -/
def State.fetchPlay (s : State) (key : Nat) (x : AStream) : State :=
  match s.unitRead (ringWho x.owner) x.base 4 with
  | (.error r, s) => (s.streamFault key r x.index).playMs key
  | (.ok h, s) =>
    let have_ := (leAt h 0 4 + 2 ^ 32 - x.index) % 2 ^ 32
    let n := min have_ (2 * x.perMs - x.fifo.length)
    match State.readFrames x n x.index [] s with
    | ((l, e), s) =>
      let y := { x with fifo := x.fifo ++ l, index := (x.index + l.length) % 2 ^ 32 }
      let s := s.setStream key (some y)
      match e with
      | some (r, f) => (s.streamFault key r f).playMs key
      | none => (s.playMs key).writeHead key

/-- A capture stream's millisecond (R483, R485, R486): the sampled frames and WRITE are written; frames the reader has not taken are
overwritten. -/
def State.fetchCapture (s : State) (key : Nat) (x : AStream) (frames : List Nat) : State :=
  match s.unitRead (ringWho x.owner) (x.base + 4) 4 with
  | (.error r, s) => s.streamFault key r x.index
  | (.ok h, s) =>
    let l := frames.take x.perMs
    match State.writeFrames x l x.index 0 s with
    | ((n, e), s) =>
      let y := { x with index := (x.index + n) % 2 ^ 32 }
      let s := s.setStream key (some y)
      let held := (y.index + 2 ^ 32 - leAt h 0 4) % 2 ^ 32
      match e with
      | some (r, f) => s.streamFault key r f
      | none => (if x.frames < held then s.noteMissing key (min n (held - x.frames)) else s).writeHead key

/-- STREAM_FETCH: a started stream's access of the millisecond (R483). Playback streams are 0-67, capture streams 128-159; `frames` are the
samples captured. -/
def execStreamFetch (st : Nat) (frames : List Nat) (s : State) : Host.Outcome State Fault Refusal :=
  match s.stream st with
  | none => .next s
  | some x =>
    if !x.started then .next s
    else if st < 128 then .next (s.fetchPlay st x)
    else .next (s.fetchCapture st x frames)

/-- CTX_SAVE of a stream (R488; 04 R184). -/
def execAudCtxSave (k : Nat) (s : State) : Host.Outcome State Fault Refusal :=
  match s.opAt k 0x200C with
  | none => .next s
  | some q =>
    let num := q.p8 0
    let cap := bit (q.p8 1) 0
    if numTooHigh q.ring num cap then .next (s.endOp k St.range)
    else if !s.namesStream q.ring num cap then .next (s.endOp k St.noPermission)
    else match s.stream (streamKey num cap) with
      | none => .next (s.endOp k St.range)
      | some x =>
        let ctx := s.sealContext q.ring 8 1 (x.params ++ leBytes 4 x.index ++ List.replicate 28 0)
        match s.unitWrite (ringWho q.ring) (q.p64 8) ctx with
        | (none, s) => .next (s.endOp k St.ok)
        | (some r, s) => .next (s.endOp k (faultStatus r) (if faultStatus r = St.range then 8 else 0))

/-- CTX_RESTORE of a stream (R488; 04 R185). -/
def execAudCtxRestore (k : Nat) (s : State) : Host.Outcome State Fault Refusal :=
  match s.opAt k 0x200D with
  | none => .next s
  | some q =>
    let num := q.p8 0
    let cap := bit (q.p8 1) 0
    let key := streamKey num cap
    if numTooHigh q.ring num cap then .next (s.endOp k St.range)
    else if !s.namesStream q.ring num cap then .next (s.endOp k St.noPermission)
    else if ((s.stream key).map (·.started)).getD false then .next (s.endOp k St.busy)
    else match s.unitRead (ringWho q.ring) (q.p64 8) 64 with
      | (.error r, s) => .next (s.endOp k (faultStatus r) (if faultStatus r = St.range then 8 else 0))
      | (.ok l, s) =>
        match s.contextFault q.ring 8 1 l with
        | some st => .next (s.endOp k st)
        | none =>
          let x := newStream (s.streamOwner q.ring num cap) ((l.drop 16).take 16) (leAt l 32 4)
          .next (((s.setStream key (some x)).audSync).endOp k St.ok)

/-- An instance reset ends a client's streams: fetching stops at once, and the setups are kept (R487; 04 R178). -/
def State.audioReset (s : State) (c : Nat) : State :=
  (s.aud.streams.foldl (fun (s : State) e =>
    if (e.2.map (·.owner)) = some (.client c) then s.haltStream e.1 else s) s).audSync

/-! The alarm pair (R489-R494). -/

/-- ALARM_SET (R492, R493). -/
def execAlarmSet (k : Nat) (s : State) : Host.Outcome State Fault Refusal :=
  match s.opAt k 0x200A with
  | none => .next s
  | some q =>
    let on := bit (q.p8 0) 0
    let was := s.flag F.AUD_ALARM_ENABLE
    let slots := q.p16 2
    let ready (p : Nat) : Bool := let l := s.port p
      bits (leAt l 1 1) 1 0 == 3 && bits (leAt l 1 1) 5 4 == 0 && decide (slots < 2 ^ leAt l 2 1)
    if !on ∧ s.safe then .next (s.endOp k St.busy)
    else if on ∧ slots = 0 then .next (s.endOp k St.range 2)
    else if on ∧ !(ready 6 && ready 7) then .next (s.endOp k St.range)
    else
      let s := s.setFld F.AUD_CTRL_SRAMP (if q.p16 4 = 0 then 40 else q.p16 4)
      let s := ((s.setFlag F.AUD_ALARM_ENABLE on).setFlag F.AUD_ALARM_DUCK (bit (q.p8 0) 1)).setFld F.AUD_ALARM_DUCK_DB (min 63 (q.p8 1))
      let s := s.setFld F.AUD_ALARM_SLOTS slots
      let s := if on != was then s.dropAlarmRoutes else s
      let s := if on then s.clearAlarmFails else s
      .next ((s.showAlarm.audSync).endOp k St.ok)

/-- ALARM_EVENT to the S ring (R497). -/
def State.alarmEvent (s : State) (what : Nat) : State := s.event .s 0x2007 noInst what (s.aSamples % 2 ^ 32)

/-- ALARM_LANE_MISMATCH: a sample on which the lanes differ (R490); with a failed member it is a second fault (17 R636, R648). -/
def execAlarmLaneMismatch (s : State) : Host.Outcome State Fault Refusal :=
  if !s.flag F.AUD_ALARM_ENABLE then .next s
  else
    let second := bits s.aud.spare 1 0 ≠ 0
    let s := (s.setFld F.AUD_ALARM_STAT_MISMATCH 1).satInc F.AUD_ALARM_STAT_MISMATCHES
    let s := ((s.setAud { s.aud with spare := s.aud.spare ||| 4 }).raise 240).alarmEvent 1
    let s := s.fault 4 15
    .next (if second then s.enterSafe 1 4 else s)

/-- ALARM_MEMBER_FAIL: port 6 + `m` read back differently in two consecutive frames (R491); with the other member failed, or a lane mismatch
recorded, it is a second fault (17 R636, R648). -/
def execAlarmMemberFail (m : Nat) (s : State) : Host.Outcome State Fault Refusal :=
  if !s.flag F.AUD_ALARM_ENABLE ∨ bit s.aud.spare m then .next s
  else
    let second := s.aud.spare ≠ 0
    let s := s.setFld (if m = 0 then F.AUD_ALARM_STAT_FAIL6 else F.AUD_ALARM_STAT_FAIL7) 1
    let s := ((s.setAud { s.aud with spare := s.aud.spare ||| 2 ^ m }).raise (241 + m)).alarmEvent (2 + m)
    let s := s.fault 5 (6 + m)
    .next (if second then s.enterSafe 1 5 else s)

/-! Queries (R496). -/

/-- A signed number of hundredths of a dB as a 32-bit result. -/
def word32 (i : Int) : Nat := (i % (2 ^ 32 : Nat)).toNat

/-- SOURCE in bits 24:16 and GAIN in bits 7:0 (R496). -/
def routeWord (r : Route) : Nat := r.src * 65536 + r.gain

/-- AUDIO_QUERY (R496). -/
def execAudioQuery (k : Nat) (s : State) : Host.Outcome State Fault Refusal :=
  match s.opAt k 0x200B with
  | none => .next s
  | some q =>
    let kind := q.p8 0
    let i := q.p16 2
    let cap := kind == 2
    let isClient := match q.ring with | .client _ => true | _ => false
    if isClient && (kind != 1 && kind != 2) then .next (s.endOp k St.noPermission)
    else if (kind = 1 ∨ kind = 2) ∧ !s.namesStream q.ring i cap then .next (s.endOp k St.noPermission)
    else match kind with
      | 0 => .next (s.endOp k St.ok (s.rg Reg.AUD_CTRL).toNat (s.rg Reg.AUD_STAT).toNat (s.rg Reg.AUD_ALARM_STAT).toNat)
      | 3 =>
        let b := s.bus i
        let duck := if i = 15 then 0 else gainNow s.aud.dramp s.aud.duck s.cyc
        .next (s.endOp k St.ok (s.activeInputs i) (word32 (gainNow b.sramp b.scale s.cyc)) (word32 duck))
      | 4 => .next (s.endOp k St.ok (routeWord (s.mux i).act) (routeWord (s.mux i).shd))
      | _ =>
        match s.stream (streamKey i cap) with
        | none => .next (s.endOp k St.ok)
        | some x => .next (s.endOp k St.ok x.index x.count (if x.started then 1 else 0))

end Sys2Proof.Machine
end

