-- ==== Sys2Proof/Machine/Claims.lean ====
section
/-! DEFINITION. The domains the S-world holds claimed (02 R84, 19 R697). -/

namespace Sys2Proof.Machine

/-- Whether a list is loaded on an etched layer, live or pending (02 R84). -/
def State.etchLoaded (s : State) (n : Nat) : Bool :=
  (List.range 4).any (fun l => s.flag F.ETCH_LIVE_VALID (4 * n + l) || s.flag F.ETCH_PEND_VALID (4 * n + l))

/-- Whether output `n` is held claimed by its etched lists or its guard (02 R84). -/
def State.outputHeld (s : State) (n : Nat) : Bool := s.etchLoaded n || s.flag F.PROOF_CTRL_GUARD n

/-- Whether a range of lines meets front-end domain `q` (19 R697). -/
def linesIn (first count per q : Nat) : Bool := decide (0 < count) && decide (first < per * (q + 1)) && decide (per * q < first + count)

/-- The front-end domains of a panel: those that hold one of its lines (19 R697). -/
def State.panelDomain (s : State) (p q : Nat) : Bool :=
  linesIn (s.fld F.TCH_CFG_TX_FIRST p) (s.fld F.TCH_CFG_TX_COUNT p) 64 q
    || linesIn (s.fld F.TCH_RXCFG_RX_FIRST p) (s.fld F.TCH_RXCFG_RX_COUNT p) 128 q

/-- Whether domain `d` is claimed by one of the conditions of 02 R84, explicit claims apart. -/
def State.heldDomain (s : State) (d : Nat) : Bool :=
  if d < 6 then true
  else if 11 ≤ d ∧ d < 19 then s.outputHeld (d - 11)
  else if 19 ≤ d ∧ d < 27 then s.outputHeld (d - 19)
  else if d = 27 then (List.range 8).any (fun n => s.outputHeld n)
  else if d = 30 then (List.range 8).any (fun p => s.flag F.TCH_CFG_SAFETY p)
  else if 31 ≤ d ∧ d < 35 then (List.range 8).any (fun p => s.flag F.TCH_CFG_SAFETY p && s.panelDomain p (d - 31))
  else if d = 35 then (List.range 8).any (fun a => s.flag F.HAP_CFG_CLAIMED a)
  else if d = 36 then s.flag F.AUD_ALARM_ENABLE
  else if d = 41 then s.flag F.TTH_GROUP_ALARM_EN
  else if d = 44 then s.fld F.LSIO_SOWN_PORT ≠ 0 || s.fld F.LSIO_SGPIO_PIN 0 ≠ 0 || s.fld F.LSIO_SGPIO_PIN 1 ≠ 0
  else false

/-- Bit `d` of a pair of domain registers (02 R90). -/
def State.domBit (s : State) (base d : Nat) : Bool := (s.rg (base + 4 * (d / 32))).getLsbD (d % 32)

/-- Writes bit `d` of a pair of domain registers. -/
def State.setDomBit (s : State) (base d : Nat) (b : Bool) : State :=
  let a := base + 4 * (d / 32)
  s.setRg a (putBits (s.rg a) (d % 32) (d % 32) (if b then 1 else 0))

/-- Whether the S-world holds domain `d` claimed, explicitly or under 02 R84. -/
def State.claimed (s : State) (d : Nat) : Bool := s.domBit Reg.PWR_SCLAIM0 d || s.heldDomain d

/-- Whether domain `d` is powered and clocked (02 R90, 19 R697). -/
def State.powered (s : State) (d : Nat) : Bool := !bit s.pwr.off d

/-- The levels of the GPIO pins, and the settings of GPIO 56-63, which lie in the always-on bank, are those of another state
(20 R756). -/
def State.keepPins (s old : State) : State :=
  let whole (a : Nat) (s : State) : State := s.setRg a (old.rg a)
  let top (a h l : Nat) (s : State) : State := s.setRg a (putBits (s.rg a) h l (bitsOf (old.rg a) h l))
  let s := whole (Reg.LSIO_GPIO_IN 0) (whole (Reg.LSIO_GPIO_IN 1) s)
  top (Reg.LSIO_GPIO_OUT 1) 31 24 (top (Reg.LSIO_GPIO_OE 1) 31 24 (top (Reg.LSIO_GPIO_IRQ 3) 31 16 s))

end Sys2Proof.Machine
end

