-- ==== Sys2Proof/Machine/MemCtl.lean ====
section
/-! DEFINITION. The memory controller's own commands (13): refresh, freezes and thaws, retraining, scrubs, slot tables, mirrors. -/

namespace Sys2Proof.Machine

/-! Queued requests of cores (13 R552, R553). -/

/-- The requests waiting at a channel. -/
def State.mcQueue (s : State) (c : Nat) : List Queued := SMap.get (fun _ => []) s.mc.queues c

/-- Replaces the requests waiting at a channel. -/
def State.setMcQueue (s : State) (c : Nat) (q : List Queued) : State :=
  { s with mc := { s.mc with queues := SMap.set (fun _ => []) s.mc.queues c q } }

/-- Serves one request of a core: the answer to a core of a refused access is an access fault (01 R15). -/
def State.serve (s : State) (q : Queued) : State :=
  match q.write with
  | none =>
    match s.physRead q.req.who (q.addr / 32 * 32) 32 with
    | .ok l => (s.noteReads (q.addr / 32 * 32) 32).answer (.data l)
    | .error f => (s.noteFault f).answer (if f.reason = 3 then .poisoned else .accessFault)
  | some l =>
    match s.physWrite q.req.who q.addr l with
    | (none, s) => s.answer .done
    | (some f, s) => (s.noteFault f).answer (if f.reason = 3 then .poisoned else .accessFault)

/-- Serves the waiting requests of a channel that has resumed (13 R553). -/
def State.serveQueue (s : State) (c : Nat) : State :=
  (s.mcQueue c).foldl (fun s q => s.serve q) (s.setMcQueue c [])

/-! Rows (13 R548, R549). -/

/-- The heavy-row table of one bank. -/
def bankRows (l : List HeavyRow) (ch rank bank : Nat) : List HeavyRow :=
  l.filter (fun e => e.ch == ch && e.rank == rank && e.bank == bank)

/-- The entry of least count. -/
def leastRow (l : List HeavyRow) : Option HeavyRow :=
  l.foldl (fun best e => match best with
    | none => some e
    | some b => if e.count < b.count then some e else some b) none

/-- Counts an activation in a bank's table of 64 entries, and answers the new table and the entry's new count (R548). -/
def countRow (l : List HeavyRow) (ch : Nat) (a : RowAct) (w : Who) : List HeavyRow × Nat :=
  let t := bankRows l ch a.rank a.bank
  match t.find? (fun e => e.row == a.row && e.who == w) with
  | some e => (l.map (fun x => if x = e then { x with count := x.count + 1 } else x), e.count + 1)
  | none =>
    if t.length < 64 then (l ++ [⟨ch, a.rank, a.bank, a.row, w, 1⟩], 1)
    else match leastRow t with
      | none => (l, 0)
      | some e => (l.map (fun x => if x = e then ⟨ch, a.rank, a.bank, a.row, w, e.count + 1⟩ else x), e.count + 1)

/-- `MC_RD.THRESHOLD` as it acts: lower values act as 256 (R566). -/
def State.rowThreshold (s : State) : Nat := max 256 (s.fld F.MC_RD_THRESHOLD)

/-- Limits a requester on one bank until the end of the window (R549): recorded in `MC_RD_STAT`, source 68 + g, THROTTLED. -/
def State.throttle (s : State) (ch : Nat) (a : RowAct) (w : Who) : State :=
  let s := { s with mc := { s.mc with throttled := s.mc.throttled ++ [(ch, a.rank, a.bank, w)] } }
  let s := match s.firstOrOver F.MC_RD_STAT_VALID F.MC_RD_STAT_OVERFLOW with
    | (false, s) => s
    | (true, s) =>
      let s := s.setFld F.MC_RD_STAT_RANK a.rank
      let s := s.setFld F.MC_RD_STAT_BANK a.bank
      let s := s.setFld F.MC_RD_STAT_CHANNEL ch
      let s := s.setFld F.MC_RD_STAT_ORIGIN (match w with | .client _ => 0 | .med => 1 | .fw => 2 | .s => 0)
      s.setFld F.MC_RD_STAT_CLIENT (match w with | .client n => n | _ => 0)
  let s := s.raise (68 + ch / 4)
  let s := s.event .med 0x2406 ch ch a.bank a.rank
  match w with
  | .client n => s.event (.client n) 0x2406 ch ch a.bank a.rank
  | _ => s

/-- Counts the activation that an access made, and throttles its requester on the bank once the count reaches the threshold (R548, R549). -/
def State.activate (s : State) (addr : Nat) (w : Who) (act : Option RowAct) : State :=
  match act with
  | none => s
  | some a =>
    let ch := s.channelOf (s.served addr)
    match countRow s.mc.heavy ch a w with
    | (l, n) =>
      let s := { s with mc := { s.mc with heavy := l } }
      if s.rowThreshold ≤ n ∧ !s.mc.throttled.contains (ch, a.rank, a.bank, w) then s.throttle ch a w else s

/-- HEAVY_ROW_WINDOW_CLEAR: every 32 ms the counts are cleared and the throttles end (R548, R549). -/
def execHeavyRowWindowClear (s : State) : Host.Outcome State Fault Refusal :=
  .next { s with mc := { s.mc with heavy := [], throttled := [] } }

/-! Corrections and the patrol (13 R526, R527). -/

/-- Gives a word the ink, POISON and data of its decoded form, with a fresh codeword. -/
def State.rewriteDecoded (s : State) (a : Nat) : State :=
  match s.decoded a with
  | (_, left, _) =>
    let t := (SMap.get (fun _ => 0) left 32).toNat
    let ink := s.inkAt a ^^^ (t % 8)
    let poison := xor (s.poisonAt a) (bit t 3)
    let s := s.storeDram a 0 (s.dramBytes a 0 32)
    { s with mc := { s.mc with inks := RunMap.setRange s.mc.inks (wordNo a) (wordNo a + 1) ink
                               poison := SMap.set (fun _ => false) s.mc.poison (wordNo a) poison } }

/-- CORRECTION_WRITEBACK: a corrected word is written back; a write that came first has dropped it (R526). -/
def execCorrectionWriteback (addr : Nat) (s : State) : Host.Outcome State Fault Refusal :=
  let a := addr / 32 * 32
  if s.mc.writeback.contains a then
    let s := s.rewriteDecoded a
    .next { s with mc := { s.mc with writeback := s.mc.writeback.filter (fun x => x != a) } }
  else .next s

/-- Poisons a word: zero data, POISON 1, the given ink (R527, R553). -/
def State.poisonWord (s : State) (a ink : Nat) : State :=
  let s := s.storeDram a 0 (List.replicate 32 0)
  { s with mc := { s.mc with inks := RunMap.setRange s.mc.inks (wordNo a) (wordNo a + 1) ink
                             poison := SMap.set (fun _ => false) s.mc.poison (wordNo a) true } }

/-- Adds the upsets an access meets to the stored damage of its word. -/
def State.upset (s : State) (a : Nat) (noise : List (Nat × Byte)) : State :=
  match noise with
  | [] => s
  | _ =>
    let errs := noise.foldl (fun l e => addErr l e.1 e.2) (s.damageAt a)
    { s with mc := { s.mc with damage := SMap.set (fun _ => []) s.mc.damage (wordNo a) errs } }

/-- The next data word of the same 4 KiB page; the last word is followed by the first (DEDUCED). -/
def nextInPage (a : Nat) : Nat := a / 4096 * 4096 + (a + 32) % 4096

/-- PATROL_READ: corrections as on any read, and an uncorrectable word is poisoned at once, without a freeze (R527). -/
def execPatrolRead (addr : Nat) (noise : List (Nat × Byte)) (s : State) : Host.Outcome State Fault Refusal :=
  let a := addr / 32 * 32
  if s.region a = .dram ∧ s.fld F.MC_CH_STAT_STATE (s.channelOf a) = 0 then
    let s := s.upset a noise
    let s := match s.decoded a with
      | (.uncorrectable, _, _) => s.poisonWord a (s.inkAt (nextInPage a))
      | _ => s.noteRead a
    .next { s with mc := { s.mc with patrol := a + 32 } }
  else .next s

/-! Queues and refresh (13 R538, R544-R546). -/

/-- The class above, and the limit of a class in units of 0.1 µs (R538). -/
def State.promoted (s : State) (c : Cls) : Option (Cls × Nat) :=
  match c with
  | .be => some (.rt, s.fld F.MC_AGE_BE_LIMIT)
  | .rt => some (.iso, s.fld F.MC_AGE_RT_LIMIT)
  | .iso => some (.safe, s.fld F.MC_AGE_ISO_LIMIT)
  | .isoUrgent => some (.safe, s.fld F.MC_AGE_ISO_LIMIT)
  | .safe => none
  | .isoCritical => none

/-- REQUEST_AGE_PROMOTION: a queued request whose age passes the limit of its present class moves up one class (R538). -/
def execRequestAgePromotion (c i : Nat) (s : State) : Host.Outcome State Fault Refusal :=
  match (s.mcQueue c)[i]? with
  | none => .next s
  | some q =>
    match s.promoted q.cls with
    | none => .next s
    | some (up, limit) =>
      if s.passed q.since (limit * 100) then .next (s.setMcQueue c ((s.mcQueue c).set i { q with cls := up })) else .next s

/-- REFRESH_BATCH: at a refresh interval the channel issues the batch, postpones it while requests wait, or issues what it owes
and pulls one in while none waits (R544, R546). -/
def execRefreshBatch (c : Nat) (s : State) : Host.Outcome State Fault Refusal :=
  let st := s.fld F.MC_CH_STAT_STATE c
  let owed := s.fld F.MC_CH_STAT_OWED c
  let ahead := SMap.get (fun _ => 0) s.mc.ahead c
  let setAhead (s : State) (n : Nat) : State := { s with mc := { s.mc with ahead := SMap.set (fun _ => 0) s.mc.ahead c n } }
  if st = 2 ∨ st = 3 then .next s
  else if (s.mcQueue c).isEmpty then .next (setAhead (s.setFld F.MC_CH_STAT_OWED 0 c) (min 8 (ahead + 1)))
  else if 0 < ahead then .next (setAhead s (ahead - 1))
  else if s.fld F.MC_CH_STAT_REFRESH c ≠ 0 ∨ owed = 8 then .next s
  else .next (s.setFld F.MC_CH_STAT_OWED (owed + 1) c)

/-- MR4_POLL: the channel's interval follows the DRAM's indication; crossing into doubled or faster issues every owed batch;
a change, or an indication above maximum, raises source 53 (R545, R546, R565). -/
def execMr4Poll (c ind : Nat) (s : State) : Host.Outcome State Fault Refusal :=
  let old := s.fld F.MC_CH_STAT_REFRESH c
  let s := s.setFld F.MC_CH_STAT_REFRESH ind c
  let s := if 0 < ind then s.setFld F.MC_CH_STAT_OWED 0 c else s
  .next (if old ≠ ind ∨ ind = 3 then s.raise 53 else s)

/-- MODE_REGISTER_READBACK: a mode register that differs from what the controller wrote freezes the channel (R551 cause 4). -/
def execModeRegisterReadback (c : Nat) (mismatch : Option Nat) (s : State) : Host.Outcome State Fault Refusal :=
  match mismatch with
  | none => .next s
  | some mr =>
    let s := { s with mc := { s.mc with mrBad := (c, mr) :: s.mc.mrBad.filter (fun e => e != (c, mr)) } }
    .next (s.freeze c 4 0 0 mr)

/-- COMMAND_PATH_PARITY_ERROR freezes the channel (R551 cause 3). -/
def execCommandPathParityError (c : Nat) (s : State) : Host.Outcome State Fault Refusal := .next (s.freeze c 3 0 0 0)

/-! Fencing and retraining (13 R555-R558, R562). -/

/-- A mirror whose group is fenced is broken: the surviving range serves (R562). -/
def State.breakMirrors (s : State) (g : Nat) : State :=
  s.mirrorList.foldl (fun s e =>
    let p := s.groupOf e.2.primary
    let q := s.groupOf e.2.secondary
    if (p = g ∨ q = g) ∧ s.fld F.MC_MIRROR_STATE e.1 ≠ 3 then
      let s := s.setFld F.MC_MIRROR_STATE 3 e.1
      let s := s.setFlag F.MC_MIRROR_SERVING (p = g) e.1
      (s.raise 54).event .s 0x2407 e.1 3 (s.fld F.MC_MIRROR_REPAIRS e.1)
    else s) s

/-- Fences a group (R556, R557): its channels answer nothing any more; source 48 + g, GROUP_FENCED, and class 11, at the end of the retraining
where one is under way (17 R636). -/
def State.fenceGroup (s : State) (g ch : Nat) : State :=
  if bit (s.fld F.MC_CFG_FENCED) g then s
  else
    let s := (s.setFld F.MC_CFG_FENCED (s.fld F.MC_CFG_FENCED ||| 2 ^ g)).count 76
    let s := [4 * g, 4 * g + 1, 4 * g + 2, 4 * g + 3].foldl (fun s c =>
      let s := (s.setFld F.MC_CH_STAT_STATE 3 c).setMcQueue c []
      { s with mc := { s.mc with frozen := SMap.set (fun _ => none) s.mc.frozen c none } }) s
    let s := s.breakMirrors g
    let s := s.raise (48 + g)
    let s := if s.mc.retrain.isSome then { s with mc := { s.mc with newFences := s.mc.newFences ++ [g] } } else s.fault 11 g
    s.eventSM 0x2404 g g ch

/-- The end of a retraining: the fences in it are faults of class 11 now (17 R636). -/
def State.retrainOver (s : State) : State :=
  s.mc.newFences.foldl (fun (s : State) g => s.fault 11 g) { s with mc := { s.mc with retrain := none, newFences := [] } }

/-- The channels that are not fenced. -/
def State.unfenced (s : State) : List Nat := (List.range 16).filter (fun c => !bit (s.fld F.MC_CFG_FENCED) (c / 4))

/-- Starts a retraining (R555): no new command issues, owed batches are issued, every channel enters self-refresh; requests other
than a core's receive a frozen response. -/
def State.startRetrain (s : State) : State :=
  match s.mc.retrain with
  | some _ => s
  | none =>
    let s := s.unfenced.foldl (fun s c =>
      let s := (s.setFld F.MC_CH_STAT_STATE 2 c).setFld F.MC_CH_STAT_OWED 0 c
      s.setMcQueue c ((s.mcQueue c).filter (fun q => q.req.core))) s
    { s with mc := { s.mc with retrain := some (s.fld F.MC_CFG_RATE, 0), trained := true } }

/-! ISO reservations (13 R540-R543, R558). -/

/-- A quotient rounded up. -/
def ceilDiv (a b : Nat) : Nat := (a + b - 1) / b

/-- Bandwidth at a rate, out of 6 (R558: 33.55, 22.36, 16.77, 11.18 GB/s per group). -/
def rateSixths (r : Nat) : Nat := match r with | 0 => 6 | 1 => 4 | 2 => 3 | _ => 2

/-- Adds two fractions. -/
def fracAdd (a b : Nat × Nat) : Nat × Nat := if a.2 = b.2 then (a.1 + b.1, a.2) else (a.1 * b.2 + b.1 * a.2, a.2 * b.2)

/-- The greater of two fractions. -/
def fracMax (a b : Nat × Nat) : Nat × Nat := if a.1 * b.2 < b.1 * a.2 then b else a

/-- A slot's reservation in a group: the greater of the live and the armed charge (R543). -/
def SlotSt.reserved (x : SlotSt) (g : Nat) : Nat × Nat :=
  let a := if x.groups.contains g then x.charge else (0, 1)
  match x.nextCharge with
  | some (c, gs) => fracMax a (if gs.contains g then c else (0, 1))
  | none => a

/-- ISO_DISP of a group: the sum of its charges in slots of the rate in force, rounded up (R540, R558). -/
def State.isoDisp (s : State) (g : Nat) : Nat :=
  let sum := s.disp.slots.foldl (fun a e => fracAdd a (e.2.reserved g)) (0, 1)
  ceilDiv (sum.1 * 6) (sum.2 * 1048320000 * rateSixths (s.fld F.MC_CFG_RATE))

/-- Rebuilds a group's shadow table from its counts (R542). -/
def State.rebuildSlots (s : State) (g : Nat) : State :=
  let s := s.setFld F.MC_SLOT_CFG_PENDING 1 g
  let t := (s.fld F.MC_SLOT_CFG_SAFE_SLOTS g, s.fld F.MC_SLOT_CFG_ISO_DISP g + s.fld F.MC_SLOT_CFG_ISO_RSV g)
  { s with mc := { s.mc with shadow := SMap.set (fun _ => none) s.mc.shadow g (some t) } }

/-- ISO_DISP of a group follows the display's charges (R540, R543, R558), and OVER says that the group's reservations exceed half of its
bandwidth at the rate in force. -/
def State.setIsoDisp (s : State) (g n : Nat) : State :=
  let v := min 63 n
  let s := if s.fld F.MC_SLOT_CFG_ISO_DISP g = v then s else (s.setFld F.MC_SLOT_CFG_ISO_DISP v g).rebuildSlots g
  s.setFlag F.MC_SLOT_CFG_OVER (decide (32 < v + s.fld F.MC_SLOT_CFG_ISO_RSV g)) g

/-- Brings ISO_DISP of every group to the charges in force at the rate in force (13 R543, R558). -/
def State.syncIso (s : State) : State := (List.range 4).foldl (fun s g => s.setIsoDisp g (s.isoDisp g)) s

/-- Every unfenced channel leaves self-refresh and resumes (R555 step 5): RATE_CHANGED, source 52, waiting core requests served;
ISO_DISP counts slots of the new rate (R558). -/
def State.retrainPassed (s : State) (attempts : Nat) : State :=
  let l := s.unfenced
  let s := l.foldl (fun s c =>
    let s := s.setFld F.MC_CH_STAT_STATE 0 c
    { s with mc := { s.mc with frozen := SMap.set (fun _ => none) s.mc.frozen c none } }) s
  let s := s.retrainOver.syncIso
  let s := s.raise 52
  let s := s.eventSM 0x2405 noInst (s.fld F.MC_CFG_RATE) attempts
  l.foldl (fun s c => s.serveQueue c) s

/-- RETRAIN_ATTEMPT_END: `failed` names the channels whose training failed. All pass: resume. Otherwise the next lower rate; at the
lowest, the groups of the failing channels are fenced and the rest retrains from the top rate (R555, R556). -/
def execRetrainAttemptEnd (failed : Nat) (s : State) : Host.Outcome State Fault Refusal :=
  match s.mc.retrain with
  | none => .next s
  | some (r0, n) =>
    let bad := s.unfenced.filter (fun c => bit failed c)
    let s := { s with mc := { s.mc with retrain := some (r0, n + 1) } }
    if bad.isEmpty then .next (s.retrainPassed (n + 1))
    else if s.fld F.MC_CFG_RATE < 3 then .next (s.setFld F.MC_CFG_RATE (s.fld F.MC_CFG_RATE + 1))
    else
      let s := bad.foldl (fun s c => s.fenceGroup (c / 4) c) s
      if s.unfenced.isEmpty then .next s.retrainOver
      else .next (s.setFld F.MC_CFG_RATE 0)

/-- WCK_DRIFT: drift beyond the trained margin starts a retraining (R555). -/
def execWckDrift (s : State) : Host.Outcome State Fault Refusal := .next s.startRetrain

/-! Thaws (13 R553, R554). -/

/-- The freeze of a channel. -/
def State.frz (s : State) (c : Nat) : Option Freeze := SMap.get (fun _ => none) s.mc.frozen c

/-- Records the thaw: action, elapsed time, whether the channel thawed itself; CHANNEL_THAWED (R553, R554, R564). -/
def State.thawed (s : State) (c action : Nat) (self : Bool) (f : Freeze) : State :=
  let us := s.usSince f.since
  let s := s.setFld F.MC_FRZ_STAT_ACTION action c
  let s := s.setFlag F.MC_FRZ_STAT_SELF self c
  let s := s.setFld F.MC_FRZ_STAT_ELAPSED_US (min us 0xFFFF) c
  let s := { s with mc := { s.mc with
      frozen := SMap.set (fun _ => none) s.mc.frozen c none
      selfThaw := if self then SMap.set (fun _ => none) s.mc.selfThaw c (some s.cyc) else s.mc.selfThaw } }
  s.eventSM 0x2403 c action us (if self then 1 else 0)

/-- The channel resumes and serves the core requests that waited (R553). -/
def State.resume (s : State) (c : Nat) : State := (s.setFld F.MC_CH_STAT_STATE 0 c).serveQueue c

/-- The ink of a 4 KiB page, from one of its data words whose side word is intact (R553). -/
def State.pageInk (s : State) (a : Nat) : Nat :=
  let p := a / 4096 * 4096
  match (List.range 128).find? (fun i => !s.sideBadAt (p + 32 * i)) with
  | some i => s.inkAt (p + 32 * i)
  | none => 0

/-- The data words whose side bits lie in the same side word (R521). -/
def State.sideGroup (s : State) (a : Nat) : List Nat :=
  let c := s.channelOf a
  let first := s.localOf a / 32 / 7 * 7
  ((List.range 7).map (fun i => s.addrOf c ((first + i) * 32))).filter (fun b => s.region b = .dram)

/-- ACTION 1 (R553): the failing data word for cause 1; for cause 2 every data word of the damaged side word, which is then
written whole. -/
def State.poisonFailing (s : State) (f : Freeze) : State :=
  if f.cause = 2 then
    let words := (s.sideGroup f.addr).map (fun b => (b, s.pageInk b))
    let s := words.foldl (fun s e => s.poisonWord e.1 e.2) s
    { s with mc := { s.mc with sideBad := SMap.set (fun _ => false) s.mc.sideBad (s.sideKey f.addr) false } }
  else s.poisonWord f.addr f.ink

/-- Applies a thaw action to a frozen channel (R553). -/
def State.thaw (s : State) (c action : Nat) (self : Bool) : State :=
  match s.frz c with
  | none => s
  | some f =>
    if s.fld F.MC_CH_STAT_STATE c ≠ 1 then s
    else match action with
      | 1 => ((if f.cause = 1 ∨ f.cause = 2 then s.poisonFailing f else s).thawed c 1 self f).resume c
      | 2 =>
        if f.cause = 1 ∨ f.cause = 2 then ((s.poisonFailing f).thawed c 2 self f).resume c
        else
          let s := { s with mc := { s.mc with mrBad := s.mc.mrBad.filter (fun e => e.1 != c) } }
          (s.thawed c 2 self f).resume c
      | 3 => (s.thawed c 3 self f).startRetrain
      | 4 =>
        let s := s.setFld F.MC_FRZ_STAT_ACTION 4 c
        s.fenceGroup (c / 4) c
      | _ => s

/-- THAW_POISON: `MC_THAW` with ACTION 1; only the S-world's write counts (R553, R566). -/
def execThawPoison (who : Who) (c : Nat) (s : State) : Host.Outcome State Fault Refusal :=
  .next (if who = .s then s.thaw c 1 false else s)

/-- THAW_REWRITE_MR: `MC_THAW` with ACTION 2 (R553). -/
def execThawRewriteMr (who : Who) (c : Nat) (s : State) : Host.Outcome State Fault Refusal :=
  .next (if who = .s then s.thaw c 2 false else s)

/-- THAW_RETRAIN: `MC_THAW` with ACTION 3 (R553). -/
def execThawRetrain (who : Who) (c : Nat) (s : State) : Host.Outcome State Fault Refusal :=
  .next (if who = .s then s.thaw c 3 false else s)

/-- THAW_FENCE: `MC_THAW` with ACTION 4 (R553). -/
def execThawFence (who : Who) (c : Nat) (s : State) : Host.Outcome State Fault Refusal :=
  .next (if who = .s then s.thaw c 4 false else s)

/-- The action a self-thaw takes: 1 for causes 1 and 2, 2 for causes 3 and 4, and 3 for a second freeze of cause 3 or 4 within 1 s of
a self-thaw (R554). -/
def State.selfAction (s : State) (c : Nat) (f : Freeze) : Nat :=
  if f.cause = 1 ∨ f.cause = 2 then 1
  else match SMap.get (fun _ => none) s.mc.selfThaw c with
    | some t => if f.since - t < nsCycles 1000000000 then 3 else 2
    | none => 2

/-- SELF_THAW: a channel not thawed within FREEZE_LIMIT thaws itself (R554). -/
def execSelfThaw (c : Nat) (s : State) : Host.Outcome State Fault Refusal :=
  match s.frz c with
  | none => .next s
  | some f =>
    if s.passed f.since (s.fld F.MC_FREEZE_LIMIT * 10000) then .next (s.thaw c (s.selfAction c f) true) else .next s

/-! Scrubs (02 R57-R59; 13 R534-R536). -/

/-- Gives every word of a range zero data, POISON 0 and a new ink (R535), and the copies of mirrored words the same (R560). -/
def State.wipe (s : State) (lo hi ink : Nat) : State :=
  let one (s : State) (lo hi : Nat) : State :=
    { s with mem := SMap.clear s.mem lo hi
             mc := { s.mc with
               inks := RunMap.setRange s.mc.inks (wordNo lo) (wordNo hi) ink
               poison := SMap.clear s.mc.poison (wordNo lo) (wordNo hi)
               damage := SMap.clear s.mc.damage (wordNo lo) (wordNo hi)
               writeback := s.mc.writeback.filter (fun a => decide (a < lo) || decide (hi ≤ a)) } }
  s.mirrorList.foldl (fun s e =>
    let m := e.2
    let l := max lo m.primary
    let h := min hi (m.primary + m.size)
    if l < h ∧ !m.releasing then one s (m.secondary + (l - m.primary)) (m.secondary + (h - m.primary)) else s) (one s lo hi)

/-- Whether the issuer may scrub words of these inks to this ink (02 R58). -/
def scrubAllowed (r : RingId) (old new : Nat) : Bool :=
  match r with
  | .s => true
  | .med => [0, 2, 4, 5, 6, 7].contains old && [0, 2, 3, 4, 5, 6, 7].contains new
  | .client _ => false

/-- Where a scrub of a range must stop: the first granule of 256 bytes on a channel that is not running, or the range's end (R536). -/
def State.scrubStop (s : State) (lo hi : Nat) : Nat :=
  [0, 1, 2, 3].foldl (fun best g =>
    let gl := max lo (dramBase + g * (s.usable / 4))
    let gh := min hi (dramBase + (g + 1) * (s.usable / 4))
    let at_ (i : Nat) : Nat := max gl ((gl / 256 + i) * 256)
    match (List.range 17).find? (fun i => decide (at_ i < gh) && s.fld F.MC_CH_STAT_STATE (s.channelOf (at_ i)) != 0) with
    | some i => min best (at_ i)
    | none => best) hi

/-- A damaged side word of the range, as an address of one of its data words (R536). -/
def State.sideBadIn (s : State) (lo hi : Nat) : Option Nat :=
  s.mc.sideBad.findSome? (fun e =>
    if e.2 then
      ((List.range 7).map (fun i => s.addrOf (e.1 / 2 ^ 32) ((e.1 % 2 ^ 32 * 7 + i) * 32))).find? (fun a => decide (lo ≤ a) && decide (a < hi))
    else none)

/-- Writes the words of a scrub's range from one address to another, in address order, and ends the packet when the range is done or the
scrub meets a channel that is not running (R535, R536); otherwise the packet keeps what it has done, in words and one more. -/
def State.scrubOn (s : State) (k : Nat) (p : Started) (at_ goal : Nat) : State :=
  let lo := p.p64 0
  let stop := s.scrubStop at_ goal
  let s := s.wipe at_ stop (p.p8 12)
  if stop < goal then s.endOp k St.frozen ((stop - lo) / 4096)
  else if lo + 4096 * p.p32 8 ≤ goal then s.endOp k St.ok (p.p32 8)
  else s.setProgress k ((goal - lo) / 32 + 1)

/-- SCRUB (13 R534-R536, 02 R58): first the check of the whole range, then its words up to word `upto`, or all of them; the next SCRUB of the
same packet goes on from there. -/
def execScrub (k : Nat) (upto : Option Nat) (s : State) : Host.Outcome State Fault Refusal :=
  match s.opAt k 0x2400 with
  | none => .next s
  | some p =>
    let lo := p.p64 0
    let pages := p.p32 8
    let hi := lo + 4096 * pages
    let ink := p.p8 12
    let goal := match upto with
      | some w => min hi (lo + 32 * w)
      | none => hi
    if 0 < p.progress then
      let at_ := lo + 32 * (p.progress - 1)
      .next (s.scrubOn k p at_ (max at_ goal))
    else if pages = 0 then .next (s.endOp k St.ok)
    else if lo < dramBase ∨ dramBase + s.usable < hi then .next (s.endOp k St.range (if lo < dramBase ∨ dramBase + s.usable ≤ lo then 0 else 8))
    else if s.mirrorList.any (fun e => decide (e.2.secondary < hi) && decide (lo < e.2.secondary + e.2.size)) then .next (s.endOp k St.range 0)
    else if s.scrubStop lo hi < hi then .next (s.endOp k St.frozen)
    else match s.sideBadIn lo hi with
      | some a => .next ((s.freeze (s.channelOf a) 2 a ((s.carried (ringWho p.ring) a).getD 0) 0).endOp k St.frozen)
      | none =>
        if RunMap.allIn s.mc.inks (wordNo lo) (wordNo hi) (fun old => scrubAllowed p.ring old ink) then .next (s.scrubOn k p lo goal)
        else .next (s.endOp k St.noPermission)

/-! Slot tables (13 R540-R543). -/

/-- Whether an entry of the rule of R540 is set: `count` entries spread over `n`. -/
def spread (i count n : Nat) : Bool := decide ((i + 1) * count / n ≠ i * count / n)

/-- What a slot of a group's table is (R540). -/
inductive Slot where
  | free
  | iso
  | safe
  deriving DecidableEq, Repr

/-- The 64 entries built from the counts: the SAFE entries first, then the ISO entries spread over the entries left (R540). -/
def slotTable (safe iso : Nat) : List Slot :=
  ((List.range 64).foldl (fun (acc : List Slot × Nat) i =>
    if spread i safe 64 then (acc.1 ++ [.safe], acc.2)
    else (acc.1 ++ [if spread acc.2 iso (64 - safe) then .iso else .free], acc.2 + 1)) ([], 0)).1

/-- SLOT_SET completes after the swap of the shadow table (R540, R563). -/
def execSlotSet (k : Nat) (s : State) : Host.Outcome State Fault Refusal :=
  match s.opAt k 0x2401 with
  | none => .next s
  | some p =>
    let g := p.p8 0
    if 32 < s.fld F.MC_SLOT_CFG_ISO_DISP g + p.p8 2 then .next (s.endOp k St.busy 0 5)
    else
      let s := s.setFld F.MC_SLOT_CFG_SAFE_SLOTS (p.p8 1) g
      let s := (s.setFld F.MC_SLOT_CFG_ISO_RSV (p.p8 2) g).setFld F.MC_SLOT_CFG_OVER 0 g
      let s := s.rebuildSlots g
      let w := SMap.get (fun _ => []) s.mc.slotWait g ++ [k]
      let s := { s with mc := { s.mc with slotWait := SMap.set (fun _ => []) s.mc.slotWait g w } }
      .next (s.endOpHeld k St.ok)

/-- SLOT_TABLE_SWAP: at the end of a table round the shadow table becomes the active one (R542). -/
def execSlotTableSwap (g : Nat) (s : State) : Host.Outcome State Fault Refusal :=
  match SMap.get (fun _ => none) s.mc.shadow g with
  | none => .next s
  | some t =>
    let waiting := SMap.get (fun _ => []) s.mc.slotWait g
    let s := { s with mc := { s.mc with
        active := SMap.set (fun _ => (0, 0)) s.mc.active g t
        shadow := SMap.set (fun _ => none) s.mc.shadow g none
        slotWait := SMap.set (fun _ => []) s.mc.slotWait g [] } }
    let s := s.setFld F.MC_SLOT_CFG_PENDING 0 g
    .next (waiting.foldl (fun s k => s.releaseOp k) s)

/-! Mirrors (13 R559-R562). -/

/-- Sets mirror `m`, or frees it. -/
def State.setMirror (s : State) (m : Nat) (x : Option Mirror) : State :=
  { s with mc := { s.mc with mirrors := SMap.set (fun _ => none) s.mc.mirrors m x } }

/-- MIRROR_STATE with source 54 (R564, R565). -/
def State.mirrorEvent (s : State) (m : Nat) : State :=
  (s.raise 54).event .s 0x2407 m (s.fld F.MC_MIRROR_STATE m) (s.fld F.MC_MIRROR_REPAIRS m)

/-- Whether two ranges meet. -/
def overlap (a n b m : Nat) : Bool := decide (a < b + m) && decide (b < a + n)

/-- MIRROR_SET (R559, R563): sets a mirror, which then establishes, or begins to release one. -/
def execMirrorSet (k : Nat) (s : State) : Host.Outcome State Fault Refusal :=
  match s.opAt k 0x2402 with
  | none => .next s
  | some p =>
    let m := p.p8 0
    if p.p8 1 = 1 then
      match s.mirror m with
      | none => .next (s.endOp k St.ok)
      | some x => .next ((s.setMirror m (some { x with releasing := true })).endOp k St.deferred)
    else
      let g := p.p8 2
      let prim := p.p64 8
      let size := p.p32 16 * 0x200000
      let sec := dramBase + g * (s.usable / 4) + s.groupOff prim
      if prim < dramBase ∨ dramBase + s.usable ≤ prim then .next (s.endOp k St.range 8)
      else if s.usable / 4 < s.groupOff prim + size then .next (s.endOp k St.range 16)
      else if s.groupOf prim = g then .next (s.endOp k St.range 2)
      else if s.mirrorList.any (fun e => e.1 != m && (overlap prim size e.2.primary e.2.size || overlap prim size e.2.secondary e.2.size
          || overlap sec size e.2.primary e.2.size || overlap sec size e.2.secondary e.2.size)) then .next (s.endOp k St.range 8)
      else if (s.mirror m).isSome ∨ !RunMap.allIn s.mc.inks (wordNo sec) (wordNo (sec + size)) (fun i => i == 0) then .next (s.endOp k St.busy 0 1)
      else
        let s := s.setMirror m (some ⟨prim, sec, size, false⟩)
        let s := s.setRg (Reg.MC_MIRROR m) (BitVec.ofNat 32 (2 ^ 30 + s.groupOf prim * 2 ^ 28 + g * 2 ^ 26))
        .next (s.endOp k St.deferred)

/-- Copies a range of words with ink and POISON (R560). -/
def State.copyWords (s : State) (src dst n : Nat) : State :=
  let cells := s.mem.filter (fun c => decide (src ≤ c.1) && decide (c.1 < src + n))
  let mem := cells.foldl (fun m c => SMap.set (fun _ => 0) m (c.1 - src + dst) c.2) (SMap.clear s.mem dst (dst + n))
  let runs := s.mc.inks.filter (fun r => decide (wordNo src < r.1) && decide (r.1 < wordNo (src + n)))
  let inks := runs.foldl (fun m r => RunMap.setRange m (r.1 - wordNo src + wordNo dst) (wordNo (dst + n)) r.2)
    (RunMap.setRange s.mc.inks (wordNo dst) (wordNo (dst + n)) (s.inkAt src))
  let pois := s.mc.poison.filter (fun e => decide (wordNo src ≤ e.1) && decide (e.1 < wordNo (src + n)))
  let poison := pois.foldl (fun m e => SMap.set (fun _ => false) m (e.1 - wordNo src + wordNo dst) e.2)
    (SMap.clear s.mc.poison (wordNo dst) (wordNo (dst + n)))
  { s with mem := mem, mc := { s.mc with inks := inks, poison := poison, damage := SMap.clear s.mc.damage (wordNo dst) (wordNo (dst + n)) } }

/-- MIRROR_COPY_DONE: the copy of an establishing mirror is done, and the mirror is active (R560). -/
def execMirrorCopyDone (m : Nat) (s : State) : Host.Outcome State Fault Refusal :=
  match s.mirror m with
  | none => .next s
  | some x =>
    if s.fld F.MC_MIRROR_STATE m = 1 ∧ !x.releasing then
      .next (((s.copyWords x.primary x.secondary x.size).setFld F.MC_MIRROR_STATE 2 m).mirrorEvent m)
    else .next s

/-- MIRROR_RELEASE_DONE: the secondary range is scrubbed to ink 0 and returns to the address map (R562). -/
def execMirrorReleaseDone (m : Nat) (s : State) : Host.Outcome State Fault Refusal :=
  match s.mirror m with
  | none => .next s
  | some x =>
    if x.releasing then
      let s := (s.setMirror m none).wipe x.secondary (x.secondary + x.size) 0
      .next ((s.setFld F.MC_MIRROR_STATE 0 m).mirrorEvent m)
    else .next s

/-! RETRAIN and MEM_QUERY (13 R563). -/

/-- RETRAIN starts a retraining (R555, R563). -/
def execRetrain (k : Nat) (s : State) : Host.Outcome State Fault Refusal :=
  match s.opAt k 0x2403 with
  | none => .next s
  | some _ => .next (s.startRetrain.endOp k St.deferred)

/-- `MC_CH_STAT` with the requests in flight (R566). -/
def State.chStat (s : State) (c : Nat) : Word := putBits (s.rg (Reg.MC_CH_STAT c)) 22 16 (min 64 (s.mcQueue c).length)

/-- MEM_QUERY (R563). -/
def execMemQuery (k : Nat) (s : State) : Host.Outcome State Fault Refusal :=
  match s.opAt k 0x2404 with
  | none => .next s
  | some p =>
    let i := p.p8 1
    match p.p8 0 with
    | 0 => .next (s.endOp k St.ok (s.rg Reg.MC_CFG).toNat)
    | 1 => .next (s.endOp k St.ok (s.chStat i).toNat (s.rg (Reg.MC_CE_DATA i)).toNat (s.rg (Reg.MC_CE_META i)).toNat)
    | _ => .next (s.endOp k St.ok (s.rg (Reg.MC_SLOT_CFG i)).toNat)

end Sys2Proof.Machine
end

