-- ==== Sys2Proof/Machine/ProofOps.lean ====
section
/-! DEFINITION. Operations of the Proof units and the reserve pipe that other units call (07 R319-R323, R328), and what the etched
state of an output is (06 R286, R291). -/

namespace Sys2Proof.Machine

/-! Etched lists of an output. -/

/-- The live list of layer `k` of output `n`. -/
def State.liveList (s : State) (n k : Nat) : Option EtchList := SMap.get (fun _ => none) s.etch.live (4 * n + k)

/-- The pending list of layer `k` of output `n`. -/
def State.pendList (s : State) (n k : Nat) : Option EtchList := SMap.get (fun _ => none) s.etch.pend (4 * n + k)

/-- Whether layer `k` of output `n` holds a pending list or a pending unload (06 R306). -/
def State.pendBit (s : State) (n k : Nat) : Bool := bit (s.fld F.ETCH_OUT_STAT_PEND n) k

/-- The list of layer `k` in the checked set (06 R286). -/
def State.checkedList (s : State) (n k : Nat) : Option EtchList := if s.pendBit n k then s.pendList n k else s.liveList n k

/-- The Plate offsets of the checked set in increasing z. -/
def State.checkedSet (s : State) (n : Nat) : List Nat := (List.range 4).filterMap (fun k => (s.checkedList n k).map (·.off))

/-- Total LENGTH of the live lists of an output (07 R326). -/
def State.liveLength (s : State) (n : Nat) : Nat := (List.range 4).foldl (fun a k => a + ((s.liveList n k).map (·.len)).getD 0) 0

/-! Passes (07 R319, R322, R324). -/

/-- Whether a pass of output `n` is running. -/
def State.passRuns (s : State) (n : Nat) : Bool :=
  decide (s.fld F.PROOF_RSV_STATE = 1) && decide (s.fld F.PROOF_RSV_OUTPUT = n)

/-- The bank a finished pass left for output `n`, and whether it was for a pending set. -/
def State.passReady (s : State) (n : Nat) : Option Bool := SMap.get (fun _ => none) s.prf.ready n

/-- Records or forgets a finished pass. -/
def State.setReady (s : State) (n : Nat) (r : Option Bool) : State :=
  { s with prf := { s.prf with ready := SMap.set (fun _ => none) s.prf.ready n r } }

/-- Writes QUEUE of `PROOF_RSV` and PASS of every `PROOF_STAT` from the queue (07 R343). -/
def State.showQueue (s : State) : State :=
  let running := s.fld F.PROOF_RSV_STATE = 1
  let waiting := if running then s.prf.queue.drop 1 else s.prf.queue
  let s := s.setFld F.PROOF_RSV_QUEUE (waiting.foldl (fun a n => a ||| 2 ^ n) 0)
  (List.range 8).foldl (fun s n => s.setFlag F.PROOF_STAT_PASS (s.prf.queue.contains n) n) s

/-- Queues a pass for output `n`, in the place of one that is queued or running, which is abandoned (07 R319, R322). -/
def State.queuePass (s : State) (n : Nat) : State :=
  if !s.flag F.PROOF_CTRL_ENABLE n then s
  else
    let s := if s.passRuns n then s.setFld F.PROOF_RSV_STATE 0 else s
    let s := if s.prf.queue.contains n then s else { s with prf := { s.prf with queue := s.prf.queue ++ [n] } }
    (s.setReady n none).showQueue

/-- Takes output `n`'s pass out of the queue. -/
def State.unqueuePass (s : State) (n : Nat) : State :=
  let s := if s.passRuns n then s.setFld F.PROOF_RSV_STATE 0 else s
  ({ s with prf := { s.prf with queue := s.prf.queue.filter (fun m => m != n) } }.setReady n none).showQueue

/-! Banks (07 R315, R316, R323). -/

/-- The Plate offset of output `n`'s proof area. -/
def State.proofArea (s : State) (n : Nat) : Nat := s.fld F.PROOF_CTRL_AREA n * 4096

/-- The Plate offset of reference bank `b` of output `n`. -/
def State.proofBank (s : State) (n b : Nat) : Nat := s.proofArea n + 0x1000 + 0x11000 * b

/-- Writes to a proof area, which only the Proof unit and the reserve pipe do (07 R317). -/
def State.putPlate (s : State) (off : Nat) (l : List Byte) : State := s.putBytes (plateBase + off) l

/-- The windows of a bank with STATE `st`, bit w for window w. -/
def State.bankWindows (s : State) (n b : Nat) (p : Nat → Bool) : Nat :=
  (List.range 16).foldl (fun m w => if p (s.plate (s.proofBank n b + 16 * w + 9) 1) then m ||| 2 ^ w else m) 0

/-- Makes the bank that the last pass wrote the active one (07 R323). -/
def State.activateBank (s : State) (n : Nat) : State :=
  let b := 1 - s.fld F.PROOF_STAT_BANK n
  let s := s.setFld F.PROOF_STAT_BANK b n
  let s := s.setFld F.PROOF_STAT_UNCHECKED 0 n
  let s := s.setFld F.PROOF_WIN_ACTIVE (s.bankWindows n b (fun v => v == 1)) n
  let s := s.setFld F.PROOF_WIN_REJECTED (s.bankWindows n b (fun v => decide (2 ≤ v))) n
  s.setReady n none

/-- What a swap of output `n` does to its reference bank (07 R323). -/
def State.proofSwap (s : State) (n : Nat) : State :=
  let s := s.setFlag F.PROOF_STAT_LONG_SEEK (decide (262144 < s.liveLength n)) n
  if !s.flag F.PROOF_CTRL_ENABLE n then s
  else match s.passReady n with
    | some true => s.activateBank n
    | some false => s
    | none => if s.prf.queue.contains n then s.setFld F.PROOF_STAT_UNCHECKED 1 n else s

/-- What a frame boundary of output `n` does to its reference bank (07 R323), and to the fill colours of R328. -/
def State.proofBoundary (s : State) (n : Nat) : State :=
  let s := { s with prf := { s.prf with filling := SMap.set (fun _ => false) s.prf.filling n false } }
  match s.passReady n with
  | some false => s.activateBank n
  | some true => if s.fld F.ETCH_OUT_STAT_PEND n = 0 then s.activateBank n else s
  | none => s

end Sys2Proof.Machine
end

