-- ==== Sys2Proof/Machine/Display.lean ====
section
/-! DEFINITION. Display outputs, links, timing generators and fetched layers (05). -/

namespace Sys2Proof.Machine

/-! Outputs and slots. -/

/-- Output `n`. -/
def State.out (s : State) (n : Nat) : Output := SMap.get (fun _ => Output.idleOut) s.disp.outs n

/-- Replaces output `n`. -/
def State.setOut (s : State) (n : Nat) (o : Output) : State :=
  { s with disp := { s.disp with outs := SMap.set (fun _ => Output.idleOut) s.disp.outs n o } }

/-- Slot `l`. -/
def State.slot (s : State) (l : Nat) : SlotSt := SMap.get (fun _ => SlotSt.blank) s.disp.slots l

/-- Replaces slot `l`. -/
def State.setSlot (s : State) (l : Nat) (x : SlotSt) : State :=
  { s with disp := { s.disp with slots := SMap.set (fun _ => SlotSt.blank) s.disp.slots l x } }

/-- Whether a slot is assigned. -/
def State.slotUsed (s : State) (l : Nat) : Bool := s.flag F.DPIPE_LOWNER_VALID l

/-- The owner of a slot. -/
def State.slotOwner (s : State) (l : Nat) : Nat := s.fld F.DPIPE_LOWNER_CLIENT l

/-- The output of a slot; 15 for none. -/
def State.slotOut (s : State) (l : Nat) : Nat := s.fld F.DPIPE_LCTRL_OUTPUT l

/-- The slots assigned to output `n`. -/
def State.slotsOf (s : State) (n : Nat) : List Nat := (List.range 64).filter (fun l => s.slotUsed l && s.slotOut l == n)

/-- Whether an output is granted to a client (04 R172). -/
def State.hasOutput (s : State) (n c : Nat) : Bool := s.cl.outputs.contains (n, c)

/-- Writes an event to the mediator and to each client granted the output (R245). -/
def State.outEvent (s : State) (n code : Nat) (d0 d1 d2 d3 : Nat := 0) : State :=
  (s.cl.outputs.filter (fun e => e.1 == n)).foldl (fun s e => s.event (.client e.2) code n d0 d1 d2 d3)
    (s.event .med code n d0 d1 d2 d3)

/-- A LINK_EVENT with its source (R245, R246). -/
def State.linkEvent (s : State) (n kind : Nat) : State :=
  (s.raise (120 + n)).outEvent n 0x0806 kind (s.rg (Reg.DPTX_STAT n)).toNat

/-- A change resets the count of frames without a change (R254). -/
def State.noteChange (s : State) (n : Nat) : State := s.setOut n { s.out n with changed := true, idle := 0 }

/-! Timing (R201, R207, R208). -/

def Timing.htotal (t : Timing) : Nat := t.hact + t.hfp + t.hsy + t.hbp
def Timing.vtotal (t : Timing) : Nat := t.vact + t.vfp + t.vsy + t.vbp

/-- The shadow timing in an output's registers (R209, R211). -/
def State.shadowTiming (s : State) (n : Nat) : Timing :=
  { hpol := s.fld F.DTG_CTRL_HSYNC_POL n, vpol := s.fld F.DTG_CTRL_VSYNC_POL n
    hact := s.fld F.DTG_HSIZE_HACTIVE n, hfp := s.fld F.DTG_HSIZE_HFP n, hsy := s.fld F.DTG_HSYNC_HSYNC n, hbp := s.fld F.DTG_HSYNC_HBP n
    vact := s.fld F.DTG_VSIZE_VACTIVE n, vfp := s.fld F.DTG_VSIZE_VFP n, vsy := s.fld F.DTG_VSYNC_VSYNC n, vbp := s.fld F.DTG_VSYNC_VBP n
    num := s.fld F.DTG_PCLK_NUM_NUM n, den := s.fld F.DTG_PCLK_DEN_DEN n }

/-- Writes a timing into an output's registers. -/
def State.putTiming (s : State) (n : Nat) (t : Timing) : State :=
  let s := (s.setFld F.DTG_CTRL_HSYNC_POL t.hpol n).setFld F.DTG_CTRL_VSYNC_POL t.vpol n
  let s := (s.setFld F.DTG_HSIZE_HACTIVE t.hact n).setFld F.DTG_HSIZE_HFP t.hfp n
  let s := (s.setFld F.DTG_HSYNC_HSYNC t.hsy n).setFld F.DTG_HSYNC_HBP t.hbp n
  let s := (s.setFld F.DTG_VSIZE_VACTIVE t.vact n).setFld F.DTG_VSIZE_VFP t.vfp n
  let s := (s.setFld F.DTG_VSYNC_VSYNC t.vsy n).setFld F.DTG_VSYNC_VBP t.vbp n
  (s.setFld F.DTG_PCLK_NUM_NUM t.num n).setFld F.DTG_PCLK_DEN_DEN t.den n

/-- The first parameter of a MODE_SET that breaks R207 or R208, by its offset from P (R242): a limit on a sum names the first field of the
sum. `none` for a timing within the limits. -/
def Timing.fault (t : Timing) : Option Nat :=
  if t.hact < 320 ∨ 8192 < t.hact then some 4
  else if t.hfp < 8 then some 6
  else if t.hsy < 8 then some 8
  else if t.hbp < 8 then some 10
  else if t.htotal - t.hact < 80 then some 6
  else if 16384 < t.htotal then some 4
  else if t.vact < 200 ∨ 8192 < t.vact then some 12
  else if t.vfp < 1 then some 14
  else if t.vsy < 1 ∨ 63 < t.vsy then some 16
  else if t.vbp < 1 then some 18
  else if t.vtotal - t.vact < 8 then some 14
  else if 16383 < t.vtotal then some 12
  else if t.num < 1 ∨ 2 ^ 24 ≤ t.num then some 20
  else if t.den < 2 * t.num ∨ 2 ^ 24 ≤ t.den ∨ 4792320000 * t.num < 25000000 * t.den
      ∨ 4792320000 * t.num < 24 * t.den * t.htotal * t.vtotal ∨ 240 * t.den * t.htotal * t.vtotal < 4792320000 * t.num then some 24
  else none

/-- Per-lane bit rates in Mbit/s by `DPTX_LINK.RATE` (R200, R206). -/
def laneRate (r : Nat) : Nat :=
  match r with | 0 => 1620 | 1 => 2700 | 2 => 5400 | 3 => 8100 | 4 => 10000 | 5 => 13500 | _ => 20000

/-- Lane count by `DPTX_LINK.LANES` (R206). -/
def laneCount (l : Nat) : Nat := match l with | 0 => 1 | 1 => 2 | _ => 4

/-- Whether a mode fits its link (R201). -/
def fitsLink (t : Timing) (rate lanes bpc10 : Nat) : Bool :=
  let need := 4792320000 * t.num * 3 * (if bpc10 = 1 then 10 else 8)
  let raw := laneCount lanes * laneRate rate * 1000000
  if rate < 4 then decide (need * 1000 ≤ 784 * raw * t.den) else decide (need * 13200 ≤ 98 * 128 * raw * t.den)

/-- Whether a timing passes R201, R207 and R208 on the link settings of a `DPTX_LINK` word. -/
def modeOk (t : Timing) (link : Word) : Bool :=
  t.fault.isNone && fitsLink t (bitsOf link 27 24) (bitsOf link 23 22) (bitsOf link 21 21)

/-- The nominal frame period in ns (R244). -/
def Timing.frameNs (t : Timing) : Nat :=
  (2 * t.htotal * t.vtotal * t.den * 1000000000 + 4792320000 * t.num) / (2 * 4792320000 * t.num)

/-! Layer figures (R219-R222, R226, R229-R232). -/

/-- The shadow set of a slot in its registers. -/
def State.shadowLayer (s : State) (l : Nat) : Layer :=
  let r (a : Nat) : Nat := (s.rg a).toNat
  { ctrl := r (Reg.DPIPE_LCTRL l), addr := r (Reg.DPIPE_LADDR_LO l) + r (Reg.DPIPE_LADDR_HI l) * 2 ^ 32
    caddr := r (Reg.DPIPE_LCADDR_LO l) + r (Reg.DPIPE_LCADDR_HI l) * 2 ^ 32, pitch := r (Reg.DPIPE_LPITCH l), srcPos := r (Reg.DPIPE_LSRC_POS l)
    srcSize := r (Reg.DPIPE_LSRC_SIZE l), dstPos := r (Reg.DPIPE_LDST_POS l), dstSize := r (Reg.DPIPE_LDST_SIZE l), fill := r (Reg.DPIPE_LFILL l)
    buf := r (Reg.DPIPE_LBUF l) }

def Layer.enabled (x : Layer) : Bool := bit x.ctrl 30
def Layer.format (x : Layer) : Nat := bits x.ctrl 15 12
def Layer.srcW (x : Layer) : Nat := bits x.srcSize 15 0
def Layer.srcH (x : Layer) : Nat := bits x.srcSize 31 16
def Layer.srcX (x : Layer) : Nat := bits x.srcPos 15 0
def Layer.srcY (x : Layer) : Nat := bits x.srcPos 31 16
def Layer.dstW (x : Layer) : Nat := bits x.dstSize 15 0
def Layer.dstH (x : Layer) : Nat := bits x.dstSize 31 16

/-- L: the bytes of one source line (R229). -/
def Layer.lineBytes (x : Layer) : Nat :=
  match x.format with
  | 6 => x.srcW * 3 / 2
  | 7 => x.srcW * 3
  | f => x.srcW * planeBytes f

/-- The consumption rate in bytes per second, as a fraction (R229): L × SRC_H ÷ DST_H ÷ line period. -/
def Layer.rate (x : Layer) (t : Timing) : Nat × Nat :=
  if x.enabled then (x.lineBytes * x.srcH * 4792320000 * t.num, max 1 (x.dstH * t.htotal * t.den)) else (0, 1)

/-- The buffer fields of R229: SIZE_KIB, LOW_KIB, CRIT_KIB in their places in `DPIPE_LBUF`. -/
def Layer.buffer (x : Layer) (t : Timing) : Nat :=
  let d := max 1 (x.dstH * t.htotal * t.den)
  let n := x.lineBytes * x.srcH * t.num
  let crit := ceilDiv (n * 68530176) (d * 1000 * 1024)
  let low := crit + ceilDiv (n * 5750784) (d * 100 * 1024)
  let k := if x.srcH ≠ x.dstH then 7 else 2
  let size := max (low + ceilDiv x.lineBytes 1024) (ceilDiv (k * x.lineBytes) 1024)
  min size 1023 * 2 ^ 20 + min low 1023 * 2 ^ 10 + min crit 1023

/-- R222: source pixels per output line within eight per `CLK_PIX` of the line period. -/
def Layer.pixelsOk (x : Layer) (t : Timing) : Bool := decide (x.srcW * x.srcH * t.num ≤ t.htotal * t.den * x.dstH)

/-- R226 for one slot: CRIT < LOW < SIZE, and at least two source lines, or seven when vertically scaled. -/
def Layer.bufOk (x : Layer) : Bool :=
  let size := bits x.buf 29 20
  let k := if x.srcH ≠ x.dstH then 7 else 2
  decide (bits x.buf 9 0 < bits x.buf 19 10) && decide (bits x.buf 19 10 < size) && decide (k * x.lineBytes ≤ size * 1024)

/-- The set of a slot that counts for admission: the armed one once it is admitted, or else the live one. -/
def State.countedLayer (s : State) (l : Nat) : Layer := if (s.slot l).nextCharge.isSome then s.shadowLayer l else (s.slot l).live

/-- R226 for an output: every enabled slot's buffer is in order and together they take at most 768 KiB. -/
def State.buffersOk (s : State) (n : Nat) : Bool :=
  let l := ((s.slotsOf n).map s.countedLayer).filter Layer.enabled
  l.all Layer.bufOk && decide (l.foldl (fun a x => a + bits x.buf 29 20) 0 ≤ 768)

/-- R231: a change does not carry the reservations of the display and the S-world in any group past 32 slots, half of the group's
bandwidth. `new` is the state with the change; reservations admitted before a lower rate are kept (R558). -/
def State.isoFits (new old : State) : Bool :=
  (List.range 4).all (fun g => decide (new.isoDisp g + new.fld F.MC_SLOT_CFG_ISO_RSV g ≤ 32) || decide (new.isoDisp g ≤ old.isoDisp g))

/-- Whether a page of a byte range lies in group `g` under a client's translation (R230). -/
def State.rangeIn (s : State) (c lo n g : Nat) : Bool :=
  (List.range ((lo + n + 4095) / 4096 - lo / 4096)).any (fun i =>
    match s.translate (.client c) ((lo / 4096 + i) * 4096) false with
    | .ok pa => s.region pa == .dram && s.groupOf pa == g
    | .error _ => false)

/-- The channel groups that a layer's source range lies in (R230). -/
def State.layerGroups (s : State) (c : Nat) (x : Layer) : List Nat :=
  if x.enabled then
    (List.range 4).filter (fun g =>
      s.rangeIn c (x.addr + x.srcY * x.pitch) (x.srcH * x.pitch) g ||
        (isYuv x.format && s.rangeIn c (x.caddr + x.srcY / 2 * x.pitch) (x.srcH / 2 * x.pitch) g))
  else []

/-- Admits the armed set of a slot: its charge under a timing, on the groups of its source range (R230). -/
def State.chargeSlot (s : State) (l : Nat) (t : Timing) : State :=
  let x := s.shadowLayer l
  s.setSlot l { s.slot l with nextCharge := some (x.rate t, s.layerGroups (s.slotOwner l) x) }

/-- Recomputes the buffer fields of a slot's shadow set (R229). -/
def State.rebuffer (s : State) (l : Nat) (t : Timing) : State :=
  s.setRg (Reg.DPIPE_LBUF l) (BitVec.ofNat 32 ((s.shadowLayer l).buffer t))

/-! Applying shadow sets (R212, R213, R235, R240, R241, R251, R772). -/

/-- LAYER_FAULT to the slot's owner, at most one per frame (R245, R251). -/
def State.layerFaultEvent (s : State) (l reason line : Nat) : State :=
  let x := s.slot l
  let n := s.slotOut l
  let s := s.raise (112 + n)
  if x.faultSent then s
  else (s.setSlot l { x with faultSent := true }).event (.client (s.slotOwner l)) 0x0802 n l reason line (s.fld F.DTG_FRAME_COUNT n)

/-- Applies the armed set of one slot (R212, R235, R240, R251). A set that registers armed or changed is charged and checked anew; when it
breaks R226 or R231 it is not applied and raises LAYER_FAULT with reason 6 (R226, R232). For a set that no packet armed the TAG of
LAYER_APPLIED is a free value. -/
def State.applySlot (s : State) (l : Nat) : State :=
  let n := s.slotOut l
  let x := s.slot l
  let t := (s.out n).live
  let fresh := x.armedBy.isNone || x.written
  let tried := if fresh then s.chargeSlot l t else s
  if fresh && (!tried.buffersOk n || !tried.isoFits s) then
    ((s.setFld F.DPIPE_LCTRL_ARM 0 l).setFld F.DPIPE_LSTAT_REASON 6 l).layerFaultEvent l 6 (s.fld F.DTG_STAT_LINE n)
  else
    let s := tried
    let x := s.slot l
    let s := match x.replace with
      | some (z, pos, size) =>
        ((s.setFld F.DPIPE_LCTRL_Z z l).setRg (Reg.DPIPE_LPLACE_POS l) (BitVec.ofNat 32 pos)).setRg (Reg.DPIPE_LPLACE_SIZE l) (BitVec.ofNat 32 size)
      | none => s
    let s := s.setFld F.DPIPE_LCTRL_ARM 0 l
    let s := s.setFld F.DPIPE_LSTAT_FAULTED 0 l
    let c := x.nextCharge.getD (x.charge, x.groups)
    let s := s.setSlot l { x with live := s.shadowLayer l, armedBy := none, palLive := x.palShadow, replace := none, written := false
                                  charge := c.1, groups := c.2, nextCharge := none }
    let s := s.syncIso
    match x.armedBy with
    | some (tag, n0) => s.event (.client (s.slotOwner l)) 0x0801 n l tag n0 (s.fld F.DTG_FRAME_COUNT n)
    | none => s.fresh.event (.client (s.slotOwner l)) 0x0801 n l (s.freeBelow (2 ^ 32)) 0 (s.fld F.DTG_FRAME_COUNT n)

/-- Whether the live layers of an output stand a new timing: R222 for each, R226 and R231 with the buffers and charges it makes
(R256, R772). -/
def State.layersStand (s : State) (n : Nat) (t : Timing) : Nat :=
  let l := (s.slotsOf n).filter (fun i => (s.countedLayer i).enabled)
  if !l.all (fun i => (s.countedLayer i).pixelsOk t) then 1
  else
    let sz := l.foldl (fun a i => a + bits ((s.countedLayer i).buffer t) 29 20) 0
    if 768 < sz then 2
    else
      let s' := l.foldl (fun s i =>
        let x := s.slot i
        s.setSlot i { x with nextCharge := some ((s.countedLayer i).rate t, (x.nextCharge.map (·.2)).getD x.groups) }) s
      if s'.isoFits s then 0 else 3

/-- A new timing moves the charges and buffers of the output's slots (R229, R543, R256). -/
def State.rechargeOutput (s : State) (n : Nat) (t : Timing) : State :=
  ((s.slotsOf n).foldl (fun s i =>
    let x := s.slot i
    let live := { x.live with buf := if x.live.enabled then x.live.buffer t else x.live.buf }
    let s := s.setSlot i { x with live := live, charge := x.live.rate t
                                  nextCharge := x.nextCharge.map (fun c => ((s.shadowLayer i).rate t, c.2)) }
    s.rebuffer i t) s).syncIso

/-- Whether two timings have the same nominal frame period. -/
def Timing.samePeriod (a b : Timing) : Bool :=
  decide (a.htotal * a.vtotal * a.den * b.num = b.htotal * b.vtotal * b.den * a.num)

/-- The frame lock of an output (18 R678). -/
def State.frameLock (s : State) (n : Nat) : Option Lock := SMap.get (fun _ => none) s.dziv.locks n

/-- Replaces the frame lock of an output. -/
def State.setFrameLock (s : State) (n : Nat) (x : Option Lock) : State :=
  { s with dziv := { s.dziv with locks := SMap.set (fun _ => none) s.dziv.locks n x } }

/-- LOCK_STATE with source 340 (18 R680, R694, R695): 0 unlocked, 1 locked, 2 ended by a MODE_SET, and the error in ns. -/
def State.lockEvent (s : State) (n what : Nat) (err : Int) : State :=
  (s.raise 340).eventSM 0x3806 noInst n what ((err % (2 ^ 32 : Int)).toNat)

/-- A change of the nominal frame period ends the lock (18 R681). -/
def State.endLock (s : State) (n : Nat) : State :=
  match s.frameLock n with
  | none => s
  | some x => ((s.setFrameLock n none).setFld F.DTG_CTRL_LOCKED 0 n).lockEvent n 2 x.err

/-- Makes a timing the one in use. -/
def State.useTiming (s : State) (n : Nat) (t : Timing) : State :=
  let s := if (s.out n).live.samePeriod t then s else s.endLock n
  (s.setOut n { s.out n with live := t, nextTiming := none }).rechargeOutput n t

/-- The background in an output's registers. -/
def State.shadowBg (s : State) (n : Nat) : Nat := (s.rg (Reg.DTG_BG n)).toNat % 2 ^ 30

/-- Applies the output's own armed set: the background at once, the timing at the frame boundary; a timing that fails its checks is
not applied and MODE_REFUSED is written with DATA0 3 (R772). -/
def State.applyOutput (s : State) (n : Nat) (atBoundary : Bool) : State :=
  let o := s.out n
  let t := s.shadowTiming n
  let s := s.setFld F.DTG_APPLY_ARM 0 n
  let s := s.setOut n { o with liveBg := s.shadowBg n, changed := true, idle := 0 }
  if t = o.live then s.setOut n { s.out n with nextTiming := none }
  else if modeOk t (s.rg (Reg.DPTX_LINK n)) && s.layersStand n t == 0 then
    if atBoundary then s.useTiming n t else s.setOut n { s.out n with nextTiming := some t }
  else s.outEvent n 0x0805 3 0

/-- The armed slots of an output; at the frame boundary a slot that is being removed is left out (R248). -/
def State.armedSlots (s : State) (n : Nat) (atBoundary : Bool) : List Nat :=
  (s.slotsOf n).filter (fun l => s.flag F.DPIPE_LCTRL_ARM l && !(atBoundary && (s.slot l).leaving))

/-- Every armed set of the output applies in one cycle; apply-done source 104 + n (R212, R246). -/
def State.applyAll (s : State) (n : Nat) (atBoundary : Bool) : State :=
  let l := s.armedSlots n atBoundary
  let mine := s.flag F.DTG_APPLY_ARM n
  if l.isEmpty && !mine then s
  else
    let s := l.foldl (fun s i => s.applySlot i) s
    let s := if mine then s.applyOutput n atBoundary else s
    (s.noteChange n).raise (104 + n)

/-- Whether the apply line of an output is the frame boundary (R212). -/
def State.appliesAtBoundary (s : State) (n : Nat) : Bool := decide ((s.out n).live.vtotal ≤ s.fld F.DTG_APPLY_LINE n)

/-- APPLY_ARM: a write of `DTG_APPLY`; ARM written 1 arms the output's shadow set, a 0 has no effect; LINE is set (R209, R210). -/
def execApplyArm (who : Who) (n : Nat) (v : Word) (s : State) : Host.Outcome State Fault Refusal :=
  if s.gatedAt (Reg.DTG_APPLY n) then .next (s.refuseGated who (Reg.DTG_APPLY n))
  else if s.mayRwm who then
    let s := s.setFld F.DTG_APPLY_LINE (bitsOf v 13 0) n
    .next (if v.getLsbD 31 then s.setFld F.DTG_APPLY_ARM 1 n else s)
  else .next s

/-- LAYER_ARM: a write of `DPIPE_LCTRL`; its RWM fields go to the shadow set, and ARM written 1 arms it (R211, R213, R225). -/
def execLayerArm (who : Who) (l : Nat) (v : Word) (s : State) : Host.Outcome State Fault Refusal :=
  if s.gatedAt (Reg.DPIPE_LCTRL l) then .next (s.refuseGated who (Reg.DPIPE_LCTRL l))
  else if s.mayRwm who then
    let old := s.rg (Reg.DPIPE_LCTRL l)
    let w := putBits (putBits (putBits old 30 25 (bitsOf v 30 25)) 23 16 (bitsOf v 23 16)) 15 12 (bitsOf v 15 12)
    let s := s.setRg (Reg.DPIPE_LCTRL l) w
    let x := { s.slot l with written := true }
    if v.getLsbD 31 then
      .next ((s.setFld F.DPIPE_LCTRL_ARM 1 l).setSlot l (if s.flag F.DPIPE_LCTRL_ARM l then x else { x with armedBy := none }))
    else .next (s.setSlot l x)
  else .next s

/-- A write of another register of a slot changes its shadow set (R211). -/
def State.noteLayerWrite (s : State) (who : Who) (l : Nat) : State :=
  if s.mayRwm who then s.setSlot l { s.slot l with written := true } else s

/-! Slots: assigning, freeing, setting. -/

/-- The slots a client holds (04 R158, R160). -/
def State.slotsHeld (s : State) (c : Nat) : List Nat := (List.range 64).filter (fun l => s.slotUsed l && s.slotOwner l == c)

/-- Frees a slot: its registers and live copy return to their reset values, and LAYER_RELEASED goes to its owner when `tell`
(R236). -/
def State.freeSlot (s : State) (l : Nat) (tell : Bool) : State :=
  let c := s.slotOwner l
  let n := s.slotOut l
  let s := (List.range 16).foldl (fun s i => s.setRg (Reg.DPIPE_LCTRL l + 4 * i) (regReset (Reg.DPIPE_LCTRL l + 4 * i))) s
  let s := (s.setSlot l SlotSt.blank).syncIso
  if tell then s.event (.client c) 0x0807 n l else s

/-- LAYER_ASSIGN (R217, R235). -/
def execLayerAssign (k : Nat) (s : State) : Host.Outcome State Fault Refusal :=
  match s.opAt k 0x0803 with
  | none => .next s
  | some p =>
    let n := p.p8 1
    let c := p.p16 2
    let z := p.p8 4
    let pos := p.p16 8 + p.p16 10 * 0x10000
    let size := p.p16 12 + p.p16 14 * 0x10000
    let again := p.p8 0 ≠ 255
    let others := (s.slotsOf n).filter (fun l => !(again && l == p.p8 0))
    if !s.hasOutput n c then .next (s.endOp k St.noPermission)
    else if again ∧ !(s.slotUsed (p.p8 0) && s.slotOwner (p.p8 0) == c) then .next (s.endOp k St.range 0)
    else if again ∧ s.slotOut (p.p8 0) ≠ n then .next (s.endOp k St.range 1)
    else if !again ∧ (s.client c).layers ≤ (s.slotsHeld c).length then .next (s.endOp k St.busy 0 1)
    else if 16 ≤ others.length then .next (s.endOp k St.busy 0 2)
    else if others.any (fun l => s.fld F.DPIPE_LCTRL_Z l == z || ((s.slot l).replace.map (·.1)) == some z) then .next (s.endOp k St.busy 0 3)
    else if again then
      .next ((s.setSlot (p.p8 0) { s.slot (p.p8 0) with replace := some (z, pos, size) }).endOp k St.ok (p.p8 0))
    else match (List.range 64).find? (fun l => !s.slotUsed l) with
      | none => .next (s.endOp k St.busy 0 1)
      | some l =>
        let s := s.setRg (Reg.DPIPE_LOWNER l) (BitVec.ofNat 32 (2 ^ 31 + c))
        let s := (s.setFld F.DPIPE_LCTRL_OUTPUT n l).setFld F.DPIPE_LCTRL_Z z l
        let s := (s.setRg (Reg.DPIPE_LPLACE_POS l) (BitVec.ofNat 32 pos)).setRg (Reg.DPIPE_LPLACE_SIZE l) (BitVec.ofNat 32 size)
        let s := s.setSlot l { SlotSt.blank with live := s.shadowLayer l }
        .next ((s.setFld F.DPIPE_LSTAT_UNDERRUNS 0 l).endOp k St.ok l)

/-- LAYER_UNASSIGN (R236): at the output's next frame boundary, or at once while its timing generator is off. -/
def execLayerUnassign (k : Nat) (s : State) : Host.Outcome State Fault Refusal :=
  match s.opAt k 0x0804 with
  | none => .next s
  | some p =>
    let l := p.p8 0
    if !s.slotUsed l then .next (s.endOp k St.range 0)
    else if !s.flag F.DTG_CTRL_ENABLE (s.slotOut l) then .next ((s.freeSlot l true).endOp k St.deferred)
    else .next ((s.setSlot l { s.slot l with leaving := true }).endOp k St.deferred)

/-- Whether a ring may act on a slot: the mediator on any assigned one, a client on its own (R233). -/
def State.slotRefusal (s : State) (r : RingId) (l off : Nat) : Option (Nat × Nat) :=
  match r with
  | .client c => if s.slotUsed l && s.slotOwner l == c then none else some (St.noPermission, 0)
  | _ => if s.slotUsed l then none else some (St.range, off)

/-- Arms a slot's shadow set for a packet; an earlier packet's arming that has not applied is superseded (R241). -/
def State.armBy (s : State) (l tag : Nat) : State :=
  let x := s.slot l
  let n := match x.armedBy with
    | some (_, n) => if s.flag F.DPIPE_LCTRL_ARM l then n + 1 else 0
    | none => 0
  (s.setFld F.DPIPE_LCTRL_ARM 1 l).setSlot l { x with armedBy := some (tag, n) }

/-- The timing an output will run: an accepted mode's, one that has applied, or the live one. -/
def State.comingTiming (s : State) (n : Nat) : Timing :=
  let o := s.out n
  match o.accepted with
  | some m => if m.off then o.live else m.timing
  | none => o.nextTiming.getD o.live

/-- Writes a register from a number. -/
def State.put32 (s : State) (a v : Nat) : State := s.setRg a (BitVec.ofNat 32 v)

/-- The shadow set of a LAYER_SET in the registers of slot `l`, armed for its packet and charged under the coming timing (R229, R237, R240). -/
def State.writeLayer (s : State) (p : Started) (l : Nat) : State :=
  let t := s.comingTiming (s.slotOut l)
  let o := p.p8 2
  let ctrl := (if bit o 0 then 2 ^ 30 else 0) + (if bit o 1 then 2 ^ 29 else 0) + bits o 3 2 * 2 ^ 27 + (if bit o 4 then 2 ^ 26 else 0)
    + (if bit o 5 then 2 ^ 25 else 0) + p.p8 3 * 2 ^ 16 + p.p8 1 * 2 ^ 12
  let old := s.rg (Reg.DPIPE_LCTRL l)
  let s := s.put32 (Reg.DPIPE_LCTRL l) (ctrl + old.toNat % 2 ^ 12 + bitsOf old 31 31 * 2 ^ 31)
  let s := (s.put32 (Reg.DPIPE_LADDR_LO l) (p.p32 8)).put32 (Reg.DPIPE_LADDR_HI l) (p.p16 12)
  let s := (s.put32 (Reg.DPIPE_LCADDR_LO l) (p.p32 16 / 64 * 64)).put32 (Reg.DPIPE_LCADDR_HI l) (p.p16 20)
  let s := s.put32 (Reg.DPIPE_LPITCH l) (p.p16 4)
  let s := (s.put32 (Reg.DPIPE_LSRC_POS l) (p.p32 24)).put32 (Reg.DPIPE_LSRC_SIZE l) (p.p32 28)
  let s := (s.put32 (Reg.DPIPE_LDST_POS l) (p.p32 32)).put32 (Reg.DPIPE_LDST_SIZE l) (p.p32 36)
  let s := s.put32 (Reg.DPIPE_LFILL l) (p.p32 40)
  let s := s.setSlot l { s.slot l with written := false }
  ((s.rebuffer l t).armBy l p.pkt.tag).chargeSlot l t

/-- LAYER_SET (R220-R222, R226, R229, R232, R237, R240). -/
def execLayerSet (k : Nat) (s : State) : Host.Outcome State Fault Refusal :=
  match s.opAt k 0x0805 with
  | none => .next s
  | some p =>
    let l := p.p8 0
    match s.slotRefusal p.ring l 0 with
    | some (st, r0) => .next (s.endOp k st r0)
    | none =>
      let n := s.slotOut l
      let t := s.comingTiming n
      let s1 := s.writeLayer p l
      let x := s1.shadowLayer l
      if !x.pixelsOk t then .next (s.endOp k St.range 28)
      else if !s1.buffersOk n then .next (s.endOp k St.busy 0 4)
      else if !s1.isoFits s then .next (s.endOp k St.busy 0 5)
      else .next (s1.syncIso.endOp k St.deferred)

/-- The slots' new source addresses of a FLIP, armed for its packet and charged (R238, R240); `ents` are the offsets of its entries. -/
def State.writeFlip (s : State) (p : Started) (ents : List Nat) : State :=
  ents.foldl (fun (s : State) o =>
    let l := p.p8 (8 + o)
    let s := (s.put32 (Reg.DPIPE_LADDR_LO l) (p.p32 (16 + o))).put32 (Reg.DPIPE_LADDR_HI l) (p.p16 (20 + o))
    let s := (s.put32 (Reg.DPIPE_LCADDR_LO l) (p.p32 (24 + o) / 64 * 64)).put32 (Reg.DPIPE_LCADDR_HI l) (p.p16 (28 + o))
    (s.armBy l p.pkt.tag).chargeSlot l (s.comingTiming (s.slotOut l))) s

/-- The offsets of a FLIP's entries from P + 8 (R238). -/
def flipEntries (p : Started) : List Nat := (List.range (p.p8 0)).map (fun i => 24 * i)

/-- FLIP (R232, R238, R240): new source addresses for 1-4 slots, armed together. -/
def execFlip (k : Nat) (s : State) : Host.Outcome State Fault Refusal :=
  match s.opAt k 0x0806 with
  | none => .next s
  | some p =>
    let ents := flipEntries p
    match ents.findSome? (fun o => s.slotRefusal p.ring (p.p8 (8 + o)) (8 + o)) with
    | some (st, r0) => .next (s.endOp k st r0)
    | none =>
      let s1 := s.writeFlip p ents
      match ents.find? (fun o => isYuv (s.shadowLayer (p.p8 (8 + o))).format && p.p64 (24 + o) % 64 != 0) with
      | some o => .next (s.endOp k St.range (24 + o))
      | none => if s1.isoFits s then .next (s1.syncIso.endOp k St.deferred) else .next (s.endOp k St.busy 0 5)

/-- PALETTE_SET (R239, R240): reads the table under the submitter's identity into the slot's shadow palette and arms the slot. -/
def execPaletteSet (k : Nat) (s : State) : Host.Outcome State Fault Refusal :=
  match s.opAt k 0x0807 with
  | none => .next s
  | some p =>
    let l := p.p8 0
    match s.slotRefusal p.ring l 0 with
    | some (st, r0) => .next (s.endOp k st r0)
    | none =>
      match s.unitRead (ringWho p.ring) (p.p64 8) 1024 with
      | (.error 4, s) => .next (s.endOp k St.frozen)
      | (.error 5, s) => .next (s.endOp k St.frozen)
      | (.error _, s) => .next (s.endOp k St.range 8)
      | (.ok b, s) =>
        let s := s.setSlot l { s.slot l with palShadow := b }
        .next ((s.armBy l p.pkt.tag).endOp k St.deferred)

/-! Faults and underruns (R228, R245, R250, R251). -/

/-- LAYER_FETCH_FAULT: reasons 1, 2 and 5 set FAULTED until the slot's next apply; a fenced group's charge lapses (R250, R251, R557). -/
def execLayerFetchFault (l reason line : Nat) (s : State) : Host.Outcome State Fault Refusal :=
  if s.slotUsed l && (s.slot l).live.enabled && !s.flag F.DPIPE_LSTAT_FAULTED l && decide (1 ≤ reason) && decide (reason ≤ 5) then
    let s := s.setFld F.DPIPE_LSTAT_REASON reason l
    let s := if reason = 1 ∨ reason = 2 ∨ reason = 5 then s.setFld F.DPIPE_LSTAT_FAULTED 1 l else s
    let s := if reason = 5 then (s.setSlot l { s.slot l with charge := (0, 1), groups := [] }).syncIso else s
    .next (s.layerFaultEvent l reason line)
  else .next s

/-- LAYER_UNDERRUN: the line is counted; the event follows at the frame boundary with the frame's count (R228, R245, R251). -/
def execLayerUnderrun (l line : Nat) (s : State) : Host.Outcome State Fault Refusal :=
  if s.slotUsed l && (s.slot l).live.enabled && !s.flag F.DPIPE_LSTAT_FAULTED l then
    let x := s.slot l
    let s := s.satInc F.DPIPE_LSTAT_UNDERRUNS l
    let s := s.setSlot l { x with underLines := x.underLines + 1, underFirst := if x.underLines = 0 then line else x.underFirst }
    .next (s.raise (112 + s.slotOut l))
  else .next s

/-! Link training and plug events (R202-R205). -/

/-- Starts a training series; while no sink is there it makes no attempt and waits for the plug (R202). -/
def State.startTraining (s : State) (n : Nat) : State :=
  let s := s.setFld F.DPTX_STAT_TRAINED 0 n
  if s.flag F.DPTX_STAT_HPD n then
    let black := (s.out n).black.map (fun b => (b.1, true))
    (s.setFld F.DPTX_STAT_FAILS 0 n).setOut n
      { s.out n with training := some 0, trainDue := false, stream := false, resuming := false, black := black }
  else s.setOut n { s.out n with training := none, trainDue := true, stream := false, resuming := false }

/-- The value of `DPTX_LINK` after a write: reserved RATE and LANES values leave their fields (R206). -/
def linkWrite (old v : Word) : Word :=
  let w := if bitsOf v 27 24 < 7 then putBits old 27 24 (bitsOf v 27 24) else old
  let w := if bitsOf v 23 22 < 3 then putBits w 23 22 (bitsOf v 23 22) else w
  putBits (putBits w 21 18 (bitsOf v 21 18)) 11 7 (bitsOf v 11 7)

/-- DPTX_TRAIN: a write of `DPTX_LINK`; while the timing generator is enabled only AUDIO is taken (R202, R206). -/
def execDptxTrain (who : Who) (n : Nat) (v : Word) (s : State) : Host.Outcome State Fault Refusal :=
  if s.gatedAt (Reg.DPTX_LINK n) then .next (s.refuseGated who (Reg.DPTX_LINK n))
  else if !(who == .s || who == .med) then .next s
  else if s.flag F.DTG_CTRL_ENABLE n then .next (if s.mayRwm who then s.setFld F.DPTX_LINK_AUDIO (bitsOf v 18 18) n else s)
  else
    let s := if s.mayRwm who then s.setRg (Reg.DPTX_LINK n) (linkWrite (s.rg (Reg.DPTX_LINK n)) v) else s
    .next (if v.getLsbD 31 then s.startTraining n else s)

/-- The link of an output is trained at its configured rate and lanes; the stream returns at the next frame boundary (R202, R206). -/
def State.linkTrained (s : State) (n : Nat) : State :=
  let rate := s.fld F.DPTX_LINK_RATE n
  let lanes := s.fld F.DPTX_LINK_LANES n
  let s := (s.setFld F.DPTX_STAT_TRAINED 1 n).setFld F.DPTX_STAT_RATE rate n
  let s := (s.setFld F.DPTX_STAT_LANES lanes n).setFld F.DPTX_STAT_FAILS 0 n
  s.setOut n { s.out n with training := none, resuming := s.flag F.DTG_CTRL_ENABLE n }

/-- TRAINING_ATTEMPT_END: trained, tried again, or after the third failure given up with LINK_EVENT of kind 5 (R202). -/
def execTrainingAttemptEnd (n : Nat) (ok : Bool) (s : State) : Host.Outcome State Fault Refusal :=
  let o := s.out n
  match o.training with
  | none => .next s
  | some a =>
    if ok then .next ((s.linkTrained n).linkEvent n 6)
    else
      let s := s.setFld F.DPTX_STAT_FAILS (a + 1) n
      if 2 ≤ a then .next ((s.setOut n { o with training := none, black := none }).linkEvent n 5)
      else .next (s.setOut n { o with training := some (a + 1) })

/-- HPD_UNPLUG: the transmitter stops; the timing generator runs on (R203, R205). -/
def execHpdUnplug (n : Nat) (s : State) : Host.Outcome State Fault Refusal :=
  if s.flag F.DPTX_STAT_HPD n then
    let s := ((s.setFld F.DPTX_STAT_HPD 0 n).setFld F.DPTX_STAT_TRAINED 0 n).setFld F.DPTX_STAT_LOST 1 n
    .next ((s.setOut n { s.out n with stream := false, resuming := false, training := none, trainDue := true }).linkEvent n 2)
  else .next s

/-- HPD_PLUG: the WX8 trains at the configured settings (R202, R203). -/
def execHpdPlug (n : Nat) (s : State) : Host.Outcome State Fault Refusal :=
  if s.flag F.DPTX_STAT_HPD n then .next s
  else .next (((s.setFld F.DPTX_STAT_HPD 1 n).linkEvent n 1).startTraining n)

/-- IRQ_HPD: the lane status is read; `lost` says that a lane has lost lock, and the link is retrained (R204). -/
def execIrqHpd (n : Nat) (lost : Bool) (s : State) : Host.Outcome State Fault Refusal :=
  if s.flag F.DPTX_STAT_HPD n then
    let s := (s.setFld F.DPTX_STAT_IRQ_HPD 1 n).linkEvent n 3
    if lost && s.flag F.DPTX_STAT_TRAINED n then .next ((((s.setFld F.DPTX_STAT_LOST 1 n).setFld F.DPTX_STAT_TRAINED 0 n).linkEvent n 4).startTraining n)
    else .next s
  else .next s

/-! Starting and stopping a timing generator (R261, R772, R773). -/

/-- The line count of an output advances again (17 R636 class 7). -/
def State.unstall (s : State) (n : Nat) : State :=
  if bit s.flt.stalled n then { s with flt := { s.flt with stalled := s.flt.stalled - 2 ^ n } } else s

/-- Starts the timing generator at line 0 of its first frame (R772, R773); the stream runs where the link is trained. -/
def State.startOutput (s : State) (n : Nat) : State :=
  let s := s.setFld F.DTG_CTRL_ENABLE 1 n
  let s := (s.setFld F.DTG_STAT_LINE 0 n).setFld F.DTG_STAT_VBLANK 0 n
  let s := (s.setFld F.DTG_STAT_STRETCH 0 n).unstall n
  s.setOut n { s.out n with idle := 0, changed := true, lowref := (s.rg (Reg.DTG_LOWREF n)).toNat
                            audio := s.flag F.DPTX_LINK_AUDIO n, nextTiming := none, ending := false }

/-! Modes (R242, R256-R261, R773). -/

/-- The mode a MODE_SET asks for (R242). -/
def modeOf (p : Started) (old : Word) : Mode :=
  let o := p.p8 1
  let lanes := match p.p8 3 with | 1 => 0 | 2 => 1 | _ => 2
  let link := putBits (putBits (putBits (putBits (putBits (putBits old 27 24 (p.p8 2)) 23 22 lanes) 21 21 (bits o 0 0)) 20 20 (bits o 1 1))
    19 19 (bits o 2 2)) 18 18 (bits o 3 3)
  { timing := { hpol := bits o 4 4, vpol := bits o 5 5, hact := p.p16 4, hfp := p.p16 6, hsy := p.p16 8, hbp := p.p16 10
                vact := p.p16 12, vfp := p.p16 14, vsy := p.p16 16, vbp := p.p16 18, num := p.p32 20, den := p.p32 24 }
    link := link.toNat, tag := p.pkt.tag, off := bit o 7 }

/-- The link configuration of a `DPTX_LINK` word: RATE, LANES, BPC10 and SSC (R256). -/
def linkConfig (v : Word) : Nat := bitsOf v 27 20

/-- A mode that changes HACTIVE, VACTIVE or BPC10 and takes effect queues a proof pass (07 R319). -/
def State.modePass (s : State) (n : Nat) (m : Mode) (old : State) : State :=
  let o := (old.out n).live
  if o.hact ≠ m.timing.hact ∨ o.vact ≠ m.timing.vact ∨ old.fld F.DPTX_LINK_BPC10 n ≠ bits m.link 21 21 then s.queuePass n else s

/-- Puts a mode into effect (R257, R258, R773): its timing, its link settings and, when the link configuration changes or no link is
trained in it, a training series during which the stream is off. -/
def State.enterMode (s : State) (n : Nat) (m : Mode) : State :=
  let new := BitVec.ofNat 32 m.link
  let keep := decide (linkConfig new = linkConfig (s.rg (Reg.DPTX_LINK n)))
  let old := s
  let s := (s.putTiming n m.timing).setRg (Reg.DPTX_LINK n) new
  let s := (s.useTiming n m.timing).modePass n m old
  let s := (s.setOut n { s.out n with accepted := none, audio := new.getLsbD 18 }).noteChange n
  if keep && s.flag F.DPTX_STAT_TRAINED n then
    (s.setOut n { s.out n with stream := true }).outEvent n 0x0804 (s.fld F.DTG_FRAME_COUNT n) 0 0
  else (s.setOut n { s.out n with black := some (s.cyc, true) }).startTraining n

/-- Accepts a mode (R256-R261, R773): at once while the timing generator is off, when an OFF changes nothing; otherwise at the next frame
boundary. -/
def State.acceptMode (s : State) (n : Nat) (m : Mode) : State :=
  if m.off then (if s.flag F.DTG_CTRL_ENABLE n then s.setOut n { s.out n with accepted := some m } else s)
  else if s.flag F.DTG_CTRL_ENABLE n then s.setOut n { s.out n with accepted := some m }
  else
    let new := BitVec.ofNat 32 m.link
    let ready := s.flag F.DPTX_STAT_TRAINED n && decide (linkConfig new = linkConfig (s.rg (Reg.DPTX_LINK n)))
    let old := s
    let s := (s.putTiming n m.timing).setRg (Reg.DPTX_LINK n) new
    let s := ((s.useTiming n m.timing).modePass n m old).startOutput n
    if ready then s.setOut n { s.out n with resuming := true, black := some (s.cyc, false), accepted := none }
    else (s.setOut n { s.out n with black := some (s.cyc, true), accepted := none }).startTraining n

/-- Ends a held MODE_SET with MODE_REFUSED (R245, R260). -/
def State.refuseHeld (s : State) (n why : Nat) : State :=
  match (s.out n).held with
  | none => s
  | some m => (s.setOut n { s.out n with held := none }).outEvent n 0x0805 why m.tag

/-- The first parameter of a MODE_SET out of its range, by its offset (R201, R207, R208, R242). -/
def Mode.fault (m : Mode) (p : Started) : Option Nat :=
  if 6 < p.p8 2 then some 2
  else if !([1, 2, 4].contains (p.p8 3)) then some 3
  else match m.timing.fault with
    | some o => some o
    | none => if modeOk m.timing (BitVec.ofNat 32 m.link) then none else some 2

/-- Holds a MODE_SET of a claimed output for the S-world: source 169 and MODE_HELD (R260; 06 R304, R305). With OFF the other fields are
ignored, and what MODE_HELD carries of them are free values. -/
def State.holdMode (s : State) (n : Nat) (p : Started) (m : Mode) : State :=
  let s := (s.setOut n { s.out n with held := some m }).raise 169
  if m.off then
    let rate := s.freeBelow 65536
    let s := s.fresh
    let size := s.freeBelow (2 ^ 32)
    let s := s.fresh
    let period := s.freeBelow (2 ^ 32)
    s.fresh.event .s 0x0C04 n m.tag (rate * 65536 + p.p8 1) size period
  else
    s.event .s 0x0C04 n m.tag (p.p8 2 * 2 ^ 24 + p.p8 3 * 65536 + p.p8 1) (m.timing.hact + m.timing.vact * 65536) (m.timing.frameNs % 2 ^ 32)

/-- MODE_SET (R242, R256-R261, R773). -/
def execModeSet (k : Nat) (s : State) : Host.Outcome State Fault Refusal :=
  match s.opAt k 0x0801 with
  | none => .next s
  | some p =>
    let n := p.p8 0
    let m := modeOf p (s.rg (Reg.DPTX_LINK n))
    if m.off && !s.flag F.DTG_CTRL_ENABLE n then .next (s.endOp k St.ok)
    else
      let bad := if m.off then none else m.fault p
      match bad with
      | some o => .next (s.endOp k St.range o)
      | none =>
        let why := if m.off then 0 else s.layersStand n m.timing
        if why = 1 then .next (s.endOp k St.range)
        else if why = 2 then .next (s.endOp k St.busy 0 4)
        else if why = 3 then .next (s.endOp k St.busy 0 5)
        else
          let s := s.refuseHeld n 2
          if s.claimed (11 + n) then .next ((s.holdMode n p m).endOp k St.deferred)
          else .next ((s.acceptMode n m).endOp k St.deferred)

/-! Queries and AUX (R243, R244). -/

/-- OUTPUT_QUERY (R233, R244). -/
def execOutputQuery (k : Nat) (s : State) : Host.Outcome State Fault Refusal :=
  match s.opAt k 0x0800 with
  | none => .next s
  | some p =>
    let n := p.p8 0
    let allowed := match p.ring with | .client c => s.hasOutput n c | _ => true
    if !allowed then .next (s.endOp k St.noPermission)
    else
      let t := (s.out n).live
      .next (s.endOp k St.ok (s.rg (Reg.DTG_STAT n)).toNat (s.rg (Reg.DPTX_STAT n)).toNat (t.hact + t.vact * 0x10000) (t.frameNs % 2 ^ 32))

/-- How many packets of its ring lie between a started packet and the head: the greater, the earlier. -/
def State.ageInRing (s : State) (p : Started) : Nat :=
  let x := s.ring p.ring
  (x.sqHead + 2 ^ x.sqLog - p.pkt.index) % 2 ^ x.sqLog

/-- Whether an earlier AUX_XFER of the packet's ring to the same output has not ended (R243). -/
def State.auxWaits (s : State) (k : Nat) (p : Started) : Bool :=
  s.busyPlaces.any (fun e => e.1 != k && e.2.pkt.opcode == 0x0802 && e.2.result.isNone && decide (e.2.ring = p.ring) && e.2.p8 0 == p.p8 0
    && decide (s.ageInRing p < s.ageInRing e.2))

/-- AUX_XFER: `reply` is what the sink answers; the transactions of an output run in ring order (R243). -/
def execAuxXfer (k : Nat) (reply : AuxReply) (s : State) : Host.Outcome State Fault Refusal :=
  match s.opAt k 0x0802 with
  | none => .next s
  | some p =>
    if s.auxWaits k p then .next s
    else match reply with
    | .ack data =>
      let d := if p.p8 1 = 0 ∨ p.p8 1 = 2 then data.take (p.p8 2) else []
      .next (s.endOp k St.ok (leAt d 0 4) (leAt d 4 4) (leAt d 8 4) (leAt d 12 4))
    | .nack => .next (s.endOp k St.range 1)
    | .deferred => .next (s.endOp k St.busy 2)
    | .silent => .next (s.endOp k St.busy 2)

/-! The frame boundary's part of the display (R209, R236, R253-R258, R261). -/

/-- The low rate of R252 in Hz. -/
def lowRate (lowref : Nat) : Nat := max (max (bits lowref 7 0) (bits lowref 15 8)) 10

/-- Whether an output may stretch its frames (R252), and by at least one line: one period of the low rate is no shorter than the nominal
frame with one line more (R253). -/
def State.mayStretch (s : State) (n : Nat) : Bool :=
  let o := s.out n
  bit o.lowref 31 && s.flag F.DPTX_LINK_ASYNC n && !s.flag F.DTG_CTRL_LOCKED n
    && decide (lowRate o.lowref * o.live.htotal * (o.live.vtotal + 1) * o.live.den ≤ 4792320000 * o.live.num)

/-- Ends the frame: LAYER_UNDERRUN for slots that ran dry, and the per-frame marks are cleared (R245, R251). -/
def State.endFrameSlots (s : State) (n : Nat) : State :=
  (s.slotsOf n).foldl (fun s l =>
    let x := s.slot l
    let s := if x.underLines ≠ 0 then
        s.event (.client (s.slotOwner l)) 0x0803 n l x.underLines x.underFirst (s.fld F.DTG_FRAME_COUNT n)
      else s
    s.setSlot l { s.slot l with faultSent := false, underLines := 0, underFirst := 0 }) s

/-- Removes the slots that leave at this boundary (R236, R248). -/
def State.releaseSlots (s : State) (n : Nat) : State :=
  (s.slotsOf n).foldl (fun s l => if (s.slot l).leaving then s.freeSlot l true else s) s

/-- The frame is counted and the settings that wait for the boundary take effect: applied timing, LOWREF, AUDIO, an accepted mode,
the stream's return (R209, R256-R258, R261, R772). -/
def State.boundarySettings (s : State) (n : Nat) : State :=
  let o := s.out n
  let s := match o.nextTiming with
    | some t => s.useTiming n t
    | none => s
  let o := s.out n
  let lowref := (s.rg (Reg.DTG_LOWREF n)).toNat
  let audio := s.flag F.DPTX_LINK_AUDIO n
  let s := if lowref ≠ o.lowref ∨ audio ≠ o.audio then (s.setOut n { o with lowref := lowref, audio := audio }).noteChange n else s
  match (s.out n).accepted with
  | some m =>
    if m.off then
      let s := s.setFld F.DTG_CTRL_ENABLE 0 n
      s.setOut n { s.out n with accepted := none, stream := false, resuming := false, black := none }
    else s.enterMode n m
  | none =>
    let o := s.out n
    if o.resuming then
      let s := s.setOut n { o with resuming := false, stream := true, black := none }
      match o.black with
      | some (c, trained) => s.outEvent n 0x0804 (s.fld F.DTG_FRAME_COUNT n) (if trained then 1 else 0) (if trained then s.usSince c else 0)
      | none => s
    else s

/-- Counts the frame that ends, with or without a change (R253). -/
def State.countIdle (s : State) (n : Nat) : State :=
  let o := s.out n
  s.setOut n { o with idle := if o.changed then 0 else o.idle + 1, changed := false, ending := false }

/-- Decides whether the frame that begins is stretched (R253, R255; 19 R704 in Dim). -/
def State.chooseStretch (s : State) (n : Nat) : State :=
  let o := s.out n
  let need := if s.fld F.PWR_STATE_STATE = 1 then 1 else max 1 (bits o.lowref 23 16)
  s.setFlag F.DTG_STAT_STRETCH (s.mayStretch n && decide (need ≤ o.idle)) n

end Sys2Proof.Machine
end

