-- ==== Sys2Proof/Machine/Etched.lean ====
section
/-! DEFINITION. Etched layers: page locks, lists, swaps, blink (06). -/

namespace Sys2Proof.Machine

/-! Locks and lists (R267, R269, R291). -/

/-- Adds to the lock counts of pages, or takes from them (R267). -/
def State.lockPages (s : State) (pages : List Nat) (up : Bool) : State :=
  pages.foldl (fun s p =>
    let c := s.lockCount p
    { s with etch := { s.etch with locks := SMap.set (fun _ => 0) s.etch.locks p (if up then c + 1 else c - 1) } }) s

/-- Releases a list of layer index `j`: its pages are unlocked and LIST_RELEASED is written (R269). -/
def State.releaseList (s : State) (j : Nat) (x : EtchList) : State :=
  (s.lockPages x.pages false).event .s 0x0C02 (j / 4) x.off (j % 4)

/-- LIST_RELEASE: a list that has left the live state and that no pipe reads any more is released (R269). -/
def execListRelease (i : Nat) (s : State) : Host.Outcome State Fault Refusal :=
  match s.etch.retiring[i]? with
  | none => .next s
  | some e => .next ({ s with etch := { s.etch with retiring := s.etch.retiring.eraseIdx i } }.releaseList e.1 e.2)

/-- Puts a list into the live state of a layer, or empties it, with its register and LIVE bit. -/
def State.setLive (s : State) (j : Nat) (x : Option EtchList) : State :=
  let s := { s with etch := { s.etch with live := SMap.set (fun _ => none) s.etch.live j x } }
  let s := s.setRg (Reg.ETCH_LIVE j) (match x with | some l => BitVec.ofNat 32 (2 ^ 31 + l.off) | none => 0)
  let m := s.fld F.ETCH_OUT_STAT_LIVE (j / 4)
  s.setFld F.ETCH_OUT_STAT_LIVE (if x.isSome then m ||| 2 ^ (j % 4) else m - m % 2 ^ (j % 4 + 1) + m % 2 ^ (j % 4)) (j / 4)

/-- Writes the pending state of a layer: its list if it has one, its register and PEND bit. -/
def State.setPend (s : State) (j : Nat) (held : Bool) (x : Option EtchList) : State :=
  let s := { s with etch := { s.etch with pend := SMap.set (fun _ => none) s.etch.pend j x } }
  let s := s.setRg (Reg.ETCH_PEND j) (match x with | some l => BitVec.ofNat 32 (2 ^ 31 + l.off) | none => 0)
  let m := s.fld F.ETCH_OUT_STAT_PEND (j / 4)
  s.setFld F.ETCH_OUT_STAT_PEND (if held then m ||| 2 ^ (j % 4) else m - m % 2 ^ (j % 4 + 1) + m % 2 ^ (j % 4)) (j / 4)

/-- The greatest counts of an output's checked set (R290): edges, glyph spans, bitmap spans. -/
def State.etchPeaks (s : State) (n : Nat) : Nat × Nat × Nat :=
  let l := s.checkedSet n
  (peakOf (s.spansOf State.edgeSpans l), peakOf (s.spansOf State.glyphSpans l), peakOf (s.spansOf State.bitmapSpans l))

/-- Brings `ETCH_PEAK` to the checked set (R290, R306). -/
def State.showPeaks (s : State) (n : Nat) : State :=
  let p := s.etchPeaks n
  ((s.setFld F.ETCH_PEAK_EDGES p.1 n).setFld F.ETCH_PEAK_GLYPHS p.2.1 n).setFld F.ETCH_PEAK_BITMAPS p.2.2 n

/-- Makes a pending entry on a layer, a list or an unload; a list it replaces was never shown and is released at once (R291). -/
def State.makePending (s : State) (j : Nat) (x : Option EtchList) : State :=
  let old := if s.pendBit (j / 4) (j % 4) then s.pendList (j / 4) (j % 4) else none
  let s := s.setPend j true x
  match old with
  | some l => s.releaseList j l
  | none => s

/-! Swaps (R292-R296, R309). -/

/-- Arms the swap of an output; one that is armed stays as it is (R300). -/
def State.armSwap (s : State) (n tag : Nat) : State :=
  if s.flag F.ETCH_OUT_STAT_SWAP_ARMED n then s
  else
    let s := s.setFld F.ETCH_OUT_STAT_SWAP_ARMED 1 n
    { s with etch := { s.etch with armedBy := SMap.set (fun _ => none) s.etch.armedBy n (some tag) } }

/-- A list of layer index `j` leaves the live state (R269). -/
def State.retireLive (s : State) (j : Nat) : State :=
  match s.liveList (j / 4) (j % 4) with
  | none => s
  | some l => { s.setLive j none with etch := { (s.setLive j none).etch with retiring := s.etch.retiring ++ [(j, l)] } }

/-- One layer's part in a swap: its pending entry becomes live, and a start-up list goes in any case (R292, R309); a layer that an
uncorrectable word had made transparent shows again (17 R638). -/
def State.swapLayer (s : State) (j : Nat) : State :=
  let s := if bit s.etch.dark j then { s with etch := { s.etch with dark := s.etch.dark - 2 ^ j } } else s
  if s.pendBit (j / 4) (j % 4) then
    let x := s.pendList (j / 4) (j % 4)
    ((s.retireLive j).setLive j x).setPend j false none
  else match s.liveList (j / 4) (j % 4) with
    | some l => if l.startup then s.retireLive j else s
    | none => s

/-- A swap of output `n` takes effect (R292, R304, R309; R254). -/
def State.swapOutput (s : State) (n : Nat) : State :=
  let tag := (SMap.get (fun _ => none) s.etch.armedBy n).getD 0
  let startup := s.fld F.ETCH_OUT_STAT_STARTUP n
  let s := (List.range 4).foldl (fun s k => s.swapLayer (4 * n + k)) s
  let s := (s.setFld F.ETCH_OUT_STAT_SWAP_ARMED 0 n).setFld F.ETCH_OUT_STAT_STARTUP 0 n
  let s := { s with etch := { s.etch with armedBy := SMap.set (fun _ => none) s.etch.armedBy n none } }
  let s := s.setFld F.ETCH_OUT_STAT_SWAPS ((s.fld F.ETCH_OUT_STAT_SWAPS n + 1) % 0x10000) n
  let s := if startup = 1 then s.showPeaks n else s
  let s := ((s.proofSwap n).noteChange n).raise (160 + n)
  s.event .s 0x0C01 n (s.fld F.ETCH_OUT_STAT_LIVE n + 16 * startup) (s.fld F.DTG_FRAME_COUNT n) tag

/-- The swap of an output, if one is armed. -/
def State.swapIfArmed (s : State) (n : Nat) : State := if s.flag F.ETCH_OUT_STAT_SWAP_ARMED n then s.swapOutput n else s

/-- APPLY_LINE (05 R212, R255): while the timing generator runs and its apply line is not the frame boundary, every armed set of the output
applies; in a stretched frame at the start of the next line, whatever the apply line, an armed etched swap with it (R293), and the porch
then ends. -/
def execApplyLine (n : Nat) (s : State) : Host.Outcome State Fault Refusal :=
  if !s.flag F.DTG_CTRL_ENABLE n || s.pwr.retained then .next s
  else
    let stretched := s.flag F.DTG_STAT_STRETCH n
    let any := s.flag F.DTG_APPLY_ARM n || !(s.armedSlots n false).isEmpty || s.flag F.ETCH_OUT_STAT_SWAP_ARMED n
    if stretched && any then
      let s := (s.applyAll n false).swapIfArmed n
      .next (s.setOut n { s.out n with ending := true })
    else if stretched || s.appliesAtBoundary n then .next s
    else .next (s.applyAll n false)

/-! Class 0x03 (R297-R303). -/

/-- LIST_LOAD goes to the list checker (R289, R298). -/
def execListLoad (k : Nat) (s : State) : Host.Outcome State Fault Refusal :=
  match s.opAt k 0x0C00 with
  | none => .next s
  | some _ =>
    if s.etch.checker.contains k then .next s
    else .next { s with etch := { s.etch with checker := s.etch.checker ++ [k] } }

/-- LIST_UNLOAD takes its place at the checker; one of no layers completes at once (R289, R299). -/
def execListUnload (k : Nat) (s : State) : Host.Outcome State Fault Refusal :=
  match s.opAt k 0x0C01 with
  | none => .next s
  | some p =>
    if p.p8 1 = 0 then .next (s.endOp k St.ok)
    else if s.etch.checker.contains k then .next s
    else .next { s with etch := { s.etch with checker := s.etch.checker ++ [k] } }

/-- The end of an accepted load or unload: the peaks of the new checked set, the pass, and SWAP of its OPTIONS (R290, R297; 07 R319). -/
def State.listAccepted (s : State) (k n : Nat) (p : Started) : State :=
  let s := (s.showPeaks n).queuePass n
  let pk := s.etchPeaks n
  if bit (p.p8 2) 0 then (s.armSwap n p.pkt.tag).endOp k St.deferred 0 pk.1 pk.2.1 pk.2.2
  else s.endOp k St.ok 0 pk.1 pk.2.1 pk.2.2

/-- The checker on a LIST_LOAD: accepted and locked, or refused with the reason and nothing changed (R267, R288, R291). -/
def State.checkLoad (s : State) (k : Nat) (p : Started) : State :=
  let n := p.p8 0
  let layer := p.p8 1
  let off := p.p32 4
  let others := (List.range 4).filterMap (fun i => if i = layer then none else (s.checkedList n i).map (·.off))
  match s.checkList off others with
  | some r => s.endOp k (if r.reason = 2 then St.checkFailed else St.range) 0 r.off r.reason r.line
  | none =>
    let x : EtchList := { off := off, len := (s.listHead off).length, pages := s.listPages off, counters := s.palCounters off, startup := false }
    ((s.lockPages x.pages true).makePending (4 * n + layer) (some x)).listAccepted k n p

/-- LIST_CHECK_DONE: the checker ends with the packet at its head (R288-R290). -/
def execListCheckDone (s : State) : Host.Outcome State Fault Refusal :=
  match s.etch.checker with
  | [] => .next s
  | k :: rest =>
    let s := { s with etch := { s.etch with checker := rest } }
    match s.opAt k 0x0C00 with
    | some p => .next (s.checkLoad k p)
    | none =>
      match s.opAt k 0x0C01 with
      | some p =>
        let n := p.p8 0
        let s := (List.range 4).foldl (fun s i => if bit (p.p8 1) i then s.makePending (4 * n + i) none else s) s
        .next (s.listAccepted k n p)
      | none => .next s

/-- SWAP arms the swap of each named output (R297, R300). -/
def execSwap (k : Nat) (s : State) : Host.Outcome State Fault Refusal :=
  match s.opAt k 0x0C02 with
  | none => .next s
  | some p =>
    let outs := (List.range 8).filter (fun n => bit (p.p8 0) n)
    let s := outs.foldl (fun s n => s.armSwap n p.pkt.tag) s
    .next (s.endOp k (if outs.isEmpty then St.ok else St.deferred))

/-- BLINK_SET: the counter takes its new values at the next vertical start of each output named (R282, R301). -/
def execBlinkSet (k : Nat) (s : State) : Host.Outcome State Fault Refusal :=
  match s.opAt k 0x0C03 with
  | none => .next s
  | some p =>
    let start := if p.p64 8 = 0 then s.devTime / 1000000 + 1 else p.p64 8 / 1000000
    let b : Blink := ⟨p.p16 2, p.p16 4, start⟩
    let s := (List.range 8).foldl (fun s n =>
      if bit (p.p8 0) n then
        { s with etch := { s.etch with blinkNext := SMap.set (fun _ => none) s.etch.blinkNext (4 * n + p.p8 1) (some b) } }
      else s) s
    .next (s.endOp k St.ok)

/-- MODE_DECIDE accepts or refuses the MODE_SET held for an output (R302; 05 R260). -/
def execModeDecide (k : Nat) (s : State) : Host.Outcome State Fault Refusal :=
  match s.opAt k 0x0C04 with
  | none => .next s
  | some p =>
    let n := p.p8 0
    match (s.out n).held with
    | none => .next (s.endOp k St.range 0)
    | some m =>
      if p.p8 1 = 0 then .next (((s.setOut n { s.out n with held := none }).acceptMode n m).endOp k St.ok)
      else .next ((s.refuseHeld n 1).endOp k St.ok)

/-- ETCH_QUERY (R303). -/
def execEtchQuery (k : Nat) (s : State) : Host.Outcome State Fault Refusal :=
  match s.opAt k 0x0C05 with
  | none => .next s
  | some p =>
    let n := p.p8 0
    let pages := (s.etch.locks.filter (fun e => e.2 != 0)).length
    .next (s.endOp k St.ok (s.rg (Reg.ETCH_OUT_STAT n)).toNat (s.rg (Reg.ETCH_PEAK n)).toNat (s.rg (Reg.ETCH_BLINK_STAT n)).toNat pages)

/-! Refused writes (R268). -/

/-- PLATE_LOCKED_WRITE: a write to a locked page is discarded, recorded, raises source 168 and writes PLATE_WRITE_REFUSED (R268). Only
the S-world reaches Plate SRAM (01 R20), so any other requester is refused before this, as at any other S-world region. -/
def execPlateLockedWrite (who : Who) (addr : Nat) (s : State) : Host.Outcome State Fault Refusal :=
  if s.region addr ≠ .plateSram then .next s
  else if who ≠ .s then .next ((s.recordBus who addr true 1).answer .errorResponse)
  else if s.plateLocked addr then .next (((s.refusePlate who addr).flushPlate).answer .done)
  else .next s

/-! Blink (R282-R285, R301). -/

/-- A blink counter of an output, if it has been started. -/
def State.blink (s : State) (n c : Nat) : Option Blink := SMap.get (fun _ => none) s.etch.blinks (4 * n + c)

/-- Whether a counter is in its on phase at a device time in ms; one that has not been started always is (R282). -/
def Blink.isOn (b : Blink) (ms : Nat) : Bool := decide (((ms : Int) - b.start) % ((b.onMs + b.offMs : Nat) : Int) < b.onMs)

/-- The phase of a counter now (R282). -/
def State.phaseNow (s : State) (n c : Nat) : Bool :=
  match s.blink n c with
  | none => true
  | some b => b.isOn (s.devTime / 1000000)

/-- The vertical start: counters that BLINK_SET restarted take their values, then every phase is latched for the frame that follows
(R283, R301). -/
def State.latchBlink (s : State) (n : Nat) : State :=
  let s := (List.range 4).foldl (fun s c =>
    match SMap.get (fun _ => none) s.etch.blinkNext (4 * n + c) with
    | none => s
    | some b =>
      let s := { s with etch := { s.etch with blinks := SMap.set (fun _ => none) s.etch.blinks (4 * n + c) (some b)
                                              blinkNext := SMap.set (fun _ => none) s.etch.blinkNext (4 * n + c) none } }
      s.setFld F.ETCH_BLINK_STAT_RUNNING (s.fld F.ETCH_BLINK_STAT_RUNNING n ||| 2 ^ c) n) s
  let phases := (List.range 4).foldl (fun m c => if s.phaseNow n c then m + 2 ^ c else m) 0
  s.setFld F.ETCH_BLINK_STAT_PHASE phases n

/-- Whether a live list of the output has a palette entry that follows the counter (R284). -/
def State.blinkUsed (s : State) (n c : Nat) : Bool := (List.range 4).any (fun k => ((s.liveList n k).map (fun l => bit l.counters c)).getD false)

/-- BLINK_PHASE_CHANGE: a running counter is in another phase than the one latched; it counts as a change where a live list follows the
counter, and ends a stretched porch (R284, R285). -/
def execBlinkPhaseChange (n c : Nat) (s : State) : Host.Outcome State Fault Refusal :=
  if (s.blink n c).isSome && s.phaseNow n c != bit (s.fld F.ETCH_BLINK_STAT_PHASE n) c && s.blinkUsed n c then
    let s := s.noteChange n
    .next (if s.flag F.DTG_STAT_STRETCH n then s.setOut n { s.out n with ending := true } else s)
  else .next s

end Sys2Proof.Machine
end

