-- ==== Sys2Proof/Machine/Crypto.lean ====
section
/-! DEFINITION. The functions the manual names by their standards (00, the standards it uses): SHA-256, SHA-384 (FIPS 180-4),
HMAC-SHA-256 (FIPS 198-1), and the verification of an ECDSA signature on P-384 (FIPS 186-5; 16 R611, R613). -/

namespace Sys2Proof.Machine

/-- A number as `n` bytes, high byte first. -/
def beBytes (n v : Nat) : List Byte := (leBytes n v).reverse

/-- The number that `n` bytes at an offset spell, high byte first. -/
def beAt (l : List Byte) (off n : Nat) : Nat := leAt ((l.drop off).take n).reverse 0 n

/-! SHA-2 (FIPS 180-4). -/

/-- One of the two word sizes of SHA-2: the word in bits, the round constants, and the rotations of its four functions; a third amount of
the two small ones is a shift. -/
structure Sha2 where
  w    : Nat
  ks   : List Nat
  big0 : Nat × Nat × Nat
  big1 : Nat × Nat × Nat
  sml0 : Nat × Nat × Nat
  sml1 : Nat × Nat × Nat
  deriving DecidableEq, Repr

/-- The 64-bit round constants: the first bits of the fractions of the cube roots of the first 80 primes. -/
def shaConsts : List Nat :=
  [0x428a2f98d728ae22, 0x7137449123ef65cd, 0xb5c0fbcfec4d3b2f, 0xe9b5dba58189dbbc
   , 0x3956c25bf348b538, 0x59f111f1b605d019, 0x923f82a4af194f9b, 0xab1c5ed5da6d8118
   , 0xd807aa98a3030242, 0x12835b0145706fbe, 0x243185be4ee4b28c, 0x550c7dc3d5ffb4e2
   , 0x72be5d74f27b896f, 0x80deb1fe3b1696b1, 0x9bdc06a725c71235, 0xc19bf174cf692694
   , 0xe49b69c19ef14ad2, 0xefbe4786384f25e3, 0xfc19dc68b8cd5b5, 0x240ca1cc77ac9c65] ++
  [0x2de92c6f592b0275, 0x4a7484aa6ea6e483, 0x5cb0a9dcbd41fbd4, 0x76f988da831153b5
   , 0x983e5152ee66dfab, 0xa831c66d2db43210, 0xb00327c898fb213f, 0xbf597fc7beef0ee4
   , 0xc6e00bf33da88fc2, 0xd5a79147930aa725, 0x6ca6351e003826f, 0x142929670a0e6e70
   , 0x27b70a8546d22ffc, 0x2e1b21385c26c926, 0x4d2c6dfc5ac42aed, 0x53380d139d95b3df
   , 0x650a73548baf63de, 0x766a0abb3c77b2a8, 0x81c2c92e47edaee6, 0x92722c851482353b] ++
  [0xa2bfe8a14cf10364, 0xa81a664bbc423001, 0xc24b8b70d0f89791, 0xc76c51a30654be30
   , 0xd192e819d6ef5218, 0xd69906245565a910, 0xf40e35855771202a, 0x106aa07032bbd1b8
   , 0x19a4c116b8d2d0c8, 0x1e376c085141ab53, 0x2748774cdf8eeb99, 0x34b0bcb5e19b48a8
   , 0x391c0cb3c5c95a63, 0x4ed8aa4ae3418acb, 0x5b9cca4f7763e373, 0x682e6ff3d6b2b8a3
   , 0x748f82ee5defb2fc, 0x78a5636f43172f60, 0x84c87814a1f0ab72, 0x8cc702081a6439ec] ++
  [0x90befffa23631e28, 0xa4506cebde82bde9, 0xbef9a3f7b2c67915, 0xc67178f2e372532b
   , 0xca273eceea26619c, 0xd186b8c721c0c207, 0xeada7dd6cde0eb1e, 0xf57d4f7fee6ed178
   , 0x6f067aa72176fba, 0xa637dc5a2c898a6, 0x113f9804bef90dae, 0x1b710b35131c471b
   , 0x28db77f523047d84, 0x32caab7b40c72493, 0x3c9ebe0a15c9bebc, 0x431d67c49c100d4c
   , 0x4cc5d4becb3e42b6, 0x597f299cfc657e2a, 0x5fcb6fab3ad6faec, 0x6c44198c4a475817]

/-- SHA-256's functions; its round constants are the upper halves of the first 64. -/
def sha2Narrow : Sha2 :=
  { w := 32, ks := (shaConsts.take 64).map (fun k => k / 2 ^ 32), big0 := (2, 13, 22), big1 := (6, 11, 25), sml0 := (7, 18, 3), sml1 := (17, 19, 10) }

/-- SHA-384's functions. -/
def sha2Wide : Sha2 :=
  { w := 64, ks := shaConsts, big0 := (28, 34, 39), big1 := (14, 18, 41), sml0 := (1, 8, 7), sml1 := (19, 61, 6) }

/-- A rotation to the right within a word. -/
def Sha2.rot (c : Sha2) (x n : Nat) : Nat := x / 2 ^ n + x % 2 ^ n * 2 ^ (c.w - n)

/-- A sum of three rotations, or of two and a shift, without carries. -/
def Sha2.big (c : Sha2) (n : Nat × Nat × Nat) (x : Nat) : Nat := c.rot x n.1 ^^^ c.rot x n.2.1 ^^^ c.rot x n.2.2
def Sha2.sml (c : Sha2) (n : Nat × Nat × Nat) (x : Nat) : Nat := c.rot x n.1 ^^^ c.rot x n.2.1 ^^^ (x / 2 ^ n.2.2)

/-- The eight working words. -/
structure ShaWords where
  a : Nat
  b : Nat
  c : Nat
  d : Nat
  e : Nat
  f : Nat
  g : Nat
  h : Nat
  deriving DecidableEq, Repr

/-- The words as a list, and from one. -/
def ShaWords.list (x : ShaWords) : List Nat := [x.a, x.b, x.c, x.d, x.e, x.f, x.g, x.h]
def ShaWords.of (l : List Nat) : ShaWords :=
  ⟨l.getD 0 0, l.getD 1 0, l.getD 2 0, l.getD 3 0, l.getD 4 0, l.getD 5 0, l.getD 6 0, l.getD 7 0⟩

/-- One round, on the working words and the next sixteen words of the message schedule. -/
def Sha2.round (c : Sha2) (s : ShaWords × List Nat) (k : Nat) : ShaWords × List Nat :=
  let x := s.1
  let m := 2 ^ c.w
  let w := s.2.getD 0 0
  let t1 := x.h + c.big c.big1 x.e + ((x.e &&& x.f) ^^^ ((m - 1 - x.e) &&& x.g)) + k + w
  let t2 := c.big c.big0 x.a + ((x.a &&& x.b) ^^^ (x.a &&& x.c) ^^^ (x.b &&& x.c))
  let next := (c.sml c.sml1 (s.2.getD 14 0) + s.2.getD 9 0 + c.sml c.sml0 (s.2.getD 1 0) + w) % m
  (⟨(t1 + t2) % m, x.a, x.b, x.c, (x.d + t1) % m, x.e, x.f, x.g⟩, s.2.drop 1 ++ [next])

/-- Adds one block of sixteen words to the hash value. -/
def Sha2.block (c : Sha2) (v : List Nat) (words : List Nat) : List Nat :=
  List.zipWith (fun x y => (x + y) % 2 ^ c.w) v (c.ks.foldl c.round (ShaWords.of v, words)).1.list

/-- The padded message: a 1 bit, zeros, and the length in bits in the last two words of a block. -/
def Sha2.pad (c : Sha2) (msg : List Byte) : List Byte :=
  let block := c.w * 2
  let used := (msg.length + 1 + c.w / 4) % block
  msg ++ 0x80 :: List.replicate ((block - used) % block) 0 ++ beBytes (c.w / 4) (8 * msg.length)

/-- The hash value of a message, word by word, from an initial value. -/
def Sha2.run (c : Sha2) (init : List Nat) (msg : List Byte) : List Nat :=
  let l := c.pad msg
  (List.range (l.length / (c.w * 2))).foldl (fun v i =>
    let chunk := (l.drop (i * (c.w * 2))).take (c.w * 2)
    c.block v ((List.range 16).map (fun j => beAt chunk (j * (c.w / 8)) (c.w / 8)))) init

/-- SHA-256. -/
def sha256 (msg : List Byte) : List Byte :=
  (sha2Narrow.run [0x6a09e667, 0xbb67ae85, 0x3c6ef372, 0xa54ff53a, 0x510e527f, 0x9b05688c, 0x1f83d9ab, 0x5be0cd19] msg).flatMap (beBytes 4)

/-- SHA-384: the first six words of the hash value. -/
def sha384 (msg : List Byte) : List Byte :=
  ((sha2Wide.run [0xcbbb9d5dc1059ed8, 0x629a292a367cd507, 0x9159015a3070dd17, 0x152fecd8f70e5939
    , 0x67332667ffc00b31, 0x8eb44a8768581511, 0xdb0c2e0d64f98fa7, 0x47b5481dbefa4fa4] msg).take 6).flatMap (beBytes 8)

/-- HMAC-SHA-256 (FIPS 198-1). -/
def hmacSha256 (key message : List Byte) : List Byte :=
  let k := if 64 < key.length then sha256 key else key
  let k := k ++ List.replicate (64 - k.length) 0
  sha256 (k.map (fun b => b ^^^ 0x5C) ++ sha256 (k.map (fun b => b ^^^ 0x36) ++ message))

/-! ECDSA on P-384 (FIPS 186-5). -/

/-- The field prime, the curve's b, the order and the base point of P-384. -/
def p384P : Nat := 2 ^ 384 - 2 ^ 128 - 2 ^ 96 + 2 ^ 32 - 1
def p384B : Nat := 0xB3312FA7E23EE7E4988E056BE3F82D19181D9C6EFE8141120314088F5013875AC656398D8A2ED19D2A85C8EDD3EC2AEF
def p384N : Nat := 0xFFFFFFFFFFFFFFFFFFFFFFFFFFFFFFFFFFFFFFFFFFFFFFFFC7634D81F4372DDF581A0DB248B0A77AECEC196ACCC52973
def p384X : Nat := 0xAA87CA22BE8B05378EB1C71EF320AD746E1D3B628BA79B9859F741E082542A385502F25DBF55296C3A545E3872760AB7
def p384Y : Nat := 0x3617DE4A96262C6F5D9E98BF9292DC29F8F41DBD289A147CE9DA3113B5F0B8C00A60B1CE1D7E819D7A431D7C90EA0E5F

/-- A point in Jacobian coordinates; the point at infinity has `z` 0. -/
structure CurvePoint where
  x : Nat
  y : Nat
  z : Nat
  deriving DecidableEq, Repr

/-- A difference in the field. -/
def p384Sub (a b : Nat) : Nat := (a + (p384P - b % p384P)) % p384P

/-- A power modulo m, bit by bit from the top of a 384-bit exponent. -/
def powMod (b e m : Nat) : Nat :=
  (List.range 384).foldl (fun a i => let q := a * a % m; if e.testBit (383 - i) then q * b % m else q) 1

/-- Twice a point. -/
def CurvePoint.twice (p : CurvePoint) : CurvePoint :=
  let zz := p.z * p.z % p384P
  let yy := p.y * p.y % p384P
  let s := 4 * p.x * yy % p384P
  let m := 3 * p384Sub p.x zz * (p.x + zz) % p384P
  let x := p384Sub (m * m) (2 * s)
  ⟨x, p384Sub (m * p384Sub s x) (8 * yy * yy), 2 * p.y * p.z % p384P⟩

/-- The sum of two points. -/
def CurvePoint.add (p q : CurvePoint) : CurvePoint :=
  if p.z = 0 then q else if q.z = 0 then p
  else
    let pz := p.z * p.z % p384P
    let qz := q.z * q.z % p384P
    let u := p.x * qz % p384P
    let v := p.y * qz * q.z % p384P
    let h := p384Sub (q.x * pz) u
    let r := p384Sub (q.y * pz * p.z) v
    if h = 0 then (if r = 0 then p.twice else ⟨1, 1, 0⟩)
    else
      let hh := h * h % p384P
      let hhh := h * hh % p384P
      let x := p384Sub (p384Sub (r * r) hhh) (2 * u * hh)
      ⟨x, p384Sub (r * p384Sub (u * hh % p384P) x) (v * hhh), h * p.z * q.z % p384P⟩

/-- u1 times p plus u2 times q. -/
def CurvePoint.combine (p q : CurvePoint) (u1 u2 : Nat) : CurvePoint :=
  let pq := p.add q
  (List.range 384).foldl (fun a i =>
    let d := a.twice
    match u1.testBit (383 - i), u2.testBit (383 - i) with
    | false, false => d
    | true, false => d.add p
    | false, true => d.add q
    | true, true => d.add pq) ⟨1, 1, 0⟩

/-- Whether a signature (r then s) over a SHA-384 digest verifies under a public key (x then y), each number 48 bytes with its high byte
first (16 R611, R613). -/
def ecdsaP384 (key digest signature : List Byte) : Bool :=
  let x := beAt key 0 48
  let y := beAt key 48 48
  let r := beAt signature 0 48
  let s := beAt signature 48 48
  if x < p384P ∧ y < p384P ∧ y * y % p384P = p384Sub (x * x * x + p384B) (3 * x) ∧ 0 < r ∧ r < p384N ∧ 0 < s ∧ s < p384N then
    let w := powMod s (p384N - 2) p384N
    let t := CurvePoint.combine ⟨p384X, p384Y, 1⟩ ⟨x, y, 1⟩ (beAt digest 0 48 * w % p384N) (r * w % p384N)
    t.z != 0 && t.x * powMod (t.z * t.z % p384P) (p384P - 2) p384P % p384P % p384N == r
  else false

end Sys2Proof.Machine
end

