-- ==== Sys2Proof/Machine/Haptic.lean ====
section
/-! DEFINITION. Stipple haptic drivers (10): triggers, segments, protection, signatures and wear, and the operations of class 0x07. -/

namespace Sys2Proof.Machine

/-- Writes an event of class 0x07 to the mediator, the actuator's holder, and the S ring while CLAIMED is 1 (R448). -/
def State.actEvent (s : State) (a code d0 d1 d2 : Nat) : State :=
  let s := s.event .med code a d0 d1 d2
  let s := match SMap.get (fun _ => none) s.cl.holders (64 * 3 + a) with
    | some c => s.event (.client c) code a d0 d1 d2
    | none => s
  if s.flag F.HAP_CFG_CLAIMED a then s.event .s code a d0 d1 d2 else s

/-- A fault of an actuator (R439): 1 OPEN, 2 STALL, 3 SHORT, with the measured value. The bridge coasts, the effect ends, source 224 + n,
ACT_FAULT, and class 9 (17 R636). -/
def State.actFault (s : State) (a kind value : Nat) : State :=
  let s := s.actWear a
  let s := match (s.act a).run with
    | some e => (s.doneEvent a e 3).actEvent a 0x1C02 kind value e.number
    | none => s.actEvent a 0x1C02 kind value 0
  let s := s.setAct a { s.act a with learn := none, low := 0 }
  let s := (s.setFld F.HAP_STAT_FAULT kind a).actIdle a 3
  (s.raise (224 + a)).fault 9 a

/-- HAP_TRIG_EDGE: an edge on a trigger pin starts its effect (R433, R436, R438, R445). Pulses shorter than 1 µs are no edges. -/
def execHapTrigEdge (j : Nat) (rising : Bool) (s : State) : Host.Outcome State Fault Refusal :=
  let edge := s.fld F.HAP_TRIG_CFG_EDGE j
  let takes := if rising then bit edge 0 else bit edge 1
  if s.flag F.HAP_TRIG_CFG_ENABLE j ∧ takes then
    let e := s.fld (if rising then F.HAP_TRIG_CFG_RISE_EFFECT else F.HAP_TRIG_CFG_FALL_EFFECT) j
    .next (s.trigger (s.fld F.HAP_TRIG_CFG_ACTUATOR j) e (.pin j) (s.flag F.HAP_TRIG_CFG_SAFETY j))
  else .next s

/-- Whether a ring may name an actuator (R446): a client only while it holds it and is not losing it (04 R165). -/
def State.namesAct (s : State) (r : RingId) (a : Nat) : Bool :=
  match r with
  | .client c => SMap.get (fun _ => none) s.cl.holders (64 * 3 + a) == some c && !s.losing 3 a c
  | _ => true

/-- HAPTIC_ZONE_TRIGGER: the oldest action that zone `z` issued reaches its actuator (R433, R436, R438; 09 R409; 04 R165). -/
def execHapticZoneTrigger (z : Nat) (s : State) : Host.Outcome State Fault Refusal :=
  match s.touch.haptics.find? (fun h => h.zone == z) with
  | none => .next s
  | some h =>
    let s := { s with touch := { s.touch with haptics := s.touch.haptics.erase h } }
    .next (if s.namesAct h.owner h.target then s.trigger h.target h.what (.zone z) h.safety else s)

/-- The mean of the last 20 coast windows, rounded to nearest; without a window the manual gives none, and it is the free value `wild`
(R441). -/
def Learn.bemf (l : Learn) (wild : Nat) : Nat :=
  let w := l.bemfs.take 20
  if w.isEmpty then wild else (2 * w.sum + w.length) / (2 * w.length)

/-- The end of a learning (R441, R443): the new signature holds at once, or once the record of the old counts is committed. -/
def State.learned (s : State) (a : Nat) (l : Learn) : State :=
  let b := l.bemf (s.freeBelow 65536)
  let s := if l.bemfs.isEmpty then s.fresh else s
  if l.wear then
    s.folioWrite ⟨0x0012, s.wearBody a ++ leBytes 4 (65536 * l.rsig + b) ++ leBytes 4 (s.rg Reg.AON_RTC).toNat, true, .wear a l.rsig b⟩
  else
    let s := ((s.setFld F.HAP_SIG_R l.rsig a).setFld F.HAP_SIG_BEMF b a).setFld F.HAP_STAT_SIG_VALID 1 a
    s.actEvent a 0x1C04 l.rsig b 0

/-- The record of the old counts is committed: the counts are zeroed, the new signature holds, and SIG_LEARNED and WEAR_RESET are
written (R443). -/
def State.wearReset (s : State) (a r b seq : Nat) : State :=
  let s := s.actWear a
  let w := s.fld F.HAP_WEAR_COUNT a
  let n := s.fld F.HAP_STARTS_COUNT a
  let s := ((s.setFld F.HAP_WEAR_COUNT 0 a).setFld F.HAP_STARTS_COUNT 0 a).setFld F.HAP_DRIVE_S_COUNT 0 a
  let x := s.act a
  let s := s.setAct a { x with revs := 0, drive := 0, resets := x.resets + 1 }
  let s := ((s.setFld F.HAP_SIG_R r a).setFld F.HAP_SIG_BEMF b a).setFld F.HAP_STAT_SIG_VALID 1 a
  (s.actEvent a 0x1C04 r b 0).actEvent a 0x1C05 w n seq

/-- SEGMENT_END: the next segment, the next pass, or the end of the effect (R429, R435, R441, R444, R448, R449). -/
def execSegmentEnd (a : Nat) (s : State) : Host.Outcome State Fault Refusal :=
  match (s.act a).run with
  | none => .next s
  | some e =>
    let s := s.actWear a
    if e.idx + 1 < e.segs.length then .next (s.beginSeg a { e with idx := e.idx + 1 })
    else if 0 < e.rounds then .next (s.beginSeg a { e with idx := 0, rounds := e.rounds - 1 })
    else
      let l := (s.act a).learn
      let s := (s.doneEvent a e 0).setAct a { s.act a with learn := none }
      let s := s.actIdle a (s.restState a)
      match l with
      | some l => .next (s.learned a l)
      | none => .next s

/-- COAST_WINDOW: the back-EMF of a coast window of a sustain segment, in mV; STALL on the third consecutive low one (R439-R441, R444). -/
def execCoastWindow (a bemf : Nat) (s : State) : Host.Outcome State Fault Refusal :=
  match (s.act a).run with
  | none => .next s
  | some e =>
    match e.seg with
    | none => .next s
    | some g =>
      if g.phase ≠ 1 ∨ g.dur < 5 * (e.windows + 1) + 1 then .next s
      else
        let s := (s.actWear a).setFld F.HAP_MEAS_BEMF bemf a
        let x := s.act a
        let low := s.flag F.HAP_STAT_SIG_VALID a && decide (bemf * 12700 < e.stallPct * s.fld F.HAP_SIG_BEMF a * g.mag)
        let s := s.setAct a { x with run := some { e with windows := e.windows + 1 }, low := if low then x.low + 1 else 0
                                     learn := x.learn.map (fun l => { l with bemfs := bemf :: l.bemfs.take 19 }) }
        if low ∧ 2 ≤ x.low then .next (s.actFault a 2 bemf) else .next s

/-- The voltage in mV at the winding, 127-fold: what the segment asks for, or all of `VHAP` (R426). -/
def State.applied127 (s : State) (e : Effect) (g : Seg) : Nat := min (e.ask127 g) (127 * s.fld F.HAP_VHAP_MV)

/-- OPEN_CHECK: 200 µs after a drive start the current in mA gives R_EST, and below OPEN_MA at a duty of 25 % or more it is an OPEN fault
(R439, R441, R442). Without a current the manual gives no resistance: a free value. -/
def execOpenCheck (a ma : Nat) (s : State) : Host.Outcome State Fault Refusal :=
  let x := s.act a
  match x.openDue, x.run.bind (fun e => e.seg.map (fun g => (e, g))) with
  | some _, some (e, g) =>
    let r := if ma = 0 then s.freeBelow 65536 else min 0xFFFF ((2 * 10 * s.applied127 e g + 127 * ma) / (2 * 127 * ma))
    let s := (if ma = 0 then s.fresh else s).setFld F.HAP_MEAS_R r a
    let sig := s.fld F.HAP_SIG_R a
    let off := s.flag F.HAP_STAT_SIG_VALID a && decide (sig < 4 * (max r sig - min r sig))
    let odd := if off then x.odd + 1 else 0
    let s := s.setAct a { x with openDue := none, odd := odd, learn := x.learn.map (fun l => { l with rsig := r }) }
    let s := if odd = 16 then (s.setFld F.HAP_STAT_REPLACED 1 a).actEvent a 0x1C03 r sig 0 else s
    if 3200 ≤ x.duty ∧ ma < e.openMa then .next (s.actFault a 1 ma) else .next s
  | _, _ => .next s

/-- OVERCURRENT: more than 600 mA is a SHORT fault (R427, R439). -/
def execOvercurrent (a ma : Nat) (s : State) : Host.Outcome State Fault Refusal :=
  if 600 < ma ∧ (s.act a).bridge.drives then .next (s.actFault a 3 ma) else .next s

/-- VHAP_MEASURE: the supply in mV, and every duty anew (R426). -/
def execVhapMeasure (mv : Nat) (s : State) : Host.Outcome State Fault Refusal :=
  .next ((List.range 8).foldl (fun (s : State) a => s.actDuty a) (s.setFld F.HAP_VHAP_MV mv))

/-! Class 0x07 (R446, R447). -/

/-- Whether a waveform slot is another party's for a ring (R431, R447). -/
def State.foreignWave (s : State) (r : RingId) (k : Nat) : Bool :=
  r != .s && (decide (24 ≤ k) || ((s.wave k).map (fun w => w.owner != r)).getD false)

/-- PLAY (R433-R437, R446, R447). -/
def execPlay (k : Nat) (s : State) : Host.Outcome State Fault Refusal :=
  match s.opAt k 0x1C00 with
  | none => .next s
  | some q =>
    let a := q.p8 0
    let e := q.p8 1
    let safety := decide (q.ring = .s)
    if !s.namesAct q.ring a then .next (s.endOp k St.noPermission)
    else if 128 ≤ e ∧ s.foreignWave q.ring (e - 128) then .next (s.endOp k St.noPermission)
    else if e ≠ 0 ∧ s.effectSegs e = none then .next (s.endOp k St.range 1)
    else match s.actRefuses a safety with
      | some n => .next ((if n = 1 then s.satInc F.HAP_STAT_IGNORED a else s).endOp k St.busy n)
      | none =>
        if e = 0 then .next ((s.stopEffect a (.play q.ring q.pkt.tag) safety).endOp k St.ok)
        else match s.effectSegs e with
          | none => .next (s.endOp k St.range 1)
          | some (segs, rep) => .next ((s.startEffect a e (.play q.ring q.pkt.tag) safety segs rep).endOp k St.ok)

/-- Whether an actuator runs a waveform slot. -/
def State.waveRuns (s : State) (k : Nat) : Bool := (List.range 8).any (fun a => ((s.act a).run.map (·.number)) == some (128 + k))

/-- The segments of a WAVE_LOAD (R432). -/
def waveSegs (q : Started) : List Seg :=
  (List.range (q.p8 1)).map (fun i => ⟨q.p8 (8 + 4 * i), q.p8 (9 + 4 * i), q.p16 (10 + 4 * i)⟩)

/-- WAVE_LOAD (R431, R432, R447). -/
def execWaveLoad (k : Nat) (s : State) : Host.Outcome State Fault Refusal :=
  match s.opAt k 0x1C01 with
  | none => .next s
  | some q =>
    let w := q.p8 0
    let taken := ((s.wave w).map (fun x => x.owner != q.ring)).getD false
    if taken ∨ (24 ≤ w ∧ q.ring ≠ .s) then .next (s.endOp k St.noPermission)
    else if s.waveRuns w then .next (s.endOp k St.busy)
    else .next ((s.setWave w (some ⟨q.ring, q.p8 2, waveSegs q⟩)).endOp k St.ok)

/-- WAVE_FREE (R431, R447): a slot that an actuator runs is not freed. -/
def execWaveFree (k : Nat) (s : State) : Host.Outcome State Fault Refusal :=
  match s.opAt k 0x1C02 with
  | none => .next s
  | some q =>
    let w := q.p8 0
    let taken := ((s.wave w).map (fun x => x.owner != q.ring)).getD false
    if taken ∨ (24 ≤ w ∧ q.ring ≠ .s) then .next (s.endOp k St.noPermission)
    else if (s.wave w).isSome ∧ s.waveRuns w then .next (s.endOp k St.busy)
    else .next ((s.setWave w none).endOp k St.ok)

/-- ACT_QUERY (R447). -/
def execActQuery (k : Nat) (s : State) : Host.Outcome State Fault Refusal :=
  match s.opAt k 0x1C03 with
  | none => .next s
  | some q =>
    let a := q.p8 0
    if !s.namesAct q.ring a then .next (s.endOp k St.noPermission)
    else
      let s := s.actWear a
      .next (s.endOp k St.ok (s.rg (Reg.HAP_STAT a)).toNat (s.rg (Reg.HAP_MEAS a)).toNat (s.rg (Reg.HAP_WEAR a)).toNat
        (s.rg (Reg.HAP_STARTS a)).toNat)

/-- MAINT: learn, reset wear, or clear a fault (R439, R441, R443, R447). -/
def execMaint (k : Nat) (s : State) : Host.Outcome State Fault Refusal :=
  match s.opAt k 0x1C04 with
  | none => .next s
  | some q =>
    let a := q.p8 0
    if q.ring = .med ∧ s.flag F.HAP_CFG_CLAIMED a then .next (s.endOp k St.noPermission)
    else if q.p8 1 = 2 then
      if s.fld F.HAP_STAT_STATE a = 3 then
        let s := s.setFld F.HAP_STAT_FAULT 0 a
        .next ((s.setFld F.HAP_STAT_STATE (s.restState a) a).endOp k St.ok)
      else .next (s.endOp k St.ok)
    else match s.actRefuses a (decide (q.ring = .s)) with
      | some n => .next ((if n = 1 then s.satInc F.HAP_STAT_IGNORED a else s).endOp k St.busy n)
      | none =>
        let s := s.startEffect a 121 (.learn q.ring) (decide (q.ring = .s)) (romEffect 121) 0
        let s := s.setAct a { s.act a with learn := some ⟨decide (q.p8 1 = 1), 0, []⟩ }
        .next (s.endOp k St.deferred)

end Sys2Proof.Machine
end

