-- ==== Sys2Proof/Machine/Touch.lean ====
section
/-! DEFINITION. Tracer touch sensing (09). -/

namespace Sys2Proof.Machine

/-! Panels and their parameters. -/

/-- Panel `p`. -/
def State.panel (s : State) (p : Nat) : Panel := SMap.get (fun _ => Panel.blank) s.touch.panels p

/-- Replaces panel `p`. -/
def State.setPanel (s : State) (p : Nat) (x : Panel) : State :=
  { s with touch := { s.touch with panels := SMap.set (fun _ => Panel.blank) s.touch.panels p x } }

/-- Zone `z`, if it is set. -/
def State.zone (s : State) (z : Nat) : Option Zone := SMap.get (fun _ => none) s.touch.zones z

/-- Parameters of PANEL_SET and PANEL_TUNE by their offset (R415, R416). -/
def Panel.set8 (x : Panel) (o : Nat) : Nat := leAt x.params o 1
def Panel.set16 (x : Panel) (o : Nat) : Nat := leAt x.params o 2
def Panel.tune8 (x : Panel) (o : Nat) : Nat := leAt x.tune o 1
def Panel.tune16 (x : Panel) (o : Nat) : Nat := leAt x.tune o 2

def Panel.txCount (x : Panel) : Nat := x.set8 5
def Panel.rxCount (x : Panel) : Nat := x.set8 8
def Panel.touchTh (x : Panel) : Int := x.tune16 4
def Panel.releaseTh (x : Panel) : Int := x.tune16 6
def Panel.negTh (x : Panel) : Int := x.tune16 8
def Panel.stillR (x : Panel) : Nat := x.tune16 10

/-- PERSIST_S; 0 means 600 (R416). -/
def Panel.persistS (x : Panel) : Nat := let v := leAt x.tune 12 4; if v = 0 then 600 else v

/-- Drive windows of a scan (R377). -/
def Panel.windows (x : Panel) : Nat := if x.txCount ≤ 64 then 1 else 2

/-- A node. -/
def Panel.node (x : Panel) (i j : Nat) : NodeSt := SMap.get (fun _ => NodeSt.blank) x.nodes (256 * i + j)

/-- Replaces a node. -/
def Panel.setNode (x : Panel) (i j : Nat) (n : NodeSt) : Panel :=
  { x with nodes := SMap.set (fun _ => NodeSt.blank) x.nodes (256 * i + j) n }

/-- The nodes of a panel in increasing order. -/
def Panel.grid (x : Panel) : List (Nat × Nat) := (List.range x.txCount).flatMap (fun i => (List.range x.rxCount).map (fun j => (i, j)))

/-- Whether an enabled safety zone lies on a panel. -/
def State.safetyPanel (s : State) (p : Nat) : Bool := s.flag F.TCH_CFG_SAFETY p

/-- Writes a panel event to the panel's holder, to the S ring on a panel with a safety zone, and to one more ring that asked for it
(R396, R422). -/
def State.panelEvent (s : State) (p code d0 d1 d2 d3 : Nat) (also_ : Option RingId := none) : State :=
  let h := (s.holder 2 p).map RingId.client
  let s := match h with
    | some r => s.event r code p d0 d1 d2 d3
    | none => s
  let s := if s.safetyPanel p then s.event .s code p d0 d1 d2 d3 else s
  match also_ with
  | some r => if some r = h ∨ (r = .s ∧ s.safetyPanel p) then s else s.event r code p d0 d1 d2 d3
  | none => s

/-- The source of RECAL, ACQUIRED and TONE_HOP (R423). -/
def State.panelSource (s : State) (p : Nat) : State := s.raise (if s.safetyPanel p then 200 + p else 216 + p)

/-! Registers of panels, zones and claims. -/

/-- Writes `TCH_CFG` and `TCH_RXCFG` from a panel's parameters (R424). -/
def State.showPanel (s : State) (p : Nat) : State :=
  let x := s.panel p
  let o := x.set8 1
  let s := s.setFlag F.TCH_CFG_ENABLE (bit o 0) p
  let s := (s.setFlag F.TCH_CFG_HBLANK (bit o 1) p).setFlag F.TCH_CFG_MIRROR_U (bit o 2) p
  let s := (s.setFlag F.TCH_CFG_MIRROR_V (bit o 3) p).setFlag F.TCH_CFG_SWAP (bit o 4) p
  let s := (s.setFld F.TCH_CFG_OUTPUT (x.set8 2) p).setFld F.TCH_CFG_TX_FIRST (x.set8 4) p
  let s := (s.setFld F.TCH_CFG_TX_COUNT (x.txCount) p).setFld F.TCH_RXCFG_RX_FIRST (x.set16 6) p
  s.setFld F.TCH_RXCFG_RX_COUNT x.rxCount p

/-- The zones that are set. -/
def State.zoneList (s : State) : List (Nat × Zone) := s.touch.zones.filterMap (fun e => e.2.map (fun z => (e.1, z)))

/-- Whether a zone is a safety zone. -/
def Zone.safety (z : Zone) : Bool := bit z.flags 1

/-- Brings SAFETY of every panel and CLAIMED of every actuator to the zones (R424; 02 R84, 10 R445). -/
def State.showZones (s : State) : State :=
  let l := s.zoneList.filter (fun e => e.2.safety)
  (List.range 8).foldl (fun s n =>
    (s.setFlag F.TCH_CFG_SAFETY (l.any (fun e => e.2.panel == n)) n).setFlag F.HAP_CFG_CLAIMED (l.any (fun e => e.2.act == n)) n) s

/-- Writes a zone, or frees it. -/
def State.setZone (s : State) (z : Nat) (x : Option Zone) : State :=
  { s with touch := { s.touch with zones := SMap.set (fun _ => none) s.touch.zones z x } }.showZones

/-- Writes `TCH_TONES` from the tone slots (R424). -/
def State.showTones (s : State) (p : Nat) : State :=
  let l := (s.panel p).slots
  (List.range 3).foldl (fun s w =>
    s.setRg (Reg.TCH_TONES (4 * p + w)) (BitVec.ofNat 32 (l.foldl (fun a b => if (b - 16) / 32 = w then a ||| 2 ^ ((b - 16) % 32) else a) 0))) s

/-! Scheduling (R382-R390). -/

/-- Whether a panel scans on its own timer (R388). -/
def State.freeRunning (s : State) (p : Nat) : Bool :=
  let o := (s.panel p).set8 2
  decide (7 < o) || !s.flag F.DTG_CTRL_ENABLE o || bit s.flt.stalled o

/-- Whether `k` drive windows fit in the vertical blanking (R383 rule 3): LEAD, 552 samples of 4.79232 MHz each, and 5 µs. A stretched
frame has room for the whole scan (R386). -/
def State.windowsFit (s : State) (p k : Nat) : Bool :=
  let x := s.panel p
  let n := x.set8 2
  if s.freeRunning p ∨ s.flag F.DTG_STAT_STRETCH n then true
  else
    let t := (s.out n).live
    decide (k * 552 * 1000000000000 * t.num + (x.set8 20 * 1000 + 5000) * 4792320000 * t.num
      ≤ (t.vtotal - t.vact) * t.htotal * t.den * 1000000000)

/-- The divider of an idle level (R389). -/
def Panel.div (x : Panel) (level : Nat) : Nat := if level = 0 then 1 else x.tune8 (21 + level)

/-- The handover the next scan makes (R381): the noisiest bin in use above NOISE_TH of the latest survey, to the quietest bin outside
the set when that is below NOISE_TH ÷ 2. -/
def Panel.pickHop (x : Panel) : Option (Nat × Nat × Nat) :=
  let th := x.tune16 26
  let nz (l : List Nat) (b : Nat) : Nat := (l[b - 16]?).getD 0
  let noisy := ((List.range x.slots.length).filter (fun i => decide (th < nz x.surveyed ((x.slots[i]?).getD 16)))).foldl (fun best i =>
    match best with
    | none => some i
    | some k => if nz x.surveyed ((x.slots[k]?).getD 16) < nz x.surveyed ((x.slots[i]?).getD 16) then some i else some k) none
  let quiet := ((List.range 80).map (fun b => b + 16)).foldl (fun best b =>
    if x.slots.contains b then best
    else match best with
      | none => some b
      | some c => if nz x.noise b < nz x.noise c then some b else some c) none
  match noisy, quiet with
  | some i, some b => if 2 * nz x.noise b < th then some (i, (x.slots[i]?).getD 16, b) else none
  | _, _ => none

/-- SCAN_START: a scan opportunity of a panel (R382, R383, R386, R388, R389). An unfinished scan that its blanking no longer holds is
abandoned (R387); the second half of a split scan goes on. -/
def execScanStart (p : Nat) (s : State) : Host.Outcome State Fault Refusal :=
  let st := s.fld F.TCH_STAT_STATE p
  if !s.flag F.TCH_CFG_ENABLE p ∨ (st ≠ 1 ∧ st ≠ 2) then .next s
  else
    let x := s.panel p
    let s := s.setFlag F.TCH_STAT_UNSYNCED (s.freeRunning p) p
    match x.scan with
    | some sc =>
      if sc.waiting then .next (s.setPanel p { x with scan := some { sc with waiting := false } })
      else .next (s.setPanel p { x with scan := some { windows := x.windows, done := 0, waiting := false, noise := false
                                                       hop := if st = 2 then x.pickHop else none, time := 0, frame := 0 } })
    | none =>
      if x.needSurvey then .next s
      else if x.skipped + 1 < x.div (s.fld F.TCH_STAT_LEVEL p) then .next (s.setPanel p { x with skipped := x.skipped + 1 })
      else
        let s := s.setFlag F.TCH_STAT_SPLIT (!s.windowsFit p x.windows) p
        if !s.windowsFit p 1 then .next s
        else .next (s.setPanel p { x with skipped := 0, scan := some { windows := x.windows, done := 0, waiting := false, noise := false
                                                                       hop := if st = 2 then x.pickHop else none, time := 0, frame := 0 } })

/-! Measuring (R377-R381). -/

/-- One window's demodulated samples: for each receive channel, whether it clipped, and the in-phase amplitudes of bins 16-95. -/
abbrev Win := List (Bool × List Nat)

/-- The RMS over the channels of a bin's amplitude (R380). -/
def binNoise (w : Win) (b : Nat) : Nat :=
  isqrt (w.foldl (fun a c => let v := (c.2[b - 16]?).getD 0; a + v * v) 0 / max 1 w.length)

/-- The amplitude of a bin on a channel. -/
def binAmp (w : Win) (j b : Nat) : Nat := ((w[j]?).bind (fun c => c.2[b - 16]?)).getD 0

/-- Takes a window's samples into the nodes of its transmit lines; a clipped channel's nodes become invalid (R378, R379). In a handover
the old bin is at half amplitude, and the new bin is measured beside it (R381). -/
def Panel.measure (x : Panel) (w : Win) (win : Nat) (hop : Option (Nat × Nat × Nat)) : Panel :=
  (List.range (min 64 (x.txCount - 64 * win))).foldl (fun x slot =>
    (List.range x.rxCount).foldl (fun x j =>
      let i := 64 * win + slot
      let n := x.node i j
      if ((w[j]?).map (·.1)).getD false then x.setNode i j { n with valid := false }
      else
        match hop with
        | some (k, old, new) =>
          if k = slot then x.setNode i j { n with raw := 2 * binAmp w j old, hop := binAmp w j new, valid := true }
          else x.setNode i j { n with raw := binAmp w j ((x.slots[slot]?).getD 16), valid := true }
        | none => x.setNode i j { n with raw := binAmp w j ((x.slots[slot]?).getD 16), valid := true }) x) x

/-- Records the noise of the bins outside the tone set (R380). -/
def Panel.noteNoise (x : Panel) (w : Win) (hop : Option (Nat × Nat × Nat)) : Panel :=
  let used (b : Nat) : Bool := x.slots.contains b || (hop.map (fun h => h.2.2)) == some b
  { x with noise := (List.range 80).map (fun k => if used (k + 16) then (x.noise[k]?).getD 0 else binNoise w (k + 16)) }

/-- DRIVE_WINDOW_END (R378-R380, R383). -/
def execDriveWindowEnd (p : Nat) (win : List (Bool × List Nat)) (s : State) : Host.Outcome State Fault Refusal :=
  let x := s.panel p
  match x.scan with
  | none => .next s
  | some sc =>
    if sc.waiting ∨ sc.windows ≤ sc.done then .next s
    else
      let x := (x.measure win sc.done sc.hop).noteNoise win sc.hop
      let frame := if s.freeRunning p then 0 else s.fld F.DTG_FRAME_COUNT (x.set8 2)
      let done := sc.done + 1
      .next (s.setPanel p { x with scan := some { sc with done := done, waiting := decide (done < sc.windows) && s.flag F.TCH_STAT_SPLIT p
                                                          noise := sc.noise || win.any (·.1), time := s.devTime, frame := frame } })

/-- The 64 quietest bins, ties to the lower bin, in increasing order (R382). -/
def quietest (noise : List Nat) : List Nat :=
  ((List.range 80).filter (fun k =>
    let v := (noise[k]?).getD 0
    decide (((List.range 80).filter (fun m =>
      let u := (noise[m]?).getD 0
      decide (u < v) || (u == v && decide (m < k)))).length < 64))).map (fun k => k + 16)

/-- SURVEY_END: the noise of all 80 bins is recorded; the first survey after enabling picks the tone set (R380, R382). -/
def execSurveyEnd (p : Nat) (win : List (Bool × List Nat)) (s : State) : Host.Outcome State Fault Refusal :=
  let x := s.panel p
  let ready := x.surveyDue || x.needSurvey
  let free := match x.scan with
    | none => true
    | some sc => decide (sc.windows ≤ sc.done) || sc.waiting
  if !s.flag F.TCH_CFG_ENABLE p ∨ !ready ∨ !free then .next s
  else
    let l := (List.range 80).map (fun k => binNoise win (k + 16))
    let slots := if x.pickTones then quietest l else x.slots
    let s := s.setPanel p { x with noise := l, surveyed := l, surveyDue := false, needSurvey := false, pickTones := false, slots := slots }
    let nz (b : Nat) : Nat := (l[b - 16]?).getD 0
    let worst := slots.foldl (fun w b => if nz w < nz b then b else w) ((slots[0]?).getD 0)
    .next ((s.setFld F.TCH_NOISE_WORST_BIN worst p).showTones p)

/-- SURVEY_DUE (R380). -/
def execSurveyDue (p : Nat) (s : State) : Host.Outcome State Fault Refusal :=
  if s.fld F.TCH_STAT_STATE p = 2 then .next (s.setPanel p { s.panel p with surveyDue := true }) else .next s

/-- SURVEY_SKIPPED (R384). -/
def execSurveySkipped (p : Nat) (s : State) : Host.Outcome State Fault Refusal :=
  let x := s.panel p
  if x.surveyDue then .next ((s.setPanel p { x with surveyDue := false }).satInc F.TCH_NOISE_SKIPPED p) else .next s

/-! Positions (R376, R400). -/

/-- The neighbours of a node within a distance, the node included. -/
def Panel.around (x : Panel) (i j d : Nat) : List (Nat × Nat) :=
  x.grid.filter (fun g => decide (i ≤ g.1 + d) && decide (g.1 ≤ i + d) && decide (j ≤ g.2 + d) && decide (g.2 ≤ j + d))

/-- One axis of R376 in 1/16 pixel, rounded down and clipped to the rectangle: `num / den` is the interpolated index, `count` the lines. -/
def axisPos (num den count : Nat) (mirror : Bool) (first size : Nat) : Nat :=
  let u := 2 * num + den
  let whole := 2 * den * count
  let v := if mirror then whole - u else u
  16 * first + min (16 * size * v / max 1 whole) (16 * size - 1)

/-- The position of the contact with this peak node: the centroid of the positive deltas in the 3 × 3 nodes around it (R400). -/
def Panel.position (x : Panel) (i j : Nat) : Nat × Nat :=
  let w := (x.around i j 1).map (fun g => (g, (x.node g.1 g.2).delta.toNat))
  let den : Nat := w.foldl (fun a e => a + e.2) 0
  let ni : Nat := if den = 0 then i else w.foldl (fun a e => a + e.1.1 * e.2) 0
  let nj : Nat := if den = 0 then j else w.foldl (fun a e => a + e.1.2 * e.2) 0
  let d := max 1 den
  let o := x.set8 1
  let along (sz first : Nat) (useU : Bool) : Nat :=
    if useU then axisPos nj d x.rxCount (bit o 2) first sz else axisPos ni d x.txCount (bit o 3) first sz
  if bit o 4 then (along (x.set16 16) (x.set16 12) false, along (x.set16 18) (x.set16 14) true)
  else (along (x.set16 16) (x.set16 12) true, along (x.set16 18) (x.set16 14) false)

/-! Baselines (R381, R391-R393). -/

/-- Takes the deltas of a scan: baseline minus raw for valid nodes; an invalid node keeps its delta (R378, R379). A node that went into RECAL
gets its raw value as its baseline (R392). In a handover the new baseline is the old one × new ÷ old amplitude, rounded to nearest (R381);
for an old amplitude of 0 the manual gives no ratio, and the baseline is the free value `wild`. -/
def Panel.deltas (x : Panel) (hop : Option (Nat × Nat × Nat)) (wild : Nat) : Panel :=
  x.grid.foldl (fun x g =>
    let n := x.node g.1 g.2
    if !n.valid then x
    else if n.recal then x.setNode g.1 g.2 { n with base := n.raw, delta := 0 }
    else
      let n1 := { n with delta := (n.base : Int) - n.raw }
      match hop with
      | some (k, _, _) =>
        if g.1 % 64 = k then
          x.setNode g.1 g.2 { n1 with base := if n.raw = 0 then wild else roundDiv (n.base * 2 * n.hop) n.raw }
        else x.setNode g.1 g.2 n1
      | none => x.setNode g.1 g.2 n1) x

/-- Whether a node is kept from following (R392): near a live contact's peak, or still pressed. -/
def Panel.frozenNode (x : Panel) (i j : Nat) (delta : Int) : Bool :=
  decide (x.releaseTh ≤ delta) ||
    x.contacts.any (fun c => !c.up && decide (c.i ≤ i + 2) && decide (i ≤ c.i + 2) && decide (c.j ≤ j + 2) && decide (j ≤ c.j + 2))

/-- The tracked baseline: moves by (raw − baseline) ÷ 2^TRACK_SHIFT, rounded away from zero (R392). -/
def trackBase (base raw shift : Nat) : Nat :=
  if base ≤ raw then base + (raw - base + 2 ^ shift - 1) / 2 ^ shift else base - (base - raw + 2 ^ shift - 1) / 2 ^ shift

/-- Updates every valid node after a scan (R392): nodes that went into RECAL last time track again, nodes whose delta is far negative go
into RECAL, the others freeze or track. The count is that of nodes newly in RECAL. -/
def Panel.follow (x : Panel) (hop : Option (Nat × Nat × Nat)) : Panel × Nat :=
  x.grid.foldl (fun a g =>
    let x := a.1
    let n := x.node g.1 g.2
    if !n.valid then a
    else if n.recal then (x.setNode g.1 g.2 { n with recal := false }, a.2)
    else if n.delta ≤ -x.negTh then (x.setNode g.1 g.2 { n with recal := true }, a.2 + 1)
    else if (hop.map (·.1)) = some (g.1 % 64) ∨ x.frozenNode g.1 g.2 n.delta then a
    else (x.setNode g.1 g.2 { n with base := trackBase n.base n.raw (x.tune8 2) }, a.2)) (x, 0)

/-- Adds a scan's raw values to the acquisition, and after the fourth takes the means as baselines (R391); a node that was invalid in every
scan keeps its baseline (R379). -/
def Panel.acquire (x : Panel) : Panel :=
  let x := x.grid.foldl (fun x g =>
    let n := x.node g.1 g.2
    if n.valid then x.setNode g.1 g.2 { n with sum := n.sum + n.raw, count := n.count + 1 } else x) x
  let x := { x with acqScans := x.acqScans + 1 }
  if x.acqScans < 4 then x
  else x.grid.foldl (fun x g =>
    let n := x.node g.1 g.2
    let m := if n.count = 0 then n.base else roundDiv n.sum n.count
    x.setNode g.1 g.2 { n with base := m, first := m, delta := 0, recal := false, sum := 0, count := 0 }) x

/-! Contacts (R398-R401). -/

/-- Whether a node's delta is not less than that of any of its eight neighbours. -/
def Panel.isPeak (x : Panel) (i j : Nat) : Bool :=
  (x.around i j 1).all (fun g => decide ((x.node g.1 g.2).delta ≤ (x.node i j).delta))

/-- The distance of two nodes: the larger of the two axis distances (R398, R399; DEDUCED). -/
def nodeDist (a b : Nat × Nat) : Nat := max (max (a.1 - b.1) (b.1 - a.1)) (max (a.2 - b.2) (b.2 - a.2))

/-- The peaks a contact may be matched to: those at RELEASE_TH or more, outside RECAL nodes (R393, R399). -/
def Panel.peaks (x : Panel) : List (Nat × Nat) :=
  x.grid.filter (fun g => let n := x.node g.1 g.2; !n.recal && decide (-x.negTh < n.delta) && decide (x.releaseTh ≤ n.delta) && x.isPeak g.1 g.2)

/-- Matches contacts to peaks in order of increasing distance, within 4 nodes (R399): pairs of contact number and peak. -/
def matchGo : Nat → List Contact → List (Nat × Nat) → List (Nat × (Nat × Nat)) → List (Nat × (Nat × Nat))
  | 0, _, _, acc => acc
  | fuel + 1, cs, ps, acc =>
    let pairs := cs.flatMap (fun c => ps.map (fun g => (c, g, nodeDist (c.i, c.j) g)))
    match (pairs.filter (fun e => decide (e.2.2 ≤ 4))).foldl (fun b e =>
        match b with
        | none => some e
        | some f => if e.2.2 < f.2.2 then some e else some f) none with
    | none => acc
    | some (c, g, _) => matchGo fuel (cs.filter (fun d => d.id != c.id)) (ps.filter (fun h => h != g)) (acc ++ [(c.id, g)])

/-- Fills a contact's position, signal and area from its peak (R400, R404). -/
def Panel.place (x : Panel) (c : Contact) (i j : Nat) : Contact :=
  let pos := x.position i j
  { c with i := i, j := j, x := pos.1, y := pos.2, signal := (min (x.node i j).delta 65535).toNat
           area := min 255 ((x.around i j 2).filter (fun g => decide (x.releaseTh ≤ (x.node g.1 g.2).delta))).length }

/-- The square of the distance of two positions. -/
def sqDist (a b : Nat × Nat) : Nat :=
  let u := max (a.1 - b.1) (b.1 - a.1)
  let v := max (a.2 - b.2) (b.2 - a.2)
  u * u + v * v

/-- A contact in its next scan: its stillness restarts beyond STILL_R, and PERSISTENT clears with it (R394). -/
def Panel.carry (x : Panel) (c : Contact) (i j now : Nat) : Contact :=
  let d := x.place c i j
  let far := decide (x.stillR * x.stillR < sqDist (d.x, d.y) (c.stillX, c.stillY))
  { d with age := min 255 (c.age + 1), down := false, stillX := if far then d.x else c.stillX, stillY := if far then d.y else c.stillY
           since := if far then now else c.since, persistent := c.persistent && !far }

/-- The candidates of a scan that no contact took, with how many consecutive scans have confirmed each (R398). -/
def Panel.newCands (x : Panel) (free : List (Nat × Nat)) : List (Nat × Nat × Nat) :=
  (free.filter (fun g => (x.node g.1 g.2).valid && decide (x.touchTh ≤ (x.node g.1 g.2).delta))).map (fun g =>
    match x.cands.find? (fun c => decide (nodeDist (c.1, c.2.1) g ≤ 2)) with
    | some c => (g.1, g.2, c.2.2 + 1)
    | none => (g.1, g.2, 1))

/-- The lowest free contact number. -/
def freeId (l : List Contact) : Option Nat := (List.range 20).find? (fun k => l.all (fun c => c.id != k))

/-- Turns confirmed candidates into contacts (R398, R399); a 21st is ignored, and stays a candidate (R401). -/
def Panel.takeIn (x : Panel) (now : Nat) : List (Nat × Nat × Nat) → List Contact → List (Nat × Nat × Nat) →
    List Contact × List (Nat × Nat × Nat)
  | [], l, o => (l, o)
  | c :: t, l, o =>
    match freeId l with
    | none => x.takeIn now t l (o ++ [c])
    | some k =>
      let blank : Contact := ⟨k, c.1, c.2.1, 0, 0, 0, 0, 0, 0, now, false, none, 0, true, false, false, false⟩
      let d := x.place blank c.1 c.2.1
      x.takeIn now t (l ++ [{ d with stillX := d.x, stillY := d.y }]) o

/-! Zones (R408-R411). -/

/-- Whether a zone contains a position in 1/16 pixel. -/
def Zone.contains (z : Zone) (x y : Nat) : Bool :=
  decide (16 * z.x ≤ x) && decide (x < 16 * (z.x + z.w)) && decide (16 * z.y ≤ y) && decide (y < 16 * (z.y + z.h))

/-- The zone that a touch-down fires: the safety zone of lowest number, or else the zone of lowest number (R408), which in the safe state
does not fire (17 R656). -/
def State.zoneAt (s : State) (p x y : Nat) : Option (Nat × Zone) :=
  let l := s.zoneList.filter (fun e => e.2.panel == p && e.2.contains x y)
  match l.find? (fun e => e.2.safety) with
  | some e => some e
  | none => if s.safe then none else l.head?

/-- Issues a zone's actions: towards Stipple and towards the audio router (R409, R410); in the safe state only a safety zone's (17 R656). -/
def State.zoneActs (s : State) (z : Nat) (x : Zone) (eff beep : Nat) : State :=
  if s.safe && !x.safety then s
  else
  let t := s.touch
  let t := if x.act < 8 ∧ eff ≠ 0 then { t with haptics := t.haptics ++ [⟨z, x.act, eff, x.safety, x.owner⟩] } else t
  let t := if x.gen < 16 ∧ beep ≠ 0 then { t with beeps := t.beeps ++ [⟨z, x.gen, beep, x.safety, x.owner⟩] } else t
  { s with touch := t }

/-- A zone event with its source, where the zone writes events (R409, R422, R423). -/
def State.zoneEvent (s : State) (p z : Nat) (x : Zone) (code c d2 d3 : Nat) : State :=
  let s := if bit x.flags 4 then s.event x.owner code p z c d2 d3 else s
  if x.safety then s.raise (192 + p) else if bit x.flags 4 then s.raise (216 + p) else s

/-- A contact fires a zone (R408, R409). -/
def State.fireZone (s : State) (p : Nat) (c : Contact) (z : Nat) (x : Zone) : State :=
  let s := if bit x.flags 2 then s.zoneActs z x x.downEff x.downBeep else s
  s.zoneEvent p z x 0x1801 c.id c.x c.y

/-- A contact that fired a zone ends: lifted inside it, lifted outside, or the zone has been changed; `absorbed` for ABSORB (R396, R410,
R411). -/
def State.endZone (s : State) (p : Nat) (c : Contact) (absorbed : Bool) : State :=
  match c.zone with
  | none => s
  | some (z, x) =>
    let same := (s.zone z).map (·.stamp) == some x.stamp
    if absorbed then s.zoneEvent p z x 0x1803 c.id 1 0
    else if !same then s.zoneEvent p z x 0x1803 c.id 2 0
    else if x.contains c.x c.y then
      let s := if bit x.flags 3 then s.zoneActs z x x.upEff x.upBeep else s
      s.zoneEvent p z x 0x1802 c.id c.x c.y
    else s.zoneEvent p z x 0x1803 c.id 0 0

/-- New contacts of a scan fire their zones in increasing contact number (R408, R409); in WAKE no zone fires (R397). -/
def State.fireNew (s : State) (p : Nat) : State :=
  let x := s.panel p
  ((List.range 20).filterMap (fun k => x.contacts.find? (fun c => c.id == k && c.down))).foldl (fun s c =>
    match s.zoneAt p c.x c.y with
    | none => s
    | some (z, zn) =>
      let y := s.panel p
      let s := s.setPanel p { y with contacts := y.contacts.map (fun d => if d.id = c.id then { d with zone := some (z, zn) } else d) }
      s.fireZone p c z zn) s

/-! Reports (R403, R404). -/

/-- A contact record (R404). -/
def Contact.bytes (c : Contact) : List Byte :=
  let flag (b : Bool) (i : Nat) : Nat := if b then 2 ^ i else 0
  let f := flag (c.down || c.owed) 0 + flag c.up 1 + flag c.persistent 2 + flag c.absorbed 3 + flag ((c.zone.map (·.2.safety)).getD false) 4
  leBytes 1 c.id ++ leBytes 1 f ++ leBytes 2 ((c.zone.map (·.1)).getD 0xFFFF) ++ leBytes 4 c.x ++ leBytes 4 c.y ++ leBytes 2 c.signal
    ++ leBytes 1 c.area ++ leBytes 1 c.age

/-- The bytes of a report from byte 2 on (R404). -/
def State.reportBytes (s : State) (p : Nat) (sc : Scan) (l : List Contact) (ovf recal : Bool) : List Byte :=
  let flag (b : Bool) (i : Nat) : Nat := if b then 2 ^ i else 0
  let f := flag (s.flag F.TCH_STAT_UNSYNCED p) 0 + flag ovf 1 + flag sc.noise 2 + flag recal 3 + flag sc.hop.isSome 4
    + flag (s.flag F.TCH_STAT_SPLIT p) 5 + s.fld F.TCH_STAT_LEVEL p * 64
  let body := [BitVec.ofNat 8 p, BitVec.ofNat 8 l.length, BitVec.ofNat 8 f, 0, 0, 0] ++ leBytes 8 sc.time ++ leBytes 4 sc.frame
    ++ List.replicate 12 0 ++ l.flatMap Contact.bytes
  body ++ List.replicate (382 - body.length) 0

/-! The decision of a scan (R390, R396, R398-R405). -/

/-- Lines whose every node clips or reads below a quarter of its acquired baseline count up; the eighth consecutive scan is a class 8 fault of
the panel (17 R636). -/
def State.checkLines (s : State) (p : Nat) : State :=
  let x := s.panel p
  let bad (n : NodeSt) : Bool := !n.valid || decide (4 * n.raw < n.first)
  let keys := (List.range x.txCount).map (fun i => (i, (List.range x.rxCount).all (fun j => bad (x.node i j))))
    ++ (List.range x.rxCount).map (fun j => (128 + j, (List.range x.txCount).all (fun i => bad (x.node i j))))
  keys.foldl (fun s e =>
    let y := s.panel p
    let c := SMap.get (fun _ => 0) y.badLines e.1
    let c' := if e.2 then min 8 (c + 1) else 0
    let s := s.setPanel p { y with badLines := SMap.set (fun _ => 0) y.badLines e.1 c' }
    if c = 7 ∧ c' = 8 then s.fault 8 p else s) s

/-- Carries out the ABSORBs that waited for this scan (R396): RECAL goes to the submitter as well. -/
def State.absorbAll (s : State) (p : Nat) : State :=
  let l := (s.panel p).absorbs
  let s := s.setPanel p { s.panel p with absorbs := [] }
  l.foldl (fun s a =>
    let x := s.panel p
    match x.contacts.find? (fun c => c.id == a.1 && !c.up) with
    | none => (s.panelEvent p 0x1805 0 2 a.1 0 (some a.2)).panelSource p
    | some c =>
      let near := (x.around c.i c.j 2).filter (fun g => (x.node g.1 g.2).valid)
      let y := near.foldl (fun x g => let n := x.node g.1 g.2; x.setNode g.1 g.2 { n with base := n.raw, delta := 0 }) x
      let y := { y with contacts := y.contacts.map (fun d => if d.id = c.id then { d with up := true, absorbed := true } else d) }
      let s := (s.setPanel p y).endZone p c true
      (s.panelEvent p 0x1805 near.length 1 a.1 0 (some a.2)).panelSource p) s

/-- The contacts of a scan, by number: those carried on, those that have lifted and hold their numbers until their last report, and the new
ones; the flag says that a 21st was ignored (R398-R401). -/
def Panel.track (x : Panel) (now : Nat) : Panel × Bool :=
  let had := x.contacts
  let m := matchGo 20 had x.peaks []
  let kept := had.filterMap (fun c => (m.find? (fun e => e.1 == c.id)).map (fun e => x.carry c e.2.1 e.2.2 now))
  let gone := (had.filter (fun c => !(m.any (fun e => e.1 == c.id)))).map (fun c => { c with up := true, down := false, age := min 255 (c.age + 1) })
  let free := x.peaks.filter (fun g => !(m.any (fun e => e.2 == g)))
  let cands := x.newCands free
  let r := x.takeIn now (cands.filter (fun c => decide (x.tune8 1 ≤ c.2.2))) (kept ++ gone) []
  let sorted := (List.range 20).filterMap (fun k => r.1.find? (fun c => c.id == k))
  ({ x with contacts := sorted, cands := cands.filter (fun c => decide (c.2.2 < x.tune8 1)) ++ r.2 }, !r.2.isEmpty)

/-- What a disagreeing second copy of a safety panel's decision adds: the zones it fired, and a class 6 fault (17 R636, R639). -/
def State.secondCopy (s : State) (p : Nat) (copy2 : Option (List Nat)) : State :=
  match copy2 with
  | none => s
  | some zs =>
    let t := zs.foldl (fun (s : State) z =>
      match s.zone z with
      | some zn => if bit zn.flags 2 then s.zoneActs z zn zn.downEff zn.downBeep else s
      | none => s) s
    t.fault 6 p

/-- The end of a scan's handover: the slot carries the new bin alone, and TONE_HOP is written (R381, R422). -/
def State.endHop (s : State) (p : Nat) (hop : Option (Nat × Nat × Nat)) : State :=
  match hop with
  | none => s
  | some (k, old, new) =>
    let y := s.panel p
    let s := (s.setPanel p { y with slots := y.slots.set k new }).showTones p
    let s := s.satInc F.TCH_NOISE_HOPS p
    (s.panelEvent p 0x1807 old new ((y.surveyed[old - 16]?).getD 0) 0).panelSource p

/-- The touch-downs and lift-offs of a scan, with their zones, and the ABSORBs; in WAKE no zone acts (R396, R397, R408-R411). -/
def State.scanActions (s : State) (p : Nat) (wake : Bool) (copy2 : Option (List Nat)) : State :=
  let s := s.count (128 + 4 * p) ((s.panel p).contacts.filter (fun c => c.down)).length
  let s := if wake then s else (s.fireNew p).secondCopy p copy2
  let ups := (s.panel p).contacts.filter (fun c => c.up)
  let s := if wake then s else ups.foldl (fun (s : State) c => s.endZone p c false) s
  s.absorbAll p

/-- The baselines of a scan, its handover, RECAL and line faults (R381, R392, R393). The flag says that nodes went into RECAL. -/
def State.scanBaselines (s : State) (p : Nat) (hop : Option (Nat × Nat × Nat)) : State × Bool :=
  let f := (s.panel p).follow hop
  let s := (s.setPanel p f.1).endHop p hop
  let s := if f.2 ≠ 0 then (s.panelEvent p 0x1805 f.2 0 0xFF 0).panelSource p else s
  (s.checkLines p, f.2 != 0)

/-- The 16-byte contact records of a report. -/
def reportRecords (body : List Byte) : List (List Byte) := (List.range (leAt body 1 1)).map (fun i => (body.drop (30 + 16 * i)).take 16)

/-- Adds DOWN to the record of a contact that an earlier, unwritten report already carried. -/
def carryDown (old : List (List Byte)) (r : List Byte) : List Byte :=
  if old.any (fun o => o.take 1 == r.take 1 && !bit (leAt o 1 1) 1 && bit (leAt o 1 1) 0) then
    r.take 1 ++ leBytes 1 (leAt r 1 1 ||| 1) ++ r.drop 2
  else r

/-- Joins an unwritten report with the next one during a pause: contacts that have ended stay in it once, with their flags
(16 R625). -/
def mergeReports (old new : List Byte) : List Byte :=
  let o := reportRecords old
  let n := (reportRecords new).map (carryDown o)
  let ended := o.filter (fun r => bit (leAt r 1 1) 1)
  let l := (ended ++ n).take 20
  let body := new.take 1 ++ leBytes 1 l.length ++ (new.drop 2).take 28 ++ l.flatten
  body ++ List.replicate (382 - body.length) 0

/-- The end of a scan: the idle level, the counts and the report (R389, R390, R403). The nodes about a PERSISTENT contact do not end an idle
level, since R389 has the panel idle beside it. -/
def State.scanEnd (s : State) (p : Nat) (sc : Scan) (wake ovf recal : Bool) : State :=
  let y := s.panel p
  let busy := y.contacts.any (fun c => !c.up && !c.persistent)
  let rests := (y.contacts.filter (fun c => !c.up && c.persistent)).flatMap (fun c => y.around c.i c.j 2)
  let touched := y.grid.any (fun g => decide (y.touchTh ≤ (y.node g.1 g.2).delta) && !rests.contains g)
  let s := if busy || touched then (s.setPanel p { y with idleSince := s.cyc }).setFld F.TCH_STAT_LEVEL 0 p else s
  let s := s.setFld F.TCH_STAT_SCANS ((s.fld F.TCH_STAT_SCANS p + 1) % 0x10000) p
  let s := if ovf then s.setFld F.TCH_STAT_OVERFLOW 1 p else s
  let y := s.panel p
  let live := y.contacts.filter (fun c => !c.up)
  let s := s.setFld F.TCH_STAT_CONTACTS live.length p
  let rep := if wake || y.contacts.isEmpty then none else some (s.reportBytes p sc y.contacts ovf recal)
  let rep := if s.paused then
      match y.report, rep with
      | some old, some new => some (mergeReports old new)
      | some old, none => some old
      | none, r => r
    else rep
  s.setPanel p { y with contacts := live.map (fun c => { c with owed := wake && (c.owed || c.down) }), scan := none, report := rep }

/-- A completed scan in RUN or WAKE (R390-R405). -/
def State.decideScan (s : State) (p : Nat) (sc : Scan) (wake : Bool) (copy2 : Option (List Nat)) : State :=
  let x := (s.panel p).deltas sc.hop (s.freeBelow 65536)
  let s := if sc.hop.isSome then s.fresh else s
  let r := x.track s.cyc
  let s := (s.setPanel p r.1).scanActions p wake copy2
  let b := s.scanBaselines p sc.hop
  b.1.scanEnd p sc wake r.2 b.2

/-- SCAN_DECISION: after the last drive window (R391, R405). In ACQUIRE the raw values are collected, and the fourth scan gives the baselines. -/
def execScanDecision (p : Nat) (copy2 : Option (List Nat)) (s : State) : Host.Outcome State Fault Refusal :=
  let x := s.panel p
  match x.scan with
  | none => .next s
  | some sc =>
    if sc.done < sc.windows then .next s
    else if s.fld F.TCH_STAT_STATE p = 1 then
      let y := x.acquire
      let s := s.setFld F.TCH_STAT_SCANS ((s.fld F.TCH_STAT_SCANS p + 1) % 0x10000) p
      if y.acqScans < 4 then .next (s.setPanel p { y with scan := none })
      else
        let s := (s.setPanel p { y with scan := none, acqScans := 0, idleSince := s.cyc }).setFld F.TCH_STAT_STATE 2 p
        .next ((s.panelEvent p 0x1806 (s.rg (Reg.TCH_STAT p)).toNat 0 0 0).panelSource p)
    else if s.fld F.TCH_STAT_STATE p = 2 then
      .next (s.decideScan p sc false (if s.safetyPanel p then copy2 else none))
    else .next s

/-- Writes a report into one ring; a faulting write drops it and writes REPORT_FAULT to the ring's owner, at most once per frame (R403, R406). -/
def State.writeReport (s : State) (p : Nat) (client : Bool) (who : RingId) (r : RepRing) (body : List Byte) : State :=
  let out := s.unitWrite (ringWho who) (r.base + 384 * r.index) (leBytes 2 r.seq ++ body)
  let next : RepRing := { r with index := (r.index + 1) % 2 ^ r.log, seq := if r.seq = 0xFFFF then 1 else r.seq + 1 }
  match out with
  | (none, s) =>
    let x := s.panel p
    let s := s.setPanel p (if client then { x with ringC := some next } else { x with ringS := some next })
    if client then s.raise (208 + p) else s
  | (some _, s) =>
    let x := s.panel p
    let frame := s.fld F.DTG_FRAME_COUNT (x.set8 2 % 8)
    let s := s.setPanel p (if client then { x with ringC := some { next with index := r.index } } else { x with ringS := some { next with index := r.index } })
    if x.faultAt = some frame ∧ !s.freeRunning p then s
    else
      let s := s.setPanel p { s.panel p with faultAt := some frame }
      (s.event who 0x1809 p (if client then 0 else 1) r.seq).raise (216 + p)

/-- Writes a panel's report into each ring that is set up (R403); in the safe state only into the S ring's (17 R656). -/
def State.writeReports (s : State) (p : Nat) : State :=
  let x := s.panel p
  match x.report with
  | none => s
  | some body =>
    let s := s.setPanel p { x with report := none }
    let s := match x.ringS with
      | some r => s.writeReport p false .s r body
      | none => s
    match x.ringC, s.holder 2 p with
    | some r, some c => if s.safe then s else s.writeReport p true (.client c) r body
    | _, _ => s

/-- REPORT_WRITE: the scan's report goes into each ring that is set up (R403); during a pause it waits (16 R625). -/
def execReportWrite (p : Nat) (s : State) : Host.Outcome State Fault Refusal :=
  if s.paused then .next s else .next (s.writeReports p)

/-! Timers (R389, R394, R397). -/

/-- PERSIST_TIMER: a contact stationary for PERSIST_S becomes PERSISTENT (R394). -/
def execPersistTimer (p id : Nat) (s : State) : Host.Outcome State Fault Refusal :=
  let x := s.panel p
  match x.contacts.find? (fun c => c.id == id) with
  | none => .next s
  | some c =>
    if c.persistent ∨ !s.passed c.since (x.persistS * 1000000000) then .next s
    else
      let s := s.setPanel p { x with contacts := x.contacts.map (fun d => if d.id = id then { d with persistent := true } else d) }
      let s := s.panelEvent p 0x1804 id ((c.zone.map (·.1)).getD 0xFFFF) c.x c.y
      .next (if (c.zone.map (·.2.safety)).getD false then s.raise (192 + p) else s)

/-- The idle level after a span in cycles (R389). -/
def Panel.levelAfter (x : Panel) (cycles : Nat) : Nat :=
  let due (k : Nat) : Bool := x.tune16 (14 + 2 * k) != 0 && decide (nsCycles (x.tune16 (14 + 2 * k) * 1000000000) ≤ cycles)
  let used (k : Nat) : Bool := (List.range k).all (fun i => x.tune16 (16 + 2 * i) != 0)
  if used 3 && due 3 then 3 else if used 2 && due 2 then 2 else if used 1 && due 1 then 1 else 0

/-- IDLE_LEVEL_TIMER (R389). -/
def execIdleLevelTimer (p : Nat) (s : State) : Host.Outcome State Fault Refusal :=
  let x := s.panel p
  if s.fld F.TCH_STAT_STATE p ≠ 2 ∨ x.contacts.any (fun c => !c.persistent) then .next s
  else
    let l := x.levelAfter (s.cyc - x.idleSince)
    if s.fld F.TCH_STAT_LEVEL p < l then .next (s.setFld F.TCH_STAT_LEVEL l p) else .next s

/-! Class 0x06 (R407, R414-R421). -/

/-- Whether a ring may name a panel (R414). -/
def State.namesPanel (s : State) (r : RingId) (p : Nat) : Bool :=
  match r with
  | .client c => s.holder 2 p == some c
  | _ => true

/-- Whether two ranges of lines overlap. -/
def linesMeet (a n b m : Nat) : Bool := decide (a < b + m) && decide (b < a + n)

/-- Whether another enabled panel holds one of the lines of these parameters (R375). -/
def State.linesTaken (s : State) (p : Nat) (l : List Byte) : Bool :=
  (List.range 8).any (fun q => q != p && s.flag F.TCH_CFG_ENABLE q &&
    (linesMeet (leAt l 4 1) (leAt l 5 1) ((s.panel q).set8 4) (s.panel q).txCount
      || linesMeet (leAt l 6 2) (leAt l 8 1) ((s.panel q).set16 6) (s.panel q).rxCount))

/-- A panel enters ACQUIRE: a survey, then four scans (R391); its contacts end, and `pick` chooses the tone set anew (R382). -/
def State.startAcquire (s : State) (p : Nat) (pick : Bool) : State :=
  let x := s.panel p
  let s := s.setPanel p { x with needSurvey := true, pickTones := pick, surveyDue := false, acqScans := 0, scan := none, contacts := []
                                 cands := [], absorbs := [], report := none, skipped := 0, badLines := []
                                 nodes := if pick then [] else x.nodes.map (fun e => (e.1, { e.2 with sum := 0, count := 0, recal := false })) }
  ((s.setFld F.TCH_STAT_STATE 1 p).setFld F.TCH_STAT_LEVEL 0 p).setFld F.TCH_STAT_CONTACTS 0 p

/-- A PANEL_SET that changes a panel's lines counts class 0x06's epoch (R397). -/
def State.lineEpoch (s : State) (p : Nat) (l : List Byte) : State :=
  if ((s.panel p).params.drop 4).take 5 != (l.drop 4).take 5 then s.bumpEpoch 6 else s

/-- Puts a panel's set-up into effect (R391, R415): enabled, it enters ACQUIRE; disabled, it is OFF. -/
def State.applyPanel (s : State) (p : Nat) (l : List Byte) : State :=
  let s := (s.setPanel p { s.panel p with params := l }).showPanel p
  if bit (leAt l 1 1) 0 then
    let s := s.setFld F.TCH_NOISE_HOPS 0 p
    (s.startAcquire p true).setFlag F.TCH_STAT_UNSYNCED (s.freeRunning p) p
  else
    let s := s.setPanel p { s.panel p with scan := none, contacts := [], cands := [], absorbs := [], report := none, needSurvey := false
                                           surveyDue := false }
    ((s.setFld F.TCH_STAT_STATE 0 p).setFld F.TCH_STAT_CONTACTS 0 p).setFld F.TCH_STAT_LEVEL 0 p

/-- PANEL_SET (R375, R391, R414, R415). -/
def execPanelSet (k : Nat) (s : State) : Host.Outcome State Fault Refusal :=
  match s.opAt k 0x1800 with
  | none => .next s
  | some q =>
    let p := q.p8 0
    let l := q.pkt.params.take 24
    let x := s.panel p
    let clears := x.params.set 1 (BitVec.ofNat 8 (x.set8 1 - 1)) == l
    if q.ring = .med ∧ s.safetyPanel p then .next (s.endOp k St.noPermission)
    else if s.flag F.TCH_CFG_ENABLE p ∧ !clears then .next (s.endOp k St.busy)
    else if bit (leAt l 1 1) 0 ∧ s.linesTaken p l then .next (s.endOp k St.busy)
    else .next (((s.lineEpoch p l).applyPanel p l).endOp k St.ok)

/-- PANEL_TUNE (R414, R416). -/
def execPanelTune (k : Nat) (s : State) : Host.Outcome State Fault Refusal :=
  match s.opAt k 0x1801 with
  | none => .next s
  | some q =>
    let p := q.p8 0
    if q.ring = .med ∧ s.safetyPanel p then .next (s.endOp k St.noPermission)
    else .next ((s.setPanel p { s.panel p with tune := q.pkt.params.take 32 }).endOp k St.ok)

/-- REPORT_SETUP (R414, R417). -/
def execReportSetup (k : Nat) (s : State) : Host.Outcome State Fault Refusal :=
  match s.opAt k 0x1802 with
  | none => .next s
  | some q =>
    let p := q.p8 0
    let x := s.panel p
    if !s.namesPanel q.ring p then .next (s.endOp k St.noPermission)
    else
      let r : Option RepRing := if q.p8 1 = 0 then none else some ⟨q.p64 8, q.p8 1, 0, 1⟩
      .next ((s.setPanel p (if q.ring = .s then { x with ringS := r } else { x with ringC := r })).endOp k St.ok)

/-- The zone that a ZONE_SET's parameters describe. -/
def zoneOf (q : Started) (stamp : Nat) : Zone :=
  ⟨q.ring, q.p8 2, q.p8 3, q.p16 4, q.p16 6, q.p16 8, q.p16 10, q.p8 12, q.p8 13, q.p8 14, q.p8 15, q.p8 16, q.p8 17, stamp⟩

/-- Whether a ring other than the S ring may not make this ZONE_SET (R407, R414, R418). -/
def State.zoneDenied (s : State) (q : Started) (old : Option Zone) : Bool :=
  let foreign := (old.map (fun z => z.owner != q.ring)).getD false
  let z := zoneOf q 0
  let actBad := decide (z.act < 8) && (match q.ring with
    | .client c => s.holder 3 z.act != some c
    | _ => s.flag F.HAP_CFG_CLAIMED z.act)
  let genBad := z.gen == 15 || (decide (z.gen < 15) && !bit ((s.panel z.panel).set16 10) z.gen)
  foreign || (bit z.flags 0 && (z.safety || !s.namesPanel q.ring z.panel || actBad || genBad))

/-- ZONE_SET (R407, R411, R418). -/
def execZoneSet (k : Nat) (s : State) : Host.Outcome State Fault Refusal :=
  match s.opAt k 0x1803 with
  | none => .next s
  | some q =>
    let n := q.p16 0
    let old := s.zone n
    if q.ring ≠ .s ∧ s.zoneDenied q old then .next (s.endOp k St.noPermission)
    else
      let stamp := s.touch.stamp + 1
      let s := { s with touch := { s.touch with stamp := stamp } }
      let s := match old with
        | some z => if z.owner ≠ q.ring then s.event z.owner 0x1808 z.panel n else s
        | none => s
      .next ((s.setZone n (if bit (q.p8 3) 0 then some (zoneOf q stamp) else none)).endOp k St.ok)

/-- ABSORB waits for the next scan (R396, R414, R419). -/
def execAbsorb (k : Nat) (s : State) : Host.Outcome State Fault Refusal :=
  match s.opAt k 0x1804 with
  | none => .next s
  | some q =>
    let p := q.p8 0
    let x := s.panel p
    if !s.namesPanel q.ring p then .next (s.endOp k St.noPermission)
    else match x.contacts.find? (fun c => c.id == q.p8 1) with
      | none => .next (s.endOp k St.range 1)
      | some c =>
        let safe := (c.zone.map (·.2.safety)).getD false || ((s.zoneAt p c.x c.y).map (·.2.safety)).getD false
        if safe ∧ q.ring ≠ .s then .next (s.endOp k St.noPermission)
        else if !c.persistent then .next (s.endOp k St.range 1)
        else .next ((s.setPanel p { x with absorbs := x.absorbs ++ [(c.id, q.ring)] }).endOp k St.deferred)

/-- RECALIBRATE (R391, R414, R419); a panel that is off has nothing to acquire, and the operation answers BUSY. -/
def execRecalibrate (k : Nat) (s : State) : Host.Outcome State Fault Refusal :=
  match s.opAt k 0x1805 with
  | none => .next s
  | some q =>
    let p := q.p8 0
    if q.ring = .med ∧ s.safetyPanel p then .next (s.endOp k St.noPermission)
    else if !s.flag F.TCH_CFG_ENABLE p then .next (s.endOp k St.busy)
    else .next ((s.startAcquire p false).endOp k St.deferred)

/-- PANEL_QUERY (R414, R420). -/
def execPanelQuery (k : Nat) (s : State) : Host.Outcome State Fault Refusal :=
  match s.opAt k 0x1806 with
  | none => .next s
  | some q =>
    let p := q.p8 0
    if !s.namesPanel q.ring p then .next (s.endOp k St.noPermission)
    else
      let live := (s.panel p).contacts.foldl (fun a c => a ||| 2 ^ c.id) 0
      let zones := (s.zoneList.filter (fun e => e.2.panel == p)).length
      .next (s.endOp k St.ok (s.rg (Reg.TCH_STAT p)).toNat (s.rg (Reg.TCH_NOISE p)).toNat live zones)

/-- CTX_SAVE of a panel's set-up (R421). -/
def execTchCtxSave (k : Nat) (s : State) : Host.Outcome State Fault Refusal :=
  match s.opAt k 0x1807 with
  | none => .next s
  | some q =>
    let x := s.panel (q.p8 0)
    let ctx := s.sealContext .med 6 1 (x.params ++ x.tune ++ List.replicate 56 0)
    match s.unitWrite (ringWho q.ring) (q.p64 8) ctx with
    | (none, s) => .next (s.endOp k St.ok)
    | (some r, s) => .next (s.endOp k (faultStatus r) (if faultStatus r = St.range then 8 else 0))

/-- CTX_RESTORE of a panel's set-up (R375, R414, R421; 04 R185): the saved parameters apply to the panel named. -/
def execTchCtxRestore (k : Nat) (s : State) : Host.Outcome State Fault Refusal :=
  match s.opAt k 0x1808 with
  | none => .next s
  | some q =>
    let p := q.p8 0
    if s.safetyPanel p then .next (s.endOp k St.noPermission)
    else if s.flag F.TCH_CFG_ENABLE p then .next (s.endOp k St.busy)
    else match s.unitRead (ringWho q.ring) (q.p64 8) 128 with
      | (.error r, s) => .next (s.endOp k (faultStatus r) (if faultStatus r = St.range then 8 else 0))
      | (.ok l, s) =>
        match s.contextFault .med 6 1 l with
        | some st => .next (s.endOp k st)
        | none =>
          let set := BitVec.ofNat 8 p :: (l.drop 17).take 23
          if bit (leAt set 1 1) 0 ∧ s.linesTaken p set then .next (s.endOp k St.busy)
          else
            let s := s.setPanel p { s.panel p with tune := BitVec.ofNat 8 p :: (l.drop 41).take 31 }
            .next ((s.applyPanel p set).endOp k St.ok)

/-- A panel's holder is gone (R413): its report ring and its zones on the panel go, without UP actions. -/
def State.touchRevoke (s : State) (p c : Nat) : State :=
  let s := s.setPanel p { s.panel p with ringC := none }
  (s.zoneList.filter (fun e => e.2.panel == p && e.2.owner == .client c)).foldl (fun s e => s.setZone e.1 none) s

end Sys2Proof.Machine
end

