-- ==== Sys2Proof/Machine/BootOps.lean ====
section
/-! DEFINITION. Images and their verification, slots, boot control blocks and the pause of an activation or a fallback
(16 R611-R631). -/

namespace Sys2Proof.Machine

/-! Slots (16 R615). -/

/-- The offset of a slot from FW_BASE: PAIR 0 is the firmware pair, 1 the safety pair. -/
def slotBase (pair slot : Nat) : Nat := if pair = 0 then slot * 0x1000000 else 0x2000000 + slot * 0x400000

/-- The size of a slot. -/
def slotSize (pair : Nat) : Nat := if pair = 0 then 0x1000000 else 0x400000

/-- A byte of port 0 from FW_BASE on; erased flash reads 0xFF. -/
def State.flashByte (s : State) (off : Nat) : Byte := SMap.get (fun _ => 0xFF) s.fw.flash off

/-- Bytes of a slot. -/
def State.slotBytes (s : State) (pair slot off n : Nat) : List Byte :=
  (List.range n).map (fun i => s.flashByte (slotBase pair slot + off + i))

/-- The header of a slot's image. -/
def State.slotHead (s : State) (pair slot : Nat) : List Byte := s.slotBytes pair slot 0 512

/-- VERSION, SVN and BODY_LEN of an image header (16 R611). -/
def imgVersion (h : List Byte) : Nat := leAt h 8 4
def imgSvn (h : List Byte) : Nat := leAt h 7 1
def imgLen (h : List Byte) : Nat := leAt h 12 4

/-- The body of a slot's image. -/
def State.slotBody (s : State) (pair slot : Nat) : List Byte := s.slotBytes pair slot 512 (imgLen (s.slotHead pair slot))

/-- The used components of an image: OFFSET, LEN, TARGET (16 R611). -/
def imgParts (h : List Byte) : List (Nat × Nat × Nat) :=
  ((List.range 4).map (fun i => (leAt h (24 + 16 * i) 4, leAt h (28 + 16 * i) 4, leAt h (32 + 16 * i) 1))).filter (fun p => p.2.1 != 0)

/-- The largest LEN of a component that a KIND may carry, and whether it must (16 R612). -/
def partRule (kind target : Nat) : Option (Nat × Bool) :=
  match kind, target with
  | 1, 1 => some (0x80000, true)
  | 1, 2 => some (0x100000, true)
  | 2, 3 => some (0x140000, true)
  | 2, 4 => some (0x200000, false)
  | 3, 5 => some (0xFFFFFFFF, true)
  | 3, 6 => some (0xFFFFFFFF, true)
  | 4, 5 => some (0xFFFFFFFF, true)
  | _, _ => none

/-- Whether an image's components are those of its KIND, each once, no larger than allowed (16 R612). -/
def partsOk (kind : Nat) (l : List (Nat × Nat × Nat)) : Bool :=
  l.all (fun p => match partRule kind p.2.2 with
    | some (most, _) => decide (p.2.1 ≤ most)
    | none => false)
  && [1, 2, 3, 4, 5, 6].all (fun t =>
    let n := (l.filter (fun p => p.2.2 == t)).length
    match partRule kind t with
    | some (_, true) => n == 1
    | _ => decide (n ≤ 1))

/-- The KEY that a KIND requires (16 R612). -/
def kindKey (kind : Nat) : Nat := match kind with | 2 => 1 | 3 => 2 | _ => 0

/-- The hash that a public key must have (16 R613). -/
def keyHash (key : Nat) : Option (List Byte) := if key = 0 then some Config.thilarHash else Config.custKey (key - 1)

/-- The first check of 16 R613 that an image fails; `none` when it verifies. `room` is the size of the place it lies in. -/
def imageFault (h body : List Byte) (kind room floor : Nat) : Option Nat :=
  if leAt h 0 4 ≠ 0x5758494D ∨ leAt h 4 2 ≠ 1 ∨ leAt h 6 1 ≠ kind ∨ leAt h 16 1 ≠ kindKey kind ∨ !partsOk kind (imgParts h) then some 1
  else if room < imgLen h + 512 ∨ (imgParts h).any (fun p => decide (imgLen h < p.1 + p.2.1)) then some 2
  else if keyHash (kindKey kind) ≠ some (sha384 ((h.drop 144).take 96)) then some 3
  else if !ecdsaP384 ((h.drop 144).take 96) (sha384 (h.take 416)) ((h.drop 416).take 96) then some 4
  else if sha384 body ≠ (h.drop 96).take 48 then some 5
  else if kind = 1 ∧ leAt h 7 1 < floor then some 6
  else none

/-- The check of 16 R613 that a slot's image fails, if any. -/
def State.slotFault (s : State) (pair slot : Nat) : Option Nat :=
  let h := s.slotHead pair slot
  let body := if leAt h 0 4 = 0x5758494D ∧ imgLen h + 512 ≤ slotSize pair then s.slotBody pair slot else []
  imageFault h body (pair + 1) (slotSize pair) s.fw.svn

/-- The bytes of a component of a slot's image. -/
def State.slotPart (s : State) (pair slot target : Nat) : Option (List Byte) :=
  match (imgParts (s.slotHead pair slot)).find? (fun p => p.2.2 == target) with
  | some p => some (s.slotBytes pair slot (512 + p.1) p.2.1)
  | none => none

/-- The active slot of a pair (16 R635). -/
def State.activeSlot (s : State) (pair : Nat) : Nat := if pair = 0 then s.fld F.DEV_FW_STAT_FW_SLOT else s.fld F.DEV_FW_STAT_SAPP_SLOT

/-- The inactive slot of a pair. -/
def State.inactiveSlot (s : State) (pair : Nat) : Nat := 1 - s.activeSlot pair

/-- Shows a pair's active slot. -/
def State.showSlot (s : State) (pair slot : Nat) : State :=
  if pair = 0 then s.setFld F.DEV_FW_STAT_FW_SLOT slot else s.setFld F.DEV_FW_STAT_SAPP_SLOT slot

/-- Whether a slot is verified (16 R623). -/
def State.slotVerified (s : State) (pair slot : Nat) : Bool := bit s.fw.verified (2 * pair + slot)

/-- Marks a slot verified or not. -/
def State.markSlot (s : State) (pair slot : Nat) (v : Bool) : State :=
  let b := 2 ^ (2 * pair + slot)
  let was := bit s.fw.verified (2 * pair + slot)
  { s with fw := { s.fw with verified := if v && !was then s.fw.verified + b else if !v && was then s.fw.verified - b else s.fw.verified } }

/-- Whether a pair is on trial (16 R622, R627). -/
def State.onTrial (s : State) (pair : Nat) : Bool := match s.fw.window with | some (p, _, _) => p == pair | none => false

/-- Whether an activation or a fallback of a pair is in progress. -/
def State.pausing (s : State) (pair : Nat) : Bool := match s.fw.pause with | some x => x.pair == pair | none => false

/-! Boot control blocks (16 R616). -/

/-- Both pairs slot A, confirmed: what holds when neither copy is valid. -/
def BootBlock.first : BootBlock := { seq := 0, fwActive := 0, fwTrial := false, sappActive := 0, sappTrial := false, trialSeq := 0 }

/-- Whether copy 1 is in force: the valid one with the higher SEQ. -/
def State.copyBInForce (s : State) : Bool :=
  match s.fw.copyA, s.fw.copyB with
  | some a, some b => decide (a.seq < b.seq)
  | none, some _ => true
  | _, none => false

/-- The boot control block in force. -/
def State.bootBlock (s : State) : BootBlock := ((if s.copyBInForce then s.fw.copyB else s.fw.copyA)).getD BootBlock.first

/-- Writes the other copy, with SEQ one higher. -/
def State.writeBlock (s : State) (b : BootBlock) : State :=
  let n := some { b with seq := s.bootBlock.seq + 1 }
  if s.copyBInForce || s.fw.copyA.isNone then { s with fw := { s.fw with copyA := n } } else { s with fw := { s.fw with copyB := n } }

/-- The block with one pair's slot and state replaced. -/
def BootBlock.set (b : BootBlock) (pair slot : Nat) (trial : Bool) (trialSeq : Nat) : BootBlock :=
  if pair = 0 then { b with fwActive := slot, fwTrial := trial, trialSeq := trialSeq }
  else { b with sappActive := slot, sappTrial := trial, trialSeq := trialSeq }

/-! FIRMWARE records and events (16 R633, R634). -/

/-- Bytes 4–19 of a FIRMWARE record after its key. -/
def State.firmwareBody (s : State) (key pair outcome oldSlot newSlot : Nat) : List Byte :=
  let o := s.slotHead pair oldSlot
  let n := s.slotHead pair newSlot
  leBytes 4 key ++ leBytes 1 pair ++ leBytes 1 outcome ++ leBytes 1 (imgSvn o) ++ leBytes 1 (imgSvn n)
    ++ leBytes 4 (imgVersion o) ++ leBytes 4 (imgVersion n) ++ leBytes 4 (s.rg Reg.AON_RTC).toNat

/-- Asks for a FIRMWARE record. -/
def State.firmwareRecord (s : State) (key pair outcome oldSlot newSlot : Nat) (after : After := .none) : State :=
  s.folioWrite ⟨0x10, s.firmwareBody key pair outcome oldSlot newSlot, true, after⟩

/-- Copies bytes into Safety SRAM or another on-chip place, without a check of the requester. -/
def State.loadBytes (s : State) (a : Nat) (l : List Byte) : State := s.putBytes a l

/-- Loads the components of a slot's image that lie in Safety SRAM (16 R612): secure firmware or the safety application, whose
part of Safety SRAM below the checkpoint region is cleared first (16 R624). -/
def State.loadSlot (s : State) (pair slot : Nat) : State :=
  if pair = 0 then
    (s.setRg Reg.DEV_FW_VER (BitVec.ofNat 32 (imgVersion (s.slotHead 0 slot)))).loadBytes 0x1000000 ((s.slotPart 0 slot 1).getD [])
  else
    let s := { s with mem := SMap.clear s.mem 0x1080000 0x11C0000 }
    let s := { s with fw := { s.fw with sappVer := imgVersion (s.slotHead 1 slot), sappOk := true } }
    s.loadBytes 0x1080000 ((s.slotPart 1 slot 3).getD [])

/-! Settings (16 R630, R631). -/

/-- The latest SETTINGS records of an owner and set (15 R592). -/
def State.settingsOf (s : State) (owner set : Nat) : List FRec :=
  if !s.folioOpen then []
  else s.activeArea.good.filter (fun r => r.typ == 1 && bits r.key 31 30 == owner && bits r.key 23 16 == set)

/-- The highest SCHEMA present in a set; `none` without a record. -/
def State.topSchema (s : State) (owner set : Nat) : Option Nat :=
  (s.settingsOf owner set).foldl (fun m r => some (max (m.getD 0) (bits r.key 15 0))) none

/-- The first of the sets 0xF0-0xFF that the running firmware cannot read, with its SCHEMA. -/
def State.unreadable (s : State) : Option (Nat × Nat) :=
  (List.range 16).findSome? (fun i =>
    match s.topSchema 0 (0xF0 + i) with
    | some c => if Config.readsSchema (s.rg Reg.DEV_FW_VER).toNat (0xF0 + i) c then none else some (0xF0 + i, c)
    | none => none)

/-- The settings check, with its event (16 R630, R631). -/
def State.checkSettings (s : State) (pair : Nat) : State :=
  match s.unreadable with
  | some (set, c) => (s.setFld F.DEV_FW_STAT_UNREADABLE 1).eventSM 0x3005 pair set c
  | none => s.setFld F.DEV_FW_STAT_UNREADABLE 0

/-! The pause (16 R624-R628). -/

/-- The pause starts: no further packet starts on any ring. -/
def State.beginPause (s : State) (pair : Nat) (back : Bool) (cause window : Nat) (vote : Bool) : State :=
  let s := { s with fw := { s.fw with pause := some { pair := pair, back := back, cause := cause, began := s.cyc, committed := false
                                                      stopped := false, window := window, vote := vote } } }
  s.setFld F.DEV_FW_STAT_STATE (if back then 3 else 2)

/-- Stops a packet that is still running (R624 step 2): it starts again from the beginning after the pause; an in-place Graver
operation goes on at its next strip, and a locked flash sequence runs to its end. -/
def State.stopPacket (s : State) (k : Nat) (p : Started) : State :=
  if p.result.isSome || s.locksFlash k || inPlace p.pkt.opcode p.pkt.params then s
  else
    let s := match s.heldBy (.packet k) with
      | some (u, g) =>
        let x : Request := { holder := .packet k, rank := g.rank, locked := false, takes := g.takes, taken := true, seq := s.arb.seq }
        (({ s.setGrant u none with arb := { (s.setGrant u none).arb with seq := s.arb.seq + 1 } }).enqueue (poolOf u) x)
      | none => s
    s.setPlace k (some { p with restarts := p.restarts + 1, progress := 0 })

/-- Stops every packet still running. -/
def State.stopPackets (s : State) : State := s.busyPlaces.foldl (fun (s : State) e => s.stopPacket e.1 e.2) s

/-- The commit point of an activation (R624 step 3): packets still running are stopped, unless the pair is the safety pair, and the
boot control block names the new slot on trial. `n` is the SEQ of the FIRMWARE record. -/
def State.commitPoint (s : State) (n : Nat) : State :=
  match s.fw.pause with
  | none => s
  | some x =>
    let slot := s.inactiveSlot x.pair
    let s := if x.pair = 0 then s.stopPackets else s
    let s := (s.writeBlock (s.bootBlock.set x.pair slot true n)).showSlot x.pair slot
    { s with fw := { s.fw with pause := some { x with committed := true, stopped := x.pair == 0 } } }

/-- Command service resumes (R624 step 6): held events and touch reports are written, and the arbiter decides again. -/
def State.resumeService (s : State) : State :=
  let s := s.endPause
  let s := (List.range 8).foldl (fun (s : State) p => s.writeReports p) s
  [0, 1, 2, 3].foldl (fun (s : State) pool => s.decidePool pool) s

/-- The time a pause has lasted, in microseconds. -/
def State.pauseUs (s : State) (x : Pause) : Nat := s.usSince x.began

/-- The outcomes of the packet that started an operation go on after a record's commit (15 R590, 16 R624). -/
def State.afterCommit (s : State) (a : After) (n : Nat) : State :=
  match a with
  | .none => s
  | .op k => s.endOp k St.ok
  | .wear a r b => s.wearReset a r b n
  | .commitPoint => s.commitPoint n

end Sys2Proof.Machine
end

