-- ==== Sys2Proof/Machine/Folio.lean ====
section
/-! DEFINITION. The commands and steps of the Folio journal, lifetime records and the inspection calendar (15). -/

namespace Sys2Proof.Machine

/-! Steps on xSPI port 1 (15 R590, R594, R595, R605). -/

/-- The flash address of a page of an area: `b` says area B (15 R586). -/
def State.folioAddr (s : State) (b : Bool) (page : Nat) : Nat :=
  s.fld F.FOL_CFG_BASE * 0x10000 + (if b then s.areaBlocks * 0x10000 else 0) + page * 256

/-- FLASH_ERROR and source 321 (15 R609). -/
def State.flashError (s : State) (kind addr : Nat) : State := (s.raise 321).eventSM 0x2C04 noInst kind addr

/-- An area whose header is written but not committed (15 R587, R594). -/
def FArea.started (gen : Nat) : FArea :=
  { blank := false, magic := true, gen := gen, device := Config.otpSerial, tagOk := true, committed := false, recs := [] }

/-- The copy step of a compaction begins: the kept records are chosen and the new header is written (15 R592, R594, R596). -/
def State.beginCopy (s : State) : State :=
  let k := s.keptRecords
  let s := s.setInactive (FArea.started (s.activeArea.gen + 1))
  let s := { s with fol := { s.fol with compact := some (.copy k.1 0) } }
  if k.2 = 0 then s else s.eventSM 0x2C03 noInst k.2 0

/-- Begins the copy step once the inactive area is erased and no record is being written. -/
def State.copyIfErased (s : State) : State :=
  match s.fol.compact with
  | some (.erase 0) => if s.fol.writing.isNone && !s.fol.pfLow then s.beginCopy else s
  | _ => s

/-- Copies one record, with its SEQ unchanged (15 R594). -/
def State.copyRecord (s : State) (r : FRec) (left : List FRec) (n : Nat) : State :=
  let x := s.inactiveArea
  let s := s.setInactive { x with recs := x.recs ++ [r] }
  { s with fol := { s.fol with compact := some (.copy left (n + 1)) } }

/-- A program that failed: FLASH_ERROR, and the record begins again elsewhere (15 R590, R609). -/
def State.programFailed (s : State) : State :=
  let s := s.flashError 1 (s.folioAddr (s.flag F.FOL_STAT_ACTIVE) s.activeArea.used)
  match s.fol.writing with
  | some _ => s.abandonWrite.copyIfErased.folioNext
  | none => s

/-- FLASH_PROGRAM_DONE: a program on port 1 ends (15 R590, R594). A record's body is followed by its commit; the commit makes the
record exist, and what waits for it goes on; during a compaction's copy step one kept record has been copied. -/
def execFlashProgramDone (ok : Bool) (s : State) : Host.Outcome State Fault Refusal :=
  if s.fol.pfLow then .next s
  else match s.fol.writing with
    | some (w, body, n) =>
      if !ok then .next s.programFailed
      else if !body then .next { s with fol := { s.fol with writing := some (w, true, n) } }
      else
        let s := ({ s with fol := { s.fol with writing := none } }).appendRec (FRec.whole w.typ n w.body)
        .next ((((s.afterCommit w.after n).compactIfFull).copyIfErased).folioNext)
    | none =>
      match s.fol.compact with
      | some (.copy (r :: left) n) => if ok then .next (s.copyRecord r left n) else .next s.programFailed
      | _ => .next s

/-- COMPACTION_COMMIT: the new header is committed once every kept record is copied; the new area is active from then on
(15 R594). -/
def execCompactionCommit (s : State) : Host.Outcome State Fault Refusal :=
  match s.fol.compact with
  | some (.copy [] n) =>
    if s.fol.pfLow then .next s
    else
      let x := s.inactiveArea
      let s := s.setInactive { x with committed := true }
      let s := s.setFlag F.FOL_STAT_ACTIVE (!s.flag F.FOL_STAT_ACTIVE)
      let s := s.setFld F.FOL_STAT_COMPACTING 0
      let s := { s with fol := { s.fol with compact := none } }
      .next ((s.eventSM 0x2C02 noInst x.gen n).compactIfFull.folioNext)
  | _ => .next s

/-- A new Folio in two erased areas (15 R604, R605): area A's header with GEN 1, then a FIRMWARE record. -/
def State.newFolio (s : State) : State :=
  let s := s.setFld F.FOL_STAT_ACTIVE 0
  let s := { s with fol := { s.fol with areaA := { FArea.started 1 with committed := true }, areaB := FArea.erased, seq := 0 } }
  let s := s.setFld F.FOL_STAT_STATE 2
  s.commitNow 0x10 (s.firmwareBody 0 0 1 (s.activeSlot 0) (s.activeSlot 0))

/-- FOLIO_ADOPT's last block is erased (15 R605): a NEW Folio whose first FAULT record carries the previous state and the foreign
DEVICE. -/
def State.adopted (s : State) (old device : Nat) : State :=
  let s := ({ s with fol := { s.fol with adopt := none } }).newFolio
  let s := s.folioWrite ⟨0x11, leBytes 4 0 ++ leBytes 4 old ++ leBytes 8 device ++ leBytes 4 (s.rg Reg.AON_RTC).toNat ++ leBytes 4 0xFFFF, true, .none⟩
  (s.raise 320).eventSM 0x2C01 noInst 4 (device % 2 ^ 32)

/-- A block of the areas is erased for a compaction: what the inactive area held is gone with its first block. -/
def State.blockErased (s : State) (left : Nat) : State :=
  let x := if left = 0 then FArea.erased else { FArea.erased with blank := false }
  let s := s.setInactive x
  ({ s with fol := { s.fol with compact := some (.erase left) } }).copyIfErased

/-- A block erase on port 1 ends (15 R594, R605). -/
def State.folioErased (s : State) (ok : Bool) : State :=
  if s.fol.pfLow then s
  else match s.fol.adopt with
    | some (left, old, device) =>
      if !ok then s.flashError 2 (s.folioAddr false ((2 * s.areaBlocks - left) * 256))
      else if left ≤ 1 then s.adopted old device
      else
        let part : FArea := { FArea.erased with blank := false }
        { s with fol := { s.fol with areaA := part, areaB := part, adopt := some (left - 1, old, device) } }
    | none =>
      match s.fol.compact with
      | some (.erase (n + 1)) =>
        if ok then s.blockErased n else s.flashError 2 (s.folioAddr (!s.flag F.FOL_STAT_ACTIVE) ((s.areaBlocks - (n + 1)) * 256))
      | _ => s

/-! Class 0x0B (15 R608). -/

/-- FOLIO_QUERY. -/
def execFolioQuery (k : Nat) (s : State) : Host.Outcome State Fault Refusal :=
  match s.opAt k 0x2C00 with
  | none => .next s
  | some _ =>
    .next (s.endOp k St.ok (s.rg Reg.FOL_STAT).toNat s.activeArea.gen ((s.areaPages - s.activeArea.used) * 256) s.fol.seq)

/-- Whether a ring is the S-world's. -/
def ringIsS (r : RingId) : Bool := r == .s

/-- FOLIO_FLUSH (15 R597): the records of one snapshot; `OK` when the last is committed. -/
def execFolioFlush (k : Nat) (s : State) : Host.Outcome State Fault Refusal :=
  match s.opAt k 0x2C01 with
  | none => .next s
  | some p =>
    if p.progress ≠ 0 then .next s
    else if !s.folioOpen then .next (s.endOp k St.busy)
    else
      let s := s.setProgress k 1
      .next ((s.flushRecords (ringIsS p.ring) (.op k)).foldl (fun (s : State) w => s.folioWrite w) s)

/-- The key of a SETTINGS record (15 R592): OWNER 0 S-world, 1 mediator. -/
def settingsKey (r : RingId) (set schema : Nat) : Nat := (if ringIsS r then 0 else 2 ^ 30) + set * 0x10000 + schema

/-- SETTINGS_WRITE: `OK` when committed; `SETTINGS_UNREADABLE` while firmware cannot read its settings (16 R631). -/
def execSettingsWrite (k : Nat) (s : State) : Host.Outcome State Fault Refusal :=
  match s.opAt k 0x2C02 with
  | none => .next s
  | some p =>
    if p.progress ≠ 0 then .next s
    else if s.flag F.DEV_FW_STAT_UNREADABLE then .next (s.endOp k St.settingsUnreadable)
    else if !s.folioOpen then .next (s.endOp k St.busy)
    else match s.unitRead (ringWho p.ring) (p.p64 8) (p.p32 4) with
      | (.error e, s) => if faultStatus e = St.frozen then .next (s.endOp k St.frozen) else .next (s.endOp k St.range 8 e)
      | (.ok l, s) =>
        .next ((s.setProgress k 1).folioWrite ⟨1, leBytes 4 (settingsKey p.ring (p.p8 0) (p.p16 2)) ++ l, ringIsS p.ring, .op k⟩)

/-- Writes bytes into a buffer named at an offset of P and ends the operation (03 R132). -/
def State.replyBytes (s : State) (k : Nat) (p : Started) (off : Nat) (l : List Byte) (r0 r1 : Nat) : State :=
  match s.unitWrite (ringWho p.ring) (p.p64 off) l with
  | (none, s) => s.endOp k St.ok r0 r1
  | (some e, s) => if faultStatus e = St.frozen then s.endOp k St.frozen else s.endOp k St.range off e

/-- SETTINGS_READ: SCHEMA 0 means the highest present. -/
def execSettingsRead (k : Nat) (s : State) : Host.Outcome State Fault Refusal :=
  match s.opAt k 0x2C03 with
  | none => .next s
  | some p =>
    let owner := if ringIsS p.ring then 0 else 1
    let schema := if p.p16 2 = 0 then (s.topSchema owner (p.p8 0)).getD 0 else p.p16 2
    match if s.folioOpen then s.record 1 (settingsKey p.ring (p.p8 0) schema) else none with
    | none => .next (s.endOp k St.range 0)
    | some r =>
      let l := r.body.drop 4
      if p.p32 4 < l.length then .next (s.endOp k St.badLength 0) else .next (s.replyBytes k p 8 l schema l.length)

/-- LOG_READ: INDEX 0 is the newest record of a type. -/
def execLogRead (k : Nat) (s : State) : Host.Outcome State Fault Refusal :=
  match s.opAt k 0x2C04 with
  | none => .next s
  | some p =>
    let l := if s.folioOpen then (s.activeArea.good.filter (fun r => r.typ == p.p16 0)).reverse else []
    match l[p.p32 4]? with
    | none => .next (s.endOp k St.range 4)
    | some r => .next (s.replyBytes k p 8 r.body r.seq r.body.length)

/-- FOLIO_ADOPT (15 R605): both areas are erased, whatever was being written; the Folio starts anew. -/
def execFolioAdopt (k : Nat) (s : State) : Host.Outcome State Fault Refusal :=
  match s.opAt k 0x2C07 with
  | none => .next s
  | some _ =>
    if s.fol.adopt.isSome ∨ s.fld F.FOL_STAT_STATE = 0 then .next (s.endOp k St.busy)
    else
      let foreign (x : FArea) : Option Nat := if x.magic && !x.tagOk then some x.device else none
      let device := ((foreign s.fol.areaA).orElse (fun _ => foreign s.fol.areaB)).getD 0
      let s := s.abandonWrite.setFld F.FOL_STAT_COMPACTING 0
      let s := { s with fol := { s.fol with compact := none, adopt := some (2 * s.areaBlocks, s.fld F.FOL_STAT_STATE - 1, device) } }
      .next (s.endOp k St.deferred)

/-! Calendar (15 R601-R603). -/

/-- Today: the RTC divided by 86,400 (15 R601). -/
def State.today (s : State) : Nat := (s.rg Reg.AON_RTC).toNat / 86400

/-- A calendar entry, if it is set; a body of the key alone deletes it (15 R592, R602). -/
def State.calEntry (s : State) (e : Nat) : Option (List Byte) :=
  if !s.folioOpen then none
  else match s.record 5 e with
    | some r => if r.body.length ≤ 4 then none else some r.body
    | none => none

/-- The events of an entry already written for its DUE_DAY. -/
def State.calDone (s : State) (e due : Nat) : Nat :=
  ((s.fol.calSent.find? (fun x => x.1 == e && x.2.1 == due)).map (·.2.2)).getD 0

/-- A calendar event: to the S ring, and to the mediator except for KIND 1 and 2 (15 R609). -/
def State.calEvent (s : State) (code e due kind : Nat) : State :=
  let s := (s.raise 322).event .s code noInst e due
  if kind = 1 ∨ kind = 2 then s else s.event .med code noInst e due

/-- Evaluates one entry: CAL_DUE from DUE_DAY − WARN, CAL_OVERDUE from DUE_DAY + 1, once each for a DUE_DAY (15 R603). -/
def State.evalEntry (s : State) (e : Nat) : State :=
  match s.calEntry e with
  | none => s
  | some b =>
    let due := leAt b 8 4
    let sent := s.calDone e due
    let d0 := decide (due ≤ s.today + leAt b 12 2) && !bit sent 0
    let d1 := decide (due + 1 ≤ s.today) && !bit sent 1
    if !d0 && !d1 then s
    else
      let now := sent + (if d0 then 1 else 0) + (if d1 then 2 else 0)
      let s := { s with fol := { s.fol with calSent := s.fol.calSent.filter (fun x => x.1 != e) ++ [(e, due, now)] } }
      let s := if d0 then s.calEvent 0x2C05 e due (leAt b 4 2) else s
      if d1 then s.calEvent 0x2C06 e due (leAt b 4 2) else s

/-- Evaluates every entry, and notes the day (15 R603). -/
def State.evalCalendar (s : State) : State :=
  (List.range 64).foldl (fun (s : State) e => s.evalEntry e) { s with fol := { s.fol with day := s.today } }

/-- CAL_SET: the CALENDAR body at P; INTERVAL 0 deletes the entry (15 R602, R608). -/
def execCalSet (k : Nat) (s : State) : Host.Outcome State Fault Refusal :=
  match s.opAt k 0x2C05 with
  | none => .next s
  | some p =>
    if p.progress ≠ 0 then .next s
    else if !s.folioOpen then .next (s.endOp k St.busy)
    else
      let body := if p.p16 6 = 0 then p.pkt.params.take 4 else p.pkt.params.take 48
      .next ((s.setProgress k 1).folioWrite ⟨5, body, true, .op k⟩)

/-- CAL_DONE: DUE_DAY becomes today + INTERVAL, and a MAINT record is written (15 R608). -/
def execCalDone (k : Nat) (s : State) : Host.Outcome State Fault Refusal :=
  match s.opAt k 0x2C06 with
  | none => .next s
  | some p =>
    if p.progress ≠ 0 then .next s
    else if !s.folioOpen then .next (s.endOp k St.busy)
    else match s.calEntry (p.p32 0) with
      | none => .next (s.endOp k St.range 0)
      | some b =>
        let body := b.take 8 ++ leBytes 4 (s.today + leAt b 6 2) ++ b.drop 12
        let s := (s.setProgress k 1).folioWrite ⟨5, body, true, .none⟩
        .next (s.folioWrite ⟨0x12, leBytes 4 0xFFFFFFFF ++ leBytes 4 (p.p32 0) ++ leBytes 4 (s.rg Reg.AON_RTC).toNat, true, .op k⟩)

/-- DAY_CHANGE: at a change of day the calendar is evaluated (15 R603). -/
def execDayChange (s : State) : Host.Outcome State Fault Refusal :=
  if s.today = s.fol.day then .next s else .next s.evalCalendar

/-! Timers (15 R597, R600). -/

/-- FLUSH_TIMER: every 15 minutes of RTC time the counters are flushed (15 R597). -/
def execFlushTimer (s : State) : Host.Outcome State Fault Refusal :=
  let now := (s.rg Reg.AON_RTC).toNat
  if s.fol.flushed ≤ now ∧ now < s.fol.flushed + 900 then .next s
  else
    let s := { s with fol := { s.fol with flushed := now } }
    if s.folioOpen then .next ((s.flushRecords true .none).foldl (fun (s : State) w => s.folioWrite w) s) else .next s

/-- The bin of a temperature in 0.1 °C (15 R600). -/
def tjBin (tj : Int) : Nat := if tj < -200 then 0 else if 1200 ≤ tj then 15 else ((tj + 300) / 100).toNat

/-- HISTOGRAM_MINUTE: the hottest sensor's reading adds one minute to its bin, while the main supply is on (15 R600). -/
def execHistogramMinute (tj : Int) (s : State) : Host.Outcome State Fault Refusal :=
  if !s.flt.poresetHi then .next s
  else
    let b := tjBin tj
    let n := min (SMap.get (fun _ => 0) s.fol.hist b + 1) 0xFFFFFFFF
    let top := match s.fol.tjMax with
      | some t => max t tj
      | none => tj
    .next { s with fol := { s.fol with hist := SMap.set (fun _ => 0) s.fol.hist b n, tjMax := some top } }

/-! Power failure (15 R606, 19 R719). -/

/-- PWR_FAIL_FALL: source 3; no new Folio work starts, a record being written is abandoned, POWER_FAILS counts, and the COUNTERS record
is committed; an activation before its commit point is abandoned (15 R606, R607; 16 R626; 19 R719, R726). In Vault the pin is
ignored. -/
def execPwrFailFall (s : State) : Host.Outcome State Fault Refusal :=
  if s.fol.pfLow || s.pwr.vault || !s.flt.poresetHi then .next s
  else
    let s := (s.raise 3).count 64
    let s := { s with pwr := { s.pwr with pfAt := some s.cyc } }
    let s := s.abandonActivation.abandonWrite
    let s := { s with fol := { s.fol with pfLow := true, compact := match s.fol.compact with
        | some (.copy _ _) => some (.erase s.areaBlocks)
        | c => c } }
    if s.folioOpen then .next ((s.commitNow 2 s.countersBody).setFld F.FOL_STAT_PF_DONE 1) else .next s

/-- PWR_FAIL_RISE: when the supplies have stayed within range, Folio writes and erases go on, and POWER_RESTORED is written
(19 R719). -/
def execPwrFailRise (ok : Bool) (s : State) : Host.Outcome State Fault Refusal :=
  if !s.fol.pfLow || !ok then .next s
  else
    let us := match s.pwr.pfAt with
      | some c => s.usSince c
      | none => 0
    let s := { s with fol := { s.fol with pfLow := false }, pwr := { s.pwr with pfAt := none } }
    .next ((s.eventSM 0x3C04 noInst us 0).compactIfFull.copyIfErased.folioNext)

end Sys2Proof.Machine
end

