-- ==== Sys2Proof/Machine/Firmware.lean ====
section
/-! DEFINITION. The commands of class 0x0C: staging, verifying, activating, confirming and abandoning firmware (16 R622-R634), and the
flash erases that end on either port. -/

namespace Sys2Proof.Machine

/-- Whether FW_ERASE, FW_WRITE and FW_VERIFY of a pair are busy (16 R622). -/
def State.pairBusy (s : State) (pair : Nat) : Bool := s.onTrial pair || s.pausing pair

/-- FW_QUERY (16 R632). -/
def execFwQuery (k : Nat) (s : State) : Host.Outcome State Fault Refusal :=
  match s.opAt k 0x3000 with
  | none => .next s
  | some _ =>
    let i := s.inactiveSlot 0
    let left := match s.fw.window with
      | some (_, c, m) => min 4095 (m * 60 - s.usSince c / 1000000)
      | none => 0
    let stat := putBits (s.rg Reg.DEV_FW_STAT) 11 0 left
    .next (s.endOp k St.ok stat.toNat (s.rg Reg.DEV_FW_VER).toNat s.fw.sappVer (if s.slotVerified 0 i then imgVersion (s.slotHead 0 i) else 0))

/-- The firmware task that works on the flash port for a submitter of a rank (16 R622). -/
def slotTask (rank : Nat) : Requester := .task rank 2

/-- FW_ERASE (16 R622): the inactive slot is no longer verified, and is erased block by block. -/
def execFwErase (k : Nat) (s : State) : Host.Outcome State Fault Refusal :=
  match s.opAt k 0x3001 with
  | none => .next s
  | some p =>
    let pair := p.p8 0
    if s.pairBusy pair then .next (s.endOp k St.busy)
    else
      let slot := s.inactiveSlot pair
      let s := s.markSlot pair slot false
      let j : SlotJob := { pair := pair, slot := slot, verify := false, blocks := slotSize pair / 0x10000, rank := s.rankOf (.packet k) }
      .next (({ s with fw := { s.fw with jobs := s.fw.jobs ++ [j] } }).endOp k St.deferred)

/-- Replaces the first job that matches by what `f` makes of it. -/
def stepJob (f : SlotJob → Bool) (g : SlotJob → Option SlotJob) : List SlotJob → List SlotJob
  | [] => []
  | j :: t => if f j then (match g j with | some x => x :: t | none => t) else j :: stepJob f g t

/-- A block erase on port 0 ends: it needs the flash port, which is released after each block; FW_STAGED with DATA0 0 follows the last
(16 R622, R633). -/
def State.slotErased (s : State) (ok : Bool) : State :=
  match s.fw.jobs.find? (fun j => !j.verify) with
  | none => s
  | some j =>
    match s.heldBy (slotTask j.rank) with
    | some (12, _) =>
      let off := slotBase j.pair j.slot + slotSize j.pair - j.blocks * 0x10000
      let s := s.releaseUnit 12
      if !ok then s.flashError 2 off
      else
        let s := { s with fw := { s.fw with flash := SMap.clear s.fw.flash off (off + 0x10000) } }
        let jobs := stepJob (fun x => !x.verify) (fun x => if x.blocks ≤ 1 then none else some { x with blocks := x.blocks - 1 }) s.fw.jobs
        let s := { s with fw := { s.fw with jobs := jobs } }
        if j.blocks ≤ 1 then s.eventSM 0x3001 j.pair 0 0 0 else s
    | _ => s

/-- FLASH_ERASE_DONE: a block erase ends, on port 0 for a slot or on port 1 for the Folio (15 R594, R605; 16 R622). -/
def execFlashEraseDone (port : Nat) (ok : Bool) (s : State) : Host.Outcome State Fault Refusal :=
  .next (if port = 0 then s.slotErased ok else s.folioErased ok)

/-- Programs bytes into flash, which can only clear bits. -/
def programFlash (m : SMap Byte) : Nat → List Byte → SMap Byte
  | _, [] => m
  | off, b :: l => programFlash (SMap.set (fun _ => 0xFF) m off (SMap.get (fun _ => 0xFF) m off &&& b)) (off + 1) l

/-- FW_WRITE (16 R622): one page of the inactive slot for each grant of the flash port; `OK` after the last. -/
def execFwWrite (k : Nat) (s : State) : Host.Outcome State Fault Refusal :=
  match s.opAt k 0x3002 with
  | none => .next s
  | some p =>
    let pair := p.p8 0
    if s.pairBusy pair then .next (s.endOpFree k St.busy)
    else match s.holdsIn (.packet k) 2 with
      | none => .next s
      | some _ =>
        let slot := s.inactiveSlot pair
        let at_ := 256 * p.progress
        let n := min 256 (p.p32 8 - at_)
        match s.unitRead (ringWho p.ring) (p.p64 16 + at_) n with
        | (.error e, s) => if faultStatus e = St.frozen then .next (s.endOpFree k St.frozen) else .next (s.endOpFree k St.range 16 e)
        | (.ok l, s) =>
          let s := s.markSlot pair slot false
          let s := { s with fw := { s.fw with flash := programFlash s.fw.flash (slotBase pair slot + p.p32 4 + at_) l } }
          if p.p32 8 ≤ at_ + n then .next (s.endOpFree k St.ok) else .next ((s.setProgress k (p.progress + 1)).withdraw (.packet k))

/-- FW_VERIFY (16 R622, R623). -/
def execFwVerify (k : Nat) (s : State) : Host.Outcome State Fault Refusal :=
  match s.opAt k 0x3003 with
  | none => .next s
  | some p =>
    let pair := p.p8 0
    if s.pairBusy pair then .next (s.endOp k St.busy)
    else
      let j : SlotJob := { pair := pair, slot := s.inactiveSlot pair, verify := true, blocks := 0, rank := s.rankOf (.packet k) }
      .next (({ s with fw := { s.fw with jobs := s.fw.jobs ++ [j] } }).endOp k St.deferred)

/-- FW_VERIFY_DONE: the slot is verified or not, and FW_STAGED reports it (16 R613, R623, R633). -/
def execFwVerifyDone (s : State) : Host.Outcome State Fault Refusal :=
  match s.fw.jobs.find? (fun j => j.verify) with
  | none => .next s
  | some j =>
    let bad := s.slotFault j.pair j.slot
    let v := imgVersion (s.slotHead j.pair j.slot)
    let s := { s with fw := { s.fw with jobs := stepJob (fun x => x.verify) (fun _ => none) s.fw.jobs } }
    let s := s.markSlot j.pair j.slot bad.isNone
    .next (match bad with
      | none => s.eventSM 0x3001 j.pair 1 0 v
      | some c => s.eventSM 0x3001 j.pair 2 c v)

/-- FW_ACTIVATE (16 R624, R632): `CHECK_FAILED` without a verified slot, `BUSY` when another condition fails; then the pause starts, and
the FIRMWARE record that opens the trial is asked for. -/
def execFwActivate (k : Nat) (s : State) : Host.Outcome State Fault Refusal :=
  match s.opAt k 0x3004 with
  | none => .next s
  | some p =>
    let pair := p.p8 0
    if !s.slotVerified pair (s.inactiveSlot pair) then .next (s.endOp k St.checkFailed)
    else if s.fw.window.isSome || !s.folioOpen || s.safe || s.paused then .next (s.endOp k St.busy)
    else
      let s := (s.endOp k St.deferred).beginPause pair false 0 (if p.p8 1 = 0 then 10 else p.p8 1) (bit (p.p8 2) 0)
      .next (s.firmwareRecord 0 pair 0 (s.activeSlot pair) (s.inactiveSlot pair) .commitPoint)

/-- The new image cannot be loaded (16 R626): the old slot is active and confirmed again. -/
def State.abortActivation (s : State) (x : Pause) : State :=
  let new := s.activeSlot x.pair
  let old := 1 - new
  let v := imgVersion (s.slotHead x.pair new)
  let key := s.bootBlock.trialSeq
  let s := (s.writeBlock (s.bootBlock.set x.pair old false 0)).showSlot x.pair old
  let s := (s.setFld F.DEV_FW_STAT_STATE 0).firmwareRecord key x.pair 5 old new
  let us := s.pauseUs x
  (s.resumeService).eventSM 0x3002 x.pair v us 1

/-- The new image has taken over (16 R624 steps 4-6, R627, R629). -/
def State.takeOverImage (s : State) (x : Pause) : State :=
  let slot := s.activeSlot x.pair
  let s := s.loadSlot x.pair slot
  let us := s.pauseUs x
  let s := (s.setFld F.DEV_FW_STAT_STATE 1).setFlag F.DEV_FW_STAT_SAPP_TRIAL (x.pair = 1)
  let s := (s.setFlag F.DEV_FW_STAT_MED_VOTE x.vote).setFld F.DEV_FW_STAT_MED_DONE 0
  let s := { s with fw := { s.fw with window := some (x.pair, s.cyc, x.window), sDone := false } }
  let s := (((s.count 88).bumpEpoch 0x0C).resumeService).eventSM 0x3002 x.pair (imgVersion (s.slotHead x.pair slot)) us 0
  s.checkSettings x.pair

/-- A fallback runs through (16 R628, R629): the old slot is active and confirmed again, and the record and FW_FALLBACK are written. -/
def State.fallBack (s : State) (x : Pause) : State :=
  let new := s.activeSlot x.pair
  let old := 1 - new
  let key := s.bootBlock.trialSeq
  let s := if x.pair = 0 then s.stopPackets else s
  let s := (s.writeBlock (s.bootBlock.set x.pair old false 0)).showSlot x.pair old
  let s := s.loadSlot x.pair old
  let s := ((s.setFld F.DEV_FW_STAT_STATE 0).setFld F.DEV_FW_STAT_SAPP_TRIAL 0).setFld F.DEV_FW_STAT_MED_VOTE 0
  let s := { s.setFld F.DEV_FW_STAT_MED_DONE 0 with fw := { s.fw with window := none, sDone := false } }
  let s := s.firmwareRecord key x.pair x.cause old new
  let us := s.pauseUs x
  let s := (((s.count 92).bumpEpoch 0x0C).resumeService).eventSM 0x3004 x.pair x.cause (imgVersion (s.slotHead x.pair old)) us
  s.checkSettings x.pair

/-- ACTIVATION_RESUME: the pause ends (16 R624, R626, R628). The BODY_HASH of a firmware image is checked again first. -/
def execActivationResume (s : State) : Host.Outcome State Fault Refusal :=
  match s.fw.pause with
  | none => .next s
  | some x =>
    if x.back then .next (s.fallBack x)
    else if !x.committed then .next s
    else if x.pair = 0 ∧ sha384 (s.slotBody 0 (s.activeSlot 0)) ≠ ((s.slotHead 0 (s.activeSlot 0)).drop 96).take 48 then
      .next (s.abortActivation x)
    else .next (s.takeOverImage x)

/-- The pair on trial is confirmed (16 R627): the boot control block, FW_SVN, then the FIRMWARE record, whose commit ends the
packet. -/
def State.confirm (s : State) (k pair : Nat) : State :=
  let slot := s.activeSlot pair
  let key := s.bootBlock.trialSeq
  let h := s.slotHead pair slot
  let s := s.writeBlock (s.bootBlock.set pair slot false 0)
  let s := if pair = 0 then
      let n := max s.fw.svn (imgSvn h)
      { s with fw := { s.fw with svn := n } }.setFld F.DEV_FW_STAT_SVN_FLOOR n
    else s
  let s := (s.setFld F.DEV_FW_STAT_STATE 0).setFld F.DEV_FW_STAT_SAPP_TRIAL 0
  let s := { s with fw := { s.fw with window := none, sDone := false } }
  let s := s.eventSM 0x3003 pair (imgVersion h) s.fw.svn 0
  (s.setProgress k 1).firmwareRecord key pair 1 (1 - slot) slot (.op k)

/-- FW_CONFIRM (16 R627, R631; 17 R658): from the S ring, and from the mediator where MED_VOTE asks for it. -/
def execFwConfirm (k : Nat) (s : State) : Host.Outcome State Fault Refusal :=
  match s.opAt k 0x3005 with
  | none => .next s
  | some p =>
    let pair := p.p8 0
    if p.progress ≠ 0 then .next s
    else if !s.onTrial pair then .next (s.endOp k St.range 0)
    else if s.flag F.DEV_FW_STAT_UNREADABLE then .next (s.endOp k St.settingsUnreadable)
    else if s.safe ∨ s.paused then .next (s.endOp k St.busy)
    else
      let s := if p.ring = .s then { s with fw := { s.fw with sDone := true } } else s.setFld F.DEV_FW_STAT_MED_DONE 1
      if s.fw.sDone && (!s.flag F.DEV_FW_STAT_MED_VOTE || s.flag F.DEV_FW_STAT_MED_DONE) then .next (s.confirm k pair)
      else .next (s.endOp k St.ok)

/-- FW_ABANDON (16 R628, R632). -/
def execFwAbandon (k : Nat) (s : State) : Host.Outcome State Fault Refusal :=
  match s.opAt k 0x3006 with
  | none => .next s
  | some p =>
    let pair := p.p8 0
    if !s.onTrial pair then .next (s.endOp k St.range 0)
    else if s.paused then .next (s.endOp k St.busy)
    else .next ((s.endOp k St.deferred).beginPause pair true 3 0 false)

/-- HEALTH_WINDOW_EXPIRY: the window has ended without confirmation, and the fallback starts (16 R628). An FW_CONFIRM accepted in the
cycle of the end wins, so this acts only after that cycle. -/
def execHealthWindowExpiry (s : State) : Host.Outcome State Fault Refusal :=
  match s.fw.window with
  | none => .next s
  | some (pair, c, m) => if s.paused ∨ s.cyc ≤ c + nsCycles (m * 60000000000) then .next s else .next (s.beginPause pair true 2 0 false)

end Sys2Proof.Machine
end

