-- ==== Sys2Proof/Machine/Boot.lean ====
section
/-! DEFINITION. What a reset leaves (19 R721, R722), the boot sequence (16 R617-R621), and the image that ends recovery. -/

namespace Sys2Proof.Machine

/-! What a reset leaves (19 R722). -/

/-- Fields that a warm reset leaves as they are: what counts since cold reset (04 R183, 06 R306, 07 R341, 08 R373, 12 R516, 13 R566,
14 R584, 17 R671), the DRAM configuration and the fenced groups (13 R519, R557), and the wear of the actuators (15 R597). -/
def warmFields : List (Fld × Nat) :=
  [(F.DEV_EPOCH_BOOT, 16), (F.DEV_EPOCH_EPOCH, 16), (F.ETCH_OUT_STAT_SWAPS, 8), (F.PROOF_STAT_TAKEOVERS, 8), (F.GRV_PIXELS_COUNT, 4),
   (F.ARB_TAKE_COUNT, 4), (F.ARB_OVERRUN_COUNT, 4), (F.MC_CFG_FENCED, 1), (F.MC_CFG_RANKS, 1), (F.MC_CFG_DENSITY, 1), (F.MC_CFG_USABLE, 1),
   (F.MC_CH_STAT_FREEZES, 16), (F.MC_CE_DATA_DATA, 16), (F.MC_CE_META_CHECK, 16), (F.MC_CE_META_TAG, 16), (F.HALL_BYTES_COUNT, 8),
   (F.HALL_FAILS_COUNT, 8), (F.PCIE_ERR_COUNT, 1), (F.RUB_STAT_SEQ, 1), (F.HAP_WEAR_COUNT, 8), (F.HAP_STARTS_COUNT, 8),
   (F.HAP_DRIVE_S_COUNT, 8), (F.HAP_SIG_R, 8), (F.HAP_SIG_BEMF, 8), (F.HAP_STAT_SIG_VALID, 8)]

/-- Copies a field's instances from another state. -/
def State.copyField (s : State) (old : State) (f : Fld × Nat) : State :=
  (List.range f.2).foldl (fun (s : State) n => s.setFld f.1 (old.fld f.1 n) n) s

/-- The firmware state that a reset keeps: flash, the boot control block and OTP. -/
def Fw.kept (f : Fw) : Fw := { Fw.reset with flash := f.flash, nboot := f.nboot, copyA := f.copyA, copyB := f.copyB, svn := f.svn }

/-- The power state that a reset keeps: the always-on domain. -/
def Pwr.kept (p : Pwr) : Pwr :=
  { Pwr.reset with vault := p.vault, hold := p.hold, vaultSeal := p.vaultSeal, lost := p.lost, recount := p.recount, openings := p.openings
                   resetLow := p.resetLow }

/-- The Folio after a reset: flash and the counters of the always-on domain; a record being written stays uncommitted. -/
def State.foldFolio (s : State) : Fol :=
  let f := s.abandonWrite.fol
  { Fol.reset with areaA := f.areaA, areaB := f.areaB, counters := f.counters, hist := f.hist, tjMax := f.tjMax }

/-- The state that a cold or a warm reset leaves, before the boot sequence runs (19 R722, 17 R653, 02 R80). -/
def State.afterReset (s : State) (warm : Bool) : State :=
  let t : State := { State.reset with
    pending := s.pending
    regs := s.regs.filter (fun e => decide (0x11000000 ≤ e.1) && decide (e.1 < 0x11001000))
    mem := s.mem.filter (fun e => decide (e.1 < 0x40000))
    cyc := if warm then s.cyc else 0
    devOff := if warm then s.devOff else 0
    free := s.free
    wld := { Wld.reset with sinvEff := s.flag F.DEV_DBG_SINV, sninvEff := s.flag F.DEV_DBG_SNINV }
    mc := { Mc.reset with trained := warm && s.mc.trained }
    flt := { Flt.reset with poresetHi := warm && s.flt.poresetHi }
    fol := s.foldFolio
    fw := s.fw.kept
    pwr := s.pwr.kept
    dziv := { Dziv.reset with synced := warm && s.dziv.synced } }
  let t := (t.keepPins s).setFld F.DEV_FW_STAT_SVN_FLOOR s.fw.svn
  if !warm then t
  else
    let t := warmFields.foldl (fun (t : State) f => t.copyField s f) t
    let t := (List.range 8).foldl (fun (t : State) a => t.setAct a { t.act a with resets := (s.act a).resets }) t
    let t := (List.range 16).foldl (fun (t : State) c => if bit (s.fld F.MC_CFG_FENCED) (c / 4) then t.setFld F.MC_CH_STAT_STATE 3 c else t) t
    ((List.range 16).foldl (fun (t : State) c => t.bumpEpoch c) t).count 60

/-! The start-up plate (06 R307-R309). -/

/-- A packet of the S ring that carries parameters, for what secure firmware sets up as a MODE_SET. -/
def bootPacket (l : List Byte) : Started :=
  { ring := .s, pkt := { opcode := 0x0801, entries := 1, flags := 0, client := 0, gen := 0, tag := 0, waitAddr := 0, waitValue := 0, sigAddr := 0
                         sigValue := 0, params := l, index := 0 }, restarts := 0, progress := 0, result := none, held := false }

/-- Sets up an output of a bundle's table; `none` when its mode is refused. -/
def State.bootMode (s : State) (n : Nat) (l : List Byte) : Option State :=
  let p := bootPacket l
  let m := modeOf p (s.rg (Reg.DPTX_LINK n))
  if 7 < n ∨ m.off ∨ (m.fault p).isSome then none else some (s.acceptMode n m)

/-- Sets up every output of a table. -/
def State.bootModes : List (Nat × List Byte) → State → Option State
  | [], s => some s
  | e :: t, s =>
    match s.bootMode e.1 e.2 with
    | none => none
    | some s => State.bootModes t s

/-- Checks and locks a start-up list on a layer; `none` when the checker refuses it. -/
def State.bootList (s : State) (n layer off : Nat) : Option State :=
  let others := (List.range 4).filterMap (fun i => if i = layer then none else (s.checkedList n i).map (·.off))
  if 7 < n ∨ 3 < layer then none
  else match s.checkList off others with
    | some _ => none
    | none =>
      let x : EtchList := { off := off, len := (s.listHead off).length, pages := s.listPages off, counters := s.palCounters off, startup := true }
      some (((s.lockPages x.pages true).makePending (4 * n + layer) (some x)).showPeaks n)

/-- Checks and locks every list of a table. -/
def State.bootLists : List (Nat × Nat × Nat) → State → Option State
  | [], s => some s
  | e :: t, s =>
    match s.bootList e.1 e.2.1 e.2.2 with
    | none => none
    | some s => State.bootLists t s

/-- Makes the start-up lists of an output live with one swap (R307, R309). -/
def State.bootSwap (s : State) (n : Nat) : State := (s.swapOutput n).setFld F.ETCH_OUT_STAT_STARTUP 1 n

/-- A plate with its lists and modes; `none` when any of them is refused. -/
def State.bootPlate (s : State) (plate : List Byte) (lists : List (Nat × Nat × Nat)) (modes : List (Nat × List Byte)) : Option State :=
  match State.bootModes modes (s.putBytes plateBase (plate.take plateSize)) with
  | none => none
  | some s =>
    match State.bootLists lists s with
    | none => none
    | some s => some ((lists.map (·.1)).eraseDups.foldl (fun (s : State) n => s.bootSwap n) s)

/-- The parameters of the mode of the default plate: 1920×1080 60 Hz at 2.7 Gbit/s × 2 lanes, 8 bits per colour (R308). -/
def defaultMode (n : Nat) : List Byte :=
  leBytes 1 n ++ leBytes 1 0x30 ++ leBytes 1 1 ++ leBytes 1 2 ++ leBytes 2 1920 ++ leBytes 2 88 ++ leBytes 2 44 ++ leBytes 2 148
    ++ leBytes 2 1080 ++ leBytes 2 4 ++ leBytes 2 5 ++ leBytes 2 36 ++ leBytes 4 825 ++ leBytes 4 26624

/-- The boot ROM's default plate on the outputs of BOOT_OUTPUTS, on layer 19 (R308). -/
def State.defaultPlate (s : State) : State :=
  let outs := (List.range 8).filter (fun n => bit Config.bootOutputs n)
  (s.bootPlate Config.defaultPlate (outs.map (fun n => (n, 3, 0))) (outs.map (fun n => (n, defaultMode n)))).getD s

/-- The start-up plate: that of the verified bundle, or the default plate (R307, R308). -/
def State.startupPlate (s : State) (bundle : Option (List Byte)) : State :=
  match bundle with
  | none => s.defaultPlate
  | some b =>
    match s.bootPlate (Config.bundlePlate b) (Config.bundleLists b) (Config.bundleModes b) with
    | some t => t
    | none => s.defaultPlate

/-! Choosing slots (16 R617). -/

/-- What the ROM found for a pair: the slot it runs, if any; the failed check and slot of the one it tried first, if that did not verify;
and the slot on trial that a fallback ended, with the key of its record. -/
structure Chosen where
  slot : Option Nat
  bad  : Option (Nat × Nat)
  back : Option (Nat × Nat)
  deriving DecidableEq, Repr

/-- Chooses a pair's slot and writes the boot control block as R617 says. -/
def State.chooseSlot (s : State) (pair : Nat) : Chosen × State :=
  let b := s.bootBlock
  let active := if pair = 0 then b.fwActive else b.sappActive
  let trial := if pair = 0 then b.fwTrial else b.sappTrial
  let slot := if trial then 1 - active else active
  let s := if trial then s.writeBlock (b.set pair slot false 0) else s
  let back := if trial then some (active, b.trialSeq) else none
  match s.slotFault pair slot with
  | none => (⟨some slot, none, back⟩, (s.showSlot pair slot).markSlot pair slot true)
  | some c =>
    match s.slotFault pair (1 - slot) with
    | some _ => (⟨none, some (slot, c), back⟩, s.showSlot pair slot)
    | none =>
      let s := s.writeBlock (s.bootBlock.set pair (1 - slot) false 0)
      (⟨some (1 - slot), some (slot, c), back⟩, (s.showSlot pair (1 - slot)).markSlot pair (1 - slot) true)

/-- What secure firmware records of the choice: a fallback of cause 4, and SLOT_BAD (R617, R633). -/
def State.reportChoice (s : State) (pair : Nat) (c : Chosen) : State :=
  let s := match c.back with
    | none => s
    | some (new, key) =>
      let old := 1 - new
      let s := ((s.count 92).firmwareRecord key pair 4 old new).bumpEpoch 0x0C
      s.eventSM 0x3004 pair 4 (imgVersion (s.slotHead pair old)) 0
  match c.bad, c.slot with
  | some (slot, why), some _ => s.eventSM 0x3006 pair slot why 0
  | _, _ => s

/-! The Folio at boot (15 R588, R591, R599, R604). -/

/-- Whether an area is valid (15 R588). -/
def FArea.valid (x : FArea) : Bool := x.magic && x.tagOk && x.committed

/-- The records of an area whose CRC fails, before the first of unreadable length (15 R591). -/
def FArea.badCrc (x : FArea) : Nat := ((x.recs.takeWhile (fun r => r.lenOk)).filter (fun r => r.committed && !r.crcOk)).length

/-- FOREIGN or DAMAGED: source 320 and FOLIO_STATE (15 R604, R609). -/
def State.folioBad (s : State) (code device : Nat) : State :=
  ((s.setFld F.FOL_STAT_STATE (code + 1)).raise 320).eventSM 0x2C01 noInst code (device % 2 ^ 32)

/-- Replay: the partition is classified, and its active area read (15 R591, R604). -/
def State.replayFolio (s : State) : State :=
  let a := s.fol.areaA
  let b := s.fol.areaB
  if s.fld F.FOL_CFG_SIZE < 32 then s.folioBad 3 0
  else if a.valid || b.valid then
    let useB := b.valid && (!a.valid || decide (a.gen < b.gen))
    let x := if useB then b else a
    let s := ((s.setFlag F.FOL_STAT_ACTIVE useB).setFld F.FOL_STAT_STATE 1).setFld F.FOL_STAT_BADCRC (min x.badCrc 0xFFFF)
    let top := x.recs.foldl (fun m r => max m r.seq) 0
    let s := { s with fol := { s.fol with seq := top } }
    if x.recs.any (fun r => !r.lenOk) then
      { s.setFld F.FOL_STAT_COMPACTING 1 with fol := { s.fol with compact := some (.erase s.areaBlocks) } }
    else s.compactIfFull
  else if a.blank && b.blank then s.newFolio
  else if (a.magic || b.magic) && !(a.magic && a.tagOk) && !(b.magic && b.tagOk) then s.folioBad 2 (if a.magic then a.device else b.device)
  else s.folioBad 3 0

/-- Loads an actuator's registers from its WEAR record; without one it starts at zero (15 R599). -/
def State.loadWear (s : State) (a : Nat) : State :=
  match if s.folioOpen then s.record 3 a else none with
  | none => s
  | some r =>
    let w (o : Nat) : Word := BitVec.ofNat 32 (leAt r.body o 4)
    let s := ((s.setRg (Reg.HAP_WEAR a) (w 4)).setRg (Reg.HAP_STARTS a) (w 8)).setRg (Reg.HAP_DRIVE_S a) (w 12)
    let s := (s.setRg (Reg.HAP_SIG a) (w 16)).setFlag F.HAP_STAT_SIG_VALID (leAt r.body 20 4 ≠ 0) a
    s.setAct a { s.act a with resets := leAt r.body 24 4 }

/-- A number read as two's complement of 32 bits. -/
def int32 (v : Nat) : Int := signed 32 v

/-- Reads the counters and the histogram back from the Folio after Vault or after the loss of `VBAT` (15 R607). -/
def State.recount (s : State) : State :=
  let body (typ : Nat) : List Byte := ((if s.folioOpen then s.record typ 0 else none).map (·.body)).getD []
  let c := body 2
  let h := body 4
  let offs := [16, 24, 32, 40, 48] ++ (List.range 10).map (fun i => 56 + 4 * i) ++ (List.range 16).map (fun i => 96 + 4 * i) ++ [160]
  let counters : SMap Nat := offs.foldl (fun m o => SMap.set (fun _ => 0) m o (leAt c o (counterBytes o))) []
  let hist : SMap Nat := (List.range 16).foldl (fun m b => SMap.set (fun _ => 0) m b (leAt h (4 + 4 * b) 4)) []
  { s with fol := { s.fol with counters := counters, hist := hist, tjMax := if h.isEmpty then none else some (int32 (leAt h 68 4)) }
           pwr := { s.pwr with recount := false } }

/-! The always-on domain at a cold boot (19 R712-R714). -/

/-- The vault seal's message: the OTP serial, `AON_BOOTS`, `AON_BACKED` and an RTC value (19 R712). -/
def State.sealMessage (s : State) (rtc : Nat) : List Byte :=
  leBytes 8 Config.otpSerial ++ leBytes 4 (s.rg Reg.AON_BOOTS).toNat
    ++ (List.range 16).flatMap (fun k => leBytes 4 (s.rg (Reg.AON_BACKED k)).toNat) ++ leBytes 4 rtc

/-- The vault seal over an RTC value (19 R712). -/
def State.sealOver (s : State) (rtc : Nat) : List Byte := (hmacSha256 Config.vaultKey (s.sealMessage rtc)).take 16

/-- The seal check of the boot that ends Vault (19 R712), and the time in Vault. -/
def State.checkSeal (s : State) : State :=
  match s.pwr.vaultSeal with
  | none => s
  | some (x, rtc) =>
    let now := (s.rg Reg.AON_RTC).toNat
    let bad := decide (s.sealOver rtc ≠ x) || decide (now < rtc)
    let s := { s with pwr := { s.pwr with vaultSeal := none } }
    if bad then
      let s := (List.range 16).foldl (fun (s : State) k => s.setRg (Reg.AON_BACKED k) 0) s
      let s := (s.setFld F.AON_STAT_RTC_VALID 0).setFld F.AON_STAT_SEAL_BAD 1
      s.event .s 0x3C05 noInst 1 (s.rg Reg.AON_BOOTS).toNat
    else (s.count 48 (now - rtc)).event .s 0x3C05 noInst 0 (s.rg Reg.AON_BOOTS).toNat

/-- `AON_BOOTS` at a cold boot: one more, or after the loss of `VBAT` one more than the COLD_BOOTS of the last COUNTERS record
(19 R712, R713). -/
def State.countBoot (s : State) : State :=
  if s.pwr.lost then
    let s := (s.setFld F.AON_STAT_VBAT_LOST 1).setFld F.AON_STAT_RTC_VALID 0
    let s := s.setRg Reg.AON_BOOTS (BitVec.ofNat 32 (s.counter 56 + 1))
    let s := { s with pwr := { s.pwr with lost := false } }
    s.event .s 0x3C05 noInst 2 (s.rg Reg.AON_BOOTS).toNat
  else s.setRg Reg.AON_BOOTS (s.rg Reg.AON_BOOTS + 1)

/-- A MAINT record of key 0xFFFF_FFFF for each opening of the case not yet recorded (19 R714). -/
def State.recordOpenings (s : State) : State :=
  if !s.folioOpen then s
  else
    let l := s.pwr.openings
    l.foldl (fun (s : State) rtc => s.folioWrite ⟨0x12, leBytes 4 0xFFFFFFFF ++ leBytes 4 rtc, true, .none⟩) { s with pwr := { s.pwr with openings := [] } }

/-- The always-on domain and the lifetime counters at a boot. -/
def State.bootAlwaysOn (s : State) (warm : Bool) : State :=
  if warm then s
  else
    let s := if s.pwr.recount then s.recount else s
    let s := (s.checkSeal.countBoot).count 56
    let s := (List.range 16).foldl (fun (s : State) c => s.setFld F.DEV_EPOCH_BOOT ((s.rg Reg.AON_BOOTS).toNat % 0x10000) c) s
    (List.range 8).foldl (fun (s : State) a => s.loadWear a) s

/-- The FAULT record of a boot that is debug-open (02 R81). -/
def State.recordDebug (s : State) : State :=
  if (s.wld.sinvEff || s.wld.sninvEff) && s.folioOpen then
    s.folioWrite ⟨0x11, leBytes 4 0 ++ leBytes 4 noInst ++ leBytes 8 s.devTime ++ leBytes 4 (s.rg Reg.AON_RTC).toNat ++ leBytes 2 0xFFFF ++ leBytes 2 0, true, .none⟩
  else s

/-! The N-world boot image (16 R620). -/

/-- Bytes of the N-world boot image. -/
def State.nbootBytes (s : State) (off n : Nat) : List Byte := (List.range n).map (fun i => SMap.get (fun _ => 0xFF) s.fw.nboot (off + i))

/-- The check of R613 that the N-world boot image fails, or the platform-firmware image inside it. -/
def State.nbootFault (s : State) : Option Nat :=
  let h := s.nbootBytes 0 512
  let body := if leAt h 0 4 = 0x5758494D then s.nbootBytes 512 (imgLen h) else []
  match imageFault h body 3 (2 ^ 33) 0 with
  | some c => some c
  | none =>
    match (imgParts h).find? (fun p => p.2.2 == 5) with
    | none => some 1
    | some p =>
      let inner := (body.drop p.1).take p.2.1
      imageFault (inner.take 512) ((inner.drop 512).take (imgLen (inner.take 512))) 4 p.2.1 0

/-- The application cores are released, or stay in reset with SLOT_BAD (R620). -/
def State.releaseCores (s : State) : State :=
  match s.nbootFault with
  | some c => ({ s with flt := { s.flt with coresHeld := true } }).eventSM 0x3006 noInst 3 c 0
  | none => { s with flt := { s.flt with coresHeld := false } }

/-! The boot sequence (16 R621). -/

/-- `PORESET_N` is high and no firmware slot verifies: the ROM shows the default plate, keeps `FAULT_N`, and waits (R618). -/
def State.recoveryBoot (s : State) : State :=
  let s := s.defaultPlate
  { s with fw := { s.fw with recovery := true }, flt := { s.flt with safeN := false } }

/-- Step 3 ends: `SAFE_N` is released, and `FAULT_N` unless no safety slot verifies or a fault has been recorded (17 R653). -/
def State.releasePins (s : State) (held : Bool) : State :=
  let f := held || s.flt.seen
  ({ s with flt := { s.flt with safeN := false, faultN := f } }).setFlag F.DEV_FAULT_STAT_FAULT f

/-- DRAM holds zero data, ink 0 and POISON 0 (R621 step 7). -/
def State.clearDram (s : State) : State :=
  { s with mem := s.mem.filter (fun e => decide (e.1 < dramBase))
           mc := { s.mc with inks := [], poison := [], damage := [], sideBad := [], writeback := [] } }

/-- The usable capacity in GiB of a DRAM configuration (13 R519). -/
def usableGib (ranks density : Nat) : Nat := 14 * 2 ^ (ranks + density)

/-- The DRAM configuration that secure firmware sets at a cold boot is the fitted one, and every channel that is not fenced trains and
runs (13 R519; R621 step 5). -/
def State.trainDram (s : State) (warm : Bool) : State :=
  let s := if warm then s
    else
      let ranks := Config.dramFit % 2
      let density := Config.dramFit / 2 % 2
      ((s.setFld F.MC_CFG_RANKS ranks).setFld F.MC_CFG_DENSITY density).setFld F.MC_CFG_USABLE (usableGib ranks density)
  let s := { s with mc := { s.mc with trained := true } }
  (List.range 16).foldl (fun (s : State) c => if s.fld F.MC_CH_STAT_STATE c = 3 then s else s.setFld F.MC_CH_STAT_STATE 0 c) s

/-- Every domain is powered (02 R90). -/
def State.allReady (s : State) : State :=
  (({ s with pwr := { s.pwr with off := 0, offRun := 0, retained := false } }).setRg Reg.PWR_SREADY0 0xFFFFFFFF).setRg Reg.PWR_SREADY1 0x3FFF

/-- The boot sequence from the chosen firmware slot on (R617, R619-R621). -/
def State.bootFrom (s : State) (warm : Bool) (c0 : Chosen) (slot : Nat) : State :=
  let c1 := s.chooseSlot 1
  let s := (c1.2.loadSlot 0 slot).releasePins c1.1.slot.isNone
  let s := (s.replayFolio.bootAlwaysOn warm).recordOpenings
  let s := ((s.reportChoice 0 c0).reportChoice 1 c1.1).recordDebug
  let s := s.checkSettings 0
  let s := match c1.1.slot with
    | some x => (s.startupPlate (s.slotPart 1 x 4)).loadSlot 1 x
    | none => s.startupPlate none
  let s := { s.trainDram warm with fw := { s.fw with service := true } }
  (s.clearDram.allReady.releaseCores).evalCalendar

/-- The boot sequence (R621). -/
def State.boot (s : State) (warm : Bool) : State :=
  let s := { s with flt := { s.flt with poresetHi := true }, pwr := { s.pwr with vault := false, resetLow := false } }
  match s.chooseSlot 0 with
  | (c, s) =>
    match c.slot with
    | none => s.recoveryBoot
    | some slot => s.bootFrom warm c slot

/-- COLD_BOOT: `PORESET_N` rises with the supplies in range (R617-R621; 17 R653). Until then the device was held in reset; the debug enables
in effect are those that the reset found (02 R80). -/
def execColdBoot (s : State) : Host.Outcome State Fault Refusal :=
  if s.flt.poresetHi || !s.pwr.hold then .next s
  else
    let t := s.afterReset false
    .next (({ t with wld := { t.wld with sinvEff := s.wld.sinvEff, sninvEff := s.wld.sninvEff } }).boot false)

/-- Puts an image into slot A of the firmware pair. -/
def State.writeSlotA (s : State) (image : List Byte) : State :=
  let f := SMap.clear s.fw.flash 0 (slotSize 0)
  { s with fw := { s.fw with flash := programFlash f 0 image } }

/-- UART_RECOVERY_IMAGE: an image that verifies is written to slot A, which becomes active and confirmed, and a cold reset follows; any
other is discarded (R618). -/
def execUartRecoveryImage (image : List Byte) (s : State) : Host.Outcome State Fault Refusal :=
  if !s.fw.recovery then .next s
  else
    let h := image.take 512
    let body := (image.drop 512).take (imgLen h)
    match imageFault h body 1 (slotSize 0) s.fw.svn with
    | some _ => .next s
    | none =>
      let s := s.writeSlotA (h ++ body)
      let s := s.writeBlock (s.bootBlock.set 0 0 false 0)
      .next ((s.afterReset false).boot false)

end Sys2Proof.Machine
end

