-- ==== Sys2Proof/Machine/CmdIf.lean ====
section
/-! DEFINITION. Rings, doorbells, packets, fences and completions (03), and the scheduling of client rings (04 R167-R170). -/

namespace Sys2Proof.Machine

/-! Places (03 R125). -/

/-- The packets of a ring in execution. -/
def State.inExec (s : State) (r : RingId) : Nat := (s.busyPlaces.filter (fun e => e.2.ring = r)).length

/-- Whether one more packet of a ring may be in execution: 128 in all, 120 of the N-world (03 R125). -/
def State.placeFree (s : State) (r : RingId) : Bool :=
  let l := s.busyPlaces
  decide (l.length < 128) && (r == .s || decide ((l.filter (fun e => e.2.ring != .s)).length < 120))

/-- The lowest free place. -/
def State.freePlace (s : State) : Nat := ((List.range 128).find? (fun k => (s.place k).isNone)).getD 0

/-! Residency (03 R99, R100). -/

/-- Whether a ring set is resident: the S and mediator sets always are. -/
def State.isResident (s : State) (r : RingId) : Bool :=
  match r with
  | .client n => s.cp.resident.contains n
  | _ => true

/-- Whether a client's context may be evicted: no packet in execution and none waiting on a fence (03 R99). -/
def State.evictable (s : State) (n : Nat) : Bool := decide (s.inExec (.client n) = 0) && (s.ring (.client n)).wait.isNone

/-- Gives a client a hardware ring slot. -/
def State.makeResident (s : State) (n : Nat) : State :=
  { s with cp := { s.cp with resident := s.cp.resident ++ [n], waiting := s.cp.waiting.filter (fun c => c != n) } }

/-- Takes a client's hardware ring slot. -/
def State.evict (s : State) (n : Nat) : State := { s with cp := { s.cp with resident := s.cp.resident.filter (fun c => c != n) } }

/-- A rung context with unstarted entries becomes resident, or waits for a slot (03 R99). -/
def State.wantResident (s : State) (r : RingId) : State :=
  match r with
  | .client n =>
    let x := s.ring r
    if s.cp.resident.contains n ∨ s.cp.waiting.contains n ∨ x.sqHead = x.sqTail then s
    else if s.cp.resident.length < 128 ∧ s.cp.waiting.isEmpty then s.makeResident n
    else { s with cp := { s.cp with waiting := s.cp.waiting ++ [n] } }
  | _ => s

/-- CONTEXT_RESIDENT: a free slot goes to the waiting context with the most credit; a tie to the doorbell rung earliest (04 R169). -/
def execContextResident (s : State) : Host.Outcome State Fault Refusal :=
  if 128 ≤ s.cp.resident.length then .next s
  else
    let best := s.cp.waiting.foldl (fun b n =>
      match b with
      | none => some n
      | some m => if (s.client m).credit < (s.client n).credit then some n else some m) none
    match best with
    | none => .next s
    | some n => .next (s.makeResident n)

/-! Reading a submission ring. -/

/-- The address of a submission entry. -/
def RingSet.sqAddr (x : RingSet) (i : Nat) : Nat := x.sqBase + 64 * (i % 2 ^ x.sqLog)

/-- The unstarted entries of a ring (03 R107). -/
def RingSet.sqCount (x : RingSet) : Nat := (x.sqTail + 2 ^ x.sqLog - x.sqHead) % 2 ^ x.sqLog

/-- Reads `n` entries from the head on, wrapping from the last entry to entry 0. -/
def State.readEntries (r : RingId) (x : RingSet) : Nat → Nat → List Byte → State → Except XFault (List Byte) × State
  | 0, _, acc, s => (.ok acc, s)
  | n + 1, i, acc, s =>
    match s.dmaRead (ringWho r) (x.sqAddr i) 64 with
    | (.error f, s) => (.error f, s)
    | (.ok l, s) => State.readEntries r x n (i + 1) (acc ++ l) s

/-- ENTRIES of the packet at the head, read without any effect; 0 when the read faults. -/
def State.headEntries (s : State) (r : RingId) : Nat :=
  let x := s.ring r
  match s.dmaRead (ringWho r) (x.sqAddr x.sqHead) 64 with
  | (.ok l, _) => leAt l 2 1
  | (.error _, _) => 0

/-- Where the parameters start: byte 48 with a fence block, byte 16 without (03 R113). -/
def paramsAt (flags : Nat) : Nat := if bit flags 0 || bit flags 1 then 48 else 16

/-- Takes a packet apart (03 R109, R113). -/
def parsePacket (l : List Byte) (index : Nat) : Packet :=
  let flags := leAt l 3 1
  let fence := bit flags 0 || bit flags 1
  { opcode := leAt l 0 2, entries := leAt l 2 1, flags := flags, client := leAt l 4 2, gen := leAt l 6 2, tag := leAt l 8 4
    waitAddr := if fence then leAt l 16 8 else 0, waitValue := if fence then leAt l 24 8 else 0
    sigAddr := if fence then leAt l 32 8 else 0, sigValue := if fence then leAt l 40 8 else 0
    params := l.drop (paramsAt flags), index := index }

/-- A field before P, as a completion reports its offset (03 R118). -/
def beforeP (off : Nat) : Nat := 0x80000000 + off

/-! Targets a ring may not name (03 R116 check 7; 04 R155). -/

/-- Whether a client holds the panel, actuator, stream, capture stream or queue pair it names (04 R155); one that is being taken from it is
its no longer for new triggers and streams (04 R165). -/
def State.grants (s : State) (type inst c : Nat) : Bool :=
  let n := match type with | 2 => 8 | 3 => 8 | 4 => 64 | _ => 32
  decide (inst < n) && s.holder type inst == some c && !(decide (3 ≤ type) && decide (type ≤ 5) && s.losing type inst c)

/-- Whether a client has a layer slot (05 R233). -/
def State.ownsSlot (s : State) (l c : Nat) : Bool :=
  decide (l < 64) && s.flag F.DPIPE_LOWNER_VALID l && s.fld F.DPIPE_LOWNER_CLIENT l == c

/-- Whether a client names a target that is not its own (04 R155; 05 R233; 09 R414; 10 R446, R447; 11 R482, R496; 18 R693). -/
def State.clientDenied (s : State) (c opcode : Nat) (l : List Byte) : Bool :=
  let p8 (i : Nat) := leAt l i 1
  match opcode with
  | 0x0800 => !s.cl.outputs.contains (p8 0, c)
  | 0x0805 => !s.ownsSlot (p8 0) c
  | 0x0806 => (List.range (min 4 (p8 0))).any (fun i => !s.ownsSlot (p8 (8 + 24 * i)) c)
  | 0x0807 => !s.ownsSlot (p8 0) c
  | 0x1802 => !s.grants 2 (p8 0) c
  | 0x1803 => bit (p8 3) 0 && !s.grants 2 (p8 2) c
  | 0x1804 => !s.grants 2 (p8 0) c
  | 0x1806 => !s.grants 2 (p8 0) c
  | 0x1C00 => !s.grants 3 (p8 0) c
  | 0x1C01 => decide (24 ≤ p8 0) && decide (p8 0 < 32)
  | 0x1C02 => decide (24 ≤ p8 0) && decide (p8 0 < 32)
  | 0x1C03 => !s.grants 3 (p8 0) c
  | 0x2008 => !s.grants (if bit (p8 1) 0 then 5 else 4) (p8 0) c
  | 0x2009 => !s.grants (if bit (p8 1) 0 then 5 else 4) (p8 0) c
  | 0x200B => (match p8 0 with | 1 => !s.grants 4 (leAt l 2 2) c | 2 => !s.grants 5 (leAt l 2 2) c | _ => true)
  | 0x200C => !s.grants (if bit (p8 1) 0 then 5 else 4) (p8 0) c
  | 0x200D => !s.grants (if bit (p8 1) 0 then 5 else 4) (p8 0) c
  | 0x3808 => !s.grants 6 (p8 0) c
  | 0x3809 => !s.grants 6 (p8 0) c
  | _ => false

/-- Whether the mediator names what only the S ring may (03 R136; 09 R414; 10 R447; 11 R461, R474, R478, R480, R492; 17 R667; 19 R724). -/
def State.medDenied (s : State) (opcode : Nat) (l : List Byte) : Bool :=
  let p8 (i : Nat) := leAt l i 1
  let safety := decide (p8 0 < 8) && s.flag F.TCH_CFG_SAFETY (p8 0)
  match opcode with
  | 0x0001 => s.isSGuest (leAt l 0 2)
  | 0x1800 => safety
  | 0x1801 => safety
  | 0x1805 => safety
  | 0x1808 => safety
  | 0x1C01 => decide (24 ≤ p8 0) && decide (p8 0 < 32)
  | 0x1C02 => decide (24 ≤ p8 0) && decide (p8 0 < 32)
  | 0x1C04 => decide (p8 0 < 8) && s.flag F.HAP_CFG_CLAIMED (p8 0)
  | 0x2000 => s.flag F.AUD_ALARM_ENABLE && (p8 0 == 6 || p8 0 == 7)
  | 0x2001 => p8 0 == 2
  | 0x2002 => p8 0 == 15
  | 0x2003 => bit (p8 0) 2
  | 0x2006 => p8 0 == 15
  | 0x2007 => p8 0 == 15
  | 0x3403 => bit (p8 0) 0
  | 0x3C02 => p8 0 == 1
  | _ => false

/-- Whether a ring may submit an operation (03 R114, R115; 04 R157; 16 R619, R632; 19 R724): without a safety image the
S ring takes only the classes 0x00, 0x0B and 0x0C. -/
def State.maySubmit (s : State) (r : RingId) (o : OpSpec) (p : Packet) : Bool :=
  match r with
  | .s => o.byS && (s.fw.sappOk || !s.fw.service || [0x00, 0x0B, 0x0C].contains (o.opcode / 1024))
  | .med => o.byMed && !(o.opcode / 1024 == 1 && [0x400, 0x401, 0x402, 0x403, 0x405].contains o.opcode && s.isSGuest (leAt p.params 0 2))
      && !(o.opcode == 0x406 && decide (2 ≤ leAt p.params 0 1) && s.isSGuest (leAt p.params 2 2))
      && !(o.opcode == 0x407 && s.isSGuest (leAt p.params 2 2))
      && !([0x3001, 0x3002, 0x3003, 0x3005].contains o.opcode && leAt p.params 0 1 == 1) && !s.medDenied o.opcode p.params
  | .client n =>
    let cls := o.opcode / 1024
    o.byClient && (bit (s.ring r).classMask cls || decide (cls < 2))
      && !((o.opcode == 0x003 || o.opcode == 0x400) && leAt p.params 0 2 != n)
      && !(o.opcode == 0x406 && (decide (leAt p.params 0 1 < 2) || leAt p.params 2 2 != n)) && !s.clientDenied n o.opcode p.params

/-- The refusal of a packet, if a check of R116 from 3 on fails: STATUS and RESULT0. `raw` is the whole packet. -/
def State.refusal (s : State) (r : RingId) (raw : List Byte) (p : Packet) : Option (Nat × Nat) :=
  if bit p.flags 4 && crc32c (zeroed raw 12 4) != leAt raw 12 4 then some (St.checkFailed, 0)
  else if 32 ≤ p.flags then some (St.badOpcode, beforeP 3)
  else match opSpec p.opcode with
    | none => some (St.badOpcode, beforeP 0)
    | some o =>
      if bit p.flags 3 && !o.lock then some (St.badOpcode, beforeP 3)
      else if p.client ≠ ringClient r then some (St.badClient, 0)
      else if p.gen ≠ (match r with | .client n => (s.client n).gen | _ => 0) then some (St.staleContext, 0)
      else if !s.maySubmit r o p then some (St.noPermission, 0)
      else if p.entries * 64 < paramsAt p.flags + o.need p.params then some (St.badLength, 0)
      else if bit p.flags 0 && p.waitAddr % 8 != 0 then some (St.range, beforeP 16)
      else if bit p.flags 1 && p.sigAddr % 8 != 0 then some (St.range, beforeP 32)
      else checkParams o p.params

/-! Starting packets (03 R116-R127, 04 R168). -/

/-- Moves a ring's head past a packet. -/
def State.passHead (s : State) (r : RingId) (entries : Nat) : State :=
  let x := s.ring r
  s.setRing r { x with sqHead := (x.sqHead + entries) % 2 ^ x.sqLog, wait := none }

/-- Completes a packet that is not executed. -/
def State.refuse (s : State) (r : RingId) (p : Packet) (status r0 : Nat) : State := s.complete r p ⟨status, r0, 0, 0, 0⟩

/-- Puts a packet whose checks have passed and whose wait holds into execution (03 R125, 04 R168). Its completion entry is
already reserved. -/
def State.start (s : State) (r : RingId) (p : Packet) : State :=
  let s := s.setPlace s.freePlace (some { ring := r, pkt := p, restarts := 0, progress := 0, result := none, held := false })
  let s := s.passHead r p.entries
  match r with
  | .client n =>
    let c := s.client n
    s.setClient n { c with credit := c.credit - 1 }
  | _ => s

/-- Whether a place is to be had for a ring (03 R125; 04 R160, R166, R168; 16 R624; 17 R656; 19 R707). -/
def State.mayStart (s : State) (r : RingId) : Bool :=
  s.placeFree r && !s.paused && (r == .s || (!s.safe && !s.asleep)) &&
    (match r with
      | .client n => !(s.client n).resetting && decide (s.inExec r < (s.client n).inflight)
      | _ => true)

/-- Whether a ring is in service with a packet at its head that may be looked at. -/
def State.headReady (s : State) (r : RingId) : Bool :=
  let x := s.ring r
  x.enabled && !x.draining && !x.halted && x.stalled.isEmpty && x.wait.isNone && x.sqHead != x.sqTail && s.isResident r

/-- Whether a ring competes for a place now (03 R127, 04 R168). -/
def State.competes (s : State) (r : RingId) : Bool :=
  s.headReady r && s.mayStart r && (s.ring r).canReserve && decide (s.headEntries r ≤ (s.ring r).sqCount)

/-- Whether client `m` is chosen before client `n` (04 R168): credit before none, more credit first, then the lower number. -/
def State.clientBefore (s : State) (m n : Nat) : Bool :=
  let a := (s.client m).credit
  let b := (s.client n).credit
  decide (b < a) || (decide (a = b) && decide (m < n))

/-- Whether another ring must start a packet first (03 R127, 04 R168). -/
def State.outranked (s : State) (r : RingId) : Bool :=
  match r with
  | .s => false
  | .med => s.competes .s
  | .client n => s.competes .s || s.competes .med || s.cp.resident.any (fun m => m != n && s.clientBefore m n && s.competes (.client m))

/-- Halts a ring at its head (03 R117, R145): RING_HALTED with `why`. -/
def State.haltRing (s : State) (r : RingId) (why : Nat) : State :=
  let x := s.ring r
  let s := s.setRing r { x with halted := true, haltIndex := x.sqHead }
  let s := match r with | .client _ => s.raise 290 | _ => s
  s.event r 0x0003 noInst x.sqHead why

/-- The ring barrier holds when every earlier packet of the ring has completed and its completion is written (03 R120). -/
def State.barrier (s : State) (r : RingId) : Bool := decide (s.inExec r = 0) && (s.ring r).stalled.isEmpty

/-- The wait condition of a packet (03 R113, R120, R121): whether it holds, or the fault of the fence read. -/
def State.waitHolds (s : State) (r : RingId) (p : Packet) : Except XFault Bool × State :=
  if !bit p.flags 0 then (.ok true, s)
  else if p.waitAddr = 0 then (.ok (s.barrier r), s)
  else match s.dmaRead (ringWho r) p.waitAddr 8 with
    | (.error f, s) => (.error f, s)
    | (.ok l, s) => (.ok (decide (p.waitValue ≤ leAt l 0 8)), s)

/-- Starts a packet that passed its checks, or makes it wait on its fence; a faulting fence read refuses it (03 R121, R123). -/
def State.startOrWait (s : State) (r : RingId) (p : Packet) (since : Nat) : State :=
  match s.waitHolds r p with
  | (.error f, s) => (((s.noteFault f).passHead r p.entries).refuse r p St.range (beforeP 16))
  | (.ok true, s) => if s.mayStart r then s.start r p else
      let x := s.ring r
      s.setRing r { x with wait := some (p, since) }
  | (.ok false, s) =>
    let x := s.ring r
    s.setRing r { x with wait := some (p, since) }

/-- PACKET_START (03 R116-R127): the checks of R116 in their order on the packet at the head of a ring, then its start, its wait or
its refusal. Nothing happens while the ring has no packet to look at, an entry is still missing, no place or no completion
entry is free, or another ring comes first. -/
def execPacketStart (ring : RingId) (s : State) : Host.Outcome State Fault Refusal :=
  let x := s.ring ring
  if !s.headReady ring then .next s
  else match s.dmaRead (ringWho ring) (x.sqAddr x.sqHead) 64 with
    | (.error f, s) => .next ((s.noteFault f).haltRing ring 1)
    | (.ok head, s) =>
      let entries := leAt head 2 1
      if entries = 0 ∨ 64 < entries then
        let p := { parsePacket head x.sqHead with entries := 0 }
        let s := s.haltRing ring 0
        if x.canReserve then .next ((s.reserve ring).refuse ring p St.badLength 0)
        else
          let y := s.ring ring
          .next (s.setRing ring { y with haltOwed := some p })
      else if x.sqCount < entries ∨ !x.canReserve ∨ !s.mayStart ring ∨ s.outranked ring then .next s
      else match State.readEntries ring x entries x.sqHead [] s with
        | (.error f, s) => .next ((s.noteFault f).haltRing ring 1)
        | (.ok raw, s) =>
          let p := parsePacket raw x.sqHead
          let s := s.reserve ring
          match s.refusal ring raw p with
          | some (st, r0) => .next ((s.passHead ring entries).refuse ring p st r0)
          | none => .next (s.startOrWait ring p s.cyc)

/-- FENCE_EVALUATE: a waiting packet's condition is read again (03 R121). -/
def execFenceEvaluate (ring : RingId) (s : State) : Host.Outcome State Fault Refusal :=
  match (s.ring ring).wait with
  | none => .next s
  | some (p, since) => .next (s.startOrWait ring p since)

/-- FENCE_TIMEOUT: a wait that has not held for the ring's fence timeout completes with FENCE_TIMEOUT, never early (03 R122). A wait that holds
at its last evaluation is none that has not held. -/
def execFenceTimeout (ring : RingId) (s : State) : Host.Outcome State Fault Refusal :=
  let x := s.ring ring
  match x.wait with
  | none => .next s
  | some (p, since) =>
    let ms := if x.fenceTmo = 0 then 100 else x.fenceTmo
    if !s.passed since (ms * 1000000) then .next s
    else match s.waitHolds ring p with
      | (.ok false, s) => .next ((s.passHead ring p.entries).refuse ring p St.fenceTimeout 0)
      | _ => .next (s.startOrWait ring p since)

/-- The completion of a packet that was restarted carries RESTARTED and the number of restarts (03 R133). -/
def Started.finalResult (p : Started) (r : Result) : Result :=
  if p.restarts ≠ 0 ∧ r.status = St.ok then { r with status := St.restarted, r3 := p.restarts } else r

/-- PACKET_COMPLETE: an operation that has ended writes its signal, then its completion entry, and leaves its place
(03 R123, R124, R131, R109 NO_COMPLETION). -/
def execPacketComplete (k : Nat) (s : State) : Host.Outcome State Fault Refusal :=
  match s.place k with
  | none => .next s
  | some p =>
    match p.result with
    | none => .next s
    | some r0 =>
      if p.held then .next s
      else
        let r := p.finalResult r0
        let s := s.setPlace k none
        let signals := bit p.pkt.flags 1 && (r.status == St.ok || r.status == St.restarted || r.status == St.deferred)
        let out := if signals then s.dmaWrite (ringWho p.ring) p.pkt.sigAddr (leBytes 8 p.pkt.sigValue) else (none, s)
        match out with
        | (some f, s) => .next ((s.noteFault f).complete p.ring p.pkt ⟨St.range, beforeP 32, 0, 0, 0⟩)
        | (none, s) =>
          if bit p.pkt.flags 2 && (r.status == St.ok || r.status == St.restarted) then .next (s.unreserve p.ring)
          else .next (s.complete p.ring p.pkt r)

/-! Doorbells (03 R103-R106, R126, R144). -/

/-- Whether a doorbell write reaches a ring set: only its owner's does (03 R105, R140). -/
def doorOwner (who : Who) (r : RingId) : Bool :=
  match r with
  | .client n => who == .client n
  | .med => who == .med
  | .s => who == .s

/-- A doorbell write that is ignored: DOOR_BAD (03 R106). -/
def State.doorBad (s : State) (r : RingId) (off : Nat) (v : Word) : State :=
  let x := s.ring r
  let s := s.setRing r { x with doorBad := true }
  let s := match r with | .client _ => s.raise 290 | _ => s
  s.event r 0x0002 noInst off v.toNat

/-- The index field of a doorbell register: bits 15:0 (03 R103). -/
def doorIndex (v : Word) : Nat := v.toNat % 0x10000

/-- SQ_TAIL_DOORBELL (03 R99, R106, R108). -/
def execSqTailDoorbell (who : Who) (ring : RingId) (v : Word) (s : State) : Host.Outcome State Fault Refusal :=
  let x := s.ring ring
  if !doorOwner who ring then .next s
  else if !x.enabled ∨ 2 ^ x.sqLog ≤ doorIndex v then .next (s.doorBad ring 0 v)
  else if x.draining then .next s
  else .next ((s.setRing ring { x with sqTail := doorIndex v }).wantResident ring)

/-- Whether a head may move to an index: not past the tail (03 R106). -/
def headReaches (head tail log i : Nat) : Bool :=
  decide (i < 2 ^ log) && decide ((i + 2 ^ log - head) % 2 ^ log ≤ (tail + 2 ^ log - head) % 2 ^ log)

/-- Retries the completion writes that faulted, oldest first, until one faults again (03 R145). -/
def State.retryStalled (r : RingId) : List (Packet × Result) → State → State
  | [], s => s.setRing r { s.ring r with stalled := [] }
  | e :: t, s =>
    match s.putCompletion r e.1 e.2 with
    | (true, s) => State.retryStalled r t s
    | (false, s) => s.setRing r { s.ring r with stalled := e :: t }

/-- Writes the BAD_LENGTH completion of a halting packet once an entry can be reserved (03 R117). -/
def State.payHalt (s : State) (r : RingId) : State :=
  let x := s.ring r
  match x.haltOwed with
  | none => s
  | some p =>
    if x.canReserve then ((s.setRing r { x with haltOwed := none }).reserve r).refuse r p St.badLength 0 else s

/-- CQ_HEAD_DOORBELL (03 R106, R117, R126, R145). -/
def execCqHeadDoorbell (who : Who) (ring : RingId) (v : Word) (s : State) : Host.Outcome State Fault Refusal :=
  let x := s.ring ring
  if !doorOwner who ring then .next s
  else if !x.enabled ∨ !headReaches x.cqHead x.cqTail x.cqLog (doorIndex v) then .next (s.doorBad ring 4 v)
  else
    let s := s.setRing ring { x with cqHead := doorIndex v }
    .next ((State.retryStalled ring x.stalled s).payHalt ring)

/-- Writes EVENTS_LOST with the count of dropped events; a faulting write leaves the count as it was (03 R144). -/
def State.payLost (s : State) (r : RingId) : State :=
  let x := s.ring r
  if x.lost = 0 ∨ !bit x.mask 0 ∨ x.draining then s
  else
    let t := s.putEvent r 0x0001 noInst (ringClient r) x.lost x.lostCode 0 0
    let y := t.ring r
    if y.eqTail = x.eqTail then t.setRing r { y with lost := x.lost, lostCode := x.lostCode }
    else t.setRing r { y with lost := 0, lostCode := 0 }

/-- EQ_HEAD_DOORBELL (03 R106, R144): a head that advances frees entries for a pending EVENTS_LOST. -/
def execEqHeadDoorbell (who : Who) (ring : RingId) (v : Word) (s : State) : Host.Outcome State Fault Refusal :=
  let x := s.ring ring
  if !doorOwner who ring then .next s
  else if !x.enabled ∨ !headReaches x.eqHead x.eqTail x.eqLog (doorIndex v) then .next (s.doorBad ring 8 v)
  else
    let s := s.setRing ring { x with eqHead := doorIndex v }
    .next (if doorIndex v = x.eqHead then s else s.payLost ring)

/-- SQ_RESUME (03 R103, R106): sets the submission head and clears HALTED. -/
def execSqResume (who : Who) (ring : RingId) (v : Word) (s : State) : Host.Outcome State Fault Refusal :=
  let x := s.ring ring
  if !doorOwner who ring then .next s
  else if !x.enabled ∨ !x.halted ∨ 2 ^ x.sqLog ≤ doorIndex v then .next (s.doorBad ring 0xC v)
  else .next ((s.setRing ring { x with sqHead := doorIndex v, halted := false }).wantResident ring)

/-- `CP_DB_STAT` (03 R104). -/
def State.doorStat (s : State) (r : RingId) : Nat :=
  let x := s.ring r
  (if x.enabled then 2 ^ 31 else 0) + (if x.enabled && s.isResident r then 2 ^ 30 else 0) + (if x.halted then 2 ^ 29 else 0)
    + (if x.doorBad then 2 ^ 28 else 0) + x.haltIndex

/-! Class 0x00 (03 R134-R138, R769). -/

/-- NOP does nothing apart from its fences (R134). -/
def execNop (k : Nat) (s : State) : Host.Outcome State Fault Refusal :=
  match s.opAt k 0x0000 with
  | none => .next s
  | some _ => .next (s.endOp k St.ok)

/-- RING_SETUP (R135, R136; 04 R167: no credit until the next boundary). -/
def execRingSetup (k : Nat) (s : State) : Host.Outcome State Fault Refusal :=
  match s.opAt k 0x0001 with
  | none => .next s
  | some p =>
    let n := p.p16 0
    if p.ring = .med ∧ s.isSGuest n then .next (s.endOp k St.noPermission)
    else if (s.ring (.client n)).enabled then .next (s.endOp k St.busy)
    else
      let s := s.setRing (.client n) { RingSet.off with
        enabled := true, sqLog := p.p8 2, cqLog := p.p8 3, eqLog := p.p8 4, rank := p.p8 5, fenceTmo := p.p16 6
        sqBase := p.p64 8, cqBase := p.p64 16, eqBase := p.p64 24, classMask := p.p16 32 }
      let c := s.client n
      .next ((s.setClient n { c with credit := 0 }).endOp k St.ok)

/-- Counts the packets between head and tail, by their ENTRIES fields (R137). -/
def State.countPackets (s : State) (r : RingId) (x : RingSet) : Nat → Nat → Nat → Nat
  | 0, _, n => n
  | fuel + 1, left, n =>
    if left = 0 then n
    else match s.dmaRead (ringWho r) (x.sqAddr (x.sqTail + 2 ^ x.sqLog - left)) 64 with
      | (.error _, _) => n + 1
      | (.ok l, _) =>
        let e := leAt l 2 1
        if e = 0 ∨ 64 < e ∨ left < e then n + 1 else s.countPackets r x fuel (left - e) (n + 1)

/-- Takes a ring set out of service: no packet starts any more, unstarted packets are dropped without completion (R137, R769). -/
def State.beginDrain (s : State) (r : RingId) (by_ : Option Nat) : State :=
  let x := s.ring r
  let n := s.countPackets r x (2 ^ x.sqLog) x.sqCount 0
  s.setRing r { x with draining := true, sqTail := x.sqHead, wait := none, reserved := if x.wait.isSome then x.reserved - 1 else x.reserved
                       disableBy := by_, dropped := n }

/-- RING_DISABLE (R137, 04 R182). -/
def execRingDisable (k : Nat) (s : State) : Host.Outcome State Fault Refusal :=
  match s.opAt k 0x0002 with
  | none => .next s
  | some p =>
    let r := RingId.client (p.p16 0)
    let x := s.ring r
    if p.progress ≠ 0 then .next s
    else if x.draining ∨ (s.client (p.p16 0)).resetting then .next (s.endOp k St.busy)
    else if !x.enabled then .next (s.endOp k St.ok)
    else .next ((s.beginDrain r (some k)).setProgress k 1)

/-- RING_SET_DRAINED: when the last started packet has completed, heads and tails are 0 and ENABLED is clear (R137, R769). -/
def execRingSetDrained (ring : RingId) (s : State) : Host.Outcome State Fault Refusal :=
  let x := s.ring ring
  if x.enabled && x.draining && x.stalled.isEmpty && decide (s.inExec ring = 0) then
    let s := s.setRing ring RingSet.off
    let s := match ring with
      | .client n => { s with cp := { s.cp with resident := s.cp.resident.filter (fun c => c != n)
                                                waiting := s.cp.waiting.filter (fun c => c != n) } }
      | _ => s
    match x.disableBy with
    | some k => .next (s.endOp k St.ok x.dropped)
    | none => .next s
  else .next s

/-- RING_QUERY (R134). -/
def execRingQuery (k : Nat) (s : State) : Host.Outcome State Fault Refusal :=
  match s.opAt k 0x0003 with
  | none => .next s
  | some p =>
    let r := RingId.client (p.p16 0)
    let x := s.ring r
    .next (s.endOp k St.ok (s.doorStat r) (x.sqHead * 0x10000 + x.cqTail) x.eqTail (s.inExec r))

/-- EVENT_MASK of the submitter's own ring set (R134). -/
def execEventMask (k : Nat) (s : State) : Host.Outcome State Fault Refusal :=
  match s.opAt k 0x0004 with
  | none => .next s
  | some p =>
    let x := s.ring p.ring
    .next ((s.setRing p.ring { x with mask := p.p16 0 }).endOp k St.ok)

/-- TIME_READ: device time in ns, low word first (R134). -/
def execTimeRead (k : Nat) (s : State) : Host.Outcome State Fault Refusal :=
  match s.opAt k 0x0005 with
  | none => .next s
  | some _ => .next (s.endOp k St.ok (s.devTime % 2 ^ 32) (s.devTime / 2 ^ 32 % 2 ^ 32))

/-! The S and mediator ring sets (R140, R769). -/

/-- The ring set that block `p` of the `CP` window configures. -/
def pringId (p : Nat) : RingId := if p = 0 then .s else .med

/-- The address of a register of block `p`: `CP_PRING_CFG` and its bases (R140). -/
def pringReg (p off : Nat) : Nat := Reg.CP_PRING_CFG0 + 0x40 * p + off

/-- Whether a writer may write the registers of block `p` (R140). -/
def State.pringWriter (s : State) (who : Who) (p : Nat) : Bool := who == .s || (p == 1 && s.mayRwm who)

/-- The 48-bit address of a pair of base registers (R140). -/
def State.pringBase (s : State) (p off : Nat) : Nat :=
  (s.rg (pringReg p off)).toNat / 4096 * 4096 + (s.rg (pringReg p (off + 4))).toNat % 0x10000 * 2 ^ 32

/-- Whether a value written to `CP_PRING_CFG` has sizes and a timeout in range, so that ENABLE is not ignored (R140). -/
def pringValid (v : Word) : Bool :=
  let eq := bitsOf v 30 27
  let cq := bitsOf v 26 22
  let sq := bitsOf v 21 17
  decide (4 ≤ eq) && decide (eq ≤ 12) && decide (4 ≤ cq) && decide (cq ≤ 16) && decide (6 ≤ sq) && decide (sq ≤ 16)
    && decide (bitsOf v 15 0 ≤ 60000)

/-- PRING_ENABLE: a write of `CP_PRING_CFG[p]` with ENABLE set puts the S or mediator ring set in service (R140); not while
the ROM waits for an image, since no command processor runs (16 R618). -/
def execPringEnable (who : Who) (p : Nat) (v : Word) (s : State) : Host.Outcome State Fault Refusal :=
  let r := pringId p
  let x := s.ring r
  if s.fw.recovery ∨ !s.pringWriter who p ∨ (s.rg (pringReg p 0)).getLsbD 31 ∨ x.enabled ∨ !v.getLsbD 31 then .next s
  else if !pringValid v then .next (s.setRg (pringReg p 0) (putBits (putBits v 31 31 0) 16 16 0))
  else
    let s := s.setRg (pringReg p 0) (putBits v 16 16 0)
    .next (s.setRing r { RingSet.off with
      enabled := true, eqLog := bitsOf v 30 27, cqLog := bitsOf v 26 22, sqLog := bitsOf v 21 17, fenceTmo := bitsOf v 15 0
      sqBase := s.pringBase p 4, cqBase := s.pringBase p 0xC, eqBase := s.pringBase p 0x14, classMask := 0xFFFF })

/-- PRING_DISABLE: a write that clears ENABLE takes the set out of service (R769). -/
def execPringDisable (who : Who) (p : Nat) (v : Word) (s : State) : Host.Outcome State Fault Refusal :=
  let r := pringId p
  if !s.pringWriter who p ∨ v.getLsbD 31 ∨ !(s.rg (pringReg p 0)).getLsbD 31 then .next s
  else .next ((s.setRg (pringReg p 0) (putBits (s.rg (pringReg p 0)) 31 31 0)).beginDrain r none)

end Sys2Proof.Machine
end

