-- ==== Sys2Proof/Machine/Dziv.lean ====
section
/-! DEFINITION. Dzivlink (18): ports, network time, frame lock, the group, alarms, group triggers, intercom and queue pairs. -/

namespace Sys2Proof.Machine

/-! Ports (R672, R693). -/

/-- Whether a port can send: enabled, with its link up. -/
def State.portUp (s : State) (p : Nat) : Bool := bit s.dziv.enabled p && s.flag F.TTH_PORT_STAT_UP p

/-- LINK_SET (R672, R693): Clause 108 FEC is for 25 Gbit/s alone; a port set anew loses its link until it comes up again. -/
def execLinkSet (k : Nat) (s : State) : Host.Outcome State Fault Refusal :=
  match s.opAt k 0x3800 with
  | none => .next s
  | some p =>
    let n := p.p8 0
    let on := bit (p.p8 3) 0
    if p.p8 1 % 2 = 1 ∧ p.p8 2 = 2 then .next (s.endOp k St.range 2)
    else
      let same := on && bit s.dziv.enabled n && s.fld F.TTH_PORT_STAT_MODE n == p.p8 1 && s.fld F.TTH_PORT_STAT_FEC n == p.p8 2
      let s := if same then s else s.setFld F.TTH_PORT_STAT_UP 0 n
      let s := (s.setFld F.TTH_PORT_STAT_MODE (p.p8 1) n).setFld F.TTH_PORT_STAT_FEC (p.p8 2) n
      let off := if bit s.dziv.enabled n then s.dziv.enabled - 2 ^ n else s.dziv.enabled
      .next (({ s with dziv := { s.dziv with enabled := if on then off + 2 ^ n else off } }).endOp k St.ok)

/-- ETH_LINK_CHANGE: the link of an enabled port comes up, or a link is lost (R696). -/
def execEthLinkChange (port : Nat) (up : Bool) (s : State) : Host.Outcome State Fault Refusal :=
  if up && !bit s.dziv.enabled port then .next s else .next (s.setFlag F.TTH_PORT_STAT_UP up port)

/-- LINK_QUERY (R693). -/
def execLinkQuery (k : Nat) (s : State) : Host.Outcome State Fault Refusal :=
  match s.opAt k 0x380A with
  | none => .next s
  | some _ =>
    .next (s.endOp k St.ok (s.rg (Reg.TTH_PORT_STAT 0)).toNat (s.rg (Reg.TTH_PORT_STAT 1)).toNat (s.rg Reg.TTH_TIME_STAT).toNat)

/-! Network time (R674-R677). -/

/-- TIME_SET (R674). -/
def execTimeSet (k : Nat) (s : State) : Host.Outcome State Fault Refusal :=
  match s.opAt k 0x3801 with
  | none => .next s
  | some p => .next (({ s with dziv := { s.dziv with time := (p.p8 0, p.p8 1, p.p8 2, p.p8 3) } }).endOp k St.ok)

/-- LOCKED of an output is cleared, with LOCK_STATE when it was set (R680). -/
def State.unlock (s : State) (n : Nat) : State :=
  match s.frameLock n with
  | none => s
  | some x =>
    let was := s.flag F.DTG_CTRL_LOCKED n
    let s := (s.setFrameLock n (some { x with good := 0 })).setFld F.DTG_CTRL_LOCKED 0 n
    if was then s.lockEvent n 0 x.err else s

/-- Clears LOCKED of every output: SYNC clears, or device time is stepped (R680). -/
def State.unlockAll (s : State) : State := (List.range 8).foldl (fun (s : State) n => s.unlock n) s

/-- A signed number of 64 bits as two words. -/
def twoWords (v : Int) : Nat × Nat :=
  let n := (v % (2 ^ 64 : Int)).toNat
  (n % 2 ^ 32, n / 2 ^ 32)

/-- Steps device time, with TIME_STEP and source 339 (R675, R694). -/
def State.stepTime (s : State) (d : Int) : State :=
  let s := { s with devOff := s.devOff + d, dziv := { s.dziv with synced := true } }
  let w := twoWords d
  ((s.raise 339).eventSM 0x3804 noInst w.1 w.2 0).unlockAll

/-- The furthest a slew may have moved device time since a cycle: 200 ppm (R675). -/
def State.slewMax (s : State) (c : Nat) : Int := (cyclesNs (s.cyc - c) * 200 / 1000000 : Nat)

/-- A value held between two bounds. -/
def clampInt (lo hi v : Int) : Int := if v < lo then lo else if hi < v then hi else v

/-- PTP_MESSAGE on a port (R674, R675, R677): `off` is what device time is ahead of the grandmaster, and `gm` says that the selection
makes this WX8 the grandmaster, which PRIORITY1 255 forbids. Device time is stepped at the first synchronisation after cold reset and
beyond 1 ms, and slewed otherwise. -/
def execPtpMessage (port : Nat) (off : Int) (gm : Bool) (s : State) : Host.Outcome State Fault Refusal :=
  if !s.portUp port then .next s
  else if gm then
    if s.dziv.time.2.1 = 255 then .next s
    else
      let s := (s.setFld F.TTH_PORT_STAT_GM_PORT 0 0).setFld F.TTH_PORT_STAT_GM_PORT 0 1
      let s := ((s.setFld F.TTH_TIME_STAT_GM 1).setFld F.TTH_TIME_STAT_SYNC 1).setFld F.TTH_TIME_STAT_OFFSET 0
      .next { s with dziv := { s.dziv with lastPtp := s.cyc } }
  else
    let last := s.dziv.lastPtp
    let s := (s.setFld F.TTH_PORT_STAT_GM_PORT 1 port).setFld F.TTH_PORT_STAT_GM_PORT 0 (1 - port)
    let s := ((s.setFld F.TTH_TIME_STAT_GM 0).setFld F.TTH_TIME_STAT_SYNC 1).setFld F.TTH_TIME_STAT_OFFSET
      ((clampInt (-8388608) 8388607 off % (2 ^ 24 : Int)).toNat)
    let s := { s with dziv := { s.dziv with lastPtp := s.cyc } }
    if !s.dziv.synced ∨ off < -1000000 ∨ 1000000 < off then .next (s.stepTime (-off))
    else .next { s with devOff := s.devOff + clampInt (-(s.slewMax last)) (s.slewMax last) (-off) }

/-- SYNC_TIMEOUT: the port in use has reached its syncReceiptTimeout; without a grandmaster on the other port SYNC clears and TIME_LOST
is written (R676). -/
def execSyncTimeout (other : Bool) (s : State) : Host.Outcome State Fault Refusal :=
  if !s.flag F.TTH_TIME_STAT_SYNC ∨ s.flag F.TTH_TIME_STAT_GM then .next s
  else
    let port := if s.flag F.TTH_PORT_STAT_GM_PORT 1 then 1 else 0
    let s := s.setFld F.TTH_PORT_STAT_GM_PORT 0 port
    if other then .next (s.setFld F.TTH_PORT_STAT_GM_PORT 1 (1 - port))
    else .next (((s.setFld F.TTH_TIME_STAT_SYNC 0).raise 339).eventSM 0x3805 noInst port 0 0).unlockAll

/-! Frame lock (R678-R681). -/

/-- Whether a PERIOD in 32.32 ns is within 1 ns of a timing's nominal frame period (R678). -/
def Timing.periodFits (t : Timing) (period : Nat) : Bool :=
  let d := 4792320000 * t.num
  let want := t.htotal * t.vtotal * t.den * 1000000000 * 2 ^ 32
  let have_ := period * d
  decide (have_ ≤ want + d * 2 ^ 32) && decide (want ≤ have_ + d * 2 ^ 32)

/-- LOCK_SET (R678). -/
def execLockSet (k : Nat) (s : State) : Host.Outcome State Fault Refusal :=
  match s.opAt k 0x3806 with
  | none => .next s
  | some p =>
    let n := p.p8 0
    let t := (s.out n).live
    if !bit (p.p8 1) 0 then .next (((s.unlock n).setFrameLock n none).endOp k St.ok)
    else if !t.periodFits (p.p64 16) then .next (s.endOp k St.range 16)
    else if 8192 < t.vtotal ∨ t.vfp < 2 ∨ !s.flag F.DTG_CTRL_ENABLE n then .next (s.endOp k St.range 0)
    else .next (((s.unlock n).setFrameLock n (some { anchor := p.p64 8, period := p.p64 16, good := 0, err := 0 })).endOp k St.ok)

/-- The error of a vertical start at the present device time against the nearest target, in ns (R679). -/
def State.lockError (s : State) (x : Lock) : Int :=
  let t : Int := ((s.devTime : Int) - x.anchor) * 2 ^ 32
  let r := t % (max x.period 1 : Nat)
  let e := if 2 * r ≤ x.period then r else r - x.period
  (e + 2 ^ 31) / 2 ^ 32

/-- A vertical start of a locked output is measured (R679, R680): LOCKED after 8 frames in a row within ±250 ns while SYNC is 1, not
beyond ±500 ns. -/
def State.trackLock (s : State) (n : Nat) : State :=
  match s.frameLock n with
  | none => s
  | some x =>
    let e := s.lockError x
    let near := decide (-250 ≤ e) && decide (e ≤ 250)
    let good := if near then min (x.good + 1) 8 else 0
    let s := s.setFrameLock n (some { x with good := good, err := e })
    if e < -500 ∨ 500 < e then s.unlock n
    else if good = 8 && !s.flag F.DTG_CTRL_LOCKED n && s.flag F.TTH_TIME_STAT_SYNC then (s.setFld F.DTG_CTRL_LOCKED 1 n).lockEvent n 1 e
    else s

/-! Group frames (R682, R683). -/

/-- Whether the WX8 is debug-open (02 R81). -/
def State.debugOpen (s : State) : Bool := s.wld.sinvEff || s.wld.sninvEff

/-- Bytes 18 of a group frame to the end of its body, over which the HMAC runs (R682). -/
def State.groupPayload (s : State) (typ : Nat) (body : List Byte) : List Byte :=
  leBytes 1 typ ++ leBytes 1 ((if s.safe then 1 else 0) + (if s.debugOpen then 2 else 0)) ++ leBytes 2 (s.fld F.TTH_GROUP_MEMBER)
    ++ leBytes 4 s.dziv.group ++ leBytes 8 (s.fld F.DEV_EPOCH_BOOT 0x0E * 2 ^ 48 + (s.dziv.seq + 1)) ++ leBytes 8 s.devTime ++ body

/-- A group frame of a port, without FCS (R682). -/
def State.groupFrame (s : State) (port typ : Nat) (body : List Byte) : List Byte :=
  let p := s.groupPayload typ body
  [0x03, 0x54, 0x48] ++ beBytes 3 (s.dziv.group % 2 ^ 24) ++ (Config.portMac port).take 6 ++ [0x81, 0x00, 0xE0, 0x00]
    ++ beBytes 2 (s.fld F.TTH_GROUP_ETYPE) ++ p ++ hmacSha256 s.dziv.key p

/-- Sends a frame on a port. -/
def State.sendFrame (s : State) (port : Nat) (f : List Byte) : State := { s with dziv := { s.dziv with sent := s.dziv.sent ++ [(port, f)] } }

/-- The ports a group frame leaves by (R682). -/
def State.groupPorts (s : State) : List Nat := if s.flag F.TTH_GROUP_VALID then [0, 1].filter (fun p => s.portUp p) else []

/-- Sends a group frame on both ports (R682). -/
def State.sendGroup (s : State) (typ : Nat) (body : List Byte) : State :=
  let l := s.groupPorts.map (fun p => (p, s.groupFrame p typ body))
  if l.isEmpty then s
  else
    let s := l.foldl (fun (s : State) e => s.sendFrame e.1 e.2) s
    { s with dziv := { s.dziv with seq := s.dziv.seq + 1 } }

/-- What the group knows of a member. -/
def State.member (s : State) (m : Nat) : Member := SMap.get (fun _ => Member.blank) s.dziv.members m

/-- Replaces what is known of a member. -/
def State.putMember (s : State) (m : Nat) (x : Member) : State :=
  { s with dziv := { s.dziv with members := SMap.set (fun _ => Member.blank) s.dziv.members m x } }

/-- How many members are PRESENT. -/
def State.presentCount (s : State) : Nat := (s.dziv.members.filter (fun e => e.2.state == 1)).length

/-- Replaces a member; a change of its state writes MEMBER_STATE and raises source 337 (R684). -/
def State.setMember (s : State) (m : Nat) (x : Member) : State :=
  let was := (s.member m).state
  let s := s.putMember m x
  if x.state = was then s
  else
    let r := s.rg (Reg.TTH_MEMBER (m / 8))
    let s := s.setRg (Reg.TTH_MEMBER (m / 8)) (putBits r (4 * (m % 8) + 2) (4 * (m % 8)) x.state)
    let s := s.setFld F.TTH_GROUP_STAT_PRESENT s.presentCount
    (s.raise 337).eventSM 0x3803 noInst m x.state (if x.debug then 1 else 0)

/-- Whether a HELLO of a member came in the last 300 ms (R684). -/
def State.helloFresh (s : State) (x : Member) : Bool :=
  match x.hello with
  | none => false
  | some c => !s.passed c 300000000

/-- A member's state as R684 derives it. -/
def State.deriveState (s : State) (x : Member) : Nat :=
  match x.roster with
  | none => 4
  | some h =>
    match x.ident with
    | none => 0
    | some i =>
      if i ≠ h then 3
      else if s.helloFresh x then 1
      else if x.state = 1 ∨ x.state = 2 then 2 else 0

/-- A member with its state derived anew. -/
def State.review (s : State) (x : Member) : Member := { x with state := s.deriveState x }

/-- A group frame that is refused is counted (R683). -/
def State.refuseFrame (s : State) : State := s.satInc F.TTH_GROUP_STAT_REFUSED

/-- A verified IDENT: the SHA-384 of the certificate's key (R684). -/
def identKey (p body : List Byte) : Option (List Byte) :=
  let cert := body.take (body.length - 96)
  let sig := body.drop (body.length - 96)
  match Config.certKey cert with
  | none => none
  | some key =>
    let msg := (p.drop 4).take 4 ++ (p.drop 2).take 2 ++ (p.drop 16).take 8
    if ecdsaP384 key (sha384 msg) sig then some (sha384 key) else none

/-- An ALARM or a TRIGGER from a member that is not PRESENT (R687, R688). -/
def State.refuseMember (s : State) (m code : Nat) : State :=
  (s.refuseFrame.raise 338).event .s 0x3802 noInst m (s.member m).state code

/-- Takes in a TRIGGER that is accepted: its latch TIME is kept, or has passed already (17 R660, R663; R688). -/
def State.takeTrigger (s : State) (time : Nat) : State :=
  if !s.flag F.RUB_CFG_GROUP_EN then s
  else if time ≤ s.devTime then s.rubTrigger 0b100000 true
  else { s with flt := { s.flt with groupTrig := s.flt.groupTrig ++ [time] } }

/-- An intercom channel. -/
def State.intercom (s : State) (i : Nat) : Intercom := SMap.get (fun _ => Intercom.blank) s.dziv.intercom i

/-- Replaces an intercom channel. -/
def State.setIntercom (s : State) (i : Nat) (x : Intercom) : State :=
  { s with dziv := { s.dziv with intercom := SMap.set (fun _ => Intercom.blank) s.dziv.intercom i x } }

/-- Whether an intercom receive source is active (11 R470); the router follows. -/
def State.setRx (s : State) (i : Nat) (on : Bool) : State :=
  let was := bit s.aud.rxOn i
  if was = on then s
  else ({ s with aud := { s.aud with rxOn := if on then s.aud.rxOn + 2 ^ i else s.aud.rxOn - 2 ^ i } }).audSync

/-- An INTERCOM frame for channel `i`: into its jitter buffer, which holds DEPTH ms of 2 ms frames (R689). -/
def State.takeIntercom (s : State) (m chan : Nat) (samples : List Byte) (i : Nat) : State :=
  let x := s.intercom i
  if x.rx && x.member == m && x.chan == chan then
    let l := x.buffer ++ [samples]
    (s.setIntercom i { x with buffer := l.drop (l.length - x.depth / 2), last := s.cyc }).setRx i true
  else s

/-- A group frame that has passed R683: what its TYPE does (R684, R687-R689). `p` is its payload, from byte 18 on. -/
def State.takeFrame (s : State) (m typ : Nat) (p body : List Byte) : State :=
  let x := s.member m
  match typ with
  | 1 => s.setMember m (s.review { x with hello := some s.cyc })
  | 2 =>
    match identKey p body with
    | none => s.setMember m (s.review x)
    | some h => s.setMember m (s.review { x with ident := some h, identOk := x.roster == some h, debug := bit (leAt p 1 1) 1 })
  | 3 =>
    let s := s.setMember m (s.review x)
    if (s.member m).state = 1 then
      (s.raise 336).event .s 0x3801 noInst m (leAt body 0 2 + leAt body 2 1 * 2 ^ 16) (leAt p 16 8 % 2 ^ 32)
    else s.refuseMember m (leAt body 0 2)
  | 4 =>
    let s := s.setMember m (s.review x)
    if (s.member m).state = 1 then s.takeTrigger (leAt body 0 8) else s.refuseMember m 0
  | 5 =>
    let s := s.setMember m (s.review x)
    if (s.member m).state = 1 then (List.range 8).foldl (fun (s : State) i => s.takeIntercom m (leAt body 0 1) (body.drop 1) i) s else s
  | _ => s

/-- Whether a frame's TIME is within ±10 ms of device time (R683). -/
def State.timeNear (s : State) (t : Nat) : Bool := decide (t ≤ s.devTime + 10000000) && decide (s.devTime ≤ t + 10000000)

/-- The last SEQ of a TYPE that came by a port, from the pair of both ports. -/
def seenBy (l : Nat × Nat) (port : Nat) : Nat := if port = 0 then l.1 else l.2

/-- The pair with a port's SEQ replaced. -/
def markSeen (l : Nat × Nat) (port seq : Nat) : Nat × Nat := if port = 0 then (seq, l.2) else (l.1, seq)

/-- A member whose last SEQ of a TYPE by a port is replaced. -/
def Member.sawSeq (x : Member) (typ port seq : Nat) : Member :=
  { x with seqs := SMap.set (fun _ => none) x.seqs typ (some (markSeen ((SMap.get (fun _ => none) x.seqs typ).getD (0, 0)) port seq)) }

/-- GROUP_FRAME_RECEIVED (R683): the checks of a group frame. The second copy of a frame, by the other port, is dropped silently: its SEQ
is not greater than the last accepted, but greater than any that its own port brought. Every other refused frame is counted. -/
def execGroupFrameReceived (port : Nat) (frame : List Byte) (s : State) : Host.Outcome State Fault Refusal :=
  if !s.portUp port ∨ beAt frame 16 2 ≠ s.fld F.TTH_GROUP_ETYPE then .next s
  else
    let all := frame.drop 18
    let p := all.take (all.length - 32)
    let typ := leAt p 0 1
    let m := leAt p 2 2
    let seq := leAt p 8 8
    let x := s.member m
    let last := SMap.get (fun _ => none) x.seqs typ
    if !s.flag F.TTH_GROUP_VALID ∨ all.length < 56 ∨ hmacSha256 s.dziv.key p ≠ all.drop (all.length - 32) ∨ leAt p 4 4 ≠ s.dziv.group
      ∨ typ = 0 ∨ 5 < typ ∨ 1023 < m then .next s.refuseFrame
    else if last.any (fun l => decide (seq ≤ max l.1 l.2)) then
      .next (if last.any (fun l => decide (seenBy l port < seq)) then s.putMember m (x.sawSeq typ port seq) else s.refuseFrame)
    else if (typ = 3 ∨ typ = 4) ∧ s.flag F.TTH_TIME_STAT_SYNC ∧ !s.timeNear (leAt p 16 8) then .next s.refuseFrame
    else
      let s := s.putMember m (x.sawSeq typ port seq)
      .next (s.takeFrame m typ p (p.drop 24))

/-! Setting up the group (R682, R685, R693). -/

/-- GROUP_SET: the key is read from Safety SRAM into the key store (R682). -/
def execGroupSet (k : Nat) (s : State) : Host.Outcome State Fault Refusal :=
  match s.opAt k 0x3802 with
  | none => .next s
  | some p =>
    match s.unitRead .s (p.p64 8) 32 with
    | (.error e, s) => .next (s.endOp k (faultStatus e) (if faultStatus e = St.frozen then 0 else 8) (if faultStatus e = St.frozen then 0 else e))
    | (.ok key, s) =>
      let s := { s with dziv := { s.dziv with group := p.p32 0, key := key } }
      let s := (s.setFld F.TTH_GROUP_VALID 1).setFld F.TTH_GROUP_ALARM_EN (bits (p.p8 6) 0 0)
      .next ((s.setFld F.TTH_GROUP_MEMBER (p.p16 4)).endOp k St.ok)

/-- One entry of a ROSTER_SET: a new entry begins ABSENT, a cleared one leaves its member UNKNOWN (R684, R693). -/
def State.setRoster (s : State) (m : Nat) (h : List Byte) : State :=
  let x := { Member.blank with seqs := (s.member m).seqs }
  if h.all (fun b => b == 0) then s.setMember m { x with state := 4 } else s.setMember m { x with roster := some h }

/-- ROSTER_SET (R693). -/
def execRosterSet (k : Nat) (s : State) : Host.Outcome State Fault Refusal :=
  match s.opAt k 0x3803 with
  | none => .next s
  | some p =>
    let s := (List.range (p.p8 0)).foldl (fun (s : State) i =>
      s.setRoster (p.p16 (8 + 56 * i)) ((p.pkt.params.drop (16 + 56 * i)).take 48)) s
    .next (s.endOp k St.ok)

/-- ADMIT: the verified key of a REPLACED or UNKNOWN member enters the roster (R685). -/
def execAdmitMember (k : Nat) (s : State) : Host.Outcome State Fault Refusal :=
  match s.opAt k 0x3804 with
  | none => .next s
  | some p =>
    let m := p.p16 0
    let x := s.member m
    match x.ident with
    | none => .next (s.endOp k St.range 0)
    | some h =>
      if x.state ≠ 3 ∧ x.state ≠ 4 then .next (s.endOp k St.range 0)
      else .next ((s.setMember m { x with roster := some h, identOk := true, seqs := [], hello := some s.cyc, state := 1 }).endOp k St.ok)

/-- ALARM_SEND (R686): the ports it left by, or `BUSY` when it can leave by none. -/
def execAlarmSend (k : Nat) (s : State) : Host.Outcome State Fault Refusal :=
  match s.opAt k 0x3805 with
  | none => .next s
  | some p =>
    let l := s.groupPorts
    if l.isEmpty then .next (s.endOp k St.busy 0)
    else .next ((s.sendGroup 3 (p.pkt.params.take 3 ++ [0] ++ (p.pkt.params.drop 8).take 16)).endOp k St.ok (l.foldl (fun a n => a + 2 ^ n) 0))

/-- IDENT's body: the certificate and a signature over GROUP, MEMBER and TIME (R684). -/
def State.identBody (s : State) : List Byte :=
  let msg := leBytes 4 s.dziv.group ++ leBytes 2 (s.fld F.TTH_GROUP_MEMBER) ++ leBytes 8 s.devTime
  Config.deviceCert ++ (Config.deviceSign (sha384 msg)).take 96

/-- HELLO_TIMER: HELLO every 100 ms, and IDENT every 10 s (R684). -/
def execHelloTimer (s : State) : Host.Outcome State Fault Refusal :=
  if !s.flag F.TTH_GROUP_VALID ∨ (s.dziv.hellos ≠ 0 ∧ !s.passed s.dziv.helloAt 100000000) then .next s
  else
    let n := s.dziv.hellos
    let s := { s with dziv := { s.dziv with helloAt := s.cyc, hellos := n + 1 } }
    let s := s.sendGroup 1 []
    .next (if n % 100 = 0 then s.sendGroup 2 s.identBody else s)

/-- MEMBER_TIMEOUT: a PRESENT member without a HELLO for 300 ms is LOST (R684). -/
def execMemberTimeout (j : Nat) (s : State) : Host.Outcome State Fault Refusal :=
  let x := s.member j
  if x.state = 1 ∧ !s.helloFresh x then .next (s.setMember j { x with state := 2 }) else .next s

/-- GROUP_TRIGGER_TIME: device time has reached the TIME of group triggers (17 R660, R663; R688). -/
def execGroupTriggerTime (s : State) : Host.Outcome State Fault Refusal :=
  let due := s.flt.groupTrig.filter (fun t => decide (t ≤ s.devTime))
  if due.isEmpty then .next s
  else
    let s := { s with flt := { s.flt with groupTrig := s.flt.groupTrig.filter (fun t => decide (s.devTime < t)) } }
    .next (if s.flag F.RUB_CFG_GROUP_EN then s.rubTrigger 0b100000 else s)

/-! Intercom (R689). -/

/-- INTERCOM_SET (R689). -/
def execIntercomSet (k : Nat) (s : State) : Host.Outcome State Fault Refusal :=
  match s.opAt k 0x3807 with
  | none => .next s
  | some p =>
    let i := p.p8 0
    let x := s.intercom i
    let s := s.setIntercom i { x with tx := bit (p.p8 1) 0, rx := bit (p.p8 1) 1, depth := p.p8 2, member := p.p16 4, chan := p.p8 6, buffer := [] }
    .next ((s.setRx i false).endOp k St.ok)

/-- INTERCOM_FRAME_SEND: 32 samples of the channel's multiplexer leave as an INTERCOM frame (R689). -/
def execIntercomFrameSend (j : Nat) (samples : List Nat) (s : State) : Host.Outcome State Fault Refusal :=
  if (s.intercom j).tx && decide (samples.length = 32) then .next (s.sendGroup 5 (leBytes 1 j ++ samples.flatMap (fun v => leBytes 3 v))) else .next s

/-- INTERCOM_IDLE: a receive channel whose buffer has been empty for 20 ms is no longer active (R689). -/
def execIntercomIdle (j : Nat) (s : State) : Host.Outcome State Fault Refusal :=
  let x := s.intercom j
  if bit s.aud.rxOn j && s.passed x.last ((x.depth + 20) * 1000000) then .next ((s.setIntercom j { x with buffer := [] }).setRx j false) else .next s

/-! Queue pairs (R690-R692). -/

/-- A queue pair, if it is set up. -/
def State.qp (s : State) (q : Nat) : Option Qp := SMap.get (fun _ => none) s.dziv.qps q

/-- Replaces a queue pair. -/
def State.setQp (s : State) (q : Nat) (x : Option Qp) : State := { s with dziv := { s.dziv with qps := SMap.set (fun _ => none) s.dziv.qps q x } }

/-- The holder of a queue pair (04 R172). -/
def State.qpHolder (s : State) (q : Nat) : Option Nat := SMap.get (fun _ => none) s.cl.holders (64 * 6 + q)

/-- Whether a ring may name a queue pair (R693). -/
def State.namesQp (s : State) (r : RingId) (q : Nat) : Bool :=
  match r with
  | .client c => s.qpHolder q == some c
  | _ => true

/-- QP_SETUP: LOG2 0 removes the queue pair (R690). -/
def execQpSetup (k : Nat) (s : State) : Host.Outcome State Fault Refusal :=
  match s.opAt k 0x3808 with
  | none => .next s
  | some p =>
    let q := p.p8 0
    if !s.namesQp p.ring q then .next (s.endOp k St.noPermission)
    else if p.p8 2 = 0 then .next ((s.setQp q none).endOp k St.ok)
    else
      let owner := match s.qpHolder q with
        | some c => RingId.client c
        | none => p.ring
      let x : Qp := { owner := owner, port := p.p8 1, log := p.p8 2, bcast := bit (p.p8 3) 0, vlan := p.p16 4, mac := (p.pkt.params.drop 8).take 6
                      txBase := p.p64 16, rxBase := p.p64 24, txIdx := 0, rxIdx := 0, txIdle := true, rxIdle := true }
      .next ((s.setQp q (some x)).endOp k St.ok)

/-- QP_KICK: both rings are read again (R693). -/
def execQpKick (k : Nat) (s : State) : Host.Outcome State Fault Refusal :=
  match s.opAt k 0x3809 with
  | none => .next s
  | some p =>
    let q := p.p8 0
    if !s.namesQp p.ring q then .next (s.endOp k St.noPermission)
    else match s.qp q with
      | none => .next (s.endOp k St.ok)
      | some x => .next ((s.setQp q (some { x with txIdle := false, rxIdle := false })).endOp k St.ok)

/-- A queue pair stops, at a revoke, an instance reset or in the safe state (R692): descriptors not yet started stay as they are. -/
def State.stopQp (s : State) (q : Nat) : State := s.setQp q none

/-- Ends a descriptor: OWN cleared, STATUS and the length written, source 352 + q (R690, R692). -/
def State.endDescriptor (s : State) (q : Nat) (x : Qp) (a flags status len : Nat) : State :=
  let s := (s.unitWrite (ringWho x.owner) (a + 10) (leBytes 1 (flags / 2 * 2) ++ leBytes 1 status ++ leBytes 4 len)).2
  s.raise (352 + q)

/-- The frame on the wire: a queue pair's VLAN is put in as a tag (R691). -/
def tagFrame (vlan : Nat) (f : List Byte) : List Byte := if vlan = 0 then f else f.take 12 ++ [0x81, 0x00] ++ beBytes 2 vlan ++ f.drop 12

/-- EtherTypes that a queue pair may not send (R691). -/
def State.deniedType (s : State) (t : Nat) : Bool := t == s.fld F.TTH_GROUP_ETYPE || t == 0x88F7 || t == 0x8100

/-- QP_TRANSMIT: the next transmit descriptor of a queue pair (R690, R691). -/
def execQpTransmit (q : Nat) (s : State) : Host.Outcome State Fault Refusal :=
  match s.qp q with
  | none => .next s
  | some x =>
    if x.txIdle ∨ s.safe ∨ !s.portUp x.port then .next s
    else
      let a := x.txBase + 16 * (x.txIdx % 2 ^ x.log)
      match s.unitRead (ringWho x.owner) a 16 with
      | (.error _, s) => .next (s.setQp q (some { x with txIdle := true }))
      | (.ok d, s) =>
        let len := leAt d 8 2
        let flags := leAt d 10 1
        if !bit flags 0 then .next (s.setQp q (some { x with txIdle := true }))
        else
          let s := s.setQp q (some { x with txIdx := x.txIdx + 1 })
          if len < 60 ∨ (if x.vlan = 0 then 9216 else 9212) < len then .next (s.endDescriptor q x a flags 1 0)
          else match s.unitRead (ringWho x.owner) (leAt d 0 8) len with
            | (.error _, s) => .next (s.endDescriptor q x a flags 3 0)
            | (.ok f, s) =>
              if s.deniedType (beAt f 12 2) then .next (s.endDescriptor q x a flags 2 0)
              else .next ((s.sendFrame x.port (tagFrame x.vlan f)).endDescriptor q x a flags 0 0)

/-- Delivers a frame to a queue pair (R690, R691): `f` is without tag and FCS. -/
def State.deliver (s : State) (q : Nat) (x : Qp) (f : List Byte) : State :=
  if x.rxIdle then s
  else
    let a := x.rxBase + 16 * (x.rxIdx % 2 ^ x.log)
    match s.unitRead (ringWho x.owner) a 16 with
    | (.error _, s) => s.setQp q (some { x with rxIdle := true })
    | (.ok d, s) =>
      let len := leAt d 8 2
      let flags := leAt d 10 1
      if !bit flags 0 then s.setQp q (some { x with rxIdle := true })
      else
        let s := s.setQp q (some { x with rxIdx := x.rxIdx + 1 })
        if len < 2048 ∨ 9216 < len then s.endDescriptor q x a flags 1 f.length
        else if len < f.length then s.endDescriptor q x a flags 4 f.length
        else match s.unitWrite (ringWho x.owner) (leAt d 0 8) f with
          | (some _, s) => s.endDescriptor q x a flags 3 f.length
          | (none, s) => s.endDescriptor q x a flags 0 f.length

/-- Whether a queue pair takes a frame: addressed to its MAC, or broadcast with BCAST set, on its VLAN and port (R691). -/
def Qp.takes (x : Qp) (port vlan : Nat) (frame : List Byte) : Bool :=
  x.port == port && x.vlan == vlan && (frame.take 6 == x.mac || (x.bcast && frame.take 6 == List.replicate 6 0xFF))

/-- QP_FRAME_RECEIVED: a frame other than a group or 802.1AS frame goes to each queue pair that takes it (R690, R691). -/
def execQpFrameReceived (port : Nat) (frame : List Byte) (s : State) : Host.Outcome State Fault Refusal :=
  let tagged := beAt frame 12 2 == 0x8100
  let vlan := if tagged then beAt frame 14 2 % 4096 else 0
  let f := if tagged then frame.take 12 ++ frame.drop 16 else frame
  let t := beAt f 12 2
  if s.safe ∨ !s.portUp port ∨ t = s.fld F.TTH_GROUP_ETYPE ∨ t = 0x88F7 then .next s
  else .next ((List.range 32).foldl (fun (s : State) q =>
    match s.qp q with
    | some x => if x.takes port vlan frame then s.deliver q x f else s
    | none => s) s)

end Sys2Proof.Machine
end

