-- ==== Sys2Proof/Machine/Clients.lean ====
section
/-! DEFINITION. The commands and events of client instances, shares, grants, translation and PCIe (04). -/

namespace Sys2Proof.Machine

/-! What a client holds (R155, R158, R172). -/

/-- Resources of a type that a client holds, by instance; type 1 stands for the layer slots it holds (R165). -/
def State.heldOf (s : State) (type c : Nat) : List Nat :=
  if type = 1 then s.slotsHeld c
  else (List.range 64).filter (fun i => s.holder type i == some c)

/-- The counts of RESULT2 (R158): queue pairs, capture streams, memory streams, layer slots. -/
def quadWord (q p m l : Nat) : Nat := q % 256 * 2 ^ 24 + p % 256 * 2 ^ 16 + m % 256 * 2 ^ 8 + l % 256

/-- INSTANCE_QUERY (R158). -/
def execInstanceQuery (k : Nat) (s : State) : Host.Outcome State Fault Refusal :=
  match s.opAt k 0x0400 with
  | none => .next s
  | some p =>
    let t := p.p16 0 % 4096
    let c := s.client t
    let st := if c.resetting then 2 else if !(s.ring (.client t)).enabled then 0 else if c.inflight = 0 then 3 else 1
    let n (type : Nat) : Nat := (s.heldOf type t).length
    .next (s.endOp k St.ok (st * 2 ^ 16 + c.gen) (c.weight * 2 ^ 24 + c.inflight * 2 ^ 16 + s.inExec (.client t))
      (quadWord (n 6) (n 5) (n 4) (n 1)) c.discarded)

/-! Removals (R165, R173, R175). -/

/-- Gives a resource to a client, with GRANT_CHANGED and its copy (R159, R175). -/
def State.give (s : State) (type inst c : Nat) (ring : RingId) : State :=
  let s := if type = 1 then { s with cl := { s.cl with outputs := if s.hasOutput inst c then s.cl.outputs else s.cl.outputs ++ [(inst, c)] } }
    else { s with cl := { s.cl with holders := SMap.set (fun _ => none) s.cl.holders (64 * type + inst) (some c) } }
  s.eventCopy c ring 0x0404 inst type inst 1

/-- SHARE_APPLIED (R159, R163). -/
def State.shareApplied (s : State) (c : Nat) (ring : RingId) : State :=
  let x := s.client c
  s.eventCopy c ring 0x0402 noInst (x.weight * 2 ^ 24 + x.inflight * 2 ^ 16) (quadWord x.qpairs x.captures x.streams x.layers) 0

/-- One removal of a shrink has taken effect; after the last, SHARE_APPLIED follows (R163). -/
def State.countShrink (s : State) (c : Nat) : State :=
  let x := s.client c
  match x.shrinking with
  | some (ring, 1) => (s.setClient c { x with shrinking := none }).shareApplied c ring
  | some (ring, n) => s.setClient c { x with shrinking := some (ring, n - 1) }
  | none => s

/-- Frees a client's slots on an output. -/
def State.freeSlotsOf (s : State) (c n : Nat) : State :=
  (s.slotsOf n).foldl (fun (s : State) l => if s.slotOwner l = c then s.freeSlot l false else s) s

/-- What a unit does when a client loses a resource (R165; 09 R413, 10 R431, 11 R487, 18 R692). -/
def State.unitLoses (s : State) (type inst c : Nat) : State :=
  match type with
  | 1 => { s.freeSlotsOf c inst with cl := { s.cl with outputs := s.cl.outputs.filter (fun x => x != (inst, c)) } }
  | 2 => s.touchRevoke inst c
  | 3 => if (List.range 8).any (fun a => a != inst && s.holder 3 a == some c) then s else s.freeWaves c
  | 4 => ((s.haltStream inst).setStream inst none).audSync
  | 5 => ((s.haltStream (128 + inst)).setStream (128 + inst) none).audSync
  | _ => s.stopQp inst

/-- Takes a grant from a client. -/
def State.dropGrant (s : State) (type inst c : Nat) : State :=
  let s := s.unitLoses type inst c
  if type = 1 then s
  else if s.holder type inst = some c then { s with cl := { s.cl with holders := SMap.set (fun _ => none) s.cl.holders (64 * type + inst) none } }
  else s

/-- A removal takes effect: GRANT_CHANGED or EVICTED, and the grant to the client that comes next (R165, R173). -/
def State.removalEffect (s : State) (r : Removal) : State :=
  if r.type = 1 ∧ !r.revoke then
    let s := if s.slotUsed r.slot && s.slotOwner r.slot == r.client && s.slotOut r.slot == r.inst then s.freeSlot r.slot false else s
    (s.eventCopy r.client r.ring 0x0403 r.inst 1 r.inst r.slot).countShrink r.client
  else
    let s := s.dropGrant r.type r.inst r.client
    let s := if r.revoke then s.eventCopy r.client r.ring 0x0404 r.inst r.type r.inst 0
      else (s.eventCopy r.client r.ring 0x0403 r.inst r.type r.inst 0xFFFFFFFF).countShrink r.client
    match r.next with
    | some d => s.give r.type r.inst d r.ring
    | none => s

/-- Whether a removal's moment has come (R165): an output's at once when its timing generator is not enabled, a panel's when no report
is in progress, an actuator's when the client's effect has ended, a stream's when it is silent. -/
def State.removalDue (s : State) (r : Removal) : Bool :=
  match r.type with
  | 1 => !s.flag F.DTG_CTRL_ENABLE r.inst
  | 2 => (s.panel r.inst).report.isNone
  | 3 => !(match (s.act r.inst).run with
      | some e => (match e.origin with
        | .play q _ => q == .client r.client
        | .stop q => q == some (.client r.client)
        | _ => false)
      | none => false)
  | 4 => ((s.stream r.inst).map (fun x => !x.started)).getD true
  | _ => true

/-- Takes removal `i` off the list and lets it take effect. -/
def State.doRemoval (s : State) (i : Nat) : State :=
  match s.cl.removals[i]? with
  | none => s
  | some r => ({ s with cl := { s.cl with removals := s.cl.removals.eraseIdx i } }).removalEffect r

/-- RESOURCE_REMOVAL: removal `i` takes effect at its moment (R165). -/
def execResourceRemoval (i : Nat) (s : State) : Host.Outcome State Fault Refusal :=
  match s.cl.removals[i]? with
  | none => .next s
  | some r => if s.removalDue r then .next (s.doRemoval i) else .next s

/-- The removals on an output take effect at its frame boundary, the oldest first (R165; 05 R248). -/
def State.removeAtBoundary (s : State) (n : Nat) : State :=
  let l := s.cl.removals.filter (fun r => r.type == 1 && r.inst == n)
  let s := { s with cl := { s.cl with removals := s.cl.removals.filter (fun r => !(r.type == 1 && r.inst == n)) } }
  l.foldl (fun (s : State) r => s.removalEffect r) s

/-- What begins when a removal is accepted: the effect brakes, the stream ramps to silence (R165; 10 R435, 11 R487). -/
def State.beginRemoval (s : State) (r : Removal) : State :=
  let s := { s with cl := { s.cl with removals := s.cl.removals ++ [r] } }
  let s := match r.type with
    | 3 => s.actBrake r.inst
    | 4 => s.stopStream r.inst
    | _ => s
  if r.type = 1 && s.removalDue r then s.doRemoval (s.cl.removals.length - 1) else s

/-! GRANT (R171-R175). -/

/-- Whether a client holds a resource. -/
def State.holds (s : State) (type inst c : Nat) : Bool := if type = 1 then s.hasOutput inst c else s.holder type inst == some c

/-- The quota of a type, where it has one (R174). -/
def Client.quota (x : Client) (type : Nat) : Option Nat :=
  match type with
  | 4 => some x.streams
  | 5 => some x.captures
  | 6 => some x.qpairs
  | _ => none

/-- Takes a resource from its holder, for `next` or for nobody; a removal under way keeps its moment, and the later grant gets the
resource. -/
def State.takeFrom (s : State) (type inst c : Nat) (ring : RingId) (next : Option Nat) : State :=
  let same (r : Removal) : Bool := r.type == type && r.inst == inst && r.client == c && (r.revoke || type != 1)
  if s.cl.removals.any same then
    { s with cl := { s.cl with removals := s.cl.removals.map (fun r => if same r then { r with next := next.orElse (fun _ => r.next) } else r) } }
  else s.beginRemoval { type := type, inst := inst, client := c, slot := 0xFFFFFFFF, revoke := true, ring := ring, next := next }

/-- GRANT. -/
def execGrant (k : Nat) (s : State) : Host.Outcome State Fault Refusal :=
  match s.opAt k 0x0403 with
  | none => .next s
  | some p =>
    let t := p.p16 0 % 4096
    let type := p.p8 2
    let inst := p.p16 6
    if p.p8 3 = 1 then
      if !s.holds type inst t then .next (s.endOp k St.ok)
      else .next ((s.endOp k St.deferred).takeFrom type inst t p.ring none)
    else if s.holds type inst t then .next (s.endOp k St.ok)
    else if (match (s.client t).quota type with
        | some q => decide (q ≤ (s.heldOf type t).length)
        | none => false) then .next (s.endOp k St.busy)
    else match if type = 1 then none else s.holder type inst with
      | none => .next ((s.endOp k St.ok).give type inst t p.ring)
      | some old =>
        if !bit (p.p8 4) 0 then .next (s.endOp k St.busy)
        else .next ((s.endOp k St.deferred).takeFrom type inst old p.ring (some t))

/-! SHARE_SET (R160-R164). -/

/-- The pool quotas in effect for the checks of a SHARE_SET: those of the last one accepted in this quantum, if any (R164). -/
def Client.pools (x : Client) : List Nat :=
  match x.shares.getLast? with
  | some v => [v.layers, v.streams, v.captures, v.qpairs]
  | none => [x.layers, x.streams, x.captures, x.qpairs]

/-- The sum of pool `j` over all clients but one. -/
def State.poolSum (s : State) (j but : Nat) : Nat :=
  s.cl.clients.foldl (fun n e => if e.1 = but then n else n + ((s.client e.1).pools[j]?).getD 0) 0

/-- The sizes of the pools (R161). -/
def poolSize (j : Nat) : Nat := if j < 2 then 64 else 32

/-- The offset of the first pool field that over-commits its pool (R161). -/
def State.overCommit (s : State) (p : Started) (t : Nat) : Option Nat :=
  ((List.range 4).find? (fun j => decide (poolSize j < p.p8 (5 + j) + s.poolSum j t))).map (fun j => 5 + j)

/-- The offset of the first pool field below what the client holds (R162). -/
def State.underHeld (s : State) (p : Started) (t : Nat) : Option Nat :=
  ([(0, 1), (1, 4), (2, 5), (3, 6)].find? (fun x => decide (p.p8 (5 + x.1) < (s.heldOf x.2 t).length))).map (fun x => 5 + x.1)

/-- SHARE_SET: accepted values wait for the quantum boundary (R163). -/
def execShareSet (k : Nat) (s : State) : Host.Outcome State Fault Refusal :=
  match s.opAt k 0x0402 with
  | none => .next s
  | some p =>
    let t := p.p16 0 % 4096
    let force := bit (p.p8 2) 0
    if p.progress ≠ 0 then .next s
    else match s.overCommit p t with
      | some off => .next (s.endOp k St.busy off 1)
      | none =>
        match if force then none else s.underHeld p t with
        | some off => .next (s.endOp k St.busy off 2)
        | none =>
          let c := s.client t
          let v : Share := { place := k, ring := p.ring, force := force, weight := p.p8 3, inflight := p.p8 4, layers := p.p8 5, streams := p.p8 6
                             captures := p.p8 7, qpairs := p.p8 8 }
          .next ((s.setClient t { c with shares := c.shares ++ [v] }).setProgress k 1)

/-- Whether slot `a` goes before slot `b` on a shrink: highest z, then the higher output, then the higher slot (R165). -/
def State.slotFirst (s : State) (a b : Nat) : Bool :=
  let z (l : Nat) : Nat := s.fld F.DPIPE_LCTRL_Z l
  decide (z b < z a) || (decide (z a = z b) && (decide (s.slotOut b < s.slotOut a) || (decide (s.slotOut a = s.slotOut b) && decide (b < a))))

/-- Puts a slot into a list in the order in which a shrink takes them. -/
def State.insertSlot (s : State) (l : Nat) : List Nat → List Nat
  | [] => [l]
  | x :: t => if s.slotFirst l x then l :: x :: t else x :: s.insertSlot l t

/-- The slots a shrink to `keep` evicts; those already leaving are not counted (R165). -/
def State.shrinkSlots (s : State) (c keep : Nat) : List Nat :=
  let l := (s.slotsHeld c).filter (fun l => !s.cl.removals.any (fun r => r.type == 1 && !r.revoke && r.slot == l))
  let l := l.foldl (fun (acc : List Nat) x => s.insertSlot x acc) []
  l.take (l.length - keep)

/-- The instances of a type that a shrink to `keep` evicts, highest number first (R165). -/
def State.shrinkHeld (s : State) (type c keep : Nat) : List Nat :=
  let l := (s.heldOf type c).filter (fun i => !s.losing type i c)
  l.reverse.take (l.length - keep)

/-- The removals that a client's quotas call for (R163, R165). -/
def State.shrinks (s : State) (c : Nat) (ring : RingId) : List Removal :=
  let x := s.client c
  let r (type inst slot : Nat) : Removal := { type := type, inst := inst, client := c, slot := slot, revoke := false, ring := ring, next := none }
  (s.shrinkSlots c x.layers).map (fun l => r 1 (s.slotOut l) l)
    ++ ([(4, x.streams), (5, x.captures), (6, x.qpairs)].flatMap (fun (t : Nat × Nat) => (s.shrinkHeld t.1 c t.2).map (fun i => r t.1 i 0xFFFFFFFF)))

/-- The SHARE_SETs of a client apply at the quantum boundary: the last one's values, and what follows from them (R163, R164). -/
def State.applyShares (s : State) (c : Nat) : State :=
  let x := s.client c
  match x.shares.getLast? with
  | none => s
  | some v =>
    let early := x.shares.dropLast
    let s := s.setClient c { x with weight := v.weight, inflight := v.inflight, layers := v.layers, streams := v.streams, captures := v.captures
                                    qpairs := v.qpairs, shares := [] }
    let s := early.foldl (fun (s : State) e => s.endOp e.place St.ok) s
    let l := s.shrinks c v.ring
    if l.isEmpty then s.endOp v.place St.ok
    else
      let left := match x.shrinking with
        | some (_, n) => n
        | none => 0
      let s := (s.endOp v.place St.deferred).setClient c { s.client c with shrinking := some (v.ring, left + l.length) }
      l.foldl (fun (s : State) r => s.beginRemoval r) s

/-! QUANTUM_BOUNDARY (R163, R167, R170). -/

/-- The resident context that gives its slot to a waiting one: among those R99 allows, first one with an empty ring, then one with no
credit left, each time the one resident longest (R170). `spent` are the clients without credit at the end of the quantum. -/
def State.toEvict (s : State) (spent : List Nat) : Option Nat :=
  let l := s.cp.resident.filter (fun n => s.evictable n)
  (l.find? (fun n => decide ((s.ring (.client n)).sqCount = 0))).orElse (fun _ => l.find? (fun n => spent.contains n))

/-- Evicts one context for each of `n` waiting ones; one with unstarted entries waits for a slot again (R170, 03 R99). -/
def State.evictFor (spent : List Nat) : Nat → State → State
  | 0, s => s
  | n + 1, s =>
    match s.toEvict spent with
    | none => s
    | some c => State.evictFor spent n ((s.evict c).wantResident (.client c))

/-- QUANTUM_BOUNDARY: SHARE_SETs apply, waiting contexts evict resident ones, and every enabled client's credit is its WEIGHT. -/
def execQuantumBoundary (s : State) : Host.Outcome State Fault Refusal :=
  let spent := s.cp.resident.filter (fun n => decide ((s.client n).credit = 0))
  let s := (s.cl.clients.map (·.1)).foldl (fun (s : State) c => s.applyShares c) s
  let need := s.cp.waiting.length
  let s := if s.cp.resident.length < 128 then s else State.evictFor spent need s
  let rings := s.cp.rings.filterMap (fun e => if e.1 < 4096 ∧ e.2.enabled then some e.1 else none)
  .next (rings.foldl (fun (s : State) c => let x := s.client c; s.setClient c { x with credit := x.weight }) s)

/-! Instance reset (R176-R182). -/

/-- The next generation: 0xFFFF is followed by 1 (R153). -/
def nextGen (g : Nat) : Nat := if g = 0xFFFF then 1 else g + 1

/-- A `DPIPE_LCTRL` word with its Z and OUTPUT fields as they stand. -/
def putZ (ctrl z out : Nat) : Nat := (putBits (putBits (BitVec.ofNat 32 ctrl) 11 8 z) 3 0 out).toNat

/-- Writes a live copy back into a slot's shadow registers, with ARM clear. -/
def State.putLayer (s : State) (l : Nat) (x : Layer) : State :=
  let w (s : State) (a v : Nat) : State := s.setRg a (BitVec.ofNat 32 v)
  let s := w s (Reg.DPIPE_LCTRL l) (x.ctrl % 2 ^ 31)
  let s := w (w s (Reg.DPIPE_LADDR_LO l) x.addr) (Reg.DPIPE_LADDR_HI l) (x.addr / 2 ^ 32)
  let s := w (w s (Reg.DPIPE_LCADDR_LO l) x.caddr) (Reg.DPIPE_LCADDR_HI l) (x.caddr / 2 ^ 32)
  let s := w (w (w s (Reg.DPIPE_LPITCH l) x.pitch) (Reg.DPIPE_LSRC_POS l) x.srcPos) (Reg.DPIPE_LSRC_SIZE l) x.srcSize
  let s := w (w s (Reg.DPIPE_LDST_POS l) x.dstPos) (Reg.DPIPE_LDST_SIZE l) x.dstSize
  w (w s (Reg.DPIPE_LFILL l) x.fill) (Reg.DPIPE_LBUF l) x.buf

/-- A client's armed but unapplied slot state is cleared (05 R247). -/
def State.disarmSlots (s : State) (c : Nat) : State :=
  (((s.slotsHeld c).filter (fun l => s.flag F.DPIPE_LCTRL_ARM l)).foldl (fun (s : State) l =>
    let x := s.slot l
    (s.putLayer l { x.live with ctrl := putZ x.live.ctrl (s.fld F.DPIPE_LCTRL_Z l) (s.fld F.DPIPE_LCTRL_OUTPUT l) }).setSlot l
      { x with armedBy := none, nextCharge := none, palShadow := x.palLive, written := false }) s).syncIso

/-- Each unit returns the client's slice to the state its chapter gives for instance reset (R178 step 5; 05 R247, 08 R369, 09 R413,
10 R431, R435, 11 R487, 18 R692). -/
def State.resetSlices (s : State) (c : Nat) : State :=
  let s := s.disarmSlots c
  let s := { s with grv := { s.grv with palettes := SMap.set (fun _ => []) s.grv.palettes (ringKey (.client c)) [] } }
  let s := (s.heldOf 2 c).foldl (fun (s : State) p => s.touchRevoke p c) s
  let s := (List.range 8).foldl (fun (s : State) a => s.actRevoke a c) s
  let s := (s.freeWaves c).audioReset c
  (List.range 32).foldl (fun (s : State) q => if (s.qp q).map (·.owner) = some (.client c) then s.stopQp q else s) s

/-- The packet of a ring that waits on its fence completes with STALE_CONTEXT (R178 step 4). -/
def State.staleWait (s : State) (r : RingId) : State :=
  match (s.ring r).wait with
  | none => s
  | some (p, _) => (s.passHead r p.entries).refuse r p St.staleContext 0

/-- Drops the operations of a ring that have not ended, and says how many they were (R178 step 3, R179). -/
def State.abandonOps (s : State) (r : RingId) : Nat × State :=
  let l := s.busyPlaces.filter (fun e => e.2.ring = r ∧ (e.2.result.isNone ∨ e.2.held))
  (l.length, l.foldl (fun (s : State) e => s.dropPlace e.1) s)

/-- An instance reset starts (R178). -/
def State.startReset (s : State) (c : Nat) (by_ : Option Nat) : State :=
  let x := s.client c
  let s := s.setClient c { x with gen := nextGen x.gen, resetting := true, resetBy := by_ }
  match s.abandonOps (.client c) with
  | (n, s) =>
    let x := s.client c
    ((s.setClient c { x with discardedC := n, discardedW := 0, discarded := min (x.discarded + n) 0xFFFFFFFF }).staleWait (.client c)).resetSlices c

/-- INSTANCE_RESET (R177, R178). -/
def execInstanceReset (k : Nat) (s : State) : Host.Outcome State Fault Refusal :=
  match s.opAt k 0x0401 with
  | none => .next s
  | some p =>
    let t := p.p16 0 % 4096
    if p.progress ≠ 0 then .next s
    else if (s.client t).resetting ∨ !(s.ring (.client t)).enabled then .next (s.endOp k St.busy)
    else .next ((s.setProgress k 1).startReset t (some k))

/-- Whether an operation of a client is still under way: a packet in execution, or a flash sequence that runs to its end (R180). -/
def State.oldWork (s : State) (c : Nat) : Bool :=
  s.inExec (.client c) != 0 || (match s.grant 12 with
    | some g => g.holder == .task 1 (4096 + c)
    | none => false)

/-- A function-level reset completes when no client of the function is resetting any more: `PCIE_FLR_PEND`, source 433 and FLR_RESET
(R197, R198). -/
def State.finishFlr (s : State) : State :=
  let busy (fn : Nat) : Bool := s.cl.pasids.any (fun m => m.fn == fn && (s.client m.client).resetting)
  let done := s.cl.flr.filter (fun e => !busy e.1)
  let s := { s with cl := { s.cl with flr := s.cl.flr.filter (fun e => busy e.1) } }
  done.foldl (fun (s : State) e =>
    let a := Reg.PCIE_FLR_PEND (e.1 / 32)
    ((s.setRg a (putBits (s.rg a) (e.1 % 32) (e.1 % 32) 1)).raise 433).event .med 0x0405 noInst e.1 e.2) s

/-- INSTANCE_RESET_DONE: no operation of the old generation remains (R180). -/
def execInstanceResetDone (c : Nat) (s : State) : Host.Outcome State Fault Refusal :=
  let x := s.client c
  if !x.resetting || s.oldWork c then .next s
  else
    let s := s.setClient c { x with resetting := false, resetBy := none }
    let s := match x.resetBy with
      | none => s.event (.client c) 0x0401 noInst x.gen x.discardedC x.discardedW
      | some k =>
        let ring : RingId := match s.place k with
          | some p => p.ring
          | none => .client c
        (s.endOp k St.ok x.gen x.discardedC x.discardedW).eventCopy c ring 0x0401 noInst x.gen x.discardedC x.discardedW
    .next ((s.wantResident (.client c)).finishFlr)

/-! Translation (R186-R191). -/

/-- DEVCTX_SET (R186, R188). -/
def execDevctxSet (k : Nat) (s : State) : Host.Outcome State Fault Refusal :=
  match s.opAt k 0x0404 with
  | none => .next s
  | some p =>
    let dc := p.p8 0
    let s := { s with cl := { s.cl with devctx := SMap.set (fun _ => none) s.cl.devctx dc (some ⟨p.p8 1, p.p16 2, p.p64 8⟩)
                                        tlb := s.cl.tlb.filter (fun e => e.dc != dc) } }
    .next (s.endOp k St.ok)

/-- CLIENT_BIND (R182, R187, R188). -/
def execClientBind (k : Nat) (s : State) : Host.Outcome State Fault Refusal :=
  match s.opAt k 0x0405 with
  | none => .next s
  | some p =>
    let t := p.p16 0 % 4096
    if (s.client t).resetting then .next (s.endOp k St.busy)
    else
      let s := s.setClient t { s.client t with bind := some ⟨p.p8 2, p.p8 3, p.p32 4, p.p64 8⟩ }
      let s := { s with cl := { s.cl with tlb := s.cl.tlb.filter (fun e => e.client != t) } }
      .next (s.endOp k St.ok)

/-- Whether an IOTLB_INVAL covers a cached translation (R190). -/
def invalHits (p : Started) (e : TlbEntry) : Bool :=
  let t := p.p16 2 % 4096
  match p.p8 0 with
  | 0 => true
  | 1 => e.dc == p.p8 1
  | 2 => e.client == t
  | _ => e.client == t && decide (p.p64 8 / 4096 ≤ e.vpage) && decide (e.vpage < p.p64 8 / 4096 + p.p32 4)

/-- IOTLB_INVAL (R190, R191). -/
def execIotlbInval (k : Nat) (s : State) : Host.Outcome State Fault Refusal :=
  match s.opAt k 0x0406 with
  | none => .next s
  | some p =>
    let s := { s with cl := { s.cl with tlb := s.cl.tlb.filter (fun e => !invalHits p e) } }
    .next (s.endOp k St.ok)

/-! PCIe (R192-R198; 20 R741). -/

/-- PASID_MAP (R195, R196). -/
def execPasidMap (k : Nat) (s : State) : Host.Outcome State Fault Refusal :=
  match s.opAt k 0x0407 with
  | none => .next s
  | some p =>
    let fn := p.p8 0
    let t := p.p16 2 % 4096
    let pasid := if bit (p.p8 1) 0 then none else some (p.p32 4)
    if bit (p.p8 1) 1 then
      let s := { s with cl := { s.cl with pasids := s.cl.pasids.filter (fun m => !(m.fn == fn && m.pasid == pasid && m.client == t)) } }
      .next (s.endOp k St.ok)
    else if s.cl.pasids.any (fun m => m.client == t || (m.fn == fn && m.pasid == pasid)) then .next (s.endOp k St.busy)
    else
      let s := { s with cl := { s.cl with pasids := s.cl.pasids ++ [PasidMap.mk fn pasid t (p.p8 8)] } }
      .next (s.endOp k St.ok)

/-- Whether the PCIe domain is powered: without it, nothing happens at the endpoint (19 R697). -/
def State.pcieOn (s : State) : Bool := s.powered 42

/-- The client of an inbound request (R193). -/
def State.pcieClient (s : State) (fn : Nat) (pasid : Option Nat) : Option Nat :=
  (s.cl.pasids.find? (fun m => m.fn == fn && m.pasid == pasid)).map (·.client)

/-- A doorbell write through BAR0 (R192, R193; 03 R103, R105; 00 R5): only the client's own page takes it, as an aligned word. -/
def State.pcieDoorbell (s : State) (c off : Nat) (v : Word) : Host.Outcome State Fault Refusal :=
  let r := RingId.client (off / 4096)
  let s := s.answer .done
  if off % 4 ≠ 0 then .next (s.recordBus (.client c) (0x20000000 + off) true 3)
  else match off % 4096 with
    | 0 => execSqTailDoorbell (.client c) r v s
    | 4 => execCqHeadDoorbell (.client c) r v s
    | 8 => execEqHeadDoorbell (.client c) r v s
    | 12 => execSqResume (.client c) r v s
    | _ => .next s

/-- PCIE_INBOUND_REQUEST (R192, R193; 17 R656; 20 R741). -/
def execPcieInboundRequest (fn : Nat) (pasid : Option Nat) (q : PcieReq) (s : State) : Host.Outcome State Fault Refusal :=
  if s.flag F.PCIE_LINK_STAT_PERST ∨ !s.pcieOn then .next (s.answer .none)
  else match if s.safe then none else s.pcieClient fn pasid with
    | none => .next (s.answer .unsupported)
    | some c =>
      match q with
      | .ats => .next (s.answer .unsupported)
      | .doorbell off v => s.pcieDoorbell c (off % 0x1000000) v
      | .read a n =>
        match s.unitRead (.client c) a n with
        | (.ok l, s) => .next (s.answer (.data l))
        | (.error e, s) => .next (s.answer (if e = 4 then .frozen else if e = 5 then .fenced else .errorResponse))
      | .write a l =>
        match s.unitWrite (.client c) a l with
        | (none, s) => .next (s.answer .done)
        | (some e, s) => .next (s.answer (if e = 4 then .frozen else if e = 5 then .fenced else .errorResponse))

/-- A function-level reset begins: every client mapped to the function is reset (R197). -/
def State.startFlr (s : State) (fn : Nat) : State :=
  if s.cl.flr.any (fun e => e.1 == fn) then s
  else
    let l := (s.cl.pasids.filter (fun m => m.fn == fn)).map (·.client)
    let s := { s with cl := { s.cl with flr := s.cl.flr ++ [(fn, l.length)] } }
    l.foldl (fun (s : State) c => if (s.client c).resetting then s else s.startReset c none) s

/-- PCIE_FLR (R197). -/
def execPcieFlr (fn : Nat) (s : State) : Host.Outcome State Fault Refusal :=
  if !s.pcieOn ∨ s.flag F.PCIE_LINK_STAT_PERST then .next s else .next ((s.startFlr fn).finishFlr)

/-- The endpoint's link goes down. -/
def State.pcieDown (s : State) : State :=
  ((s.setFld F.PCIE_LINK_STAT_UP 0).setFld F.PCIE_LINK_STAT_SPEED 0).setFld F.PCIE_LINK_STAT_WIDTH 0

/-- PCIE_PERST: `PCIE_PERST_N` low resets the link and every function (20 R741; R198). -/
def execPciePerst (low : Bool) (s : State) : Host.Outcome State Fault Refusal :=
  if !s.pcieOn then .next s
  else if !low then .next (s.setFld F.PCIE_LINK_STAT_PERST 0)
  else if s.flag F.PCIE_LINK_STAT_PERST then .next s
  else
    let was := s.flag F.PCIE_LINK_STAT_UP
    let s := ((s.setFld F.PCIE_LINK_STAT_PERST 1).pcieDown).raise 436
    let s := if was then s.raise 432 else s
    .next (((List.range 64).foldl (fun (s : State) fn => s.startFlr fn) s).finishFlr)

/-- PCIE_LINK_CHANGE (R198). -/
def execPcieLinkChange (up : Bool) (speed width vfs : Nat) (s : State) : Host.Outcome State Fault Refusal :=
  if !s.pcieOn ∨ s.flag F.PCIE_LINK_STAT_PERST then .next s
  else
    let t := if up then ((s.setFld F.PCIE_LINK_STAT_UP 1).setFld F.PCIE_LINK_STAT_SPEED speed).setFld F.PCIE_LINK_STAT_WIDTH width else s.pcieDown
    let t := if t.rg Reg.PCIE_LINK_STAT = s.rg Reg.PCIE_LINK_STAT then t else t.raise 432
    .next (t.setFld F.PCIE_LINK_STAT_VFS vfs)

/-- PCIE_ERROR (R198). -/
def execPcieError (uncorr : Bool) (s : State) : Host.Outcome State Fault Refusal :=
  if !s.pcieOn then .next s
  else
    let s := (s.setFld F.PCIE_ERR_VALID 1).setFlag F.PCIE_ERR_UNCORR uncorr
    if uncorr then .next (s.raise 435) else .next ((s.satInc F.PCIE_ERR_COUNT).raise 434)

end Sys2Proof.Machine
end

