-- ==== Sys2Proof/Machine/Hallmark.lean ====
section
/-! DEFINITION. Hallmark check-value units (14). -/

namespace Sys2Proof.Machine

/-- The low `w` bits of a number in reverse order. -/
def reverseBits : Nat → Nat → Nat
  | 0, _ => 0
  | w + 1, v => v % 2 * 2 ^ w + reverseBits w (v / 2)

/-- A check-value model (R569). -/
structure HallModel where
  w      : Nat
  poly   : Nat
  xorout : Nat
  refin  : Bool
  refout : Bool
  big    : Bool
  deriving DecidableEq, Repr

/-- One bit of input into the register (R569). -/
def HallModel.bit (m : HallModel) (reg : Nat) (top : Bool) : Nat :=
  let v := reg * 2 % 2 ^ m.w
  if reg.testBit (m.w - 1) != top then v ^^^ m.poly else v

/-- One byte of input, its bits from 7 down to 0, after REFIN (R569). -/
def HallModel.byte (m : HallModel) (reg : Nat) (b : Byte) : Nat :=
  let v := if m.refin then reverseBits 8 b.toNat else b.toNat
  [7, 6, 5, 4, 3, 2, 1, 0].foldl (fun r k => m.bit r (v.testBit k)) reg

/-- The value from the register (R569). -/
def HallModel.value (m : HallModel) (reg : Nat) : Nat := (if m.refout then reverseBits m.w reg else reg) ^^^ m.xorout

/-- The bytes that a value occupies (R570). -/
def HallModel.k (m : HallModel) : Nat := (m.w + 7) / 8

/-- A value as bytes under ORDER, its pad bits 0 (R570). -/
def HallModel.bytes (m : HallModel) (v : Nat) : List Byte := if m.big then (leBytes m.k v).reverse else leBytes m.k v

/-- The value that bytes hold under ORDER, pad bits ignored (R570). -/
def HallModel.read (m : HallModel) (l : List Byte) : Nat := leAt (if m.big then l.reverse else l) 0 m.k % 2 ^ m.w

/-- The model of a HALL_RUN's parameters (R572). -/
def hallModel (l : List Byte) : HallModel :=
  ⟨leAt l 1 1, leAt l 8 8, leAt l 24 8, Sys2Proof.Machine.bit (leAt l 2 1) 0, Sys2Proof.Machine.bit (leAt l 2 1) 1, Sys2Proof.Machine.bit (leAt l 2 1) 2⟩

/-- A run in progress: the register, input bytes not yet passed on (the last K in mode 2), bytes read, and bytes written. -/
structure HallRun where
  reg     : Nat
  held    : List Byte
  nread   : Nat
  written : Nat
  deriving DecidableEq, Repr

/-- Passes input on: all but the last `keep` bytes go into the value and, where the mode writes, to DST. The error is the reason of a faulting
write. -/
def State.hallPass (s : State) (m : HallModel) (w : Who) (dst : Option Nat) (keep : Nat) (r : HallRun) (chunk : List Byte) :
    Option Nat × HallRun × State :=
  let all := r.held ++ chunk
  let out := all.take (all.length - keep)
  let r := { r with reg := out.foldl m.byte r.reg, held := all.drop (all.length - keep), nread := r.nread + chunk.length }
  match dst with
  | none => (none, r, s)
  | some d =>
    if out.isEmpty then (none, r, s)
    else
      let x := s.unitWrite w (d + r.written) out
      (x.1, { r with written := r.written + out.length }, x.2)

/-- Reads a segment word by word and passes it on (R573, R578, R581): the error is a status' reason and the offset it reports. -/
def hallSegment (m : HallModel) (w : Who) (dst : Option Nat) (keep off : Nat) :
    Nat → Nat → Nat → HallRun → State → Option (Nat × Nat) × HallRun × State
  | 0, _, _, r, s => (none, r, s)
  | fuel + 1, addr, len, r, s =>
    if len = 0 then (none, r, s)
    else
      let n := min len (32 - addr % 32)
      match s.unitRead w addr n with
      | (.error e, s) => (some (e, off), r, s)
      | (.ok l, s) =>
        match s.hallPass m w dst keep r l with
        | (some e, r, s) => (some (e, 32), r, s)
        | (none, r, s) => hallSegment m w dst keep off fuel (addr + n) (len - n) r s

/-- The segments of a run, in order: address, length and offset of ADDR (R572). -/
def hallSegments (l : List Byte) : List (Nat × Nat × Nat) :=
  (List.range (leAt l 3 1)).map (fun i => (leAt l (48 + 16 * i) 8, leAt l (56 + 16 * i) 4, 48 + 16 * i))

/-- Reads all segments. -/
def hallInput (m : HallModel) (w : Who) (dst : Option Nat) (keep : Nat) :
    List (Nat × Nat × Nat) → HallRun → State → Option (Nat × Nat) × HallRun × State
  | [], r, s => (none, r, s)
  | (a, n, off) :: t, r, s =>
    match hallSegment m w dst keep off (n / 32 + 2) a n r s with
    | (some e, r, s) => (some e, r, s)
    | (none, r, s) => hallInput m w dst keep t r s

/-- A check that fails is counted for its channel (R576, R577). -/
def State.hallFail (s : State) (h : Nat) : State := s.satInc F.HALL_FAILS_COUNT h

/-- The end of a run whose input is read (R574, R576). -/
def State.hallEnd (s : State) (k h mode : Nat) (p : Started) (m : HallModel) (dst : Option Nat) (r : HallRun) : State :=
  let v := m.value r.reg
  let lo := v % 2 ^ 32
  let hi := v / 2 ^ 32
  match mode with
  | 0 => s.endOpFree k St.ok lo hi 0 p.restarts
  | 1 =>
    match s.unitWrite (ringWho p.ring) (dst.getD 0 + r.written) (m.bytes v) with
    | (some e, s) => if faultStatus e = St.frozen then s.endOpFree k St.frozen 0 0 0 p.restarts else s.endOpFree k St.range 32 e 0 p.restarts
    | (none, s) => s.endOpFree k St.ok lo hi ((r.written + m.k) % 2 ^ 32) p.restarts
  | _ =>
    let got := m.read r.held
    if got = v then s.endOpFree k St.ok lo hi (got % 2 ^ 32) p.restarts
    else (s.hallFail h).endOpFree k St.checkFailed lo hi (got % 2 ^ 32) p.restarts

/-- HALL_RUN on the channel that the packet holds (R567-R582). -/
def execHallRun (k : Nat) (s : State) : Host.Outcome State Fault Refusal :=
  match s.opAt k 0x2800, s.holdsIn (.packet k) 1 with
  | some p, some u =>
    let h := u - 4
    let l := p.pkt.params
    let mode := p.p8 0
    let m := hallModel l
    let dst := if mode = 0 ∨ (mode = 2 ∧ p.p64 32 = 0) then none else some (p.p64 32)
    let keep := if mode = 2 then m.k else 0
    if mode = 2 ∧ hallTotal l < m.k then
      let v := m.value (p.p64 16)
      .next ((s.hallFail h).endOpFree k St.checkFailed (v % 2 ^ 32) (v / 2 ^ 32) 0xFFFFFFFF p.restarts)
    else match hallInput m (ringWho p.ring) dst keep (hallSegments l) ⟨p.p64 16, [], 0, 0⟩ s with
      | (e, r, s) =>
        let s := s.setFld F.HALL_BYTES_COUNT ((s.fld F.HALL_BYTES_COUNT h + r.nread) % 2 ^ 32) h
        match e with
        | some (x, off) =>
          if faultStatus x = St.frozen then .next (s.endOpFree k St.frozen 0 0 0 p.restarts)
          else .next (s.endOpFree k St.range off x 0 p.restarts)
        | none => .next (s.hallEnd k h mode p m dst r)
  | _, _ => .next s

/-- What `HALL_STAT` reads as (R584). -/
def State.hallStatWord (s : State) (h : Nat) : Nat :=
  match s.grant (4 + h) with
  | none => 0
  | some g =>
    let w := s.holderWord g.holder
    let run := match g.holder with
      | .packet k => match s.opAt k 0x2800 with
        | some p => p.p8 0 * 2 ^ 28 + (p.p8 1 - 1) * 2 ^ 19
        | none => 0
      | .task _ _ => 0
    2 ^ 31 + (if g.locked then 2 ^ 30 else 0) + run + w / 2 ^ 14 * 2 ^ 27 + w / 2 ^ 12 % 4 * 2 ^ 25 + w % 2 ^ 12

/-- HALL_QUERY (R583). -/
def execHallQuery (k : Nat) (s : State) : Host.Outcome State Fault Refusal :=
  match s.opAt k 0x2801 with
  | none => .next s
  | some p =>
    let h := p.p8 0
    .next (s.endOp k St.ok (s.hallStatWord h) (s.fld F.HALL_BYTES_COUNT h) (s.fld F.HALL_FAILS_COUNT h))

end Sys2Proof.Machine
end

