-- ==== Sys2Proof/Machine/ProofUnit.lean ====
section
/-! DEFINITION. Proof read-back, proof passes, takeover and return (07). -/

namespace Sys2Proof.Machine

/-! Windows (R315, R316, R320). -/

/-- A requested window: rectangle and ENABLE. -/
structure Window where
  x  : Nat
  y  : Nat
  w  : Nat
  h  : Nat
  on : Bool
  deriving DecidableEq, Repr

/-- Window `w` of output `n`'s window table. -/
def State.window (s : State) (n w : Nat) : Window :=
  let e := s.proofArea n + 16 * w
  ⟨s.plate e 2, s.plate (e + 2) 2, s.plate (e + 4) 2, s.plate (e + 6) 2, bit (s.plate (e + 8) 1) 0⟩

/-- The pixels of a window on its line `i`, left to right. -/
def Window.cells (x : Window) (i : Nat) : List (Int × Int) := (List.range x.w).map (fun j => ((x.x + j : Nat), (x.y + i : Nat)))

/-- The bytes a pixel contributes to a window CRC (R312); 10 bits are rounded to 8 to nearest, halves up (05 R224). -/
def Pix.crcBytes (p : Pix) (bpc10 : Bool) : List Byte :=
  let one (v : Nat) : List Byte := if bpc10 then leBytes 2 v else [BitVec.ofNat 8 (roundDiv (v * 255) 1023)]
  one p.r ++ one p.g ++ one p.b

/-- CRC-32 of R312: polynomial 0x04C1_1DB7, reflected 0xEDB8_8320. -/
def windowCrc (l : List Byte) : Nat := crc32 0xEDB88320 l

/-- The reference CRC of a window line of the checked set in a blink phase (R312, R320). -/
def State.refCrc (s : State) (lists : List Nat) (bpc10 : Bool) (x : Window) (i : Nat) (on : Bool) : Nat :=
  windowCrc ((x.cells i).flatMap (fun c => (s.composite lists (fun _ => on) c.1 c.2).crcBytes bpc10))

/-- The blink counters that a window's pixels follow (R320). -/
def State.windowCounters (s : State) (lists : List Nat) (x : Window) : Nat :=
  (List.range x.h).foldl (fun m i => (x.cells i).foldl (fun m c =>
    lists.foldl (fun m off => m ||| s.listCounters off c.1 c.2) m) m) 0

/-- Whether a window's composite is opaque in both phases (R320). -/
def State.windowOpaque (s : State) (lists : List Nat) (x : Window) : Bool :=
  (List.range x.h).all (fun i => (x.cells i).all (fun c =>
    (s.composite lists (fun _ => true) c.1 c.2).q == 1023 && (s.composite lists (fun _ => false) c.1 c.2).q == 1023))

/-- STATE of a window in a pass (R316, R320): a window outside the active area is reported as that, whatever its pixels; then
opacity, then counters. -/
def State.windowState (s : State) (lists : List Nat) (t : Timing) (x : Window) : Nat :=
  if !x.on then 0
  else if t.hact < x.x + x.w ∨ t.vact < x.y + x.h then 4
  else if !s.windowOpaque lists x then 2
  else if !([0, 1, 2, 4, 8].contains (s.windowCounters lists x)) then 3
  else 1

/-- Writes the record and, for an accepted window, the CRCs of window `w` into bank `b` of output `n` (R315, R316, R320). -/
def State.writeWindow (s : State) (n b w : Nat) (lists : List Nat) (t : Timing) (bpc10 : Bool) : State :=
  let x := s.window n w
  let st := s.windowState lists t x
  let m := if st = 1 then s.windowCounters lists x else 0
  let counter := if m = 0 then 0xFF else m.log2
  let bank := s.proofBank n b
  let out := s.putPlate (bank + 16 * w)
    (leBytes 2 x.x ++ leBytes 2 x.y ++ leBytes 2 x.w ++ leBytes 2 x.h ++ leBytes 1 counter ++ leBytes 1 st ++ leBytes 6 0)
  if st = 1 then
    (List.range x.h).foldl (fun o i => o.putPlate (bank + 0x100 + 8 * (512 * w + i))
      (leBytes 4 (s.refCrc lists bpc10 x i true) ++ leBytes 4 (s.refCrc lists bpc10 x i false))) out
  else out

/-- PROOF_PASS_START: the idle reserve pipe starts the pass at the head of the queue (R322, R324). -/
def execProofPassStart (s : State) : Host.Outcome State Fault Refusal :=
  match s.prf.queue with
  | [] => .next s
  | n :: _ =>
    if s.fld F.PROOF_RSV_STATE ≠ 0 then .next s
    else
      let s := (s.setFld F.PROOF_RSV_STATE 1).setFld F.PROOF_RSV_OUTPUT n
      .next ({ s with prf := { s.prf with passFrom := s.cyc } }.showQueue)

/-- PROOF_PASS_END: the bank is written, PASS_DONE follows, and the bank waits to become active (R320-R323). -/
def execProofPassEnd (s : State) : Host.Outcome State Fault Refusal :=
  match s.prf.queue with
  | [] => .next s
  | n :: rest =>
    if !s.passRuns n then .next s
    else
      let lists := s.checkedSet n
      let t := (s.out n).live
      let bpc10 := s.flag F.DPTX_LINK_BPC10 n
      let b := 1 - s.fld F.PROOF_STAT_BANK n
      let s := (List.range 16).foldl (fun s w => s.writeWindow n b w lists t bpc10) s
      let us := s.usSince s.prf.passFrom
      let s := { s with prf := { s.prf with queue := rest } }
      let s := ((s.setFld F.PROOF_RSV_STATE 0).setFld F.PROOF_RSV_PASS_US (min us 0xFFFF)).showQueue
      let s := s.setReady n (some (decide (s.fld F.ETCH_OUT_STAT_PEND n ≠ 0)))
      let s := s.raise (184 + n)
      .next (s.event .s 0x1004 n b (s.bankWindows n b (fun v => v == 1)) (s.bankWindows n b (fun v => decide (2 ≤ v))) us)

/-! Mismatches and takeover (R314, R318, R325-R333). -/

/-- Whether the reserve pipe carries an output or is about to (R326, R332). -/
def State.spareUsed (s : State) : Bool := decide (s.fld F.PROOF_RSV_STATE = 2)

/-- Starts a takeover of output `n` at a line (R326, R333): the pass in progress is abandoned and keeps its place (R322, R324). -/
def State.startTakeover (s : State) (n line : Nat) (forced : Bool) : State :=
  let s := (s.setFld F.PROOF_RSV_STATE 2).setFld F.PROOF_RSV_OUTPUT n
  let s := s.count 80
  { s with prf := { s.prf with takeover := some ⟨n, line, forced⟩ } }.showQueue

/-- Records a mismatch in the output's registers (R342, R343). -/
def State.noteMismatch (s : State) (n w line : Nat) : State :=
  let s := (s.setFld F.PROOF_STAT_MISMATCH 1 n).raise (176 + n)
  if s.flag F.PROOF_FAIL_VALID n then s.setFld F.PROOF_FAIL_OVERFLOW 1 n
  else ((s.setFld F.PROOF_FAIL_VALID 1 n).setFld F.PROOF_FAIL_WINDOW w n).setFld F.PROOF_FAIL_LINE line n

/-- A mismatch (R325, R326, R331, R332; 17 R636 classes 2 and 3, R648): reported on an output that is not guarded; a takeover where the
reserve pipe is free; a second fault otherwise. A line that mismatches while this output's own takeover is under way is reported
and starts nothing more. -/
def State.mismatch (s : State) (n w line : Nat) : State :=
  let s := s.noteMismatch n w line
  let ev (s : State) (k : Nat) : State := s.event .s 0x1001 n w line (s.fld F.DTG_FRAME_COUNT n) k
  if !s.flag F.PROOF_CTRL_GUARD n then (ev s 0).fault 3 n
  else if !s.spareUsed then ((ev s 1).startTakeover n line false).fault 2 n
  else if (s.prf.takeover.map (·.out)) = some n then ev s 0
  else ((ev s 2).fault 2 n).enterSafe 1 2

/-- The CRC a window line is checked against (R318). -/
def State.checkCrc (s : State) (n w line : Nat) : Nat :=
  let bank := s.proofBank n (s.fld F.PROOF_STAT_BANK n)
  let c := s.plate (bank + 16 * w + 8) 1
  let on := decide (3 < c) || bit (s.fld F.ETCH_BLINK_STAT_PHASE n) c
  s.plate (bank + 0x100 + 8 * (512 * w + (line - s.plate (bank + 16 * w + 2) 2)) + (if on then 0 else 4)) 4

/-- Whether Proof checks this line of this window now (R314, R318, R323). -/
def State.checks (s : State) (n w line : Nat) : Bool :=
  let r := s.proofBank n (s.fld F.PROOF_STAT_BANK n) + 16 * w
  s.flag F.PROOF_CTRL_ENABLE n && !s.flag F.PROOF_STAT_UNCHECKED n && bit (s.fld F.PROOF_WIN_ACTIVE n) w && (s.out n).stream
    && decide (s.plate (r + 2) 2 ≤ line) && decide (line < s.plate (r + 2) 2 + s.plate (r + 6) 2)

/-- PROOF_VERDICT: `crc` is the CRC of line `line` of window `w` at the pins of output `n` (R312, R318). A PROOF_FORCE that is armed takes
this line as mismatched, without a fault (R333). -/
def execProofVerdict (n w line crc : Nat) (s : State) : Host.Outcome State Fault Refusal :=
  if !s.checks n w line then .next s
  else
    let s := s.setRg (Reg.PROOF_CHECKED n) (s.rg (Reg.PROOF_CHECKED n) + 1)
    let forced := SMap.get (fun _ => false) s.prf.forced n
    let s := { s with prf := { s.prf with forced := SMap.set (fun _ => false) s.prf.forced n false
                                          lastCrc := SMap.set (fun _ => (0, 0)) s.prf.lastCrc n (crc, s.checkCrc n w line) } }
    if crc ≠ s.checkCrc n w line then .next (s.mismatch n w line)
    else if forced && !s.spareUsed && s.flag F.PROOF_CTRL_GUARD n then .next (s.startTakeover n line true)
    else .next s

/-- The period of one line in units of which `Timing.lineNs` lines make nanoseconds, rounded to nearest. -/
def Timing.lineNs (t : Timing) (lines : Nat) : Nat := roundDiv (lines * t.htotal * t.den * 1000000000) (4792320000 * t.num)

/-- TAKEOVER_SWITCH: at the start of line `line` the stream switches to the reserve pipe, pipe n is held out, and the fetched layers show
their fill colours to the end of the frame (R326-R330, R341). -/
def execTakeoverSwitch (n line : Nat) (s : State) : Host.Outcome State Fault Refusal :=
  match s.prf.takeover with
  | none => .next s
  | some k =>
    if k.out ≠ n then .next s
    else
      let t := (s.out n).live
      let lines := (line + t.vtotal - k.line % t.vtotal) % t.vtotal
      let s := { s with prf := { s.prf with takeover := none, carried := s.cyc, filling := SMap.set (fun _ => false) s.prf.filling n true } }
      let s := ((s.setFld F.PROOF_STAT_STATE 2 n).satInc F.PROOF_STAT_TAKEOVERS n).raise (176 + n)
      .next (s.eventSM 0x1002 n line (t.lineNs lines) (if k.forced then 1 else 0) (s.fld F.DTG_FRAME_COUNT n))

/-- RETURN_CHECK_END: every line matched (`bad` none), and the output switches back to its pipe; or line `bad` differed, and pipe n stays
held out (R334, R341): a mismatch that counts as a second fault (R331, 17 R648). The manual gives the failed check no window, so that word
is a free value. -/
def execReturnCheckEnd (n : Nat) (bad : Option Nat) (s : State) : Host.Outcome State Fault Refusal :=
  if s.fld F.PROOF_STAT_STATE n ≠ 3 then .next s
  else match bad with
    | none =>
      let s := ((s.raise (176 + n)).setFld F.PROOF_STAT_STATE 1 n).setFld F.PROOF_RSV_STATE 0
      .next (s.showQueue.eventSM 0x1003 n (s.fld F.DTG_FRAME_COUNT n) (min (s.usSince s.prf.carried / 1000) 0xFFFFFFFF) 0 0)
    | some line =>
      let w := s.freeBelow 16
      let s := (s.fresh.noteMismatch n w line).setFld F.PROOF_STAT_STATE 2 n
      .next (((s.event .s 0x1001 n w line (s.fld F.DTG_FRAME_COUNT n) 3).fault 2 n).enterSafe 1 2)

/-! The sink's CRC (R335). -/

/-- SINK_CRC_READ: `crc` none is a sink without the test CRC; otherwise its CRC count, its CRCs, and the CRCs of the same frame computed
from the pins (R335, R341). -/
def execSinkCrcRead (n : Nat) (crc : Option (Nat × List Nat × List Nat)) (s : State) : Host.Outcome State Fault Refusal :=
  if !s.flag F.PROOF_CTRL_SINK_EN n ∨ !(s.out n).stream then .next s
  else match crc with
    | none => .next (s.setFld F.PROOF_SINK_VALID 0 n)
    | some (count, sink, pins) =>
      let frame := s.fld F.DTG_FRAME_COUNT n
      let s := (s.setFld F.PROOF_SINK_VALID 1 n).setFld F.PROOF_SINK_LAST_FRAME (frame % 0x10000) n
      if sink = pins then .next s
      else .next ((((s.satInc F.PROOF_SINK_FAILS n).setFld F.PROOF_STAT_SINK_MISMATCH 1 n).raise (184 + n)).event .s 0x1005 n frame count)

/-! Class 0x04 (R336-R340). -/

/-- Marks both banks of an output disabled and clears its window table (R337). -/
def State.clearProofArea (s : State) (n : Nat) : State :=
  let s := s.putPlate (s.proofArea n) (List.replicate 256 0)
  let s := s.putPlate (s.proofBank n 0) (List.replicate 256 0)
  s.putPlate (s.proofBank n 1) (List.replicate 256 0)

/-- Whether two proof areas of 35 pages overlap. -/
def areasMeet (a b : Nat) : Bool := decide (a < b + 35) && decide (b < a + 35)

/-- GUARD_SET (R337). -/
def execGuardSet (k : Nat) (s : State) : Host.Outcome State Fault Refusal :=
  match s.opAt k 0x1000 with
  | none => .next s
  | some p =>
    let n := p.p8 0
    let enable := bit (p.p8 1) 0
    let guard := bit (p.p8 1) 1
    let area := p.p32 4 / 4096
    let on := s.flag F.PROOF_CTRL_ENABLE n
    let carried := decide (2 ≤ s.fld F.PROOF_STAT_STATE n) || (s.prf.takeover.map (·.out)) == some n
    let meets := (List.range 8).any (fun m => m != n && s.flag F.PROOF_CTRL_ENABLE m && areasMeet area (s.fld F.PROOF_CTRL_AREA m))
      || (List.range 35).any (fun i => decide (s.lockCount (area + i) ≠ 0))
    if enable && on && area != s.fld F.PROOF_CTRL_AREA n then .next (s.endOp k St.busy)
    else if enable && meets then .next (s.endOp k St.range 4)
    else if carried && (!enable || (!guard && s.flag F.PROOF_CTRL_GUARD n)) then .next (s.endOp k St.busy)
    else
      let s := (s.setFlag F.PROOF_CTRL_ENABLE enable n).setFlag F.PROOF_CTRL_GUARD guard n
      let s := s.setFlag F.PROOF_CTRL_SINK_EN (bit (p.p8 1) 2) n
      let s := (s.setFld F.PROOF_CTRL_SINK_PERIOD (p.p8 2) n).setFld F.PROOF_CTRL_AREA area n
      let s := if bit (p.p8 1) 2 then s else s.setFld F.PROOF_SINK_VALID 0 n
      if enable && !on then
        let s := (s.clearProofArea n).setFld F.PROOF_STAT_STATE 1 n
        let s := (s.setFld F.PROOF_STAT_BANK 0 n).setFld F.PROOF_STAT_UNCHECKED 0 n
        let s := (s.setRg (Reg.PROOF_CHECKED n) 0).setFld F.PROOF_SINK_FAILS 0 n
        .next ((s.queuePass n).endOp k St.ok)
      else if !enable && on then
        let s := (s.setFld F.PROOF_STAT_STATE 0 n).setFld F.PROOF_STAT_UNCHECKED 0 n
        let s := s.setRg (Reg.PROOF_WIN n) 0
        let s := { s with prf := { s.prf with forced := SMap.set (fun _ => false) s.prf.forced n false } }
        .next ((s.unqueuePass n).endOp k St.ok)
      else .next (s.endOp k St.ok)

/-- WINDOW_SET (R338). -/
def execWindowSet (k : Nat) (s : State) : Host.Outcome State Fault Refusal :=
  match s.opAt k 0x1001 with
  | none => .next s
  | some p =>
    let n := p.p8 0
    if !s.flag F.PROOF_CTRL_ENABLE n then .next (s.endOp k St.busy)
    else
      let t := (List.range (p.p8 2)).foldl (fun s i =>
        s.putPlate (s.proofArea n + 16 * (p.p8 1 + i)) ((p.pkt.params.drop (8 + 16 * i)).take 16)) s
      let total := (List.range 16).foldl (fun a w => let x := t.window n w; if x.on then a + x.w * x.h else a) 0
      if 4194304 < total then .next (s.endOp k St.range 8)
      else .next ((t.queuePass n).endOp k St.ok)

/-- PROOF_RETURN arms the return check (R334, R339). -/
def execProofReturn (k : Nat) (s : State) : Host.Outcome State Fault Refusal :=
  match s.opAt k 0x1002 with
  | none => .next s
  | some p =>
    let n := p.p8 0
    if s.fld F.PROOF_STAT_STATE n ≠ 2 then .next (s.endOp k St.range 0)
    else .next ((s.setFld F.PROOF_STAT_STATE 3 n).endOp k St.deferred)

/-- PROOF_FORCE arms a takeover at the output's next window line (R333, R339). -/
def execProofForce (k : Nat) (s : State) : Host.Outcome State Fault Refusal :=
  match s.opAt k 0x1003 with
  | none => .next s
  | some p =>
    let n := p.p8 0
    if !s.flag F.PROOF_CTRL_GUARD n ∨ s.spareUsed then .next (s.endOp k St.busy)
    else .next ({ s with prf := { s.prf with forced := SMap.set (fun _ => false) s.prf.forced n true } }.endOp k St.deferred)

/-- PROOF_QUERY (R340). -/
def execProofQuery (k : Nat) (s : State) : Host.Outcome State Fault Refusal :=
  match s.opAt k 0x1004 with
  | none => .next s
  | some p =>
    let n := p.p8 0
    let r (a : Nat) : Nat := (s.rg a).toNat
    if p.ring = .s then .next (s.endOp k St.ok (r (Reg.PROOF_STAT n)) (r (Reg.PROOF_WIN n)) (r (Reg.PROOF_FAIL n)) (r (Reg.PROOF_SINK n)))
    else .next (s.endOp k St.ok (s.fld F.PROOF_STAT_STATE n * 2 ^ 30 + s.fld F.PROOF_STAT_TAKEOVERS n))

end Sys2Proof.Machine
end

