-- ==== Sys2Proof/Machine/Faults.lean ====
section
/-! DEFINITION. The commands and events of class 0x0D (17): detected faults, the watchdog, FAULT records, and Rubbing snapshots. -/

namespace Sys2Proof.Machine

/-! Detected faults (R636-R642, R659). -/

/-- TIMING_STALL: an enabled timing generator's line count has not advanced for 4 line periods (R636 class 7, R640). -/
def execTimingStall (n : Nat) (s : State) : Host.Outcome State Fault Refusal :=
  if !s.flag F.DTG_CTRL_ENABLE n || bit s.flt.stalled n then .next s
  else .next (({ s with flt := { s.flt with stalled := s.flt.stalled + 2 ^ n } }).fault 7 n)

/-- CLOCK_FAULT: class 14, and the part of the safe state that the always-on domain carries out (R636, R652, R655). -/
def execClockFault (s : State) : Host.Outcome State Fault Refusal := .next ((s.fault 14 noInst).enterSafe 4 14)

/-- SRAM_UNCORRECTABLE: class 13. `arr` is 0 for Plate SRAM, 1 for Safety SRAM, 2 for the commit buffer, which put the WX8 in the safe
state, and 3 for another on-chip SRAM, whose reader gets a poisoned response; `layer` is the layer index whose Burin read the word
(R638). -/
def execSramUncorrectable (arr : Nat) (layer : Option Nat) (s : State) : Host.Outcome State Fault Refusal :=
  let s := s.fault 13 noInst
  if 3 ≤ arr then .next (s.answer .poisoned)
  else
    let s := match layer with
      | some j => if bit s.etch.dark j then s else { s with etch := { s.etch with dark := s.etch.dark + 2 ^ j } }
      | none => s
    .next (s.enterSafe 3 13)

/-- SRAM_CE: class 12; the word is corrected in line (R636, R637). -/
def execSramCe (s : State) : Host.Outcome State Fault Refusal := .next (s.fault 12 noInst)

/-- The watchdog's period in ms (R670). -/
def State.dogMs (s : State) : Nat := max 1 (min 10000 (s.fld F.DEV_SWDOG_PERIOD_MS))

/-- SWDOG_KICK: a write of `DEV_SWDOG` by the S-world; ENABLE stays once set, and KICK or the setting of ENABLE starts a period
(R659, R670). -/
def execSwdogKick (who : Who) (v : Word) (s : State) : Host.Outcome State Fault Refusal :=
  if who = .s then
    let was := s.flag F.DEV_SWDOG_ENABLE
    let s := s.setFld F.DEV_SWDOG_PERIOD_MS (bitsOf v 15 0)
    let s := if v.getLsbD 31 then s.setFld F.DEV_SWDOG_ENABLE 1 else s
    .next (if v.getLsbD 30 || (v.getLsbD 31 && !was) then { s with flt := { s.flt with kicked := s.cyc } } else s)
  else .next s

/-- WATCHDOG_EXPIRY: no KICK for PERIOD_MS while ENABLE is 1: class 15 and the safe state (R636, R654, R659). -/
def execWatchdogExpiry (s : State) : Host.Outcome State Fault Refusal :=
  if s.flag F.DEV_SWDOG_ENABLE && s.passed s.flt.kicked (s.dogMs * 1000000) then
    .next ((({ s with flt := { s.flt with kicked := s.cyc } }).fault 15 noInst).enterSafe 5 15)
  else .next s

/-- The body of a FAULT record (R642). -/
def FaultRec.body (r : FaultRec) : List Byte :=
  leBytes 4 r.cls ++ leBytes 4 r.inst ++ leBytes 8 r.time ++ leBytes 4 r.rtc ++ leBytes 2 r.seq ++ leBytes 2 r.count

/-- Whether a FAULT record of this class and instance may be committed now: at most one per second (R642). -/
def State.recordDue (s : State) (r : FaultRec) : Bool :=
  match SMap.get (fun _ => none) s.flt.lastRec (65536 * r.cls + r.inst) with
  | none => true
  | some c => s.passed c 1000000000

/-- FAULT_RECORD: the first record that is due goes to the Folio (R642). -/
def execFaultRecord (s : State) : Host.Outcome State Fault Refusal :=
  match if s.folioOpen then s.flt.records.find? (fun r => s.recordDue r) else none with
  | none => .next s
  | some r =>
    let s := { s with flt := { s.flt with records := s.flt.records.erase r
                                          lastRec := SMap.set (fun _ => none) s.flt.lastRec (65536 * r.cls + r.inst) (some s.cyc) } }
    .next (s.folioWrite ⟨0x11, r.body, true, .none⟩)

/-! Class 0x0D: faults and the safe state (R667). -/

/-- FAULT_QUERY. -/
def execFaultQuery (k : Nat) (s : State) : Host.Outcome State Fault Refusal :=
  match s.opAt k 0x3400 with
  | none => .next s
  | some _ =>
    .next (s.endOp k St.ok (s.rg Reg.DEV_FAULT_STAT).toNat (s.rg Reg.DEV_FAULT_FIRST).toNat (s.rg Reg.DEV_FAULT_TIME_LO).toNat
      (s.rg Reg.DEV_FAULT_TIME_HI).toNat)

/-- FAULT_CLEAR: `FAULT_N` is released, CLASSES and the first fault are cleared; `BUSY` in the safe state (R652, R667, R670). -/
def execFaultClear (k : Nat) (s : State) : Host.Outcome State Fault Refusal :=
  match s.opAt k 0x3401 with
  | none => .next s
  | some _ =>
    if s.safe then .next (s.endOp k St.busy)
    else
      let s := { s with flt := { s.flt with faultN := false } }
      let s := (s.setFld F.DEV_FAULT_STAT_FAULT 0).setFld F.DEV_FAULT_STAT_CLASSES 0
      let s := ((s.setRg Reg.DEV_FAULT_FIRST 0).setRg Reg.DEV_FAULT_TIME_LO 0).setRg Reg.DEV_FAULT_TIME_HI 0
      .next (s.endOp k St.ok)

/-- SAFE_ENTER: `OK` once the outputs and the N-world are stopped (R654 cause 6, R655, R667). -/
def execSafeEnter (k : Nat) (s : State) : Host.Outcome State Fault Refusal :=
  match s.opAt k 0x3402 with
  | none => .next s
  | some _ => .next ((s.enterSafe 6 0).endOp k St.ok)

/-! The records of a snapshot (R664, R665). -/

/-- OWNER of a party's record (R664). -/
def ownerOf (r : RingId) : Nat :=
  match r with
  | .client c => c
  | .med => 0x2000
  | .s => 0x4000

/-- OWNER of a requester's record; firmware acting for itself counts with the mediator, secure firmware with the S-world (R664). -/
def State.ownerOfHolder (s : State) (q : Requester) : Nat :=
  match q with
  | .task 0 _ => 0x4000
  | .task _ _ => 0x2000
  | .packet k =>
    match s.place k with
    | some p => ownerOf p.ring
    | none => 0x8000

/-- OWNER of a client's resource: its holder (R664). -/
def ownerOfClient (c : Option Nat) : Nat := c.getD 0x8000

/-- A register's value as a number. -/
def State.rgN (s : State) (a : Nat) : Nat := (s.rg a).toNat

/-- `MC_FRZ_STAT` with the microseconds since the freeze (13 R566). -/
def State.frzStat (s : State) (c : Nat) : Nat :=
  match s.frz c with
  | some f => (putBits (s.rg (Reg.MC_FRZ_STAT c)) 15 0 (min 0xFFFF (s.usSince f.since))).toNat
  | none => s.rgN (Reg.MC_FRZ_STAT c)

/-- What `GRV_ENG_STAT` reads as (08 R373): the operation that holds the engine. -/
def State.engWord (s : State) (u : Nat) : Nat :=
  match s.grant u with
  | none => 0
  | some g =>
    match g.holder with
    | .task _ _ => 2 ^ 31
    | .packet k =>
      match s.place k with
      | none => 2 ^ 31
      | some p =>
        let origin := match p.ring with | .client _ => 0 | .med => 1 | .s => 4
        2 ^ 31 + (if g.locked then 2 ^ 30 else 0) + (if inPlace p.pkt.opcode p.pkt.params then 2 ^ 29 else 0) + origin * 2 ^ 26
          + p.pkt.opcode % 16 * 2 ^ 22 + ringClient p.ring

/-- The device, ring slots and arbiter pools (class 0x00). -/
def State.snapDevice (s : State) (sources : Nat) : List SnapRec :=
  [⟨0, noInst, 0x8000, [s.devTime % 2 ^ 32, s.devTime / 2 ^ 32 % 2 ^ 32, s.rgN Reg.DEV_SPAIR_STAT, s.rgN Reg.DEV_FAULT_STAT, s.rgN Reg.AON_RTC, sources]⟩]
    ++ (s.cp.resident.zip (List.range s.cp.resident.length)).map (fun e =>
      let x := s.ring (.client e.1)
      ⟨0, e.2, e.1, [x.sqHead, x.sqTail, x.cqTail, s.inExec (.client e.1), (s.client e.1).gen, 0]⟩)
    ++ (List.range 4).map (fun k => ⟨0, k, 0x8000, [s.arbPoolWord k, s.rgN (Reg.ARB_TAKE k), 0, 0, 0, 0]⟩)

/-- Outputs and assigned layer slots (class 0x02); the bytes a slot has buffered are a free value. -/
def State.snapDisplay (s : State) : List SnapRec :=
  (List.range 8).map (fun n => ⟨2, n, 0x8000, [s.rgN (Reg.DTG_STAT n), s.rgN (Reg.DTG_FRAME n), s.rgN (Reg.DPTX_STAT n), 0, 0, 0]⟩)
    ++ ((List.range 64).filter (fun l => s.slotUsed l)).map (fun l =>
      ⟨2, l, s.slotOwner l, [s.rgN (Reg.DPIPE_LSTAT l), Config.freeValue (s.free + l) % 2 ^ 32, 2, 0, 0, 0]⟩)

/-- Etched layers and Proof (classes 0x03 and 0x04). -/
def State.snapEtched (s : State) : List SnapRec :=
  (List.range 8).map (fun n => ⟨3, n, 0x4000, [s.rgN (Reg.ETCH_OUT_STAT n), s.rgN (Reg.ETCH_BLINK_STAT n), s.rgN (Reg.ETCH_PEAK n), 0, 0, 0]⟩)
    ++ ((List.range 8).filter (fun n => s.flag F.PROOF_CTRL_ENABLE n)).map (fun n =>
      let c := SMap.get (fun _ => (0, 0)) s.prf.lastCrc n
      ⟨4, n, 0x4000, [s.rgN (Reg.PROOF_STAT n), s.rgN (Reg.PROOF_FAIL n), c.1, c.2, s.rgN Reg.PROOF_RSV, 0]⟩)

/-- Graver engines and Hallmark channels (classes 0x05 and 0x0A). -/
def State.snapEngine (s : State) (u : Nat) : SnapRec :=
  match s.grant u with
  | none => ⟨5, u, 0x8000, [0, 0, 0, 0, 0, 0]⟩
  | some g =>
    let run := match g.holder with
      | .packet k => match s.place k with
        | some p => (p.progress / 2 ^ 17, p.pkt.tag)
        | none => (0, 0)
      | .task _ _ => (0, 0)
    ⟨5, u, s.ownerOfHolder g.holder, [s.engWord u, run.1, run.2, 0, 0, 0]⟩

/-- A Hallmark channel; a run that has not ended has read nothing yet. -/
def State.snapHallmark (s : State) (h : Nat) : SnapRec :=
  match s.grant (4 + h) with
  | none => ⟨10, h, 0x8000, [0, 0, 0, 0, 0, 0]⟩
  | some g => ⟨10, h, s.ownerOfHolder g.holder, [s.hallStatWord h, 0, 0, 0, 0, 0]⟩

/-- An enabled panel (class 0x06). -/
def State.snapPanel (s : State) (p : Nat) : SnapRec :=
  let x := s.panel p
  let live := x.contacts.foldl (fun m c => if c.up then m else m ||| 2 ^ c.id) 0
  let seq := match x.ringC.orElse (fun _ => x.ringS) with
    | some r => r.seq
    | none => 0
  ⟨6, p, ownerOfClient (s.holder 2 p), [s.rgN (Reg.TCH_STAT p), (x.scan.map (·.done)).getD 0, live, seq, 0, 0]⟩

/-- An actuator (class 0x07). -/
def State.snapActuator (s : State) (a : Nat) : SnapRec :=
  let x := s.act a
  let words (ms : Nat) := [s.rgN (Reg.HAP_STAT a), s.rgN (Reg.HAP_MEAS a), ms, 0, 0, 0]
  match x.run with
  | none => ⟨7, a, 0x8000, words 0⟩
  | some e =>
    let own := match s.holder 3 a with
      | some c => c
      | none => match e.origin with
        | .pin _ => 0x8000
        | .zone z => ((s.zone z).map (fun z => ownerOf z.owner)).getD 0x8000
        | .play r _ => ownerOf r
        | .learn r => ownerOf r
        | .stop r => (r.map ownerOf).getD 0x2000
    ⟨7, a, own, words (s.usSince e.began / 1000)⟩

/-- The router and its started streams (class 0x08). -/
def State.snapAudio (s : State) : List SnapRec :=
  [⟨8, noInst, 0x8000, [s.rgN Reg.AUD_CTRL, s.rgN Reg.AUD_ALARM_STAT, cyclesNs s.cyc * 48 / 1000000 % 2 ^ 32, 0, 0, 0]⟩]
    ++ s.aud.streams.filterMap (fun e => e.2.bind (fun x =>
      if x.started then some ⟨8, e.1 % 128, ownerOf x.owner, [x.index, x.flags, if 128 ≤ e.1 then 0x100 else 0, 0, 0, 0]⟩ else none))

/-- The place of a class among the queued requests: from BE upward (R665). -/
def clsPlace (c : Cls) : Nat :=
  match c with
  | .be => 0
  | .rt => 1
  | .iso => 2
  | .isoUrgent => 3
  | .safe => 4
  | .isoCritical => 5

/-- A memory channel (class 0x09). -/
def State.snapChannel (s : State) (c : Nat) : SnapRec :=
  let q := s.mcQueue c
  let n := (List.range 6).foldl (fun a i => a + min 15 (q.filter (fun x => clsPlace x.cls == i)).length * 16 ^ i) 0
  ⟨9, c, 0x8000, [(s.chStat c).toNat, s.frzStat c, n, 0, 0, 0]⟩

/-- Dzivlink (class 0x0E): device time follows network time. -/
def State.snapDziv (s : State) : SnapRec :=
  ⟨14, noInst, 0x8000, [s.devTime % 2 ^ 32, s.devTime / 2 ^ 32 % 2 ^ 32, s.rgN Reg.TTH_GROUP_STAT, 0, 0, 0]⟩

/-- All records of a snapshot, at most 1,024 (R664, R665). -/
def State.snapAll (s : State) (sources : Nat) : List SnapRec :=
  (s.snapDevice sources ++ s.snapDisplay ++ s.snapEtched ++ (List.range 4).map (fun u => s.snapEngine u)
    ++ ((List.range 8).filter (fun p => s.flag F.TCH_CFG_ENABLE p)).map (fun p => s.snapPanel p)
    ++ (List.range 8).map (fun a => s.snapActuator a) ++ s.snapAudio ++ (List.range 16).map (fun c => s.snapChannel c)
    ++ (List.range 8).map (fun h => s.snapHallmark h) ++ [s.snapDziv]).take 1024

/-- The view of a reader (R666). -/
def State.snapView (s : State) (r : RingId) (l : List SnapRec) : List SnapRec :=
  match r with
  | .s => l
  | .med => l.filter (fun x => x.cls != 3 && x.cls != 4 && !bit x.owner 14 && !(decide (x.owner < 4096) && s.isSGuest x.owner))
  | .client c => l.filterMap (fun x =>
      if x.cls = 0 ∧ x.inst = noInst then some { x with words := x.words.take 2 ++ [0, 0, 0, 0] } else if x.owner = c then some x else none)

/-- The 32 bytes of a record (R664). -/
def SnapRec.bytes (x : SnapRec) (seq : Nat) : List Byte :=
  leBytes 2 x.cls ++ leBytes 2 x.inst ++ leBytes 2 x.owner ++ leBytes 2 seq ++ x.words.flatMap (fun w => leBytes 4 w)

/-! Latching and releasing (R660-R663, R668). -/

/-- The clients that own a record. -/
def snapOwners (l : List SnapRec) : List Nat := (l.filterMap (fun x => if x.owner < 4096 then some x.owner else none)).eraseDups

/-- Every unit latches its snapshot, which is held (R660-R662, R668, R669). -/
def State.latch (s : State) (sources : Nat) (late : Bool) : State :=
  let l := s.snapAll sources
  let seq := (s.fld F.RUB_STAT_SEQ + 1) % 0x10000
  let s := ((s.setFld F.RUB_STAT_SEQ seq).setFld F.RUB_STAT_HELD 1).setFlag F.RUB_STAT_LATE late
  let s := s.setFld F.RUB_STAT_SOURCES sources
  let s := (s.setRg Reg.RUB_TIME_LO (BitVec.ofNat 32 s.devTime)).setRg Reg.RUB_TIME_HI (BitVec.ofNat 32 (s.devTime / 2 ^ 32))
  let s := { s with free := s.free + 64, flt := { s.flt with snapshot := some l, latchedAt := s.cyc
                                                             rubOut := if s.flag F.RUB_CFG_OUT_EN then some s.cyc else s.flt.rubOut } }
  let s := s.raise 384
  let s := s.event .s 0x3403 noInst seq sources (s.snapView .s l).length
  let s := s.event .med 0x3403 noInst seq sources (s.snapView .med l).length
  (snapOwners l).foldl (fun (s : State) c => s.event (.client c) 0x3403 noInst seq 0 (s.snapView (.client c) l).length) s

/-- RUBBING_LATCH: the trigger accepted 64 cycles ago latches; while a snapshot is held it never does and is counted (R660, R661). -/
def execRubbingLatch (s : State) : Host.Outcome State Fault Refusal :=
  match s.flt.triggers with
  | [] => .next s
  | (c, src, late) :: rest =>
    if s.cyc < c + 64 then .next s
    else
      let s := { s with flt := { s.flt with triggers := rest } }
      if s.flt.snapshot.isSome then .next (if src = 0 then s else s.rubMissed src) else .next (s.latch src late)

/-- The snapshot is released (R661). -/
def State.rubFree (s : State) : State := ({ s with flt := { s.flt with snapshot := none } }).setFld F.RUB_STAT_HELD 0

/-- RUB_AUTO_RELEASE: AUTO_MS ms after the latch, when AUTO_MS is not 0 (R661). -/
def execRubAutoRelease (s : State) : Host.Outcome State Fault Refusal :=
  let ms := s.fld F.RUB_CFG_AUTO_MS
  if s.flt.snapshot.isSome && ms != 0 && s.passed s.flt.latchedAt (ms * 1000000) then .next s.rubFree else .next s

/-- RUB_IN_EDGE: the edge that IN_EDGE selects, accepted 2 cycles later while IN_EN is set (R660). -/
def execRubInEdge (s : State) : Host.Outcome State Fault Refusal :=
  if s.flag F.RUB_CFG_IN_EN then .next (s.rubTrigger 0b000010 false (s.cyc + 2)) else .next s

/-- RUB_FIRE (R660, R663, R667; 18 R688): with GROUP a trigger names a device time, at which this WX8 latches too when GROUP_EN is set. -/
def execRubFire (k : Nat) (s : State) : Host.Outcome State Fault Refusal :=
  match s.opAt k 0x3403 with
  | none => .next s
  | some p =>
    let group := bit (p.p8 0) 0
    if group ∧ p.ring ≠ .s then .next (s.endOp k St.noPermission)
    else if s.flt.snapshot.isSome then .next (s.endOp k St.busy)
    else if group then
      let time := if p.p64 8 = 0 then s.devTime + 5000000 else p.p64 8
      .next (((s.sendGroup 4 (leBytes 8 time)).takeTrigger time).endOp k St.ok)
    else .next ((s.rubTrigger 0b000001).endOp k St.ok)

/-- Writes records into a reader's buffer: the reason and the number written before a fault. -/
def State.putRecords (w : Who) (seq : Nat) : List SnapRec → Nat → Nat → State → Option Nat × Nat × State
  | [], _, n, s => (none, n, s)
  | x :: t, a, n, s =>
    match s.unitWrite w a (x.bytes seq) with
    | (some e, s) => (some e, n, s)
    | (none, s) => State.putRecords w seq t (a + 32) (n + 1) s

/-- RUB_READ (R666, R667, R771). -/
def execRubRead (k : Nat) (s : State) : Host.Outcome State Fault Refusal :=
  match s.opAt k 0x3404 with
  | none => .next s
  | some p =>
    let cls := p.p16 0
    if 0x3F < cls ∧ cls ≠ 0xFFFF then .next (s.endOp k St.range 0)
    else match s.flt.snapshot with
      | none => .next (s.endOp k St.busy)
      | some l =>
        let view := (s.snapView p.ring l).filter (fun x => cls == 0xFFFF || x.cls == cls)
        let seq := s.fld F.RUB_STAT_SEQ
        match State.putRecords (ringWho p.ring) seq (view.take (p.p32 4 / 32)) (p.p64 8) 0 s with
        | (none, n, s) => .next (s.endOp k St.ok n view.length seq)
        | (some e, n, s) => if faultStatus e = St.frozen then .next (s.endOp k St.frozen 0 0 seq n) else .next (s.endOp k St.range 8 e seq n)

/-- RUB_RELEASE: the snapshot is released, and `RUB_MISS` cleared (R661, R667). -/
def execRubRelease (k : Nat) (s : State) : Host.Outcome State Fault Refusal :=
  match s.opAt k 0x3405 with
  | none => .next s
  | some _ => .next ((s.rubFree.setRg Reg.RUB_MISS 0).endOp k St.ok)

end Sys2Proof.Machine
end

