-- ==== Sys2Proof/Machine/Frames.lean ====
section
/-! DEFINITION. The frame boundary and the vertical start of an output (05 R212, R253-R258, R772; 06 R283, R292; 07 R323; 18 R679). -/

namespace Sys2Proof.Machine

/-- Whether an output's timing generator counts: enabled, and not in retention (19 R706). -/
def State.outputRuns (s : State) (n : Nat) : Bool := s.flag F.DTG_CTRL_ENABLE n && !s.pwr.retained

/-- FRAME_BOUNDARY: line VACTIVE starts (05 R212). The frame that ends is closed and counted; slots and removals that waited go; an armed
etched swap, the armed sets whose apply line this is, the settings that waited and the reference bank take effect; and the next frame is
stretched or not. -/
def execFrameBoundary (n : Nat) (s : State) : Host.Outcome State Fault Refusal :=
  if !s.outputRuns n then .next s
  else
    let s := ((s.unstall n).endFrameSlots n).countIdle n
    let s := s.setFld F.DTG_FRAME_COUNT ((s.fld F.DTG_FRAME_COUNT n + 1) % 2 ^ 32) n
    let s := (s.setFld F.DTG_STAT_LINE (s.out n).live.vact n).setFld F.DTG_STAT_VBLANK 1 n
    let s := ((s.raise (96 + n)).releaseSlots n).removeAtBoundary n
    let s := s.swapIfArmed n
    let s := if s.appliesAtBoundary n then s.applyAll n true else s
    .next (((s.boundarySettings n).proofBoundary n).chooseStretch n)

/-- VERTICAL_START: the first VSYNC line starts; blink phases are latched and the frame lock measured (06 R283; 18 R679). -/
def execVerticalStart (n : Nat) (s : State) : Host.Outcome State Fault Refusal :=
  if !s.outputRuns n then .next s
  else
    let t := (s.out n).live
    let s := (s.unstall n).setFld F.DTG_STAT_LINE (t.vact + t.vfp) n
    .next ((s.latchBlink n).trackLock n)

/-- DTG_ENABLE: a write of `DTG_CTRL` with ENABLE 1 makes the shadow timing and background live and starts the timing generator, unless
they break R207 or R208; armed layer sets apply in the same cycle (R772). With ENABLE 0 the stream stops at once (R209), and what waits to
leave the output leaves at once (R236; 04 R165). -/
def execDtgEnable (who : Who) (n : Nat) (v : Word) (s : State) : Host.Outcome State Fault Refusal :=
  if s.gatedAt (Reg.DTG_CTRL n) then .next (s.refuseGated who (Reg.DTG_CTRL n))
  else if !s.mayRwm who then .next s
  else
    let s := (s.setFld F.DTG_CTRL_VSYNC_POL (bitsOf v 1 1) n).setFld F.DTG_CTRL_HSYNC_POL (bitsOf v 0 0) n
    let on := s.flag F.DTG_CTRL_ENABLE n
    if !v.getLsbD 31 then
      if on then
        let s := (s.setFld F.DTG_CTRL_ENABLE 0 n).setOut n { s.out n with stream := false, resuming := false, black := none }
        .next ((s.releaseSlots n).removeAtBoundary n)
      else .next s
    else if on then .next s
    else
      let t := s.shadowTiming n
      if t.fault.isSome then .next s
      else
        let s := s.setOut n { s.out n with live := t, liveBg := s.shadowBg n }
        let s := s.rechargeOutput n t
        let s := s.setFld F.DTG_APPLY_ARM 0 n
        let l := s.armedSlots n false
        let s := l.foldl (fun s i => s.applySlot i) s
        let s := if l.isEmpty then s else s.raise (104 + n)
        let s := s.startOutput n
        .next (s.setOut n { s.out n with stream := s.flag F.DPTX_STAT_TRAINED n })

end Sys2Proof.Machine
end

