-- ==== Sys2Proof/Machine/Lsio.lean ====
section
/-! DEFINITION. The commands of the low-speed I/O ports: I2C, UART, CAN FD and GPIO (20 R749-R756). Ports 0-7 are I2C, 8-11 UART, 12-13
CAN FD. -/

namespace Sys2Proof.Machine

/-! FIFOs, levels and sources (R752-R754). -/

/-- A port's transmit FIFO, oldest first. -/
def State.txFifo (s : State) (p : Nat) : List Nat := SMap.get (fun _ => []) s.lsio.tx p

/-- A port's receive FIFO, oldest first. -/
def State.rxFifo (s : State) (p : Nat) : List Nat := SMap.get (fun _ => []) s.lsio.rx p

def State.setTx (s : State) (p : Nat) (l : List Nat) : State := { s with lsio := { s.lsio with tx := SMap.set (fun _ => []) s.lsio.tx p l } }
def State.setRxFifo (s : State) (p : Nat) (l : List Nat) : State := { s with lsio := { s.lsio with rx := SMap.set (fun _ => []) s.lsio.rx p l } }

/-- Sets or clears the discarding of entries up to the next START (R754). -/
def State.setSkip (s : State) (p : Nat) (on : Bool) : State :=
  { s with lsio := { s.lsio with skip := s.lsio.skip - (if bit s.lsio.skip p then 2 ^ p else 0) + (if on then 2 ^ p else 0) } }

/-- Data bytes of a CAN FD frame by its DLC and FDF bits (ISO 11898-1). -/
def canBytes (fdf : Bool) (dlc : Nat) : Nat :=
  if dlc ≤ 8 then dlc else if !fdf then 8 else ([12, 16, 20, 24, 32, 48, 64][dlc - 9]?).getD 64

/-- Transmit entries of the CAN FD frame at the head of a FIFO: two, and four data bytes an entry; none for a remote frame (R754). -/
def canEntries (l : List Nat) : Nat :=
  let e0 := (l[0]?).getD 0
  let e1 := (l[1]?).getD 0
  if !bit e0 31 && bit e1 4 then 2 else 2 + (canBytes (bit e0 31) (e1 % 16) + 3) / 4

/-- Whether a whole CAN FD frame stands at the head (R754). -/
def canWhole (l : List Nat) : Bool := decide (2 ≤ l.length) && decide (canEntries l ≤ l.length)

/-- Whether a transfer or frame is in progress: the port runs and has something it can send. -/
def State.portBusy (s : State) (p : Nat) : Bool :=
  let l := s.txFifo p
  s.flag F.LSIO_CTRL_ENABLE p && (if p < 12 then !l.isEmpty else canWhole l)

/-- The event and level bits of a port that are enabled (R752). -/
def State.portMask (s : State) (p : Nat) : Nat := (s.rg (Reg.LSIO_INT_STAT p) &&& s.rg (Reg.LSIO_INT_EN p)).toNat

/-- The source of a port follows its enabled bits: a bit that appears raises it, and with none it is not pending (R752). -/
def State.portSource (s : State) (p old : Nat) : State :=
  let now := s.portMask p
  if now = 0 then s.clearSrc (400 + p) else if now &&& (63 - old &&& 63) = 0 then s else s.raise (400 + p)

/-- The status registers of a port follow its FIFOs (R753); `old` are the enabled bits before the change. -/
def State.portSync (s : State) (p old : Nat) : State :=
  let tx := (s.txFifo p).length
  let rx := s.rxFifo p
  let s := (s.setFld F.LSIO_STAT_TX_FREE (64 - tx) p).setFld F.LSIO_STAT_RX_COUNT rx.length p
  let s := (s.setFlag F.LSIO_STAT_BUSY (s.portBusy p) p).setRg (Reg.LSIO_RX_HEAD p) (BitVec.ofNat 32 (rx.headD 0))
  let s := (s.setFlag F.LSIO_INT_STAT_TX_EMPTY (tx = 0) p).setFlag F.LSIO_INT_STAT_RX_READY (decide (max 1 (s.fld F.LSIO_CTRL_RX_TH p) ≤ rx.length)) p
  s.portSource p old

/-- Sets one bit of `LSIO_INT_STAT` and lets the source follow. -/
def State.portEventBit (s : State) (p : Nat) (f : Fld) : State :=
  let old := s.portMask p
  (s.setFld f 1 p).portSource p old

/-- Whether a port is assigned to the S-world (R750). -/
def State.sPort (s : State) (p : Nat) : Bool := (s.rg Reg.LSIO_SOWN).getLsbD p

/-- Whether a writer drives a port (R749, R751). -/
def State.portWriter (s : State) (who : Who) (p : Nat) : Bool := who == .s || (who == .med && !s.sPort p)

/-- Both FIFOs of a port are emptied. -/
def State.emptyPort (s : State) (p : Nat) : State := ((s.setTx p []).setRxFifo p []).setSkip p false

/-! Commands (R753). -/

/-- LSIO_CTRL_WRITE: starts or stops a port; stopping empties both FIFOs. -/
def execLsioCtrlWrite (who : Who) (p : Nat) (v : Word) (s : State) : Host.Outcome State Fault Refusal :=
  if s.gatedAt (Reg.LSIO_CTRL p) then .next (s.refuseGated who (Reg.LSIO_CTRL p))
  else if !s.portWriter who p || !s.mayRwm who then .next s
  else
    let old := s.portMask p
    let s := (s.setFld F.LSIO_CTRL_ENABLE (bitsOf v 31 31) p).setFld F.LSIO_CTRL_LOOPBACK (bitsOf v 30 30) p
    let s := s.setFld F.LSIO_CTRL_RX_TH (bitsOf v 13 8) p
    .next ((if v.getLsbD 31 then s else s.emptyPort p).portSync p old)

/-- LSIO_TX_PUSH: appends an entry, or sets ERROR when the FIFO is full; an I2C port that discards takes entries again from the next one
with START on (R753, R754). -/
def execLsioTxPush (who : Who) (p : Nat) (v : Word) (s : State) : Host.Outcome State Fault Refusal :=
  if s.gatedAt (Reg.LSIO_TX_PUSH p) then .next (s.refuseGated who (Reg.LSIO_TX_PUSH p))
  else if !s.portWriter who p then .next s
  else if 64 ≤ (s.txFifo p).length then .next (s.portEventBit p F.LSIO_INT_STAT_ERROR)
  else if bit s.lsio.skip p && !v.getLsbD 31 then .next s
  else
    let old := s.portMask p
    .next (((s.setSkip p false).setTx p (s.txFifo p ++ [v.toNat])).portSync p old)

/-- LSIO_RX_POP: removes the head entry. -/
def execLsioRxPop (who : Who) (p : Nat) (_v : Word) (s : State) : Host.Outcome State Fault Refusal :=
  if s.gatedAt (Reg.LSIO_RX_POP p) then .next (s.refuseGated who (Reg.LSIO_RX_POP p))
  else if !s.portWriter who p then .next s
  else
    let old := s.portMask p
    .next ((s.setRxFifo p (s.rxFifo p).tail).portSync p old)

/-! What happens on the buses (R753-R755). -/

/-- Whether a received frame matches an enabled filter of its controller, or no filter is enabled (R755). -/
def State.canAccepts (s : State) (p e0 : Nat) : Bool :=
  let id (f : Nat) : Word := s.rg (if p = 12 then Reg.LSIO_CANF_ID0 f else Reg.LSIO_CANF_ID1 f)
  let mask (f : Nat) : Word := s.rg (if p = 12 then Reg.LSIO_CANF_MASK0 f else Reg.LSIO_CANF_MASK1 f)
  let on := (List.range 16).filter (fun f => (id f).getLsbD 31)
  let e : Word := BitVec.ofNat 32 e0
  let fits (f : Nat) : Bool := (id f).getLsbD 29 == e.getLsbD 29 && bitsOf ((id f ^^^ e) &&& mask f) 28 0 == 0
  on.isEmpty || on.any fits

/-- The entries that a reception puts into the FIFO (R754): a byte read with bit 31 set, a UART byte with its error bits, or a CAN FD frame
with its time after entry 1; that time is a free value. -/
def State.rxEntries (s : State) (p : Nat) (l : List Nat) : List Nat :=
  if p < 8 then l.map (fun e => e % 256 + 2 ^ 31)
  else if p < 12 then l.map (fun e => e % 2048)
  else l.take 2 ++ [s.freeBelow (2 ^ 32)] ++ l.drop 2

/-- Receives entries: those that find the FIFO full are dropped with RX_OVERRUN, and a UART byte with a framing or parity error sets ERROR
(R753, R754); a CAN FD frame that no filter lets in is dropped (R755). -/
def State.takeEntries (s : State) (p : Nat) (entries : List Nat) : State :=
  if entries.isEmpty ∨ (12 ≤ p ∧ !s.canAccepts p (entries.headD 0)) then s
  else
    let l := (s.rxEntries p entries).map (fun e => e % 2 ^ 32)
    let room := 64 - (s.rxFifo p).length
    let s := if 12 ≤ p then s.fresh else s
    let s := s.setRxFifo p (s.rxFifo p ++ l.take room)
    let s := if room < l.length then s.setFld F.LSIO_INT_STAT_RX_OVERRUN 1 p else s
    if 8 ≤ p ∧ p < 12 ∧ l.any (fun e => bit e 8 || bit e 9) then s.setFld F.LSIO_INT_STAT_ERROR 1 p else s

/-- LSIO_RX_ENTRY: entries are received from the bus (R754); a port in LOOPBACK hears its own transmission alone (R753). -/
def execLsioRxEntry (p : Nat) (entries : List Nat) (s : State) : Host.Outcome State Fault Refusal :=
  if !s.flag F.LSIO_CTRL_ENABLE p ∨ s.flag F.LSIO_CTRL_LOOPBACK p ∨ !s.powered 44 then .next s
  else .next ((s.takeEntries p entries).portSync p (s.portMask p))

/-- What the transmitter has sent when it is done: I2C up to and with the first STOP, UART everything, CAN FD one frame. -/
def sentEntries (p : Nat) (l : List Nat) : Nat :=
  if p < 8 then (match l.findIdx? (fun e => bit e 30) with
    | some i => i + 1
    | none => 0)
  else if p < 12 then l.length
  else if canWhole l then canEntries l else 0

/-- What a port in LOOPBACK receives of the entries it sends (R753, R754): an I2C port the bytes it wrote, a UART its bytes, with bit 10 for
a break, a CAN FD controller the frame. -/
def loopEntries (p : Nat) (l : List Nat) : List Nat :=
  if p < 8 then l.filter (fun e => !bit e 29) else if p < 12 then l.map (fun e => if bit e 8 then 2 ^ 10 else e % 256) else l

/-- LSIO_TX_DONE: an I2C stop, an emptied UART transmitter or a sent CAN FD frame sets DONE; in LOOPBACK what was sent is received
(R753). -/
def execLsioTxDone (p : Nat) (s : State) : Host.Outcome State Fault Refusal :=
  let n := sentEntries p (s.txFifo p)
  if !s.flag F.LSIO_CTRL_ENABLE p ∨ n = 0 ∨ !s.powered 44 then .next s
  else
    let old := s.portMask p
    let t := (s.setTx p ((s.txFifo p).drop n)).setFld F.LSIO_INT_STAT_DONE 1 p
    .next ((if s.flag F.LSIO_CTRL_LOOPBACK p then t.takeEntries p (loopEntries p ((s.txFifo p).take n)) else t).portSync p old)

/-- LSIO_BUS_ERROR (R753-R755): ERROR; an I2C port issues a stop and discards entries up to the next START; a CAN FD controller has counted
the error. -/
def execLsioBusError (p tec rec : Nat) (s : State) : Host.Outcome State Fault Refusal :=
  if !s.flag F.LSIO_CTRL_ENABLE p ∨ !s.powered 44 then .next s
  else
    let old := s.portMask p
    let s := s.setFld F.LSIO_INT_STAT_ERROR 1 p
    let s := if p < 8 then
        let l := (s.txFifo p).dropWhile (fun e => !bit e 31)
        ((s.setTx p l).setSkip p l.isEmpty).setFld F.LSIO_INT_STAT_DONE 1 p
      else if 12 ≤ p then
        s.setRg (Reg.LSIO_ERRCNT (p - 12)) (BitVec.ofNat 32 (min tec 255 * 256 + min rec 255))
      else s
    .next (s.portSync p old)

/-- CAN_STATE_CHANGE: a controller changes its error state (R753, R755). -/
def execCanStateChange (p st : Nat) (s : State) : Host.Outcome State Fault Refusal :=
  if p < 12 ∨ 3 ≤ st ∨ !s.flag F.LSIO_CTRL_ENABLE p ∨ s.fld F.LSIO_STAT_STATE p = st ∨ !s.powered 44 then .next s
  else .next ((s.setFld F.LSIO_STAT_STATE st p).portEventBit p F.LSIO_INT_STAT_STATE_CHANGE)

/-! GPIO (R751, R752, R756). -/

/-- Whether a pin is assigned to the S-world. -/
def State.sPin (s : State) (i : Nat) : Bool := (s.rg (Reg.LSIO_SGPIO (i / 32))).getLsbD (i % 32)

/-- Whether a pin's EDGE bit is set. -/
def State.pinEdge (s : State) (i : Nat) : Bool := (s.rg (Reg.LSIO_GPIO_EDGE (i / 32))).getLsbD (i % 32)

/-- Writes one bit of a pin register. -/
def State.setPin (s : State) (reg : Nat → Nat) (i : Nat) (b : Bool) : State :=
  s.setRg (reg (i / 32)) (putBits (s.rg (reg (i / 32))) (i % 32) (i % 32) (if b then 1 else 0))

/-- A group's two sources are not pending without an EDGE bit of one of their pins (R756). -/
def State.groupSync (s : State) (g : Nat) : State :=
  let pins := (List.range 8).map (fun j => 8 * g + j)
  let s := if pins.any (fun i => s.pinEdge i && !s.sPin i) then s else s.clearSrc (414 + g)
  if pins.any (fun i => s.pinEdge i && s.sPin i) then s else s.clearSrc (422 + g)

/-- The source of a pin (R751, R752). -/
def State.pinSource (s : State) (i : Nat) : Nat := (if s.sPin i then 422 else 414) + i / 8

/-- A pin's level moves: a selected edge sets EDGE and its group's source (R756). -/
def State.pinMoves (s : State) (i : Nat) (level : Bool) : State :=
  let s := s.setPin (fun w => Reg.LSIO_GPIO_IN w) i level
  let sel := bitsOf (s.rg (Reg.LSIO_GPIO_IRQ (i / 16))) (2 * (i % 16) + 1) (2 * (i % 16))
  if bit sel (if level then 0 else 1) then (s.setPin (fun w => Reg.LSIO_GPIO_EDGE w) i true).raise (s.pinSource i) else s

/-- GPIO_EDGE: an edge to a level on a pin (R756). -/
def execGpioEdge (i : Nat) (level : Bool) (s : State) : Host.Outcome State Fault Refusal := .next (s.pinMoves i level)

/-- The pins of a word that the WX8 drives take the level of their OUT bit (R756). -/
def State.drivePins (s : State) (w : Nat) : State :=
  (List.range 32).foldl (fun (s : State) j =>
    let out := (s.rg (Reg.LSIO_GPIO_OUT w)).getLsbD j
    if (s.rg (Reg.LSIO_GPIO_OE w)).getLsbD j && (s.rg (Reg.LSIO_GPIO_IN w)).getLsbD j != out then s.pinMoves (32 * w + j) out else s) s

/-! Ownership (R750, R751). -/

/-- A port returns to its reset state, with both FIFOs emptied (R751). -/
def State.resetPort (s : State) (p : Nat) : State :=
  let base := Reg.LSIO_CTRL p
  (({ s with regs := SMap.clear s.regs base (base + 0x1000) }).emptyPort p).clearSrc (400 + p)

/-- A pin returns to an input with its interrupt disabled (R751). -/
def State.resetPin (s : State) (i : Nat) : State :=
  let s := (s.setPin (fun w => Reg.LSIO_GPIO_OE w) i false).setPin (fun w => Reg.LSIO_GPIO_EDGE w) i false
  let a := Reg.LSIO_GPIO_IRQ (i / 16)
  s.setRg a (putBits (s.rg a) (2 * (i % 16) + 1) (2 * (i % 16)) 0)

/-- Assigns ports to the S-world, or releases them. -/
def State.setSown (s : State) (v : Word) : State :=
  let gone := (List.range 14).filter (fun p => s.sPort p && !v.getLsbD p)
  let s := gone.foldl (fun (s : State) p => s.resetPort p) s
  s.setRg Reg.LSIO_SOWN (v &&& 0x3FFF)

/-- Assigns 32 pins to the S-world, or releases them; a pin with EDGE set has its group's source pending (R756). -/
def State.setSgpio (s : State) (w : Nat) (v : Word) : State :=
  let old := s.rg (Reg.LSIO_SGPIO w)
  let gone := (List.range 32).filter (fun j => old.getLsbD j && !v.getLsbD j)
  let s := gone.foldl (fun (s : State) j => s.resetPin (32 * w + j)) s
  let s := s.setRg (Reg.LSIO_SGPIO w) v
  let took := (List.range 32).filter (fun j => !old.getLsbD j && v.getLsbD j)
  let s := took.foldl (fun (s : State) j => if s.pinEdge (32 * w + j) then s.raise (s.pinSource (32 * w + j)) else s) s
  (List.range 4).foldl (fun (s : State) g => s.groupSync (4 * w + g)) s

/-- LSIO_SOWN_WRITE: a write of an ownership register (R750, R751). -/
def execLsioSownWrite (who : Who) (addr : Nat) (v : Word) (s : State) : Host.Outcome State Fault Refusal :=
  if s.gatedAt Reg.LSIO_SOWN then .next (s.refuseGated who addr)
  else if who != .s then .next s
  else if addr = Reg.LSIO_SOWN then .next (s.setSown v)
  else if addr = Reg.LSIO_SGPIO 0 then .next (s.setSgpio 0 v)
  else if addr = Reg.LSIO_SGPIO 1 then .next (s.setSgpio 1 v)
  else .next s

/-- Whether the condition of a source that follows a level still holds (R752, R756). -/
def State.levelHolds (s : State) (src : Nat) : Bool :=
  if 400 ≤ src ∧ src < 414 then s.portMask (src - 400) != 0
  else if 422 ≤ src ∧ src < 430 then (List.range 8).any (fun j => let i := 8 * (src - 422) + j; s.pinEdge i && s.sPin i)
  else false

end Sys2Proof.Machine
end

