-- ==== Sys2Proof/Machine/Worlds.lean ====
section
/-! DEFINITION. The commands of the safety pairs, the interrupt bands and the mailboxes (02). -/

namespace Sys2Proof.Machine

/-! The safety pairs (R35-R44). -/

/-- Whether the active pair runs: supplied, out of reset, and no switch under way (R38). -/
def State.pairRuns (s : State) : Bool := s.flt.poresetHi && s.wld.switching.isNone

/-- A mismatch that no pair can take over from: the pair is pair B (17 R648), there is no standby (R43), or an activation is past its
commit point (16 R626); the SAFE_CAUSE it gives (17 R654). -/
def State.noStandby (s : State) : Option Nat :=
  if s.flag F.DEV_SPAIR_STAT_ACTIVE then some 1
  else if !s.flag F.DEV_SPAIR_CTRL_STANDBY_EN then some 2
  else match s.fw.pause with
    | some p => if p.committed then some 2 else none
    | none => none

/-- LOCKSTEP_MISMATCH (R38, R43; 17 R636 class 1, R648; 16 R626): the uncommitted writes are discarded; pair B takes over, or the WX8
enters the safe state. -/
def execLockstepMismatch (s : State) : Host.Outcome State Fault Refusal :=
  if !s.pairRuns then .next s
  else
    let s := ({ s with wld := { s.wld with commitBuf := [] } }).raise 1
    let s := s.fault 1 0
    match s.noStandby with
    | some cause => .next (s.enterSafe cause 1)
    | none => .next ({ s with wld := { s.wld with switching := some s.cyc } }.setFld F.DEV_SPAIR_STAT_STANDBY 0)

/-- PAIR_B_RESUME (R38, R40, R44): pair B is active, and the band-S sources pending or taken since the last commit are pending again. -/
def execPairBResume (s : State) : Host.Outcome State Fault Refusal :=
  match s.wld.switching with
  | none => .next s
  | some c =>
    let s := (s.setFld F.DEV_SPAIR_STAT_ACTIVE 1).setFld F.DEV_SPAIR_STAT_SWITCHED 1
    let s := (s.setFld F.DEV_SPAIR_STAT_STANDBY 0).setFld F.DEV_SPAIR_STAT_SWITCH_TIME (min (s.cyc - c) 0xFFFF)
    let s := { s with wld := { s.wld with switching := none, pairAHeld := true, signalled := none, pend := s.wld.pend ||| s.wld.taken } }
    .next (s.raise 2)

/-- The standby pair holds the state that a checkpoint commit has just copied (R44). -/
def State.standbyCopied (s : State) : State :=
  if s.flag F.DEV_SPAIR_CTRL_STANDBY_EN && !s.wld.pairAHeld then s.setFld F.DEV_SPAIR_STAT_STANDBY 1 else s

/-! Interrupt bands (R61-R68, R767). -/

/-- Bits of `INT_BAND[j]` that take what is written (R62). -/
def bandMask (j : Nat) : Word :=
  (List.range 32).foldl (fun (w : Word) i => if srcFixedS (32 * j + i) || srcFixedN (32 * j + i) || srcReserved (32 * j + i) then w else w ||| (1#32 <<< i)) 0

/-- Bits of `INT_BAND[j]` of low-speed I/O ports that are assigned to the S-world: they read 1 and ignore writes (20 R751). -/
def State.portBand (s : State) (j : Nat) : Word := if j = 12 then (s.rg Reg.LSIO_SOWN &&& 0x3FFF#32) <<< 16 else 0

/-- The value of `INT_BAND[j]` after a write (R62; 20 R751): the fixed bits and those of assigned ports stay. -/
def State.bandWrite (s : State) (j : Nat) (v : Word) : Word :=
  let m := bandMask j &&& ~~~ s.portBand j
  (s.rg (Reg.INT_BAND j) &&& ~~~ m) ||| (v &&& m)

/-- INT_BAND_WRITE (R62, R63, R67): pending state moves with a source, so it stays in place. -/
def execIntBandWrite (who : Who) (j : Nat) (v : Word) (s : State) : Host.Outcome State Fault Refusal :=
  if who != .s ∨ 16 ≤ j then .next s
  else
    let s := s.setRg (Reg.INT_BAND j) (s.bandWrite j v)
    match s.wld.signalled with
    | some src => if s.bandS src then .next s else .next { s with wld := { s.wld with signalled := none } }
    | none => .next s

/-- INT_SACK (R65, R67, R68); a source whose level still holds stays pending (20 R752, R756). -/
def execIntSack (who : Who) (v : Word) (s : State) : Host.Outcome State Fault Refusal :=
  let src := bitsOf v 8 0
  if who != .s ∨ !s.bandS src ∨ s.levelHolds src then .next s
  else
    let s := s.clearSrc src
    .next { s with wld := { s.wld with signalled := if s.wld.signalled = some src then none else s.wld.signalled } }

/-- The pending band-S source of highest priority; the lowest number wins a tie (R65). -/
def State.topSource (s : State) : Option Nat :=
  ((List.range 512).filter (fun n => s.isPend n && s.bandS n && decide (0 < s.prio n))).foldl (fun (b : Option Nat) n =>
    match b with
    | none => some n
    | some m => if s.prio m < s.prio n then some n else b) none

/-- `INT_STOP` (R65). -/
def State.intStop (s : State) : Nat :=
  match s.topSource with
  | none => 0
  | some n => 2 ^ 31 + s.prio n * 2 ^ 12 + n

/-- SECURE_INTERRUPT_SIGNAL (R66): the active pair is signalled, and takes the source (R40). -/
def execSecureInterruptSignal (s : State) : Host.Outcome State Fault Refusal :=
  match if s.pairRuns then s.topSource else none with
  | none => .next s
  | some n => .next { s with wld := { s.wld with signalled := some n, taken := s.wld.taken ||| (1#512 <<< n) } }

/-- APLIC_MESSAGE_SEND (R63, R767): the message goes to an IMSIC file, and the pending bit is cleared. -/
def execAplicMessageSend (src : Nat) (s : State) : Host.Outcome State Fault Refusal :=
  if !s.isPend src ∨ s.bandS src then .next s
  else
    let s := s.clearSrc src
    .next { s with wld := { s.wld with aplicSent := s.wld.aplicSent ++ [src] } }

/-! Mailboxes (R69-R77, R768). -/

/-- Whether a requester owns mailbox `m` (R69). -/
def State.mbxOwner (s : State) (who : Who) (m : Nat) : Bool :=
  if s.flag F.INT_MBX_OWNER_CLIENT_OWNED m then who == .client (s.fld F.INT_MBX_OWNER_CLIENT m) else who == .med

/-- A byte of a mailbox's buffers: 0-255 N2S, 256-511 S2N (R72). -/
def State.mbxByte (s : State) (m off : Nat) : Byte := SMap.get (fun _ => 0) s.wld.mbx (512 * m + off)

/-- Writes a word into a mailbox's buffers. -/
def State.putMbx (s : State) (m off : Nat) (v : Word) : State :=
  (List.range 4).foldl (fun (s : State) i =>
    { s with wld := { s.wld with mbx := SMap.set (fun _ => 0) s.wld.mbx (512 * m + off + i) (BitVec.ofNat 8 (v.toNat / 2 ^ (8 * i))) } }) s

/-- An owner change: both buffers zero, both FULL bits and `INT_MBX_N2S` clear (R70). -/
def State.clearMbx (s : State) (m : Nat) : State :=
  let s := { s with wld := { s.wld with mbx := SMap.clear s.wld.mbx (512 * m) (512 * m + 512) } }
  ((s.setFld F.INT_MBX_STAT_N2S_FULL 0 m).setFld F.INT_MBX_STAT_S2N_FULL 0 m).setRg (Reg.INT_MBX_N2S m) 0

/-- INT_MBX_OWNER_WRITE (R69, R70). -/
def execIntMbxOwnerWrite (who : Who) (m : Nat) (v : Word) (s : State) : Host.Outcome State Fault Refusal :=
  if !s.mayRwm who then .next s
  else
    let s := (s.setFld F.INT_MBX_OWNER_CLIENT_OWNED (bitsOf v 31 31) m).setFld F.INT_MBX_OWNER_CLIENT (bitsOf v 11 0) m
    .next (((s.clearMbx m).setFld F.INT_MBX_STAT_OWNER_CHANGED 1 m).raise (448 + m))

/-- A write of `INT_MBX_SCTRL[m]` by the S-world (R71, R76, R77): ENABLE, LEN and SEQ, then TAKE, then SEND. -/
def State.writeSctrl (s : State) (m : Nat) (v : Word) : State :=
  let s := (s.setFld F.INT_MBX_SCTRL_ENABLE (bitsOf v 31 31) m).setFld F.INT_MBX_STAT_ENABLED (bitsOf v 31 31) m
  let s := (s.setFld F.INT_MBX_SCTRL_LEN (bitsOf v 24 16) m).setFld F.INT_MBX_SCTRL_SEQ (bitsOf v 15 0) m
  let s := if v.getLsbD 30 then (s.setFld F.INT_MBX_STAT_N2S_FULL 0 m).setFld F.INT_MBX_STAT_OWNER_CHANGED 0 m else s
  if v.getLsbD 29 && !s.flag F.INT_MBX_STAT_S2N_FULL m && decide (bitsOf v 24 16 ≤ 256) then
    let s := (s.setFld F.INT_MBX_STAT_S2N_LEN (bitsOf v 24 16) m).setFld F.INT_MBX_STAT_S2N_SEQ (bitsOf v 15 0) m
    (s.setFld F.INT_MBX_STAT_S2N_FULL 1 m).raise (464 + m)
  else s

/-- MBX_TAKE: a write of `INT_MBX_SCTRL[m]` with TAKE (R71). -/
def execMbxTake (who : Who) (m : Nat) (v : Word) (s : State) : Host.Outcome State Fault Refusal :=
  if who != .s then .next s else .next (s.writeSctrl m v)

/-- MBX_SEND: a write of `INT_MBX_SCTRL[m]` with SEND (R71, R77). -/
def execMbxSend (who : Who) (m : Nat) (v : Word) (s : State) : Host.Outcome State Fault Refusal :=
  if who != .s then .next s else .next (s.writeSctrl m v)

/-- MBX_DOORBELL: the owner's write of `INT_MBX_DOOR[m]` (R73-R75, R768). -/
def execMbxDoorbell (who : Who) (m : Nat) (v : Word) (s : State) : Host.Outcome State Fault Refusal :=
  let len := bitsOf v 8 0
  if !s.mbxOwner who m then .next s
  else if s.flag F.INT_MBX_SCTRL_ENABLE m && !s.flag F.INT_MBX_STAT_N2S_FULL m && decide (len ≤ 256) then
    let s := (s.setFld F.INT_MBX_N2S_SEQ (bitsOf v 31 16) m).setFld F.INT_MBX_N2S_LEN len m
    .next ((s.setFld F.INT_MBX_STAT_N2S_FULL 1 m).raise (448 + m))
  else .next (s.setFld F.INT_MBX_STAT_REFUSED 1 m)

/-- MBX_BUFFER_WRITE (R72, R73, R75): the owner writes the N2S buffer while no message waits, the S-world the S2N buffer. -/
def execMbxBufferWrite (who : Who) (m off : Nat) (v : Word) (s : State) : Host.Outcome State Fault Refusal :=
  if off % 4 ≠ 0 then .next s
  else if off < 256 then
    if s.mbxOwner who m && !s.flag F.INT_MBX_STAT_N2S_FULL m then .next (s.putMbx m off v) else .next s
  else if off < 512 ∧ who = .s then .next (s.putMbx m off v)
  else .next s

end Sys2Proof.Machine
end

