-- ==== Sys2Proof/Machine/PowerOps.lean ====
section
/-! DEFINITION. Cutting and restoring power domains (19 R697-R701), held power requests (02 R85-R87), the flush before a power state and what a
reset of the N-world does (19 R722, R723). -/

namespace Sys2Proof.Machine

/-! Domains (R697). -/

/-- Domains that change only with a power state or a reset (R698). -/
def fixedDomain (d : Nat) : Bool := decide (d < 7) || d == 10 || (decide (37 ≤ d) && decide (d < 41)) || d == 43

/-- Marks a domain off or on, with its `PWR_SREADY` bit. -/
def State.setOff (s : State) (d : Nat) (off : Bool) : State :=
  let o := s.pwr.off
  let o := if off && !bit o d then o + 2 ^ d else if !off && bit o d then o - 2 ^ d else o
  ({ s with pwr := { s.pwr with off := o } }).setDomBit Reg.PWR_SREADY0 d (!off)

/-- The Engine Arbiter's units in a domain. -/
def domainUnits (d : Nat) : List Nat := if d = 28 then [0, 1, 2, 3] else if d = 29 then [4, 5, 6, 7, 8, 9, 10, 11] else []

/-- Whether a locked sequence runs on a unit of a domain. -/
def State.lockedIn (s : State) (d : Nat) : Bool :=
  (domainUnits d).any (fun u => match s.grant u with
    | some g => g.locked
    | none => false)

/-- Takes an unlocked grant of a unit away: the operation waits in the queue and starts again (R699; 12 R506, R507). -/
def State.takeUnit (s : State) (u : Nat) : State :=
  match s.grant u with
  | none => s
  | some g =>
    if g.locked then s
    else
      let pool := poolOf u
      let s := (s.setGrant u none).countTake pool g.holder
      let x : Request := { holder := g.holder, rank := g.rank, locked := false, takes := g.takes + 1, taken := true, seq := s.arb.seq }
      ({ s with arb := { s.arb with seq := s.arb.seq + 1 } }).enqueue pool x

/-- Registers of a range return to their reset values. -/
def State.clearRegs (s : State) (lo hi : Nat) : State := { s with regs := SMap.clear s.regs lo hi }

/-! What a unit loses with its power (R700, R706; 08 R369, 09 R397, 10 R450, 11 R465, 18 R692). -/

/-- An output's timing generator and transmitter. Proof of the output is kept over a unit reset (R722). -/
def State.outputLoses (s : State) (n : Nat) (unit : Bool) : State :=
  let plug := s.fld F.DPTX_STAT_HPD n
  let s := (s.unlock n).setFrameLock n none
  let s := (s.clearRegs (Reg.DTG_CTRL n) (Reg.DTG_CTRL n + 256)).clearRegs (Reg.DPTX_LINK n) (Reg.DPTX_LINK n + 256)
  let s := ((s.setFld F.DPTX_STAT_HPD plug n).setOut n Output.idleOut).unstall n
  if unit then s
  else
    let s := (s.unqueuePass n).clearRegs (Reg.PROOF_CTRL n) (Reg.PROOF_CTRL n + 64)
    { s with prf := { s.prf with ready := SMap.set (fun _ => none) s.prf.ready n none
                                 forced := SMap.set (fun _ => false) s.prf.forced n false
                                 filling := SMap.set (fun _ => false) s.prf.filling n false } }

/-- The reserve pipe. -/
def State.reserveLoses (s : State) : State :=
  ({ s with prf := { s.prf with queue := [], takeover := none } }).clearRegs Reg.PROOF_RSV (Reg.PROOF_RSV + 4) |>.showQueue

/-- A panel stops scanning: what it measured and its contacts end without further actions (R699; 04 R165). -/
def State.panelStops (s : State) (p : Nat) : State :=
  if !s.flag F.TCH_CFG_ENABLE p then s
  else
    let s := s.setPanel p { s.panel p with scan := none, contacts := [], cands := [], absorbs := [], report := none, needSurvey := false
                                           surveyDue := false }
    ((s.setFld F.TCH_STAT_STATE 0 p).setFld F.TCH_STAT_CONTACTS 0 p).setFld F.TCH_STAT_LEVEL 0 p

/-- The low-speed I/O ports: registers and FIFOs. The levels of the pins stay, and so do the settings of GPIO 56-63, which lie in the
always-on bank (20 R756). -/
def State.lsioLoses (s : State) : State :=
  let t := ({ s.clearRegs 0x11300000 0x11400000 with lsio := Lsio.reset }).keepPins s
  (List.range 30).foldl (fun (s : State) i => s.clearSrc (400 + i)) t

/-- Dzivlink: everything but the key in the key store, the sequence number of group frames and what device time has become. -/
def State.linkLoses (s : State) : State :=
  let s := (List.range 8).foldl (fun (s : State) n => (s.unlock n).setFrameLock n none) s
  let d := s.dziv
  let s := { s with dziv := { Dziv.reset with key := d.key, seq := d.seq, sent := d.sent, synced := d.synced } }
  ({ s.clearRegs 0x10E00000 0x10F00000 with aud := { s.aud with rxOn := Aud.reset.rxOn } }).audSync

/-- What the unit of a domain loses when the domain's power goes; `unit` says that a unit reset cuts it. -/
def State.losePower (s : State) (d : Nat) (unit : Bool) : State :=
  if 11 ≤ d ∧ d < 19 then s.outputLoses (d - 11) unit
  else if 19 ≤ d ∧ d < 27 then (s.slotsOf (d - 19)).foldl (fun (s : State) l => s.freeSlot l false) s
  else if d = 27 then (if unit then s else s.reserveLoses)
  else if d = 28 then { s.clearRegs 0x10600000 0x10700000 with grv := Grv.reset }
  else if d = 29 then s.clearRegs 0x10C00000 0x10D00000
  else if d = 30 then { s.clearRegs 0x10700000 0x10800000 with touch := Touch.reset }.showZones
  else if 31 ≤ d ∧ d < 35 then
    (List.range 8).foldl (fun (s : State) p => if s.panelDomain p (d - 31) then s.panelStops p else s) s
  else if d = 35 then
    let old := s.hapClear
    let keep : List (Fld × Nat) := [(F.HAP_WEAR_COUNT, 8), (F.HAP_STARTS_COUNT, 8), (F.HAP_DRIVE_S_COUNT, 8), (F.HAP_SIG_R, 8), (F.HAP_SIG_BEMF, 8), (F.HAP_STAT_SIG_VALID, 8)]
    (keep.foldl (fun (s : State) f => s.copyField old f) (old.clearRegs 0x10800000 0x10900000)).showZones
  else if d = 36 then { s.clearRegs 0x10900000 0x10A00000 with aud := Aud.reset }
  else if d = 41 then s.linkLoses
  else if d = 42 then
    let low := s.fld F.PCIE_LINK_STAT_PERST
    ((s.pcieDown).clearRegs 0x11200000 0x11300000).setFld F.PCIE_LINK_STAT_PERST low
  else if d = 44 then s.lsioLoses
  else s

/-- Cuts a domain at once: unlocked grants are taken away, the unit stops and loses its state. -/
def State.cutDomain (s : State) (d : Nat) (unit : Bool) : State :=
  let s := s.setOff d true
  ((domainUnits d).foldl (fun (s : State) u => s.takeUnit u) s).losePower d unit

/-- The unit class whose epoch counts when a domain is restored (R701). -/
def domainClass (d : Nat) : Option Nat :=
  if d = 28 then some 5 else if d = 29 then some 0xA else if 30 ≤ d ∧ d < 35 then some 6 else if d = 35 then some 7 else if d = 36 then some 8
  else if d = 41 then some 0xE else none

/-- A panel with a line in a restored front end acquires its baseline anew (R701; 09 R397), where all its front ends have power. -/
def State.panelsReturn (s : State) (q : Nat) : State :=
  (List.range 8).foldl (fun (s : State) p =>
    if s.flag F.TCH_CFG_ENABLE p && s.panelDomain p q && (List.range 4).all (fun r => !s.panelDomain p r || s.powered (31 + r)) then s.startAcquire p false
    else s) s

/-- A domain is powered and clocked again (R700, R701): its `PWR_SREADY` bit, the epoch of its class, source 18, STATE_CHANGED, and the grants
that waited for its unit. -/
def State.restoreDomain (s : State) (d : Nat) : State :=
  let s := s.setOff d false
  let s := match domainClass d with
    | some c => s.bumpEpoch c
    | none => s
  let s := if 31 ≤ d ∧ d < 35 then s.panelsReturn (d - 31) else s
  let s := (s.raise 18).eventSM 0x3C03 noInst (s.fld F.PWR_STATE_STATE) d
  if d = 28 then s.decidePool 0 else if d = 29 then s.decidePool 1 else s

/-! Cuts that wait for a locked sequence, and the DOMAIN_SETs behind them (R699). -/

/-- The place numbers that stand for a held request applied without a packet: an off and a reset. -/
def heldOff : Nat := 128
def heldReset : Nat := 129

/-- Whether the cut of an entry of `cutting` is a reset. -/
def State.cutResets (s : State) (k : Nat) : Bool :=
  if k = heldReset then true
  else match s.place k with
    | some p => p.p8 1 == 2
    | none => false

/-- What follows a cut: an off ends the packet's operation, a reset has the domain restored. -/
def State.afterCut (s : State) (d k : Nat) : State :=
  if s.cutResets k then
    { s with pwr := { s.pwr with restoring := s.pwr.restoring ++ [(d, if k < 128 then some k else none)] } }
  else
    let s := { s with pwr := { s.pwr with offRun := if bit s.pwr.offRun d then s.pwr.offRun else s.pwr.offRun + 2 ^ d } }
    s.endOp k St.ok

/-- Carries out the cuts whose locked sequences have ended. -/
def State.finishCuts (s : State) : State :=
  s.pwr.cutting.foldl (fun (s : State) e =>
    if s.lockedIn e.1 then s
    else
      let s := { s with pwr := { s.pwr with cutting := s.pwr.cutting.filter (fun x => x != e) } }
      (if s.powered e.1 then s.cutDomain e.1 (s.cutResets e.2) else s).afterCut e.1 e.2) s

/-- Starts a cut of a domain for the packet in place `k`, or for a held request. -/
def State.startCut (s : State) (d k : Nat) : State :=
  let s := (domainUnits d).foldl (fun (s : State) u => s.takeUnit u) s
  ({ s with pwr := { s.pwr with cutting := s.pwr.cutting ++ [(d, k)] } }).finishCuts

/-- Asks for a domain to be restored for a packet, or for an S-world claim (R700; 02 R89). -/
def State.askRestore (s : State) (d : Nat) (k : Option Nat) : State :=
  let s := { s with pwr := { s.pwr with offRun := if bit s.pwr.offRun d then s.pwr.offRun - 2 ^ d else s.pwr.offRun } }
  { s with pwr := { s.pwr with restoring := s.pwr.restoring ++ [(d, k)] } }

/-- A domain that the S-world claims while it is off or being cut is restored (02 R89). -/
def State.restoreClaimed (s : State) : State :=
  (List.range 46).foldl (fun (s : State) d =>
    if (bit s.pwr.off d || s.pwr.cutting.any (fun e => e.1 == d)) && s.claimed d && !s.pwr.restoring.any (fun e => e.1 == d) then s.askRestore d none
    else s) s

/-! Held requests (02 R85-R87). -/

/-- Replaces the held requests, with the number of domains they cover (R727). -/
def State.setDeferred (s : State) (l : List Deferred) : State :=
  ({ s with wld := { s.wld with deferred := l } }).setFld F.PWR_STATE_HELD ((l.flatMap Deferred.domains).eraseDups.length)

/-- A later accepted request on some domains cancels the held ones that cover any of them (02 R87; R725). -/
def State.cancelHeld (s : State) (ds : List Nat) (tag : Nat) : State :=
  let hit (x : Deferred) : Bool := x.domains.any (fun d => ds.contains d)
  let gone := s.wld.deferred.filter hit
  let s := if gone.isEmpty then s else s.setDeferred (s.wld.deferred.filter (fun x => !hit x))
  gone.foldl (fun (s : State) x => s.event x.ring 0x3C02 noInst x.tag tag) s

/-- Holds an N-world request: it completes with DEFERRED, and source 5 tells the S-world (02 R85). -/
def State.holdRequest (s : State) (k : Nat) (x : Deferred) : State :=
  let s := s.cancelHeld x.domains x.tag
  ((s.setDeferred (s.wld.deferred ++ [x])).raise 5).endOp k St.deferred

/-- What 02 R85 decides of an N-world request on some domains: 0 refused, 1 held, 2 applied. -/
def State.cutVerdict (s : State) (ds : List Nat) : Nat :=
  if ds.any (fun d => decide (d < 6) || s.domBit Reg.PWR_SPOLICY0 d) then 0
  else if ds.any (fun d => s.claimed d) then 1
  else 2

/-! Flushes before Sleep and Vault (R707, R710; 15 R597). -/

/-- Writes and commits every queued record, and then a flush. -/
def State.flushNow (s : State) : State :=
  if !s.folioOpen then s
  else
    let first : List (FWrite × Nat) := match s.fol.writing with
      | some (w, _, n) => [(w, n)]
      | none => []
    let q := s.fol.queue
    let s := { s with fol := { s.fol with writing := none, queue := [] } }
    let s := first.foldl (fun (s : State) e => (s.appendRec (FRec.whole e.1.typ e.2 e.1.body)).afterCommit e.1.after e.2) s
    let s := q.foldl (fun (s : State) w =>
      let n := s.fol.seq + 1
      (s.commitNow w.typ w.body).afterCommit w.after n) s
    let s := (s.flushRecords true .none).foldl (fun (s : State) w => s.commitNow w.typ w.body) s
    ({ s with fol := { s.fol with flushed := (s.rg Reg.AON_RTC).toNat } }).compactIfFull

/-! The N-world reset (R722, R723). -/

/-- Resets the RWM fields of a register. -/
def RegDesc.resetRwm (d : RegDesc) (a : Nat) (v : Word) : Word :=
  d.fields.foldl (fun acc f => if f.acc = .rwm then putBits acc f.hi f.lo (bitsOf (regReset a) f.hi f.lo) else acc) v

/-- The RWM fields of every register return to their reset values, except in domains the S-world holds claimed (R722). -/
def State.resetRwm (s : State) : State :=
  let old := s
  s.regs.foldl (fun (s : State) e =>
    match findReg e.1 with
    | none => s
    | some d => if old.claimed (old.addrDomain e.1) then s else s.setRg e.1 (d.resetRwm e.1 (s.rg e.1))) s

/-- What follows from RWM fields that a reset has cleared: outputs that stopped, ports that were emptied. -/
def State.settleRwm (s old : State) : State :=
  let s := (List.range 8).foldl (fun (s : State) n =>
    if old.flag F.DTG_CTRL_ENABLE n && !s.flag F.DTG_CTRL_ENABLE n then s.setOut n { s.out n with stream := false, resuming := false } else s) s
  let s := (List.range 8).foldl (fun (s : State) a =>
    if (s.act a).run.isNone then s.setFld F.HAP_STAT_STATE (s.restState a) a else s) s
  (List.range 14).foldl (fun (s : State) p =>
    if s.flag F.LSIO_CTRL_ENABLE p || !old.flag F.LSIO_CTRL_ENABLE p then s.portSource p (old.portMask p)
    else (s.emptyPort p).portSync p (old.portMask p)) s

/-- Mailbox owners return to the mediator; an owner that changes finds its mailbox cleared (02 R70). -/
def State.resetOwners (s : State) : State :=
  (List.range 16).foldl (fun (s : State) m =>
    if s.rg (Reg.INT_MBX_OWNER m) = 0 then s
    else (((s.setRg (Reg.INT_MBX_OWNER m) 0).clearMbx m).setFld F.INT_MBX_STAT_OWNER_CHANGED 1 m).raise (448 + m)) s

/-- The mediator ring and the client rings leave service, and every generation counts (R723; 03 R137, 04 R178). -/
def State.disableNRings (s : State) : State :=
  let one (n : Nat) : Nat × Client :=
    let c := s.client n
    (n, { c with gen := nextGen c.gen, resetting := false, resetBy := none, shares := [] })
  { s with cp := { s.cp with rings := s.cp.rings.filter (fun e => e.1 == 4097), resident := [], waiting := [] }
           cl := { s.cl with clients := ((List.range 4096).map one).filter (fun e => decide (e.2 ≠ Client.fresh)) } }

/-- Clients that hold something of a unit: what they hold in it is reset. -/
def State.resetAllSlices (s : State) : State :=
  let l := ((s.cl.outputs.map (·.2)) ++ s.cl.holders.filterMap (·.2) ++ (List.range 64).filterMap (fun l => if s.slotUsed l then some (s.slotOwner l) else none)
    ++ s.grv.palettes.filterMap (fun e => if e.1 < 4096 then some e.1 else none)).eraseDups
  l.foldl (fun (s : State) c => s.resetSlices c) s

/-- Step 1 of an N-world reset (R723): cores held, grants withdrawn, N-world packets gone, rings disabled, windows and owners back at reset. -/
def State.beginNReset (s : State) : State :=
  let s := { s with flt := { s.flt with coresHeld := true }, pwr := { s.pwr with nReset := true } }
  let s := s.stopNWorld.withdrawNWorld.resetAllSlices
  let s := (s.disableNRings).setFld F.CP_PRING_CFG1_ENABLE 0
  let s := ((s.clearRegs (Reg.DEV_SHWIN_BASE 0) (Reg.DEV_SHWIN_SACC + 4)).clearRegs (Reg.DEV_VMCLIENT 0) (Reg.DEV_VMCLIENT 16384)).clearRegs (Reg.DEV_CLINK 0) (Reg.DEV_CLINK 512)
  let old := s.resetOwners
  let s := old.resetRwm.settleRwm old
  (((s.bumpEpoch 1).bumpEpoch 5).bumpEpoch 8).finishFlr

/-- DRAM of inks 0, 2 and 4-7 holds zero data, ink 0 and POISON 0; inks 1 and 3 are kept (R722). -/
def State.clearNDram (s : State) : State :=
  let keep (a : Nat) : Bool := let i := s.inkAt a; i == 1 || i == 3
  let kept (w : Nat) : Bool := keep (32 * w)
  let inks := RunMap.join 0 (s.mc.inks.map (fun e => (e.1, if e.2 = 1 ∨ e.2 = 3 then e.2 else 0)))
  { s with mem := s.mem.filter (fun e => decide (e.1 < dramBase) || keep (e.1 / 32 * 32))
           mc := { s.mc with inks := inks, poison := s.mc.poison.filter (fun e => kept e.1), damage := s.mc.damage.filter (fun e => kept e.1)
                             writeback := s.mc.writeback.filter keep } }

end Sys2Proof.Machine
end

