-- ==== Sys2Proof/Machine/Power.lean ====
section
/-! DEFINITION. The commands and events of power states, domains, resets, rails and the always-on domain (19; 02 R83-R90; 09 R397). -/

namespace Sys2Proof.Machine

/-! Power states (R702-R709). -/

/-- The domains that Sleep keeps powered (R702): the wake panel's front ends among them. -/
def State.sleepKeeps (s : State) (d : Nat) : Bool :=
  decide (d < 7) || d == 10 || d == 30 || d == 43 || d == 44
    || (decide (31 ≤ d) && decide (d < 35) && s.flag F.PWR_WAKE_PANEL_EN && s.panelDomain (s.fld F.PWR_WAKE_PANEL) (d - 31))

/-- The domains that a request for Sleep covers (02 R85). -/
def State.sleepCuts (s : State) : List Nat := (List.range 46).filter (fun d => !s.sleepKeeps d)

/-- Moves between Run and Dim (R703); a cluster that Dim gated runs again. -/
def State.runOrDim (s : State) (st : Nat) : State :=
  let s := if st = 0 then { s with pwr := { s.pwr with gated := 0 } } else s
  if s.fld F.PWR_STATE_STATE = st then s else ((s.setFld F.PWR_STATE_STATE st).raise 17).eventSM 0x3C03 noInst st 0xFF

/-- The rails that Sleep turns off, in ascending ORDER (R707, R709). -/
def State.sleepRails (s : State) : List Nat :=
  (List.range 32).flatMap (fun o => (List.range 12).filter (fun r =>
    s.flag F.PWR_RAIL_VALID r && s.flag F.PWR_RAIL_SLEEP_OFF r && s.fld F.PWR_RAIL_ORDER r == o))

/-- A set of rails as bits. -/
def railBits (l : List Nat) : Nat := l.foldl (fun m r => if bit m r then m else m + 2 ^ r) 0

/-- The exit from Sleep starts (R708, R709): WAKE_CAUSE, and the rails in ascending ORDER. -/
def State.startWake (s : State) (cause : Nat) : State :=
  let s := (s.setFld F.PWR_STATE_WAKE_CAUSE (cause + 1)).setFld F.PWR_STATE_STATE 4
  let l := s.sleepRails
  { s with pwr := { s.pwr with wakeHeld := none, railJob := if l.isEmpty then none else some { on := true, left := l, tries := 0 } } }

/-- A wake source fires (R708): during the entry it is held, in Sleep the exit starts. -/
def State.wake (s : State) (cause : Nat) : State :=
  match s.fld F.PWR_STATE_STATE with
  | 2 => if s.pwr.wakeHeld.isSome then s else { s with pwr := { s.pwr with wakeHeld := some cause } }
  | 3 => s.startWake cause
  | _ => s

/-- POWER_STATE (R703, R708, R724; 02 R85-R87). -/
def execPowerState (k : Nat) (s : State) : Host.Outcome State Fault Refusal :=
  match s.opAt k 0x3C00 with
  | none => .next s
  | some p =>
    let st := s.fld F.PWR_STATE_STATE
    let want := p.p8 0
    if p.progress ≠ 0 then .next s
    else if want < 2 then
      if st < 2 then .next (((s.cancelHeld s.sleepCuts p.pkt.tag).runOrDim want).endOp k St.ok)
      else if p.ring = .s ∧ want = 0 ∧ st < 5 then .next ((s.setProgress k 1).wake 3)
      else .next (s.endOp k St.busy)
    else if want = 2 then
      if 2 ≤ st ∨ (p.ring ≠ .s ∧ s.safe) then .next (s.endOp k St.busy)
      else
        let l := s.sleepCuts
        let v := if p.ring = .s then 2 else s.cutVerdict l
        if v = 0 then .next (s.endOp k St.noPermission)
        else if v = 1 then .next (s.holdRequest k ⟨2, l, p.ring, p.pkt.tag⟩)
        else .next (((s.cancelHeld l p.pkt.tag).setFld F.PWR_STATE_STATE 2).endOp k St.ok)
    else if p.ring ≠ .s then .next (s.endOp k (if s.safe then St.busy else St.noPermission))
    else if st = 5 then .next (s.endOp k St.busy)
    else .next (((s.cancelHeld (List.range 46) p.pkt.tag).setFld F.PWR_STATE_STATE 5).endOp k St.ok)

/-- A packet of the N-world that is still running when Sleep is entered is taken away: it waits for the exit and starts again (R707). -/
def State.sleepPacket (s : State) (k : Nat) (p : Started) : State :=
  if p.ring = .s ∨ p.result.isSome then s
  else
    match s.heldBy (.packet k) with
    | some (u, _) => s.takeUnit u
    | none => (s.forgetPlace k).setPlace k (some { p with restarts := p.restarts + 1, progress := 0 })

/-- Whether a locked sequence of the N-world, or on a unit that Sleep turns off, is still running. -/
def State.lockedWork (s : State) : Bool :=
  (List.range 14).any (fun u => match s.grant u with
    | some g => g.locked && (g.rank != 0 || decide (u < 12))
    | none => false)

/-- The outputs stop and their registers are held in retention; the links send nothing (R706, R707 steps 4 and 6). -/
def State.stopStreams (s : State) : State :=
  (List.range 8).foldl (fun (s : State) n => s.setOut n { s.out n with stream := false, resuming := false, training := none }) s

/-- Every running channel enters self-refresh (R705, R707 step 5; 13 R544). -/
def State.selfRefresh (s : State) : State :=
  (List.range 16).foldl (fun (s : State) c =>
    if s.fld F.MC_CH_STAT_STATE c = 0 then (s.setFld F.MC_CH_STAT_STATE 2 c).setFld F.MC_CH_STAT_OWED 0 c else s) s

/-- The domains that Sleep does not keep go off, and domains 11-27 into retention (R706, R707 step 6). -/
def State.sleepDomains (s : State) : State :=
  let l := s.sleepCuts
  let s := (l.filter (fun d => decide (d < 11) || decide (28 ≤ d))).foldl (fun (s : State) d => if s.powered d then s.cutDomain d false else s) s
  let s := (l.filter (fun d => decide (11 ≤ d) && decide (d < 28))).foldl (fun (s : State) d => s.setDomBit Reg.PWR_SREADY0 d false) s
  { s with pwr := { s.pwr with retained := true } }

/-- In Sleep only the wake panel scans, in state WAKE (09 R397). -/
def State.sleepPanels (s : State) : State :=
  (List.range 8).foldl (fun (s : State) p =>
    if s.flag F.PWR_WAKE_PANEL_EN && s.fld F.PWR_WAKE_PANEL == p && s.flag F.TCH_CFG_ENABLE p then
      (s.setPanel p { s.panel p with scan := none, report := none }).setFld F.TCH_STAT_STATE 3 p
    else s.panelStops p) s

/-- SLEEP_ENTRY: the steps of an applied Sleep request (R707). -/
def execSleepEntry (s : State) : Host.Outcome State Fault Refusal :=
  if s.fld F.PWR_STATE_STATE ≠ 2 || s.fw.pause.isSome || s.copying || s.fol.pfLow || s.mc.retrain.isSome || s.lockedWork then .next s
  else
    let s := s.busyPlaces.foldl (fun (s : State) e => s.sleepPacket e.1 e.2) s
    let s := { s with flt := { s.flt with coresHeld := true } }
    let s := ((s.flushNow.stopStreams).selfRefresh.sleepDomains).sleepPanels
    let s := { s with pwr := { s.pwr with railsOff := railBits s.sleepRails } }
    let s := ((s.setFld F.PWR_STATE_STATE 3).raise 17).event .s 0x3C03 noInst 3 0xFF
    .next (match s.pwr.wakeHeld with
      | some c => s.startWake c
      | none => s)

/-- Whether a wake source is enabled and fires (R708): a contact on the wake panel, an edge on an enabled GPIO pin, the RTC at its alarm, or a
POWER_STATE Run of the S ring that waits. -/
def State.wakeFires (s : State) (en cause pin : Nat) : Bool :=
  match cause with
  | 0 => bit en 31 && !(s.panel (bits en 30 28)).contacts.isEmpty
  | 1 => bit en pin
  | 2 => bit en 27 && s.rg Reg.AON_RTC == s.rg Reg.AON_ALARM
  | _ => s.busyPlaces.any (fun e => e.2.ring == .s && e.2.pkt.opcode == 0x3C00 && e.2.p8 0 == 0 && e.2.progress == 1)

/-- WAKE_SOURCE (R708, R711): in Vault a wake pin or the RTC alarm drives `PWR_HOLD` high. -/
def execWakeSource (cause pin : Nat) (s : State) : Host.Outcome State Fault Refusal :=
  if s.pwr.vault then
    if (cause = 1 ∨ cause = 2) ∧ s.wakeFires s.pwr.wake cause pin then .next { s with pwr := { s.pwr with hold := true } } else .next s
  else if s.wakeFires (s.rg Reg.PWR_WAKE).toNat cause pin then .next (s.wake cause)
  else .next s

/-- WAKE_SCAN: a scan of the wake panel in Sleep; a contact wakes the WX8, and no zone acts (09 R397). `wins` are its drive windows. -/
def execWakeScan (wins : List (List (Bool × List Nat))) (s : State) : Host.Outcome State Fault Refusal :=
  let p := s.fld F.PWR_WAKE_PANEL
  let x := s.panel p
  if s.fld F.PWR_STATE_STATE ≠ 3 ∨ !s.flag F.PWR_WAKE_PANEL_EN ∨ s.fld F.TCH_STAT_STATE p ≠ 3 ∨ wins.length ≠ x.windows then .next s
  else
    let y := (wins.zip (List.range wins.length)).foldl (fun (y : Panel) e => y.measure e.1 e.2 none) x
    let sc : Scan := { windows := wins.length, done := wins.length, waiting := false, noise := wins.any (fun w => w.any (·.1)), hop := none
                       time := s.devTime, frame := 0 }
    let s := (s.setPanel p y).decideScan p sc true none
    .next (if (s.panel p).contacts.isEmpty then s else s.wake 0)

/-- The units that Sleep turned off are back with their reset state, and domains 11-27 with the state they kept (R706, R709). -/
def State.wakeDomains (s : State) : State :=
  let s := (List.range 46).foldl (fun (s : State) d => s.setOff d (bit s.pwr.offRun d)) { s with pwr := { s.pwr with retained := false } }
  let s := [5, 6, 7, 8, 0xA, 0xE].foldl (fun (s : State) c => s.bumpEpoch c) s
  (List.range 16).foldl (fun (s : State) c => if s.fld F.MC_CH_STAT_STATE c = 2 then s.setFld F.MC_CH_STAT_STATE 0 c else s) s

/-- The panels after Sleep (09 R397): the wake panel keeps its baseline and contacts, every other enabled panel acquires anew. -/
def State.wakePanels (s : State) : State :=
  (List.range 8).foldl (fun (s : State) p =>
    if !s.flag F.TCH_CFG_ENABLE p then s
    else if s.fld F.TCH_STAT_STATE p = 3 then s.setFld F.TCH_STAT_STATE 2 p
    else if (List.range 4).all (fun r => !s.panelDomain p r || s.powered (31 + r)) then s.startAcquire p false
    else s) s

/-- SLEEP_EXIT: rails are on; domains, DRAM and cores return (R709). -/
def execSleepExit (s : State) : Host.Outcome State Fault Refusal :=
  if s.fld F.PWR_STATE_STATE ≠ 4 ∨ s.pwr.railJob.isSome then .next s
  else
    let s := s.wakeDomains.wakePanels
    let s := { s with flt := { s.flt with coresHeld := s.safe || s.pwr.nReset }, pwr := { s.pwr with gated := 0 } }
    let s := (List.range 8).foldl (fun (s : State) n => if s.flag F.DTG_CTRL_ENABLE n then s.startTraining n else s) s
    let s := ((s.setFld F.PWR_STATE_STATE 0).raise 17).eventSM 0x3C03 noInst 0 0xFF
    let s := s.busyPlaces.foldl (fun (s : State) e =>
      if e.2.ring = .s ∧ e.2.pkt.opcode = 0x3C00 ∧ e.2.result.isNone ∧ e.2.progress = 1 then s.endOp e.1 St.ok else s) s
    .next ([0, 1, 2, 3].foldl (fun (s : State) pool => s.decidePool pool) s)

/-- VAULT_ENTRY: the flush, the vault seal, and every domain but the always-on one off (R710-R712). -/
def execVaultEntry (s : State) : Host.Outcome State Fault Refusal :=
  if s.fld F.PWR_STATE_STATE ≠ 5 || s.fol.pfLow then .next s
  else
    let s := s.flushNow
    let rtc := (s.rg Reg.AON_RTC).toNat
    let sealed := s.sealOver rtc
    let wake := (s.rg Reg.PWR_WAKE).toNat
    let t := s.afterReset false
    .next { t with pwr := { t.pwr with vault := true, hold := false, recount := true, vaultSeal := some (sealed, rtc), wake := wake } }

/-- CLUSTER_IDLE_GATE: in Dim a cluster whose cores all wait is clock-gated (R704). -/
def execClusterIdleGate (c : Nat) (s : State) : Host.Outcome State Fault Refusal :=
  if s.fld F.PWR_STATE_STATE ≠ 1 || s.flt.coresHeld || !s.powered (7 + c) || bit s.pwr.gated c then .next s
  else .next { s with pwr := { s.pwr with gated := s.pwr.gated + 2 ^ c } }

/-- CLUSTER_WAKE: an interrupt to one of its cores resumes a gated cluster (R704). -/
def execClusterWake (c : Nat) (s : State) : Host.Outcome State Fault Refusal :=
  if bit s.pwr.gated c then .next { s with pwr := { s.pwr with gated := s.pwr.gated - 2 ^ c } } else .next s

/-! Domains (R698-R700; 02 R83-R90). -/

/-- The output an operation of the display, etched-layer and Proof classes concerns, by the first parameter that names it. -/
def State.opOutput (s : State) (p : Started) : Nat :=
  match p.pkt.opcode with
  | 0x0803 => p.p8 1
  | 0x0804 => s.slotOut (p.p8 0)
  | 0x0805 => s.slotOut (p.p8 0)
  | 0x0806 => s.slotOut (p.p8 8)
  | 0x0807 => s.slotOut (p.p8 0)
  | _ => p.p8 0

/-- Whether an operation in execution belongs to a domain's unit. -/
def State.opIn (s : State) (p : Started) (d : Nat) : Bool :=
  match p.pkt.opcode / 1024 with
  | 2 => (decide (11 ≤ d) && decide (d < 27)) && s.opOutput p == (d - 11) % 8
  | 3 => (decide (11 ≤ d) && decide (d < 27)) && s.opOutput p == (d - 11) % 8
  | 4 => (decide (11 ≤ d) && decide (d < 27)) && s.opOutput p == (d - 11) % 8
  | 5 => d == 28
  | 6 => decide (30 ≤ d) && decide (d < 35)
  | 7 => d == 35
  | 8 => d == 36
  | 10 => d == 29
  | 14 => d == 41
  | _ => false

/-- Whether a domain's unit has an operation in execution or a grant held (R699). -/
def State.domainBusy (s : State) (d k : Nat) : Bool :=
  (domainUnits d).any (fun u => (s.grant u).isSome) || s.busyPlaces.any (fun e => e.1 != k && e.2.result.isNone && s.opIn e.2 d)

/-- DOMAIN_SET ACTION 1: a powered domain completes at once, another is restored; a held cut is cancelled (R700; 02 R87). -/
def State.domainOn (s : State) (k d : Nat) (tag : Nat) : State :=
  let s := s.cancelHeld [d] tag
  if s.powered d && !s.pwr.cutting.any (fun e => e.1 == d) then s.endOp k St.ok
  else (s.askRestore d (some k)).setProgress k 1

/-- DOMAIN_SET ACTION 0 or 2 on a powered domain: refused, held, busy or carried out (R699; 02 R83, R85). -/
def State.domainCut (s : State) (k d : Nat) (p : Started) : State :=
  let unit := p.p8 1 == 2
  let v := if p.ring = .s then (if !unit && s.claimed d then 0 else 2) else s.cutVerdict [d]
  if v = 0 then s.endOp k St.noPermission
  else if v = 1 then s.holdRequest k ⟨if unit then 1 else 0, [d], p.ring, p.pkt.tag⟩
  else if !bit (p.p8 2) 0 && s.domainBusy d k then s.endOp k St.busy
  else ((s.cancelHeld [d] p.pkt.tag).setProgress k 1).startCut d k

/-- DOMAIN_SET (R698-R700, R724). -/
def execDomainSet (k : Nat) (s : State) : Host.Outcome State Fault Refusal :=
  match s.opAt k 0x3C01 with
  | none => .next s
  | some p =>
    let d := p.p8 0
    let act := p.p8 1
    if p.progress ≠ 0 then .next s.finishCuts
    else if fixedDomain d then .next (s.endOp k St.range 0)
    else if s.asleep then .next (s.endOp k St.busy)
    else if act = 1 then .next (s.domainOn k d p.pkt.tag)
    else if s.powered d then .next (s.domainCut k d p)
    else if act = 0 then .next (s.endOp k St.ok)
    else .next (s.domainOn k d p.pkt.tag)

/-- DOMAIN_RESTORED: a domain that is being restored is powered and clocked, and the DOMAIN_SETs that wait for it end (R700, R724). -/
def execDomainRestored (d : Nat) (s : State) : Host.Outcome State Fault Refusal :=
  let l := s.pwr.restoring.filter (fun e => e.1 == d)
  if l.isEmpty || s.powered d || s.pwr.cutting.any (fun e => e.1 == d) || s.asleep then .next s
  else
    let s := { s with pwr := { s.pwr with restoring := s.pwr.restoring.filter (fun e => e.1 != d) } }
    .next (l.foldl (fun (s : State) e => match e.2 with
      | some k => s.endOp k St.ok
      | none => s) (s.restoreDomain d))

/-- PWR_SCLAIM_WRITE: the S-world claims or releases domains; a claimed domain that is off or being cut is restored (02 R88-R90). -/
def execPwrSclaimWrite (who : Who) (j : Nat) (v : Word) (s : State) : Host.Outcome State Fault Refusal :=
  if who != .s then .next s
  else
    let s := s.setRg (Reg.PWR_SCLAIM0 + 4 * j) (if j = 0 then v else v &&& 0x3FFF)
    .next (if s.asleep then s else s.restoreClaimed)

/-- DEFERRED_APPLY: held request `i` is applied when none of its domains is claimed any longer (02 R86). -/
def execDeferredApply (i : Nat) (s : State) : Host.Outcome State Fault Refusal :=
  match s.wld.deferred[i]? with
  | none => .next s
  | some x =>
    if s.asleep || x.domains.any (fun d => s.claimed d) || (x.kind == 2 && s.safe) then .next s
    else
      let s := s.setDeferred (s.wld.deferred.eraseIdx i)
      let s := if x.kind = 2 then s.setFld F.PWR_STATE_STATE 2
        else match x.domains with
          | d :: _ => if s.powered d then s.startCut d (if x.kind = 1 then heldReset else heldOff) else s
          | [] => s
      .next (s.event x.ring 0x3C01 noInst x.tag 0)

/-! Resets (R721-R723). -/

/-- RESET (R721, R723, R724). -/
def execReset (k : Nat) (s : State) : Host.Outcome State Fault Refusal :=
  match s.opAt k 0x3C02 with
  | none => .next s
  | some p =>
    if p.p8 0 = 1 then
      if p.ring = .s then .next ((s.afterReset true).boot true) else .next (s.endOp k St.noPermission)
    else if p.progress ≠ 0 then .next s
    else if s.safe then .next (s.endOp k St.busy)
    else .next ((s.setProgress k 1).beginNReset)

/-- Whether N-world work still runs: a locked flash sequence that goes to its end (R723; 04 R178). -/
def State.nWorkLeft (s : State) : Bool :=
  match s.grant 12 with
  | some g => g.locked && g.rank != 0
  | none => false

/-- NWORLD_RESET_DONE: N-world DRAM is cleared, the boot image verified, the cores released, and N_RESET_DONE written (R723; 16 R620). -/
def execNworldResetDone (s : State) : Host.Outcome State Fault Refusal :=
  if !s.pwr.nReset || s.nWorkLeft then .next s
  else
    let s := { s with pwr := { s.pwr with nReset := false } }
    let s := (s.clearNDram.releaseCores).event .s 0x3C08 noInst 0 0
    .next (s.busyPlaces.foldl (fun (s : State) e =>
      if e.2.pkt.opcode = 0x3C02 ∧ e.2.result.isNone ∧ e.2.progress = 1 then s.endOp e.1 St.ok else s) s)

/-- RESET_N_LOW: `RESET_N` low starts a warm reset, which holds until it rises (R721). -/
def execResetNLow (s : State) : Host.Outcome State Fault Refusal :=
  if !s.flt.poresetHi || s.pwr.resetLow then .next s
  else
    let t := s.afterReset true
    .next { t with pwr := { t.pwr with resetLow := true } }

/-- WARM_RESET_RELEASE: `RESET_N` rises, and the boot sequence runs (R721). -/
def execWarmResetRelease (s : State) : Host.Outcome State Fault Refusal :=
  if s.pwr.resetLow then .next (s.boot true) else .next s

/-- PORESET_LOW: a cold reset holds the device, with `FAULT_N` and `SAFE_N` low (R721; 17 R653). -/
def execPoresetLow (s : State) : Host.Outcome State Fault Refusal :=
  if s.flt.poresetHi then .next (s.afterReset false) else .next s

/-! The always-on domain (R711-R714, R720; 20 R748). -/

/-- AON_POWER_UP: `PWR_HOLD` rises after the always-on domain's own reset (20 R748). -/
def execAonPowerUp (s : State) : Host.Outcome State Fault Refusal :=
  if s.pwr.hold || s.pwr.vault || s.flt.poresetHi then .next s else .next { s with pwr := { s.pwr with hold := true } }

/-- VBAT_LOSS: with no main supply, the always-on contents are lost (R713). -/
def execVbatLoss (s : State) : Host.Outcome State Fault Refusal :=
  if s.flt.poresetHi then .next s
  else
    let s := s.clearRegs 0x11000000 0x11001000
    let s := (s.clearRegs (Reg.LSIO_GPIO_OUT 0) (Reg.LSIO_GPIO_OUT 2)).clearRegs (Reg.LSIO_GPIO_OE 0) (Reg.LSIO_GPIO_IRQ 4)
    .next { s with fol := { s.fol with counters := [], hist := [], tjMax := none }
                   pwr := { s.pwr with vault := false, hold := false, vaultSeal := none, lost := true, recount := true, openings := [], wake := 0 } }

/-- CASE_OPEN: `CASE_OPEN_N` falls: the opening is counted and its RTC kept; with the main supply on, source 6, CASE_OPENED and a MAINT record
(R714). -/
def execCaseOpen (s : State) : Host.Outcome State Fault Refusal :=
  let rtc := s.rg Reg.AON_RTC
  let s := ((s.satInc F.AON_CASE_COUNT).setRg Reg.AON_CASE_TIME rtc).setFld F.AON_STAT_CASE_OPEN 1
  let s := { s with pwr := { s.pwr with openings := s.pwr.openings ++ [rtc.toNat] } }
  if !s.flt.poresetHi then .next s
  else .next (((s.raise 6).event .s 0x3C06 noInst (s.fld F.AON_CASE_COUNT) rtc.toNat).recordOpenings)

/-- RTC_SET (R720): to SECONDS, or to network time; the calendar is evaluated (15 R603). -/
def execRtcSet (k : Nat) (s : State) : Host.Outcome State Fault Refusal :=
  match s.opAt k 0x3C03 with
  | none => .next s
  | some p =>
    let sync := bit (p.p8 0) 0
    if sync && !s.flag F.TTH_TIME_STAT_SYNC then .next (s.endOp k St.busy)
    else
      let net : Int := (s.devTime / 1000000000 : Nat) - (p.p16 2 : Int) - 946684800
      let v := if sync then (net % (2 ^ 32 : Int)).toNat else p.p32 4
      let s := (s.setRg Reg.AON_RTC (BitVec.ofNat 32 v)).setFld F.AON_STAT_RTC_VALID 1
      .next (s.evalCalendar.endOp k St.ok)

/-- The `PWR_STATE` word; HELD counts the domains of the held requests (R727). -/
def State.pwrStateWord (s : State) : Nat := (s.rg Reg.PWR_STATE).toNat

/-- POWER_QUERY (R724). -/
def execPowerQuery (k : Nat) (s : State) : Host.Outcome State Fault Refusal :=
  match s.opAt k 0x3C04 with
  | none => .next s
  | some _ =>
    .next (s.endOp k St.ok s.pwrStateWord (s.rg Reg.PWR_SREADY0).toNat (s.rg Reg.PWR_SREADY1).toNat (s.rg Reg.AON_STAT).toNat)

/-! Rails, voltage and temperature (R715-R718; 20 R734). -/

/-- RAIL_POWER_GOOD: the rail that was commanded on reports power good, and after DELAY_MS the next one follows (R715). -/
def execRailPowerGood (r : Nat) (s : State) : Host.Outcome State Fault Refusal :=
  match s.pwr.railJob with
  | none => .next s
  | some j =>
    if j.left.head? ≠ some r then .next s
    else
      let off := if bit s.pwr.railsOff r then s.pwr.railsOff - 2 ^ r else s.pwr.railsOff
      let t := j.left.tail
      .next { s with pwr := { s.pwr with railsOff := off, railJob := if t.isEmpty then none else some { j with left := t, tries := 0 } } }

/-- RAIL_TIMEOUT: no power good within 10 ms; the second time the WX8 returns to Sleep with source 7 and RAIL_FAULT (R716, R725). -/
def execRailTimeout (r status : Nat) (s : State) : Host.Outcome State Fault Refusal :=
  match s.pwr.railJob with
  | none => .next s
  | some j =>
    if j.left.head? ≠ some r then .next s
    else if j.tries = 0 then .next { s with pwr := { s.pwr with railJob := some { j with tries := 1 } } }
    else
      let s := { s with pwr := { s.pwr with railJob := none, railsOff := railBits s.sleepRails } }
      .next (((s.setFld F.PWR_STATE_STATE 3).raise 7).event .s 0x3C07 noInst r status)

/-- The rails with their AVS bit set (R717). -/
def State.avsRails (s : State) : List Nat := (List.range 12).filter (fun r => s.flag F.PWR_RAIL_VALID r && s.flag F.PWR_RAIL_AVS r)

/-- AVS_ADJUST: one step of 5 mV up (1) or down (2), as the oscillators ask, within the supply's limits (R717; 20 R734). The voltage before the
first command is not stated, and is a free value. -/
def execAvsAdjust (dir : Nat) (s : State) : Host.Outcome State Fault Refusal :=
  if !s.flag F.PWR_AVS_ENABLE || s.avsRails.length != 1 || (dir != 1 && dir != 2) then .next s
  else
    let v := s.fld F.PWR_AVS_VOUT_MV
    let now := if v = 0 then 650 + s.freeBelow 201 else v
    let s := if v = 0 then s.fresh else s
    .next (s.setFld F.PWR_AVS_VOUT_MV (if dir = 1 then min (now + 5) 850 else max (now - 5) 650))

/-- TJ_LIMIT: source 4, and nothing else (R718). -/
def execTjLimit (s : State) : Host.Outcome State Fault Refusal := .next (s.raise 4)

end Sys2Proof.Machine
end

