-- ==== Sys2Proof/Machine/RegWrite.lean ====
section
/-! DEFINITION. What a write to a register does and what a read of one answers, for every requester (00 R3-R6; 01 R20-R27). A register with a
row of its own takes its write there; a register without one takes it by the access types of its fields, with what its chapter adds. -/

namespace Sys2Proof.Machine

/-- The state in which a command leaves the block. -/
def landed (s : State) (o : Host.Outcome State Fault Refusal) : State :=
  match o with
  | .next t => t
  | _ => s

/-- A write by the access types of the register's fields (00 R3). -/
def State.plainWrite (s : State) (who : Who) (a : Nat) (v : Word) : State :=
  match findReg a with
  | none => s
  | some d => if d.wr.lets who then s.setRg a (d.write s.safe who (s.rg a) v) else s

/-! Doorbells and ring-set blocks (03 R103-R106, R139, R140). -/

/-- A write into a doorbell block (03 R103-R106). -/
def State.doorWrite (s : State) (who : Who) (r : RingId) (off : Nat) (v : Word) : State :=
  match off with
  | 0x0 => landed s (execSqTailDoorbell who r v s)
  | 0x4 => landed s (execCqHeadDoorbell who r v s)
  | 0x8 => landed s (execEqHeadDoorbell who r v s)
  | 0xC => landed s (execSqResume who r v s)
  | 0x1C => if doorOwner who r && v.getLsbD 28 then s.setRing r { s.ring r with doorBad := false } else s
  | _ => s

/-- A write into block `p` of the `CP` window (03 R140). -/
def State.pringWrite (s : State) (who : Who) (p off : Nat) (v : Word) : State :=
  if 0x20 ≤ off then s.doorWrite who (pringId p) (off - 0x20) v
  else
    let on := (s.rg (pringReg p 0)).getLsbD 31
    if off = 0 ∧ v.getLsbD 31 then landed s (execPringEnable who p v s)
    else if off = 0 ∧ on then landed s (execPringDisable who p v s)
    else if on || (s.ring (pringId p)).enabled then s
    else s.plainWrite who (pringReg p off) v

/-- Whether a client ring set is in service (03 R139). -/
def State.anyClientRing (s : State) : Bool := s.cp.rings.any (fun e => decide (e.1 < 4096) && e.2.enabled)

/-- A write into the `CP` window. -/
def State.cpWrite (s : State) (who : Who) (a : Nat) (v : Word) : State :=
  if 0x10200100 ≤ a ∧ a < 0x10200180 then s.pringWrite who ((a - 0x10200100) / 64) ((a - 0x10200100) % 64) v
  else if s.anyClientRing then s
  else s.plainWrite who a v

/-! The `DEV` window (02 R42-R53, R78; 17 R670). -/

/-- The home inks after a write of `DEV_CLINK`: a field takes 0, 5, 6 and 7, and any other value leaves it (02 R47). -/
def clinkWrite (old v : Word) : Word :=
  (List.range 8).foldl (fun (w : Word) j =>
    let x := bitsOf v (4 * j + 3) (4 * j)
    if x = 0 ∨ (5 ≤ x ∧ x ≤ 7) then w else putBits w (4 * j + 3) (4 * j) (bitsOf old (4 * j + 3) (4 * j))) v

/-- A write into the `DEV` window: CKPT keeps to 2-10 and STANDBY falls with STANDBY_EN (02 R42, R44); a locked debug enable stays 0
(02 R79). -/
def State.devWrite (s : State) (who : Who) (a : Nat) (v : Word) : State :=
  if a = Reg.DEV_SPAIR_CTRL then
    let s := s.plainWrite who a v
    let s := s.setFld F.DEV_SPAIR_CTRL_CKPT (max 2 (min 10 (s.fld F.DEV_SPAIR_CTRL_CKPT)))
    if s.flag F.DEV_SPAIR_CTRL_STANDBY_EN then s else s.setFld F.DEV_SPAIR_STAT_STANDBY 0
  else if a = Reg.DEV_DBG then s.plainWrite who a (putBits v 3 0 (bitsOf v 3 0 &&& (15 - bitsOf (s.rg a) 7 4)))
  else if a = Reg.DEV_SWDOG then landed s (execSwdogKick who v s)
  else if Reg.DEV_CLINK ≤ a ∧ a < Reg.DEV_CLINK 512 then s.plainWrite who a (clinkWrite (s.rg a) v)
  else s.plainWrite who a v

/-! The `INT` window (02 R62-R77). -/

/-- A write into mailbox page `m` (02 R72-R76): only the owner clears S2N_FULL and REFUSED. -/
def State.mbxWrite (s : State) (who : Who) (m off : Nat) (v : Word) : State :=
  if off < 0x200 then landed s (execMbxBufferWrite who m off v s)
  else if off = 0x200 then landed s (execMbxDoorbell who m v s)
  else if off = 0x204 ∧ s.mbxOwner who m then
    let s := if v.getLsbD 30 then s.setFld F.INT_MBX_STAT_S2N_FULL 0 m else s
    if v.getLsbD 29 then s.setFld F.INT_MBX_STAT_REFUSED 0 m else s
  else s

/-- A write into the `INT` window. -/
def State.intWrite (s : State) (who : Who) (a : Nat) (v : Word) : State :=
  if a < Reg.INT_BAND 16 then landed s (execIntBandWrite who ((a - Reg.INT_BAND) / 4) v s)
  else if a = Reg.INT_SACK then landed s (execIntSack who v s)
  else if Reg.INT_MBX_OWNER ≤ a ∧ a < Reg.INT_MBX_OWNER 16 then landed s (execIntMbxOwnerWrite who ((a - Reg.INT_MBX_OWNER) / 4) v s)
  else if Reg.INT_MBX_SCTRL ≤ a ∧ a < Reg.INT_MBX_SCTRL 16 then
    if who = .s then s.writeSctrl ((a - Reg.INT_MBX_SCTRL) / 4) v else s
  else if 0x10110000 ≤ a ∧ a < 0x10120000 then s.mbxWrite who ((a - 0x10110000) / 4096) (a % 4096) v
  else s.plainWrite who a v

/-! The display window (05 R206-R211, R225). -/

/-- A write into the `DTG`, `DPIPE` and `DPTX` sub-windows. -/
def State.dispWrite (s : State) (who : Who) (a : Nat) (v : Word) : State :=
  if a < 0x10300800 then
    if a % 256 = 0 then landed s (execDtgEnable who ((a - 0x10300000) / 256) v s)
    else if a % 256 = 0x20 then landed s (execApplyArm who ((a - 0x10300000) / 256) v s)
    else s.plainWrite who a v
  else if 0x10341000 ≤ a ∧ a < 0x10342000 ∧ a % 64 = 0 then landed s (execLayerArm who ((a - 0x10341000) / 64) v s)
  else if 0x10341000 ≤ a ∧ a < 0x10342000 then (s.plainWrite who a v).noteLayerWrite who ((a - 0x10341000) / 64)
  else if 0x10380000 ≤ a ∧ a < 0x10380800 ∧ a % 256 = 0 then landed s (execDptxTrain who ((a - 0x10380000) / 256) v s)
  else s.plainWrite who a v

/-! The `HAP`, `MC`, `FOL`, `PWR` and `AON` windows. -/

/-- A write into the `HAP` window: a claimed actuator and a safety pin take the S-world's writes alone (10 R445; 01 R30). -/
def State.hapWrite (s : State) (who : Who) (a : Nat) (v : Word) : State :=
  if a < 0x10800200 then
    let n := (a - 0x10800000) / 64
    if s.flag F.HAP_CFG_CLAIMED n && who != .s then s
    else
      let s := s.plainWrite who a v
      if a = Reg.HAP_CFG n ∧ (s.act n).run.isNone then s.setFld F.HAP_STAT_STATE (s.restState n) n else s
  else if Reg.HAP_TRIG_CFG ≤ a ∧ a < Reg.HAP_TRIG_CFG 8 ∧ who ≠ .s ∧ s.flag F.HAP_TRIG_CFG_SAFETY ((a - Reg.HAP_TRIG_CFG) / 4) then s
  else s.plainWrite who a v

/-- Whether a value is taken by `MC_AGE`: every limit 5-60, in rising order (13 R566). -/
def ageFits (v : Word) : Bool :=
  let be := bitsOf v 7 0
  let rt := bitsOf v 15 8
  let iso := bitsOf v 23 16
  decide (5 ≤ be) && decide (be ≤ rt) && decide (rt ≤ iso) && decide (iso ≤ 60)

/-- A write into the `MC` window (13 R519, R553, R566). -/
def State.mcWrite (s : State) (who : Who) (a : Nat) (v : Word) : State :=
  if a = Reg.MC_CFG then
    if s.mc.trained then s
    else
      let s := s.plainWrite who a v
      s.setFld F.MC_CFG_USABLE (usableGib (s.fld F.MC_CFG_RANKS) (s.fld F.MC_CFG_DENSITY))
  else if a = Reg.MC_AGE then (if ageFits v then s.plainWrite who a v else s)
  else if a = Reg.MC_FREEZE then (if 5 ≤ bitsOf v 9 0 ∧ bitsOf v 9 0 ≤ 500 then s.plainWrite who a v else s)
  else if a = Reg.MC_THAW then
    let c := bitsOf v 3 0
    match bitsOf v 7 4 with
    | 1 => landed s (execThawPoison who c s)
    | 2 => landed s (execThawRewriteMr who c s)
    | 3 => landed s (execThawRetrain who c s)
    | 4 => landed s (execThawFence who c s)
    | _ => s
  else s.plainWrite who a v

/-- A write into the `FOL` window: a SIZE below 32 makes the state DAMAGED (15 R610). -/
def State.folWrite (s : State) (who : Who) (a : Nat) (v : Word) : State :=
  let s := s.plainWrite who a v
  if a = Reg.FOL_CFG ∧ who = .s ∧ bitsOf v 15 0 < 32 ∧ s.fld F.FOL_STAT_STATE ≠ 4 then s.folioBad 3 0 else s

/-- A write into the `PWR` window: without ENABLE the power controller commands 0.80 V (20 R734). -/
def State.pwrWrite (s : State) (who : Who) (a : Nat) (v : Word) : State :=
  if a = Reg.PWR_SCLAIM0 then landed s (execPwrSclaimWrite who 0 v s)
  else if a = Reg.PWR_SCLAIM1 then landed s (execPwrSclaimWrite who 1 v s)
  else
    let s := s.plainWrite who a v
    if a = Reg.PWR_AVS ∧ who = .s ∧ !v.getLsbD 31 ∧ s.avsRails.length = 1 then s.setFld F.PWR_AVS_VOUT_MV 800 else s

/-- A write into the `AON` window: `AON_BOOTS` takes one only while VBAT_LOST is 1 (19 R728). -/
def State.aonWrite (s : State) (who : Who) (a : Nat) (v : Word) : State :=
  if a = Reg.AON_BOOTS ∧ !s.flag F.AON_STAT_VBAT_LOST then s else s.plainWrite who a v

/-! The `LSIO` window (20 R749-R756). -/

/-- The bits of a GPIO register that stand for pins not assigned to the S-world (20 R751, R756). -/
def State.openPins (s : State) (a : Nat) : Word :=
  if Reg.LSIO_GPIO_IRQ ≤ a ∧ a < Reg.LSIO_GPIO_IRQ 4 then
    let q := (a - Reg.LSIO_GPIO_IRQ) / 4
    (List.range 16).foldl (fun (w : Word) j => if s.sPin (16 * q + j) then w else putBits w (2 * j + 1) (2 * j) 3) 0
  else ~~~ s.rg (Reg.LSIO_SGPIO (a % 16 / 4))

/-- A write into the GPIO block: an assigned pin's bits take the S-world's alone (20 R751, R756). -/
def State.gpioWrite (s : State) (who : Who) (a : Nat) (v : Word) : State :=
  let m := if who = .s then BitVec.allOnes 32 else s.openPins a
  if Reg.LSIO_GPIO_EDGE ≤ a then
    let s := s.plainWrite who a (v &&& m)
    (List.range 8).foldl (fun (s : State) g => s.groupSync g) s
  else
    let t := s.plainWrite who a ((v &&& m) ||| (s.rg a &&& ~~~ m))
    if Reg.LSIO_GPIO_OUT ≤ a ∧ a < Reg.LSIO_GPIO_IRQ then t.drivePins (a % 16 / 4) else t

/-- The bits of `LSIO_CFG` that are not reserved on a port (20 R755). -/
def cfgMask (p : Nat) : Word := if p < 8 then 0xC000FFFF else if p < 12 then 0xFFFFF000 else 0xFFFFFFFF

/-- A write into a port's block (20 R751, R753, R755). -/
def State.portWrite (s : State) (who : Who) (p off : Nat) (v : Word) : State :=
  let a := Reg.LSIO_CTRL p + off
  if !s.portWriter who p then s
  else match off with
    | 0x0 => landed s (execLsioCtrlWrite who p v s)
    | 0x10 => landed s (execLsioTxPush who p v s)
    | 0x14 => landed s (execLsioRxPop who p v s)
    | 0x1C => if s.flag F.LSIO_CTRL_ENABLE p then s else s.plainWrite who a (v &&& cfgMask p)
    | 0x20 => if s.flag F.LSIO_CTRL_ENABLE p then s else s.plainWrite who a v
    | _ => (s.plainWrite who a v).portSync p (s.portMask p)

/-- A write into the `LSIO` window. -/
def State.lsioWrite (s : State) (who : Who) (a : Nat) (v : Word) : State :=
  if 0x113FF000 ≤ a then landed s (execLsioSownWrite who a v s)
  else if a < 0x1130E000 then s.portWrite who ((a - 0x11300000) / 4096) (a % 4096) v
  else if 0x11310000 ≤ a ∧ a < 0x11310050 then s.gpioWrite who a v
  else s

/-! Any register. -/

/-- A write to the register window of a unit that is not gated (01 R21). -/
def State.windowWrite (s : State) (who : Who) (a : Nat) (v : Word) : State :=
  match a / 0x100000 with
  | 0x100 => s.devWrite who a v
  | 0x101 => s.intWrite who a v
  | 0x102 => s.cpWrite who a v
  | 0x103 => s.dispWrite who a v
  | 0x106 =>
    if a = Reg.GRV_CTXBASE_LO then landed s (execGrvCtxbaseWrite who false v s)
    else if a = Reg.GRV_CTXBASE_HI then landed s (execGrvCtxbaseWrite who true v s)
    else s.plainWrite who a v
  | 0x108 => s.hapWrite who a v
  | 0x10B => s.mcWrite who a v
  | 0x10D => s.folWrite who a v
  | 0x10F => s.pwrWrite who a v
  | 0x110 => s.aonWrite who a v
  | 0x113 => s.lsioWrite who a v
  | _ => s.plainWrite who a v

/-- Whether an address lies in a register window or a doorbell page (01 R20). -/
def State.inWindows (s : State) (a : Nat) : Bool := s.region a == .window || s.region a == .doorbell

/-- A 32-bit write to a register window or a doorbell page, with the refusals of 00 R5 and 01 R25; one elsewhere is none of them. -/
def State.regWrite (s : State) (who : Who) (a : Nat) (v : Word) : State :=
  if !s.inWindows a then s
  else if a % 4 ≠ 0 then (s.recordBus who a true 3).answer .zero
  else if s.region a = .doorbell then (s.doorWrite who (.client ((a - 0x20000000) / 4096)) (a % 4096) v).answer .done
  else if s.gatedAt a then s.refuseGated who a
  else (s.windowWrite who a v).answer .done

/-! What a register reads as (00 R3, R6; 01 R25, R41). -/

/-- A doorbell block as its readers see it (03 R103, R104). -/
def State.doorView (s : State) (r : RingId) (off : Nat) : Nat :=
  let x := s.ring r
  match off with
  | 0x10 => x.sqHead
  | 0x14 => x.cqTail
  | 0x18 => x.eqTail
  | 0x1C => s.doorStat r
  | _ => 0

/-- Whether a requester may read a doorbell block (03 R105, R140). -/
def doorReader (who : Who) (r : RingId) : Bool :=
  match r with
  | .client n => who == .client n || who == .med || who == .s
  | .med => who == .med || who == .s
  | .s => who == .s

/-- A mailbox page as its owner and the S-world see it (02 R72, R73, R76). -/
def State.mbxView (s : State) (who : Who) (m off : Nat) : Nat :=
  let own := s.mbxOwner who m
  if !own && who != .s then 0
  else if off < 0x200 then leAt ((List.range 4).map (fun i => s.mbxByte m (off + i))) 0 4
  else if off = 0x204 then (if own then putBits (s.rg (Reg.INT_MBX_STAT m)) 27 27 0 else s.rg (Reg.INT_MBX_STAT m)).toNat
  else 0

/-- Seconds left in the health window (16 R635). -/
def State.windowLeft (s : State) : Nat :=
  match s.fw.window with
  | some (_, c, m) => min 4095 (m * 60 - s.usSince c / 1000000)
  | none => 0

/-- A register whose value follows from the rest of the state: what it reads as; otherwise its stored value. -/
def State.derived (s : State) (a : Nat) : Word :=
  let v := s.rg a
  if a = Reg.INT_STOP then BitVec.ofNat 32 s.intStop
  else if a = Reg.INT_BAND 12 then v ||| s.portBand 12
  else if a = Reg.DEV_FW_STAT then putBits v 11 0 s.windowLeft
  else if a < 0x10300800 ∧ 0x10300000 ≤ a ∧ a % 256 = 0 then putBits v 29 29 (if s.claimed (11 + (a - 0x10300000) / 256) then 1 else 0)
  else if Reg.GRV_ENG_STAT ≤ a ∧ a < Reg.GRV_ENG_STAT 4 then BitVec.ofNat 32 (s.engWord ((a - Reg.GRV_ENG_STAT) / 4))
  else if Reg.ARB_POOL_STAT ≤ a ∧ a < Reg.ARB_POOL_STAT 4 then BitVec.ofNat 32 (s.arbPoolWord ((a - Reg.ARB_POOL_STAT) / 4))
  else if Reg.ARB_UNIT ≤ a ∧ a < Reg.ARB_UNIT 14 then BitVec.ofNat 32 (s.arbUnitWord ((a - Reg.ARB_UNIT) / 4))
  else if Reg.MC_CH_STAT ≤ a ∧ a < Reg.MC_CH_STAT 16 then s.chStat ((a - Reg.MC_CH_STAT) / 4)
  else if Reg.MC_FRZ_STAT ≤ a ∧ a < Reg.MC_FRZ_STAT 16 ∧ a % 16 = 0 then BitVec.ofNat 32 (s.frzStat ((a - Reg.MC_FRZ_STAT) / 16))
  else if Reg.HALL_STAT ≤ a ∧ a < Reg.HALL_STAT 8 then BitVec.ofNat 32 (s.hallStatWord ((a - Reg.HALL_STAT) / 4))
  else if a = Reg.PWR_CLAIMED0 ∨ a = Reg.PWR_CLAIMED1 then
    let base := if a = Reg.PWR_CLAIMED0 then 0 else 32
    (List.range 32).foldl (fun (w : Word) j => if base + j < 46 ∧ s.claimed (base + j) then w ||| (1#32 <<< j) else w) 0
  else v

/-- What an aligned 32-bit read of a register window or doorbell page returns (00 R3; 01 R25; 20 R751). -/
def State.view (s : State) (who : Who) (a : Nat) : Word :=
  if s.region a = .doorbell then
    let r := RingId.client ((a - 0x20000000) / 4096)
    if doorReader who r then BitVec.ofNat 32 (s.doorView r (a % 4096)) else 0
  else if s.region a ≠ .window ∨ s.gatedAt a then 0
  else if 0x10110000 ≤ a ∧ a < 0x10120000 then BitVec.ofNat 32 (s.mbxView who ((a - 0x10110000) / 4096) (a % 4096))
  else if 0x10200100 ≤ a ∧ a < 0x10200180 ∧ 0x20 ≤ a % 64 then
    let r := pringId ((a - 0x10200100) / 64)
    if doorReader who r then BitVec.ofNat 32 (s.doorView r (a % 64 - 0x20)) else 0
  else match findReg a with
    | none => 0
    | some d =>
      if !d.rd.lets who then 0
      else if 0x11300000 ≤ a ∧ a < 0x1130E000 ∧ who ≠ .s ∧ s.sPort ((a - 0x11300000) / 4096) then 0
      else if 0x11310000 ≤ a ∧ a < 0x11310050 ∧ who ≠ .s then s.derived a &&& s.openPins a
      else s.derived a

end Sys2Proof.Machine
end

