-- ==== Sys2Proof/Machine/Fabric.lean ====
section
/-! DEFINITION. The accesses of the fabric: register writes, refused accesses, memory reads and writes, the commit buffer of the active pair,
and debug accesses (00 R3-R5; 01 R15, R24-R26; 02 R35-R37, R46, R82; 13 R522-R533, R552, R557; 19 R705). -/

namespace Sys2Proof.Machine

/-! The commit buffer (02 R35, R36). -/

/-- The entries of the commit buffer (R35). -/
def commitRoom : Nat := 256

/-- The active pair's write enters the commit buffer; while the buffer is full the pair stalls, and while no pair runs none issues one. -/
def State.hold (s : State) (b : Buffered) : State :=
  if !s.pairRuns then s
  else if commitRoom ≤ s.wld.commitBuf.length then s.answer .waits
  else { s with wld := { s.wld with commitBuf := s.wld.commitBuf ++ [b] }, resp := .done }

/-- Bytes at an address as the active pair loads them: its buffered stores lie over what memory holds (R35). -/
def overlay (buf : List Buffered) (a : Nat) (l : List Byte) : List Byte :=
  buf.foldl (fun (l : List Byte) b =>
    match b with
    | .reg _ _ => l
    | .mem x d => l.zipIdx.map (fun e => if x ≤ a + e.2 then (d[a + e.2 - x]?).getD e.1 else e.1)) l

/-! Accesses to memory (13 R530-R532). -/

/-- Whether a guest's client is bound to a VMID; a core refuses every access of one that is not (02 R45, R46). -/
def State.bound (s : State) (r : Req) : Bool :=
  match r.who with
  | .client n => !r.core || s.regs.any (fun e =>
      decide (Reg.DEV_VMCLIENT ≤ e.1) && decide (e.1 < Reg.DEV_VMCLIENT 16384) && e.2.getLsbD 31 && bitsOf e.2 11 0 == n)
  | _ => true

/-- How an access that failed is answered (01 R15, R24; 13 R530, R552, R557). -/
def denial (r : Req) (reason : Nat) : Resp :=
  match reason with
  | 1 => if r.core then .accessFault else .errorResponse
  | 2 => if r.core then .accessFault else .inkFault
  | 3 => .poisoned
  | 4 => .frozen
  | _ => if r.core then .accessFault else .fenced

/-- Whether the WX8 is in Sleep, or leaving it, with every DRAM channel in self-refresh (19 R705). -/
def State.dramSleeps (s : State) : Bool := decide (3 ≤ s.fld F.PWR_STATE_STATE) && decide (s.fld F.PWR_STATE_STATE ≤ 4)

/-- Turns an access away. A core's request to a channel that has stopped waits there (13 R552), but in Sleep a safety core takes an access fault
and every other requester a frozen response (19 R705). -/
def State.turnAway (s : State) (r : Req) (a : Nat) (write : Option (List Byte)) (f : XFault) : State :=
  if f.reason = 4 ∧ r.core then
    if s.dramSleeps then s.answer (if r.who = .s then .accessFault else .frozen)
    else
      let c := s.channelOf (s.served a)
      (s.setMcQueue c (s.mcQueue c ++ [{ req := r, cls := r.cls, since := s.cyc, addr := a, write := write }])).answer .waits
  else (s.noteFault f).answer (denial r f.reason)

/-- What a DRAM access meets before it is decided: upsets of the stored word, and the row it activates (13 R524, R548). A channel that has
stopped issues nothing. -/
def State.meet (s : State) (r : Req) (a : Nat) (noise : List (Nat × Byte)) (act : Option RowAct) : State :=
  if s.region a = .dram ∧ !s.inSecondary a ∧ s.channelFault (s.channelOf (s.served a)) = none then
    (s.upset (s.served a / 32 * 32) noise).activate a r.who act
  else s

/-- The checkpoint region at the top of Safety SRAM (02 R37). It holds the active pair's own registers, and no access can use it: a write is
discarded, and a read returns a free value. -/
def inCheckpoint (a : Nat) : Bool := decide (0x11C0000 ≤ a) && decide (a < 0x1200000)

/-- A read of the memory word at an address (13 R530). A register window or doorbell page takes none so wide (00 R5). -/
def State.memLoad (s : State) (r : Req) (addr : Nat) (noise : List (Nat × Byte)) (act : Option RowAct) : State :=
  let a := addr / 32 * 32
  if !s.bound r then s.answer .accessFault
  else if s.inWindows a then (s.recordBus r.who addr false 3).answer .zero
  else if r.who = .s ∧ inCheckpoint a then s.fresh.answer (.data (leBytes 32 (s.freeBelow (2 ^ 256))))
  else
    let s := s.meet r a noise act
    match s.physRead r.who a 32 with
    | .ok l => (s.noteReads a 32).answer (.data (if r.who = .s ∧ r.core then overlay s.wld.commitBuf a l else l))
    | .error f => s.turnAway r a none f

/-- A write of bytes at an address (13 R531, R532). In a register window or doorbell page an aligned 32-bit write is a register write, and no
other is taken (00 R5). -/
def State.memStore (s : State) (r : Req) (a : Nat) (data : List Byte) (noise : List (Nat × Byte)) (act : Option RowAct) : State :=
  if !s.bound r then s.answer .accessFault
  else if s.inWindows a then
    if a % 4 = 0 ∧ data.length = 4 then s.regWrite r.who a (BitVec.ofNat 32 (leAt data 0 4)) else (s.recordBus r.who a true 3).answer .zero
  else if r.who = .s ∧ inCheckpoint a then s.answer .done
  else
    let s := s.meet r a noise act
    match s.physWrite r.who a data with
    | (none, s) => s.flushPlate.answer .done
    | (some f, s) => s.flushPlate.turnAway r a (some data) f

/-- MEMORY_READ (13 R525, R530). -/
def execMemoryRead (r : Req) (addr : Nat) (noise : List (Nat × Byte)) (act : Option RowAct) (s : State) : Host.Outcome State Fault Refusal :=
  .next (s.memLoad r addr noise act)

/-- Whether a write is an engine data write of an old generation (04 R179); GEN is 0 on all other transactions (01 R12). -/
def State.stale (s : State) (r : Req) (gen : Nat) : Bool :=
  match r.who with
  | .client n => gen != 0 && gen != (s.client n).gen
  | _ => false

/-- Discards an engine data write of an old generation and counts it (04 R158, R179, R180). -/
def State.discardWrite (s : State) (r : Req) : State :=
  match r.who with
  | .client n =>
    let x := s.client n
    (s.setClient n { x with discardedW := if x.resetting then x.discardedW + 1 else x.discardedW
                            discarded := min (x.discarded + 1) 0xFFFFFFFF }).answer .none
  | _ => s

/-- MEMORY_WRITE (13 R531): the write of a whole word; the active pair's goes to its commit buffer (02 R35), and an engine's of an old
generation is discarded (04 R179). -/
def execMemoryWrite (buffered : Bool) (gen : Nat) (r : Req) (addr : Nat) (data : List Byte) (act : Option RowAct) (s : State) :
    Host.Outcome State Fault Refusal :=
  let a := addr / 32 * 32
  .next (if s.stale r gen then s.discardWrite r else if buffered && r.who == .s then s.hold (.mem a data) else s.memStore r a data [] act)

/-- PARTIAL_WRITE (13 R532): the write of part of a word; the active pair's goes to its commit buffer (02 R35), and an engine's of an old
generation is discarded (04 R179). -/
def execPartialWrite (buffered : Bool) (gen : Nat) (r : Req) (addr : Nat) (data : List Byte) (noise : List (Nat × Byte)) (act : Option RowAct)
    (s : State) : Host.Outcome State Fault Refusal :=
  .next (if s.stale r gen then s.discardWrite r
    else if buffered && r.who == .s then s.hold (.mem addr data) else s.memStore r addr data noise act)

/-! Registers and refused accesses (00 R3-R5; 01 R24-R26). -/

/-- REGISTER_WRITE (00 R3): by the access types of the fields and what the register's chapter adds; the active pair's goes to its commit buffer
(02 R35). -/
def execRegisterWrite (buffered : Bool) (who : Who) (addr : Nat) (v : Word) (s : State) : Host.Outcome State Fault Refusal :=
  .next (if buffered && who == .s then s.hold (.reg addr v) else s.regWrite who addr v)

/-- MISALIGNED_WINDOW_ACCESS (00 R5): ignored, or read as 0, and recorded with KIND 0x3. -/
def execMisalignedWindowAccess (who : Who) (write : Bool) (addr : Nat) (s : State) : Host.Outcome State Fault Refusal :=
  .next (if s.inWindows addr then (s.recordBus who addr write 3).answer .zero else s)

/-- The KIND under which an access to an address is refused, if it is (01 R20, R24; 13 R559). -/
def State.refusedKind (s : State) (who : Who) (a : Nat) : Option Nat :=
  match s.region a with
  | .none => some 0
  | .rom => if who = .s then none else some 1
  | .safetySram => if who = .s then none else some 1
  | .plateSram => if who = .s then none else some 1
  | .dram => if s.inSecondary a then some 0 else none
  | .window => none
  | .doorbell => none

/-- UNMAPPED_ACCESS (01 R24): a core takes an access fault, any other requester an error response; recorded. -/
def execUnmappedAccess (who : Who) (core write : Bool) (addr : Nat) (s : State) : Host.Outcome State Fault Refusal :=
  match s.refusedKind who addr with
  | some kind => .next ((s.recordBus who addr write kind).answer (if core then .accessFault else .errorResponse))
  | none => .next s

/-- GATED_WINDOW_ACCESS (01 R25): ignored, or read as 0, and recorded with KIND 0x2. -/
def execGatedWindowAccess (who : Who) (write : Bool) (addr : Nat) (s : State) : Host.Outcome State Fault Refusal :=
  .next (if s.region addr = .window ∧ s.gatedAt addr then (s.recordBus who addr write 2).answer .zero else s)

/-! Checkpoints (02 R35-R37). -/

/-- The request of the active pair's own stores. -/
def pairReq : Req := { who := .s, core := true, cls := .safe }

/-- Releases one buffered write (R35). -/
def State.release (s : State) (b : Buffered) : State :=
  match b with
  | .reg a v => s.regWrite .s a v
  | .mem a d => s.memStore pairReq a d [] none

/-- CHECKPOINT_COMMIT (R35, R36, R44): the buffered writes are released, oldest first, and the standby pair holds the committed state. -/
def execCheckpointCommit (s : State) : Host.Outcome State Fault Refusal :=
  if !s.pairRuns then .next s
  else
    let t := s.wld.commitBuf.foldl (fun (t : State) b => t.release b) { s with wld := { s.wld with commitBuf := [], taken := 0 } }
    .next (({ t with wld := { t.wld with commits := t.wld.commits + 1 } }).standbyCopied)

/-! Debug (02 R78-R82). -/

/-- Whether invasive debug of a world is in effect (R79, R80). -/
def State.debugIn (s : State) (sWorld : Bool) : Bool :=
  if sWorld then s.wld.sinvEff else s.flag F.DEV_DBG_NINV && !s.flag F.DEV_DBG_LOCK_NINV

/-- A debug read: of a register, or of the memory word at the address. -/
def State.debugRead (s : State) (r : Req) (a : Nat) : State :=
  if !s.inWindows a then s.memLoad r a [] none
  else if a % 4 ≠ 0 then (s.recordBus r.who a false 3).answer .zero
  else if s.region a = .window ∧ s.gatedAt a then (s.recordBus r.who a false 2).answer .zero
  else s.answer (.data (leBytes 4 (s.view r.who a).toNat))

/-- DEBUG_ACCESS (R82): an access with the attributes of the halted core, in a world whose invasive debug is in effect. -/
def execDebugAccess (sWorld : Bool) (r : Req) (write : Bool) (addr : Nat) (data : List Byte) (s : State) : Host.Outcome State Fault Refusal :=
  let q : Req := { r with core := true }
  if !s.debugIn sWorld ∨ (r.who == .s) ≠ sWorld then .next (s.answer .none)
  else .next (if write then s.memStore q addr data [] none else s.debugRead q addr)

end Sys2Proof.Machine
end

