-- ==== Sys2Proof/Machine/Dispatch.lean ====
section
/-! DEFINITION. One arm per command: its meaning, or its rejection by name. -/

namespace Sys2Proof.Machine

def exec (i : Instr) (s : State) : Host.Outcome State Fault Refusal :=
  match i with
  | .registerWrite buffered who addr v => Sys2Proof.Machine.execRegisterWrite buffered who addr v s
  | .misalignedWindowAccess who write addr => Sys2Proof.Machine.execMisalignedWindowAccess who write addr s
  | .unmappedAccess who core write addr => Sys2Proof.Machine.execUnmappedAccess who core write addr s
  | .gatedWindowAccess who write addr => Sys2Proof.Machine.execGatedWindowAccess who write addr s
  | .memoryRead r addr noise act => Sys2Proof.Machine.execMemoryRead r addr noise act s
  | .memoryWrite buffered gen r addr data act => Sys2Proof.Machine.execMemoryWrite buffered gen r addr data act s
  | .partialWrite buffered gen r addr data noise act => Sys2Proof.Machine.execPartialWrite buffered gen r addr data noise act s
  | .correctionWriteback addr => Sys2Proof.Machine.execCorrectionWriteback addr s
  | .patrolRead addr noise => Sys2Proof.Machine.execPatrolRead addr noise s
  | .requestAgePromotion c ix => Sys2Proof.Machine.execRequestAgePromotion c ix s
  | .refreshBatch c => Sys2Proof.Machine.execRefreshBatch c s
  | .mr4Poll c ind => Sys2Proof.Machine.execMr4Poll c ind s
  | .modeRegisterReadback c mismatch => Sys2Proof.Machine.execModeRegisterReadback c mismatch s
  | .commandPathParityError c => Sys2Proof.Machine.execCommandPathParityError c s
  | .heavyRowWindowClear => Sys2Proof.Machine.execHeavyRowWindowClear s
  | .slotTableSwap g => Sys2Proof.Machine.execSlotTableSwap g s
  | .thawPoison who c => Sys2Proof.Machine.execThawPoison who c s
  | .thawRewriteMr who c => Sys2Proof.Machine.execThawRewriteMr who c s
  | .thawRetrain who c => Sys2Proof.Machine.execThawRetrain who c s
  | .thawFence who c => Sys2Proof.Machine.execThawFence who c s
  | .selfThaw c => Sys2Proof.Machine.execSelfThaw c s
  | .wckDrift => Sys2Proof.Machine.execWckDrift s
  | .retrainAttemptEnd failed => Sys2Proof.Machine.execRetrainAttemptEnd failed s
  | .mirrorCopyDone m => Sys2Proof.Machine.execMirrorCopyDone m s
  | .scrub k upto => Sys2Proof.Machine.execScrub k upto s
  | .slotSet k => Sys2Proof.Machine.execSlotSet k s
  | .mirrorSet k => Sys2Proof.Machine.execMirrorSet k s
  | .retrain k => Sys2Proof.Machine.execRetrain k s
  | .memQuery k => Sys2Proof.Machine.execMemQuery k s
  | .checkpointCommit => Sys2Proof.Machine.execCheckpointCommit s
  | .lockstepMismatch => Sys2Proof.Machine.execLockstepMismatch s
  | .pairBResume => Sys2Proof.Machine.execPairBResume s
  | .intBandWrite who j v => Sys2Proof.Machine.execIntBandWrite who j v s
  | .intSack who v => Sys2Proof.Machine.execIntSack who v s
  | .secureInterruptSignal => Sys2Proof.Machine.execSecureInterruptSignal s
  | .aplicMessageSend src => Sys2Proof.Machine.execAplicMessageSend src s
  | .intMbxOwnerWrite who m v => Sys2Proof.Machine.execIntMbxOwnerWrite who m v s
  | .mbxTake who m v => Sys2Proof.Machine.execMbxTake who m v s
  | .mbxSend who m v => Sys2Proof.Machine.execMbxSend who m v s
  | .mbxDoorbell who m v => Sys2Proof.Machine.execMbxDoorbell who m v s
  | .mbxBufferWrite who m off v => Sys2Proof.Machine.execMbxBufferWrite who m off v s
  | .debugAccess sWorld r write addr data => Sys2Proof.Machine.execDebugAccess sWorld r write addr data s
  | .pwrSclaimWrite who j v => Sys2Proof.Machine.execPwrSclaimWrite who j v s
  | .deferredApply ix => Sys2Proof.Machine.execDeferredApply ix s
  | .sqTailDoorbell who ring v => Sys2Proof.Machine.execSqTailDoorbell who ring v s
  | .cqHeadDoorbell who ring v => Sys2Proof.Machine.execCqHeadDoorbell who ring v s
  | .eqHeadDoorbell who ring v => Sys2Proof.Machine.execEqHeadDoorbell who ring v s
  | .sqResume who ring v => Sys2Proof.Machine.execSqResume who ring v s
  | .packetStart ring => Sys2Proof.Machine.execPacketStart ring s
  | .fenceEvaluate ring => Sys2Proof.Machine.execFenceEvaluate ring s
  | .fenceTimeout ring => Sys2Proof.Machine.execFenceTimeout ring s
  | .packetComplete k => Sys2Proof.Machine.execPacketComplete k s
  | .quantumBoundary => Sys2Proof.Machine.execQuantumBoundary s
  | .contextResident => Sys2Proof.Machine.execContextResident s
  | .nop k => Sys2Proof.Machine.execNop k s
  | .ringSetup k => Sys2Proof.Machine.execRingSetup k s
  | .ringDisable k => Sys2Proof.Machine.execRingDisable k s
  | .ringSetDrained ring => Sys2Proof.Machine.execRingSetDrained ring s
  | .ringQuery k => Sys2Proof.Machine.execRingQuery k s
  | .eventMask k => Sys2Proof.Machine.execEventMask k s
  | .timeRead k => Sys2Proof.Machine.execTimeRead k s
  | .pringEnable who p v => Sys2Proof.Machine.execPringEnable who p v s
  | .pringDisable who p v => Sys2Proof.Machine.execPringDisable who p v s
  | .instanceQuery k => Sys2Proof.Machine.execInstanceQuery k s
  | .instanceReset k => Sys2Proof.Machine.execInstanceReset k s
  | .instanceResetDone c => Sys2Proof.Machine.execInstanceResetDone c s
  | .shareSet k => Sys2Proof.Machine.execShareSet k s
  | .grant k => Sys2Proof.Machine.execGrant k s
  | .resourceRemoval ix => Sys2Proof.Machine.execResourceRemoval ix s
  | .devctxSet k => Sys2Proof.Machine.execDevctxSet k s
  | .clientBind k => Sys2Proof.Machine.execClientBind k s
  | .iotlbInval k => Sys2Proof.Machine.execIotlbInval k s
  | .pasidMap k => Sys2Proof.Machine.execPasidMap k s
  | .pcieInboundRequest fn pasid q => Sys2Proof.Machine.execPcieInboundRequest fn pasid q s
  | .pcieFlr fn => Sys2Proof.Machine.execPcieFlr fn s
  | .pciePerst low => Sys2Proof.Machine.execPciePerst low s
  | .pcieLinkChange up speed width vfs => Sys2Proof.Machine.execPcieLinkChange up speed width vfs s
  | .pcieError uncorr => Sys2Proof.Machine.execPcieError uncorr s
  | .dptxTrain who n v => Sys2Proof.Machine.execDptxTrain who n v s
  | .trainingAttemptEnd n ok => Sys2Proof.Machine.execTrainingAttemptEnd n ok s
  | .hpdUnplug n => Sys2Proof.Machine.execHpdUnplug n s
  | .hpdPlug n => Sys2Proof.Machine.execHpdPlug n s
  | .irqHpd n lost => Sys2Proof.Machine.execIrqHpd n lost s
  | .dtgEnable who n v => Sys2Proof.Machine.execDtgEnable who n v s
  | .applyArm who n v => Sys2Proof.Machine.execApplyArm who n v s
  | .layerArm who l v => Sys2Proof.Machine.execLayerArm who l v s
  | .applyLine n => Sys2Proof.Machine.execApplyLine n s
  | .frameBoundary n => Sys2Proof.Machine.execFrameBoundary n s
  | .verticalStart n => Sys2Proof.Machine.execVerticalStart n s
  | .layerFetchFault l reason line => Sys2Proof.Machine.execLayerFetchFault l reason line s
  | .layerUnderrun l line => Sys2Proof.Machine.execLayerUnderrun l line s
  | .outputQuery k => Sys2Proof.Machine.execOutputQuery k s
  | .modeSet k => Sys2Proof.Machine.execModeSet k s
  | .auxXfer k reply => Sys2Proof.Machine.execAuxXfer k reply s
  | .layerAssign k => Sys2Proof.Machine.execLayerAssign k s
  | .layerUnassign k => Sys2Proof.Machine.execLayerUnassign k s
  | .layerSet k => Sys2Proof.Machine.execLayerSet k s
  | .flip k => Sys2Proof.Machine.execFlip k s
  | .paletteSet k => Sys2Proof.Machine.execPaletteSet k s
  | .plateLockedWrite who addr => Sys2Proof.Machine.execPlateLockedWrite who addr s
  | .listLoad k => Sys2Proof.Machine.execListLoad k s
  | .listUnload k => Sys2Proof.Machine.execListUnload k s
  | .listCheckDone => Sys2Proof.Machine.execListCheckDone s
  | .swap k => Sys2Proof.Machine.execSwap k s
  | .listRelease ix => Sys2Proof.Machine.execListRelease ix s
  | .blinkSet k => Sys2Proof.Machine.execBlinkSet k s
  | .blinkPhaseChange n c => Sys2Proof.Machine.execBlinkPhaseChange n c s
  | .modeDecide k => Sys2Proof.Machine.execModeDecide k s
  | .etchQuery k => Sys2Proof.Machine.execEtchQuery k s
  | .proofVerdict n w line crc => Sys2Proof.Machine.execProofVerdict n w line crc s
  | .takeoverSwitch n line => Sys2Proof.Machine.execTakeoverSwitch n line s
  | .proofPassStart => Sys2Proof.Machine.execProofPassStart s
  | .proofPassEnd => Sys2Proof.Machine.execProofPassEnd s
  | .returnCheckEnd n bad => Sys2Proof.Machine.execReturnCheckEnd n bad s
  | .sinkCrcRead n crc => Sys2Proof.Machine.execSinkCrcRead n crc s
  | .guardSet k => Sys2Proof.Machine.execGuardSet k s
  | .windowSet k => Sys2Proof.Machine.execWindowSet k s
  | .proofReturn k => Sys2Proof.Machine.execProofReturn k s
  | .proofForce k => Sys2Proof.Machine.execProofForce k s
  | .proofQuery k => Sys2Proof.Machine.execProofQuery k s
  | .fill k => Sys2Proof.Machine.execFill k s
  | .gradient k => Sys2Proof.Machine.execGradient k s
  | .copy k => Sys2Proof.Machine.execCopy k s
  | .blend k => Sys2Proof.Machine.execBlend k s
  | .scale k => Sys2Proof.Machine.execScale k s
  | .convert k => Sys2Proof.Machine.execConvert k s
  | .pathFill k => Sys2Proof.Machine.execPathFill k s
  | .pathStroke k => Sys2Proof.Machine.execPathStroke k s
  | .grvGlyphs k => Sys2Proof.Machine.execGrvGlyphs k s
  | .grvPaletteLoad k => Sys2Proof.Machine.execGrvPaletteLoad k s
  | .grvCtxSave k => Sys2Proof.Machine.execGrvCtxSave k s
  | .grvCtxRestore k => Sys2Proof.Machine.execGrvCtxRestore k s
  | .graverStripEnd k => Sys2Proof.Machine.execGraverStripEnd k s
  | .grvCtxbaseWrite who hi v => Sys2Proof.Machine.execGrvCtxbaseWrite who hi v s
  | .arbiterRequest q pool lockNs => Sys2Proof.Machine.execArbiterRequest q pool lockNs s
  | .takeAwayStop u => Sys2Proof.Machine.execTakeAwayStop u s
  | .arbiterRelease u => Sys2Proof.Machine.execArbiterRelease u s
  | .lockOverrun u => Sys2Proof.Machine.execLockOverrun u s
  | .hallRun k => Sys2Proof.Machine.execHallRun k s
  | .hallQuery k => Sys2Proof.Machine.execHallQuery k s
  | .scanStart p => Sys2Proof.Machine.execScanStart p s
  | .driveWindowEnd p win => Sys2Proof.Machine.execDriveWindowEnd p win s
  | .surveyEnd p win => Sys2Proof.Machine.execSurveyEnd p win s
  | .surveySkipped p => Sys2Proof.Machine.execSurveySkipped p s
  | .scanDecision p copy2 => Sys2Proof.Machine.execScanDecision p copy2 s
  | .reportWrite p => Sys2Proof.Machine.execReportWrite p s
  | .persistTimer p id => Sys2Proof.Machine.execPersistTimer p id s
  | .idleLevelTimer p => Sys2Proof.Machine.execIdleLevelTimer p s
  | .surveyDue p => Sys2Proof.Machine.execSurveyDue p s
  | .wakeScan wins => Sys2Proof.Machine.execWakeScan wins s
  | .panelSet k => Sys2Proof.Machine.execPanelSet k s
  | .panelTune k => Sys2Proof.Machine.execPanelTune k s
  | .reportSetup k => Sys2Proof.Machine.execReportSetup k s
  | .zoneSet k => Sys2Proof.Machine.execZoneSet k s
  | .absorb k => Sys2Proof.Machine.execAbsorb k s
  | .recalibrate k => Sys2Proof.Machine.execRecalibrate k s
  | .panelQuery k => Sys2Proof.Machine.execPanelQuery k s
  | .tchCtxSave k => Sys2Proof.Machine.execTchCtxSave k s
  | .tchCtxRestore k => Sys2Proof.Machine.execTchCtxRestore k s
  | .hapTrigEdge j rising => Sys2Proof.Machine.execHapTrigEdge j rising s
  | .hapticZoneTrigger z => Sys2Proof.Machine.execHapticZoneTrigger z s
  | .segmentEnd a => Sys2Proof.Machine.execSegmentEnd a s
  | .coastWindow a bemf => Sys2Proof.Machine.execCoastWindow a bemf s
  | .openCheck a ma => Sys2Proof.Machine.execOpenCheck a ma s
  | .overcurrent a ma => Sys2Proof.Machine.execOvercurrent a ma s
  | .vhapMeasure mv => Sys2Proof.Machine.execVhapMeasure mv s
  | .play k => Sys2Proof.Machine.execPlay k s
  | .waveLoad k => Sys2Proof.Machine.execWaveLoad k s
  | .waveFree k => Sys2Proof.Machine.execWaveFree k s
  | .actQuery k => Sys2Proof.Machine.execActQuery k s
  | .maint k => Sys2Proof.Machine.execMaint k s
  | .portSet k => Sys2Proof.Machine.execPortSet k s
  | .routeSet k => Sys2Proof.Machine.execRouteSet k s
  | .busSet k => Sys2Proof.Machine.execBusSet k s
  | .safeload k => Sys2Proof.Machine.execSafeload k s
  | .safeloadSwap v => Sys2Proof.Machine.execSafeloadSwap v s
  | .routerState k => Sys2Proof.Machine.execRouterState k s
  | .genSet k => Sys2Proof.Machine.execGenSet k s
  | .toneSet k => Sys2Proof.Machine.execToneSet k s
  | .cadenceStepEnd g => Sys2Proof.Machine.execCadenceStepEnd g s
  | .beepPlay k => Sys2Proof.Machine.execBeepPlay k s
  | .zoneBeepTrigger z => Sys2Proof.Machine.execZoneBeepTrigger z s
  | .crossfadeEnd d => Sys2Proof.Machine.execCrossfadeEnd d s
  | .streamSetup k => Sys2Proof.Machine.execStreamSetup k s
  | .streamCtrl k => Sys2Proof.Machine.execStreamCtrl k s
  | .streamFetch st frames => Sys2Proof.Machine.execStreamFetch st frames s
  | .alarmSet k => Sys2Proof.Machine.execAlarmSet k s
  | .audioQuery k => Sys2Proof.Machine.execAudioQuery k s
  | .audCtxSave k => Sys2Proof.Machine.execAudCtxSave k s
  | .audCtxRestore k => Sys2Proof.Machine.execAudCtxRestore k s
  | .portClockLost p rate => Sys2Proof.Machine.execPortClockLost p rate s
  | .portClockBack p rate => Sys2Proof.Machine.execPortClockBack p rate s
  | .alarmLaneMismatch => Sys2Proof.Machine.execAlarmLaneMismatch s
  | .alarmMemberFail m => Sys2Proof.Machine.execAlarmMemberFail m s
  | .folioQuery k => Sys2Proof.Machine.execFolioQuery k s
  | .folioFlush k => Sys2Proof.Machine.execFolioFlush k s
  | .settingsWrite k => Sys2Proof.Machine.execSettingsWrite k s
  | .settingsRead k => Sys2Proof.Machine.execSettingsRead k s
  | .logRead k => Sys2Proof.Machine.execLogRead k s
  | .calSet k => Sys2Proof.Machine.execCalSet k s
  | .calDone k => Sys2Proof.Machine.execCalDone k s
  | .folioAdopt k => Sys2Proof.Machine.execFolioAdopt k s
  | .flushTimer => Sys2Proof.Machine.execFlushTimer s
  | .flashProgramDone ok => Sys2Proof.Machine.execFlashProgramDone ok s
  | .compactionCommit => Sys2Proof.Machine.execCompactionCommit s
  | .dayChange => Sys2Proof.Machine.execDayChange s
  | .histogramMinute tj => Sys2Proof.Machine.execHistogramMinute tj s
  | .pwrFailFall => Sys2Proof.Machine.execPwrFailFall s
  | .pwrFailRise ok => Sys2Proof.Machine.execPwrFailRise ok s
  | .coldBoot => Sys2Proof.Machine.execColdBoot s
  | .uartRecoveryImage image => Sys2Proof.Machine.execUartRecoveryImage image s
  | .fwQuery k => Sys2Proof.Machine.execFwQuery k s
  | .fwErase k => Sys2Proof.Machine.execFwErase k s
  | .fwWrite k => Sys2Proof.Machine.execFwWrite k s
  | .fwVerify k => Sys2Proof.Machine.execFwVerify k s
  | .fwActivate k => Sys2Proof.Machine.execFwActivate k s
  | .activationResume => Sys2Proof.Machine.execActivationResume s
  | .fwConfirm k => Sys2Proof.Machine.execFwConfirm k s
  | .fwAbandon k => Sys2Proof.Machine.execFwAbandon k s
  | .healthWindowExpiry => Sys2Proof.Machine.execHealthWindowExpiry s
  | .faultQuery k => Sys2Proof.Machine.execFaultQuery k s
  | .faultClear k => Sys2Proof.Machine.execFaultClear k s
  | .safeEnter k => Sys2Proof.Machine.execSafeEnter k s
  | .faultRecord => Sys2Proof.Machine.execFaultRecord s
  | .timingStall n => Sys2Proof.Machine.execTimingStall n s
  | .clockFault => Sys2Proof.Machine.execClockFault s
  | .sramUncorrectable arr layer => Sys2Proof.Machine.execSramUncorrectable arr layer s
  | .swdogKick who v => Sys2Proof.Machine.execSwdogKick who v s
  | .watchdogExpiry => Sys2Proof.Machine.execWatchdogExpiry s
  | .rubFire k => Sys2Proof.Machine.execRubFire k s
  | .rubInEdge => Sys2Proof.Machine.execRubInEdge s
  | .rubbingLatch => Sys2Proof.Machine.execRubbingLatch s
  | .rubAutoRelease => Sys2Proof.Machine.execRubAutoRelease s
  | .rubRead k => Sys2Proof.Machine.execRubRead k s
  | .rubRelease k => Sys2Proof.Machine.execRubRelease k s
  | .linkSet k => Sys2Proof.Machine.execLinkSet k s
  | .timeSet k => Sys2Proof.Machine.execTimeSet k s
  | .groupSet k => Sys2Proof.Machine.execGroupSet k s
  | .rosterSet k => Sys2Proof.Machine.execRosterSet k s
  | .admitMember k => Sys2Proof.Machine.execAdmitMember k s
  | .alarmSend k => Sys2Proof.Machine.execAlarmSend k s
  | .lockSet k => Sys2Proof.Machine.execLockSet k s
  | .intercomSet k => Sys2Proof.Machine.execIntercomSet k s
  | .qpSetup k => Sys2Proof.Machine.execQpSetup k s
  | .qpKick k => Sys2Proof.Machine.execQpKick k s
  | .linkQuery k => Sys2Proof.Machine.execLinkQuery k s
  | .groupFrameReceived port frame => Sys2Proof.Machine.execGroupFrameReceived port frame s
  | .ptpMessage port off gm => Sys2Proof.Machine.execPtpMessage port off gm s
  | .syncTimeout other => Sys2Proof.Machine.execSyncTimeout other s
  | .helloTimer => Sys2Proof.Machine.execHelloTimer s
  | .memberTimeout j => Sys2Proof.Machine.execMemberTimeout j s
  | .groupTriggerTime => Sys2Proof.Machine.execGroupTriggerTime s
  | .intercomFrameSend j samples => Sys2Proof.Machine.execIntercomFrameSend j samples s
  | .intercomIdle j => Sys2Proof.Machine.execIntercomIdle j s
  | .qpFrameReceived port frame => Sys2Proof.Machine.execQpFrameReceived port frame s
  | .qpTransmit q => Sys2Proof.Machine.execQpTransmit q s
  | .ethLinkChange port up => Sys2Proof.Machine.execEthLinkChange port up s
  | .powerState k => Sys2Proof.Machine.execPowerState k s
  | .sleepEntry => Sys2Proof.Machine.execSleepEntry s
  | .vaultEntry => Sys2Proof.Machine.execVaultEntry s
  | .wakeSource cause pin => Sys2Proof.Machine.execWakeSource cause pin s
  | .sleepExit => Sys2Proof.Machine.execSleepExit s
  | .clusterIdleGate c => Sys2Proof.Machine.execClusterIdleGate c s
  | .clusterWake c => Sys2Proof.Machine.execClusterWake c s
  | .domainSet k => Sys2Proof.Machine.execDomainSet k s
  | .domainRestored d => Sys2Proof.Machine.execDomainRestored d s
  | .reset k => Sys2Proof.Machine.execReset k s
  | .nworldResetDone => Sys2Proof.Machine.execNworldResetDone s
  | .resetNLow => Sys2Proof.Machine.execResetNLow s
  | .poresetLow => Sys2Proof.Machine.execPoresetLow s
  | .rtcSet k => Sys2Proof.Machine.execRtcSet k s
  | .powerQuery k => Sys2Proof.Machine.execPowerQuery k s
  | .railPowerGood r => Sys2Proof.Machine.execRailPowerGood r s
  | .railTimeout r status => Sys2Proof.Machine.execRailTimeout r status s
  | .avsAdjust dir => Sys2Proof.Machine.execAvsAdjust dir s
  | .tjLimit => Sys2Proof.Machine.execTjLimit s
  | .caseOpen => Sys2Proof.Machine.execCaseOpen s
  | .vbatLoss => Sys2Proof.Machine.execVbatLoss s
  | .lsioSownWrite who addr v => Sys2Proof.Machine.execLsioSownWrite who addr v s
  | .lsioCtrlWrite who p v => Sys2Proof.Machine.execLsioCtrlWrite who p v s
  | .lsioTxPush who p v => Sys2Proof.Machine.execLsioTxPush who p v s
  | .lsioRxPop who p v => Sys2Proof.Machine.execLsioRxPop who p v s
  | .lsioRxEntry p entries => Sys2Proof.Machine.execLsioRxEntry p entries s
  | .lsioTxDone p => Sys2Proof.Machine.execLsioTxDone p s
  | .lsioBusError p tec rec => Sys2Proof.Machine.execLsioBusError p tec rec s
  | .canStateChange p st => Sys2Proof.Machine.execCanStateChange p st s
  | .gpioEdge ix level => Sys2Proof.Machine.execGpioEdge ix level s
  | .flashEraseDone port ok => Sys2Proof.Machine.execFlashEraseDone port ok s
  | .fwVerifyDone => Sys2Proof.Machine.execFwVerifyDone s
  | .mirrorReleaseDone m => Sys2Proof.Machine.execMirrorReleaseDone m s
  | .sramCe => Sys2Proof.Machine.execSramCe s
  | .gainRampEnd ix => Sys2Proof.Machine.execGainRampEnd ix s
  | .aonPowerUp => Sys2Proof.Machine.execAonPowerUp s
  | .warmResetRelease => Sys2Proof.Machine.execWarmResetRelease s

end Sys2Proof.Machine
end

