-- ==== Sys2Proof/Decode.lean ====
section
/-! DEFINITION. The command a word spells, for the rows of spec/opcode_table.json that give bits: the table gives none. -/

namespace Sys2Proof

/-- No row of the table gives its command any bits, so no word spells one. -/
def decodeTableWord (nbits w : Nat) : Option Instr :=
  match nbits, w with
  | _, _ => none

end Sys2Proof
end

