-- ==== Sys2Proof/Machine/Tick.lean ====
section
/-! DEFINITION. What happens when the block idles: one cycle of `CLK_FAB` passes. -/

namespace Sys2Proof.Machine

/-- `CLK_FAB` cycles in a second (01 R9). -/
def cyclesPerSecond : Nat := 1198080000

/-- What a second adds to the always-on counters (15 R598): the time with the main supply on, in each power state, with each output
streaming, and with the alarm sounding. -/
def State.countSecond (s : State) : State :=
  if !s.flt.poresetHi then s
  else
    let st := s.fld F.PWR_STATE_STATE
    let s := (s.count 16).count (if st = 0 then 24 else if st = 1 then 32 else 40)
    let s := (List.range 8).foldl (fun (s : State) n => if (s.out n).stream then s.count (96 + 4 * n) else s) s
    if s.sounding then s.count 160 else s

/-- A second of the RTC passes (15 R610, 19 R711). -/
def State.second (s : State) : State := (s.setRg Reg.AON_RTC (s.rg Reg.AON_RTC + 1)).countSecond

/-- One `CLK_FAB` cycle passes (01 R9); device time follows from it. Cuts whose locked sequences have ended are carried out, and domains that
the S-world has come to hold are restored (19 R699, 02 R89). -/
def State.tick (s : State) : State :=
  let s := { s with cyc := s.cyc + 1 }
  let s := if s.cyc % cyclesPerSecond = 0 then s.second else s
  if s.asleep then s else s.finishCuts.restoreClaimed

end Sys2Proof.Machine
end

