-- ==== Sys2Proof/Safety.lean ====
section
/-! DEFINITION. The terms the claims are stated in: the canonical form of the sparse registers and of memory, the completion an operation has
ended with, and which part of the state a command leaves alone. -/

namespace Sys2Proof.Machine

/-- Memory is in its canonical form: addresses strictly rising, and no entry equal to the 0 that an unlisted address reads as. -/
def Memory.wf (m : List Host.Cell) : Bool := SMap.wf (fun _ => 0) m

/-- The registers are in their canonical form: addresses strictly rising, and no entry equal to the register's reset value. -/
def Registers.wf (r : SMap Word) : Bool := SMap.wf regReset r

/-- The runs of a map of runs start at strictly rising keys. -/
def Runs.wf : RunMap → Bool
  | [] => true
  | [_] => true
  | (j, _) :: (k, v) :: t => decide (j < k) && Runs.wf ((k, v) :: t)

/-- What every step keeps: memory and registers stay in their canonical forms, so that equal contents are equal states, and the runs of stored
inks stay in order. -/
def State.Canonical (s : State) : Prop := Memory.wf s.mem = true ∧ Registers.wf s.regs = true ∧ Runs.wf s.mc.inks = true

/-- The completion that the operation in place `k` has ended with, if it has ended (03 R129). -/
def State.result (s : State) (k : Nat) : Option Result :=
  match s.place k with
  | some p => p.result
  | none => none

/-- Two states agree on every byte of memory. -/
def SameMemory (s t : State) : Prop := ∀ a, t.byte a = s.byte a

/-- Two states agree on every register but those at the listed addresses. -/
def SameRegsBut (l : List Nat) (s t : State) : Prop := ∀ a, a ∉ l → t.rg a = s.rg a

/-- Two states agree on the pending state of every interrupt source but the listed ones. -/
def SamePendBut (l : List Nat) (s t : State) : Prop := ∀ n, n ∉ l → t.isPend n = s.isPend n

end Sys2Proof.Machine
end

