-- ==== Sys2Proof/Certificates/Slice0/Obligations.lean ====
section
/-! DEFINITION. The statements about the model: what each command does, from the rules R<n> of the spec, and what every step keeps. A `Rules.…` is
one part of the statement at the end of its section that names it. -/

open Sys2Proof Sys2Proof.Machine

/-! The queue and the clock. -/

/-- A step takes the command at the front of the queue and answers what that command does on the state with the queue's rest. -/
def Obligations.StepRunsTheFrontCommand : Prop :=
  ∀ (s : State) (c : Instr) (rest : List Instr), s.pending = c :: rest → step s = exec c { s with pending := rest }

/-- On an empty queue the step is one tick (the model's choice, log entry 1); in Sleep, between two seconds, a tick moves the cycle count alone. -/
def Obligations.IdleStepPassesOneCycle : Prop :=
  ∀ s : State, s.pending = [] →
    step s = .next s.tick ∧
    ((s.cyc + 1) % cyclesPerSecond ≠ 0 → s.asleep = true → s.tick = { s with cyc := s.cyc + 1 })

/-- After reset: the queue is empty, every ring set is out of service, no source is pending, no place holds a packet, memory lists nothing, and the
checks of `Canonical` hold. -/
def Rules.ResetIsCanonical : Prop :=
  State.reset.Canonical ∧ State.reset.pending = [] ∧ State.reset.mem = [] ∧ State.reset.wld.pend = 0 ∧ (∀ k, State.reset.place k = none) ∧
  ∀ r, State.reset.ring r = RingSet.off

/-- Registers after reset hold the values the spec gives: CKPT and STANDBY_EN of `DEV_SPAIR_CTRL` (R42), the fixed bands of `INT_BAND` (R62), and
`INT_MBX_STAT` (R76). -/
def Rules.ResetValuesOfTheSpec : Prop :=
  State.reset.fld F.DEV_SPAIR_CTRL_CKPT = 8 ∧ State.reset.fld F.DEV_SPAIR_CTRL_STANDBY_EN = 1 ∧
  (∀ n, n < 512 → (State.reset.rg (Reg.INT_BAND (n / 32))).getLsbD (n % 32) = srcFixedS n) ∧
  ∀ m, m < 16 → State.reset.rg (Reg.INT_MBX_STAT m) = 0

/-- No command ever stops the block: every command, in every state, answers a next state. -/
def Rules.NoCommandStopsTheBlock : Prop := ∀ (i : Instr) (s : State), ∃ t, exec i s = .next t

/-- Every step keeps memory and the registers in their canonical forms. -/
def Obligations.EveryStepKeepsCanonicalForm : Prop := ∀ s t : State, s.Canonical → step s = .next t → t.Canonical

/-- A command acts on everything but the queue. -/
def Rules.NoCommandTouchesTheQueue : Prop := ∀ (i : Instr) (s t : State), exec i s = .next t → t.pending = s.pending

/-! The fabric (00, 01, 02). -/

/-- R3: what a write leaves in each field of a register, by the field's access type and the writer. -/
def Obligations.FieldWritesFollowAccessTypes : Prop :=
  ∀ (a : Nat) (d : RegDesc), findReg a = some d → ∀ f ∈ d.fields, ∀ (safe : Bool) (who : Who) (old new : Word),
    let was := bitsOf old f.hi f.lo
    let put := bitsOf new f.hi f.lo
    bitsOf (d.write safe who old new) f.hi f.lo =
      match f.acc with
      | .rw => put
      | .ro => was
      | .wo => was
      | .w1c => bitsOf (old &&& ~~~ new) f.hi f.lo
      | .rws => if who = .s then put else was
      | .rwm => if rwmWriter safe who then put else was

/-- Units whose window adds nothing to the access types of its fields. -/
def plainUnits : List Nat := [0x104, 0x105, 0x107, 0x109, 0x10A, 0x10C, 0x10E, 0x112]

/-- REGISTER_WRITE: an aligned write to a register of a unit that is not gated, by a writer the register lets through, writes it by the access
types of its fields and changes nothing else; a write of the running active pair waits in its commit buffer while there is room (R35). -/
def Rules.RegisterWriteWritesItsRegister : Prop :=
  (∀ (s : State) (who : Who) (a : Nat) (v : Word) (d : RegDesc),
    a / 0x100000 ∈ plainUnits → a % 4 = 0 → s.gatedAt a = false → findReg a = some d → d.wr.lets who = true →
    exec (.registerWrite false who a v) s = .next ((s.setRg a (d.write s.safe who (s.rg a) v)).answer .done)) ∧
  (∀ (s : State) (a : Nat) (v : Word), s.pairRuns = true → s.wld.commitBuf.length < 256 →
    exec (.registerWrite true .s a v) s =
      .next { s with wld := { s.wld with commitBuf := s.wld.commitBuf ++ [.reg a v] }, resp := .done })

/-- The refused accesses (R5, R24, R25): each is recorded under its KIND and answered, and nothing else changes. -/
def Rules.RefusedAccessesAreRecordedAndAnswered : Prop :=
  (∀ (s : State) (who : Who) (w : Bool) (a : Nat), (s.region a = .window ∨ s.region a = .doorbell) →
    exec (.misalignedWindowAccess who w a) s = .next ((s.recordBus who a w 3).answer .zero)) ∧
  (∀ (s : State) (who : Who) (core w : Bool) (a : Nat), s.region a = .none →
    exec (.unmappedAccess who core w a) s =
      .next ((s.recordBus who a w 0).answer (if core then .accessFault else .errorResponse))) ∧
  (∀ (s : State) (who : Who) (core w : Bool) (a : Nat), who ≠ .s →
    (s.region a = .rom ∨ s.region a = .safetySram ∨ s.region a = .plateSram) →
    exec (.unmappedAccess who core w a) s =
      .next ((s.recordBus who a w 1).answer (if core then .accessFault else .errorResponse))) ∧
  (∀ (s : State) (who : Who) (w : Bool) (a : Nat), s.region a = .window → s.gatedAt a = true →
    exec (.gatedWindowAccess who w a) s = .next ((s.recordBus who a w 2).answer .zero))

/-- R26: the first refused access is recorded with its attributes and raises source 16; while VALID is 1 a later one sets OVERFLOW and changes
nothing else. -/
def Rules.BusErrorKeepsTheFirstRefusal : Prop :=
  (∀ (s : State) (who : Who) (a kind : Nat) (w : Bool), s.flag F.DEV_BUSERR_VALID = false → a < 2 ^ 48 → kind < 8 →
    let t := s.recordBus who a w kind
    t.flag F.DEV_BUSERR_VALID = true ∧ t.fld F.DEV_BUSERR_KIND = kind ∧ t.flag F.DEV_BUSERR_WRITE = w ∧
    t.flag F.DEV_BUSERR_WORLD = decide (who = .s) ∧ (t.rg Reg.DEV_BUSERR_ADDR_LO).toNat + 2 ^ 32 * (t.rg Reg.DEV_BUSERR_ADDR_HI).toNat = a ∧
    t.isPend 16 = true ∧ SamePendBut [16] s t ∧
    SameRegsBut [Reg.DEV_BUSERR, Reg.DEV_BUSERR_ADDR_LO, Reg.DEV_BUSERR_ADDR_HI] s t ∧ t = { s with regs := t.regs, wld := t.wld }) ∧
  (∀ (s : State) (who : Who) (a kind : Nat) (w : Bool), s.flag F.DEV_BUSERR_VALID = true →
    s.recordBus who a w kind = s.setFld F.DEV_BUSERR_OVERFLOW 1)

/-- R530, as MEMORY_READ answers it: when the word decodes as clean or corrected, a carried ink that differs from the stored one is an ink fault,
else POISON is a poisoned response, else the data return. `s` is the state in which the word has met its upsets and its row is open. -/
def Obligations.MemoryReadDecidedByInkThenPoison : Prop :=
  ∀ (s0 s : State) (r : Req) (addr : Nat) (noise : List (Nat × Byte)) (act : Option RowAct) (d : Decode) (left : List (Nat × Byte)) (copy : Bool) (ink : Nat),
    let a := addr / 32 * 32
    let stored := s.inkAt (s.served a) ^^^ ((SMap.get (fun _ => 0) left 32).toNat % 8)
    let poisoned := xor (s.poisonAt (s.served a)) (bit (SMap.get (fun _ => 0) left 32).toNat 3)
    s0.bound r = true → s0.inWindows a = false → ¬ (r.who = .s ∧ inCheckpoint a = true) → s = s0.meet r a noise act →
    s.region a = .dram → s.inSecondary a = false → s.channelFault (s.channelOf (s.served a)) = none →
    s.sideBadAt (s.served a) = false → s.decoded (s.served a) = (d, left, copy) → d ≠ .uncorrectable → s.carried r.who a = some ink →
    ∃ t, exec (.memoryRead r addr noise act) s0 = .next t ∧
      (ink ≠ stored → t.resp = denial r 2) ∧
      (ink = stored → poisoned = true → t.resp = .poisoned) ∧
      (ink = stored → poisoned = false → ∃ l, s.physRead r.who a 32 = .ok l ∧
        t = (s.noteReads a 32).answer (.data (if r.who = .s ∧ r.core then overlay s.wld.commitBuf a l else l)))

/-- R531, R532: a write of a whole word, or of a part, of DRAM whose checks pass stores its bytes, and nothing else changes but what the store itself
leaves; on-chip SRAM takes its bytes as they are. The active pair's writes wait in the commit buffer (R35). An engine data write of a generation that
is not its client's current one is discarded and counted, and no byte of memory changes (R179). -/
def Rules.MemoryWritesStoreTheirBytes : Prop :=
  (∀ (s0 s : State) (gen : Nat) (r : Req) (addr : Nat) (data : List Byte) (act : Option RowAct),
    let a := addr / 32 * 32
    s0.stale r gen = false → s0.bound r = true → s0.inWindows a = false → ¬ (r.who = .s ∧ inCheckpoint a = true) → s = s0.meet r a [] act → data.length = 32 →
    s.region a = .dram → s.physFault r.who a true true = none →
    exec (.memoryWrite false gen r addr data act) s0 = .next ((s.storeDram a 0 data).flushPlate.answer .done)) ∧
  (∀ (s0 s : State) (gen : Nat) (r : Req) (a : Nat) (data : List Byte) (noise : List (Nat × Byte)) (act : Option RowAct),
    let base := a / 32 * 32
    let old := s.dramBytes base 0 32
    s0.stale r gen = false → s0.bound r = true → s0.inWindows a = false → ¬ (r.who = .s ∧ inCheckpoint a = true) → s = s0.meet r a noise act →
    0 < data.length → a % 32 + data.length ≤ 32 → data.length ≠ 32 → s.region a = .dram → s.physFault r.who a true false = none →
    exec (.partialWrite false gen r a data noise act) s0 =
      .next (((s.noteRead base).storeDram base 0 (old.take (a % 32) ++ data ++ old.drop (a % 32 + data.length))).flushPlate.answer .done)) ∧
  (∀ (s : State) (gen : Nat) (r : Req) (a : Nat) (data : List Byte) (act : Option RowAct), r.who = .s → s.region a = .safetySram → inCheckpoint a = false →
    0 < data.length → a % 32 + data.length ≤ 32 →
    exec (.partialWrite false gen r a data [] act) s = .next ((s.putBytes a data).flushPlate.answer .done)) ∧
  (∀ (s : State) (gen : Nat) (r : Req) (a : Nat) (data : List Byte) (noise : List (Nat × Byte)) (act : Option RowAct),
    r.who = .s → s.pairRuns = true → s.wld.commitBuf.length < 256 →
    exec (.partialWrite true gen r a data noise act) s = .next { s with wld := { s.wld with commitBuf := s.wld.commitBuf ++ [.mem a data] }, resp := .done }) ∧
  (∀ (s : State) (buffered : Bool) (gen n : Nat) (r : Req) (a : Nat) (data : List Byte) (noise : List (Nat × Byte)) (act : Option RowAct),
    r.who = .client n → gen ≠ 0 → gen ≠ (s.client n).gen →
    ∃ t, exec (.memoryWrite buffered gen r a data act) s = .next t ∧ exec (.partialWrite buffered gen r a data noise act) s = .next t ∧
      t = { s with cl := t.cl, resp := .none } ∧ (t.client n).discarded = min ((s.client n).discarded + 1) 0xFFFFFFFF ∧
      (t.client n).gen = (s.client n).gen ∧ ∀ m, m ≠ n → t.client m = s.client m)

/-- The store of a word in DRAM without a mirror: its bytes are the data, its POISON is 0 and its codeword is fresh; every other byte, every ink and
every other word's POISON are unchanged (R531). -/
def Rules.StoreChangesItsWordAlone : Prop :=
  ∀ (s : State) (a : Nat) (data : List Byte), s.copyOf a = none → data.length = 32 → s.served a % 32 = 0 →
    let t := s.storeDram a 0 data
    (∀ i, (h : i < 32) → (h' : i < data.length) → t.byte (s.served a + i) = data[i]) ∧
    (∀ b, (b < s.served a ∨ s.served a + 32 ≤ b) → t.byte b = s.byte b) ∧
    t.poisonAt (s.served a) = false ∧ t.damageAt (s.served a) = [] ∧
    (∀ b, b / 32 ≠ s.served a / 32 → t.poisonAt b = s.poisonAt b ∧ t.damageAt b = s.damageAt b) ∧ t.mc.inks = s.mc.inks ∧
    t = { s with mem := t.mem, mc := { s.mc with poison := t.mc.poison, damage := t.mc.damage, writeback := t.mc.writeback } }

/-- R525 for words with at most one damaged symbol: a clean word is returned as it is; one damaged symbol, of the 36, is found and mended. -/
def Rules.CodeMendsOneDamagedSymbol : Prop :=
  decodeWord [] = (.clean, []) ∧ ∀ (i : Nat) (e : Byte), i < 36 → e ≠ 0 → decodeWord [(i, e)] = (.corrected i, [])

/-- The state after reset: canonical and empty, with the register values the spec gives. -/
def Obligations.ResetLeavesTheSpecsValues : Prop :=
  Rules.ResetIsCanonical ∧ Rules.ResetValuesOfTheSpec

/-- Every command answers a next state in every state, and leaves the queue as it is. -/
def Obligations.EveryCommandAnswersAndKeepsTheQueue : Prop :=
  Rules.NoCommandStopsTheBlock ∧ Rules.NoCommandTouchesTheQueue

/-- Refused accesses are answered and recorded, the first of them with its attributes (R5, R24-R26). -/
def Obligations.RefusedAccessesAreRecorded : Prop :=
  Rules.RefusedAccessesAreRecordedAndAnswered ∧ Rules.BusErrorKeepsTheFirstRefusal

/-- Memory writes store their bytes, and a stored word leaves every other byte, ink and POISON alone (R35, R531, R532). -/
def Obligations.WritesStoreTheirBytesAlone : Prop :=
  Rules.MemoryWritesStoreTheirBytes ∧ Rules.StoreChangesItsWordAlone

/-! The memory controller (13). -/

/-- HEAVY_ROW_WINDOW_CLEAR, REQUEST_AGE_PROMOTION, REFRESH_BATCH and MR4_POLL (R538, R544-R546, R548). -/
def Rules.RowsAgesAndRefreshFollowTheirRules : Prop :=
  (∀ s : State, exec .heavyRowWindowClear s = .next { s with mc := { s.mc with heavy := [], throttled := [] } }) ∧
  (∀ (s : State) (c i : Nat) (q : Queued) (up : Cls) (limit : Nat), (s.mcQueue c)[i]? = some q → s.promoted q.cls = some (up, limit) →
    s.passed q.since (limit * 100) = true →
    exec (.requestAgePromotion c i) s = .next (s.setMcQueue c ((s.mcQueue c).set i { q with cls := up }))) ∧
  (∀ (s : State) (c : Nat), s.fld F.MC_CH_STAT_STATE c < 2 → (s.mcQueue c).isEmpty = true →
    ∃ t, exec (.refreshBatch c) s = .next t ∧ t.fld F.MC_CH_STAT_OWED c = 0 ∧
      SMap.get (fun _ => 0) t.mc.ahead c = min 8 (SMap.get (fun _ => 0) s.mc.ahead c + 1) ∧
      SameRegsBut [Reg.MC_CH_STAT c] s t ∧ t = { s with regs := t.regs, mc := { s.mc with ahead := t.mc.ahead } }) ∧
  (∀ (s : State) (c : Nat), s.fld F.MC_CH_STAT_STATE c < 2 → (s.mcQueue c).isEmpty = false → SMap.get (fun _ => 0) s.mc.ahead c = 0 →
    s.fld F.MC_CH_STAT_REFRESH c = 0 → s.fld F.MC_CH_STAT_OWED c < 8 →
    ∃ t, exec (.refreshBatch c) s = .next t ∧ t.fld F.MC_CH_STAT_OWED c = s.fld F.MC_CH_STAT_OWED c + 1 ∧
      SameRegsBut [Reg.MC_CH_STAT c] s t ∧ t = { s with regs := t.regs }) ∧
  (∀ (s : State) (c ind : Nat), ind < 4 →
    ∃ t, exec (.mr4Poll c ind) s = .next t ∧ t.fld F.MC_CH_STAT_REFRESH c = ind ∧ (0 < ind → t.fld F.MC_CH_STAT_OWED c = 0) ∧
      (ind = 0 → t.fld F.MC_CH_STAT_OWED c = s.fld F.MC_CH_STAT_OWED c) ∧
      t.isPend 53 = (s.isPend 53 || decide (s.fld F.MC_CH_STAT_REFRESH c ≠ ind) || decide (ind = 3)) ∧
      SamePendBut [53] s t ∧ SameRegsBut [Reg.MC_CH_STAT c] s t ∧ t = { s with regs := t.regs, wld := t.wld })

/-- CORRECTION_WRITEBACK and PATROL_READ (R526, R527): a corrected word is written back once; the patrol corrects as any read does, and poisons an
uncorrectable word with the ink of the next word of its page, without a freeze. -/
def Rules.PatrolAndWritebackMendMemory : Prop :=
  (∀ (s : State) (a : Nat), a % 32 = 0 → a ∈ s.mc.writeback →
    ∃ t, exec (.correctionWriteback a) s = .next t ∧ a ∉ t.mc.writeback ∧ (∀ b, b ≠ a → (b ∈ t.mc.writeback → b ∈ s.mc.writeback)) ∧
      t = { s with mem := t.mem, mc := { s.mc with inks := t.mc.inks, poison := t.mc.poison, damage := t.mc.damage, writeback := t.mc.writeback } }) ∧
  (∀ (s0 s : State) (a : Nat) (noise : List (Nat × Byte)) (left : List (Nat × Byte)) (copy : Bool), a % 32 = 0 → s0.region a = .dram →
    s0.fld F.MC_CH_STAT_STATE (s0.channelOf a) = 0 → s = s0.upset a noise → s.decoded a = (.uncorrectable, left, copy) →
    exec (.patrolRead a noise) s0 =
      .next { s.poisonWord a (s.inkAt (nextInPage a)) with mc := { (s.poisonWord a (s.inkAt (nextInPage a))).mc with patrol := a + 32 } }) ∧
  (∀ (s0 s : State) (a : Nat) (noise : List (Nat × Byte)) (d : Decode) (left : List (Nat × Byte)) (copy : Bool), a % 32 = 0 → s0.region a = .dram →
    s0.fld F.MC_CH_STAT_STATE (s0.channelOf a) = 0 → s = s0.upset a noise → s.decoded a = (d, left, copy) → d ≠ .uncorrectable →
    exec (.patrolRead a noise) s0 = .next { s.noteRead a with mc := { (s.noteRead a).mc with patrol := a + 32 } })

/-- R527: a poisoned word holds zero data, POISON 1 and the given ink; every other word keeps its bytes, POISON and ink. -/
def Rules.PoisonedWordHoldsZeroAndItsInk : Prop :=
  ∀ (s : State) (a ink : Nat), s.Canonical → a % 32 = 0 → s.mirrorList = [] →
    let t := s.poisonWord a ink
    (∀ i, i < 32 → t.byte (a + i) = 0) ∧ t.poisonAt a = true ∧ t.inkAt a = ink ∧ t.damageAt a = [] ∧
    (∀ b, (b < a ∨ a + 32 ≤ b) → t.byte b = s.byte b) ∧ (∀ b, b / 32 ≠ a / 32 → t.poisonAt b = s.poisonAt b ∧ t.inkAt b = s.inkAt b)

/-- The causes 3 and 4 of R551 freeze a running channel; a thaw of a frozen one by the S-world (R553), or by itself after FREEZE_LIMIT (R554), takes
its action. -/
def Rules.FreezesAndThawsFollowTheirCauses : Prop :=
  (∀ (s : State) (c : Nat), exec (.commandPathParityError c) s = .next (s.freeze c 3 0 0 0)) ∧
  (∀ (s : State) (c mr : Nat), ∃ t, exec (.modeRegisterReadback c (some mr)) s = .next t ∧
    t = ({ s with mc := { s.mc with mrBad := (c, mr) :: s.mc.mrBad.filter (fun e => e != (c, mr)) } } : State).freeze c 4 0 0 mr) ∧
  (∀ (s : State) (c : Nat) (f : Freeze), s.frz c = some f → s.fld F.MC_CH_STAT_STATE c = 1 → (f.cause = 1 ∨ f.cause = 2) →
    exec (.thawPoison .s c) s = .next (((s.poisonFailing f).thawed c 1 false f).resume c) ∧
    exec (.thawRewriteMr .s c) s = .next (((s.poisonFailing f).thawed c 2 false f).resume c)) ∧
  (∀ (s : State) (c : Nat) (f : Freeze), s.frz c = some f → s.fld F.MC_CH_STAT_STATE c = 1 → (f.cause = 3 ∨ f.cause = 4) →
    exec (.thawPoison .s c) s = .next ((s.thawed c 1 false f).resume c) ∧
    exec (.thawRewriteMr .s c) s =
      .next ((({ s with mc := { s.mc with mrBad := s.mc.mrBad.filter (fun e => e.1 != c) } } : State).thawed c 2 false f).resume c)) ∧
  (∀ (s : State) (c : Nat) (f : Freeze), s.frz c = some f → s.fld F.MC_CH_STAT_STATE c = 1 →
    exec (.thawRetrain .s c) s = .next (s.thawed c 3 false f).startRetrain ∧
    exec (.thawFence .s c) s = .next ((s.setFld F.MC_FRZ_STAT_ACTION 4 c).fenceGroup (c / 4) c)) ∧
  (∀ (s : State) (c : Nat) (f : Freeze), s.frz c = some f → s.passed f.since (s.fld F.MC_FREEZE_LIMIT * 10000) = true →
    exec (.selfThaw c) s = .next (s.thaw c (s.selfAction c f) true)) ∧
  (∀ (s : State) (who : Who) (c : Nat), who ≠ .s →
    exec (.thawPoison who c) s = .next s ∧ exec (.thawRewriteMr who c) s = .next s ∧
    exec (.thawRetrain who c) s = .next s ∧ exec (.thawFence who c) s = .next s)

/-- R551, R552: a running channel that freezes issues no new command: its STATE is 1, `MC_FRZ_STAT` and `MC_FRZ_ADDR` hold the cause and the address,
its source is pending, and the queued requests of requesters other than cores have left; a channel that is not running stays as it is. -/
def Rules.FreezeLatchesItsCause : Prop :=
  (∀ (s : State) (c cause addr ink mr : Nat), s.fld F.MC_CH_STAT_STATE c ≠ 0 → s.freeze c cause addr ink mr = s) ∧
  (∀ (s : State) (c cause addr ink mr : Nat), c < 16 → cause < 8 → addr < 2 ^ 48 → s.fld F.MC_CH_STAT_STATE c = 0 →
    (s.ring .s).enabled = false → (s.ring .med).enabled = false →
    let t := s.freeze c cause addr ink mr
    t.fld F.MC_CH_STAT_STATE c = 1 ∧ t.isPend (32 + c) = true ∧ t.flt.faultN = true ∧
    t.frz c = some ⟨cause, addr, ink, s.cyc, mr⟩ ∧ (∀ q ∈ t.mcQueue c, q.req.core = true) ∧ SameMemory s t ∧
    (t.rg (Reg.MC_FRZ_STAT c)).toNat / 2 ^ 28 = 8 + cause ∧
    (t.rg (Reg.MC_FRZ_ADDR_LO c)).toNat + 2 ^ 32 * (t.rg (Reg.MC_FRZ_ADDR_HI c)).toNat = addr)

/-- WCK_DRIFT, RETRAIN and RETRAIN_ATTEMPT_END (R555, R556, R563): a retraining starts once; an attempt that fails steps the rate down; at the lowest
rate the failing groups are fenced; an attempt that passes ends it. -/
def Rules.RetrainingStepsDownTheRates : Prop :=
  (∀ s : State, exec .wckDrift s = .next s.startRetrain) ∧
  (∀ (s : State) (k : Nat) (p : Started), s.opAt k 0x2403 = some p → exec (.retrain k) s = .next (s.startRetrain.endOp k St.deferred)) ∧
  (∀ (s : State) (failed r0 n : Nat), s.mc.retrain = some (r0, n) → s.unfenced.filter (fun c => bit failed c) = [] →
    exec (.retrainAttemptEnd failed) s = .next (({ s with mc := { s.mc with retrain := some (r0, n + 1) } } : State).retrainPassed (n + 1))) ∧
  (∀ (s : State) (failed r0 n c : Nat), s.mc.retrain = some (r0, n) → c ∈ s.unfenced → bit failed c = true → s.fld F.MC_CFG_RATE < 3 →
    ∃ t, exec (.retrainAttemptEnd failed) s = .next t ∧ t.fld F.MC_CFG_RATE = s.fld F.MC_CFG_RATE + 1 ∧ t.mc.retrain = some (r0, n + 1) ∧
      SameRegsBut [Reg.MC_CFG] s t ∧ t = { s with regs := t.regs, mc := { s.mc with retrain := t.mc.retrain } }) ∧
  (∀ (s : State), s.mc.retrain = none → s.startRetrain.mc.retrain = some (s.fld F.MC_CFG_RATE, 0) ∧
    (∀ c, c ∈ s.unfenced → s.startRetrain.fld F.MC_CH_STAT_STATE c = 2 ∧ s.startRetrain.fld F.MC_CH_STAT_OWED c = 0 ∧
      ∀ q ∈ s.startRetrain.mcQueue c, q.req.core = true))

/-- SCRUB (R57, R58, R534, R535): a scrub that is allowed and meets no stopped channel ends `OK` with its pages in RESULT0, and every word of its range
holds zero data, POISON 0 and the new ink; nothing outside the range and the mirrors' copies of it changes. -/
def Rules.ScrubGivesZeroDataAndTheNewInk : Prop :=
  (∀ (s : State) (k : Nat) (p : Started),
    let lo := p.p64 0
    let hi := lo + 4096 * p.p32 8
    s.Canonical → s.opAt k 0x2400 = some p → p.progress = 0 → p.p32 8 ≠ 0 → lo % 4096 = 0 → dramBase ≤ lo → hi ≤ dramBase + s.usable →
    s.mirrorList = [] → s.scrubStop lo hi = hi → s.sideBadIn lo hi = none →
    RunMap.allIn s.mc.inks (wordNo lo) (wordNo hi) (fun old => scrubAllowed p.ring old (p.p8 12)) = true →
    ∃ t, exec (.scrub k none) s = .next t ∧ t.result k = some ⟨St.ok, p.p32 8, 0, 0, 0⟩ ∧
      (∀ a, lo ≤ a → a < hi → t.byte a = 0 ∧ t.inkAt a = p.p8 12 ∧ t.poisonAt a = false ∧ t.damageAt a = []) ∧
      (∀ a, (a < lo ∨ hi ≤ a) → t.byte a = s.byte a ∧ t.inkAt a = s.inkAt a ∧ t.poisonAt a = s.poisonAt a) ∧
      t = { s with mem := t.mem, cp := t.cp, mc := { s.mc with inks := t.mc.inks, poison := t.mc.poison, damage := t.mc.damage, writeback := t.mc.writeback } }) ∧
  (∀ (s : State) (k : Nat) (p : Started),
    let lo := p.p64 0
    let hi := lo + 4096 * p.p32 8
    s.opAt k 0x2400 = some p → p.progress = 0 → p.p32 8 ≠ 0 → dramBase ≤ lo → hi ≤ dramBase + s.usable →
    s.mirrorList = [] → s.scrubStop lo hi = hi → s.sideBadIn lo hi = none →
    RunMap.allIn s.mc.inks (wordNo lo) (wordNo hi) (fun old => scrubAllowed p.ring old (p.p8 12)) = false →
    exec (.scrub k none) s = .next (s.endOp k St.noPermission))

/-- R58's table: the S-world may scrub any ink to any, the mediator 0, 2, 4, 5, 6 and 7 to all but 1, and a client never. -/
def Rules.ScrubIssuersFollowTheInkTable : Prop :=
  ∀ old new : Nat, old < 8 → new < 8 →
    scrubAllowed .s old new = true ∧
    scrubAllowed .med old new = decide (old ≠ 1 ∧ old ≠ 3 ∧ new ≠ 1) ∧
    ∀ n, scrubAllowed (.client n) old new = false

/-- SLOT_SET, SLOT_TABLE_SWAP and MEM_QUERY (R540, R542, R563). -/
def Rules.SlotTablesSwapAfterTheRebuild : Prop :=
  (∀ (s : State) (k : Nat) (p : Started), s.opAt k 0x2401 = some p → p.p8 0 < 4 → p.p8 1 ≤ 16 → p.p8 2 ≤ 32 →
    s.fld F.MC_SLOT_CFG_ISO_DISP (p.p8 0) + p.p8 2 ≤ 32 →
    ∃ t, exec (.slotSet k) s = .next t ∧ t.result k = some ⟨St.ok, 0, 0, 0, 0⟩ ∧ (∃ q, t.place k = some q ∧ q.held = true) ∧
      t.fld F.MC_SLOT_CFG_SAFE_SLOTS (p.p8 0) = p.p8 1 ∧ t.fld F.MC_SLOT_CFG_ISO_RSV (p.p8 0) = p.p8 2 ∧ t.fld F.MC_SLOT_CFG_PENDING (p.p8 0) = 1 ∧
      t.fld F.MC_SLOT_CFG_ISO_DISP (p.p8 0) = s.fld F.MC_SLOT_CFG_ISO_DISP (p.p8 0) ∧
      SMap.get (fun _ => none) t.mc.shadow (p.p8 0) = some (p.p8 1, s.fld F.MC_SLOT_CFG_ISO_DISP (p.p8 0) + p.p8 2) ∧
      SameRegsBut [Reg.MC_SLOT_CFG (p.p8 0)] s t ∧ t = { s with regs := t.regs, cp := t.cp, mc := t.mc }) ∧
  (∀ (s : State) (k : Nat) (p : Started), s.opAt k 0x2401 = some p → 32 < s.fld F.MC_SLOT_CFG_ISO_DISP (p.p8 0) + p.p8 2 →
    exec (.slotSet k) s = .next (s.endOp k St.busy 0 5)) ∧
  (∀ (s : State) (g : Nat) (x : Nat × Nat), g < 4 → SMap.get (fun _ => none) s.mc.shadow g = some x →
    ∃ t, exec (.slotTableSwap g) s = .next t ∧ SMap.get (fun _ => (0, 0)) t.mc.active g = x ∧ SMap.get (fun _ => none) t.mc.shadow g = none ∧
      t.fld F.MC_SLOT_CFG_PENDING g = 0 ∧ SMap.get (fun _ => []) t.mc.slotWait g = [] ∧
      SameRegsBut [Reg.MC_SLOT_CFG g] s t ∧ t = { s with regs := t.regs, cp := t.cp, mc := t.mc }) ∧
  (∀ (s : State) (k : Nat) (p : Started), s.opAt k 0x2404 = some p →
    (p.p8 0 = 0 → exec (.memQuery k) s = .next (s.endOp k St.ok (s.rg Reg.MC_CFG).toNat)) ∧
    (p.p8 0 = 1 → exec (.memQuery k) s =
      .next (s.endOp k St.ok (s.chStat (p.p8 1)).toNat (s.rg (Reg.MC_CE_DATA (p.p8 1))).toNat (s.rg (Reg.MC_CE_META (p.p8 1))).toNat)) ∧
    (p.p8 0 = 2 → exec (.memQuery k) s = .next (s.endOp k St.ok (s.rg (Reg.MC_SLOT_CFG (p.p8 1))).toNat)))

/-- R540: a slot table has 64 entries, of which SAFE_SLOTS are SAFE and ISO_DISP + ISO_RSV are ISO. -/
def Rules.SlotTableHasItsCounts : Prop :=
  ∀ safe iso : Nat, safe ≤ 16 → iso ≤ 32 →
    (slotTable safe iso).length = 64 ∧ (slotTable safe iso).count .safe = safe ∧ (slotTable safe iso).count .iso = iso

/-- MIRROR_SET, MIRROR_COPY_DONE and MIRROR_RELEASE_DONE (R559, R560, R562, R563). -/
def Rules.MirrorsEstablishCopyAndRelease : Prop :=
  (∀ (s : State) (k : Nat) (p : Started),
    let prim := p.p64 8
    let size := p.p32 16 * 0x200000
    let sec := dramBase + p.p8 2 * (s.usable / 4) + s.groupOff prim
    s.opAt k 0x2402 = some p → p.p8 1 = 0 → p.p8 0 < 8 → p.p8 2 < 4 → dramBase ≤ prim → prim < dramBase + s.usable →
    s.groupOff prim + size ≤ s.usable / 4 → s.groupOf prim ≠ p.p8 2 → s.mirrorList = [] → s.mirror (p.p8 0) = none →
    RunMap.allIn s.mc.inks (wordNo sec) (wordNo (sec + size)) (fun i => i == 0) = true →
    exec (.mirrorSet k) s = .next (((s.setMirror (p.p8 0) (some ⟨prim, sec, size, false⟩)).setRg (Reg.MC_MIRROR (p.p8 0))
      (BitVec.ofNat 32 (2 ^ 30 + s.groupOf prim * 2 ^ 28 + p.p8 2 * 2 ^ 26))).endOp k St.deferred)) ∧
  (∀ (s : State) (k : Nat) (p : Started) (x : Mirror), s.opAt k 0x2402 = some p → p.p8 1 = 1 → s.mirror (p.p8 0) = some x →
    exec (.mirrorSet k) s = .next ((s.setMirror (p.p8 0) (some { x with releasing := true })).endOp k St.deferred)) ∧
  (∀ (s : State) (m : Nat) (x : Mirror), s.mirror m = some x → s.fld F.MC_MIRROR_STATE m = 1 → x.releasing = false →
    exec (.mirrorCopyDone m) s = .next (((s.copyWords x.primary x.secondary x.size).setFld F.MC_MIRROR_STATE 2 m).mirrorEvent m)) ∧
  (∀ (s : State) (m : Nat) (x : Mirror), s.mirror m = some x → x.releasing = true →
    exec (.mirrorReleaseDone m) s =
      .next ((((s.setMirror m none).wipe x.secondary (x.secondary + x.size) 0).setFld F.MC_MIRROR_STATE 0 m).mirrorEvent m))

/-- R560: a copied range holds the bytes of its source; no byte outside it changes. -/
def Rules.MirrorCopyEqualsItsPrimary : Prop :=
  ∀ (s : State) (src dst n : Nat), src % 32 = 0 → dst % 32 = 0 → n % 32 = 0 → 0 < n → (src + n ≤ dst ∨ dst + n ≤ src) → s.Canonical →
    let t := s.copyWords src dst n
    (∀ i, i < n → t.byte (dst + i) = s.byte (src + i)) ∧ (∀ a, (a < dst ∨ dst + n ≤ a) → t.byte a = s.byte a)

/-- Rows, refresh, patrol, writeback, poisoned words and the code (13 R525-R548). -/
def Obligations.MemoryAgesIsPatrolledAndMended : Prop :=
  Rules.RowsAgesAndRefreshFollowTheirRules ∧ Rules.PatrolAndWritebackMendMemory ∧ Rules.PoisonedWordHoldsZeroAndItsInk ∧ Rules.CodeMendsOneDamagedSymbol

/-- Freezing, thawing and retraining (13). -/
def Obligations.FreezesThawAndRetrain : Prop :=
  Rules.FreezesAndThawsFollowTheirCauses ∧ Rules.FreezeLatchesItsCause ∧ Rules.RetrainingStepsDownTheRates

/-- SCRUB, and the inks that each party may scrub from and to (02 R58; 13 R560, R561). -/
def Obligations.ScrubFollowsTheInkTable : Prop :=
  Rules.ScrubGivesZeroDataAndTheNewInk ∧ Rules.ScrubIssuersFollowTheInkTable

/-- The slot tables of a channel (13 R540-R542). -/
def Obligations.SlotTablesAreRebuilt : Prop :=
  Rules.SlotTablesSwapAfterTheRebuild ∧ Rules.SlotTableHasItsCounts

/-- Mirrors (13 R562-R565). -/
def Obligations.MirrorsCopyTheirPrimary : Prop :=
  Rules.MirrorsEstablishCopyAndRelease ∧ Rules.MirrorCopyEqualsItsPrimary

/-! Worlds, interrupts and mailboxes (02). -/

/-- CHECKPOINT_COMMIT, LOCKSTEP_MISMATCH and PAIR_B_RESUME (R35, R38, R40, R43, R44): a commit releases the buffered writes, oldest first; a
mismatch discards them, and pair B takes over where a standby pair is held. -/
def Obligations.PairsCommitDiscardAndTakeOver : Prop :=
  (∀ s : State, s.pairRuns = true →
    exec .checkpointCommit s =
      .next (let t := s.wld.commitBuf.foldl (fun (t : State) b => t.release b) { s with wld := { s.wld with commitBuf := [], taken := 0 } }
        ({ t with wld := { t.wld with commits := t.wld.commits + 1 } }).standbyCopied)) ∧
  (∀ s : State, s.pairRuns = true →
    exec .lockstepMismatch s =
      .next (let t := (({ s with wld := { s.wld with commitBuf := [] } } : State).raise 1).fault 1 0
        match t.noStandby with
        | some cause => t.enterSafe cause 1
        | none => ({ t with wld := { t.wld with switching := some t.cyc } } : State).setFld F.DEV_SPAIR_STAT_STANDBY 0)) ∧
  (∀ (s : State) (c : Nat), s.wld.switching = some c → s.cyc - c < 2 ^ 16 →
    ∃ t, exec .pairBResume s = .next t ∧ t.wld.switching = none ∧ t.wld.pairAHeld = true ∧
      t.fld F.DEV_SPAIR_STAT_ACTIVE = 1 ∧ t.fld F.DEV_SPAIR_STAT_SWITCHED = 1 ∧ t.fld F.DEV_SPAIR_STAT_STANDBY = 0 ∧
      t.fld F.DEV_SPAIR_STAT_SWITCH_TIME = s.cyc - c ∧
      (∀ n, n < 512 → t.isPend n = (s.isPend n || s.wld.taken.getLsbD n || decide (n = 2))) ∧
      SameRegsBut [Reg.DEV_SPAIR_STAT] s t ∧ t = { s with regs := t.regs, wld := { s.wld with
        switching := none, pairAHeld := true, signalled := none, pend := t.wld.pend } })

/-- INT_BAND_WRITE, INT_SACK, SECURE_INTERRUPT_SIGNAL and APLIC_MESSAGE_SEND (R62, R63, R65-R67, R767): what each does to the bands and to the
pending state of the sources. -/
def Rules.InterruptsStayInTheirBands : Prop :=
  (∀ (s : State) (j : Nat) (v : Word), j < 16 →
    ∃ t, exec (.intBandWrite .s j v) s = .next t ∧
      (∀ i, i < 32 → (t.rg (Reg.INT_BAND j)).getLsbD i =
        if srcFixedS (32 * j + i) || srcFixedN (32 * j + i) || srcReserved (32 * j + i) || (s.portBand j).getLsbD i
        then (s.rg (Reg.INT_BAND j)).getLsbD i else v.getLsbD i) ∧
      SamePendBut [] s t ∧ SameRegsBut [Reg.INT_BAND j] s t ∧ t = { s with regs := t.regs, wld := { s.wld with signalled := t.wld.signalled } }) ∧
  (∀ (s : State) (who : Who) (j : Nat) (v : Word), who ≠ .s → exec (.intBandWrite who j v) s = .next s ∧ exec (.intSack who v) s = .next s) ∧
  (∀ (s : State) (v : Word), s.bandS (bitsOf v 8 0) = true → s.levelHolds (bitsOf v 8 0) = false →
    ∃ t, exec (.intSack .s v) s = .next t ∧ t.isPend (bitsOf v 8 0) = false ∧ SamePendBut [bitsOf v 8 0] s t ∧
      t = { s with wld := { s.wld with pend := t.wld.pend, signalled := t.wld.signalled } }) ∧
  (∀ (s : State) (n : Nat), s.pairRuns = true → s.topSource = some n →
    exec .secureInterruptSignal s = .next { s with wld := { s.wld with signalled := some n, taken := s.wld.taken ||| (1#512 <<< n) } }) ∧
  (∀ (s : State) (src : Nat), src < 512 → s.isPend src = true → s.bandS src = false →
    ∃ t, exec (.aplicMessageSend src) s = .next t ∧ t.isPend src = false ∧ t.wld.aplicSent = s.wld.aplicSent ++ [src] ∧ SamePendBut [src] s t ∧
      t = { s with wld := { s.wld with pend := t.wld.pend, aplicSent := t.wld.aplicSent } })

/-- R65: `INT_STOP` shows the pending band-S source of highest priority; the lowest number wins a tie. -/
def Rules.StopShowsTheHighestPrioritySource : Prop :=
  ∀ (s : State) (n : Nat), s.topSource = some n →
    n < 512 ∧ s.isPend n = true ∧ s.bandS n = true ∧ 0 < s.prio n ∧
    (∀ m, m < 512 → s.isPend m = true → s.bandS m = true → s.prio m ≤ s.prio n ∧ (m < n → s.prio m < s.prio n)) ∧
    s.intStop = 2 ^ 31 + s.prio n * 2 ^ 12 + n

/-- R70: a write of `INT_MBX_OWNER[m]` sets both buffers of mailbox m to zero, clears both FULL bits and `INT_MBX_N2S[m]`, and raises source 448 + m
with OWNER_CHANGED set. -/
def Rules.OwnerWriteEmptiesTheMailbox : Prop :=
  ∀ (s : State) (who : Who) (m : Nat) (v : Word), m < 16 → s.mayRwm who = true →
    ∃ t, exec (.intMbxOwnerWrite who m v) s = .next t ∧
      (∀ off, off < 512 → t.mbxByte m off = 0) ∧ (∀ j off, j ≠ m → off < 512 → t.mbxByte j off = s.mbxByte j off) ∧
      t.flag F.INT_MBX_STAT_N2S_FULL m = false ∧ t.flag F.INT_MBX_STAT_S2N_FULL m = false ∧ t.rg (Reg.INT_MBX_N2S m) = 0 ∧
      t.flag F.INT_MBX_STAT_OWNER_CHANGED m = true ∧ t.isPend (448 + m) = true ∧
      t.fld F.INT_MBX_OWNER_CLIENT_OWNED m = bitsOf v 31 31 ∧ t.fld F.INT_MBX_OWNER_CLIENT m = bitsOf v 11 0 ∧
      SamePendBut [448 + m] s t ∧ SameRegsBut [Reg.INT_MBX_OWNER m, Reg.INT_MBX_STAT m, Reg.INT_MBX_N2S m] s t ∧
      t = { s with regs := t.regs, wld := { s.wld with mbx := t.wld.mbx, pend := t.wld.pend } }

/-- R75: the owner's doorbell: accepted, it sets N2S_FULL, latches LEN and SEQ and raises source 448 + m; otherwise it sets REFUSED and is ignored; and
while N2S_FULL is 1, the owner's writes to the N2S buffer are ignored. -/
def Obligations.DoorbellPostsOneMessage : Prop :=
  (∀ (s : State) (who : Who) (m : Nat) (v : Word), m < 16 → s.mbxOwner who m = true → s.flag F.INT_MBX_SCTRL_ENABLE m = true →
    s.flag F.INT_MBX_STAT_N2S_FULL m = false → bitsOf v 8 0 ≤ 256 →
    ∃ t, exec (.mbxDoorbell who m v) s = .next t ∧ t.flag F.INT_MBX_STAT_N2S_FULL m = true ∧
      t.fld F.INT_MBX_N2S_LEN m = bitsOf v 8 0 ∧ t.fld F.INT_MBX_N2S_SEQ m = bitsOf v 31 16 ∧ t.isPend (448 + m) = true ∧
      SamePendBut [448 + m] s t ∧ SameRegsBut [Reg.INT_MBX_STAT m, Reg.INT_MBX_N2S m] s t ∧
      t = { s with regs := t.regs, wld := { s.wld with pend := t.wld.pend } }) ∧
  (∀ (s : State) (who : Who) (m : Nat) (v : Word), m < 16 → s.mbxOwner who m = true →
    (s.flag F.INT_MBX_SCTRL_ENABLE m = false ∨ s.flag F.INT_MBX_STAT_N2S_FULL m = true ∨ 256 < bitsOf v 8 0) →
    exec (.mbxDoorbell who m v) s = .next (s.setFld F.INT_MBX_STAT_REFUSED 1 m)) ∧
  (∀ (s : State) (who : Who) (m off : Nat) (v : Word), who ≠ .s → s.flag F.INT_MBX_STAT_N2S_FULL m = true → off < 256 →
    exec (.mbxBufferWrite who m off v) s = .next s)

/-- MBX_BUFFER_WRITE, MBX_TAKE and MBX_SEND (R71-R73, R77): a word lands in its buffer, low byte first; TAKE frees the N2S buffer; SEND posts the
reply while none waits. -/
def Rules.MailboxesCarryMessagesAndReplies : Prop :=
  (∀ (s : State) (who : Who) (m off : Nat) (v : Word), m < 16 → off % 4 = 0 →
    ((off < 256 ∧ s.mbxOwner who m = true ∧ s.flag F.INT_MBX_STAT_N2S_FULL m = false) ∨ (256 ≤ off ∧ off < 512 ∧ who = .s)) →
    ∃ t, exec (.mbxBufferWrite who m off v) s = .next t ∧
      (∀ i, i < 4 → t.mbxByte m (off + i) = BitVec.ofNat 8 (v.toNat / 2 ^ (8 * i))) ∧
      (∀ j o, o < 512 → (j ≠ m ∨ o < off ∨ off + 4 ≤ o) → t.mbxByte j o = s.mbxByte j o) ∧
      t = { s with wld := { s.wld with mbx := t.wld.mbx } }) ∧
  (∀ (s : State) (m : Nat) (v : Word), m < 16 → v.getLsbD 30 = true → v.getLsbD 29 = false →
    ∃ t, exec (.mbxTake .s m v) s = .next t ∧ t.flag F.INT_MBX_STAT_N2S_FULL m = false ∧ t.flag F.INT_MBX_STAT_OWNER_CHANGED m = false ∧
      t.fld F.INT_MBX_SCTRL_ENABLE m = bitsOf v 31 31 ∧ t.fld F.INT_MBX_STAT_ENABLED m = bitsOf v 31 31 ∧
      SameRegsBut [Reg.INT_MBX_SCTRL m, Reg.INT_MBX_STAT m] s t ∧ t = { s with regs := t.regs }) ∧
  (∀ (s : State) (m : Nat) (v : Word), m < 16 → v.getLsbD 29 = true → s.flag F.INT_MBX_STAT_S2N_FULL m = false → bitsOf v 24 16 ≤ 256 →
    ∃ t, exec (.mbxSend .s m v) s = .next t ∧ t.flag F.INT_MBX_STAT_S2N_FULL m = true ∧
      t.fld F.INT_MBX_STAT_S2N_LEN m = bitsOf v 24 16 ∧ t.fld F.INT_MBX_STAT_S2N_SEQ m = bitsOf v 15 0 ∧ t.isPend (464 + m) = true ∧
      SamePendBut [464 + m] s t ∧ SameRegsBut [Reg.INT_MBX_SCTRL m, Reg.INT_MBX_STAT m] s t ∧
      t = { s with regs := t.regs, wld := { s.wld with pend := t.wld.pend } }) ∧
  (∀ (s : State) (who : Who) (m : Nat) (v : Word), who ≠ .s → exec (.mbxTake who m v) s = .next s ∧ exec (.mbxSend who m v) s = .next s)

/-- Interrupt bands, acknowledgement and priority (02 R61-R67, R767). -/
def Obligations.InterruptsFollowBandsAndPriority : Prop :=
  Rules.InterruptsStayInTheirBands ∧ Rules.StopShowsTheHighestPrioritySource

/-- Mailboxes (02 R69-R76). -/
def Obligations.MailboxesCarryMessages : Prop :=
  Rules.OwnerWriteEmptiesTheMailbox ∧ Rules.MailboxesCarryMessagesAndReplies

/-! Rings and packets (03). -/

/-- The doorbells (R103, R105, R106, R117, R144, R145): the owner's write of a legal index moves the tail or the head, and a tail or a resume
brings a client's set into a slot; a write of another requester does nothing; a tail or a resume out of range, or for a set out of service, is ignored with
DOOR_BAD. -/
def Rules.DoorbellsMoveTheirIndexes : Prop :=
  (∀ (s : State) (who : Who) (r : RingId) (v : Word), doorOwner who r = true → (s.ring r).enabled = true → (s.ring r).draining = false →
    doorIndex v < 2 ^ (s.ring r).sqLog →
    exec (.sqTailDoorbell who r v) s = .next ((s.setRing r { s.ring r with sqTail := doorIndex v }).wantResident r)) ∧
  (∀ (s : State) (who : Who) (r : RingId) (v : Word), doorOwner who r = true → (s.ring r).enabled = true →
    headReaches (s.ring r).cqHead (s.ring r).cqTail (s.ring r).cqLog (doorIndex v) = true → (s.ring r).stalled = [] → (s.ring r).haltOwed = none →
    exec (.cqHeadDoorbell who r v) s = .next (s.setRing r { s.ring r with cqHead := doorIndex v })) ∧
  (∀ (s : State) (who : Who) (r : RingId) (v : Word), doorOwner who r = true → (s.ring r).enabled = true →
    headReaches (s.ring r).eqHead (s.ring r).eqTail (s.ring r).eqLog (doorIndex v) = true → (s.ring r).lost = 0 →
    exec (.eqHeadDoorbell who r v) s = .next (s.setRing r { s.ring r with eqHead := doorIndex v })) ∧
  (∀ (s : State) (who : Who) (r : RingId) (v : Word), doorOwner who r = true → (s.ring r).enabled = true → (s.ring r).halted = true →
    doorIndex v < 2 ^ (s.ring r).sqLog →
    exec (.sqResume who r v) s = .next ((s.setRing r { s.ring r with sqHead := doorIndex v, halted := false }).wantResident r)) ∧
  (∀ (s : State) (who : Who) (r : RingId) (v : Word), doorOwner who r = false →
    exec (.sqTailDoorbell who r v) s = .next s ∧ exec (.cqHeadDoorbell who r v) s = .next s ∧
    exec (.eqHeadDoorbell who r v) s = .next s ∧ exec (.sqResume who r v) s = .next s) ∧
  (∀ (s : State) (who : Who) (r : RingId) (v : Word), doorOwner who r = true →
    ((s.ring r).enabled = false ∨ 2 ^ (s.ring r).sqLog ≤ doorIndex v) →
    exec (.sqTailDoorbell who r v) s = .next (s.doorBad r 0 v) ∧ exec (.sqResume who r v) s = .next (s.doorBad r 0xC v))

/-- PACKET_START (R116-R118, R121, R125-R127): the packet at the head of a ready ring that no other outranks passes its checks and starts, or waits on
its fence; or a check refuses it with its status; or ENTRIES outside 1 to 64 halts the ring. -/
def Rules.PacketsStartWaitOrAreRefused : Prop :=
  (∀ (s s1 s2 : State) (r : RingId) (head raw : List Byte),
    let x := s.ring r
    let n := leAt head 2 1
    let p := parsePacket raw x.sqHead
    s.headReady r = true → s.dmaRead (ringWho r) (x.sqAddr x.sqHead) 64 = (.ok head, s1) → 1 ≤ n → n ≤ 64 → n ≤ x.sqCount → x.canReserve = true →
    s1.mayStart r = true → s1.outranked r = false → State.readEntries r x n x.sqHead [] s1 = (.ok raw, s2) →
    (∀ st r0, (s2.reserve r).refusal r raw p = some (st, r0) →
      exec (.packetStart r) s = .next (((s2.reserve r).passHead r n).refuse r p st r0)) ∧
    ((s2.reserve r).refusal r raw p = none → ∀ s3 : State, (s2.reserve r).waitHolds r p = (.ok true, s3) → s3.mayStart r = true →
      exec (.packetStart r) s = .next (s3.start r p)) ∧
    ((s2.reserve r).refusal r raw p = none → ∀ s3 : State, (s2.reserve r).waitHolds r p = (.ok false, s3) →
      exec (.packetStart r) s = .next (s3.setRing r { s3.ring r with wait := some (p, (s2.reserve r).cyc) }))) ∧
  (∀ (s s1 : State) (r : RingId) (head : List Byte),
    let x := s.ring r
    s.headReady r = true → s.dmaRead (ringWho r) (x.sqAddr x.sqHead) 64 = (.ok head, s1) → (leAt head 2 1 = 0 ∨ 64 < leAt head 2 1) → x.canReserve = true →
    exec (.packetStart r) s =
      .next (((s1.haltRing r 0).reserve r).refuse r { parsePacket head x.sqHead with entries := 0 } St.badLength 0))

/-- R116: the checks 3 to 7 refuse with their statuses, in their order. -/
def Rules.ChecksRefuseInTheirOrder : Prop :=
  ∀ (s : State) (r : RingId) (raw : List Byte) (p : Packet),
    (bit p.flags 4 = true → crc32c (zeroed raw 12 4) ≠ leAt raw 12 4 → s.refusal r raw p = some (St.checkFailed, 0)) ∧
    (bit p.flags 4 = false → 32 ≤ p.flags → s.refusal r raw p = some (St.badOpcode, 0x80000003)) ∧
    (bit p.flags 4 = false → p.flags < 32 → opSpec p.opcode = none → s.refusal r raw p = some (St.badOpcode, 0x80000000)) ∧
    (∀ o, bit p.flags 4 = false → p.flags < 32 → opSpec p.opcode = some o →
      (bit p.flags 3 = true → o.lock = false → s.refusal r raw p = some (St.badOpcode, 0x80000003)) ∧
      ((bit p.flags 3 = false ∨ o.lock = true) →
        (p.client ≠ ringClient r → s.refusal r raw p = some (St.badClient, 0)) ∧
        (∀ n, r = .client n → p.client = n → p.gen ≠ (s.client n).gen → s.refusal r raw p = some (St.staleContext, 0)) ∧
        (∀ n, r = .client n → p.client = n → p.gen = (s.client n).gen → s.maySubmit r o p = false → s.refusal r raw p = some (St.noPermission, 0))))

/-- FENCE_EVALUATE and FENCE_TIMEOUT (R121, R122): a wait that holds starts its packet; one that has not held for the fence timeout, and no earlier,
ends with FENCE_TIMEOUT. -/
def Rules.FencesReleaseOrTimeOut : Prop :=
  (∀ (s s1 : State) (r : RingId) (p : Packet) (since : Nat), (s.ring r).wait = some (p, since) → s.waitHolds r p = (.ok true, s1) → s1.mayStart r = true →
    exec (.fenceEvaluate r) s = .next (s1.start r p)) ∧
  (∀ (s s1 : State) (r : RingId) (p : Packet) (since : Nat), (s.ring r).wait = some (p, since) →
    (s.waitHolds r p = (.ok false, s1) →
      s.passed since ((if (s.ring r).fenceTmo = 0 then 100 else (s.ring r).fenceTmo) * 1000000) = true →
      exec (.fenceTimeout r) s = .next ((s1.passHead r p.entries).refuse r p St.fenceTimeout 0)) ∧
    (s.passed since ((if (s.ring r).fenceTmo = 0 then 100 else (s.ring r).fenceTmo) * 1000000) = false →
      exec (.fenceTimeout r) s = .next s))

/-- PACKET_COMPLETE (R123, R124, R131): an operation that has ended writes its signal where its status calls for one, then its completion entry, and
its place is free. -/
def Rules.CompletionFollowsTheSignal : Prop :=
  (∀ (s : State) (k : Nat) (p : Started) (x : Result), s.place k = some p → p.result = some x → p.held = false → bit p.pkt.flags 1 = false →
    bit p.pkt.flags 2 = false →
    exec (.packetComplete k) s = .next ((s.setPlace k none).complete p.ring p.pkt (p.finalResult x))) ∧
  (∀ (s s1 : State) (k : Nat) (p : Started) (x : Result), s.place k = some p → p.result = some x → p.held = false → bit p.pkt.flags 1 = true →
    bit p.pkt.flags 2 = false → ((p.finalResult x).status = St.ok ∨ (p.finalResult x).status = St.restarted ∨ (p.finalResult x).status = St.deferred) →
    (s.setPlace k none).dmaWrite (ringWho p.ring) p.pkt.sigAddr (leBytes 8 p.pkt.sigValue) = (none, s1) →
    exec (.packetComplete k) s = .next (s1.complete p.ring p.pkt (p.finalResult x))) ∧
  (∀ (s : State) (k : Nat) (p : Started) (x : Result), s.place k = some p → p.result = some x → p.held = false → bit p.pkt.flags 1 = false →
    bit p.pkt.flags 2 = true → ((p.finalResult x).status = St.ok ∨ (p.finalResult x).status = St.restarted) →
    exec (.packetComplete k) s = .next ((s.setPlace k none).unreserve p.ring))

/-- R129, R130: a completion entry written at the tail of its ring advances the tail by one, releases the reservation, and raises source 8 for the S
ring and source 288 for the mediator ring. -/
def Rules.CompletionEntryAdvancesTheTail : Prop :=
  ∀ (s s1 : State) (r : RingId) (p : Packet) (x : Result), (s.ring r).stalled = [] →
    s.dmaWrite (ringWho r) ((s.ring r).cqBase + 32 * (s.ring r).cqTail) (completionBytes p x (((s.ring r).cqPass + 1) % 2)) = (none, s1) →
    ∃ t, s.complete r p x = t ∧ (t.ring r).cqTail = ((s1.ring r).cqTail + 1) % 2 ^ (s1.ring r).cqLog ∧
      (t.ring r).reserved = (s1.ring r).reserved - 1 ∧ t.mem = s1.mem ∧ t.regs = s1.regs ∧
      (r = .s → t.isPend 8 = true) ∧ (r = .med → t.isPend 288 = true)

/-- The layout of a completion entry (R129): 32 bytes, with TAG, STATUS, CLIENT, PHASE, GENERATION and RESULT0 to RESULT3 at their offsets. -/
def Rules.CompletionEntryHoldsItsFields : Prop :=
  ∀ (p : Packet) (x : Result) (phase : Nat), p.tag < 2 ^ 32 → x.status < 2 ^ 16 → p.client < 4096 → phase < 2 → p.gen < 2 ^ 16 → p.opcode < 2 ^ 16 →
    x.r0 < 2 ^ 32 → x.r1 < 2 ^ 32 → x.r2 < 2 ^ 32 → x.r3 < 2 ^ 32 →
    let l := completionBytes p x phase
    l.length = 32 ∧ leAt l 0 4 = p.tag ∧ leAt l 4 2 = x.status ∧ leAt l 6 2 = p.client + 0x8000 * phase ∧ leAt l 8 2 = p.gen ∧
    leAt l 10 2 = p.opcode ∧ leAt l 16 4 = x.r0 ∧ leAt l 20 4 = x.r1 ∧ leAt l 24 4 = x.r2 ∧ leAt l 28 4 = x.r3

/-- NOP, TIME_READ, RING_QUERY, EVENT_MASK and CONTEXT_RESIDENT (R134; 04 R169). -/
def Rules.DeviceOperationsAnswer : Prop :=
  (∀ (s : State) (k : Nat) (p : Started), s.opAt k 0x0000 = some p → exec (.nop k) s = .next (s.endOp k St.ok)) ∧
  (∀ (s : State) (k : Nat) (p : Started), s.opAt k 0x0005 = some p →
    exec (.timeRead k) s = .next (s.endOp k St.ok (s.devTime % 2 ^ 32) (s.devTime / 2 ^ 32 % 2 ^ 32))) ∧
  (∀ (s : State) (k : Nat) (p : Started), s.opAt k 0x0003 = some p →
    let r := RingId.client (p.p16 0)
    exec (.ringQuery k) s =
      .next (s.endOp k St.ok (s.doorStat r) ((s.ring r).sqHead * 0x10000 + (s.ring r).cqTail) (s.ring r).eqTail (s.inExec r))) ∧
  (∀ (s : State) (k : Nat) (p : Started), s.opAt k 0x0004 = some p →
    exec (.eventMask k) s = .next ((s.setRing p.ring { s.ring p.ring with mask := p.p16 0 }).endOp k St.ok)) ∧
  (∀ (s : State) (n : Nat), s.cp.waiting = [n] → s.cp.resident.length < 128 →
    exec .contextResident s = .next { s with cp := { s.cp with resident := s.cp.resident ++ [n], waiting := [] } })

/-- R129, R132: an operation that ends holds its completion in its place; every other place and the rest of the state are unchanged. -/
def Rules.EndedOperationHoldsItsCompletion : Prop :=
  ∀ (s : State) (k st r0 r1 r2 r3 : Nat) (p : Started), s.place k = some p →
    let t := s.endOp k st r0 r1 r2 r3
    t.place k = some { p with result := some ⟨st, r0, r1, r2, r3⟩ } ∧ (∀ j, j ≠ k → t.place j = s.place j) ∧
    t = { s with cp := { s.cp with places := t.cp.places } }

/-- RING_SETUP, RING_DISABLE, RING_SET_DRAINED, PRING_ENABLE and PRING_DISABLE (R134-R137, R140, R769). -/
def Rules.RingSetsComeAndGo : Prop :=
  (∀ (s : State) (k : Nat) (p : Started), s.opAt k 0x0001 = some p → p.p16 0 < 4096 → ¬ (p.ring = .med ∧ s.isSGuest (p.p16 0) = true) →
    (s.ring (.client (p.p16 0))).enabled = false →
    ∃ t, exec (.ringSetup k) s = .next t ∧ t.result k = some ⟨St.ok, 0, 0, 0, 0⟩ ∧
      (let x := t.ring (.client (p.p16 0))
       x.enabled = true ∧ x.sqLog = p.p8 2 ∧ x.cqLog = p.p8 3 ∧ x.eqLog = p.p8 4 ∧ x.rank = p.p8 5 ∧ x.fenceTmo = p.p16 6 ∧
       x.sqBase = p.p64 8 ∧ x.cqBase = p.p64 16 ∧ x.eqBase = p.p64 24 ∧ x.classMask = p.p16 32 ∧
       x.sqHead = 0 ∧ x.sqTail = 0 ∧ x.cqHead = 0 ∧ x.cqTail = 0 ∧ x.eqHead = 0 ∧ x.eqTail = 0) ∧
      (t.client (p.p16 0)).credit = 0 ∧ (∀ r, r ≠ .client (p.p16 0) → t.ring r = s.ring r) ∧ t = { s with cp := t.cp, cl := t.cl }) ∧
  (∀ (s : State) (k : Nat) (p : Started), s.opAt k 0x0002 = some p → p.progress = 0 → (s.client (p.p16 0)).resetting = false →
    (s.ring (.client (p.p16 0))).draining = false →
    ((s.ring (.client (p.p16 0))).enabled = false → exec (.ringDisable k) s = .next (s.endOp k St.ok)) ∧
    ((s.ring (.client (p.p16 0))).enabled = true →
      exec (.ringDisable k) s = .next ((s.beginDrain (.client (p.p16 0)) (some k)).setProgress k 1))) ∧
  (∀ (s : State) (n k : Nat) (p : Started),
    let x := s.ring (.client n)
    x.enabled = true → x.draining = true → x.stalled = [] → s.inExec (.client n) = 0 → x.disableBy = some k → s.place k = some p →
    ∃ t, exec (.ringSetDrained (.client n)) s = .next t ∧ t.ring (.client n) = RingSet.off ∧ n ∉ t.cp.resident ∧ n ∉ t.cp.waiting ∧
      t.result k = some ⟨St.ok, x.dropped, 0, 0, 0⟩ ∧ t = { s with cp := t.cp }) ∧
  (∀ (s : State) (who : Who) (p : Nat) (v : Word), p < 2 → s.fw.recovery = false → s.pringWriter who p = true →
    (s.rg (pringReg p 0)).getLsbD 31 = false → (s.ring (pringId p)).enabled = false → v.getLsbD 31 = true → pringValid v = true →
    ∃ t, exec (.pringEnable who p v) s = .next t ∧ (t.ring (pringId p)).enabled = true ∧ (t.rg (pringReg p 0)).getLsbD 31 = true ∧
      (t.ring (pringId p)).sqLog = bitsOf v 21 17 ∧ (t.ring (pringId p)).cqLog = bitsOf v 26 22 ∧ (t.ring (pringId p)).eqLog = bitsOf v 30 27 ∧
      SameRegsBut [pringReg p 0] s t ∧ t = { s with regs := t.regs, cp := t.cp }) ∧
  (∀ (s : State) (who : Who) (p : Nat) (v : Word), s.pringWriter who p = true → (s.rg (pringReg p 0)).getLsbD 31 = true → v.getLsbD 31 = false →
    exec (.pringDisable who p v) s =
      .next ((s.setRg (pringReg p 0) (putBits (s.rg (pringReg p 0)) 31 31 0)).beginDrain (pringId p) none))

/-- The end of a packet: its signal, its completion entry and the tail (03 R128-R131, R145). -/
def Obligations.CompletionsFollowTheirSignals : Prop :=
  Rules.CompletionFollowsTheSignal ∧ Rules.CompletionEntryAdvancesTheTail ∧ Rules.CompletionEntryHoldsItsFields

/-- A packet is checked, waits for its fence, and starts (03 R119-R127, R133). -/
def Obligations.PacketsAreCheckedAndStarted : Prop :=
  Rules.PacketsStartWaitOrAreRefused ∧ Rules.ChecksRefuseInTheirOrder ∧ Rules.FencesReleaseOrTimeOut

/-- The device operations, and what ending an operation leaves (03 R129, R134-R141). -/
def Obligations.OperationsEndWithTheirCompletion : Prop :=
  Rules.DeviceOperationsAnswer ∧ Rules.EndedOperationHoldsItsCompletion

/-- Doorbells and ring sets (03 R116-R118, R134-R137, R140, R769). -/
def Obligations.DoorbellsAndRingSets : Prop :=
  Rules.DoorbellsMoveTheirIndexes ∧ Rules.RingSetsComeAndGo

/-! Clients, sharing and PCIe (04). -/

/-- INSTANCE_QUERY, DEVCTX_SET, CLIENT_BIND and IOTLB_INVAL (R158, R186-R191): each ends `OK` with its effect, and the translations it makes stale
are forgotten. -/
def Rules.TranslationFollowsItsBindings : Prop :=
  (∀ (s : State) (k : Nat) (p : Started), s.opAt k 0x0400 = some p →
    ∃ t st r1 r2, exec (.instanceQuery k) s = .next t ∧ st < 4 ∧
      t.result k = some ⟨St.ok, st * 2 ^ 16 + (s.client (p.p16 0 % 4096)).gen, r1, r2, (s.client (p.p16 0 % 4096)).discarded⟩ ∧
      ((s.client (p.p16 0 % 4096)).resetting = true → st = 2) ∧ t = { s with cp := { s.cp with places := t.cp.places } }) ∧
  (∀ (s : State) (k : Nat) (p : Started), s.opAt k 0x0404 = some p →
    ∃ t, exec (.devctxSet k) s = .next t ∧ t.result k = some ⟨St.ok, 0, 0, 0, 0⟩ ∧
      SMap.get (fun _ => none) t.cl.devctx (p.p8 0) = some ⟨p.p8 1, p.p16 2, p.p64 8⟩ ∧
      (∀ d, d ≠ p.p8 0 → SMap.get (fun _ => none) t.cl.devctx d = SMap.get (fun _ => none) s.cl.devctx d) ∧
      (∀ e, e ∈ t.cl.tlb ↔ e ∈ s.cl.tlb ∧ e.dc ≠ p.p8 0) ∧ t = { s with cp := t.cp, cl := t.cl }) ∧
  (∀ (s : State) (k : Nat) (p : Started), s.opAt k 0x0405 = some p → (s.client (p.p16 0 % 4096)).resetting = false →
    ∃ t, exec (.clientBind k) s = .next t ∧ t.result k = some ⟨St.ok, 0, 0, 0, 0⟩ ∧
      (t.client (p.p16 0 % 4096)).bind = some ⟨p.p8 2, p.p8 3, p.p32 4, p.p64 8⟩ ∧ (∀ n, n ≠ p.p16 0 % 4096 → t.client n = s.client n) ∧
      (∀ e, e ∈ t.cl.tlb ↔ e ∈ s.cl.tlb ∧ e.client ≠ p.p16 0 % 4096) ∧ t = { s with cp := t.cp, cl := t.cl }) ∧
  (∀ (s : State) (k : Nat) (p : Started), s.opAt k 0x0406 = some p →
    ∃ t, exec (.iotlbInval k) s = .next t ∧ t.result k = some ⟨St.ok, 0, 0, 0, 0⟩ ∧
      (∀ e, e ∈ t.cl.tlb ↔ e ∈ s.cl.tlb ∧ invalHits p e = false) ∧ t = { s with cp := t.cp, cl := { s.cl with tlb := t.cl.tlb } })

/-- SHARE_SET, QUANTUM_BOUNDARY, GRANT and RESOURCE_REMOVAL (R161-R167, R171-R175). -/
def Rules.SharesAndGrantsFollowTheirQuotas : Prop :=
  (∀ (s : State) (k : Nat) (p : Started),
    let t := p.p16 0 % 4096
    s.opAt k 0x0402 = some p → p.progress = 0 → s.overCommit p t = none → (bit (p.p8 2) 0 = true ∨ s.underHeld p t = none) →
    ∃ u, exec (.shareSet k) s = .next u ∧ (u.client t).shares = (s.client t).shares ++ [⟨k, p.ring, bit (p.p8 2) 0, p.p8 3, p.p8 4, p.p8 5, p.p8 6, p.p8 7, p.p8 8⟩] ∧
      (∀ n, n ≠ t → u.client n = s.client n) ∧ (u.client t).weight = (s.client t).weight ∧ u.result k = none ∧ u = { s with cp := u.cp, cl := u.cl }) ∧
  (∀ (s : State) (k off : Nat) (p : Started), s.opAt k 0x0402 = some p → p.progress = 0 → s.overCommit p (p.p16 0 % 4096) = some off →
    exec (.shareSet k) s = .next (s.endOp k St.busy off 1)) ∧
  (∀ s : State, s.cl.clients.all (fun e => (s.client e.1).shares.isEmpty) = true → s.cp.resident.length < 128 →
    ∃ t, exec .quantumBoundary s = .next t ∧ (∀ n, n < 4096 → (s.ring (.client n)).enabled = true → (t.client n).credit = (s.client n).weight) ∧
      (∀ n, (t.client n).gen = (s.client n).gen ∧ (t.client n).weight = (s.client n).weight) ∧ t = { s with cl := { s.cl with clients := t.cl.clients } }) ∧
  (∀ (s : State) (k : Nat) (p : Started),
    let t := p.p16 0 % 4096
    s.opAt k 0x0403 = some p → p.p8 3 = 0 → p.p8 2 = 1 → s.hasOutput (p.p16 6) t = false →
    exec (.grant k) s = .next ((s.endOp k St.ok).give 1 (p.p16 6) t p.ring)) ∧
  (∀ (s : State) (k : Nat) (p : Started),
    let t := p.p16 0 % 4096
    s.opAt k 0x0403 = some p → p.p8 3 = 1 → s.holds (p.p8 2) (p.p16 6) t = true →
    exec (.grant k) s = .next ((s.endOp k St.deferred).takeFrom (p.p8 2) (p.p16 6) t p.ring none)) ∧
  (∀ (s : State) (i : Nat) (r : Removal), s.cl.removals[i]? = some r → s.removalDue r = true →
    exec (.resourceRemoval i) s = .next (({ s with cl := { s.cl with removals := s.cl.removals.eraseIdx i } } : State).removalEffect r))

/-- INSTANCE_RESET and INSTANCE_RESET_DONE (R153, R177-R180): the client's GENERATION moves on, never to 0; the reset ends once no operation of the old
generation remains. -/
def Rules.InstanceResetMovesTheGeneration : Prop :=
  (∀ g : Nat, g < 2 ^ 16 → nextGen g ≠ 0 ∧ nextGen g < 2 ^ 16 ∧ (g < 0xFFFF → nextGen g = g + 1) ∧ nextGen 0xFFFF = 1) ∧
  (∀ (s : State) (k : Nat) (p : Started),
    let t := p.p16 0 % 4096
    s.opAt k 0x0401 = some p → p.progress = 0 → (s.client t).resetting = false → (s.ring (.client t)).enabled = true →
    exec (.instanceReset k) s = .next ((s.setProgress k 1).startReset t (some k))) ∧
  (∀ (s : State) (c : Nat), (s.client c).resetting = true → (s.client c).resetBy = none → s.oldWork c = false →
    exec (.instanceResetDone c) s =
      .next ((((s.setClient c { s.client c with resetting := false, resetBy := none }).event (.client c) 0x0401 noInst (s.client c).gen
        (s.client c).discardedC (s.client c).discardedW).wantResident (.client c)).finishFlr))

/-- The PCIe endpoint (R192-R198; 20 R741): a mapped request acts as its client; an unmapped one is unsupported; a function reset resets every client
of the function; the link, its reset and its errors are recorded. -/
def Rules.PcieActsForItsClients : Prop :=
  (∀ (s : State) (k : Nat) (p : Started),
    let t := p.p16 2 % 4096
    let pasid := if bit (p.p8 1) 0 then none else some (p.p32 4)
    s.opAt k 0x0407 = some p → bit (p.p8 1) 1 = false → s.cl.pasids.any (fun m => m.client == t || (m.fn == p.p8 0 && m.pasid == pasid)) = false →
    ∃ u, exec (.pasidMap k) s = .next u ∧ u.result k = some ⟨St.ok, 0, 0, 0, 0⟩ ∧ u.cl.pasids = s.cl.pasids ++ [⟨p.p8 0, pasid, t, p.p8 8⟩] ∧
      u = { s with cp := u.cp, cl := { s.cl with pasids := u.cl.pasids } }) ∧
  (∀ (s s1 : State) (fn : Nat) (pasid : Option Nat) (c a n : Nat) (l : List Byte), s.pcieOn = true → s.flag F.PCIE_LINK_STAT_PERST = false →
    s.safe = false → s.pcieClient fn pasid = some c → s.unitRead (.client c) a n = (.ok l, s1) →
    exec (.pcieInboundRequest fn pasid (.read a n)) s = .next (s1.answer (.data l))) ∧
  (∀ (s s1 : State) (fn : Nat) (pasid : Option Nat) (c a : Nat) (l : List Byte), s.pcieOn = true → s.flag F.PCIE_LINK_STAT_PERST = false →
    s.safe = false → s.pcieClient fn pasid = some c → s.unitWrite (.client c) a l = (none, s1) →
    exec (.pcieInboundRequest fn pasid (.write a l)) s = .next (s1.answer .done)) ∧
  (∀ (s : State) (fn : Nat) (pasid : Option Nat) (q : PcieReq), s.pcieOn = true → s.flag F.PCIE_LINK_STAT_PERST = false →
    (s.safe = true ∨ s.pcieClient fn pasid = none ∨ q = .ats) → exec (.pcieInboundRequest fn pasid q) s = .next (s.answer .unsupported)) ∧
  (∀ (s : State) (fn : Nat), s.pcieOn = true → s.flag F.PCIE_LINK_STAT_PERST = false → exec (.pcieFlr fn) s = .next ((s.startFlr fn).finishFlr)) ∧
  (∀ s : State, s.pcieOn = true →
    exec (.pciePerst false) s = .next (s.setFld F.PCIE_LINK_STAT_PERST 0) ∧
    (s.flag F.PCIE_LINK_STAT_PERST = false →
      exec (.pciePerst true) s =
        .next (let u := ((s.setFld F.PCIE_LINK_STAT_PERST 1).pcieDown).raise 436
          let u := if s.flag F.PCIE_LINK_STAT_UP then u.raise 432 else u
          ((List.range 64).foldl (fun (u : State) fn => u.startFlr fn) u).finishFlr))) ∧
  (∀ (s : State) (speed width vfs : Nat), s.pcieOn = true → s.flag F.PCIE_LINK_STAT_PERST = false → speed < 8 → width < 32 → vfs < 64 →
    ∃ t, exec (.pcieLinkChange true speed width vfs) s = .next t ∧ t.fld F.PCIE_LINK_STAT_UP = 1 ∧ t.fld F.PCIE_LINK_STAT_SPEED = speed ∧
      t.fld F.PCIE_LINK_STAT_WIDTH = width ∧ t.fld F.PCIE_LINK_STAT_VFS = vfs ∧ SamePendBut [432] s t ∧ SameRegsBut [Reg.PCIE_LINK_STAT] s t ∧
      t = { s with regs := t.regs, wld := { s.wld with pend := t.wld.pend } }) ∧
  (∀ (s : State) (uncorr : Bool), s.pcieOn = true →
    ∃ t, exec (.pcieError uncorr) s = .next t ∧ t.flag F.PCIE_ERR_VALID = true ∧ t.flag F.PCIE_ERR_UNCORR = uncorr ∧
      t.isPend (if uncorr then 435 else 434) = true ∧ SamePendBut [if uncorr then 435 else 434] s t ∧ SameRegsBut [Reg.PCIE_ERR] s t ∧
      t = { s with regs := t.regs, wld := { s.wld with pend := t.wld.pend } })

/-- Client translation and PCIe requests (04). -/
def Obligations.AccessesTranslateForTheirClients : Prop :=
  Rules.TranslationFollowsItsBindings ∧ Rules.PcieActsForItsClients

/-- Shares, grants, quotas and instance resets (04). -/
def Obligations.SharesFollowQuotasAndResets : Prop :=
  Rules.SharesAndGrantsFollowTheirQuotas ∧ Rules.InstanceResetMovesTheGeneration

/-! Display timing and pipes (05). -/

/-- The plug and link events and DPTX_TRAIN (R202-R206): training starts, succeeds, is tried three times in all, or stops with the sink's removal. -/
def Obligations.LinksTrainAndFollowThePlug : Prop :=
  (∀ (s : State) (n : Nat) (v : Word), s.gatedAt (Reg.DPTX_LINK n) = false → s.flag F.DTG_CTRL_ENABLE n = false →
    exec (.dptxTrain .s n v) s =
      .next (let t := s.setRg (Reg.DPTX_LINK n) (linkWrite (s.rg (Reg.DPTX_LINK n)) v)
        if v.getLsbD 31 then t.startTraining n else t)) ∧
  (∀ (s : State) (n a : Nat), (s.out n).training = some a →
    exec (.trainingAttemptEnd n true) s = .next ((s.linkTrained n).linkEvent n 6) ∧
    (n < 8 → let u := s.linkTrained n
      u.flag F.DPTX_STAT_TRAINED n = true ∧ u.fld F.DPTX_STAT_RATE n = s.fld F.DPTX_LINK_RATE n ∧ u.fld F.DPTX_STAT_LANES n = s.fld F.DPTX_LINK_LANES n ∧
      u.fld F.DPTX_STAT_FAILS n = 0 ∧ (u.out n).training = none ∧ (u.out n).resuming = s.flag F.DTG_CTRL_ENABLE n ∧
      SameRegsBut [Reg.DPTX_STAT n] s u ∧ u = { s with regs := u.regs, disp := u.disp }) ∧
    (a < 2 → exec (.trainingAttemptEnd n false) s =
      .next ((s.setFld F.DPTX_STAT_FAILS (a + 1) n).setOut n { s.out n with training := some (a + 1) })) ∧
    (2 ≤ a → exec (.trainingAttemptEnd n false) s =
      .next (((s.setFld F.DPTX_STAT_FAILS (a + 1) n).setOut n { s.out n with training := none, black := none }).linkEvent n 5))) ∧
  (∀ (s : State) (n : Nat), s.flag F.DPTX_STAT_HPD n = true →
    ∃ u, u = ((s.setFld F.DPTX_STAT_HPD 0 n).setFld F.DPTX_STAT_TRAINED 0 n).setFld F.DPTX_STAT_LOST 1 n ∧
      exec (.hpdUnplug n) s =
        .next ((u.setOut n { u.out n with stream := false, resuming := false, training := none, trainDue := true }).linkEvent n 2)) ∧
  (∀ (s : State) (n : Nat), s.flag F.DPTX_STAT_HPD n = false →
    exec (.hpdPlug n) s = .next (((s.setFld F.DPTX_STAT_HPD 1 n).linkEvent n 1).startTraining n)) ∧
  (∀ (s : State) (n : Nat), s.flag F.DPTX_STAT_HPD n = true →
    exec (.irqHpd n false) s = .next ((s.setFld F.DPTX_STAT_IRQ_HPD 1 n).linkEvent n 3))

/-- The register commands of a timing generator and a slot, when their unit is not gated and the writer's RWM fields are taken (R207-R213, R225, R772). -/
def Rules.ShadowSetsArmByTheirRegisters : Prop :=
  (∀ (s : State) (who : Who) (n : Nat) (v : Word), n < 8 → s.gatedAt (Reg.DTG_APPLY n) = false → s.mayRwm who = true →
    ∃ t, exec (.applyArm who n v) s = .next t ∧ t.fld F.DTG_APPLY_LINE n = bitsOf v 13 0 ∧
      t.flag F.DTG_APPLY_ARM n = (v.getLsbD 31 || s.flag F.DTG_APPLY_ARM n) ∧ SameRegsBut [Reg.DTG_APPLY n] s t ∧ t = { s with regs := t.regs }) ∧
  (∀ (s : State) (who : Who) (l : Nat) (v : Word), l < 64 → s.gatedAt (Reg.DPIPE_LCTRL l) = false → s.mayRwm who = true →
    ∃ t, exec (.layerArm who l v) s = .next t ∧ bitsOf (t.rg (Reg.DPIPE_LCTRL l)) 30 25 = bitsOf v 30 25 ∧
      bitsOf (t.rg (Reg.DPIPE_LCTRL l)) 23 16 = bitsOf v 23 16 ∧ bitsOf (t.rg (Reg.DPIPE_LCTRL l)) 15 12 = bitsOf v 15 12 ∧
      t.fld F.DPIPE_LCTRL_OUTPUT l = s.fld F.DPIPE_LCTRL_OUTPUT l ∧ t.flag F.DPIPE_LCTRL_ARM l = (v.getLsbD 31 || s.flag F.DPIPE_LCTRL_ARM l) ∧
      SameRegsBut [Reg.DPIPE_LCTRL l] s t ∧ t = { s with regs := t.regs, disp := t.disp }) ∧
  (∀ (s : State) (who : Who) (n : Nat) (v : Word), s.gatedAt (Reg.DTG_CTRL n) = false → s.mayRwm who = true → v.getLsbD 31 = false →
    ∃ u, u = (s.setFld F.DTG_CTRL_VSYNC_POL (bitsOf v 1 1) n).setFld F.DTG_CTRL_HSYNC_POL (bitsOf v 0 0) n ∧
      (u.flag F.DTG_CTRL_ENABLE n = true → exec (.dtgEnable who n v) s =
        .next ((((u.setFld F.DTG_CTRL_ENABLE 0 n).setOut n { u.out n with stream := false, resuming := false, black := none }).releaseSlots
          n).removeAtBoundary n))) ∧
  (∀ (s : State) (who : Who) (n : Nat) (v : Word), s.gatedAt (Reg.DTG_CTRL n) = false → s.mayRwm who = true → v.getLsbD 31 = true →
    ∃ u, u = (s.setFld F.DTG_CTRL_VSYNC_POL (bitsOf v 1 1) n).setFld F.DTG_CTRL_HSYNC_POL (bitsOf v 0 0) n ∧
      (u.flag F.DTG_CTRL_ENABLE n = false → (u.shadowTiming n).fault = none → exec (.dtgEnable who n v) s =
        .next (let w := (u.setOut n { u.out n with live := u.shadowTiming n, liveBg := u.shadowBg n }).rechargeOutput n (u.shadowTiming n)
          let w := w.setFld F.DTG_APPLY_ARM 0 n
          let l := w.armedSlots n false
          let w := l.foldl (fun (w : State) i => w.applySlot i) w
          let w := (if l.isEmpty then w else w.raise (104 + n)).startOutput n
          w.setOut n { w.out n with stream := w.flag F.DPTX_STAT_TRAINED n }))) ∧
  (∀ (s : State) (who : Who) (n : Nat) (v : Word), s.mayRwm who = false →
    (s.gatedAt (Reg.DTG_APPLY n) = false → exec (.applyArm who n v) s = .next s) ∧
    (s.gatedAt (Reg.DPIPE_LCTRL n) = false → exec (.layerArm who n v) s = .next s) ∧
    (s.gatedAt (Reg.DTG_CTRL n) = false → exec (.dtgEnable who n v) s = .next s))

/-- FRAME_BOUNDARY, VERTICAL_START and APPLY_LINE of a running timing generator (R212, R253-R258, R772; 06 R283, R292, R293): in this order the frame
is closed and counted, slots and removals go, an armed swap and the armed sets whose line this is apply, and the waiting settings take effect. -/
def Rules.FramesCloseCountAndApply : Prop :=
  (∀ (s : State) (n : Nat), s.outputRuns n = true →
    exec (.frameBoundary n) s =
      .next (let u := ((s.unstall n).endFrameSlots n).countIdle n
        let u := u.setFld F.DTG_FRAME_COUNT ((u.fld F.DTG_FRAME_COUNT n + 1) % 2 ^ 32) n
        let u := (u.setFld F.DTG_STAT_LINE (u.out n).live.vact n).setFld F.DTG_STAT_VBLANK 1 n
        let u := (((u.raise (96 + n)).releaseSlots n).removeAtBoundary n).swapIfArmed n
        let u := if u.appliesAtBoundary n then u.applyAll n true else u
        ((u.boundarySettings n).proofBoundary n).chooseStretch n)) ∧
  (∀ (s : State) (n : Nat), s.outputRuns n = true →
    exec (.verticalStart n) s =
      .next ((((s.unstall n).setFld F.DTG_STAT_LINE ((s.out n).live.vact + (s.out n).live.vfp) n).latchBlink n).trackLock n)) ∧
  (∀ (s : State) (n : Nat), s.outputRuns n = true → s.flag F.DTG_STAT_STRETCH n = false →
    exec (.applyLine n) s = .next (if s.appliesAtBoundary n then s else s.applyAll n false)) ∧
  (∀ (s : State) (n : Nat), s.outputRuns n = false →
    exec (.frameBoundary n) s = .next s ∧ exec (.verticalStart n) s = .next s ∧ exec (.applyLine n) s = .next s)

/-- R212: at an apply every armed set of the output applies in one cycle with source 104 + n; with nothing armed nothing changes. -/
def Rules.ApplyTakesEveryArmedSet : Prop :=
  ∀ (s : State) (n : Nat) (b : Bool),
    (s.armedSlots n b = [] → s.flag F.DTG_APPLY_ARM n = false → s.applyAll n b = s) ∧
    (s.armedSlots n b ≠ [] → s.flag F.DTG_APPLY_ARM n = false →
      s.applyAll n b = (((s.armedSlots n b).foldl (fun (u : State) i => u.applySlot i) s).noteChange n).raise (104 + n))

/-- LAYER_FETCH_FAULT and LAYER_UNDERRUN of an enabled slot (R228, R245, R250, R251). -/
def Rules.LayerTroubleIsCountedAndReported : Prop :=
  (∀ (s : State) (l reason line : Nat), s.slotUsed l = true → (s.slot l).live.enabled = true → s.flag F.DPIPE_LSTAT_FAULTED l = false →
    (reason = 1 ∨ reason = 2) →
    exec (.layerFetchFault l reason line) s =
      .next (((s.setFld F.DPIPE_LSTAT_REASON reason l).setFld F.DPIPE_LSTAT_FAULTED 1 l).layerFaultEvent l reason line)) ∧
  (∀ (s : State) (l reason line : Nat), s.slotUsed l = true → (s.slot l).live.enabled = true → s.flag F.DPIPE_LSTAT_FAULTED l = false →
    (reason = 3 ∨ reason = 4) →
    exec (.layerFetchFault l reason line) s = .next ((s.setFld F.DPIPE_LSTAT_REASON reason l).layerFaultEvent l reason line)) ∧
  (∀ (s : State) (l line : Nat), l < 64 → s.slotUsed l = true → (s.slot l).live.enabled = true → s.flag F.DPIPE_LSTAT_FAULTED l = false →
    ∃ t, exec (.layerUnderrun l line) s = .next t ∧ (t.slot l).underLines = (s.slot l).underLines + 1 ∧
      (t.slot l).underFirst = (if (s.slot l).underLines = 0 then line else (s.slot l).underFirst) ∧
      (t.isPend (112 + s.slotOut l) = true) ∧ SamePendBut [112 + s.slotOut l] s t ∧ SameRegsBut [Reg.DPIPE_LSTAT l] s t ∧
      (∀ j, j ≠ l → t.slot j = s.slot j) ∧ t = { s with regs := t.regs, wld := { s.wld with pend := t.wld.pend }, disp := t.disp })

/-- OUTPUT_QUERY, AUX_XFER and MODE_SET (R242-R244, R256, R260, R261). -/
def Rules.ModesAndQueriesAnswer : Prop :=
  (∀ (s : State) (k : Nat) (p : Started), s.opAt k 0x0800 = some p → (∀ c, p.ring = .client c → s.hasOutput (p.p8 0) c = true) →
    exec (.outputQuery k) s = .next (s.endOp k St.ok (s.rg (Reg.DTG_STAT (p.p8 0))).toNat (s.rg (Reg.DPTX_STAT (p.p8 0))).toNat
      ((s.out (p.p8 0)).live.hact + (s.out (p.p8 0)).live.vact * 0x10000) ((s.out (p.p8 0)).live.frameNs % 2 ^ 32))) ∧
  (∀ (s : State) (k c : Nat) (p : Started), s.opAt k 0x0800 = some p → p.ring = .client c → s.hasOutput (p.p8 0) c = false →
    exec (.outputQuery k) s = .next (s.endOp k St.noPermission)) ∧
  (∀ (s : State) (k : Nat) (p : Started) (data : List Byte), s.opAt k 0x0802 = some p → s.auxWaits k p = false → (p.p8 1 = 0 ∨ p.p8 1 = 2) →
    exec (.auxXfer k (.ack data)) s = .next (s.endOp k St.ok (leAt (data.take (p.p8 2)) 0 4) (leAt (data.take (p.p8 2)) 4 4)
      (leAt (data.take (p.p8 2)) 8 4) (leAt (data.take (p.p8 2)) 12 4)) ∧
    exec (.auxXfer k .nack) s = .next (s.endOp k St.range 1) ∧ exec (.auxXfer k .silent) s = .next (s.endOp k St.busy 2)) ∧
  (∀ (s : State) (k : Nat) (p : Started),
    let m := modeOf p (s.rg (Reg.DPTX_LINK (p.p8 0)))
    s.opAt k 0x0801 = some p → m.off = false → m.fault p = none → s.layersStand (p.p8 0) m.timing = 0 → (s.out (p.p8 0)).held = none →
    (s.claimed (11 + p.p8 0) = false → exec (.modeSet k) s = .next ((s.acceptMode (p.p8 0) m).endOp k St.deferred)) ∧
    (s.claimed (11 + p.p8 0) = true → exec (.modeSet k) s = .next ((s.holdMode (p.p8 0) p m).endOp k St.deferred))) ∧
  (∀ (s : State) (k : Nat) (p : Started),
    let m := modeOf p (s.rg (Reg.DPTX_LINK (p.p8 0)))
    s.opAt k 0x0801 = some p → m.off = false →
    (∀ o, m.fault p = some o → exec (.modeSet k) s = .next (s.endOp k St.range o)) ∧
    (m.fault p = none → s.layersStand (p.p8 0) m.timing = 2 → exec (.modeSet k) s = .next (s.endOp k St.busy 0 4)) ∧
    (m.fault p = none → s.layersStand (p.p8 0) m.timing = 3 → exec (.modeSet k) s = .next (s.endOp k St.busy 0 5)))

/-- LAYER_ASSIGN, LAYER_UNASSIGN and PALETTE_SET (R217, R235, R236, R239, R240). -/
def Rules.SlotsAreAssignedAndReleased : Prop :=
  (∀ (s : State) (k l : Nat) (p : Started), s.opAt k 0x0803 = some p → p.p8 0 = 255 → s.hasOutput (p.p8 1) (p.p16 2) = true →
    (s.slotsHeld (p.p16 2)).length < (s.client (p.p16 2)).layers → (s.slotsOf (p.p8 1)).length < 16 →
    (s.slotsOf (p.p8 1)).any (fun j => s.fld F.DPIPE_LCTRL_Z j == p.p8 4 || ((s.slot j).replace.map (·.1)) == some (p.p8 4)) = false →
    (List.range 64).find? (fun j => !s.slotUsed j) = some l → p.p16 2 < 4096 → p.p8 1 < 8 → p.p8 4 < 16 →
    ∃ t, exec (.layerAssign k) s = .next t ∧ t.result k = some ⟨St.ok, l, 0, 0, 0⟩ ∧ t.slotUsed l = true ∧ t.slotOwner l = p.p16 2 ∧
      t.slotOut l = p.p8 1 ∧ t.fld F.DPIPE_LCTRL_Z l = p.p8 4 ∧ (∀ j, j ≠ l → t.slot j = s.slot j) ∧
      SameRegsBut [Reg.DPIPE_LOWNER l, Reg.DPIPE_LCTRL l, Reg.DPIPE_LPLACE_POS l, Reg.DPIPE_LPLACE_SIZE l, Reg.DPIPE_LSTAT l] s t ∧
      t = { s with regs := t.regs, cp := t.cp, disp := t.disp }) ∧
  (∀ (s : State) (k : Nat) (p : Started), s.opAt k 0x0803 = some p → s.hasOutput (p.p8 1) (p.p16 2) = false →
    exec (.layerAssign k) s = .next (s.endOp k St.noPermission)) ∧
  (∀ (s : State) (k : Nat) (p : Started), s.opAt k 0x0804 = some p → s.slotUsed (p.p8 0) = true →
    (s.flag F.DTG_CTRL_ENABLE (s.slotOut (p.p8 0)) = true →
      exec (.layerUnassign k) s = .next ((s.setSlot (p.p8 0) { s.slot (p.p8 0) with leaving := true }).endOp k St.deferred)) ∧
    (s.flag F.DTG_CTRL_ENABLE (s.slotOut (p.p8 0)) = false →
      exec (.layerUnassign k) s = .next ((s.freeSlot (p.p8 0) true).endOp k St.deferred))) ∧
  (∀ (s s1 : State) (k : Nat) (p : Started) (b : List Byte), s.opAt k 0x0807 = some p → s.slotRefusal p.ring (p.p8 0) 0 = none →
    s.unitRead (ringWho p.ring) (p.p64 8) 1024 = (.ok b, s1) →
    ∃ u, u = s1.setSlot (p.p8 0) { s1.slot (p.p8 0) with palShadow := b } ∧
      exec (.paletteSet k) s =
        .next ((u.armBy (p.p8 0) p.pkt.tag).endOp k St.deferred))

/-- LAYER_SET and FLIP (R222, R226, R231, R232, R237, R238, R240): a set that passes its checks is in the slots' shadow registers, armed for its
packet and charged, and ends with DEFERRED; one that fails a check ends with its status and leaves everything else as it was. -/
def Rules.LayerSetsArmTheirShadow : Prop :=
  (∀ (s : State) (k : Nat) (p : Started),
    let l := p.p8 0
    let u := s.writeLayer p l
    s.opAt k 0x0805 = some p → s.slotRefusal p.ring l 0 = none →
    ((u.shadowLayer l).pixelsOk (s.comingTiming (s.slotOut l)) = true →
      (u.buffersOk (s.slotOut l) = true → u.isoFits s = true → exec (.layerSet k) s = .next (u.syncIso.endOp k St.deferred)) ∧
      (u.buffersOk (s.slotOut l) = false → exec (.layerSet k) s = .next (s.endOp k St.busy 0 4)) ∧
      (u.buffersOk (s.slotOut l) = true → u.isoFits s = false → exec (.layerSet k) s = .next (s.endOp k St.busy 0 5))) ∧
    ((u.shadowLayer l).pixelsOk (s.comingTiming (s.slotOut l)) = false → exec (.layerSet k) s = .next (s.endOp k St.range 28))) ∧
  (∀ (s : State) (p : Started) (l : Nat), l < 64 →
    let u := s.writeLayer p l
    u.flag F.DPIPE_LCTRL_ARM l = true ∧ u.rg (Reg.DPIPE_LADDR_LO l) = BitVec.ofNat 32 (p.p32 8) ∧ u.rg (Reg.DPIPE_LADDR_HI l) = BitVec.ofNat 32 (p.p16 12) ∧
    u.rg (Reg.DPIPE_LPITCH l) = BitVec.ofNat 32 (p.p16 4) ∧ u.rg (Reg.DPIPE_LSRC_SIZE l) = BitVec.ofNat 32 (p.p32 28) ∧
    u.rg (Reg.DPIPE_LDST_SIZE l) = BitVec.ofNat 32 (p.p32 36) ∧ u = { s with regs := u.regs, disp := u.disp }) ∧
  (∀ (s : State) (k : Nat) (p : Started),
    let u := s.writeFlip p (flipEntries p)
    s.opAt k 0x0806 = some p → (∀ o ∈ flipEntries p, s.slotRefusal p.ring (p.p8 (8 + o)) (8 + o) = none) →
    (∀ o ∈ flipEntries p, isYuv (s.shadowLayer (p.p8 (8 + o))).format = true → p.p64 (24 + o) % 64 = 0) →
    (u.isoFits s = true → exec (.flip k) s = .next (u.syncIso.endOp k St.deferred)) ∧
    (u.isoFits s = false → exec (.flip k) s = .next (s.endOp k St.busy 0 5)))

/-- Frame boundaries, vertical starts and apply lines (05 R212, R253-R258). -/
def Obligations.FramesApplyEveryArmedSet : Prop :=
  Rules.FramesCloseCountAndApply ∧ Rules.ApplyTakesEveryArmedSet

/-- The register commands of a timing generator and a slot, and the troubles of a layer (05). -/
def Obligations.LayerRegistersAndTroubles : Prop :=
  Rules.ShadowSetsArmByTheirRegisters ∧ Rules.LayerTroubleIsCountedAndReported

/-- The operations of class 0x02 (05 R214-R248). -/
def Obligations.ModesSlotsAndLayerSets : Prop :=
  Rules.ModesAndQueriesAnswer ∧ Rules.SlotsAreAssignedAndReleased ∧ Rules.LayerSetsArmTheirShadow

/-! Etched layers (06). -/

/-- LIST_LOAD, LIST_UNLOAD, LIST_CHECK_DONE and LIST_RELEASE (R267, R269, R288-R291, R297-R299): commands pass the checker in order; a list that passes is
locked and pending, one that fails changes nothing but its completion; a released list unlocks its pages. -/
def Rules.ListsPassTheChecker : Prop :=
  (∀ (s : State) (k : Nat) (p : Started), s.opAt k 0x0C00 = some p → s.etch.checker.contains k = false →
    exec (.listLoad k) s = .next { s with etch := { s.etch with checker := s.etch.checker ++ [k] } }) ∧
  (∀ (s : State) (k : Nat) (p : Started), s.opAt k 0x0C01 = some p →
    (p.p8 1 = 0 → exec (.listUnload k) s = .next (s.endOp k St.ok)) ∧
    (p.p8 1 ≠ 0 → s.etch.checker.contains k = false →
      exec (.listUnload k) s = .next { s with etch := { s.etch with checker := s.etch.checker ++ [k] } })) ∧
  (∀ (s u : State) (k : Nat) (rest : List Nat) (p : Started),
    let others := (List.range 4).filterMap (fun i => if i = p.p8 1 then none else (u.checkedList (p.p8 0) i).map (·.off))
    s.etch.checker = k :: rest → u = { s with etch := { s.etch with checker := rest } } → u.opAt k 0x0C00 = some p →
    (u.checkList (p.p32 4) others = none →
      exec .listCheckDone s = .next (((u.lockPages (u.listPages (p.p32 4)) true).makePending (4 * p.p8 0 + p.p8 1)
        (some { off := p.p32 4, len := (u.listHead (p.p32 4)).length, pages := u.listPages (p.p32 4), counters := u.palCounters (p.p32 4), startup := false })).listAccepted
          k (p.p8 0) p)) ∧
    (∀ r, u.checkList (p.p32 4) others = some r →
      exec .listCheckDone s = .next (u.endOp k (if r.reason = 2 then St.checkFailed else St.range) 0 r.off r.reason r.line))) ∧
  (∀ (s : State) (i j : Nat) (x : EtchList), s.etch.retiring[i]? = some (j, x) →
    exec (.listRelease i) s = .next (({ s with etch := { s.etch with retiring := s.etch.retiring.eraseIdx i } } : State).releaseList j x))

/-- R267: locking pages raises their counts by one each time they are named, unlocking lowers them again, and no other page's count changes. -/
def Rules.LockCountsFollowTheLists : Prop :=
  ∀ (s : State) (pages : List Nat) (g : Nat),
    (s.lockPages pages true).lockCount g = s.lockCount g + pages.count g ∧
    (s.lockPages pages false).lockCount g = s.lockCount g - pages.count g ∧
    ((s.lockPages pages true).lockPages pages false).lockCount g = s.lockCount g

/-- SWAP, BLINK_SET, BLINK_PHASE_CHANGE, MODE_DECIDE and ETCH_QUERY (R282-R285, R297, R300-R303; 05 R260). -/
def Rules.SwapsBlinkAndModesAreDecided : Prop :=
  (∀ (s : State) (k : Nat) (p : Started), s.opAt k 0x0C02 = some p →
    exec (.swap k) s = .next ((((List.range 8).filter (fun n => bit (p.p8 0) n)).foldl (fun (u : State) n => u.armSwap n p.pkt.tag) s).endOp k
      (if ((List.range 8).filter (fun n => bit (p.p8 0) n)).isEmpty then St.ok else St.deferred))) ∧
  (∀ (s : State) (n tag : Nat), n < 8 → s.flag F.ETCH_OUT_STAT_SWAP_ARMED n = false →
    (s.armSwap n tag).flag F.ETCH_OUT_STAT_SWAP_ARMED n = true ∧ SameRegsBut [Reg.ETCH_OUT_STAT n] s (s.armSwap n tag) ∧
    (s.armSwap n tag).armSwap n (tag + 1) = s.armSwap n tag) ∧
  (∀ (s : State) (k : Nat) (p : Started), s.opAt k 0x0C03 = some p → p.p8 1 < 4 →
    ∃ t, exec (.blinkSet k) s = .next t ∧ t.result k = some ⟨St.ok, 0, 0, 0, 0⟩ ∧
      (∀ n, n < 8 → SMap.get (fun _ => none) t.etch.blinkNext (4 * n + p.p8 1) =
        if bit (p.p8 0) n then some ⟨p.p16 2, p.p16 4, if p.p64 8 = 0 then s.devTime / 1000000 + 1 else p.p64 8 / 1000000⟩
        else SMap.get (fun _ => none) s.etch.blinkNext (4 * n + p.p8 1)) ∧
      t = { s with cp := t.cp, etch := { s.etch with blinkNext := t.etch.blinkNext } }) ∧
  (∀ (s : State) (n c : Nat), (s.blink n c).isSome = true → s.phaseNow n c ≠ bit (s.fld F.ETCH_BLINK_STAT_PHASE n) c → s.blinkUsed n c = true →
    exec (.blinkPhaseChange n c) s =
      .next (let u := s.noteChange n
        if u.flag F.DTG_STAT_STRETCH n then u.setOut n { u.out n with ending := true } else u)) ∧
  (∀ (s : State) (k : Nat) (p : Started) (m : Mode), s.opAt k 0x0C04 = some p → (s.out (p.p8 0)).held = some m →
    (p.p8 1 = 0 → exec (.modeDecide k) s =
      .next (((s.setOut (p.p8 0) { s.out (p.p8 0) with held := none }).acceptMode (p.p8 0) m).endOp k St.ok)) ∧
    (p.p8 1 = 1 → exec (.modeDecide k) s = .next ((s.refuseHeld (p.p8 0) 1).endOp k St.ok))) ∧
  (∀ (s : State) (k : Nat) (p : Started), s.opAt k 0x0C04 = some p → (s.out (p.p8 0)).held = none →
    exec (.modeDecide k) s = .next (s.endOp k St.range 0)) ∧
  (∀ (s : State) (k : Nat) (p : Started), s.opAt k 0x0C05 = some p →
    ∃ t pages, exec (.etchQuery k) s = .next t ∧ t = s.endOp k St.ok (s.rg (Reg.ETCH_OUT_STAT (p.p8 0))).toNat (s.rg (Reg.ETCH_PEAK (p.p8 0))).toNat
      (s.rg (Reg.ETCH_BLINK_STAT (p.p8 0))).toNat pages ∧ pages = (s.etch.locks.filter (fun e => e.2 != 0)).length)

/-- PLATE_LOCKED_WRITE (R268): a write of the S-world to a locked page is discarded, recorded and reported; no byte of Plate SRAM changes before its
event is written. -/
def Rules.LockedPlateRefusesWrites : Prop :=
  (∀ (s : State) (a : Nat), s.region a = .plateSram → s.plateLocked a = true →
    exec (.plateLockedWrite .s a) s = .next ((s.refusePlate .s a).flushPlate.answer .done)) ∧
  (∀ (s : State) (a : Nat), a < 2 ^ 26 → s.flag F.ETCH_WPROT_VALID = false →
    let t := s.refusePlate .s a
    SameMemory s t ∧ t.flag F.ETCH_WPROT_VALID = true ∧ t.isPend 168 = true ∧ SamePendBut [168] s t ∧ SameRegsBut [Reg.ETCH_WPROT] s t) ∧
  (∀ (s : State) (who : Who) (a : Nat), who ≠ .s → s.region a = .plateSram →
    exec (.plateLockedWrite who a) s = .next ((s.recordBus who a true 1).answer .errorResponse))

/-- The plate checker, the locked pages, swaps and blink (06). -/
def Obligations.EtchedListsLockAndSwap : Prop :=
  Rules.ListsPassTheChecker ∧ Rules.LockCountsFollowTheLists ∧ Rules.SwapsBlinkAndModesAreDecided ∧ Rules.LockedPlateRefusesWrites

/-! Proof and takeover (07). -/

/-- PROOF_PASS_START, PROOF_PASS_END, PROOF_VERDICT, TAKEOVER_SWITCH, RETURN_CHECK_END and SINK_CRC_READ (R312-R335). A failed return check
counts as a second fault (R331; log entry 86). -/
def Rules.ProofChecksAndTakesOver : Prop :=
  (∀ (s : State) (n : Nat) (rest : List Nat), s.prf.queue = n :: rest → s.fld F.PROOF_RSV_STATE = 0 →
    exec .proofPassStart s =
      .next (let u := (s.setFld F.PROOF_RSV_STATE 1).setFld F.PROOF_RSV_OUTPUT n
        ({ u with prf := { u.prf with passFrom := u.cyc } } : State).showQueue)) ∧
  (∀ (s : State) (n : Nat) (rest : List Nat), s.prf.queue = n :: rest → s.passRuns n = true →
    exec .proofPassEnd s =
      .next (let b := 1 - s.fld F.PROOF_STAT_BANK n
        let u := (List.range 16).foldl (fun (u : State) w => u.writeWindow n b w (s.checkedSet n) (s.out n).live (s.flag F.DPTX_LINK_BPC10 n)) s
        let us := u.usSince u.prf.passFrom
        let u : State := { u with prf := { u.prf with queue := rest } }
        let u := ((u.setFld F.PROOF_RSV_STATE 0).setFld F.PROOF_RSV_PASS_US (min us 0xFFFF)).showQueue
        let u := (u.setReady n (some (decide (u.fld F.ETCH_OUT_STAT_PEND n ≠ 0)))).raise (184 + n)
        u.event .s 0x1004 n b (u.bankWindows n b (fun v => v == 1)) (u.bankWindows n b (fun v => decide (2 ≤ v))) us)) ∧
  (∀ (s : State) (n w line : Nat), n < 8 → s.checks n w line = true → SMap.get (fun _ => false) s.prf.forced n = false →
    ∃ t, exec (.proofVerdict n w line (s.checkCrc n w line)) s = .next t ∧
      t.rg (Reg.PROOF_CHECKED n) = s.rg (Reg.PROOF_CHECKED n) + 1 ∧ SameRegsBut [Reg.PROOF_CHECKED n] s t ∧
      t = { s with regs := t.regs, prf := { s.prf with forced := t.prf.forced, lastCrc := t.prf.lastCrc } }) ∧
  (∀ (s : State) (n line : Nat) (k : Takeover), s.prf.takeover = some k → k.out = n →
    exec (.takeoverSwitch n line) s =
      .next (let t := (s.out n).live
        let lines := (line + t.vtotal - k.line % t.vtotal) % t.vtotal
        let u : State := { s with prf := { s.prf with takeover := none, carried := s.cyc, filling := SMap.set (fun _ => false) s.prf.filling n true } }
        let u := ((u.setFld F.PROOF_STAT_STATE 2 n).satInc F.PROOF_STAT_TAKEOVERS n).raise (176 + n)
        u.eventSM 0x1002 n line (t.lineNs lines) (if k.forced then 1 else 0) (u.fld F.DTG_FRAME_COUNT n))) ∧
  (∀ (s : State) (n : Nat), s.fld F.PROOF_STAT_STATE n = 3 →
    exec (.returnCheckEnd n none) s =
      .next (let u := ((s.raise (176 + n)).setFld F.PROOF_STAT_STATE 1 n).setFld F.PROOF_RSV_STATE 0
        u.showQueue.eventSM 0x1003 n (u.fld F.DTG_FRAME_COUNT n) (min (u.usSince u.prf.carried / 1000) 0xFFFFFFFF) 0 0)) ∧
  (∀ (s : State) (n line : Nat), s.fld F.PROOF_STAT_STATE n = 3 →
    ∃ w, exec (.returnCheckEnd n (some line)) s =
      .next (let u := (s.fresh.noteMismatch n w line).setFld F.PROOF_STAT_STATE 2 n
        ((u.event .s 0x1001 n w line (u.fld F.DTG_FRAME_COUNT n) 3).fault 2 n).enterSafe 1 2)) ∧
  (∀ (s : State) (n count : Nat) (crc : List Nat), n < 8 → s.flag F.PROOF_CTRL_SINK_EN n = true → (s.out n).stream = true →
    ∃ t, exec (.sinkCrcRead n (some (count, crc, crc))) s = .next t ∧ t.flag F.PROOF_SINK_VALID n = true ∧
      t.fld F.PROOF_SINK_LAST_FRAME n = s.fld F.DTG_FRAME_COUNT n % 0x10000 ∧ t.fld F.PROOF_SINK_FAILS n = s.fld F.PROOF_SINK_FAILS n ∧
      SameRegsBut [Reg.PROOF_SINK n] s t ∧ t = { s with regs := t.regs })

/-- R325, R326, R331, R332: a window line whose CRC differs is a mismatch: on an output that is not guarded it is reported as a fault of class 3; on a
guarded one it starts a takeover where the reserve pipe is free, and it is a second fault where the pipe carries another output. -/
def Rules.MismatchTakesOverOrIsASecondFault : Prop :=
  (∀ (s : State) (n w line crc : Nat), s.checks n w line = true →
    (let u := s.setRg (Reg.PROOF_CHECKED n) (s.rg (Reg.PROOF_CHECKED n) + 1)
     let u : State := { u with prf := { u.prf with forced := SMap.set (fun _ => false) u.prf.forced n false
                                                   lastCrc := SMap.set (fun _ => (0, 0)) u.prf.lastCrc n (crc, u.checkCrc n w line) } }
     crc ≠ u.checkCrc n w line → exec (.proofVerdict n w line crc) s = .next (u.mismatch n w line))) ∧
  (∀ (s : State) (n w line : Nat),
    let u := s.noteMismatch n w line
    (u.flag F.PROOF_CTRL_GUARD n = false → s.mismatch n w line = (u.event .s 0x1001 n w line (u.fld F.DTG_FRAME_COUNT n) 0).fault 3 n) ∧
    (u.flag F.PROOF_CTRL_GUARD n = true → u.spareUsed = false →
      s.mismatch n w line = ((u.event .s 0x1001 n w line (u.fld F.DTG_FRAME_COUNT n) 1).startTakeover n line false).fault 2 n) ∧
    (u.flag F.PROOF_CTRL_GUARD n = true → u.spareUsed = true → u.prf.takeover.map (·.out) ≠ some n →
      s.mismatch n w line = ((u.event .s 0x1001 n w line (u.fld F.DTG_FRAME_COUNT n) 2).fault 2 n).enterSafe 1 2)) ∧
  (∀ (s : State) (n w line : Nat), n < 8 → w < 16 → line < 2 ^ 13 → s.flag F.PROOF_FAIL_VALID n = false →
    let u := s.noteMismatch n w line
    u.flag F.PROOF_STAT_MISMATCH n = true ∧ u.flag F.PROOF_FAIL_VALID n = true ∧ u.fld F.PROOF_FAIL_WINDOW n = w ∧ u.fld F.PROOF_FAIL_LINE n = line ∧
    u.isPend (176 + n) = true ∧ SameRegsBut [Reg.PROOF_STAT n, Reg.PROOF_FAIL n] s u)

/-- GUARD_SET, WINDOW_SET, PROOF_RETURN, PROOF_FORCE and PROOF_QUERY (R333, R334, R336-R340). -/
def Obligations.ProofOperationsFollowTheirRules : Prop :=
  (∀ (s : State) (k : Nat) (p : Started),
    let n := p.p8 0
    s.opAt k 0x1000 = some p → bit (p.p8 1) 0 = true → s.flag F.PROOF_CTRL_ENABLE n = true → p.p32 4 / 4096 = s.fld F.PROOF_CTRL_AREA n →
    s.fld F.PROOF_STAT_STATE n = 1 → s.prf.takeover = none →
    ((List.range 8).any (fun m => m != n && s.flag F.PROOF_CTRL_ENABLE m && areasMeet (p.p32 4 / 4096) (s.fld F.PROOF_CTRL_AREA m)) ||
      (List.range 35).any (fun i => decide (s.lockCount (p.p32 4 / 4096 + i) ≠ 0))) = false → n < 8 → p.p8 2 < 256 →
    ∃ t, exec (.guardSet k) s = .next t ∧ t.result k = some ⟨St.ok, 0, 0, 0, 0⟩ ∧ t.flag F.PROOF_CTRL_ENABLE n = true ∧
      t.flag F.PROOF_CTRL_GUARD n = bit (p.p8 1) 1 ∧ t.flag F.PROOF_CTRL_SINK_EN n = bit (p.p8 1) 2 ∧
      (bit (p.p8 1) 2 = false → t.flag F.PROOF_SINK_VALID n = false) ∧ SameRegsBut [Reg.PROOF_CTRL n, Reg.PROOF_SINK n] s t ∧
      (bit (p.p8 1) 2 = true → t.rg (Reg.PROOF_SINK n) = s.rg (Reg.PROOF_SINK n)) ∧ t = { s with regs := t.regs, cp := t.cp }) ∧
  (∀ (s : State) (k : Nat) (p : Started),
    let n := p.p8 0
    let u := (List.range (p.p8 2)).foldl (fun (u : State) i => u.putPlate (u.proofArea n + 16 * (p.p8 1 + i)) ((p.pkt.params.drop (8 + 16 * i)).take 16)) s
    let total := (List.range 16).foldl (fun a w => let x := u.window n w; if x.on then a + x.w * x.h else a) 0
    s.opAt k 0x1001 = some p → s.flag F.PROOF_CTRL_ENABLE n = true →
    (total ≤ 4194304 → exec (.windowSet k) s = .next ((u.queuePass n).endOp k St.ok)) ∧
    (4194304 < total → exec (.windowSet k) s = .next (s.endOp k St.range 8))) ∧
  (∀ (s : State) (k : Nat) (p : Started), s.opAt k 0x1001 = some p → s.flag F.PROOF_CTRL_ENABLE (p.p8 0) = false →
    exec (.windowSet k) s = .next (s.endOp k St.busy)) ∧
  (∀ (s : State) (k : Nat) (p : Started), s.opAt k 0x1002 = some p →
    (s.fld F.PROOF_STAT_STATE (p.p8 0) = 2 → exec (.proofReturn k) s = .next ((s.setFld F.PROOF_STAT_STATE 3 (p.p8 0)).endOp k St.deferred)) ∧
    (s.fld F.PROOF_STAT_STATE (p.p8 0) ≠ 2 → exec (.proofReturn k) s = .next (s.endOp k St.range 0))) ∧
  (∀ (s : State) (k : Nat) (p : Started), s.opAt k 0x1003 = some p → s.flag F.PROOF_CTRL_GUARD (p.p8 0) = true → s.spareUsed = false →
    ∃ t, exec (.proofForce k) s = .next t ∧ t.result k = some ⟨St.deferred, 0, 0, 0, 0⟩ ∧ SMap.get (fun _ => false) t.prf.forced (p.p8 0) = true ∧
      t = { s with cp := t.cp, prf := { s.prf with forced := t.prf.forced } }) ∧
  (∀ (s : State) (k : Nat) (p : Started), s.opAt k 0x1003 = some p → (s.flag F.PROOF_CTRL_GUARD (p.p8 0) = false ∨ s.spareUsed = true) →
    exec (.proofForce k) s = .next (s.endOp k St.busy)) ∧
  (∀ (s : State) (k : Nat) (p : Started), s.opAt k 0x1004 = some p →
    (p.ring = .s → exec (.proofQuery k) s = .next (s.endOp k St.ok (s.rg (Reg.PROOF_STAT (p.p8 0))).toNat (s.rg (Reg.PROOF_WIN (p.p8 0))).toNat
      (s.rg (Reg.PROOF_FAIL (p.p8 0))).toNat (s.rg (Reg.PROOF_SINK (p.p8 0))).toNat)) ∧
    (p.ring ≠ .s → exec (.proofQuery k) s =
      .next (s.endOp k St.ok (s.fld F.PROOF_STAT_STATE (p.p8 0) * 2 ^ 30 + s.fld F.PROOF_STAT_TAKEOVERS (p.p8 0)))))

/-- Proof checks, and what a mismatch leads to (07). -/
def Obligations.ProofTakesOverOrFails : Prop :=
  Rules.ProofChecksAndTakesOver ∧ Rules.MismatchTakesOverOrIsASecondFault

/-! Graver, Engine Arbiter and Hallmark (08, 12, 14). -/

/-- The drawing operations of the Graver with their opcodes (08 R350-R352). -/
def drawOps : List ((Nat → Instr) × Nat) :=
  [(.fill, 0x1400), (.gradient, 0x1401), (.copy, 0x1402), (.blend, 0x1403), (.scale, 0x1404), (.convert, 0x1405), (.pathFill, 0x1406),
   (.pathStroke, 0x1407), (.grvGlyphs, 0x1408)]

/-- FILL, GRADIENT, COPY, BLEND, SCALE, CONVERT, PATH_FILL, PATH_STROKE and GLYPHS on the engine they hold (R349, R352, R359-R366): an empty one ends `OK`
with nothing drawn; one that is not in place draws its rows and ends `OK` with its pixels; a fault of an access ends it; an in-place one draws its
next strip and keeps its progress. -/
def Rules.GraverOperationsDrawAndEnd : Prop :=
  ∀ (i : Nat → Instr) (o : Nat), (i, o) ∈ drawOps → ∀ (s : State) (k u : Nat) (p : Started), s.opAt k o = some p → s.holdsIn (.packet k) 0 = some u →
    (graverEmpty o p.pkt.params = true → exec (i k) s = .next (s.endOpFree k St.ok 0 1 u)) ∧
    (graverEmpty o p.pkt.params = false → p.progress % 2 = 0 → ∀ (c : GCtx) (s1 : State), s.graverCtx p = (.ok c, s1) →
      (inPlace o p.pkt.params = false →
        (∀ (n : Nat) (s2 : State), State.drawGroups c (rectAt p.pkt.params 32).w ((List.range (rectAt p.pkt.params 32).h).map (fun y => [y])) 0 s1 = (none, n, s2) →
          exec (i k) s = .next ((s2.countPixels u n).endOpFree k St.ok n 1 u p.restarts)) ∧
        (∀ (e : GFault) (n : Nat) (s2 : State), State.drawGroups c (rectAt p.pkt.params 32).w ((List.range (rectAt p.pkt.params 32).h).map (fun y => [y])) 0 s1 =
            (some e, n, s2) → exec (i k) s = .next ((s2.countPixels u n).graverFault k e))) ∧
      (inPlace o p.pkt.params = true → ∀ (rows : List Nat) (n : Nat) (s2 : State), (stripRows o p.pkt.params)[p.progress / 2 % 2 ^ 16]? = some rows →
        State.drawGroups c (rectAt p.pkt.params 32).w [rows] 0 s1 = (none, n, s2) →
        exec (i k) s = .next (((s2.countPixels u n).setRg (Reg.GRV_ENG_STAT u) (BitVec.ofNat 32 (engineWord p))).setProgress k (p.progress + 1 + n * 2 ^ 17))))

/-- R354: SRC keeps the source, DST the background, CLEAR neither; an opaque source over anything is itself; DST_ATOP of a transparent source is
SRC_ATOP with the two exchanged; and no channel leaves 0 to 1023. -/
def Obligations.BlendModesKeepTheirMeaning : Prop :=
  ∀ a b : Pix, a.r ≤ 1023 → a.g ≤ 1023 → a.b ≤ 1023 → a.q ≤ 1023 → b.r ≤ 1023 → b.g ≤ 1023 → b.b ≤ 1023 → b.q ≤ 1023 →
    a.blend b 0 = ⟨0, 0, 0, 0⟩ ∧ a.blend b 1 = a ∧ a.blend b 2 = b ∧ (a.q = 1023 → a.blend b 3 = a) ∧ (a.q = 0 → a.blend b 10 = b.blend a 9) ∧
    (∀ op, (a.blend b op).r ≤ 1023 ∧ (a.blend b op).g ≤ 1023 ∧ (a.blend b op).b ≤ 1023 ∧ (a.blend b op).q ≤ 1023)

/-- GRAVER_STRIP_END, PALETTE_LOAD, CTX_SAVE, CTX_RESTORE and GRV_CTXBASE_WRITE (R359, R366, R369-R373). -/
def Rules.GraverStripsPalettesAndContexts : Prop :=
  (∀ (s : State) (k u : Nat) (p : Started), s.place k = some p → s.holdsIn (.packet k) 0 = some u → p.result = none → p.progress % 2 = 1 →
    p.pkt.opcode / 1024 = 5 → (stripRows p.pkt.opcode p.pkt.params).length ≤ p.progress / 2 % 2 ^ 16 + 1 →
    exec (.graverStripEnd k) s =
      .next ((s.setRg (Reg.GRV_ENG_STAT u) 0).endOpFree k St.ok (p.progress / 2 ^ 17) (stripRows p.pkt.opcode p.pkt.params).length u 0)) ∧
  (∀ (s s1 : State) (k u : Nat) (p : Started) (l : List Byte), s.opAt k 0x1409 = some p → s.holdsIn (.packet k) 0 = some u →
    s.unitRead (ringWho p.ring) (p.p64 0) 1024 = (.ok l, s1) →
    exec (.grvPaletteLoad k) s = .next ((s1.setGrvPalette p.ring l).endOpFree k St.ok)) ∧
  (∀ (s s1 : State) (k u : Nat) (p : Started), s.opAt k 0x140A = some p → s.holdsIn (.packet k) 0 = some u → s.betweenStrips p.ring = false →
    s.unitWrite (ringWho p.ring) (p.p64 0) (s.sealContext p.ring 5 1 (s.grvPalette p.ring ++ List.replicate 64 0)) = (none, s1) →
    exec (.grvCtxSave k) s = .next (s1.endOpFree k St.ok)) ∧
  (∀ (s s1 : State) (k u : Nat) (p : Started) (l : List Byte), s.opAt k 0x140B = some p → s.holdsIn (.packet k) 0 = some u → s.betweenStrips p.ring = false →
    s.unitRead (ringWho p.ring) (p.p64 0) 1104 = (.ok l, s1) →
    (s1.contextFault p.ring 5 1 l = none → exec (.grvCtxRestore k) s = .next ((s1.setGrvPalette p.ring ((l.drop 16).take 1024)).endOpFree k St.ok)) ∧
    (∀ st, s1.contextFault p.ring 5 1 l = some st → exec (.grvCtxRestore k) s = .next (s1.endOpFree k st))) ∧
  (∀ (s : State) (who : Who) (v : Word), s.mayRwm who = true →
    (s.gatedAt Reg.GRV_CTXBASE_HI = false →
      exec (.grvCtxbaseWrite who true v) s = .next ((s.setRg Reg.GRV_CTXBASE_HI (v &&& 0x0000FFFF)).bumpEpoch 5)) ∧
    (s.gatedAt Reg.GRV_CTXBASE_LO = false →
      exec (.grvCtxbaseWrite who false v) s = .next ((s.setRg Reg.GRV_CTXBASE_LO (v &&& 0xFF800000)).bumpEpoch 5)))

/-- ARBITER_REQUEST, TAKE_AWAY_STOP, ARBITER_RELEASE and LOCK_OVERRUN (12 R501-R513, R517). -/
def Rules.ArbiterGrantsTakesAndReleases : Prop :=
  (∀ (s : State) (q : Requester) (pool : Nat) (lockNs : Option Nat), s.mayRequest q pool = true →
    (s.queue pool ++ s.outside pool).any (fun x => x.holder == q) = false →
    (∀ (u : Nat) (g : Grant), s.heldBy q = some (u, g) → g.locked = true → exec (.arbiterRequest q pool lockNs) s = .next (s.refuseRequest q St.lockNest)) ∧
    (s.heldBy q = none → (s.lockAsked q pool lockNs).2 = true → exec (.arbiterRequest q pool lockNs) s = .next (s.refuseRequest q St.lockTooLong)) ∧
    (s.heldBy q = none → (s.lockAsked q pool lockNs).2 = false →
      ∃ x : Request, x.holder = q ∧ x.rank = s.rankOf q ∧ x.locked = (s.lockAsked q pool lockNs).1 ∧ x.taken = false ∧ x.seq = s.arb.seq ∧
        exec (.arbiterRequest q pool lockNs) s =
          .next ((({ s with arb := { s.arb with seq := s.arb.seq + 1 } } : State).enqueue pool x).decidePool pool))) ∧
  (∀ (s : State) (u : Nat) (g : Grant), s.grant u = some g → g.stopping = true →
    exec (.takeAwayStop u) s =
      .next (let t := ((s.setGrant u none).countTake (poolOf u) g.holder).decideOnce (poolOf u)
        let x : Request := { holder := g.holder, rank := g.rank, locked := false, takes := g.takes + 1, taken := true, seq := t.arb.seq }
        (({ t with arb := { t.arb with seq := t.arb.seq + 1 } } : State).enqueue (poolOf u) x).decidePool (poolOf u))) ∧
  (∀ (s : State) (u r id : Nat) (g : Grant), s.grant u = some g → g.holder = .task r id → exec (.arbiterRelease u) s = .next (s.releaseUnit u)) ∧
  (∀ (s : State) (u k : Nat) (g : Grant) (p : Started), s.grant u = some g → g.holder = .packet k → s.place k = some p → p.result ≠ none →
    exec (.arbiterRelease u) s = .next (s.releaseUnit u)) ∧
  (∀ (s : State) (u : Nat) (g : Grant), u < 14 → s.grant u = some g → g.locked = true → g.overran = false →
    s.passed g.since (s.lockMaxNs (poolOf u)) = true →
    ∃ t, exec (.lockOverrun u) s = .next t ∧ t.grant u = some { g with overran := true } ∧ t.flag F.ARB_OVERRUN_VALID (poolOf u) = true ∧
      t.isPend (304 + poolOf u) = true ∧ SamePendBut [304 + poolOf u] s t ∧ SameRegsBut [Reg.ARB_OVERRUN (poolOf u)] s t ∧
      (∀ v, v ≠ u → t.grant v = s.grant v) ∧
      t = { s with regs := t.regs, wld := { s.wld with pend := t.wld.pend }, arb := { s.arb with units := t.arb.units } })

/-- R504: a request enters its queue behind every request of higher rank and before every one of lower rank; nothing else moves. -/
def Rules.QueuesKeepTheirOrder : Prop :=
  ∀ (x : Request) (q : List Request), q.Pairwise (fun a b => ¬ b.before a = true) →
    (insertRequest x q).Pairwise (fun a b => ¬ b.before a = true) ∧ (insertRequest x q).Perm (x :: q)

/-- HALL_RUN and HALL_QUERY (14 R567-R583): a run reads its input and ends with its value; an input shorter than the value it must end with fails. -/
def Rules.HallmarkRunsEndWithTheirValue : Prop :=
  (∀ (s s1 : State) (k u : Nat) (p : Started) (r : HallRun),
    let m := hallModel p.pkt.params
    s.opAt k 0x2800 = some p → s.holdsIn (.packet k) 1 = some u → p.p8 0 = 0 →
    hallInput m (ringWho p.ring) none 0 (hallSegments p.pkt.params) ⟨p.p64 16, [], 0, 0⟩ s = (none, r, s1) →
    exec (.hallRun k) s =
      .next ((s1.setFld F.HALL_BYTES_COUNT ((s1.fld F.HALL_BYTES_COUNT (u - 4) + r.nread) % 2 ^ 32) (u - 4)).endOpFree k St.ok
        (m.value r.reg % 2 ^ 32) (m.value r.reg / 2 ^ 32) 0 p.restarts)) ∧
  (∀ (s : State) (k u : Nat) (p : Started),
    let m := hallModel p.pkt.params
    s.opAt k 0x2800 = some p → s.holdsIn (.packet k) 1 = some u → p.p8 0 = 2 → hallTotal p.pkt.params < m.k →
    exec (.hallRun k) s =
      .next ((s.hallFail (u - 4)).endOpFree k St.checkFailed (m.value (p.p64 16) % 2 ^ 32) (m.value (p.p64 16) / 2 ^ 32) 0xFFFFFFFF p.restarts)) ∧
  (∀ (s : State) (k : Nat) (p : Started), s.opAt k 0x2801 = some p →
    exec (.hallQuery k) s = .next (s.endOp k St.ok (s.hallStatWord (p.p8 0)) (s.fld F.HALL_BYTES_COUNT (p.p8 0)) (s.fld F.HALL_FAILS_COUNT (p.p8 0))))

/-- R569: the value of an input in two parts is that of the second part from the register of the first; reversing bits twice gives the number back. -/
def Rules.CheckValuesComposeAndReverse : Prop :=
  (∀ (m : HallModel) (reg : Nat) (a b : List Byte), (a ++ b).foldl m.byte reg = b.foldl m.byte (a.foldl m.byte reg)) ∧
  (∀ w v : Nat, v < 2 ^ w → reverseBits w (reverseBits w v) = v ∧ reverseBits w v < 2 ^ w) ∧
  (∀ (m : HallModel) (v : Nat), 0 < m.w → m.w ≤ 64 → v < 2 ^ m.w → (m.bytes v).length = m.k ∧ m.read (m.bytes v) = v)

/-- The operations of class 0x05 (08). -/
def Obligations.GraverDrawsAndKeepsItsContexts : Prop :=
  Rules.GraverOperationsDrawAndEnd ∧ Rules.GraverStripsPalettesAndContexts

/-- The engine arbiter (12). -/
def Obligations.ArbiterKeepsOrderAndGrants : Prop :=
  Rules.ArbiterGrantsTakesAndReleases ∧ Rules.QueuesKeepTheirOrder

/-- Check-unit runs and the values they end with (14). -/
def Obligations.HallmarkRunsAndComposes : Prop :=
  Rules.HallmarkRunsEndWithTheirValue ∧ Rules.CheckValuesComposeAndReverse

/-! Tracer touch (09). -/

/-- SCAN_START, SURVEY_DUE, SURVEY_SKIPPED and DRIVE_WINDOW_END (R378-R390): an opportunity starts a scan, goes on with the second half of a split
one, or is passed over at an idle level; each window's samples become raw values and noise. -/
def Rules.TouchScansRunTheirWindows : Prop :=
  (∀ (s : State) (p : Nat), p < 8 → s.flag F.TCH_CFG_ENABLE p = true → s.fld F.TCH_STAT_STATE p = 2 → (s.panel p).scan = none →
    (s.panel p).needSurvey = false → (s.panel p).div (s.fld F.TCH_STAT_LEVEL p) ≤ (s.panel p).skipped + 1 → s.windowsFit p 1 = true →
    ∃ t, exec (.scanStart p) s = .next t ∧
      t.panel p = { s.panel p with skipped := 0, scan := some ⟨(s.panel p).windows, 0, false, false, (s.panel p).pickHop, 0, 0⟩ } ∧
      t.flag F.TCH_STAT_UNSYNCED p = s.freeRunning p ∧ t.flag F.TCH_STAT_SPLIT p = !s.windowsFit p (s.panel p).windows ∧
      (∀ q, q ≠ p → t.panel q = s.panel q) ∧ SameRegsBut [Reg.TCH_STAT p] s t ∧ t = { s with regs := t.regs, touch := t.touch }) ∧
  (∀ (s : State) (p : Nat), p < 8 → s.flag F.TCH_CFG_ENABLE p = true → s.fld F.TCH_STAT_STATE p = 2 → (s.panel p).scan = none →
    (s.panel p).needSurvey = false → (s.panel p).skipped + 1 < (s.panel p).div (s.fld F.TCH_STAT_LEVEL p) →
    ∃ t, exec (.scanStart p) s = .next t ∧ t.panel p = { s.panel p with skipped := (s.panel p).skipped + 1 } ∧
      t.flag F.TCH_STAT_UNSYNCED p = s.freeRunning p ∧
      (∀ q, q ≠ p → t.panel q = s.panel q) ∧ SameRegsBut [Reg.TCH_STAT p] s t ∧ t = { s with regs := t.regs, touch := t.touch }) ∧
  (∀ (s : State) (p : Nat) (win : List (Bool × List Nat)) (sc : Scan), (s.panel p).scan = some sc → sc.waiting = false → sc.done < sc.windows →
    exec (.driveWindowEnd p win) s =
      .next (s.setPanel p { ((s.panel p).measure win sc.done sc.hop).noteNoise win sc.hop with
        scan := some { sc with
          done := sc.done + 1
          waiting := decide (sc.done + 1 < sc.windows) && s.flag F.TCH_STAT_SPLIT p
          noise := sc.noise || win.any (·.1)
          time := s.devTime
          frame := if s.freeRunning p then 0
            else s.fld F.DTG_FRAME_COUNT (((s.panel p).measure win sc.done sc.hop).noteNoise win sc.hop |>.set8 2) } })) ∧
  (∀ (s : State) (p : Nat), s.fld F.TCH_STAT_STATE p = 2 → exec (.surveyDue p) s = .next (s.setPanel p { s.panel p with surveyDue := true })) ∧
  (∀ (s : State) (p : Nat), p < 8 → (s.panel p).surveyDue = true →
    ∃ t, exec (.surveySkipped p) s = .next t ∧ (t.panel p).surveyDue = false ∧
      t.fld F.TCH_NOISE_SKIPPED p = min (2 ^ F.TCH_NOISE_SKIPPED.width - 1) (s.fld F.TCH_NOISE_SKIPPED p + 1) ∧
      SameRegsBut [Reg.TCH_NOISE p] s t ∧ t = { s with regs := t.regs, touch := t.touch })

/-- SURVEY_END and SCAN_DECISION (R380, R382, R391): the survey records the noise of every bin, and the first after enabling picks the 64 quietest;
four scans give the baselines, with PANEL_EVENT 6 at the end; in RUN a scan is decided. -/
def Rules.TouchAcquiresAndDecides : Prop :=
  (∀ (s : State) (p : Nat) (win : List (Bool × List Nat)), s.flag F.TCH_CFG_ENABLE p = true →
    ((s.panel p).surveyDue = true ∨ (s.panel p).needSurvey = true) → (s.panel p).scan = none →
    ∃ t, exec (.surveyEnd p win) s = .next t ∧
      t.panel p = { s.panel p with
        noise := (List.range 80).map (fun k => binNoise win (k + 16)), surveyed := (List.range 80).map (fun k => binNoise win (k + 16))
        surveyDue := false, needSurvey := false, pickTones := false
        slots := if (s.panel p).pickTones then quietest ((List.range 80).map (fun k => binNoise win (k + 16))) else (s.panel p).slots } ∧
      SameRegsBut [Reg.TCH_NOISE p, Reg.TCH_TONES (4 * p), Reg.TCH_TONES (4 * p + 1), Reg.TCH_TONES (4 * p + 2)] s t ∧
      t = { s with regs := t.regs, touch := t.touch }) ∧
  (∀ (s : State) (p : Nat) (c : Option (List Nat)) (sc : Scan), (s.panel p).scan = some sc → sc.windows ≤ sc.done → s.fld F.TCH_STAT_STATE p = 1 →
    (s.panel p).acquire.acqScans < 4 →
    exec (.scanDecision p c) s =
      .next ((s.setFld F.TCH_STAT_SCANS ((s.fld F.TCH_STAT_SCANS p + 1) % 0x10000) p).setPanel p { (s.panel p).acquire with scan := none })) ∧
  (∀ (s : State) (p : Nat) (c : Option (List Nat)) (sc : Scan), (s.panel p).scan = some sc → sc.windows ≤ sc.done → s.fld F.TCH_STAT_STATE p = 1 →
    4 ≤ (s.panel p).acquire.acqScans →
    ∃ u, u = ((s.setFld F.TCH_STAT_SCANS ((s.fld F.TCH_STAT_SCANS p + 1) % 0x10000) p).setPanel p
        { (s.panel p).acquire with scan := none, acqScans := 0, idleSince := s.cyc }).setFld F.TCH_STAT_STATE 2 p ∧
      exec (.scanDecision p c) s = .next ((u.panelEvent p 0x1806 (u.rg (Reg.TCH_STAT p)).toNat 0 0 0).panelSource p)) ∧
  (∀ (s : State) (p : Nat) (c : Option (List Nat)) (sc : Scan), (s.panel p).scan = some sc → sc.windows ≤ sc.done → s.fld F.TCH_STAT_STATE p = 2 →
    exec (.scanDecision p c) s = .next (s.decideScan p sc false (if s.safetyPanel p then c else none)))

/-- REPORT_WRITE, PERSIST_TIMER, IDLE_LEVEL_TIMER and WAKE_SCAN (R389, R394, R397, R403). -/
def Rules.TouchReportsAndTimers : Prop :=
  (∀ (s : State) (p : Nat) (body : List Byte) (r : RepRing), s.paused = false → (s.panel p).report = some body → (s.panel p).ringS = some r →
    (s.panel p).ringC = none →
    exec (.reportWrite p) s = .next ((s.setPanel p { s.panel p with report := none }).writeReport p false .s r body)) ∧
  (∀ (s t : State) (p : Nat) (body : List Byte) (r : RepRing),
    s.unitWrite .s (r.base + 384 * r.index) (leBytes 2 r.seq ++ body) = (none, t) →
    s.writeReport p false .s r body = t.setPanel p { t.panel p with
      ringS := some { r with index := (r.index + 1) % 2 ^ r.log, seq := if r.seq = 0xFFFF then 1 else r.seq + 1 } }) ∧
  (∀ (s : State) (p id : Nat) (c : Contact), (s.panel p).contacts.find? (fun c => c.id == id) = some c → c.persistent = false →
    s.passed c.since ((s.panel p).persistS * 1000000000) = true →
    exec (.persistTimer p id) s = .next
      (let t := (s.setPanel p { s.panel p with
          contacts := (s.panel p).contacts.map (fun d => if d.id = id then { d with persistent := true } else d) }).panelEvent p 0x1804 id
            ((c.zone.map (·.1)).getD 0xFFFF) c.x c.y
        if (c.zone.map (·.2.safety)).getD false then t.raise (192 + p) else t)) ∧
  (∀ (s : State) (p : Nat), s.fld F.TCH_STAT_STATE p = 2 → (∀ c, c ∈ (s.panel p).contacts → c.persistent = true) →
    s.fld F.TCH_STAT_LEVEL p < (s.panel p).levelAfter (s.cyc - (s.panel p).idleSince) →
    exec (.idleLevelTimer p) s = .next (s.setFld F.TCH_STAT_LEVEL ((s.panel p).levelAfter (s.cyc - (s.panel p).idleSince)) p)) ∧
  (∀ (s : State) (p : Nat) (wins : List (List (Bool × List Nat))), s.fld F.PWR_STATE_STATE = 3 → s.flag F.PWR_WAKE_PANEL_EN = true →
    s.fld F.PWR_WAKE_PANEL = p → s.fld F.TCH_STAT_STATE p = 3 → wins.length = (s.panel p).windows →
    ∃ u, u = (s.setPanel p ((wins.zip (List.range wins.length)).foldl (fun (y : Panel) e => y.measure e.1 e.2 none) (s.panel p))).decideScan p
        ⟨wins.length, wins.length, false, wins.any (fun w => w.any (·.1)), none, s.devTime, 0⟩ true none ∧
      exec (.wakeScan wins) s = .next (if (u.panel p).contacts.isEmpty then u else u.wake 0))

/-- The operations of class 0x06 (R407, R414-R421), executing in place `k` for the ring `q.ring`: whom they serve, when they are BUSY, and what
they leave. -/
def Obligations.TouchOperationsSetUpPanels : Prop :=
  (∀ (s : State) (k : Nat) (q : Started), s.opAt k 0x1800 = some q → (q.ring = .med → s.safetyPanel (q.p8 0) = false) →
    s.flag F.TCH_CFG_ENABLE (q.p8 0) = false → (bit (leAt (q.pkt.params.take 24) 1 1) 0 = true → s.linesTaken (q.p8 0) (q.pkt.params.take 24) = false) →
    exec (.panelSet k) s = .next (((s.lineEpoch (q.p8 0) (q.pkt.params.take 24)).applyPanel (q.p8 0) (q.pkt.params.take 24)).endOp k St.ok)) ∧
  (∀ (s : State) (k : Nat) (q : Started), s.opAt k 0x1801 = some q → (q.ring = .med → s.safetyPanel (q.p8 0) = false) →
    exec (.panelTune k) s = .next ((s.setPanel (q.p8 0) { s.panel (q.p8 0) with tune := q.pkt.params.take 32 }).endOp k St.ok)) ∧
  (∀ (s : State) (k : Nat) (q : Started), s.opAt k 0x1802 = some q → s.namesPanel q.ring (q.p8 0) = true → q.p8 1 ≠ 0 →
    (q.ring = .s → exec (.reportSetup k) s =
      .next ((s.setPanel (q.p8 0) { s.panel (q.p8 0) with ringS := some ⟨q.p64 8, q.p8 1, 0, 1⟩ }).endOp k St.ok)) ∧
    (q.ring ≠ .s → exec (.reportSetup k) s =
      .next ((s.setPanel (q.p8 0) { s.panel (q.p8 0) with ringC := some ⟨q.p64 8, q.p8 1, 0, 1⟩ }).endOp k St.ok))) ∧
  (∀ (s : State) (k : Nat) (q : Started), s.opAt k 0x1803 = some q → (q.ring ≠ .s → s.zoneDenied q (s.zone (q.p16 0)) = false) →
    (s.zone (q.p16 0) = none ∨ ∃ z, s.zone (q.p16 0) = some z ∧ z.owner = q.ring) →
    exec (.zoneSet k) s =
      .next ((({ s with touch := { s.touch with stamp := s.touch.stamp + 1 } } : State).setZone (q.p16 0)
        (if bit (q.p8 3) 0 then some (zoneOf q (s.touch.stamp + 1)) else none)).endOp k St.ok)) ∧
  (∀ (s : State) (k : Nat) (q : Started) (c : Contact), s.opAt k 0x1804 = some q → q.ring = .s →
    (s.panel (q.p8 0)).contacts.find? (fun c => c.id == q.p8 1) = some c → c.persistent = true →
    exec (.absorb k) s =
      .next ((s.setPanel (q.p8 0) { s.panel (q.p8 0) with absorbs := (s.panel (q.p8 0)).absorbs ++ [(c.id, q.ring)] }).endOp k St.deferred)) ∧
  (∀ (s : State) (k : Nat) (q : Started), s.opAt k 0x1805 = some q → (q.ring = .med → s.safetyPanel (q.p8 0) = false) →
    s.flag F.TCH_CFG_ENABLE (q.p8 0) = true → exec (.recalibrate k) s = .next ((s.startAcquire (q.p8 0) false).endOp k St.deferred)) ∧
  (∀ (s : State) (k : Nat) (q : Started), s.opAt k 0x1806 = some q → s.namesPanel q.ring (q.p8 0) = true →
    exec (.panelQuery k) s =
      .next (s.endOp k St.ok (s.rg (Reg.TCH_STAT (q.p8 0))).toNat (s.rg (Reg.TCH_NOISE (q.p8 0))).toNat
        ((s.panel (q.p8 0)).contacts.foldl (fun a c => a ||| 2 ^ c.id) 0) (s.zoneList.filter (fun e => e.2.panel == q.p8 0)).length)) ∧
  (∀ (s t : State) (k : Nat) (q : Started), s.opAt k 0x1807 = some q →
    s.unitWrite (ringWho q.ring) (q.p64 8) (s.sealContext .med 6 1
      ((s.panel (q.p8 0)).params ++ (s.panel (q.p8 0)).tune ++ List.replicate 56 0)) = (none, t) →
    exec (.tchCtxSave k) s = .next (t.endOp k St.ok)) ∧
  (∀ (s t : State) (k : Nat) (q : Started) (l : List Byte), s.opAt k 0x1808 = some q → s.safetyPanel (q.p8 0) = false →
    s.flag F.TCH_CFG_ENABLE (q.p8 0) = false → s.unitRead (ringWho q.ring) (q.p64 8) 128 = (.ok l, t) → t.contextFault .med 6 1 l = none →
    (bit (leAt (BitVec.ofNat 8 (q.p8 0) :: (l.drop 17).take 23) 1 1) 0 = true → t.linesTaken (q.p8 0) (BitVec.ofNat 8 (q.p8 0) :: (l.drop 17).take 23) = false) →
    exec (.tchCtxRestore k) s =
      .next (((t.setPanel (q.p8 0) { t.panel (q.p8 0) with tune := BitVec.ofNat 8 (q.p8 0) :: (l.drop 41).take 31 }).applyPanel (q.p8 0) (BitVec.ofNat 8 (q.p8 0) :: (l.drop 17).take 23)).endOp k St.ok)) ∧
  (∀ (s : State) (k : Nat) (q : Started), s.opAt k 0x1800 = some q → q.ring = .med → s.safetyPanel (q.p8 0) = true →
    exec (.panelSet k) s = .next (s.endOp k St.noPermission)) ∧
  (∀ (s : State) (k : Nat) (q : Started), s.opAt k 0x1803 = some q → q.ring ≠ .s → s.zoneDenied q (s.zone (q.p16 0)) = true →
    exec (.zoneSet k) s = .next (s.endOp k St.noPermission))

/-- Scans, surveys, reports and timers of a panel (09 R378-R403). -/
def Obligations.TouchScansDecideAndReport : Prop :=
  Rules.TouchScansRunTheirWindows ∧ Rules.TouchAcquiresAndDecides ∧ Rules.TouchReportsAndTimers

/-! Stipple haptics (10). -/

/-- HAP_TRIG_EDGE and HAPTIC_ZONE_TRIGGER (R433, R436, R438, R445; a zone's trigger needs the actuator's holder, R446), and what an actuator does with the trigger (R434, R436, R439): an effect that is
taken replaces what ran; an ordinary trigger during a safety effect is ignored and counted; a disabled or faulted actuator ignores it. -/
def Rules.TriggersStartEffects : Prop :=
  (∀ (s : State) (j : Nat), s.flag F.HAP_TRIG_CFG_ENABLE j = true →
    (bit (s.fld F.HAP_TRIG_CFG_EDGE j) 0 = true → exec (.hapTrigEdge j true) s =
      .next (s.trigger (s.fld F.HAP_TRIG_CFG_ACTUATOR j) (s.fld F.HAP_TRIG_CFG_RISE_EFFECT j) (.pin j) (s.flag F.HAP_TRIG_CFG_SAFETY j))) ∧
    (bit (s.fld F.HAP_TRIG_CFG_EDGE j) 1 = true → exec (.hapTrigEdge j false) s =
      .next (s.trigger (s.fld F.HAP_TRIG_CFG_ACTUATOR j) (s.fld F.HAP_TRIG_CFG_FALL_EFFECT j) (.pin j) (s.flag F.HAP_TRIG_CFG_SAFETY j)))) ∧
  (∀ (s : State) (z : Nat) (h : ZoneAct), s.touch.haptics.find? (fun h => h.zone == z) = some h →
    ∃ u, u = ({ s with touch := { s.touch with haptics := s.touch.haptics.erase h } } : State) ∧
      exec (.hapticZoneTrigger z) s = .next (if u.namesAct h.owner h.target then u.trigger h.target h.what (.zone z) h.safety else u)) ∧
  (∀ (s : State) (a e : Nat) (o : Origin) (safety : Bool) (segs : List Seg) (rep : Nat),
    (s.safe = false ∨ safety = true) → s.effectSegs e = some (segs, rep) →
    (s.actRefuses a safety = none → s.trigger a e o safety = s.startEffect a e o safety segs rep) ∧
    (s.actRefuses a safety = some 1 → s.trigger a e o safety = s.satInc F.HAP_STAT_IGNORED a) ∧
    (∀ n, n ≠ 1 → s.actRefuses a safety = some n → s.trigger a e o safety = s)) ∧
  (∀ (s : State) (a : Nat) (safety : Bool), s.actRefuses a safety = none ↔
    ((∀ e, (s.act a).run = some e → e.safety = true → safety = true) ∧ s.flag F.HAP_CFG_ENABLE a = true ∧ s.fld F.HAP_STAT_STATE a ≠ 3)) ∧
  (∀ (s : State) (a e : Nat) (o : Origin) (safety : Bool) (g : Seg) (l : List Seg) (rep : Nat), a < 8 → (s.act a).run = none →
    let t := s.startEffect a e o safety (g :: l) rep
    (∃ r, (t.act a).run = some r ∧ r.number = e ∧ r.origin = o ∧ r.safety = safety ∧ r.segs = g :: l ∧ r.idx = 0 ∧ r.rounds = rep ∧
      r.cfg = s.rg (Reg.HAP_CFG a) ∧ r.drv = s.rg (Reg.HAP_DRIVE a) ∧ r.lim = s.rg (Reg.HAP_LIM a)) ∧
    (t.act a).bridge = g.bridge ∧ t.fld F.HAP_STAT_STATE a = 2 ∧ t.flag F.HAP_STAT_SAFETY a = safety ∧ t.fld F.HAP_STAT_SEGMENT a = 0 ∧
    (∀ b, b ≠ a → t.act b = s.act b) ∧ SameRegsBut [Reg.HAP_STAT a, Reg.HAP_WEAR a, Reg.HAP_STARTS a, Reg.HAP_DRIVE_S a] s t ∧
    t = { s with regs := t.regs, hap := t.hap })

/-- SEGMENT_END, COAST_WINDOW, OPEN_CHECK, OVERCURRENT and VHAP_MEASURE (R426, R427, R429, R435, R439-R444, R448): an effect goes from segment to
segment and ends with EFFECT_DONE; measured values are shown and judged; a fault lets the bridge coast. -/
def Obligations.SegmentsRunAndFaultsCoast : Prop :=
  (∀ (s : State) (a : Nat) (e : Effect), (s.act a).run = some e → e.idx + 1 < e.segs.length →
    exec (.segmentEnd a) s = .next ((s.actWear a).beginSeg a { e with idx := e.idx + 1 })) ∧
  (∀ (s : State) (a : Nat) (e : Effect), (s.act a).run = some e → e.segs.length ≤ e.idx + 1 → 0 < e.rounds →
    exec (.segmentEnd a) s = .next ((s.actWear a).beginSeg a { e with idx := 0, rounds := e.rounds - 1 })) ∧
  (∀ (s : State) (a : Nat) (e : Effect), (s.act a).run = some e → e.segs.length ≤ e.idx + 1 → e.rounds = 0 →
    ((s.actWear a).doneEvent a e 0 |>.act a).learn = none →
    ∃ u, u = ((s.actWear a).doneEvent a e 0).setAct a { ((s.actWear a).doneEvent a e 0).act a with learn := none } ∧
      exec (.segmentEnd a) s = .next (u.actIdle a (u.restState a))) ∧
  (∀ (s : State) (a bemf : Nat) (e : Effect) (g : Seg), (s.act a).run = some e → e.seg = some g → g.phase = 1 → 5 * (e.windows + 1) + 1 ≤ g.dur →
    a < 8 → s.flag F.HAP_STAT_SIG_VALID a = false → bemf < 65536 →
    ∃ t, exec (.coastWindow a bemf) s = .next t ∧ t.fld F.HAP_MEAS_BEMF a = bemf ∧ (t.act a).low = 0 ∧
      (t.act a).run = some { e with windows := e.windows + 1 } ∧ (∀ b, b ≠ a → t.act b = s.act b) ∧
      SameRegsBut [Reg.HAP_MEAS a, Reg.HAP_WEAR a, Reg.HAP_DRIVE_S a] s t ∧ t = { s with regs := t.regs, hap := t.hap }) ∧
  (∀ (s : State) (a ma : Nat) (e : Effect) (g : Seg) (c : Nat), (s.act a).openDue = some c → (s.act a).run = some e → e.seg = some g → ma ≠ 0 →
    a < 8 → s.flag F.HAP_STAT_SIG_VALID a = false → ((s.act a).duty < 3200 ∨ e.openMa ≤ ma) →
    ∃ t, exec (.openCheck a ma) s = .next t ∧
      t.fld F.HAP_MEAS_R a = min 0xFFFF ((2 * 10 * s.applied127 e g + 127 * ma) / (2 * 127 * ma)) ∧ (t.act a).openDue = none ∧ (t.act a).odd = 0 ∧
      (∀ b, b ≠ a → t.act b = s.act b) ∧ SameRegsBut [Reg.HAP_MEAS a] s t ∧ t = { s with regs := t.regs, hap := t.hap }) ∧
  (∀ (s : State) (a ma : Nat), 600 < ma → (s.act a).bridge.drives = true → exec (.overcurrent a ma) s = .next (s.actFault a 3 ma)) ∧
  (∀ (s : State) (mv : Nat), exec (.vhapMeasure mv) s =
    .next ((List.range 8).foldl (fun (s : State) a => s.actDuty a) (s.setFld F.HAP_VHAP_MV mv))) ∧
  (∀ (s : State) (a kind value : Nat), a < 8 → kind < 4 →
    let t := s.actFault a kind value
    t.fld F.HAP_STAT_FAULT a = kind ∧ t.fld F.HAP_STAT_STATE a = 3 ∧ (t.act a).run = none ∧ (t.act a).bridge = .coast ∧ (t.act a).duty = 0 ∧
    (∀ b, b ≠ a → t.act b = s.act b))

/-- The operations of class 0x07 (R431-R437, R439, R441, R443, R446, R447). -/
def Rules.HapticOperationsPlayAndLoad : Prop :=
  (∀ (s : State) (k : Nat) (q : Started) (segs : List Seg) (rep : Nat), s.opAt k 0x1C00 = some q → s.namesAct q.ring (q.p8 0) = true →
    q.p8 1 ≠ 0 → (128 ≤ q.p8 1 → s.foreignWave q.ring (q.p8 1 - 128) = false) → s.effectSegs (q.p8 1) = some (segs, rep) →
    (s.actRefuses (q.p8 0) (decide (q.ring = .s)) = none → exec (.play k) s =
      .next ((s.startEffect (q.p8 0) (q.p8 1) (.play q.ring q.pkt.tag) (decide (q.ring = .s)) segs rep).endOp k St.ok)) ∧
    (s.actRefuses (q.p8 0) (decide (q.ring = .s)) = some 1 → exec (.play k) s =
      .next ((s.satInc F.HAP_STAT_IGNORED (q.p8 0)).endOp k St.busy 1)) ∧
    (∀ n, n ≠ 1 → s.actRefuses (q.p8 0) (decide (q.ring = .s)) = some n → exec (.play k) s = .next (s.endOp k St.busy n))) ∧
  (∀ (s : State) (k : Nat) (q : Started), s.opAt k 0x1C00 = some q → s.namesAct q.ring (q.p8 0) = false →
    exec (.play k) s = .next (s.endOp k St.noPermission)) ∧
  (∀ (s : State) (k : Nat) (q : Started), s.opAt k 0x1C01 = some q →
    (q.p8 0 < 24 ∨ q.ring = .s) → (∀ w, s.wave (q.p8 0) = some w → w.owner = q.ring) → s.waveRuns (q.p8 0) = false →
    exec (.waveLoad k) s = .next ((s.setWave (q.p8 0) (some ⟨q.ring, q.p8 2, waveSegs q⟩)).endOp k St.ok)) ∧
  (∀ (s : State) (k : Nat) (q : Started), s.opAt k 0x1C02 = some q →
    (q.p8 0 < 24 ∨ q.ring = .s) → (∀ w, s.wave (q.p8 0) = some w → w.owner = q.ring) → s.waveRuns (q.p8 0) = false →
    exec (.waveFree k) s = .next ((s.setWave (q.p8 0) none).endOp k St.ok)) ∧
  (∀ (s : State) (k : Nat) (q : Started), s.opAt k 0x1C03 = some q → s.namesAct q.ring (q.p8 0) = true →
    ∃ u, u = s.actWear (q.p8 0) ∧ exec (.actQuery k) s =
      .next (u.endOp k St.ok (u.rg (Reg.HAP_STAT (q.p8 0))).toNat (u.rg (Reg.HAP_MEAS (q.p8 0))).toNat (u.rg (Reg.HAP_WEAR (q.p8 0))).toNat
        (u.rg (Reg.HAP_STARTS (q.p8 0))).toNat)) ∧
  (∀ (s : State) (k : Nat) (q : Started), s.opAt k 0x1C04 = some q → (q.ring = .med → s.flag F.HAP_CFG_CLAIMED (q.p8 0) = false) →
    (q.p8 1 = 2 → s.fld F.HAP_STAT_STATE (q.p8 0) = 3 → ∃ u, u = s.setFld F.HAP_STAT_FAULT 0 (q.p8 0) ∧
      exec (.maint k) s = .next ((u.setFld F.HAP_STAT_STATE (u.restState (q.p8 0)) (q.p8 0)).endOp k St.ok)) ∧
    (q.p8 1 = 2 → s.fld F.HAP_STAT_STATE (q.p8 0) ≠ 3 → exec (.maint k) s = .next (s.endOp k St.ok)) ∧
    (q.p8 1 ≠ 2 → s.actRefuses (q.p8 0) (decide (q.ring = .s)) = none →
      ∃ u, u = s.startEffect (q.p8 0) 121 (.learn q.ring) (decide (q.ring = .s)) (romEffect 121) 0 ∧
        exec (.maint k) s =
          .next ((u.setAct (q.p8 0) { u.act (q.p8 0) with learn := some ⟨decide (q.p8 1 = 1), 0, []⟩ }).endOp k St.deferred)))

/-- Triggers, PLAY and the other operations of class 0x07 (10). -/
def Obligations.TriggersAndPlaysStartEffects : Prop :=
  Rules.TriggersStartEffects ∧ Rules.HapticOperationsPlayAndLoad

/-! The audio router (11). -/

/-- The set-up operations of class 0x08 (R452, R455, R459-R461, R465, R471-R476, R496), executing in place `k`: ports, routes, buses, banks, the
router's state and its queries. -/
def Rules.AudioSetsPortsRoutesAndBuses : Prop :=
  (∀ (s : State) (k : Nat) (q : Started), s.opAt k 0x2000 = some q → (q.ring = .med → s.flag F.AUD_ALARM_ENABLE = true → q.p8 0 ≠ 6 ∧ q.p8 0 ≠ 7) →
    (s.portRouted (q.p8 0) = false → exec (.portSet k) s = .next (((s.applyPort (q.p8 0) (q.pkt.params.take 8)).audSync).endOp k St.ok)) ∧
    (q.p8 0 < 8 → s.portRouted (q.p8 0) = true → bits (q.p8 1) 5 4 ≠ s.fld F.AUD_PORT_STAT_DOMAIN (q.p8 0) →
      exec (.portSet k) s = .next (s.endOp k St.busy))) ∧
  (∀ (s t : State) (k : Nat) (q : Started), s.opAt k 0x2001 = some q → q.ring = .s →
    (s.routeAll q (q.p8 0) = (t, none) → q.p8 1 = 0 → exec (.routeSet k) s = .next (t.endOp k St.ok)) ∧
    (s.routeAll q (q.p8 0) = (t, none) → q.p8 1 ≠ 0 → t.swapLoops (2 ^ q.p8 0) = false →
      exec (.routeSet k) s = .next (t.armBanks k (2 ^ q.p8 0) q.ring)) ∧
    (∀ o, s.routeAll q (q.p8 0) = (t, some o) → exec (.routeSet k) s = .next (s.endOp k St.range o))) ∧
  (∀ (s : State) (k : Nat) (q : Started), s.opAt k 0x2001 = some q → q.ring ≠ .s → q.p8 0 = 2 →
    exec (.routeSet k) s = .next (s.endOp k St.noPermission)) ∧
  (∀ (s : State) (k : Nat) (q : Started), s.opAt k 0x2002 = some q → q.p8 0 ≠ 15 → bit (q.p8 1) 0 = false →
    (bit (q.p8 1) 1 = (s.bus (q.p8 0)).domV ∨ s.busRouted (q.p8 0) = false) →
    exec (.busSet k) s =
      .next ((s.setBus (q.p8 0) { s.bus (q.p8 0) with domV := bit (q.p8 1) 1, shd := q.pkt.params.take 48 }).endOp k St.ok)) ∧
  (∀ (s : State) (k : Nat) (q : Started), s.opAt k 0x2003 = some q →
    (bit (q.p8 0) 2 = true → q.ring ≠ .s → exec (.safeload k) s = .next (s.endOp k St.noPermission)) ∧
    (q.ring = .s → q.p8 0 = 0 → exec (.safeload k) s = .next (s.endOp k St.ok)) ∧
    (q.ring = .s → q.p8 0 ≠ 0 → s.swapLoops (q.p8 0) = true → exec (.safeload k) s = .next (s.endOp k St.range)) ∧
    (q.ring = .s → q.p8 0 ≠ 0 → s.swapLoops (q.p8 0) = false → exec (.safeload k) s = .next (s.armBanks k (q.p8 0) q.ring))) ∧
  (∀ (s : State) (k : Nat) (q : Started), s.opAt k 0x2004 = some q →
    (q.p8 0 = 1 → (s.fld F.AUD_CTRL_STATE = 0 ∨ s.fld F.AUD_CTRL_STATE = 2 ∨ (s.fld F.AUD_CTRL_STATE = 3 ∧ q.ring = .s)) →
      exec (.routerState k) s = .next (((s.setRouter 1).audSync).endOp k St.ok)) ∧
    (q.p8 0 = 2 → s.fld F.AUD_CTRL_STATE = 1 → exec (.routerState k) s = .next (((s.setRouter 2).audSync).endOp k St.ok)) ∧
    (q.p8 0 = 3 → q.ring = .s → exec (.routerState k) s = .next (((s.setRouter 3).audSync).endOp k St.ok)) ∧
    (q.p8 0 = 3 → q.ring ≠ .s → exec (.routerState k) s = .next (s.endOp k St.noPermission))) ∧
  (∀ (s : State) (k : Nat) (q : Started), s.opAt k 0x200B = some q → q.ring = .s →
    (q.p8 0 = 0 → exec (.audioQuery k) s =
      .next (s.endOp k St.ok (s.rg Reg.AUD_CTRL).toNat (s.rg Reg.AUD_STAT).toNat (s.rg Reg.AUD_ALARM_STAT).toNat)) ∧
    (q.p8 0 = 4 → exec (.audioQuery k) s =
      .next (s.endOp k St.ok (routeWord (s.mux (q.p16 2)).act) (routeWord (s.mux (q.p16 2)).shd))) ∧
    (∀ x, q.p8 0 = 1 → s.stream (q.p16 2) = some x → exec (.audioQuery k) s = .next (s.endOp k St.ok x.index x.count (if x.started then 1 else 0))))

/-- SAFELOAD_SWAP, GAIN_RAMP_END, CROSSFADE_END, PORT_CLOCK_LOST and PORT_CLOCK_BACK (R451, R454, R466, R467, R474, R484, R497). -/
def Rules.AudioSwapsRampsAndClocks : Prop :=
  (∀ (s : State) (v : Bool) (w : Swap), s.aud.swaps = [w] → (v = true ∨ bit w.banks 1 = false) →
    exec (.safeloadSwap v) s =
      .next (((((s.setAud { s.aud with swaps := [] }).swapBanks w.banks).endOp w.place St.ok).event w.ring 0x2001 noInst w.banks
        ((((s.setAud { s.aud with swaps := [] }).swapBanks w.banks).endOp w.place St.ok).aSamples % 2 ^ 32)).raise 266).audSync) ∧
  (∀ s : State, (∀ w, w ∈ s.aud.swaps → bit w.banks 1 = true) →
    ∃ t, exec (.safeloadSwap false) s = .next t ∧ t.aud.swaps = s.aud.swaps ∧ (∀ d, t.mux d = s.mux d) ∧ (∀ n, t.bus n = s.bus n)) ∧
  (∀ (s : State) (i : Nat), i < 512 → exec (.gainRampEnd i) s = .next (s.setMux i { s.mux i with ramp := none })) ∧
  (∀ (s : State) (i : Nat), i < 16 →
    exec (.gainRampEnd (512 + i)) s = .next (s.setBus i { s.bus i with mramp := none }) ∧
    exec (.gainRampEnd (528 + i)) s = .next (s.setBus i { s.bus i with sramp := none })) ∧
  (∀ (s : State) (i : Nat) (x : AStream) (r : Ramp), i < 68 → s.stream i = some x → x.ramp = some r →
    exec (.gainRampEnd (544 + i)) s =
      .next (if x.stopping then (s.haltStream i).audSync else s.setStream i (some { x with ramp := none }))) ∧
  (∀ (s : State) (d : Nat) (f : Fade), (s.mux d).fade = some f →
    exec (.crossfadeEnd d) s = .next (((s.setMux d { s.mux d with fade := none, ramp := none }).applyMux d).audSync)) ∧
  (∀ (s : State) (p rate : Nat), s.flag F.AUD_PORT_STAT_CLOCKED p = true → s.flag F.AUD_PORT_STAT_ENABLED p = true →
    bit (leAt (s.port p) 1 1) 1 = false →
    ∃ u, u = (s.setFld F.AUD_PORT_STAT_CLOCKED 0 p).setFld F.AUD_PORT_STAT_RATE_HZ rate p ∧
      exec (.portClockLost p rate) s =
        .next ((u.portEvent p (if rate ≠ 0 ∧ u.fld F.AUD_PORT_STAT_DOMAIN p = 2 then 3 else 1) rate).audSync)) ∧
  (∀ (s : State) (p rate : Nat), s.flag F.AUD_PORT_STAT_CLOCKED p = false → s.flag F.AUD_PORT_STAT_ENABLED p = true → s.rateFits p rate = true →
    exec (.portClockBack p rate) s =
      .next ((((s.setFld F.AUD_PORT_STAT_CLOCKED 1 p).setFld F.AUD_PORT_STAT_RATE_HZ rate p).portEvent p 2 rate).audSync))

/-- The generators (R477-R480): GEN_SET attaches a pair to a bus no other pair has, TONE_SET starts or stops a cadence, a cadence goes from step to
step and ends with TONE_DONE, and beeps play; without a pair they are counted. -/
def Obligations.GeneratorsRunCadencesAndBeeps : Prop :=
  (∀ (s : State) (k : Nat) (q : Started), s.opAt k 0x2005 = some q →
    let b := if q.p8 1 = 0xFF then none else some (q.p8 1)
    (b ≠ none → (∃ w, w < 7 ∧ w ≠ q.p8 0 ∧ (s.pair w).bus = b) → exec (.genSet k) s = .next (s.endOp k St.busy)) ∧
    ((b = none ∨ ∀ w, w < 7 → w ≠ q.p8 0 → (s.pair w).bus ≠ b) →
      ((s.pair (q.p8 0)).bus = b →
        exec (.genSet k) s = .next (((s.setPair (q.p8 0) { s.pair (q.p8 0) with bus := b, gain := q.p8 2 }).audSync).endOp k St.ok)) ∧
      ((s.pair (q.p8 0)).bus ≠ b → (s.pair (q.p8 0)).tone = none →
        ∃ u, u = s.setPair (q.p8 0) { s.pair (q.p8 0) with beep := none } ∧
          exec (.genSet k) s = .next (((u.setPair (q.p8 0) { u.pair (q.p8 0) with bus := b, gain := q.p8 2 }).audSync).endOp k St.ok)))) ∧
  (∀ (s : State) (k : Nat) (q : Started) (u : Nat), s.opAt k 0x2006 = some q → (q.p8 0 = 15 → q.ring = .s) → s.pairOf (q.p8 0) = some u →
    (bit (q.p8 1) 3 = true → exec (.toneSet k) s = .next (((s.stopTone u).audSync).endOp k St.ok)) ∧
    (bit (q.p8 1) 3 = false → bit (q.p8 1) 2 = true → exec (.toneSet k) s = .next ((s.setAud { s.aud with safeCad := toneOf q }).endOp k St.ok)) ∧
    (bit (q.p8 1) 3 = false → bit (q.p8 1) 2 = false → bit (q.p8 1) 0 = true → ((s.bus (q.p8 0)).domV = true → toneTooHigh q = none) →
      exec (.toneSet k) s = .next (((s.startTone u (toneOf q) (some q.ring)).audSync).endOp k St.ok))) ∧
  (∀ (s : State) (k : Nat) (q : Started), s.opAt k 0x2006 = some q → q.p8 0 = 15 → q.ring ≠ .s →
    exec (.toneSet k) s = .next (s.endOp k St.noPermission)) ∧
  (∀ (s : State) (g u : Nat) (t : Tone), s.pairOf g = some u → (s.pair u).tone = some t →
    (t.step + 1 < t.cad.steps.length → exec (.cadenceStepEnd g) s =
      .next (s.setPair u { s.pair u with tone := some { t with step := t.step + 1, began := s.cyc } })) ∧
    (t.cad.steps.length ≤ t.step + 1 → t.cad.rep = 255 → exec (.cadenceStepEnd g) s =
      .next (s.setPair u { s.pair u with tone := some { t with step := 0, began := s.cyc } })) ∧
    (t.cad.steps.length ≤ t.step + 1 → t.cad.rep ≠ 255 → 0 < t.left → exec (.cadenceStepEnd g) s =
      .next (s.setPair u { s.pair u with tone := some { t with step := 0, began := s.cyc, left := t.left - 1 } })) ∧
    (t.cad.steps.length ≤ t.step + 1 → t.cad.rep ≠ 255 → t.left = 0 → exec (.cadenceStepEnd g) s =
      .next (((s.toneDone u t 0).setPair u { s.pair u with tone := none }).audSync))) ∧
  (∀ (s : State) (k : Nat) (q : Started), s.opAt k 0x2007 = some q → (q.p8 0 = 15 → q.ring = .s) →
    exec (.beepPlay k) s = .next ((s.beep (q.p8 0) (q.p8 1)).endOp k St.ok)) ∧
  (∀ (s : State) (z : Nat) (h : ZoneAct), s.touch.beeps.find? (fun h => h.zone == z) = some h →
    exec (.zoneBeepTrigger z) s =
      .next (({ s with touch := { s.touch with beeps := s.touch.beeps.erase h } } : State).beep h.target h.what)) ∧
  (∀ (s : State) (g b : Nat), (b = 0 ∨ 9 < b ∨ s.pairOf g = none) → s.beep g b = s.satInc F.AUD_STAT_NOGEN) ∧
  (∀ (s : State) (g b u : Nat), 0 < b → b ≤ 9 → s.pairOf g = some u → s.beep g b = s.setPair u { s.pair u with beep := some (b, s.cyc) })

/-- The streams (R481-R484, R488): set up only while stopped, started, stopped and fetched; their contexts. -/
def Obligations.StreamsAreSetUpAndFetched : Prop :=
  (∀ (s : State) (k : Nat) (q : Started), s.opAt k 0x2008 = some q → numTooHigh q.ring (q.p8 0) (bit (q.p8 1) 0) = false →
    s.namesStream q.ring (q.p8 0) (bit (q.p8 1) 0) = true →
    (∀ x, s.stream (streamKey (q.p8 0) (bit (q.p8 1) 0)) = some x → x.started = true → exec (.streamSetup k) s = .next (s.endOp k St.busy)) ∧
    (((s.stream (streamKey (q.p8 0) (bit (q.p8 1) 0))).map (·.started)).getD false = false →
      (q.p8 2 = 0 → exec (.streamSetup k) s = .next (((s.setStream (streamKey (q.p8 0) (bit (q.p8 1) 0)) none).audSync).endOp k St.ok)) ∧
      (q.p8 2 ≠ 0 → (bit (q.p8 1) 0 = true ∨ q.p8 0 < 64) → exec (.streamSetup k) s =
        .next (((s.setStream (streamKey (q.p8 0) (bit (q.p8 1) 0)) (some (newStream (s.streamOwner q.ring (q.p8 0) (bit (q.p8 1) 0))
          (q.pkt.params.take 16) 0))).audSync).endOp k St.ok)))) ∧
  (∀ (s : State) (k : Nat) (q : Started) (x : AStream), s.opAt k 0x2009 = some q → numTooHigh q.ring (q.p8 0) (bit (q.p8 1) 0) = false →
    s.namesStream q.ring (q.p8 0) (bit (q.p8 1) 0) = true → s.stream (streamKey (q.p8 0) (bit (q.p8 1) 0)) = some x →
    (q.p8 2 = 0 → exec (.streamCtrl k) s = .next ((s.stopStream (streamKey (q.p8 0) (bit (q.p8 1) 0))).endOp k St.ok)) ∧
    (q.p8 2 = 1 → s.safe = false → x.started = false → exec (.streamCtrl k) s =
      .next ((s.startStream (streamKey (q.p8 0) (bit (q.p8 1) 0)) x).endOp k St.ok)) ∧
    (q.p8 2 = 2 → x.started = false → exec (.streamCtrl k) s =
      .next ((s.setStream (streamKey (q.p8 0) (bit (q.p8 1) 0)) (some { x with gain := q.p8 3 })).endOp k St.ok))) ∧
  (∀ (s : State) (n : Nat) (l : List Nat) (x : AStream), s.stream n = some x → x.started = true →
    (n < 128 → exec (.streamFetch n l) s = .next (s.fetchPlay n x)) ∧
    (128 ≤ n → exec (.streamFetch n l) s = .next (s.fetchCapture n x l))) ∧
  (∀ (s t : State) (k : Nat) (q : Started) (x : AStream), s.opAt k 0x200C = some q → numTooHigh q.ring (q.p8 0) (bit (q.p8 1) 0) = false →
    s.namesStream q.ring (q.p8 0) (bit (q.p8 1) 0) = true → s.stream (streamKey (q.p8 0) (bit (q.p8 1) 0)) = some x →
    s.unitWrite (ringWho q.ring) (q.p64 8) (s.sealContext q.ring 8 1 (x.params ++ leBytes 4 x.index ++ List.replicate 28 0)) = (none, t) →
    exec (.audCtxSave k) s = .next (t.endOp k St.ok)) ∧
  (∀ (s t : State) (k : Nat) (q : Started) (l : List Byte), s.opAt k 0x200D = some q → numTooHigh q.ring (q.p8 0) (bit (q.p8 1) 0) = false →
    s.namesStream q.ring (q.p8 0) (bit (q.p8 1) 0) = true →
    ((s.stream (streamKey (q.p8 0) (bit (q.p8 1) 0))).map (·.started)).getD false = false →
    s.unitRead (ringWho q.ring) (q.p64 8) 64 = (.ok l, t) → t.contextFault q.ring 8 1 l = none →
    exec (.audCtxRestore k) s =
      .next (((t.setStream (streamKey (q.p8 0) (bit (q.p8 1) 0)) (some (newStream (t.streamOwner q.ring (q.p8 0) (bit (q.p8 1) 0))
        ((l.drop 16).take 16) (leAt l 32 4)))).audSync).endOp k St.ok))

/-- ALARM_SET, ALARM_LANE_MISMATCH and ALARM_MEMBER_FAIL (R490-R493; 17 R636): the pair is switched on over two ports that carry its slots, or off outside the safe
state; a first deviation is a fault of class 4 or 5 and uses the pair's spare, a second one enters the safe state. -/
def Obligations.AlarmPairFailsOnceThenSafe : Prop :=
  (∀ (s : State) (k : Nat) (q : Started), s.opAt k 0x200A = some q → bit (q.p8 0) 0 = false →
    (s.safe = true → exec (.alarmSet k) s = .next (s.endOp k St.busy)) ∧
    (s.safe = false → s.flag F.AUD_ALARM_ENABLE = false →
      ∃ u, u = (((s.setFld F.AUD_CTRL_SRAMP (if q.p16 4 = 0 then 40 else q.p16 4)).setFlag F.AUD_ALARM_ENABLE false).setFlag F.AUD_ALARM_DUCK
          (bit (q.p8 0) 1)).setFld F.AUD_ALARM_DUCK_DB (min 63 (q.p8 1)) ∧
        exec (.alarmSet k) s = .next ((((u.setFld F.AUD_ALARM_SLOTS (q.p16 2)).showAlarm).audSync).endOp k St.ok))) ∧
  (∀ (s : State) (k : Nat) (q : Started), s.opAt k 0x200A = some q → bit (q.p8 0) 0 = true → q.p16 2 = 0 →
    exec (.alarmSet k) s = .next (s.endOp k St.range 2)) ∧
  (∀ s : State, s.flag F.AUD_ALARM_ENABLE = true → bits s.aud.spare 1 0 = 0 →
    exec .alarmLaneMismatch s =
      .next ((((((s.setFld F.AUD_ALARM_STAT_MISMATCH 1).satInc F.AUD_ALARM_STAT_MISMATCHES).setAud
        { s.aud with spare := s.aud.spare ||| 4 }).raise 240).alarmEvent 1).fault 4 15)) ∧
  (∀ s : State, s.flag F.AUD_ALARM_ENABLE = true → bits s.aud.spare 1 0 ≠ 0 →
    exec .alarmLaneMismatch s =
      .next (((((((s.setFld F.AUD_ALARM_STAT_MISMATCH 1).satInc F.AUD_ALARM_STAT_MISMATCHES).setAud
        { s.aud with spare := s.aud.spare ||| 4 }).raise 240).alarmEvent 1).fault 4 15).enterSafe 1 4)) ∧
  (∀ (s : State) (m : Nat), m < 2 → s.flag F.AUD_ALARM_ENABLE = true → bit s.aud.spare m = false →
    ∃ u, u = ((((s.setFld (if m = 0 then F.AUD_ALARM_STAT_FAIL6 else F.AUD_ALARM_STAT_FAIL7) 1).setAud
        { s.aud with spare := s.aud.spare ||| 2 ^ m }).raise (241 + m)).alarmEvent (2 + m)).fault 5 (6 + m) ∧
      exec (.alarmMemberFail m) s = .next (if s.aud.spare = 0 then u else u.enterSafe 1 5)) ∧
  (∀ (s : State) (k : Nat) (q : Started),
    let ready := fun (p : Nat) => bits (leAt (s.port p) 1 1) 1 0 == 3 && bits (leAt (s.port p) 1 1) 5 4 == 0 && decide (q.p16 2 < 2 ^ leAt (s.port p) 2 1)
    s.opAt k 0x200A = some q → bit (q.p8 0) 0 = true → q.p16 2 ≠ 0 →
    (ready 6 = false ∨ ready 7 = false → exec (.alarmSet k) s = .next (s.endOp k St.range)) ∧
    (ready 6 = true → ready 7 = true →
      ∃ u, u = ((((s.setFld F.AUD_CTRL_SRAMP (if q.p16 4 = 0 then 40 else q.p16 4)).setFlag F.AUD_ALARM_ENABLE true).setFlag F.AUD_ALARM_DUCK
          (bit (q.p8 0) 1)).setFld F.AUD_ALARM_DUCK_DB (min 63 (q.p8 1))).setFld F.AUD_ALARM_SLOTS (q.p16 2) ∧
        exec (.alarmSet k) s =
          .next (((((if s.flag F.AUD_ALARM_ENABLE then u else u.dropAlarmRoutes).clearAlarmFails).showAlarm).audSync).endOp k St.ok)))

/-- Setting up the router, swaps, ramps and clocks (11). -/
def Obligations.AudioSetsUpAndSwaps : Prop :=
  Rules.AudioSetsPortsRoutesAndBuses ∧ Rules.AudioSwapsRampsAndClocks

/-! Folio and lifetime (15). -/

/-- The operations of class 0x0B (R590, R592, R597, R601, R602, R605, R608), executing in place `k` with a Folio that takes records: the write
operations ask for their records, whose commit ends them; the read operations answer from the records. -/
def Obligations.FolioOperationsAskForRecords : Prop :=
  (∀ (s : State) (k : Nat) (q : Started), s.opAt k 0x2C00 = some q →
    exec (.folioQuery k) s =
      .next (s.endOp k St.ok (s.rg Reg.FOL_STAT).toNat s.activeArea.gen ((s.areaPages - s.activeArea.used) * 256) s.fol.seq)) ∧
  (∀ (s : State) (k : Nat) (q : Started), s.opAt k 0x2C01 = some q → q.progress = 0 →
    (s.folioOpen = false → exec (.folioFlush k) s = .next (s.endOp k St.busy)) ∧
    (s.folioOpen = true → ∃ u, u = s.setProgress k 1 ∧ exec (.folioFlush k) s =
      .next ((u.flushRecords (ringIsS q.ring) (.op k)).foldl (fun (t : State) w => t.folioWrite w) u))) ∧
  (∀ (s t : State) (k : Nat) (q : Started) (l : List Byte), s.opAt k 0x2C02 = some q → q.progress = 0 → s.flag F.DEV_FW_STAT_UNREADABLE = false →
    s.folioOpen = true → s.unitRead (ringWho q.ring) (q.p64 8) (q.p32 4) = (.ok l, t) →
    exec (.settingsWrite k) s =
      .next ((t.setProgress k 1).folioWrite ⟨1, leBytes 4 (settingsKey q.ring (q.p8 0) (q.p16 2)) ++ l, ringIsS q.ring, .op k⟩)) ∧
  (∀ (s : State) (k : Nat) (q : Started), s.opAt k 0x2C02 = some q → q.progress = 0 → s.flag F.DEV_FW_STAT_UNREADABLE = true →
    exec (.settingsWrite k) s = .next (s.endOp k St.settingsUnreadable)) ∧
  (∀ (s : State) (k : Nat) (q : Started), s.opAt k 0x2C03 = some q → q.p16 2 ≠ 0 → s.folioOpen = true →
    (s.record 1 (settingsKey q.ring (q.p8 0) (q.p16 2)) = none → exec (.settingsRead k) s = .next (s.endOp k St.range 0)) ∧
    (∀ r, s.record 1 (settingsKey q.ring (q.p8 0) (q.p16 2)) = some r →
      (q.p32 4 < (r.body.drop 4).length → exec (.settingsRead k) s = .next (s.endOp k St.badLength 0)) ∧
      (∀ t, (r.body.drop 4).length ≤ q.p32 4 → s.unitWrite (ringWho q.ring) (q.p64 8) (r.body.drop 4) = (none, t) →
        exec (.settingsRead k) s = .next (t.endOp k St.ok (q.p16 2) (r.body.drop 4).length)))) ∧
  (∀ (s : State) (k : Nat) (q : Started), s.opAt k 0x2C04 = some q → s.folioOpen = true →
    ((s.activeArea.good.filter (fun r => r.typ == q.p16 0)).reverse[q.p32 4]? = none → exec (.logRead k) s = .next (s.endOp k St.range 4)) ∧
    (∀ r t, (s.activeArea.good.filter (fun r => r.typ == q.p16 0)).reverse[q.p32 4]? = some r →
      s.unitWrite (ringWho q.ring) (q.p64 8) r.body = (none, t) → exec (.logRead k) s = .next (t.endOp k St.ok r.seq r.body.length))) ∧
  (∀ (s : State) (k : Nat) (q : Started), s.opAt k 0x2C05 = some q → q.progress = 0 →
    (s.folioOpen = false → exec (.calSet k) s = .next (s.endOp k St.busy)) ∧
    (s.folioOpen = true → exec (.calSet k) s = .next ((s.setProgress k 1).folioWrite
      ⟨5, if q.p16 6 = 0 then q.pkt.params.take 4 else q.pkt.params.take 48, true, .op k⟩))) ∧
  (∀ (s : State) (k : Nat) (q : Started), s.opAt k 0x2C06 = some q → q.progress = 0 → s.folioOpen = true →
    (s.calEntry (q.p32 0) = none → exec (.calDone k) s = .next (s.endOp k St.range 0)) ∧
    (∀ b, s.calEntry (q.p32 0) = some b → ∃ u, u = (s.setProgress k 1).folioWrite ⟨5, b.take 8 ++ leBytes 4 (s.today + leAt b 6 2) ++ b.drop 12, true, .none⟩ ∧
      exec (.calDone k) s =
        .next (u.folioWrite ⟨0x12, leBytes 4 0xFFFFFFFF ++ leBytes 4 (q.p32 0) ++ leBytes 4 (u.rg Reg.AON_RTC).toNat, true, .op k⟩))) ∧
  (∀ (s : State) (k : Nat) (q : Started), s.opAt k 0x2C07 = some q →
    ((s.fol.adopt.isSome = true ∨ s.fld F.FOL_STAT_STATE = 0) → exec (.folioAdopt k) s = .next (s.endOp k St.busy)) ∧
    (s.fol.adopt = none → s.fld F.FOL_STAT_STATE ≠ 0 → s.fol.areaA.magic = false → s.fol.areaB.magic = false →
      ∃ u, u = s.abandonWrite.setFld F.FOL_STAT_COMPACTING 0 ∧ exec (.folioAdopt k) s =
        .next (({ u with fol := { u.fol with compact := none, adopt := some (2 * u.areaBlocks, u.fld F.FOL_STAT_STATE - 1, 0) } } : State).endOp k
          St.deferred)))

/-- FLASH_PROGRAM_DONE, FLASH_ERASE_DONE, COMPACTION_COMMIT, FLUSH_TIMER, DAY_CHANGE and HISTOGRAM_MINUTE (R590, R594, R597, R600, R603): a body is
followed by its commit, which makes the record exist and ends what waits for it; a compaction erases, copies and commits. -/
def Rules.FolioStepsCommitAndCompact : Prop :=
  (∀ (s : State) (w : FWrite) (n : Nat), s.fol.pfLow = false → s.fol.writing = some (w, false, n) →
    exec (.flashProgramDone true) s = .next { s with fol := { s.fol with writing := some (w, true, n) } }) ∧
  (∀ (s : State) (w : FWrite) (n : Nat), s.fol.pfLow = false → s.fol.writing = some (w, true, n) →
    exec (.flashProgramDone true) s =
      .next (((((({ s with fol := { s.fol with writing := none } } : State).appendRec (FRec.whole w.typ n w.body)).afterCommit w.after n).compactIfFull).copyIfErased).folioNext)) ∧
  (∀ (s : State) (r : FRec) (l : List FRec) (n : Nat), s.fol.pfLow = false → s.fol.writing = none → s.fol.compact = some (.copy (r :: l) n) →
    exec (.flashProgramDone true) s = .next (s.copyRecord r l n)) ∧
  (∀ s : State, s.fol.pfLow = true → exec (.flashProgramDone true) s = .next s ∧ exec .compactionCommit s = .next s) ∧
  (∀ (s : State) (n : Nat), s.fol.pfLow = false → s.fol.adopt = none → s.fol.compact = some (.erase (n + 1)) →
    exec (.flashEraseDone 1 true) s = .next (s.blockErased n)) ∧
  (∀ (s : State) (n : Nat), s.fol.pfLow = false → s.fol.compact = some (.copy [] n) →
    ∃ u, u = ((s.setInactive { s.inactiveArea with committed := true }).setFlag F.FOL_STAT_ACTIVE (!s.flag F.FOL_STAT_ACTIVE)).setFld F.FOL_STAT_COMPACTING 0 ∧
      exec .compactionCommit s =
        .next ((({ u with fol := { u.fol with compact := none } } : State).eventSM 0x2C02 noInst s.inactiveArea.gen n).compactIfFull.folioNext)) ∧
  (∀ s : State, (s.fol.flushed + 900 ≤ (s.rg Reg.AON_RTC).toNat ∨ (s.rg Reg.AON_RTC).toNat < s.fol.flushed) → s.folioOpen = true →
    ∃ u, u = ({ s with fol := { s.fol with flushed := (s.rg Reg.AON_RTC).toNat } } : State) ∧ exec .flushTimer s =
      .next ((u.flushRecords true .none).foldl (fun (t : State) w => t.folioWrite w) u)) ∧
  (∀ s : State, (s.rg Reg.AON_RTC).toNat / 86400 ≠ s.fol.day → exec .dayChange s = .next s.evalCalendar) ∧
  (∀ (s : State) (tj : Int), s.flt.poresetHi = true →
    ∃ t, exec (.histogramMinute tj) s = .next t ∧
      SMap.get (fun _ => 0) t.fol.hist (tjBin tj) = min (SMap.get (fun _ => 0) s.fol.hist (tjBin tj) + 1) 0xFFFFFFFF ∧
      (∀ b, b ≠ tjBin tj → SMap.get (fun _ => 0) t.fol.hist b = SMap.get (fun _ => 0) s.fol.hist b) ∧
      (∀ m, s.fol.tjMax = some m → t.fol.tjMax = some (max m tj)) ∧
      t = { s with fol := { s.fol with hist := t.fol.hist, tjMax := t.fol.tjMax } }) ∧
  (∀ tj : Int, (tj < -200 → tjBin tj = 0) ∧ (1200 ≤ tj → tjBin tj = 15) ∧
    (∀ b : Nat, 1 ≤ b → b ≤ 14 → -300 + 100 * (b : Int) ≤ tj → tj < -200 + 100 * (b : Int) → tjBin tj = b))

/-- PWR_FAIL_FALL and PWR_FAIL_RISE (R606, R607; 19 R719): no new Folio work starts, a record being written is abandoned, and the COUNTERS record is
committed; when the supplies are back the work goes on. -/
def Rules.PowerFailureHoldsTheFolio : Prop :=
  (∀ s : State, s.fol.pfLow = false → s.pwr.vault = false → s.flt.poresetHi = true →
    ∃ u v, u = (s.raise 3).count 64 ∧ v = ({ u with pwr := { u.pwr with pfAt := some s.cyc } } : State).abandonActivation.abandonWrite ∧
      ∃ x, x = ({ v with fol := { v.fol with pfLow := true, compact := match v.fol.compact with
          | some (.copy _ _) => some (.erase v.areaBlocks)
          | c => c } } : State) ∧
        exec .pwrFailFall s = .next (if x.folioOpen then (x.commitNow 2 x.countersBody).setFld F.FOL_STAT_PF_DONE 1 else x)) ∧
  (∀ s : State, s.fol.pfLow = true → exec .pwrFailFall s = .next s ∧ exec (.pwrFailRise false) s = .next s) ∧
  (∀ (s : State) (c : Nat), s.fol.pfLow = true → s.pwr.pfAt = some c →
    exec (.pwrFailRise true) s =
      .next ((({ s with fol := { s.fol with pfLow := false }, pwr := { s.pwr with pfAt := none } } : State).eventSM 0x3C04 noInst (s.usSince c) 0).compactIfFull.copyIfErased.folioNext))

/-- The steps of the journal, and a power failure (15 R590-R607; 19 R719). -/
def Obligations.FolioStepsAndPowerFailure : Prop :=
  Rules.FolioStepsCommitAndCompact ∧ Rules.PowerFailureHoldsTheFolio

/-! Boot and update (16). -/

/-- COLD_BOOT and UART_RECOVERY_IMAGE (R617, R618, R621; 19 R722): a cold boot runs from the state that a cold reset leaves; while the ROM waits for
an image, one that verifies goes to slot A and is booted, and another changes nothing; what a cold reset keeps. -/
def Obligations.BootsRunOrRecover : Prop :=
  (∀ s : State, s.flt.poresetHi = false → s.pwr.hold = true →
    ∃ t, t = { s.afterReset false with wld := { (s.afterReset false).wld with sinvEff := s.wld.sinvEff, sninvEff := s.wld.sninvEff } } ∧
      exec .coldBoot s = .next (t.boot false)) ∧
  (∀ s : State, s.flt.poresetHi = true → exec .coldBoot s = .next s) ∧
  (∀ (s : State) (image : List Byte), s.fw.recovery = true →
    ∃ whole u, whole = image.take 512 ++ (image.drop 512).take (imgLen (image.take 512)) ∧ u = s.writeSlotA whole ∧
      exec (.uartRecoveryImage image) s =
        .next (if imageFault (image.take 512) ((image.drop 512).take (imgLen (image.take 512))) 1 (slotSize 0) s.fw.svn = none
          then ((u.writeBlock (u.bootBlock.set 0 0 false 0)).afterReset false).boot false else s)) ∧
  (∀ (s : State) (image : List Byte), s.fw.recovery = false → exec (.uartRecoveryImage image) s = .next s) ∧
  (∀ s : State, (s.afterReset false).pending = s.pending ∧ (s.afterReset false).fw.flash = s.fw.flash ∧ (s.afterReset false).cyc = 0 ∧
    (∀ k, (s.afterReset false).place k = none) ∧ (s.afterReset false).wld.pend = 0)

/-- The staging operations of class 0x0C, executing in place `k` (R622, R623, R632, R633): a pair on trial or in a pause is BUSY; FW_ERASE and FW_VERIFY
start their work, FW_WRITE programs a page for each grant of the flash port, and FW_STAGED reports what became of the slot. -/
def Obligations.StagingWritesTheInactiveSlot : Prop :=
  (∀ (s : State) (k : Nat) (q : Started), s.opAt k 0x3000 = some q → s.fw.window = none → s.slotVerified 0 (s.inactiveSlot 0) = false →
    exec (.fwQuery k) s =
      .next (s.endOp k St.ok (putBits (s.rg Reg.DEV_FW_STAT) 11 0 0).toNat (s.rg Reg.DEV_FW_VER).toNat s.fw.sappVer 0)) ∧
  (∀ (s : State) (k : Nat) (q : Started), s.opAt k 0x3001 = some q →
    (s.pairBusy (q.p8 0) = true → exec (.fwErase k) s = .next (s.endOp k St.busy)) ∧
    (s.pairBusy (q.p8 0) = false → ∃ u, u = s.markSlot (q.p8 0) (s.inactiveSlot (q.p8 0)) false ∧
      exec (.fwErase k) s = .next (({ u with fw := { u.fw with jobs := u.fw.jobs ++
        [⟨q.p8 0, s.inactiveSlot (q.p8 0), false, slotSize (q.p8 0) / 0x10000, u.rankOf (.packet k)⟩] } } : State).endOp k St.deferred))) ∧
  (∀ (s : State) (k : Nat) (q : Started), s.opAt k 0x3002 = some q → s.pairBusy (q.p8 0) = true → exec (.fwWrite k) s = .next (s.endOpFree k St.busy)) ∧
  (∀ (s t : State) (k u : Nat) (q : Started) (l : List Byte), s.opAt k 0x3002 = some q → s.pairBusy (q.p8 0) = false →
    s.holdsIn (.packet k) 2 = some u →
    s.unitRead (ringWho q.ring) (q.p64 16 + 256 * q.progress) (min 256 (q.p32 8 - 256 * q.progress)) = (.ok l, t) →
    ∃ v, v = t.markSlot (q.p8 0) (s.inactiveSlot (q.p8 0)) false ∧
      ∃ w, w = ({ v with fw := { v.fw with
          flash := programFlash v.fw.flash (slotBase (q.p8 0) (s.inactiveSlot (q.p8 0)) + q.p32 4 + 256 * q.progress) l } } : State) ∧
        (q.p32 8 ≤ 256 * q.progress + 256 → exec (.fwWrite k) s = .next (w.endOpFree k St.ok)) ∧
        (256 * q.progress + 256 < q.p32 8 → exec (.fwWrite k) s = .next ((w.setProgress k (q.progress + 1)).withdraw (.packet k)))) ∧
  (∀ (s : State) (k : Nat) (q : Started), s.opAt k 0x3003 = some q →
    (s.pairBusy (q.p8 0) = true → exec (.fwVerify k) s = .next (s.endOp k St.busy)) ∧
    (s.pairBusy (q.p8 0) = false → exec (.fwVerify k) s = .next (({ s with fw := { s.fw with jobs := s.fw.jobs ++
        [⟨q.p8 0, s.inactiveSlot (q.p8 0), true, 0, s.rankOf (.packet k)⟩] } } : State).endOp k St.deferred))) ∧
  (∀ (s : State) (j : SlotJob), s.fw.jobs.find? (fun j => j.verify) = some j →
    ∃ u, u = ({ s with fw := { s.fw with jobs := stepJob (fun x => x.verify) (fun _ => none) s.fw.jobs } } : State) ∧
      (s.slotFault j.pair j.slot = none →
        exec .fwVerifyDone s = .next ((u.markSlot j.pair j.slot true).eventSM 0x3001 j.pair 1 0 (imgVersion (s.slotHead j.pair j.slot)))) ∧
      (∀ c, s.slotFault j.pair j.slot = some c →
        exec .fwVerifyDone s = .next ((u.markSlot j.pair j.slot false).eventSM 0x3001 j.pair 2 c (imgVersion (s.slotHead j.pair j.slot))))) ∧
  (∀ (s : State) (j : SlotJob) (l : Grant), s.fw.jobs.find? (fun j => !j.verify) = some j → s.heldBy (slotTask j.rank) = some (12, l) →
    ∃ u v, u = s.releaseUnit 12 ∧
      v = ({ u with fw := { u.fw with
        flash := SMap.clear u.fw.flash (slotBase j.pair j.slot + slotSize j.pair - j.blocks * 0x10000)
          (slotBase j.pair j.slot + slotSize j.pair - j.blocks * 0x10000 + 0x10000)
        jobs := stepJob (fun x => !x.verify) (fun x => if x.blocks ≤ 1 then none else some { x with blocks := x.blocks - 1 }) u.fw.jobs } } : State) ∧
      exec (.flashEraseDone 0 true) s = .next (if j.blocks ≤ 1 then v.eventSM 0x3001 j.pair 0 0 0 else v)) ∧
  (∀ (m : SMap Byte) (off : Nat) (l : List Byte) (a : Nat),
    SMap.get (fun _ => 0xFF) (programFlash m off l) a =
      if off ≤ a ∧ a < off + l.length then SMap.get (fun _ => 0xFF) m a &&& l.getD (a - off) 0xFF else SMap.get (fun _ => 0xFF) m a)

/-- FW_ACTIVATE, ACTIVATION_RESUME, FW_CONFIRM, FW_ABANDON and HEALTH_WINDOW_EXPIRY (R624, R626-R629, R631): an activation pauses and asks for the
record that opens the trial; its end takes the new image over or falls back; a confirmation ends the trial. -/
def Obligations.ActivationsAreTriedAndConfirmed : Prop :=
  (∀ (s : State) (k : Nat) (q : Started), s.opAt k 0x3004 = some q →
    (s.slotVerified (q.p8 0) (s.inactiveSlot (q.p8 0)) = false → exec (.fwActivate k) s = .next (s.endOp k St.checkFailed)) ∧
    (s.slotVerified (q.p8 0) (s.inactiveSlot (q.p8 0)) = true → (s.fw.window.isSome = true ∨ s.folioOpen = false ∨ s.safe = true ∨ s.paused = true) →
      exec (.fwActivate k) s = .next (s.endOp k St.busy)) ∧
    (s.slotVerified (q.p8 0) (s.inactiveSlot (q.p8 0)) = true → s.fw.window = none → s.folioOpen = true → s.safe = false → s.paused = false →
      ∃ u, u = (s.endOp k St.deferred).beginPause (q.p8 0) false 0 (if q.p8 1 = 0 then 10 else q.p8 1) (bit (q.p8 2) 0) ∧
        exec (.fwActivate k) s =
          .next (u.firmwareRecord 0 (q.p8 0) 0 (u.activeSlot (q.p8 0)) (u.inactiveSlot (q.p8 0)) .commitPoint))) ∧
  (∀ (s : State) (x : Pause), s.fw.pause = some x →
    (x.back = true → exec .activationResume s = .next (s.fallBack x)) ∧
    (x.back = false → x.committed = false → exec .activationResume s = .next s) ∧
    (x.back = false → x.committed = true → x.pair = 1 → exec .activationResume s = .next (s.takeOverImage x)) ∧
    (x.back = false → x.committed = true → x.pair = 0 →
      exec .activationResume s =
        .next (if sha384 (s.slotBody 0 (s.activeSlot 0)) = ((s.slotHead 0 (s.activeSlot 0)).drop 96).take 48 then s.takeOverImage x
          else s.abortActivation x))) ∧
  (∀ (s : State) (k : Nat) (q : Started), s.opAt k 0x3005 = some q → q.progress = 0 →
    (s.onTrial (q.p8 0) = false → exec (.fwConfirm k) s = .next (s.endOp k St.range 0)) ∧
    (s.onTrial (q.p8 0) = true → s.flag F.DEV_FW_STAT_UNREADABLE = true → exec (.fwConfirm k) s = .next (s.endOp k St.settingsUnreadable)) ∧
    (s.onTrial (q.p8 0) = true → s.flag F.DEV_FW_STAT_UNREADABLE = false → s.safe = false → s.paused = false → q.ring = .s →
      ∃ u, u = ({ s with fw := { s.fw with sDone := true } } : State) ∧
        exec (.fwConfirm k) s =
          .next (if s.flag F.DEV_FW_STAT_MED_VOTE = false ∨ s.flag F.DEV_FW_STAT_MED_DONE = true then u.confirm k (q.p8 0) else u.endOp k St.ok))) ∧
  (∀ (s : State) (k : Nat) (q : Started), s.opAt k 0x3006 = some q →
    (s.onTrial (q.p8 0) = false → exec (.fwAbandon k) s = .next (s.endOp k St.range 0)) ∧
    (s.onTrial (q.p8 0) = true → s.paused = true → exec (.fwAbandon k) s = .next (s.endOp k St.busy)) ∧
    (s.onTrial (q.p8 0) = true → s.paused = false →
      exec (.fwAbandon k) s = .next ((s.endOp k St.deferred).beginPause (q.p8 0) true 3 0 false))) ∧
  (∀ (s : State) (pair c m : Nat), s.fw.window = some (pair, c, m) → s.paused = false → c + nsCycles (m * 60000000000) < s.cyc →
    exec .healthWindowExpiry s = .next (s.beginPause pair true 2 0 false)) ∧
  (∀ (s : State) (pair cause window : Nat) (back vote : Bool),
    ∃ t, s.beginPause pair back cause window vote = t ∧
      t.fw.pause = some ⟨pair, back, cause, s.cyc, false, false, window, vote⟩ ∧ t.fld F.DEV_FW_STAT_STATE = (if back then 3 else 2) ∧
      SameRegsBut [Reg.DEV_FW_STAT] s t ∧ t = { s with regs := t.regs, fw := t.fw })

/-! Faults and Rubbing (17). -/

/-- The detected faults (R636-R640, R651, R654, R655, R659): each is recorded under its class; an uncorrectable word of Plate SRAM, Safety SRAM or the
commit buffer, a clock fault and a watchdog expiry enter the safe state, another SRAM's reader gets a poisoned response. -/
def Rules.DetectedFaultsAreRecorded : Prop :=
  (∀ (s : State) (n : Nat), s.flag F.DTG_CTRL_ENABLE n = true → bit s.flt.stalled n = false →
    exec (.timingStall n) s = .next (({ s with flt := { s.flt with stalled := s.flt.stalled + 2 ^ n } } : State).fault 7 n)) ∧
  (∀ s : State, exec .clockFault s = .next ((s.fault 14 noInst).enterSafe 4 14)) ∧
  (∀ (s : State) (arr : Nat) (layer : Option Nat), 3 ≤ arr → exec (.sramUncorrectable arr layer) s = .next ((s.fault 13 noInst).answer .poisoned)) ∧
  (∀ (s : State) (arr : Nat), arr < 3 → exec (.sramUncorrectable arr none) s = .next ((s.fault 13 noInst).enterSafe 3 13)) ∧
  (∀ s : State, exec .sramCe s = .next (s.fault 12 noInst)) ∧
  (∀ s : State, s.flag F.DEV_SWDOG_ENABLE = true → s.passed s.flt.kicked (s.dogMs * 1000000) = true →
    exec .watchdogExpiry s = .next ((({ s with flt := { s.flt with kicked := s.cyc } } : State).fault 15 noInst).enterSafe 5 15)) ∧
  (∀ s : State, s.flag F.DEV_SWDOG_ENABLE = false → exec .watchdogExpiry s = .next s) ∧
  (∀ (s : State) (v : Word), ∃ t, exec (.swdogKick .s v) s = .next t ∧
    t.flag F.DEV_SWDOG_ENABLE = (v.getLsbD 31 || s.flag F.DEV_SWDOG_ENABLE) ∧ t.fld F.DEV_SWDOG_PERIOD_MS = bitsOf v 15 0 ∧
    (v.getLsbD 30 = true → t.flt.kicked = s.cyc) ∧ (v.getLsbD 30 = false → v.getLsbD 31 = false → t.flt.kicked = s.flt.kicked) ∧
    SameRegsBut [Reg.DEV_SWDOG] s t ∧ t = { s with regs := t.regs, flt := { s.flt with kicked := t.flt.kicked } }) ∧
  (∀ (s : State) (who : Who) (v : Word), who ≠ .s → exec (.swdogKick who v) s = .next s)

/-- What recording a fault leaves (R636, R650, R652): the class bit, FAULT_N for every class but 12, and the first fault, which later ones of a later
cycle do not change. -/
def Rules.FaultsKeepTheFirst : Prop :=
  ∀ (s : State) (cls inst : Nat), 1 ≤ cls → cls ≤ 15 → inst < 65536 →
    let t := s.fault cls inst
    (∀ i, i < 15 → bit (t.fld F.DEV_FAULT_STAT_CLASSES) i = (bit (s.fld F.DEV_FAULT_STAT_CLASSES) i || decide (i = cls - 1))) ∧
    (cls ≠ 12 → t.flt.faultN = true ∧ t.flag F.DEV_FAULT_STAT_FAULT = true) ∧
    (cls = 12 → t.flt.faultN = s.flt.faultN ∧ t.flag F.DEV_FAULT_STAT_FAULT = s.flag F.DEV_FAULT_STAT_FAULT) ∧
    (s.fld F.DEV_FAULT_FIRST_CLASS = 0 → t.fld F.DEV_FAULT_FIRST_CLASS = cls ∧ t.fld F.DEV_FAULT_FIRST_INSTANCE = inst) ∧
    (s.fld F.DEV_FAULT_FIRST_CLASS ≠ 0 → s.flt.firstAt ≠ s.cyc → t.rg Reg.DEV_FAULT_FIRST = s.rg Reg.DEV_FAULT_FIRST ∧
      t.rg Reg.DEV_FAULT_TIME_LO = s.rg Reg.DEV_FAULT_TIME_LO ∧ t.rg Reg.DEV_FAULT_TIME_HI = s.rg Reg.DEV_FAULT_TIME_HI)

/-- The fault operations of class 0x0D and the FAULT record (R642, R652, R654, R667, R670), executing in place `k`. -/
def Rules.FaultOperationsQueryAndClear : Prop :=
  (∀ (s : State) (k : Nat) (q : Started), s.opAt k 0x3400 = some q →
    exec (.faultQuery k) s = .next (s.endOp k St.ok (s.rg Reg.DEV_FAULT_STAT).toNat (s.rg Reg.DEV_FAULT_FIRST).toNat
      (s.rg Reg.DEV_FAULT_TIME_LO).toNat (s.rg Reg.DEV_FAULT_TIME_HI).toNat)) ∧
  (∀ (s : State) (k : Nat) (q : Started), s.opAt k 0x3401 = some q →
    (s.safe = true → exec (.faultClear k) s = .next (s.endOp k St.busy)) ∧
    (s.safe = false → ∃ u, u.flt = { s.flt with faultN := false } ∧ u.flag F.DEV_FAULT_STAT_FAULT = false ∧ u.fld F.DEV_FAULT_STAT_CLASSES = 0 ∧
      u.rg Reg.DEV_FAULT_FIRST = 0 ∧ u.rg Reg.DEV_FAULT_TIME_LO = 0 ∧ u.rg Reg.DEV_FAULT_TIME_HI = 0 ∧
      SameRegsBut [Reg.DEV_FAULT_STAT, Reg.DEV_FAULT_FIRST, Reg.DEV_FAULT_TIME_LO, Reg.DEV_FAULT_TIME_HI] s u ∧
      u = { s with regs := u.regs, flt := u.flt } ∧ exec (.faultClear k) s = .next (u.endOp k St.ok))) ∧
  (∀ (s : State) (k : Nat) (q : Started), s.opAt k 0x3402 = some q →
    exec (.safeEnter k) s = .next ((s.enterSafe 6 0).endOp k St.ok) ∧ (s.safe = true → s.enterSafe 6 0 = s)) ∧
  (∀ (s : State) (r : FaultRec), s.folioOpen = true → s.flt.records.find? (fun r => s.recordDue r) = some r →
    exec .faultRecord s =
      .next (({ s with flt := { s.flt with
        records := s.flt.records.erase r, lastRec := SMap.set (fun _ => none) s.flt.lastRec (65536 * r.cls + r.inst) (some s.cyc) } } : State).folioWrite
          ⟨0x11, r.body, true, .none⟩))

/-- The Rubbing commands (R660-R663, R666, R667, R771): a trigger latches 64 cycles later if no snapshot is held, and is counted otherwise; a snapshot
is read in 32-byte records, and released by RUB_RELEASE or after AUTO_MS. -/
def Obligations.SnapshotsLatchAndAreReleased : Prop :=
  (∀ (s : State) (k : Nat) (q : Started), s.opAt k 0x3403 = some q →
    (bit (q.p8 0) 0 = true → q.ring ≠ .s → exec (.rubFire k) s = .next (s.endOp k St.noPermission)) ∧
    (bit (q.p8 0) 0 = false → s.flt.snapshot.isSome = true → exec (.rubFire k) s = .next (s.endOp k St.busy)) ∧
    (bit (q.p8 0) 0 = false → s.flt.snapshot = none → exec (.rubFire k) s = .next ((s.rubTrigger 0b000001).endOp k St.ok)) ∧
    (bit (q.p8 0) 0 = true → q.ring = .s → s.flt.snapshot = none → ∃ time, time = (if q.p64 8 = 0 then s.devTime + 5000000 else q.p64 8) ∧
      exec (.rubFire k) s = .next (((s.sendGroup 4 (leBytes 8 time)).takeTrigger time).endOp k St.ok))) ∧
  (∀ s : State, (s.flag F.RUB_CFG_IN_EN = true → exec .rubInEdge s = .next (s.rubTrigger 0b000010 false (s.cyc + 2))) ∧
    (s.flag F.RUB_CFG_IN_EN = false → exec .rubInEdge s = .next s)) ∧
  (∀ (s : State) (c src : Nat) (late : Bool) (rest : List (Nat × Nat × Bool)), s.flt.triggers = (c, src, late) :: rest →
    (s.cyc < c + 64 → exec .rubbingLatch s = .next s) ∧
    (c + 64 ≤ s.cyc → s.flt.snapshot = none →
      exec .rubbingLatch s = .next (({ s with flt := { s.flt with triggers := rest } } : State).latch src late)) ∧
    (c + 64 ≤ s.cyc → s.flt.snapshot.isSome = true → src ≠ 0 →
      exec .rubbingLatch s = .next (({ s with flt := { s.flt with triggers := rest } } : State).rubMissed src))) ∧
  (∀ s : State, s.flt.snapshot.isSome = true → s.fld F.RUB_CFG_AUTO_MS ≠ 0 →
    s.passed s.flt.latchedAt (s.fld F.RUB_CFG_AUTO_MS * 1000000) = true → exec .rubAutoRelease s = .next s.rubFree) ∧
  (∀ (s : State) (k : Nat) (q : Started), s.opAt k 0x3404 = some q →
    (0x3F < q.p16 0 → q.p16 0 ≠ 0xFFFF → exec (.rubRead k) s = .next (s.endOp k St.range 0)) ∧
    (q.p16 0 = 0xFFFF → s.flt.snapshot = none → exec (.rubRead k) s = .next (s.endOp k St.busy)) ∧
    (∀ l n t, q.p16 0 = 0xFFFF → s.flt.snapshot = some l →
      State.putRecords (ringWho q.ring) (s.fld F.RUB_STAT_SEQ) ((s.snapView q.ring l).take (q.p32 4 / 32)) (q.p64 8) 0 s = (none, n, t) →
      exec (.rubRead k) s = .next (t.endOp k St.ok n (s.snapView q.ring l).length (s.fld F.RUB_STAT_SEQ)))) ∧
  (∀ (s : State) (k : Nat) (q : Started), s.opAt k 0x3405 = some q →
    exec (.rubRelease k) s = .next ((s.rubFree.setRg Reg.RUB_MISS 0).endOp k St.ok)) ∧
  (∀ (s : State) (src : Nat) (late : Bool), ∃ t, s.latch src late = t ∧ t.flt.snapshot = some (s.snapAll src)) ∧
  (∀ (s : State) (r : Nat) (l : List SnapRec) (x : SnapRec), x ∈ s.snapView (.client r) l →
    x.owner = r ∨ (x.cls = 0 ∧ x.inst = noInst ∧ ∀ w, w ∈ x.words.drop 2 → w = 0))

/-- Detected faults, what recording one leaves, and the fault operations (17 R636-R670). -/
def Obligations.FaultsAreRecordedAndCleared : Prop :=
  Rules.DetectedFaultsAreRecorded ∧ Rules.FaultsKeepTheFirst ∧ Rules.FaultOperationsQueryAndClear

/-! Dzivlink (18). -/

/-- Ports, network time and frame lock (R672, R674-R678, R693, R696): LINK_SET, ETH_LINK_CHANGE, LINK_QUERY, TIME_SET, PTP_MESSAGE, SYNC_TIMEOUT and
LOCK_SET. Device time is stepped at the first synchronisation and beyond 1 ms, and else slewed by at most 200 ppm. -/
def Obligations.PortsTimeAndLockFollowTheNetwork : Prop :=
  (∀ (s : State) (k : Nat) (q : Started), s.opAt k 0x3800 = some q →
    (q.p8 1 % 2 = 1 → q.p8 2 = 2 → exec (.linkSet k) s = .next (s.endOp k St.range 2)) ∧
    (q.p8 2 ≠ 2 → bit (q.p8 3) 0 = true → bit s.dziv.enabled (q.p8 0) = false →
      ∃ u, u = ((s.setFld F.TTH_PORT_STAT_UP 0 (q.p8 0)).setFld F.TTH_PORT_STAT_MODE (q.p8 1) (q.p8 0)).setFld F.TTH_PORT_STAT_FEC (q.p8 2) (q.p8 0) ∧
        exec (.linkSet k) s =
          .next (({ u with dziv := { s.dziv with enabled := s.dziv.enabled + 2 ^ q.p8 0 } } : State).endOp k St.ok))) ∧
  (∀ (s : State) (port : Nat), exec (.ethLinkChange port false) s = .next (s.setFld F.TTH_PORT_STAT_UP 0 port) ∧
    (bit s.dziv.enabled port = true → exec (.ethLinkChange port true) s = .next (s.setFld F.TTH_PORT_STAT_UP 1 port)) ∧
    (bit s.dziv.enabled port = false → exec (.ethLinkChange port true) s = .next s)) ∧
  (∀ (s : State) (k : Nat) (q : Started), s.opAt k 0x380A = some q →
    exec (.linkQuery k) s =
      .next (s.endOp k St.ok (s.rg (Reg.TTH_PORT_STAT 0)).toNat (s.rg (Reg.TTH_PORT_STAT 1)).toNat (s.rg Reg.TTH_TIME_STAT).toNat)) ∧
  (∀ (s : State) (k : Nat) (q : Started), s.opAt k 0x3801 = some q →
    exec (.timeSet k) s = .next (({ s with dziv := { s.dziv with time := (q.p8 0, q.p8 1, q.p8 2, q.p8 3) } } : State).endOp k St.ok)) ∧
  (∀ (s : State) (port : Nat) (off : Int), port < 2 → s.portUp port = true → s.dziv.synced = true → -1000000 ≤ off → off ≤ 1000000 →
    ∃ t, exec (.ptpMessage port off false) s = .next t ∧
      t.devOff = s.devOff + clampInt (-(s.slewMax s.dziv.lastPtp)) (s.slewMax s.dziv.lastPtp) (-off) ∧
      t.flag F.TTH_TIME_STAT_SYNC = true ∧ t.flag F.TTH_TIME_STAT_GM = false ∧ t.flag F.TTH_PORT_STAT_GM_PORT port = true ∧
      t.flag F.TTH_PORT_STAT_GM_PORT (1 - port) = false ∧
      SameRegsBut [Reg.TTH_TIME_STAT, Reg.TTH_PORT_STAT 0, Reg.TTH_PORT_STAT 1] s t ∧
      t = { s with regs := t.regs, devOff := t.devOff, dziv := { s.dziv with lastPtp := s.cyc } }) ∧
  (∀ (s : State) (port : Nat) (off : Int), port < 2 → s.portUp port = true → (s.dziv.synced = false ∨ off < -1000000 ∨ 1000000 < off) →
    ∃ u, u.dziv = { s.dziv with lastPtp := s.cyc } ∧ u.devOff = s.devOff ∧
      SameRegsBut [Reg.TTH_TIME_STAT, Reg.TTH_PORT_STAT 0, Reg.TTH_PORT_STAT 1] s u ∧
      exec (.ptpMessage port off false) s = .next (u.stepTime (-off))) ∧
  (∀ (s : State) (d : Int), ∃ w, w = (d % (2 ^ 64 : Int)).toNat ∧
    s.stepTime d = (((({ s with devOff := s.devOff + d, dziv := { s.dziv with synced := true } } : State).raise 339).eventSM 0x3804 noInst
      (w % 2 ^ 32) (w / 2 ^ 32) 0).unlockAll)) ∧
  (∀ (s : State) (other : Bool), s.flag F.TTH_TIME_STAT_SYNC = true → s.flag F.TTH_TIME_STAT_GM = false →
    ∃ port u, port = (if s.flag F.TTH_PORT_STAT_GM_PORT 1 then 1 else 0) ∧ u = s.setFld F.TTH_PORT_STAT_GM_PORT 0 port ∧
      exec (.syncTimeout other) s =
        .next (if other then u.setFld F.TTH_PORT_STAT_GM_PORT 1 (1 - port)
          else (((u.setFld F.TTH_TIME_STAT_SYNC 0).raise 339).eventSM 0x3805 noInst port 0 0).unlockAll)) ∧
  (∀ (s : State) (k : Nat) (q : Started), s.opAt k 0x3806 = some q →
    (bit (q.p8 1) 0 = false → exec (.lockSet k) s = .next (((s.unlock (q.p8 0)).setFrameLock (q.p8 0) none).endOp k St.ok)) ∧
    (bit (q.p8 1) 0 = true → (s.out (q.p8 0)).live.periodFits (q.p64 16) = false → exec (.lockSet k) s = .next (s.endOp k St.range 16)) ∧
    (bit (q.p8 1) 0 = true → (s.out (q.p8 0)).live.periodFits (q.p64 16) = true → (s.out (q.p8 0)).live.vtotal ≤ 8192 →
      2 ≤ (s.out (q.p8 0)).live.vfp → s.flag F.DTG_CTRL_ENABLE (q.p8 0) = true →
      exec (.lockSet k) s = .next (((s.unlock (q.p8 0)).setFrameLock (q.p8 0) (some ⟨q.p64 8, q.p64 16, 0, 0⟩)).endOp k St.ok)))

/-- The group (R682-R688; 17 R660): its set-up, HELLO and member timeouts, ADMIT, alarms, and the checks of a received frame: a bad HMAC or a SEQ that
is not higher is refused and counted, the second copy of a frame is dropped. -/
def Obligations.GroupMembersAndFrames : Prop :=
  (∀ (s t : State) (k : Nat) (q : Started) (key : List Byte), s.opAt k 0x3802 = some q → s.unitRead .s (q.p64 8) 32 = (.ok key, t) →
    ∃ u, u = ({ t with dziv := { t.dziv with group := q.p32 0, key := key } } : State) ∧ exec (.groupSet k) s =
      .next ((((u.setFld F.TTH_GROUP_VALID 1).setFld F.TTH_GROUP_ALARM_EN (bits (q.p8 6) 0 0)).setFld F.TTH_GROUP_MEMBER (q.p16 4)).endOp k St.ok)) ∧
  (∀ (s : State) (k : Nat) (q : Started), s.opAt k 0x3803 = some q →
    exec (.rosterSet k) s = .next (((List.range (q.p8 0)).foldl (fun (t : State) i =>
      t.setRoster (q.p16 (8 + 56 * i)) ((q.pkt.params.drop (16 + 56 * i)).take 48)) s).endOp k St.ok)) ∧
  (∀ (s : State) (k : Nat) (q : Started), s.opAt k 0x3804 = some q →
    ((s.member (q.p16 0)).ident = none → exec (.admitMember k) s = .next (s.endOp k St.range 0)) ∧
    (∀ h, (s.member (q.p16 0)).ident = some h → ((s.member (q.p16 0)).state = 3 ∨ (s.member (q.p16 0)).state = 4) →
      exec (.admitMember k) s = .next ((s.setMember (q.p16 0) { s.member (q.p16 0) with
        roster := some h, identOk := true, seqs := [], hello := some s.cyc, state := 1 }).endOp k St.ok)) ∧
    (∀ h, (s.member (q.p16 0)).ident = some h → (s.member (q.p16 0)).state < 3 → exec (.admitMember k) s = .next (s.endOp k St.range 0))) ∧
  (∀ (s : State) (k : Nat) (q : Started), s.opAt k 0x3805 = some q →
    (s.groupPorts = [] → exec (.alarmSend k) s = .next (s.endOp k St.busy 0)) ∧
    (s.groupPorts ≠ [] → exec (.alarmSend k) s =
      .next ((s.sendGroup 3 (q.pkt.params.take 3 ++ [0] ++ (q.pkt.params.drop 8).take 16)).endOp k St.ok (s.groupPorts.foldl (fun a n => a + 2 ^ n) 0)))) ∧
  (∀ s : State, s.flag F.TTH_GROUP_VALID = true → (s.dziv.hellos = 0 ∨ s.passed s.dziv.helloAt 100000000 = true) →
    ∃ u, u = (({ s with dziv := { s.dziv with helloAt := s.cyc, hellos := s.dziv.hellos + 1 } } : State).sendGroup 1 []) ∧
      exec .helloTimer s = .next (if s.dziv.hellos % 100 = 0 then u.sendGroup 2 u.identBody else u)) ∧
  (∀ (s : State) (j : Nat), (s.member j).state = 1 → s.helloFresh (s.member j) = false →
    exec (.memberTimeout j) s = .next (s.setMember j { s.member j with state := 2 })) ∧
  (∀ s : State, (∃ t, t ∈ s.flt.groupTrig ∧ t ≤ s.devTime) →
    ∃ u, u = ({ s with flt := { s.flt with groupTrig := s.flt.groupTrig.filter (fun t => decide (s.devTime < t)) } } : State) ∧
      exec .groupTriggerTime s = .next (if s.flag F.RUB_CFG_GROUP_EN then u.rubTrigger 0b100000 else u)) ∧
  (∀ (s : State) (port : Nat) (f : List Byte), s.portUp port = true → beAt f 16 2 = s.fld F.TTH_GROUP_ETYPE →
    let all := f.drop 18
    let p := all.take (all.length - 32)
    let m := leAt p 2 2
    let last := SMap.get (fun _ => none) (s.member m).seqs (leAt p 0 1)
    (s.flag F.TTH_GROUP_VALID = false → exec (.groupFrameReceived port f) s = .next s.refuseFrame) ∧
    (hmacSha256 s.dziv.key p ≠ all.drop (all.length - 32) → exec (.groupFrameReceived port f) s = .next s.refuseFrame) ∧
    (s.flag F.TTH_GROUP_VALID = true → 56 ≤ all.length → hmacSha256 s.dziv.key p = all.drop (all.length - 32) → leAt p 4 4 = s.dziv.group →
      1 ≤ leAt p 0 1 → leAt p 0 1 ≤ 5 → m ≤ 1023 →
      (∀ l, last = some l → leAt p 8 8 ≤ max l.1 l.2 → seenBy l port < leAt p 8 8 →
        exec (.groupFrameReceived port f) s = .next (s.putMember m ((s.member m).sawSeq (leAt p 0 1) port (leAt p 8 8)))) ∧
      (∀ l, last = some l → leAt p 8 8 ≤ seenBy l port → exec (.groupFrameReceived port f) s = .next s.refuseFrame) ∧
      ((∀ l, last = some l → max l.1 l.2 < leAt p 8 8) → s.timeNear (leAt p 16 8) = true → exec (.groupFrameReceived port f) s =
        .next ((s.putMember m ((s.member m).sawSeq (leAt p 0 1) port (leAt p 8 8))).takeFrame m (leAt p 0 1) p (p.drop 24)))))

/-- Intercom and queue pairs (R689-R693): INTERCOM_SET, INTERCOM_FRAME_SEND, INTERCOM_IDLE, QP_SETUP, QP_KICK, QP_TRANSMIT and QP_FRAME_RECEIVED. -/
def Obligations.IntercomAndQueuePairsCarryFrames : Prop :=
  (∀ (s : State) (k : Nat) (q : Started), s.opAt k 0x3807 = some q →
    exec (.intercomSet k) s = .next (((s.setIntercom (q.p8 0) { s.intercom (q.p8 0) with
      tx := bit (q.p8 1) 0, rx := bit (q.p8 1) 1, depth := q.p8 2, member := q.p16 4, chan := q.p8 6, buffer := [] }).setRx (q.p8 0) false).endOp k St.ok)) ∧
  (∀ (s : State) (j : Nat) (l : List Nat), (s.intercom j).tx = true → l.length = 32 →
    exec (.intercomFrameSend j l) s = .next (s.sendGroup 5 (leBytes 1 j ++ l.flatMap (fun v => leBytes 3 v)))) ∧
  (∀ (s : State) (j : Nat), bit s.aud.rxOn j = true → s.passed (s.intercom j).last (((s.intercom j).depth + 20) * 1000000) = true →
    exec (.intercomIdle j) s = .next ((s.setIntercom j { s.intercom j with buffer := [] }).setRx j false)) ∧
  (∀ (s : State) (k : Nat) (q : Started), s.opAt k 0x3808 = some q →
    (s.namesQp q.ring (q.p8 0) = false → exec (.qpSetup k) s = .next (s.endOp k St.noPermission)) ∧
    (s.namesQp q.ring (q.p8 0) = true → q.p8 2 = 0 → exec (.qpSetup k) s = .next ((s.setQp (q.p8 0) none).endOp k St.ok)) ∧
    (∀ c, q.ring = .client c → s.qpHolder (q.p8 0) = some c → q.p8 2 ≠ 0 → exec (.qpSetup k) s =
      .next ((s.setQp (q.p8 0) (some {
        owner := .client c, port := q.p8 1, log := q.p8 2, bcast := bit (q.p8 3) 0, vlan := q.p16 4, mac := (q.pkt.params.drop 8).take 6
        txBase := q.p64 16, rxBase := q.p64 24, txIdx := 0, rxIdx := 0, txIdle := true, rxIdle := true })).endOp k St.ok))) ∧
  (∀ (s : State) (k : Nat) (q : Started) (x : Qp), s.opAt k 0x3809 = some q → s.namesQp q.ring (q.p8 0) = true → s.qp (q.p8 0) = some x →
    exec (.qpKick k) s = .next ((s.setQp (q.p8 0) (some { x with txIdle := false, rxIdle := false })).endOp k St.ok)) ∧
  (∀ (s t u : State) (n : Nat) (x : Qp) (d f : List Byte), s.qp n = some x → x.txIdle = false → s.safe = false → s.portUp x.port = true →
    s.unitRead (ringWho x.owner) (x.txBase + 16 * (x.txIdx % 2 ^ x.log)) 16 = (.ok d, t) →
    (bit (leAt d 10 1) 0 = false → exec (.qpTransmit n) s = .next (t.setQp n (some { x with txIdle := true }))) ∧
    (bit (leAt d 10 1) 0 = true → leAt d 8 2 < 60 → exec (.qpTransmit n) s =
      .next ((t.setQp n (some { x with txIdx := x.txIdx + 1 })).endDescriptor n x (x.txBase + 16 * (x.txIdx % 2 ^ x.log)) (leAt d 10 1) 1 0)) ∧
    (bit (leAt d 10 1) 0 = true → 60 ≤ leAt d 8 2 → leAt d 8 2 ≤ 9212 →
      (t.setQp n (some { x with txIdx := x.txIdx + 1 })).unitRead (ringWho x.owner) (leAt d 0 8) (leAt d 8 2) = (.ok f, u) →
      u.deniedType (beAt f 12 2) = false → exec (.qpTransmit n) s =
        .next ((u.sendFrame x.port (tagFrame x.vlan f)).endDescriptor n x (x.txBase + 16 * (x.txIdx % 2 ^ x.log)) (leAt d 10 1) 0 0))) ∧
  (∀ (s : State) (port : Nat) (f : List Byte), s.safe = false → s.portUp port = true → beAt f 12 2 ≠ 0x8100 →
    beAt f 12 2 ≠ s.fld F.TTH_GROUP_ETYPE → beAt f 12 2 ≠ 0x88F7 →
    exec (.qpFrameReceived port f) s = .next ((List.range 32).foldl (fun (t : State) n =>
      match t.qp n with
      | some x => if x.takes port 0 f then t.deliver n x f else t
      | none => t) s))

/-! Power, clocks and reset (19; 02 R85-R90). -/

/-- The power states (R702-R712): POWER_STATE, SLEEP_ENTRY, SLEEP_EXIT, WAKE_SOURCE, VAULT_ENTRY, CLUSTER_IDLE_GATE and CLUSTER_WAKE. -/
def Obligations.PowerStatesFollowTheirRules : Prop :=
  (∀ (s : State) (k : Nat) (q : Started), s.opAt k 0x3C00 = some q → q.progress = 0 →
    (q.p8 0 < 2 → s.fld F.PWR_STATE_STATE < 2 → exec (.powerState k) s =
      .next (((s.cancelHeld s.sleepCuts q.pkt.tag).runOrDim (q.p8 0)).endOp k St.ok)) ∧
    (q.p8 0 = 2 → s.fld F.PWR_STATE_STATE < 2 → q.ring = .s → exec (.powerState k) s =
      .next (((s.cancelHeld s.sleepCuts q.pkt.tag).setFld F.PWR_STATE_STATE 2).endOp k St.ok)) ∧
    (q.p8 0 = 2 → s.fld F.PWR_STATE_STATE < 2 → q.ring ≠ .s → s.safe = false →
      (s.cutVerdict s.sleepCuts = 0 → exec (.powerState k) s = .next (s.endOp k St.noPermission)) ∧
      (s.cutVerdict s.sleepCuts = 1 → exec (.powerState k) s = .next (s.holdRequest k ⟨2, s.sleepCuts, q.ring, q.pkt.tag⟩))) ∧
    (q.p8 0 = 2 → 2 ≤ s.fld F.PWR_STATE_STATE → exec (.powerState k) s = .next (s.endOp k St.busy)) ∧
    (2 < q.p8 0 → q.ring = .s → s.fld F.PWR_STATE_STATE ≠ 5 → exec (.powerState k) s =
      .next (((s.cancelHeld (List.range 46) q.pkt.tag).setFld F.PWR_STATE_STATE 5).endOp k St.ok)) ∧
    (2 < q.p8 0 → q.ring ≠ .s → s.safe = false → exec (.powerState k) s = .next (s.endOp k St.noPermission))) ∧
  (∀ s : State, s.fld F.PWR_STATE_STATE = 2 → s.fw.pause = none → s.copying = false → s.fol.pfLow = false → s.mc.retrain = none →
    s.lockedWork = false → s.pwr.wakeHeld = none →
    ∃ u v, u = ({ s.busyPlaces.foldl (fun (t : State) e => t.sleepPacket e.1 e.2) s with
        flt := { (s.busyPlaces.foldl (fun (t : State) e => t.sleepPacket e.1 e.2) s).flt with coresHeld := true } } : State) ∧
      v = ((u.flushNow.stopStreams).selfRefresh.sleepDomains).sleepPanels ∧
      (v.pwr.wakeHeld = none → exec .sleepEntry s =
        .next ((((({ v with pwr := { v.pwr with railsOff := railBits v.sleepRails } } : State).setFld F.PWR_STATE_STATE 3).raise 17).event .s 0x3C03
          noInst 3 0xFF)))) ∧
  (∀ s : State, s.fld F.PWR_STATE_STATE ≠ 2 → exec .sleepEntry s = .next s) ∧
  (∀ (s : State) (cause pin : Nat), s.pwr.vault = false → s.wakeFires (s.rg Reg.PWR_WAKE).toNat cause pin = true →
    (s.fld F.PWR_STATE_STATE = 3 → exec (.wakeSource cause pin) s = .next (s.startWake cause)) ∧
    (s.fld F.PWR_STATE_STATE = 2 → s.pwr.wakeHeld = none → exec (.wakeSource cause pin) s =
      .next { s with pwr := { s.pwr with wakeHeld := some cause } })) ∧
  (∀ (s : State) (cause pin : Nat), s.pwr.vault = true → (cause = 1 ∨ cause = 2) → s.wakeFires s.pwr.wake cause pin = true →
    exec (.wakeSource cause pin) s = .next { s with pwr := { s.pwr with hold := true } }) ∧
  (∀ s : State, s.fld F.PWR_STATE_STATE = 4 → s.pwr.railJob = none → ∃ t, exec .sleepExit s = .next t ∧ t.fld F.PWR_STATE_STATE = 0) ∧
  (∀ s : State, s.fld F.PWR_STATE_STATE = 4 → s.pwr.railJob.isSome = true → exec .sleepExit s = .next s) ∧
  (∀ s : State, s.fld F.PWR_STATE_STATE = 5 → s.fol.pfLow = false →
    ∃ t, exec .vaultEntry s = .next t ∧ t.pwr.vault = true ∧ t.pwr.hold = false ∧
      t.pwr.vaultSeal = some (s.flushNow.sealOver (s.flushNow.rg Reg.AON_RTC).toNat, (s.flushNow.rg Reg.AON_RTC).toNat) ∧
      t.pwr.wake = (s.flushNow.rg Reg.PWR_WAKE).toNat ∧ t.pending = s.pending) ∧
  (∀ (s : State) (c : Nat), s.fld F.PWR_STATE_STATE = 1 → s.flt.coresHeld = false → s.powered (7 + c) = true → bit s.pwr.gated c = false →
    exec (.clusterIdleGate c) s = .next { s with pwr := { s.pwr with gated := s.pwr.gated + 2 ^ c } }) ∧
  (∀ (s : State) (c : Nat), bit s.pwr.gated c = true →
    exec (.clusterWake c) s = .next { s with pwr := { s.pwr with gated := s.pwr.gated - 2 ^ c } })

/-- Domains and S-world claims (R698-R700; 02 R83-R90): DOMAIN_SET, DOMAIN_RESTORED, PWR_SCLAIM_WRITE and DEFERRED_APPLY. -/
def Obligations.DomainsAndClaimsFollowTheirRules : Prop :=
  (∀ (s : State) (k : Nat) (q : Started), s.opAt k 0x3C01 = some q → q.progress = 0 →
    (fixedDomain (q.p8 0) = true → exec (.domainSet k) s = .next (s.endOp k St.range 0)) ∧
    (fixedDomain (q.p8 0) = false → s.asleep = true → exec (.domainSet k) s = .next (s.endOp k St.busy)) ∧
    (fixedDomain (q.p8 0) = false → s.asleep = false → q.p8 1 = 1 → exec (.domainSet k) s = .next (s.domainOn k (q.p8 0) q.pkt.tag)) ∧
    (fixedDomain (q.p8 0) = false → s.asleep = false → q.p8 1 = 0 → s.powered (q.p8 0) = false →
      exec (.domainSet k) s = .next (s.endOp k St.ok)) ∧
    (fixedDomain (q.p8 0) = false → s.asleep = false → q.p8 1 ≠ 1 → s.powered (q.p8 0) = true →
      exec (.domainSet k) s = .next (s.domainCut k (q.p8 0) q))) ∧
  (∀ (s : State) (k d : Nat) (q : Started), q.ring ≠ .s →
    (s.cutVerdict [d] = 0 → s.domainCut k d q = s.endOp k St.noPermission) ∧
    (s.cutVerdict [d] = 1 → s.domainCut k d q = s.holdRequest k ⟨if q.p8 1 = 2 then 1 else 0, [d], q.ring, q.pkt.tag⟩) ∧
    (s.cutVerdict [d] = 2 → bit (q.p8 2) 0 = false → s.domainBusy d k = true → s.domainCut k d q = s.endOp k St.busy) ∧
    (s.cutVerdict [d] = 2 → bit (q.p8 2) 0 = true →
      s.domainCut k d q = ((s.cancelHeld [d] q.pkt.tag).setProgress k 1).startCut d k)) ∧
  (∀ (s : State) (d : Nat) (l : List (Nat × Option Nat)), s.pwr.restoring.filter (fun e => e.1 == d) = l → l ≠ [] → s.powered d = false →
    s.pwr.cutting.any (fun e => e.1 == d) = false → s.asleep = false →
    ∃ u, u = (({ s with pwr := { s.pwr with restoring := s.pwr.restoring.filter (fun e => e.1 != d) } } : State).restoreDomain d) ∧
      exec (.domainRestored d) s = .next (l.foldl (fun (t : State) e => match e.2 with
        | some k => t.endOp k St.ok
        | none => t) u)) ∧
  (∀ (s : State) (v : Word), exec (.pwrSclaimWrite .s 0 v) s =
      .next (if (s.setRg Reg.PWR_SCLAIM0 v).asleep then s.setRg Reg.PWR_SCLAIM0 v else (s.setRg Reg.PWR_SCLAIM0 v).restoreClaimed) ∧
    exec (.pwrSclaimWrite .s 1 v) s =
      .next (if (s.setRg Reg.PWR_SCLAIM1 (v &&& 0x3FFF)).asleep then s.setRg Reg.PWR_SCLAIM1 (v &&& 0x3FFF)
        else (s.setRg Reg.PWR_SCLAIM1 (v &&& 0x3FFF)).restoreClaimed)) ∧
  (∀ (s : State) (who : Who) (j : Nat) (v : Word), who ≠ .s → exec (.pwrSclaimWrite who j v) s = .next s) ∧
  (∀ (s : State) (i d : Nat) (x : Deferred), s.wld.deferred[i]? = some x → s.asleep = false → x.kind ≠ 2 → x.domains = [d] → s.claimed d = false →
    ∃ u, u = s.setDeferred (s.wld.deferred.eraseIdx i) ∧ exec (.deferredApply i) s =
      .next ((if u.powered d then u.startCut d (if x.kind = 1 then heldReset else heldOff) else u).event x.ring 0x3C01 noInst x.tag 0)) ∧
  (∀ (s : State) (i : Nat) (x : Deferred), s.wld.deferred[i]? = some x → s.asleep = false → x.kind = 2 → s.safe = false →
    (∀ d, d ∈ x.domains → s.claimed d = false) →
    exec (.deferredApply i) s =
      .next (((s.setDeferred (s.wld.deferred.eraseIdx i)).setFld F.PWR_STATE_STATE 2).event x.ring 0x3C01 noInst x.tag 0)) ∧
  (∀ (s : State) (i d : Nat) (x : Deferred), s.wld.deferred[i]? = some x → d ∈ x.domains → s.claimed d = true →
    exec (.deferredApply i) s = .next s)

/-- Resets, the always-on domain and the supplies (R711-R725; 20 R734, R748). -/
def Obligations.ResetsRailsAndAlwaysOn : Prop :=
  (∀ (s : State) (k : Nat) (q : Started), s.opAt k 0x3C02 = some q →
    (q.p8 0 = 1 → q.ring = .s → exec (.reset k) s = .next ((s.afterReset true).boot true)) ∧
    (q.p8 0 = 1 → q.ring ≠ .s → exec (.reset k) s = .next (s.endOp k St.noPermission)) ∧
    (q.p8 0 ≠ 1 → q.progress = 0 → s.safe = true → exec (.reset k) s = .next (s.endOp k St.busy)) ∧
    (q.p8 0 ≠ 1 → q.progress = 0 → s.safe = false → exec (.reset k) s = .next ((s.setProgress k 1).beginNReset))) ∧
  (∀ s : State, s.pwr.nReset = true → s.nWorkLeft = false →
    ∃ u, u = ((({ s with pwr := { s.pwr with nReset := false } } : State).clearNDram.releaseCores).event .s 0x3C08 noInst 0 0) ∧
      (u.busyPlaces = [] → exec .nworldResetDone s = .next u)) ∧
  (∀ s : State, s.flt.poresetHi = true → s.pwr.resetLow = false →
    ∃ t, t = s.afterReset true ∧ exec .resetNLow s = .next { t with pwr := { t.pwr with resetLow := true } }) ∧
  (∀ s : State, s.pwr.resetLow = true → exec .warmResetRelease s = .next (s.boot true)) ∧
  (∀ s : State, s.flt.poresetHi = true → exec .poresetLow s = .next (s.afterReset false)) ∧
  (∀ s : State, s.pwr.hold = false → s.pwr.vault = false → s.flt.poresetHi = false →
    exec .aonPowerUp s = .next { s with pwr := { s.pwr with hold := true } }) ∧
  (∀ s : State, s.flt.poresetHi = false →
    ∃ t, exec .vbatLoss s = .next t ∧ (∀ a, 0x11000000 ≤ a → a < 0x11001000 → t.rg a = regReset a) ∧ t.fol.counters = [] ∧ t.fol.hist = [] ∧
      t.pwr.vault = false ∧ t.pwr.lost = true ∧ t.pwr.vaultSeal = none) ∧
  (∀ s : State, s.flt.poresetHi = true → exec .vbatLoss s = .next s) ∧
  (∀ s : State, s.flt.poresetHi = false →
    ∃ t, exec .caseOpen s = .next t ∧ t.rg Reg.AON_CASE_TIME = s.rg Reg.AON_RTC ∧ t.flag F.AON_STAT_CASE_OPEN = true ∧
      t.pwr.openings = s.pwr.openings ++ [(s.rg Reg.AON_RTC).toNat] ∧
      SameRegsBut [Reg.AON_CASE, Reg.AON_CASE_TIME, Reg.AON_STAT] s t ∧ t = { s with regs := t.regs, pwr := t.pwr }) ∧
  (∀ (s : State) (k : Nat) (q : Started), s.opAt k 0x3C03 = some q →
    (bit (q.p8 0) 0 = true → s.flag F.TTH_TIME_STAT_SYNC = false → exec (.rtcSet k) s = .next (s.endOp k St.busy)) ∧
    (bit (q.p8 0) 0 = false → exec (.rtcSet k) s =
      .next ((((s.setRg Reg.AON_RTC (BitVec.ofNat 32 (q.p32 4))).setFld F.AON_STAT_RTC_VALID 1).evalCalendar).endOp k St.ok))) ∧
  (∀ (s : State) (k : Nat) (q : Started), s.opAt k 0x3C04 = some q →
    exec (.powerQuery k) s = .next (s.endOp k St.ok (s.rg Reg.PWR_STATE).toNat (s.rg Reg.PWR_SREADY0).toNat (s.rg Reg.PWR_SREADY1).toNat
      (s.rg Reg.AON_STAT).toNat)) ∧
  (∀ (s : State) (r : Nat) (l : List Nat) (tries : Nat), s.pwr.railJob = some ⟨true, r :: l, tries⟩ → bit s.pwr.railsOff r = true →
    exec (.railPowerGood r) s = .next { s with pwr := { s.pwr with
      railsOff := s.pwr.railsOff - 2 ^ r, railJob := if l.isEmpty then none else some ⟨true, l, 0⟩ } } ∧
    (∀ status, tries = 0 → exec (.railTimeout r status) s = .next { s with pwr := { s.pwr with railJob := some ⟨true, r :: l, 1⟩ } }) ∧
    (∀ status, tries ≠ 0 → exec (.railTimeout r status) s =
      .next (((({ s with pwr := { s.pwr with railJob := none, railsOff := railBits s.sleepRails } } : State).setFld F.PWR_STATE_STATE 3).raise 7).event .s
        0x3C07 noInst r status))) ∧
  (∀ s : State, s.flag F.PWR_AVS_ENABLE = true → s.avsRails.length = 1 → s.fld F.PWR_AVS_VOUT_MV ≠ 0 →
    exec (.avsAdjust 1) s = .next (s.setFld F.PWR_AVS_VOUT_MV (min (s.fld F.PWR_AVS_VOUT_MV + 5) 850)) ∧
    exec (.avsAdjust 2) s = .next (s.setFld F.PWR_AVS_VOUT_MV (max (s.fld F.PWR_AVS_VOUT_MV - 5) 650))) ∧
  (∀ s : State, exec .tjLimit s = .next (s.raise 4))

/-! Low-speed I/O (20) and the debug access (02). -/

/-- The ports and pins (20 R749-R756): each command of a port or a pin whose unit is powered. -/
def Obligations.LowSpeedPortsAndPins : Prop :=
  (∀ (s : State) (p : Nat) (v : Word), s.gatedAt (Reg.LSIO_CTRL p) = false →
    ∃ u, u = ((s.setFld F.LSIO_CTRL_ENABLE (bitsOf v 31 31) p).setFld F.LSIO_CTRL_LOOPBACK (bitsOf v 30 30) p).setFld F.LSIO_CTRL_RX_TH (bitsOf v 13 8) p ∧
      (v.getLsbD 31 = true → exec (.lsioCtrlWrite .s p v) s = .next (u.portSync p (s.portMask p))) ∧
      (v.getLsbD 31 = false → exec (.lsioCtrlWrite .s p v) s = .next ((u.emptyPort p).portSync p (s.portMask p)))) ∧
  (∀ (s : State) (p : Nat) (v : Word), s.gatedAt (Reg.LSIO_TX_PUSH p) = false →
    (64 ≤ (s.txFifo p).length → exec (.lsioTxPush .s p v) s = .next (s.portEventBit p F.LSIO_INT_STAT_ERROR)) ∧
    ((s.txFifo p).length < 64 → bit s.lsio.skip p = false → exec (.lsioTxPush .s p v) s =
      .next (((s.setSkip p false).setTx p (s.txFifo p ++ [v.toNat])).portSync p (s.portMask p)))) ∧
  (∀ (s : State) (p : Nat) (v : Word), s.gatedAt (Reg.LSIO_RX_POP p) = false →
    exec (.lsioRxPop .s p v) s = .next ((s.setRxFifo p (s.rxFifo p).tail).portSync p (s.portMask p))) ∧
  (∀ (s : State) (p : Nat) (v : Word), s.sPort p = true →
    (s.gatedAt (Reg.LSIO_TX_PUSH p) = false → exec (.lsioTxPush .med p v) s = .next s) ∧
    (s.gatedAt (Reg.LSIO_RX_POP p) = false → exec (.lsioRxPop .med p v) s = .next s) ∧
    (s.gatedAt (Reg.LSIO_CTRL p) = false → exec (.lsioCtrlWrite .med p v) s = .next s)) ∧
  (∀ (s : State) (p : Nat) (l : List Nat), 8 ≤ p → p < 12 → s.flag F.LSIO_CTRL_ENABLE p = true → s.flag F.LSIO_CTRL_LOOPBACK p = false → l ≠ [] →
    s.powered 44 = true →
    (s.rxFifo p).length + l.length ≤ 64 → (∀ e, e ∈ l → e < 256) →
    exec (.lsioRxEntry p l) s = .next ((s.setRxFifo p (s.rxFifo p ++ l)).portSync p (s.portMask p))) ∧
  (∀ (s : State) (p : Nat), 8 ≤ p → p < 12 → s.flag F.LSIO_CTRL_ENABLE p = true → s.txFifo p ≠ [] → s.powered 44 = true →
    ∃ u, u = (s.setTx p []).setFld F.LSIO_INT_STAT_DONE 1 p ∧ exec (.lsioTxDone p) s =
      .next ((if s.flag F.LSIO_CTRL_LOOPBACK p then u.takeEntries p (loopEntries p (s.txFifo p)) else u).portSync p (s.portMask p))) ∧
  (∀ (s : State) (p tec rec : Nat), 12 ≤ p → s.flag F.LSIO_CTRL_ENABLE p = true → s.powered 44 = true →
    exec (.lsioBusError p tec rec) s =
      .next (((s.setFld F.LSIO_INT_STAT_ERROR 1 p).setRg (Reg.LSIO_ERRCNT (p - 12)) (BitVec.ofNat 32 (min tec 255 * 256 + min rec 255))).portSync p
        (s.portMask p))) ∧
  (∀ (s : State) (p st : Nat), 12 ≤ p → st < 3 → s.flag F.LSIO_CTRL_ENABLE p = true → s.fld F.LSIO_STAT_STATE p ≠ st → s.powered 44 = true →
    exec (.canStateChange p st) s = .next ((s.setFld F.LSIO_STAT_STATE st p).portEventBit p F.LSIO_INT_STAT_STATE_CHANGE)) ∧
  (∀ (s : State) (i : Nat) (level : Bool), i < 64 →
    ∃ u sel, u = s.setPin (fun w => Reg.LSIO_GPIO_IN w) i level ∧
      sel = bitsOf (s.rg (Reg.LSIO_GPIO_IRQ (i / 16))) (2 * (i % 16) + 1) (2 * (i % 16)) ∧
      (bit sel (if level then 0 else 1) = false → exec (.gpioEdge i level) s = .next u) ∧
      (bit sel (if level then 0 else 1) = true → exec (.gpioEdge i level) s =
        .next ((u.setPin (fun w => Reg.LSIO_GPIO_EDGE w) i true).raise ((if s.sPin i then 422 else 414) + i / 8)))) ∧
  (∀ (s : State) (v : Word), s.gatedAt Reg.LSIO_SOWN = false →
    exec (.lsioSownWrite .s Reg.LSIO_SOWN v) s = .next (s.setSown v) ∧ exec (.lsioSownWrite .s (Reg.LSIO_SGPIO 0) v) s = .next (s.setSgpio 0 v) ∧
    exec (.lsioSownWrite .s (Reg.LSIO_SGPIO 1) v) s = .next (s.setSgpio 1 v) ∧
    ∀ who addr, who ≠ .s → exec (.lsioSownWrite who addr v) s = .next s)

/-- DEBUG_ACCESS (02 R82): an access of a halted core's world is that core's access while the world's invasive debug is in effect, and none
otherwise. -/
def Rules.DebugAccessActsForTheCore : Prop :=
  ∀ (s : State) (w : Bool) (r : Req) (addr : Nat) (data : List Byte),
    (s.debugIn w = true → (r.who == .s) = w →
      exec (.debugAccess w r true addr data) s = .next (s.memStore { r with core := true } addr data [] none) ∧
      exec (.debugAccess w r false addr data) s = .next (s.debugRead { r with core := true } addr)) ∧
    ((s.debugIn w = false ∨ (r.who == .s) ≠ w) → ∀ write, exec (.debugAccess w r write addr data) s = .next (s.answer .none))

/-- REGISTER_WRITE and DEBUG_ACCESS (00 R3; 02 R35, R82). -/
def Obligations.RegisterWritesAndDebugAccesses : Prop :=
  Rules.RegisterWriteWritesItsRegister ∧ Rules.DebugAccessActsForTheCore

/-! What the shared updates change (00 R3; 02 R68; 03 R142-R145). -/

/-- The three updates most commands end in. A hardware write of a field changes that field of that register alone. Raising a source changes its
pending state alone. An event for a ring that is out of service, leaving it, or masks the class changes nothing; with only the last entry free it is
counted as lost; else it is written at the tail, which moves on. -/
def Obligations.SharedUpdatesStayInTheirPlace : Prop :=
  (∀ (s : State) (f : Fld) (n v : Nat), f.lo ≤ f.hi → f.hi < 32 →
    let t := s.setFld f v n
    t.fld f n = v % 2 ^ f.width ∧ (∀ i, i < 32 → (i < f.lo ∨ f.hi < i) → (t.rg (f.addr n)).getLsbD i = (s.rg (f.addr n)).getLsbD i) ∧
    SameRegsBut [f.addr n] s t ∧ t = { s with regs := t.regs }) ∧
  (∀ (s : State) (n : Nat), n < 512 →
    (s.raise n).isPend n = true ∧ SamePendBut [n] s (s.raise n) ∧ s.raise n = { s with wld := { s.wld with pend := (s.raise n).wld.pend } }) ∧
  (∀ (s : State) (r : RingId) (code inst d0 d1 d2 d3 : Nat),
    ((s.ring r).enabled = false ∨ (s.ring r).draining = true ∨ bit (s.ring r).mask (code / 1024) = false) → s.event r code inst d0 d1 d2 d3 = s) ∧
  (∀ (s : State) (r : RingId) (code inst d0 d1 d2 d3 : Nat), (s.ring r).enabled = true → (s.ring r).draining = false →
    bit (s.ring r).mask (code / 1024) = true → s.paused = false → 2 ^ (s.ring r).eqLog ≤ (s.ring r).eqUsed + 2 →
    s.event r code inst d0 d1 d2 d3 = s.setRing r { s.ring r with
      lost := min ((s.ring r).lost + 1) 0xFFFFFFFF, lostCode := if (s.ring r).lost = 0 then code else (s.ring r).lostCode }) ∧
  (∀ (s t : State) (r : RingId) (code inst d0 d1 d2 d3 : Nat), r = .s → (s.ring r).enabled = true → (s.ring r).draining = false →
    bit (s.ring r).mask (code / 1024) = true → s.paused = false → (s.ring r).eqUsed + 2 < 2 ^ (s.ring r).eqLog →
    s.dmaWrite .s ((s.ring r).eqBase + 32 * (s.ring r).eqTail)
      (eventBytes code inst (ringClient r) (if ringClient r = 0 then 0 else (s.client (ringClient r)).gen) (((s.ring r).eqPass + 1) % 2) s.devTime
        d0 d1 d2 d3) = (none, t) →
    s.event r code inst d0 d1 d2 d3 = (t.setRing r { t.ring r with
      eqTail := ((t.ring r).eqTail + 1) % 2 ^ (t.ring r).eqLog
      eqPass := if (t.ring r).eqTail + 1 = 2 ^ (t.ring r).eqLog then (t.ring r).eqPass + 1 else (t.ring r).eqPass }).raise 9)
end

