-- ==== Sys2Proof/Laws/Sparse.lean ====
section
/-! SUPPORT. Laws of sparse maps and of maps of runs: what a read gives after each operation, and that every operation keeps the
canonical form. -/

namespace Sys2Proof.Machine

/-! Reading. -/

@[simp] theorem SMap.get_nil {α : Type} (d : Nat → α) (k : Nat) : SMap.get d [] k = d k := rfl

theorem SMap.get_ins_same {α : Type} (d : Nat → α) (m : List (Nat × α)) (k : Nat) (v : α) : SMap.get d (SMap.ins m k v) k = v := by
  induction m with
  | nil => simp [SMap.ins, SMap.get]
  | cons e t ih =>
    simp only [SMap.ins]
    split
    · simp [SMap.get]
    · split
      · simp [SMap.get]
      · rename_i h; simp [SMap.get, ih, Ne.symm h]

theorem SMap.get_ins_ne {α : Type} (d : Nat → α) (m : List (Nat × α)) {k j : Nat} (v : α) (h : j ≠ k) :
    SMap.get d (SMap.ins m k v) j = SMap.get d m j := by
  induction m with
  | nil => simp [SMap.ins, SMap.get, Ne.symm h]
  | cons e t ih =>
    simp only [SMap.ins]
    split
    · simp [SMap.get, Ne.symm h]
    · split
      · rename_i hk; subst hk; simp [SMap.get, Ne.symm h]
      · simp [SMap.get, ih]

theorem SMap.get_del_same {α : Type} (d : Nat → α) (m : List (Nat × α)) (k : Nat) : SMap.get d (SMap.del m k) k = d k := by
  induction m with
  | nil => rfl
  | cons e t ih =>
    simp only [SMap.del, List.filter_cons] at ih ⊢
    split
    · rename_i h; simp only [bne_iff_ne, ne_eq] at h; simp only [SMap.get, h, if_false]; exact ih
    · exact ih

theorem SMap.get_filter {α : Type} (d : Nat → α) (p : Nat → Bool) (m : List (Nat × α)) (k : Nat) :
    SMap.get d (m.filter (fun e => p e.1)) k = if p k then SMap.get d m k else d k := by
  induction m with
  | nil => simp
  | cons e t ih =>
    simp only [List.filter_cons]
    by_cases hp : p e.1 = true
    · simp only [hp, if_true, SMap.get, ih]
      split
      · rename_i h; simp [← h, hp]
      · rfl
    · simp only [hp, SMap.get, Bool.false_eq_true, if_false, ih]
      split
      · split
        · rename_i h1 h2; rw [h2] at hp; contradiction
        · rfl
      · rfl

theorem SMap.get_del_ne {α : Type} (d : Nat → α) (m : List (Nat × α)) {k j : Nat} (h : j ≠ k) : SMap.get d (SMap.del m k) j = SMap.get d m j := by
  simp only [SMap.del]
  rw [SMap.get_filter d (fun x => x != k)]
  simp [h]

@[simp] theorem SMap.get_set_same {α : Type} [DecidableEq α] (d : Nat → α) (m : List (Nat × α)) (k : Nat) (v : α) :
    SMap.get d (SMap.set d m k v) k = v := by
  simp only [SMap.set]
  split
  · rename_i h; rw [SMap.get_del_same, h]
  · exact SMap.get_ins_same d m k v

@[simp] theorem SMap.get_set_ne {α : Type} [DecidableEq α] (d : Nat → α) (m : List (Nat × α)) {k j : Nat} (v : α) (h : j ≠ k) :
    SMap.get d (SMap.set d m k v) j = SMap.get d m j := by
  simp only [SMap.set]
  split
  · exact SMap.get_del_ne d m h
  · exact SMap.get_ins_ne d m v h

/-- What a sparse map reads as after a write, at every key. -/
theorem SMap.get_set {α : Type} [DecidableEq α] (d : Nat → α) (m : List (Nat × α)) (k j : Nat) (v : α) :
    SMap.get d (SMap.set d m k v) j = if j = k then v else SMap.get d m j := by
  split
  · rename_i h; subst h; simp
  · rename_i h; simp [h]

/-- A cleared range reads as its defaults; the rest as before. -/
theorem SMap.get_clear {α : Type} (d : Nat → α) (m : List (Nat × α)) (lo hi k : Nat) :
    SMap.get d (SMap.clear m lo hi) k = if lo ≤ k ∧ k < hi then d k else SMap.get d m k := by
  simp only [SMap.clear]
  rw [SMap.get_filter d (fun x => decide (x < lo) || decide (hi ≤ x))]
  by_cases h : lo ≤ k ∧ k < hi
  · simp [h, Nat.not_lt.mpr h.1, Nat.not_le.mpr h.2]
  · simp only [Bool.or_eq_true, decide_eq_true_eq, h, if_false]
    rw [if_pos (by omega)]

/-! The canonical form. -/

/-- The canonical form in two parts: the keys rise strictly, and no entry is at its default. -/
theorem SMap.wf_iff {α : Type} [DecidableEq α] (d : Nat → α) (m : List (Nat × α)) :
    SMap.wf d m = true ↔ m.Pairwise (fun a b => a.1 < b.1) ∧ ∀ e ∈ m, e.2 ≠ d e.1 := by
  induction m with
  | nil => simp [SMap.wf]
  | cons e t ih =>
    cases t with
    | nil => simp [SMap.wf]
    | cons f u =>
      simp only [SMap.wf, Bool.and_eq_true, decide_eq_true_eq, ih]
      constructor
      · rintro ⟨⟨h1, h2⟩, h3, h4⟩
        refine ⟨List.pairwise_cons.mpr ⟨?_, h3⟩, ?_⟩
        · intro x hx
          rcases List.mem_cons.mp hx with rfl | hx
          · exact h2
          · exact Nat.lt_trans h2 ((List.pairwise_cons.mp h3).1 x hx)
        · intro x hx
          rcases List.mem_cons.mp hx with rfl | hx
          · exact h1
          · exact h4 x hx
      · rintro ⟨h1, h2⟩
        have h1' := List.pairwise_cons.mp h1
        exact ⟨⟨h2 e (by simp), h1'.1 f (by simp)⟩, h1'.2, fun x hx => h2 x (List.mem_cons_of_mem _ hx)⟩

theorem SMap.wf_filter {α : Type} [DecidableEq α] (d : Nat → α) (p : Nat × α → Bool) (m : List (Nat × α)) (h : SMap.wf d m = true) :
    SMap.wf d (m.filter p) = true := by
  rw [SMap.wf_iff] at *
  exact ⟨h.1.filter p, fun e he => h.2 e (List.mem_filter.mp he).1⟩

theorem SMap.wf_del {α : Type} [DecidableEq α] (d : Nat → α) (m : List (Nat × α)) (k : Nat) (h : SMap.wf d m = true) :
    SMap.wf d (SMap.del m k) = true := SMap.wf_filter d _ m h

theorem SMap.wf_clear {α : Type} [DecidableEq α] (d : Nat → α) (m : List (Nat × α)) (lo hi : Nat) (h : SMap.wf d m = true) :
    SMap.wf d (SMap.clear m lo hi) = true := SMap.wf_filter d _ m h

theorem SMap.mem_ins {α : Type} (m : List (Nat × α)) (k : Nat) (v : α) (e : Nat × α) (h : e ∈ SMap.ins m k v) : e = (k, v) ∨ e ∈ m := by
  induction m with
  | nil => simpa [SMap.ins] using h
  | cons x t ih =>
    simp only [SMap.ins] at h
    split at h
    · simpa using h
    · split at h
      · rcases List.mem_cons.mp h with h | h
        · exact .inl h
        · exact .inr (List.mem_cons_of_mem _ h)
      · rcases List.mem_cons.mp h with h | h
        · exact .inr (by simp [h])
        · rcases ih h with h | h
          · exact .inl h
          · exact .inr (List.mem_cons_of_mem _ h)

theorem SMap.wf_ins {α : Type} [DecidableEq α] (d : Nat → α) (m : List (Nat × α)) (k : Nat) (v : α) (hv : v ≠ d k) (h : SMap.wf d m = true) :
    SMap.wf d (SMap.ins m k v) = true := by
  rw [SMap.wf_iff] at *
  refine ⟨?_, ?_⟩
  · induction m with
    | nil => simp [SMap.ins]
    | cons e t ih =>
      have h1 := List.pairwise_cons.mp h.1
      have ht : t.Pairwise (fun a b => a.1 < b.1) ∧ ∀ e ∈ t, e.2 ≠ d e.1 := ⟨h1.2, fun x hx => h.2 x (List.mem_cons_of_mem _ hx)⟩
      simp only [SMap.ins]
      split
      · rename_i hlt
        refine List.pairwise_cons.mpr ⟨?_, h.1⟩
        intro x hx
        rcases List.mem_cons.mp hx with rfl | hx
        · exact hlt
        · exact Nat.lt_trans hlt (h1.1 x hx)
      · split
        · rename_i heq
          exact List.pairwise_cons.mpr ⟨fun x hx => by simpa [heq] using h1.1 x hx, h1.2⟩
        · rename_i hnlt hne
          refine List.pairwise_cons.mpr ⟨?_, ih ht⟩
          intro x hx
          rcases SMap.mem_ins t k v x hx with rfl | hx
          · simp only; omega
          · exact h1.1 x hx
  · intro e he
    rcases SMap.mem_ins m k v e he with rfl | he
    · exact hv
    · exact h.2 e he

/-- A write keeps the canonical form: writing the default removes the entry. -/
@[simp] theorem SMap.wf_set {α : Type} [DecidableEq α] (d : Nat → α) (m : List (Nat × α)) (k : Nat) (v : α) (h : SMap.wf d m = true) :
    SMap.wf d (SMap.set d m k v) = true := by
  simp only [SMap.set]
  split
  · exact SMap.wf_del d m k h
  · rename_i hv; exact SMap.wf_ins d m k v hv h

/-! Maps of runs. -/

/-- The form of a map of runs: its keys rise strictly. -/
theorem Runs.wf_iff (m : RunMap) : Runs.wf m = true ↔ m.Pairwise (fun a b => a.1 < b.1) := by
  induction m with
  | nil => simp [Runs.wf]
  | cons e t ih =>
    cases t with
    | nil => simp [Runs.wf]
    | cons f u =>
      simp only [Runs.wf, Bool.and_eq_true, decide_eq_true_eq, ih]
      constructor
      · rintro ⟨h1, h2⟩
        refine List.pairwise_cons.mpr ⟨?_, h2⟩
        intro x hx
        rcases List.mem_cons.mp hx with rfl | hx
        · exact h1
        · exact Nat.lt_trans h1 ((List.pairwise_cons.mp h2).1 x hx)
      · intro h
        exact ⟨(List.pairwise_cons.mp h).1 f (by simp), (List.pairwise_cons.mp h).2⟩

theorem RunMap.join_sublist (cur : Nat) (m : RunMap) : (RunMap.join cur m).Sublist m := by
  induction m generalizing cur with
  | nil => exact .refl _
  | cons e t ih =>
    simp only [RunMap.join]
    split
    · exact (ih cur).cons e
    · exact (ih e.2).cons_cons e

theorem Runs.wf_join (cur : Nat) (m : RunMap) (h : Runs.wf m = true) : Runs.wf (RunMap.join cur m) = true := by
  rw [Runs.wf_iff] at *
  exact h.sublist (RunMap.join_sublist cur m)

/-- Giving a range one value keeps the runs in order. -/
@[simp] theorem Runs.wf_setRange (m : RunMap) (lo hi v : Nat) (h : Runs.wf m = true) : Runs.wf (RunMap.setRange m lo hi v) = true := by
  simp only [RunMap.setRange]
  split
  · rename_i hl
    apply Runs.wf_join
    rw [Runs.wf_iff] at *
    refine List.pairwise_append.mpr ⟨List.pairwise_append.mpr ⟨h.filter _, by simpa using hl, ?_⟩, h.filter _, ?_⟩
    · intro a ha b hb
      have := (List.mem_filter.mp ha).2
      simp only [decide_eq_true_eq] at this
      simp only [List.mem_cons, List.not_mem_nil, or_false] at hb
      rcases hb with rfl | rfl <;> simp only <;> omega
    · intro a ha b hb
      have hb' := (List.mem_filter.mp hb).2
      simp only [decide_eq_true_eq] at hb'
      rcases List.mem_append.mp ha with ha | ha
      · have := (List.mem_filter.mp ha).2
        simp only [decide_eq_true_eq] at this
        omega
      · simp only [List.mem_cons, List.not_mem_nil, or_false] at ha
        rcases ha with rfl | rfl <;> simp only <;> omega
  · exact h

theorem RunMap.getFrom_below (cur : Nat) (m : RunMap) (k : Nat) (h : ∀ e ∈ m, k < e.1) : RunMap.getFrom cur m k = cur := by
  cases m with
  | nil => rfl
  | cons e t => simp [RunMap.getFrom, h e (by simp)]

theorem RunMap.getFrom_join (cur : Nat) (m : RunMap) (k : Nat) (h : Runs.wf m = true) :
    RunMap.getFrom cur (RunMap.join cur m) k = RunMap.getFrom cur m k := by
  induction m generalizing cur with
  | nil => rfl
  | cons e t ih =>
    have hp := List.pairwise_cons.mp ((Runs.wf_iff _).mp h)
    have ht : Runs.wf t = true := (Runs.wf_iff _).mpr hp.2
    simp only [RunMap.join]
    split
    · rename_i hv
      rw [ih cur ht]
      simp only [RunMap.getFrom, hv]
      split
      · rename_i hk
        exact RunMap.getFrom_below cur t k (fun x hx => Nat.lt_trans hk (hp.1 x hx))
      · rfl
    · simp only [RunMap.getFrom]
      split
      · rfl
      · exact ih e.2 ht

theorem RunMap.getFrom_append (cur : Nat) (a b : RunMap) (k : Nat) (hb : ∀ e ∈ b, k < e.1) :
    RunMap.getFrom cur (a ++ b) k = RunMap.getFrom cur a k := by
  induction a generalizing cur with
  | nil => exact RunMap.getFrom_below cur b k hb
  | cons e t ih =>
    simp only [List.cons_append, RunMap.getFrom]
    split
    · rfl
    · exact ih e.2

theorem RunMap.getFrom_skip (cur : Nat) (a b : RunMap) (k : Nat) (ha : ∀ e ∈ a, e.1 ≤ k) (hb : b ≠ []) (hk : ∀ e ∈ b.head?, e.1 ≤ k) :
    RunMap.getFrom cur (a ++ b) k = RunMap.getFrom cur b k := by
  cases b with
  | nil => contradiction
  | cons f u =>
    induction a generalizing cur with
    | nil => rfl
    | cons e t ih =>
      have he := ha e (by simp)
      simp only [List.cons_append, RunMap.getFrom, Nat.not_lt.mpr he, if_false]
      rw [ih e.2 (fun x hx => ha x (List.mem_cons_of_mem _ hx))]
      have hf := hk f (by simp)
      simp [RunMap.getFrom, Nat.not_lt.mpr hf]

theorem RunMap.getFrom_filter_lt (cur lo : Nat) (m : RunMap) (k : Nat) (hk : k < lo) :
    RunMap.getFrom cur (m.filter (fun e => decide (e.1 < lo))) k = RunMap.getFrom cur m k ∨ ¬ Runs.wf m = true := by
  by_cases h : Runs.wf m = true
  · refine .inl ?_
    induction m generalizing cur with
    | nil => rfl
    | cons e t ih =>
      have hp := List.pairwise_cons.mp ((Runs.wf_iff _).mp h)
      have ht : Runs.wf t = true := (Runs.wf_iff _).mpr hp.2
      by_cases he : e.1 < lo
      · simp only [List.filter_cons, he, decide_true, if_true, RunMap.getFrom]
        split
        · rfl
        · exact ih e.2 ht
      · simp only [List.filter_cons, he, decide_false, Bool.false_eq_true, if_false]
        have hbelow : ∀ x ∈ (e :: t), k < x.1 := by
          intro x hx
          rcases List.mem_cons.mp hx with rfl | hx
          · omega
          · have := hp.1 x hx; omega
        rw [RunMap.getFrom_below cur (e :: t) k hbelow]
        exact RunMap.getFrom_below cur _ k (fun x hx => hbelow x (List.mem_cons_of_mem _ (List.mem_filter.mp hx).1))
  · exact .inr h

theorem RunMap.getFrom_filter_gt (cur hi : Nat) (m : RunMap) (k : Nat) (hk : hi ≤ k) (h : Runs.wf m = true) :
    RunMap.getFrom (RunMap.getFrom cur m hi) (m.filter (fun e => decide (hi < e.1))) k = RunMap.getFrom cur m k := by
  induction m generalizing cur with
  | nil => rfl
  | cons e t ih =>
    have hp := List.pairwise_cons.mp ((Runs.wf_iff _).mp h)
    have ht : Runs.wf t = true := (Runs.wf_iff _).mpr hp.2
    by_cases he : hi < e.1
    · have : t.filter (fun e => decide (hi < e.1)) = t := by
        apply List.filter_eq_self.mpr
        intro x hx
        have := hp.1 x hx
        simp only [decide_eq_true_eq]; omega
      simp only [List.filter_cons, he, decide_true, if_true, this]
      rw [RunMap.getFrom_below cur (e :: t) hi (by
        intro x hx
        rcases List.mem_cons.mp hx with rfl | hx
        · exact he
        · exact Nat.lt_trans he (hp.1 x hx))]
    · have hke : ¬ k < e.1 := by omega
      simp only [List.filter_cons, he, decide_false, Bool.false_eq_true, if_false, RunMap.getFrom, hke]
      exact ih e.2 ht

/-- What a map of runs reads as after a range has got one value, at every key. -/
theorem RunMap.get_setRange (m : RunMap) (lo hi v k : Nat) (h : Runs.wf m = true) :
    RunMap.get (RunMap.setRange m lo hi v) k = if lo ≤ k ∧ k < hi then v else RunMap.get m k := by
  by_cases hl : lo < hi
  · have hw := Runs.wf_setRange m lo hi v h
    have hraw : Runs.wf (m.filter (fun e => decide (e.1 < lo)) ++ [(lo, v), (hi, RunMap.get m hi)] ++ m.filter (fun e => decide (hi < e.1))) = true := by
      rw [Runs.wf_iff] at h ⊢
      refine List.pairwise_append.mpr ⟨List.pairwise_append.mpr ⟨h.filter _, by simpa using hl, ?_⟩, h.filter _, ?_⟩
      · intro a ha b hb
        have := (List.mem_filter.mp ha).2
        simp only [decide_eq_true_eq] at this
        simp only [List.mem_cons, List.not_mem_nil, or_false] at hb
        rcases hb with rfl | rfl <;> simp only <;> omega
      · intro a ha b hb
        have hb' := (List.mem_filter.mp hb).2
        simp only [decide_eq_true_eq] at hb'
        rcases List.mem_append.mp ha with ha | ha
        · have := (List.mem_filter.mp ha).2
          simp only [decide_eq_true_eq] at this
          omega
        · simp only [List.mem_cons, List.not_mem_nil, or_false] at ha
          rcases ha with rfl | rfl <;> simp only <;> omega
    rw [show RunMap.get m hi = RunMap.getFrom 0 m hi from rfl] at hraw
    simp only [RunMap.get, RunMap.setRange, hl, if_true]
    rw [RunMap.getFrom_join 0 _ k hraw, List.append_assoc]
    have hlt : ∀ e ∈ m.filter (fun e => decide (e.1 < lo)), e.1 < lo := by
      intro e he; simpa using (List.mem_filter.mp he).2
    have hgt : ∀ e ∈ m.filter (fun e => decide (hi < e.1)), hi < e.1 := by
      intro e he; simpa using (List.mem_filter.mp he).2
    by_cases h1 : k < lo
    · rw [RunMap.getFrom_append 0 _ _ k (by
        intro e he
        simp only [List.cons_append, List.nil_append, List.mem_cons] at he
        rcases he with rfl | rfl | he
        · exact h1
        · simp only; omega
        · have := hgt e he; omega)]
      rw [(RunMap.getFrom_filter_lt 0 lo m k h1).resolve_right (by simp [h])]
      simp [Nat.not_le.mpr h1]
    · rw [RunMap.getFrom_skip 0 _ _ k (fun e he => by have := hlt e he; omega) (by simp) (by
        intro e he
        simp only [List.cons_append, List.head?_cons, Option.mem_def, Option.some.injEq] at he
        rw [← he]; simp only; omega)]
      by_cases h2 : k < hi
      · simp [RunMap.getFrom, h1, h2]
      · simp only [List.cons_append, List.nil_append, RunMap.getFrom, h1, h2, if_false, and_false]
        exact RunMap.getFrom_filter_gt 0 hi m k (by omega) h
  · have hno : ¬ (lo ≤ k ∧ k < hi) := by omega
    simp [RunMap.setRange, hl, hno]

end Sys2Proof.Machine
end

