-- ==== Sys2Proof/Laws/State.lean ====
section
/-! SUPPORT. What each update of a part of the state leaves unchanged, one lemma per field and update, and what it makes the same part read as. -/

namespace Sys2Proof.Machine

/-! `setRg` changes `regs` alone. -/

@[simp] theorem State.setRg_pending (s : State) (a : Nat) (v : Word) : (s.setRg a v).pending = s.pending := by dsimp only [State.setRg]
@[simp] theorem State.setRg_resp (s : State) (a : Nat) (v : Word) : (s.setRg a v).resp = s.resp := by dsimp only [State.setRg]
@[simp] theorem State.setRg_mem (s : State) (a : Nat) (v : Word) : (s.setRg a v).mem = s.mem := by dsimp only [State.setRg]
@[simp] theorem State.setRg_cyc (s : State) (a : Nat) (v : Word) : (s.setRg a v).cyc = s.cyc := by dsimp only [State.setRg]
@[simp] theorem State.setRg_devOff (s : State) (a : Nat) (v : Word) : (s.setRg a v).devOff = s.devOff := by dsimp only [State.setRg]
@[simp] theorem State.setRg_free (s : State) (a : Nat) (v : Word) : (s.setRg a v).free = s.free := by dsimp only [State.setRg]
@[simp] theorem State.setRg_wld (s : State) (a : Nat) (v : Word) : (s.setRg a v).wld = s.wld := by dsimp only [State.setRg]
@[simp] theorem State.setRg_cp (s : State) (a : Nat) (v : Word) : (s.setRg a v).cp = s.cp := by dsimp only [State.setRg]
@[simp] theorem State.setRg_cl (s : State) (a : Nat) (v : Word) : (s.setRg a v).cl = s.cl := by dsimp only [State.setRg]
@[simp] theorem State.setRg_mc (s : State) (a : Nat) (v : Word) : (s.setRg a v).mc = s.mc := by dsimp only [State.setRg]
@[simp] theorem State.setRg_arb (s : State) (a : Nat) (v : Word) : (s.setRg a v).arb = s.arb := by dsimp only [State.setRg]
@[simp] theorem State.setRg_flt (s : State) (a : Nat) (v : Word) : (s.setRg a v).flt = s.flt := by dsimp only [State.setRg]
@[simp] theorem State.setRg_disp (s : State) (a : Nat) (v : Word) : (s.setRg a v).disp = s.disp := by dsimp only [State.setRg]
@[simp] theorem State.setRg_etch (s : State) (a : Nat) (v : Word) : (s.setRg a v).etch = s.etch := by dsimp only [State.setRg]
@[simp] theorem State.setRg_prf (s : State) (a : Nat) (v : Word) : (s.setRg a v).prf = s.prf := by dsimp only [State.setRg]
@[simp] theorem State.setRg_grv (s : State) (a : Nat) (v : Word) : (s.setRg a v).grv = s.grv := by dsimp only [State.setRg]
@[simp] theorem State.setRg_touch (s : State) (a : Nat) (v : Word) : (s.setRg a v).touch = s.touch := by dsimp only [State.setRg]
@[simp] theorem State.setRg_hap (s : State) (a : Nat) (v : Word) : (s.setRg a v).hap = s.hap := by dsimp only [State.setRg]
@[simp] theorem State.setRg_fol (s : State) (a : Nat) (v : Word) : (s.setRg a v).fol = s.fol := by dsimp only [State.setRg]
@[simp] theorem State.setRg_aud (s : State) (a : Nat) (v : Word) : (s.setRg a v).aud = s.aud := by dsimp only [State.setRg]
@[simp] theorem State.setRg_fw (s : State) (a : Nat) (v : Word) : (s.setRg a v).fw = s.fw := by dsimp only [State.setRg]
@[simp] theorem State.setRg_pwr (s : State) (a : Nat) (v : Word) : (s.setRg a v).pwr = s.pwr := by dsimp only [State.setRg]
@[simp] theorem State.setRg_dziv (s : State) (a : Nat) (v : Word) : (s.setRg a v).dziv = s.dziv := by dsimp only [State.setRg]
@[simp] theorem State.setRg_lsio (s : State) (a : Nat) (v : Word) : (s.setRg a v).lsio = s.lsio := by dsimp only [State.setRg]

/-! `setFld` changes `regs` alone. -/

@[simp] theorem State.setFld_pending (s : State) (f : Fld) (v n : Nat) : (s.setFld f v n).pending = s.pending := by dsimp only [State.setFld, State.setRg]
@[simp] theorem State.setFld_resp (s : State) (f : Fld) (v n : Nat) : (s.setFld f v n).resp = s.resp := by dsimp only [State.setFld, State.setRg]
@[simp] theorem State.setFld_mem (s : State) (f : Fld) (v n : Nat) : (s.setFld f v n).mem = s.mem := by dsimp only [State.setFld, State.setRg]
@[simp] theorem State.setFld_cyc (s : State) (f : Fld) (v n : Nat) : (s.setFld f v n).cyc = s.cyc := by dsimp only [State.setFld, State.setRg]
@[simp] theorem State.setFld_devOff (s : State) (f : Fld) (v n : Nat) : (s.setFld f v n).devOff = s.devOff := by dsimp only [State.setFld, State.setRg]
@[simp] theorem State.setFld_free (s : State) (f : Fld) (v n : Nat) : (s.setFld f v n).free = s.free := by dsimp only [State.setFld, State.setRg]
@[simp] theorem State.setFld_wld (s : State) (f : Fld) (v n : Nat) : (s.setFld f v n).wld = s.wld := by dsimp only [State.setFld, State.setRg]
@[simp] theorem State.setFld_cp (s : State) (f : Fld) (v n : Nat) : (s.setFld f v n).cp = s.cp := by dsimp only [State.setFld, State.setRg]
@[simp] theorem State.setFld_cl (s : State) (f : Fld) (v n : Nat) : (s.setFld f v n).cl = s.cl := by dsimp only [State.setFld, State.setRg]
@[simp] theorem State.setFld_mc (s : State) (f : Fld) (v n : Nat) : (s.setFld f v n).mc = s.mc := by dsimp only [State.setFld, State.setRg]
@[simp] theorem State.setFld_arb (s : State) (f : Fld) (v n : Nat) : (s.setFld f v n).arb = s.arb := by dsimp only [State.setFld, State.setRg]
@[simp] theorem State.setFld_flt (s : State) (f : Fld) (v n : Nat) : (s.setFld f v n).flt = s.flt := by dsimp only [State.setFld, State.setRg]
@[simp] theorem State.setFld_disp (s : State) (f : Fld) (v n : Nat) : (s.setFld f v n).disp = s.disp := by dsimp only [State.setFld, State.setRg]
@[simp] theorem State.setFld_etch (s : State) (f : Fld) (v n : Nat) : (s.setFld f v n).etch = s.etch := by dsimp only [State.setFld, State.setRg]
@[simp] theorem State.setFld_prf (s : State) (f : Fld) (v n : Nat) : (s.setFld f v n).prf = s.prf := by dsimp only [State.setFld, State.setRg]
@[simp] theorem State.setFld_grv (s : State) (f : Fld) (v n : Nat) : (s.setFld f v n).grv = s.grv := by dsimp only [State.setFld, State.setRg]
@[simp] theorem State.setFld_touch (s : State) (f : Fld) (v n : Nat) : (s.setFld f v n).touch = s.touch := by dsimp only [State.setFld, State.setRg]
@[simp] theorem State.setFld_hap (s : State) (f : Fld) (v n : Nat) : (s.setFld f v n).hap = s.hap := by dsimp only [State.setFld, State.setRg]
@[simp] theorem State.setFld_fol (s : State) (f : Fld) (v n : Nat) : (s.setFld f v n).fol = s.fol := by dsimp only [State.setFld, State.setRg]
@[simp] theorem State.setFld_aud (s : State) (f : Fld) (v n : Nat) : (s.setFld f v n).aud = s.aud := by dsimp only [State.setFld, State.setRg]
@[simp] theorem State.setFld_fw (s : State) (f : Fld) (v n : Nat) : (s.setFld f v n).fw = s.fw := by dsimp only [State.setFld, State.setRg]
@[simp] theorem State.setFld_pwr (s : State) (f : Fld) (v n : Nat) : (s.setFld f v n).pwr = s.pwr := by dsimp only [State.setFld, State.setRg]
@[simp] theorem State.setFld_dziv (s : State) (f : Fld) (v n : Nat) : (s.setFld f v n).dziv = s.dziv := by dsimp only [State.setFld, State.setRg]
@[simp] theorem State.setFld_lsio (s : State) (f : Fld) (v n : Nat) : (s.setFld f v n).lsio = s.lsio := by dsimp only [State.setFld, State.setRg]

/-! `setFlag` changes `regs` alone. -/

@[simp] theorem State.setFlag_pending (s : State) (f : Fld) (b : Bool) (n : Nat) : (s.setFlag f b n).pending = s.pending := by dsimp only [State.setFlag, State.setFld, State.setRg]
@[simp] theorem State.setFlag_resp (s : State) (f : Fld) (b : Bool) (n : Nat) : (s.setFlag f b n).resp = s.resp := by dsimp only [State.setFlag, State.setFld, State.setRg]
@[simp] theorem State.setFlag_mem (s : State) (f : Fld) (b : Bool) (n : Nat) : (s.setFlag f b n).mem = s.mem := by dsimp only [State.setFlag, State.setFld, State.setRg]
@[simp] theorem State.setFlag_cyc (s : State) (f : Fld) (b : Bool) (n : Nat) : (s.setFlag f b n).cyc = s.cyc := by dsimp only [State.setFlag, State.setFld, State.setRg]
@[simp] theorem State.setFlag_devOff (s : State) (f : Fld) (b : Bool) (n : Nat) : (s.setFlag f b n).devOff = s.devOff := by dsimp only [State.setFlag, State.setFld, State.setRg]
@[simp] theorem State.setFlag_free (s : State) (f : Fld) (b : Bool) (n : Nat) : (s.setFlag f b n).free = s.free := by dsimp only [State.setFlag, State.setFld, State.setRg]
@[simp] theorem State.setFlag_wld (s : State) (f : Fld) (b : Bool) (n : Nat) : (s.setFlag f b n).wld = s.wld := by dsimp only [State.setFlag, State.setFld, State.setRg]
@[simp] theorem State.setFlag_cp (s : State) (f : Fld) (b : Bool) (n : Nat) : (s.setFlag f b n).cp = s.cp := by dsimp only [State.setFlag, State.setFld, State.setRg]
@[simp] theorem State.setFlag_cl (s : State) (f : Fld) (b : Bool) (n : Nat) : (s.setFlag f b n).cl = s.cl := by dsimp only [State.setFlag, State.setFld, State.setRg]
@[simp] theorem State.setFlag_mc (s : State) (f : Fld) (b : Bool) (n : Nat) : (s.setFlag f b n).mc = s.mc := by dsimp only [State.setFlag, State.setFld, State.setRg]
@[simp] theorem State.setFlag_arb (s : State) (f : Fld) (b : Bool) (n : Nat) : (s.setFlag f b n).arb = s.arb := by dsimp only [State.setFlag, State.setFld, State.setRg]
@[simp] theorem State.setFlag_flt (s : State) (f : Fld) (b : Bool) (n : Nat) : (s.setFlag f b n).flt = s.flt := by dsimp only [State.setFlag, State.setFld, State.setRg]
@[simp] theorem State.setFlag_disp (s : State) (f : Fld) (b : Bool) (n : Nat) : (s.setFlag f b n).disp = s.disp := by dsimp only [State.setFlag, State.setFld, State.setRg]
@[simp] theorem State.setFlag_etch (s : State) (f : Fld) (b : Bool) (n : Nat) : (s.setFlag f b n).etch = s.etch := by dsimp only [State.setFlag, State.setFld, State.setRg]
@[simp] theorem State.setFlag_prf (s : State) (f : Fld) (b : Bool) (n : Nat) : (s.setFlag f b n).prf = s.prf := by dsimp only [State.setFlag, State.setFld, State.setRg]
@[simp] theorem State.setFlag_grv (s : State) (f : Fld) (b : Bool) (n : Nat) : (s.setFlag f b n).grv = s.grv := by dsimp only [State.setFlag, State.setFld, State.setRg]
@[simp] theorem State.setFlag_touch (s : State) (f : Fld) (b : Bool) (n : Nat) : (s.setFlag f b n).touch = s.touch := by dsimp only [State.setFlag, State.setFld, State.setRg]
@[simp] theorem State.setFlag_hap (s : State) (f : Fld) (b : Bool) (n : Nat) : (s.setFlag f b n).hap = s.hap := by dsimp only [State.setFlag, State.setFld, State.setRg]
@[simp] theorem State.setFlag_fol (s : State) (f : Fld) (b : Bool) (n : Nat) : (s.setFlag f b n).fol = s.fol := by dsimp only [State.setFlag, State.setFld, State.setRg]
@[simp] theorem State.setFlag_aud (s : State) (f : Fld) (b : Bool) (n : Nat) : (s.setFlag f b n).aud = s.aud := by dsimp only [State.setFlag, State.setFld, State.setRg]
@[simp] theorem State.setFlag_fw (s : State) (f : Fld) (b : Bool) (n : Nat) : (s.setFlag f b n).fw = s.fw := by dsimp only [State.setFlag, State.setFld, State.setRg]
@[simp] theorem State.setFlag_pwr (s : State) (f : Fld) (b : Bool) (n : Nat) : (s.setFlag f b n).pwr = s.pwr := by dsimp only [State.setFlag, State.setFld, State.setRg]
@[simp] theorem State.setFlag_dziv (s : State) (f : Fld) (b : Bool) (n : Nat) : (s.setFlag f b n).dziv = s.dziv := by dsimp only [State.setFlag, State.setFld, State.setRg]
@[simp] theorem State.setFlag_lsio (s : State) (f : Fld) (b : Bool) (n : Nat) : (s.setFlag f b n).lsio = s.lsio := by dsimp only [State.setFlag, State.setFld, State.setRg]

/-! `satInc` changes `regs` alone. -/

@[simp] theorem State.satInc_pending (s : State) (f : Fld) (n k : Nat) : (s.satInc f n k).pending = s.pending := by dsimp only [State.satInc, State.setFld, State.setRg]
@[simp] theorem State.satInc_resp (s : State) (f : Fld) (n k : Nat) : (s.satInc f n k).resp = s.resp := by dsimp only [State.satInc, State.setFld, State.setRg]
@[simp] theorem State.satInc_mem (s : State) (f : Fld) (n k : Nat) : (s.satInc f n k).mem = s.mem := by dsimp only [State.satInc, State.setFld, State.setRg]
@[simp] theorem State.satInc_cyc (s : State) (f : Fld) (n k : Nat) : (s.satInc f n k).cyc = s.cyc := by dsimp only [State.satInc, State.setFld, State.setRg]
@[simp] theorem State.satInc_devOff (s : State) (f : Fld) (n k : Nat) : (s.satInc f n k).devOff = s.devOff := by dsimp only [State.satInc, State.setFld, State.setRg]
@[simp] theorem State.satInc_free (s : State) (f : Fld) (n k : Nat) : (s.satInc f n k).free = s.free := by dsimp only [State.satInc, State.setFld, State.setRg]
@[simp] theorem State.satInc_wld (s : State) (f : Fld) (n k : Nat) : (s.satInc f n k).wld = s.wld := by dsimp only [State.satInc, State.setFld, State.setRg]
@[simp] theorem State.satInc_cp (s : State) (f : Fld) (n k : Nat) : (s.satInc f n k).cp = s.cp := by dsimp only [State.satInc, State.setFld, State.setRg]
@[simp] theorem State.satInc_cl (s : State) (f : Fld) (n k : Nat) : (s.satInc f n k).cl = s.cl := by dsimp only [State.satInc, State.setFld, State.setRg]
@[simp] theorem State.satInc_mc (s : State) (f : Fld) (n k : Nat) : (s.satInc f n k).mc = s.mc := by dsimp only [State.satInc, State.setFld, State.setRg]
@[simp] theorem State.satInc_arb (s : State) (f : Fld) (n k : Nat) : (s.satInc f n k).arb = s.arb := by dsimp only [State.satInc, State.setFld, State.setRg]
@[simp] theorem State.satInc_flt (s : State) (f : Fld) (n k : Nat) : (s.satInc f n k).flt = s.flt := by dsimp only [State.satInc, State.setFld, State.setRg]
@[simp] theorem State.satInc_disp (s : State) (f : Fld) (n k : Nat) : (s.satInc f n k).disp = s.disp := by dsimp only [State.satInc, State.setFld, State.setRg]
@[simp] theorem State.satInc_etch (s : State) (f : Fld) (n k : Nat) : (s.satInc f n k).etch = s.etch := by dsimp only [State.satInc, State.setFld, State.setRg]
@[simp] theorem State.satInc_prf (s : State) (f : Fld) (n k : Nat) : (s.satInc f n k).prf = s.prf := by dsimp only [State.satInc, State.setFld, State.setRg]
@[simp] theorem State.satInc_grv (s : State) (f : Fld) (n k : Nat) : (s.satInc f n k).grv = s.grv := by dsimp only [State.satInc, State.setFld, State.setRg]
@[simp] theorem State.satInc_touch (s : State) (f : Fld) (n k : Nat) : (s.satInc f n k).touch = s.touch := by dsimp only [State.satInc, State.setFld, State.setRg]
@[simp] theorem State.satInc_hap (s : State) (f : Fld) (n k : Nat) : (s.satInc f n k).hap = s.hap := by dsimp only [State.satInc, State.setFld, State.setRg]
@[simp] theorem State.satInc_fol (s : State) (f : Fld) (n k : Nat) : (s.satInc f n k).fol = s.fol := by dsimp only [State.satInc, State.setFld, State.setRg]
@[simp] theorem State.satInc_aud (s : State) (f : Fld) (n k : Nat) : (s.satInc f n k).aud = s.aud := by dsimp only [State.satInc, State.setFld, State.setRg]
@[simp] theorem State.satInc_fw (s : State) (f : Fld) (n k : Nat) : (s.satInc f n k).fw = s.fw := by dsimp only [State.satInc, State.setFld, State.setRg]
@[simp] theorem State.satInc_pwr (s : State) (f : Fld) (n k : Nat) : (s.satInc f n k).pwr = s.pwr := by dsimp only [State.satInc, State.setFld, State.setRg]
@[simp] theorem State.satInc_dziv (s : State) (f : Fld) (n k : Nat) : (s.satInc f n k).dziv = s.dziv := by dsimp only [State.satInc, State.setFld, State.setRg]
@[simp] theorem State.satInc_lsio (s : State) (f : Fld) (n k : Nat) : (s.satInc f n k).lsio = s.lsio := by dsimp only [State.satInc, State.setFld, State.setRg]

/-! `bumpEpoch` changes `regs` alone. -/

@[simp] theorem State.bumpEpoch_pending (s : State) (c : Nat) : (s.bumpEpoch c).pending = s.pending := by dsimp only [State.bumpEpoch, State.setFld, State.setRg]
@[simp] theorem State.bumpEpoch_resp (s : State) (c : Nat) : (s.bumpEpoch c).resp = s.resp := by dsimp only [State.bumpEpoch, State.setFld, State.setRg]
@[simp] theorem State.bumpEpoch_mem (s : State) (c : Nat) : (s.bumpEpoch c).mem = s.mem := by dsimp only [State.bumpEpoch, State.setFld, State.setRg]
@[simp] theorem State.bumpEpoch_cyc (s : State) (c : Nat) : (s.bumpEpoch c).cyc = s.cyc := by dsimp only [State.bumpEpoch, State.setFld, State.setRg]
@[simp] theorem State.bumpEpoch_devOff (s : State) (c : Nat) : (s.bumpEpoch c).devOff = s.devOff := by dsimp only [State.bumpEpoch, State.setFld, State.setRg]
@[simp] theorem State.bumpEpoch_free (s : State) (c : Nat) : (s.bumpEpoch c).free = s.free := by dsimp only [State.bumpEpoch, State.setFld, State.setRg]
@[simp] theorem State.bumpEpoch_wld (s : State) (c : Nat) : (s.bumpEpoch c).wld = s.wld := by dsimp only [State.bumpEpoch, State.setFld, State.setRg]
@[simp] theorem State.bumpEpoch_cp (s : State) (c : Nat) : (s.bumpEpoch c).cp = s.cp := by dsimp only [State.bumpEpoch, State.setFld, State.setRg]
@[simp] theorem State.bumpEpoch_cl (s : State) (c : Nat) : (s.bumpEpoch c).cl = s.cl := by dsimp only [State.bumpEpoch, State.setFld, State.setRg]
@[simp] theorem State.bumpEpoch_mc (s : State) (c : Nat) : (s.bumpEpoch c).mc = s.mc := by dsimp only [State.bumpEpoch, State.setFld, State.setRg]
@[simp] theorem State.bumpEpoch_arb (s : State) (c : Nat) : (s.bumpEpoch c).arb = s.arb := by dsimp only [State.bumpEpoch, State.setFld, State.setRg]
@[simp] theorem State.bumpEpoch_flt (s : State) (c : Nat) : (s.bumpEpoch c).flt = s.flt := by dsimp only [State.bumpEpoch, State.setFld, State.setRg]
@[simp] theorem State.bumpEpoch_disp (s : State) (c : Nat) : (s.bumpEpoch c).disp = s.disp := by dsimp only [State.bumpEpoch, State.setFld, State.setRg]
@[simp] theorem State.bumpEpoch_etch (s : State) (c : Nat) : (s.bumpEpoch c).etch = s.etch := by dsimp only [State.bumpEpoch, State.setFld, State.setRg]
@[simp] theorem State.bumpEpoch_prf (s : State) (c : Nat) : (s.bumpEpoch c).prf = s.prf := by dsimp only [State.bumpEpoch, State.setFld, State.setRg]
@[simp] theorem State.bumpEpoch_grv (s : State) (c : Nat) : (s.bumpEpoch c).grv = s.grv := by dsimp only [State.bumpEpoch, State.setFld, State.setRg]
@[simp] theorem State.bumpEpoch_touch (s : State) (c : Nat) : (s.bumpEpoch c).touch = s.touch := by dsimp only [State.bumpEpoch, State.setFld, State.setRg]
@[simp] theorem State.bumpEpoch_hap (s : State) (c : Nat) : (s.bumpEpoch c).hap = s.hap := by dsimp only [State.bumpEpoch, State.setFld, State.setRg]
@[simp] theorem State.bumpEpoch_fol (s : State) (c : Nat) : (s.bumpEpoch c).fol = s.fol := by dsimp only [State.bumpEpoch, State.setFld, State.setRg]
@[simp] theorem State.bumpEpoch_aud (s : State) (c : Nat) : (s.bumpEpoch c).aud = s.aud := by dsimp only [State.bumpEpoch, State.setFld, State.setRg]
@[simp] theorem State.bumpEpoch_fw (s : State) (c : Nat) : (s.bumpEpoch c).fw = s.fw := by dsimp only [State.bumpEpoch, State.setFld, State.setRg]
@[simp] theorem State.bumpEpoch_pwr (s : State) (c : Nat) : (s.bumpEpoch c).pwr = s.pwr := by dsimp only [State.bumpEpoch, State.setFld, State.setRg]
@[simp] theorem State.bumpEpoch_dziv (s : State) (c : Nat) : (s.bumpEpoch c).dziv = s.dziv := by dsimp only [State.bumpEpoch, State.setFld, State.setRg]
@[simp] theorem State.bumpEpoch_lsio (s : State) (c : Nat) : (s.bumpEpoch c).lsio = s.lsio := by dsimp only [State.bumpEpoch, State.setFld, State.setRg]

/-! `put32` changes `regs` alone. -/

@[simp] theorem State.put32_pending (s : State) (a v : Nat) : (s.put32 a v).pending = s.pending := by dsimp only [State.put32, State.setRg]
@[simp] theorem State.put32_resp (s : State) (a v : Nat) : (s.put32 a v).resp = s.resp := by dsimp only [State.put32, State.setRg]
@[simp] theorem State.put32_mem (s : State) (a v : Nat) : (s.put32 a v).mem = s.mem := by dsimp only [State.put32, State.setRg]
@[simp] theorem State.put32_cyc (s : State) (a v : Nat) : (s.put32 a v).cyc = s.cyc := by dsimp only [State.put32, State.setRg]
@[simp] theorem State.put32_devOff (s : State) (a v : Nat) : (s.put32 a v).devOff = s.devOff := by dsimp only [State.put32, State.setRg]
@[simp] theorem State.put32_free (s : State) (a v : Nat) : (s.put32 a v).free = s.free := by dsimp only [State.put32, State.setRg]
@[simp] theorem State.put32_wld (s : State) (a v : Nat) : (s.put32 a v).wld = s.wld := by dsimp only [State.put32, State.setRg]
@[simp] theorem State.put32_cp (s : State) (a v : Nat) : (s.put32 a v).cp = s.cp := by dsimp only [State.put32, State.setRg]
@[simp] theorem State.put32_cl (s : State) (a v : Nat) : (s.put32 a v).cl = s.cl := by dsimp only [State.put32, State.setRg]
@[simp] theorem State.put32_mc (s : State) (a v : Nat) : (s.put32 a v).mc = s.mc := by dsimp only [State.put32, State.setRg]
@[simp] theorem State.put32_arb (s : State) (a v : Nat) : (s.put32 a v).arb = s.arb := by dsimp only [State.put32, State.setRg]
@[simp] theorem State.put32_flt (s : State) (a v : Nat) : (s.put32 a v).flt = s.flt := by dsimp only [State.put32, State.setRg]
@[simp] theorem State.put32_disp (s : State) (a v : Nat) : (s.put32 a v).disp = s.disp := by dsimp only [State.put32, State.setRg]
@[simp] theorem State.put32_etch (s : State) (a v : Nat) : (s.put32 a v).etch = s.etch := by dsimp only [State.put32, State.setRg]
@[simp] theorem State.put32_prf (s : State) (a v : Nat) : (s.put32 a v).prf = s.prf := by dsimp only [State.put32, State.setRg]
@[simp] theorem State.put32_grv (s : State) (a v : Nat) : (s.put32 a v).grv = s.grv := by dsimp only [State.put32, State.setRg]
@[simp] theorem State.put32_touch (s : State) (a v : Nat) : (s.put32 a v).touch = s.touch := by dsimp only [State.put32, State.setRg]
@[simp] theorem State.put32_hap (s : State) (a v : Nat) : (s.put32 a v).hap = s.hap := by dsimp only [State.put32, State.setRg]
@[simp] theorem State.put32_fol (s : State) (a v : Nat) : (s.put32 a v).fol = s.fol := by dsimp only [State.put32, State.setRg]
@[simp] theorem State.put32_aud (s : State) (a v : Nat) : (s.put32 a v).aud = s.aud := by dsimp only [State.put32, State.setRg]
@[simp] theorem State.put32_fw (s : State) (a v : Nat) : (s.put32 a v).fw = s.fw := by dsimp only [State.put32, State.setRg]
@[simp] theorem State.put32_pwr (s : State) (a v : Nat) : (s.put32 a v).pwr = s.pwr := by dsimp only [State.put32, State.setRg]
@[simp] theorem State.put32_dziv (s : State) (a v : Nat) : (s.put32 a v).dziv = s.dziv := by dsimp only [State.put32, State.setRg]
@[simp] theorem State.put32_lsio (s : State) (a v : Nat) : (s.put32 a v).lsio = s.lsio := by dsimp only [State.put32, State.setRg]

/-! `answer` changes `resp` alone. -/

@[simp] theorem State.answer_pending (s : State) (r : Resp) : (s.answer r).pending = s.pending := by dsimp only [State.answer]
@[simp] theorem State.answer_regs (s : State) (r : Resp) : (s.answer r).regs = s.regs := by dsimp only [State.answer]
@[simp] theorem State.answer_mem (s : State) (r : Resp) : (s.answer r).mem = s.mem := by dsimp only [State.answer]
@[simp] theorem State.answer_cyc (s : State) (r : Resp) : (s.answer r).cyc = s.cyc := by dsimp only [State.answer]
@[simp] theorem State.answer_devOff (s : State) (r : Resp) : (s.answer r).devOff = s.devOff := by dsimp only [State.answer]
@[simp] theorem State.answer_free (s : State) (r : Resp) : (s.answer r).free = s.free := by dsimp only [State.answer]
@[simp] theorem State.answer_wld (s : State) (r : Resp) : (s.answer r).wld = s.wld := by dsimp only [State.answer]
@[simp] theorem State.answer_cp (s : State) (r : Resp) : (s.answer r).cp = s.cp := by dsimp only [State.answer]
@[simp] theorem State.answer_cl (s : State) (r : Resp) : (s.answer r).cl = s.cl := by dsimp only [State.answer]
@[simp] theorem State.answer_mc (s : State) (r : Resp) : (s.answer r).mc = s.mc := by dsimp only [State.answer]
@[simp] theorem State.answer_arb (s : State) (r : Resp) : (s.answer r).arb = s.arb := by dsimp only [State.answer]
@[simp] theorem State.answer_flt (s : State) (r : Resp) : (s.answer r).flt = s.flt := by dsimp only [State.answer]
@[simp] theorem State.answer_disp (s : State) (r : Resp) : (s.answer r).disp = s.disp := by dsimp only [State.answer]
@[simp] theorem State.answer_etch (s : State) (r : Resp) : (s.answer r).etch = s.etch := by dsimp only [State.answer]
@[simp] theorem State.answer_prf (s : State) (r : Resp) : (s.answer r).prf = s.prf := by dsimp only [State.answer]
@[simp] theorem State.answer_grv (s : State) (r : Resp) : (s.answer r).grv = s.grv := by dsimp only [State.answer]
@[simp] theorem State.answer_touch (s : State) (r : Resp) : (s.answer r).touch = s.touch := by dsimp only [State.answer]
@[simp] theorem State.answer_hap (s : State) (r : Resp) : (s.answer r).hap = s.hap := by dsimp only [State.answer]
@[simp] theorem State.answer_fol (s : State) (r : Resp) : (s.answer r).fol = s.fol := by dsimp only [State.answer]
@[simp] theorem State.answer_aud (s : State) (r : Resp) : (s.answer r).aud = s.aud := by dsimp only [State.answer]
@[simp] theorem State.answer_fw (s : State) (r : Resp) : (s.answer r).fw = s.fw := by dsimp only [State.answer]
@[simp] theorem State.answer_pwr (s : State) (r : Resp) : (s.answer r).pwr = s.pwr := by dsimp only [State.answer]
@[simp] theorem State.answer_dziv (s : State) (r : Resp) : (s.answer r).dziv = s.dziv := by dsimp only [State.answer]
@[simp] theorem State.answer_lsio (s : State) (r : Resp) : (s.answer r).lsio = s.lsio := by dsimp only [State.answer]

/-! `fresh` changes `free` alone. -/

@[simp] theorem State.fresh_pending (s : State) : (s.fresh).pending = s.pending := by dsimp only [State.fresh]
@[simp] theorem State.fresh_resp (s : State) : (s.fresh).resp = s.resp := by dsimp only [State.fresh]
@[simp] theorem State.fresh_regs (s : State) : (s.fresh).regs = s.regs := by dsimp only [State.fresh]
@[simp] theorem State.fresh_mem (s : State) : (s.fresh).mem = s.mem := by dsimp only [State.fresh]
@[simp] theorem State.fresh_cyc (s : State) : (s.fresh).cyc = s.cyc := by dsimp only [State.fresh]
@[simp] theorem State.fresh_devOff (s : State) : (s.fresh).devOff = s.devOff := by dsimp only [State.fresh]
@[simp] theorem State.fresh_wld (s : State) : (s.fresh).wld = s.wld := by dsimp only [State.fresh]
@[simp] theorem State.fresh_cp (s : State) : (s.fresh).cp = s.cp := by dsimp only [State.fresh]
@[simp] theorem State.fresh_cl (s : State) : (s.fresh).cl = s.cl := by dsimp only [State.fresh]
@[simp] theorem State.fresh_mc (s : State) : (s.fresh).mc = s.mc := by dsimp only [State.fresh]
@[simp] theorem State.fresh_arb (s : State) : (s.fresh).arb = s.arb := by dsimp only [State.fresh]
@[simp] theorem State.fresh_flt (s : State) : (s.fresh).flt = s.flt := by dsimp only [State.fresh]
@[simp] theorem State.fresh_disp (s : State) : (s.fresh).disp = s.disp := by dsimp only [State.fresh]
@[simp] theorem State.fresh_etch (s : State) : (s.fresh).etch = s.etch := by dsimp only [State.fresh]
@[simp] theorem State.fresh_prf (s : State) : (s.fresh).prf = s.prf := by dsimp only [State.fresh]
@[simp] theorem State.fresh_grv (s : State) : (s.fresh).grv = s.grv := by dsimp only [State.fresh]
@[simp] theorem State.fresh_touch (s : State) : (s.fresh).touch = s.touch := by dsimp only [State.fresh]
@[simp] theorem State.fresh_hap (s : State) : (s.fresh).hap = s.hap := by dsimp only [State.fresh]
@[simp] theorem State.fresh_fol (s : State) : (s.fresh).fol = s.fol := by dsimp only [State.fresh]
@[simp] theorem State.fresh_aud (s : State) : (s.fresh).aud = s.aud := by dsimp only [State.fresh]
@[simp] theorem State.fresh_fw (s : State) : (s.fresh).fw = s.fw := by dsimp only [State.fresh]
@[simp] theorem State.fresh_pwr (s : State) : (s.fresh).pwr = s.pwr := by dsimp only [State.fresh]
@[simp] theorem State.fresh_dziv (s : State) : (s.fresh).dziv = s.dziv := by dsimp only [State.fresh]
@[simp] theorem State.fresh_lsio (s : State) : (s.fresh).lsio = s.lsio := by dsimp only [State.fresh]

/-! `putBytes` changes `mem` alone. -/

@[simp] theorem State.putBytes_pending (s : State) (a : Nat) (l : List Byte) : (s.putBytes a l).pending = s.pending := by dsimp only [State.putBytes]
@[simp] theorem State.putBytes_resp (s : State) (a : Nat) (l : List Byte) : (s.putBytes a l).resp = s.resp := by dsimp only [State.putBytes]
@[simp] theorem State.putBytes_regs (s : State) (a : Nat) (l : List Byte) : (s.putBytes a l).regs = s.regs := by dsimp only [State.putBytes]
@[simp] theorem State.putBytes_cyc (s : State) (a : Nat) (l : List Byte) : (s.putBytes a l).cyc = s.cyc := by dsimp only [State.putBytes]
@[simp] theorem State.putBytes_devOff (s : State) (a : Nat) (l : List Byte) : (s.putBytes a l).devOff = s.devOff := by dsimp only [State.putBytes]
@[simp] theorem State.putBytes_free (s : State) (a : Nat) (l : List Byte) : (s.putBytes a l).free = s.free := by dsimp only [State.putBytes]
@[simp] theorem State.putBytes_wld (s : State) (a : Nat) (l : List Byte) : (s.putBytes a l).wld = s.wld := by dsimp only [State.putBytes]
@[simp] theorem State.putBytes_cp (s : State) (a : Nat) (l : List Byte) : (s.putBytes a l).cp = s.cp := by dsimp only [State.putBytes]
@[simp] theorem State.putBytes_cl (s : State) (a : Nat) (l : List Byte) : (s.putBytes a l).cl = s.cl := by dsimp only [State.putBytes]
@[simp] theorem State.putBytes_mc (s : State) (a : Nat) (l : List Byte) : (s.putBytes a l).mc = s.mc := by dsimp only [State.putBytes]
@[simp] theorem State.putBytes_arb (s : State) (a : Nat) (l : List Byte) : (s.putBytes a l).arb = s.arb := by dsimp only [State.putBytes]
@[simp] theorem State.putBytes_flt (s : State) (a : Nat) (l : List Byte) : (s.putBytes a l).flt = s.flt := by dsimp only [State.putBytes]
@[simp] theorem State.putBytes_disp (s : State) (a : Nat) (l : List Byte) : (s.putBytes a l).disp = s.disp := by dsimp only [State.putBytes]
@[simp] theorem State.putBytes_etch (s : State) (a : Nat) (l : List Byte) : (s.putBytes a l).etch = s.etch := by dsimp only [State.putBytes]
@[simp] theorem State.putBytes_prf (s : State) (a : Nat) (l : List Byte) : (s.putBytes a l).prf = s.prf := by dsimp only [State.putBytes]
@[simp] theorem State.putBytes_grv (s : State) (a : Nat) (l : List Byte) : (s.putBytes a l).grv = s.grv := by dsimp only [State.putBytes]
@[simp] theorem State.putBytes_touch (s : State) (a : Nat) (l : List Byte) : (s.putBytes a l).touch = s.touch := by dsimp only [State.putBytes]
@[simp] theorem State.putBytes_hap (s : State) (a : Nat) (l : List Byte) : (s.putBytes a l).hap = s.hap := by dsimp only [State.putBytes]
@[simp] theorem State.putBytes_fol (s : State) (a : Nat) (l : List Byte) : (s.putBytes a l).fol = s.fol := by dsimp only [State.putBytes]
@[simp] theorem State.putBytes_aud (s : State) (a : Nat) (l : List Byte) : (s.putBytes a l).aud = s.aud := by dsimp only [State.putBytes]
@[simp] theorem State.putBytes_fw (s : State) (a : Nat) (l : List Byte) : (s.putBytes a l).fw = s.fw := by dsimp only [State.putBytes]
@[simp] theorem State.putBytes_pwr (s : State) (a : Nat) (l : List Byte) : (s.putBytes a l).pwr = s.pwr := by dsimp only [State.putBytes]
@[simp] theorem State.putBytes_dziv (s : State) (a : Nat) (l : List Byte) : (s.putBytes a l).dziv = s.dziv := by dsimp only [State.putBytes]
@[simp] theorem State.putBytes_lsio (s : State) (a : Nat) (l : List Byte) : (s.putBytes a l).lsio = s.lsio := by dsimp only [State.putBytes]

/-! `raise` changes `wld` alone. -/

@[simp] theorem State.raise_pending (s : State) (n : Nat) : (s.raise n).pending = s.pending := by dsimp only [State.raise]
@[simp] theorem State.raise_resp (s : State) (n : Nat) : (s.raise n).resp = s.resp := by dsimp only [State.raise]
@[simp] theorem State.raise_regs (s : State) (n : Nat) : (s.raise n).regs = s.regs := by dsimp only [State.raise]
@[simp] theorem State.raise_mem (s : State) (n : Nat) : (s.raise n).mem = s.mem := by dsimp only [State.raise]
@[simp] theorem State.raise_cyc (s : State) (n : Nat) : (s.raise n).cyc = s.cyc := by dsimp only [State.raise]
@[simp] theorem State.raise_devOff (s : State) (n : Nat) : (s.raise n).devOff = s.devOff := by dsimp only [State.raise]
@[simp] theorem State.raise_free (s : State) (n : Nat) : (s.raise n).free = s.free := by dsimp only [State.raise]
@[simp] theorem State.raise_cp (s : State) (n : Nat) : (s.raise n).cp = s.cp := by dsimp only [State.raise]
@[simp] theorem State.raise_cl (s : State) (n : Nat) : (s.raise n).cl = s.cl := by dsimp only [State.raise]
@[simp] theorem State.raise_mc (s : State) (n : Nat) : (s.raise n).mc = s.mc := by dsimp only [State.raise]
@[simp] theorem State.raise_arb (s : State) (n : Nat) : (s.raise n).arb = s.arb := by dsimp only [State.raise]
@[simp] theorem State.raise_flt (s : State) (n : Nat) : (s.raise n).flt = s.flt := by dsimp only [State.raise]
@[simp] theorem State.raise_disp (s : State) (n : Nat) : (s.raise n).disp = s.disp := by dsimp only [State.raise]
@[simp] theorem State.raise_etch (s : State) (n : Nat) : (s.raise n).etch = s.etch := by dsimp only [State.raise]
@[simp] theorem State.raise_prf (s : State) (n : Nat) : (s.raise n).prf = s.prf := by dsimp only [State.raise]
@[simp] theorem State.raise_grv (s : State) (n : Nat) : (s.raise n).grv = s.grv := by dsimp only [State.raise]
@[simp] theorem State.raise_touch (s : State) (n : Nat) : (s.raise n).touch = s.touch := by dsimp only [State.raise]
@[simp] theorem State.raise_hap (s : State) (n : Nat) : (s.raise n).hap = s.hap := by dsimp only [State.raise]
@[simp] theorem State.raise_fol (s : State) (n : Nat) : (s.raise n).fol = s.fol := by dsimp only [State.raise]
@[simp] theorem State.raise_aud (s : State) (n : Nat) : (s.raise n).aud = s.aud := by dsimp only [State.raise]
@[simp] theorem State.raise_fw (s : State) (n : Nat) : (s.raise n).fw = s.fw := by dsimp only [State.raise]
@[simp] theorem State.raise_pwr (s : State) (n : Nat) : (s.raise n).pwr = s.pwr := by dsimp only [State.raise]
@[simp] theorem State.raise_dziv (s : State) (n : Nat) : (s.raise n).dziv = s.dziv := by dsimp only [State.raise]
@[simp] theorem State.raise_lsio (s : State) (n : Nat) : (s.raise n).lsio = s.lsio := by dsimp only [State.raise]

/-! `clearSrc` changes `wld` alone. -/

@[simp] theorem State.clearSrc_pending (s : State) (n : Nat) : (s.clearSrc n).pending = s.pending := by dsimp only [State.clearSrc]
@[simp] theorem State.clearSrc_resp (s : State) (n : Nat) : (s.clearSrc n).resp = s.resp := by dsimp only [State.clearSrc]
@[simp] theorem State.clearSrc_regs (s : State) (n : Nat) : (s.clearSrc n).regs = s.regs := by dsimp only [State.clearSrc]
@[simp] theorem State.clearSrc_mem (s : State) (n : Nat) : (s.clearSrc n).mem = s.mem := by dsimp only [State.clearSrc]
@[simp] theorem State.clearSrc_cyc (s : State) (n : Nat) : (s.clearSrc n).cyc = s.cyc := by dsimp only [State.clearSrc]
@[simp] theorem State.clearSrc_devOff (s : State) (n : Nat) : (s.clearSrc n).devOff = s.devOff := by dsimp only [State.clearSrc]
@[simp] theorem State.clearSrc_free (s : State) (n : Nat) : (s.clearSrc n).free = s.free := by dsimp only [State.clearSrc]
@[simp] theorem State.clearSrc_cp (s : State) (n : Nat) : (s.clearSrc n).cp = s.cp := by dsimp only [State.clearSrc]
@[simp] theorem State.clearSrc_cl (s : State) (n : Nat) : (s.clearSrc n).cl = s.cl := by dsimp only [State.clearSrc]
@[simp] theorem State.clearSrc_mc (s : State) (n : Nat) : (s.clearSrc n).mc = s.mc := by dsimp only [State.clearSrc]
@[simp] theorem State.clearSrc_arb (s : State) (n : Nat) : (s.clearSrc n).arb = s.arb := by dsimp only [State.clearSrc]
@[simp] theorem State.clearSrc_flt (s : State) (n : Nat) : (s.clearSrc n).flt = s.flt := by dsimp only [State.clearSrc]
@[simp] theorem State.clearSrc_disp (s : State) (n : Nat) : (s.clearSrc n).disp = s.disp := by dsimp only [State.clearSrc]
@[simp] theorem State.clearSrc_etch (s : State) (n : Nat) : (s.clearSrc n).etch = s.etch := by dsimp only [State.clearSrc]
@[simp] theorem State.clearSrc_prf (s : State) (n : Nat) : (s.clearSrc n).prf = s.prf := by dsimp only [State.clearSrc]
@[simp] theorem State.clearSrc_grv (s : State) (n : Nat) : (s.clearSrc n).grv = s.grv := by dsimp only [State.clearSrc]
@[simp] theorem State.clearSrc_touch (s : State) (n : Nat) : (s.clearSrc n).touch = s.touch := by dsimp only [State.clearSrc]
@[simp] theorem State.clearSrc_hap (s : State) (n : Nat) : (s.clearSrc n).hap = s.hap := by dsimp only [State.clearSrc]
@[simp] theorem State.clearSrc_fol (s : State) (n : Nat) : (s.clearSrc n).fol = s.fol := by dsimp only [State.clearSrc]
@[simp] theorem State.clearSrc_aud (s : State) (n : Nat) : (s.clearSrc n).aud = s.aud := by dsimp only [State.clearSrc]
@[simp] theorem State.clearSrc_fw (s : State) (n : Nat) : (s.clearSrc n).fw = s.fw := by dsimp only [State.clearSrc]
@[simp] theorem State.clearSrc_pwr (s : State) (n : Nat) : (s.clearSrc n).pwr = s.pwr := by dsimp only [State.clearSrc]
@[simp] theorem State.clearSrc_dziv (s : State) (n : Nat) : (s.clearSrc n).dziv = s.dziv := by dsimp only [State.clearSrc]
@[simp] theorem State.clearSrc_lsio (s : State) (n : Nat) : (s.clearSrc n).lsio = s.lsio := by dsimp only [State.clearSrc]

/-! `setPlace` changes `cp` alone. -/

@[simp] theorem State.setPlace_pending (s : State) (k : Nat) (p : Option Started) : (s.setPlace k p).pending = s.pending := by dsimp only [State.setPlace]
@[simp] theorem State.setPlace_resp (s : State) (k : Nat) (p : Option Started) : (s.setPlace k p).resp = s.resp := by dsimp only [State.setPlace]
@[simp] theorem State.setPlace_regs (s : State) (k : Nat) (p : Option Started) : (s.setPlace k p).regs = s.regs := by dsimp only [State.setPlace]
@[simp] theorem State.setPlace_mem (s : State) (k : Nat) (p : Option Started) : (s.setPlace k p).mem = s.mem := by dsimp only [State.setPlace]
@[simp] theorem State.setPlace_cyc (s : State) (k : Nat) (p : Option Started) : (s.setPlace k p).cyc = s.cyc := by dsimp only [State.setPlace]
@[simp] theorem State.setPlace_devOff (s : State) (k : Nat) (p : Option Started) : (s.setPlace k p).devOff = s.devOff := by dsimp only [State.setPlace]
@[simp] theorem State.setPlace_free (s : State) (k : Nat) (p : Option Started) : (s.setPlace k p).free = s.free := by dsimp only [State.setPlace]
@[simp] theorem State.setPlace_wld (s : State) (k : Nat) (p : Option Started) : (s.setPlace k p).wld = s.wld := by dsimp only [State.setPlace]
@[simp] theorem State.setPlace_cl (s : State) (k : Nat) (p : Option Started) : (s.setPlace k p).cl = s.cl := by dsimp only [State.setPlace]
@[simp] theorem State.setPlace_mc (s : State) (k : Nat) (p : Option Started) : (s.setPlace k p).mc = s.mc := by dsimp only [State.setPlace]
@[simp] theorem State.setPlace_arb (s : State) (k : Nat) (p : Option Started) : (s.setPlace k p).arb = s.arb := by dsimp only [State.setPlace]
@[simp] theorem State.setPlace_flt (s : State) (k : Nat) (p : Option Started) : (s.setPlace k p).flt = s.flt := by dsimp only [State.setPlace]
@[simp] theorem State.setPlace_disp (s : State) (k : Nat) (p : Option Started) : (s.setPlace k p).disp = s.disp := by dsimp only [State.setPlace]
@[simp] theorem State.setPlace_etch (s : State) (k : Nat) (p : Option Started) : (s.setPlace k p).etch = s.etch := by dsimp only [State.setPlace]
@[simp] theorem State.setPlace_prf (s : State) (k : Nat) (p : Option Started) : (s.setPlace k p).prf = s.prf := by dsimp only [State.setPlace]
@[simp] theorem State.setPlace_grv (s : State) (k : Nat) (p : Option Started) : (s.setPlace k p).grv = s.grv := by dsimp only [State.setPlace]
@[simp] theorem State.setPlace_touch (s : State) (k : Nat) (p : Option Started) : (s.setPlace k p).touch = s.touch := by dsimp only [State.setPlace]
@[simp] theorem State.setPlace_hap (s : State) (k : Nat) (p : Option Started) : (s.setPlace k p).hap = s.hap := by dsimp only [State.setPlace]
@[simp] theorem State.setPlace_fol (s : State) (k : Nat) (p : Option Started) : (s.setPlace k p).fol = s.fol := by dsimp only [State.setPlace]
@[simp] theorem State.setPlace_aud (s : State) (k : Nat) (p : Option Started) : (s.setPlace k p).aud = s.aud := by dsimp only [State.setPlace]
@[simp] theorem State.setPlace_fw (s : State) (k : Nat) (p : Option Started) : (s.setPlace k p).fw = s.fw := by dsimp only [State.setPlace]
@[simp] theorem State.setPlace_pwr (s : State) (k : Nat) (p : Option Started) : (s.setPlace k p).pwr = s.pwr := by dsimp only [State.setPlace]
@[simp] theorem State.setPlace_dziv (s : State) (k : Nat) (p : Option Started) : (s.setPlace k p).dziv = s.dziv := by dsimp only [State.setPlace]
@[simp] theorem State.setPlace_lsio (s : State) (k : Nat) (p : Option Started) : (s.setPlace k p).lsio = s.lsio := by dsimp only [State.setPlace]

/-! `setRing` changes `cp` alone. -/

@[simp] theorem State.setRing_pending (s : State) (r : RingId) (x : RingSet) : (s.setRing r x).pending = s.pending := by dsimp only [State.setRing]
@[simp] theorem State.setRing_resp (s : State) (r : RingId) (x : RingSet) : (s.setRing r x).resp = s.resp := by dsimp only [State.setRing]
@[simp] theorem State.setRing_regs (s : State) (r : RingId) (x : RingSet) : (s.setRing r x).regs = s.regs := by dsimp only [State.setRing]
@[simp] theorem State.setRing_mem (s : State) (r : RingId) (x : RingSet) : (s.setRing r x).mem = s.mem := by dsimp only [State.setRing]
@[simp] theorem State.setRing_cyc (s : State) (r : RingId) (x : RingSet) : (s.setRing r x).cyc = s.cyc := by dsimp only [State.setRing]
@[simp] theorem State.setRing_devOff (s : State) (r : RingId) (x : RingSet) : (s.setRing r x).devOff = s.devOff := by dsimp only [State.setRing]
@[simp] theorem State.setRing_free (s : State) (r : RingId) (x : RingSet) : (s.setRing r x).free = s.free := by dsimp only [State.setRing]
@[simp] theorem State.setRing_wld (s : State) (r : RingId) (x : RingSet) : (s.setRing r x).wld = s.wld := by dsimp only [State.setRing]
@[simp] theorem State.setRing_cl (s : State) (r : RingId) (x : RingSet) : (s.setRing r x).cl = s.cl := by dsimp only [State.setRing]
@[simp] theorem State.setRing_mc (s : State) (r : RingId) (x : RingSet) : (s.setRing r x).mc = s.mc := by dsimp only [State.setRing]
@[simp] theorem State.setRing_arb (s : State) (r : RingId) (x : RingSet) : (s.setRing r x).arb = s.arb := by dsimp only [State.setRing]
@[simp] theorem State.setRing_flt (s : State) (r : RingId) (x : RingSet) : (s.setRing r x).flt = s.flt := by dsimp only [State.setRing]
@[simp] theorem State.setRing_disp (s : State) (r : RingId) (x : RingSet) : (s.setRing r x).disp = s.disp := by dsimp only [State.setRing]
@[simp] theorem State.setRing_etch (s : State) (r : RingId) (x : RingSet) : (s.setRing r x).etch = s.etch := by dsimp only [State.setRing]
@[simp] theorem State.setRing_prf (s : State) (r : RingId) (x : RingSet) : (s.setRing r x).prf = s.prf := by dsimp only [State.setRing]
@[simp] theorem State.setRing_grv (s : State) (r : RingId) (x : RingSet) : (s.setRing r x).grv = s.grv := by dsimp only [State.setRing]
@[simp] theorem State.setRing_touch (s : State) (r : RingId) (x : RingSet) : (s.setRing r x).touch = s.touch := by dsimp only [State.setRing]
@[simp] theorem State.setRing_hap (s : State) (r : RingId) (x : RingSet) : (s.setRing r x).hap = s.hap := by dsimp only [State.setRing]
@[simp] theorem State.setRing_fol (s : State) (r : RingId) (x : RingSet) : (s.setRing r x).fol = s.fol := by dsimp only [State.setRing]
@[simp] theorem State.setRing_aud (s : State) (r : RingId) (x : RingSet) : (s.setRing r x).aud = s.aud := by dsimp only [State.setRing]
@[simp] theorem State.setRing_fw (s : State) (r : RingId) (x : RingSet) : (s.setRing r x).fw = s.fw := by dsimp only [State.setRing]
@[simp] theorem State.setRing_pwr (s : State) (r : RingId) (x : RingSet) : (s.setRing r x).pwr = s.pwr := by dsimp only [State.setRing]
@[simp] theorem State.setRing_dziv (s : State) (r : RingId) (x : RingSet) : (s.setRing r x).dziv = s.dziv := by dsimp only [State.setRing]
@[simp] theorem State.setRing_lsio (s : State) (r : RingId) (x : RingSet) : (s.setRing r x).lsio = s.lsio := by dsimp only [State.setRing]

/-! `makeResident` changes `cp` alone. -/

@[simp] theorem State.makeResident_pending (s : State) (n : Nat) : (s.makeResident n).pending = s.pending := by dsimp only [State.makeResident]
@[simp] theorem State.makeResident_resp (s : State) (n : Nat) : (s.makeResident n).resp = s.resp := by dsimp only [State.makeResident]
@[simp] theorem State.makeResident_regs (s : State) (n : Nat) : (s.makeResident n).regs = s.regs := by dsimp only [State.makeResident]
@[simp] theorem State.makeResident_mem (s : State) (n : Nat) : (s.makeResident n).mem = s.mem := by dsimp only [State.makeResident]
@[simp] theorem State.makeResident_cyc (s : State) (n : Nat) : (s.makeResident n).cyc = s.cyc := by dsimp only [State.makeResident]
@[simp] theorem State.makeResident_devOff (s : State) (n : Nat) : (s.makeResident n).devOff = s.devOff := by dsimp only [State.makeResident]
@[simp] theorem State.makeResident_free (s : State) (n : Nat) : (s.makeResident n).free = s.free := by dsimp only [State.makeResident]
@[simp] theorem State.makeResident_wld (s : State) (n : Nat) : (s.makeResident n).wld = s.wld := by dsimp only [State.makeResident]
@[simp] theorem State.makeResident_cl (s : State) (n : Nat) : (s.makeResident n).cl = s.cl := by dsimp only [State.makeResident]
@[simp] theorem State.makeResident_mc (s : State) (n : Nat) : (s.makeResident n).mc = s.mc := by dsimp only [State.makeResident]
@[simp] theorem State.makeResident_arb (s : State) (n : Nat) : (s.makeResident n).arb = s.arb := by dsimp only [State.makeResident]
@[simp] theorem State.makeResident_flt (s : State) (n : Nat) : (s.makeResident n).flt = s.flt := by dsimp only [State.makeResident]
@[simp] theorem State.makeResident_disp (s : State) (n : Nat) : (s.makeResident n).disp = s.disp := by dsimp only [State.makeResident]
@[simp] theorem State.makeResident_etch (s : State) (n : Nat) : (s.makeResident n).etch = s.etch := by dsimp only [State.makeResident]
@[simp] theorem State.makeResident_prf (s : State) (n : Nat) : (s.makeResident n).prf = s.prf := by dsimp only [State.makeResident]
@[simp] theorem State.makeResident_grv (s : State) (n : Nat) : (s.makeResident n).grv = s.grv := by dsimp only [State.makeResident]
@[simp] theorem State.makeResident_touch (s : State) (n : Nat) : (s.makeResident n).touch = s.touch := by dsimp only [State.makeResident]
@[simp] theorem State.makeResident_hap (s : State) (n : Nat) : (s.makeResident n).hap = s.hap := by dsimp only [State.makeResident]
@[simp] theorem State.makeResident_fol (s : State) (n : Nat) : (s.makeResident n).fol = s.fol := by dsimp only [State.makeResident]
@[simp] theorem State.makeResident_aud (s : State) (n : Nat) : (s.makeResident n).aud = s.aud := by dsimp only [State.makeResident]
@[simp] theorem State.makeResident_fw (s : State) (n : Nat) : (s.makeResident n).fw = s.fw := by dsimp only [State.makeResident]
@[simp] theorem State.makeResident_pwr (s : State) (n : Nat) : (s.makeResident n).pwr = s.pwr := by dsimp only [State.makeResident]
@[simp] theorem State.makeResident_dziv (s : State) (n : Nat) : (s.makeResident n).dziv = s.dziv := by dsimp only [State.makeResident]
@[simp] theorem State.makeResident_lsio (s : State) (n : Nat) : (s.makeResident n).lsio = s.lsio := by dsimp only [State.makeResident]

/-! `evict` changes `cp` alone. -/

@[simp] theorem State.evict_pending (s : State) (n : Nat) : (s.evict n).pending = s.pending := by dsimp only [State.evict]
@[simp] theorem State.evict_resp (s : State) (n : Nat) : (s.evict n).resp = s.resp := by dsimp only [State.evict]
@[simp] theorem State.evict_regs (s : State) (n : Nat) : (s.evict n).regs = s.regs := by dsimp only [State.evict]
@[simp] theorem State.evict_mem (s : State) (n : Nat) : (s.evict n).mem = s.mem := by dsimp only [State.evict]
@[simp] theorem State.evict_cyc (s : State) (n : Nat) : (s.evict n).cyc = s.cyc := by dsimp only [State.evict]
@[simp] theorem State.evict_devOff (s : State) (n : Nat) : (s.evict n).devOff = s.devOff := by dsimp only [State.evict]
@[simp] theorem State.evict_free (s : State) (n : Nat) : (s.evict n).free = s.free := by dsimp only [State.evict]
@[simp] theorem State.evict_wld (s : State) (n : Nat) : (s.evict n).wld = s.wld := by dsimp only [State.evict]
@[simp] theorem State.evict_cl (s : State) (n : Nat) : (s.evict n).cl = s.cl := by dsimp only [State.evict]
@[simp] theorem State.evict_mc (s : State) (n : Nat) : (s.evict n).mc = s.mc := by dsimp only [State.evict]
@[simp] theorem State.evict_arb (s : State) (n : Nat) : (s.evict n).arb = s.arb := by dsimp only [State.evict]
@[simp] theorem State.evict_flt (s : State) (n : Nat) : (s.evict n).flt = s.flt := by dsimp only [State.evict]
@[simp] theorem State.evict_disp (s : State) (n : Nat) : (s.evict n).disp = s.disp := by dsimp only [State.evict]
@[simp] theorem State.evict_etch (s : State) (n : Nat) : (s.evict n).etch = s.etch := by dsimp only [State.evict]
@[simp] theorem State.evict_prf (s : State) (n : Nat) : (s.evict n).prf = s.prf := by dsimp only [State.evict]
@[simp] theorem State.evict_grv (s : State) (n : Nat) : (s.evict n).grv = s.grv := by dsimp only [State.evict]
@[simp] theorem State.evict_touch (s : State) (n : Nat) : (s.evict n).touch = s.touch := by dsimp only [State.evict]
@[simp] theorem State.evict_hap (s : State) (n : Nat) : (s.evict n).hap = s.hap := by dsimp only [State.evict]
@[simp] theorem State.evict_fol (s : State) (n : Nat) : (s.evict n).fol = s.fol := by dsimp only [State.evict]
@[simp] theorem State.evict_aud (s : State) (n : Nat) : (s.evict n).aud = s.aud := by dsimp only [State.evict]
@[simp] theorem State.evict_fw (s : State) (n : Nat) : (s.evict n).fw = s.fw := by dsimp only [State.evict]
@[simp] theorem State.evict_pwr (s : State) (n : Nat) : (s.evict n).pwr = s.pwr := by dsimp only [State.evict]
@[simp] theorem State.evict_dziv (s : State) (n : Nat) : (s.evict n).dziv = s.dziv := by dsimp only [State.evict]
@[simp] theorem State.evict_lsio (s : State) (n : Nat) : (s.evict n).lsio = s.lsio := by dsimp only [State.evict]

/-! `setClient` changes `cl` alone. -/

@[simp] theorem State.setClient_pending (s : State) (n : Nat) (c : Client) : (s.setClient n c).pending = s.pending := by dsimp only [State.setClient]
@[simp] theorem State.setClient_resp (s : State) (n : Nat) (c : Client) : (s.setClient n c).resp = s.resp := by dsimp only [State.setClient]
@[simp] theorem State.setClient_regs (s : State) (n : Nat) (c : Client) : (s.setClient n c).regs = s.regs := by dsimp only [State.setClient]
@[simp] theorem State.setClient_mem (s : State) (n : Nat) (c : Client) : (s.setClient n c).mem = s.mem := by dsimp only [State.setClient]
@[simp] theorem State.setClient_cyc (s : State) (n : Nat) (c : Client) : (s.setClient n c).cyc = s.cyc := by dsimp only [State.setClient]
@[simp] theorem State.setClient_devOff (s : State) (n : Nat) (c : Client) : (s.setClient n c).devOff = s.devOff := by dsimp only [State.setClient]
@[simp] theorem State.setClient_free (s : State) (n : Nat) (c : Client) : (s.setClient n c).free = s.free := by dsimp only [State.setClient]
@[simp] theorem State.setClient_wld (s : State) (n : Nat) (c : Client) : (s.setClient n c).wld = s.wld := by dsimp only [State.setClient]
@[simp] theorem State.setClient_cp (s : State) (n : Nat) (c : Client) : (s.setClient n c).cp = s.cp := by dsimp only [State.setClient]
@[simp] theorem State.setClient_mc (s : State) (n : Nat) (c : Client) : (s.setClient n c).mc = s.mc := by dsimp only [State.setClient]
@[simp] theorem State.setClient_arb (s : State) (n : Nat) (c : Client) : (s.setClient n c).arb = s.arb := by dsimp only [State.setClient]
@[simp] theorem State.setClient_flt (s : State) (n : Nat) (c : Client) : (s.setClient n c).flt = s.flt := by dsimp only [State.setClient]
@[simp] theorem State.setClient_disp (s : State) (n : Nat) (c : Client) : (s.setClient n c).disp = s.disp := by dsimp only [State.setClient]
@[simp] theorem State.setClient_etch (s : State) (n : Nat) (c : Client) : (s.setClient n c).etch = s.etch := by dsimp only [State.setClient]
@[simp] theorem State.setClient_prf (s : State) (n : Nat) (c : Client) : (s.setClient n c).prf = s.prf := by dsimp only [State.setClient]
@[simp] theorem State.setClient_grv (s : State) (n : Nat) (c : Client) : (s.setClient n c).grv = s.grv := by dsimp only [State.setClient]
@[simp] theorem State.setClient_touch (s : State) (n : Nat) (c : Client) : (s.setClient n c).touch = s.touch := by dsimp only [State.setClient]
@[simp] theorem State.setClient_hap (s : State) (n : Nat) (c : Client) : (s.setClient n c).hap = s.hap := by dsimp only [State.setClient]
@[simp] theorem State.setClient_fol (s : State) (n : Nat) (c : Client) : (s.setClient n c).fol = s.fol := by dsimp only [State.setClient]
@[simp] theorem State.setClient_aud (s : State) (n : Nat) (c : Client) : (s.setClient n c).aud = s.aud := by dsimp only [State.setClient]
@[simp] theorem State.setClient_fw (s : State) (n : Nat) (c : Client) : (s.setClient n c).fw = s.fw := by dsimp only [State.setClient]
@[simp] theorem State.setClient_pwr (s : State) (n : Nat) (c : Client) : (s.setClient n c).pwr = s.pwr := by dsimp only [State.setClient]
@[simp] theorem State.setClient_dziv (s : State) (n : Nat) (c : Client) : (s.setClient n c).dziv = s.dziv := by dsimp only [State.setClient]
@[simp] theorem State.setClient_lsio (s : State) (n : Nat) (c : Client) : (s.setClient n c).lsio = s.lsio := by dsimp only [State.setClient]

/-! `count` changes `fol` alone. -/

@[simp] theorem State.count_pending (s : State) (o n : Nat) : (s.count o n).pending = s.pending := by dsimp only [State.count]
@[simp] theorem State.count_resp (s : State) (o n : Nat) : (s.count o n).resp = s.resp := by dsimp only [State.count]
@[simp] theorem State.count_regs (s : State) (o n : Nat) : (s.count o n).regs = s.regs := by dsimp only [State.count]
@[simp] theorem State.count_mem (s : State) (o n : Nat) : (s.count o n).mem = s.mem := by dsimp only [State.count]
@[simp] theorem State.count_cyc (s : State) (o n : Nat) : (s.count o n).cyc = s.cyc := by dsimp only [State.count]
@[simp] theorem State.count_devOff (s : State) (o n : Nat) : (s.count o n).devOff = s.devOff := by dsimp only [State.count]
@[simp] theorem State.count_free (s : State) (o n : Nat) : (s.count o n).free = s.free := by dsimp only [State.count]
@[simp] theorem State.count_wld (s : State) (o n : Nat) : (s.count o n).wld = s.wld := by dsimp only [State.count]
@[simp] theorem State.count_cp (s : State) (o n : Nat) : (s.count o n).cp = s.cp := by dsimp only [State.count]
@[simp] theorem State.count_cl (s : State) (o n : Nat) : (s.count o n).cl = s.cl := by dsimp only [State.count]
@[simp] theorem State.count_mc (s : State) (o n : Nat) : (s.count o n).mc = s.mc := by dsimp only [State.count]
@[simp] theorem State.count_arb (s : State) (o n : Nat) : (s.count o n).arb = s.arb := by dsimp only [State.count]
@[simp] theorem State.count_flt (s : State) (o n : Nat) : (s.count o n).flt = s.flt := by dsimp only [State.count]
@[simp] theorem State.count_disp (s : State) (o n : Nat) : (s.count o n).disp = s.disp := by dsimp only [State.count]
@[simp] theorem State.count_etch (s : State) (o n : Nat) : (s.count o n).etch = s.etch := by dsimp only [State.count]
@[simp] theorem State.count_prf (s : State) (o n : Nat) : (s.count o n).prf = s.prf := by dsimp only [State.count]
@[simp] theorem State.count_grv (s : State) (o n : Nat) : (s.count o n).grv = s.grv := by dsimp only [State.count]
@[simp] theorem State.count_touch (s : State) (o n : Nat) : (s.count o n).touch = s.touch := by dsimp only [State.count]
@[simp] theorem State.count_hap (s : State) (o n : Nat) : (s.count o n).hap = s.hap := by dsimp only [State.count]
@[simp] theorem State.count_aud (s : State) (o n : Nat) : (s.count o n).aud = s.aud := by dsimp only [State.count]
@[simp] theorem State.count_fw (s : State) (o n : Nat) : (s.count o n).fw = s.fw := by dsimp only [State.count]
@[simp] theorem State.count_pwr (s : State) (o n : Nat) : (s.count o n).pwr = s.pwr := by dsimp only [State.count]
@[simp] theorem State.count_dziv (s : State) (o n : Nat) : (s.count o n).dziv = s.dziv := by dsimp only [State.count]
@[simp] theorem State.count_lsio (s : State) (o n : Nat) : (s.count o n).lsio = s.lsio := by dsimp only [State.count]

/-! `setMcQueue` changes `mc` alone. -/

@[simp] theorem State.setMcQueue_pending (s : State) (c : Nat) (q : List Queued) : (s.setMcQueue c q).pending = s.pending := by dsimp only [State.setMcQueue]
@[simp] theorem State.setMcQueue_resp (s : State) (c : Nat) (q : List Queued) : (s.setMcQueue c q).resp = s.resp := by dsimp only [State.setMcQueue]
@[simp] theorem State.setMcQueue_regs (s : State) (c : Nat) (q : List Queued) : (s.setMcQueue c q).regs = s.regs := by dsimp only [State.setMcQueue]
@[simp] theorem State.setMcQueue_mem (s : State) (c : Nat) (q : List Queued) : (s.setMcQueue c q).mem = s.mem := by dsimp only [State.setMcQueue]
@[simp] theorem State.setMcQueue_cyc (s : State) (c : Nat) (q : List Queued) : (s.setMcQueue c q).cyc = s.cyc := by dsimp only [State.setMcQueue]
@[simp] theorem State.setMcQueue_devOff (s : State) (c : Nat) (q : List Queued) : (s.setMcQueue c q).devOff = s.devOff := by dsimp only [State.setMcQueue]
@[simp] theorem State.setMcQueue_free (s : State) (c : Nat) (q : List Queued) : (s.setMcQueue c q).free = s.free := by dsimp only [State.setMcQueue]
@[simp] theorem State.setMcQueue_wld (s : State) (c : Nat) (q : List Queued) : (s.setMcQueue c q).wld = s.wld := by dsimp only [State.setMcQueue]
@[simp] theorem State.setMcQueue_cp (s : State) (c : Nat) (q : List Queued) : (s.setMcQueue c q).cp = s.cp := by dsimp only [State.setMcQueue]
@[simp] theorem State.setMcQueue_cl (s : State) (c : Nat) (q : List Queued) : (s.setMcQueue c q).cl = s.cl := by dsimp only [State.setMcQueue]
@[simp] theorem State.setMcQueue_arb (s : State) (c : Nat) (q : List Queued) : (s.setMcQueue c q).arb = s.arb := by dsimp only [State.setMcQueue]
@[simp] theorem State.setMcQueue_flt (s : State) (c : Nat) (q : List Queued) : (s.setMcQueue c q).flt = s.flt := by dsimp only [State.setMcQueue]
@[simp] theorem State.setMcQueue_disp (s : State) (c : Nat) (q : List Queued) : (s.setMcQueue c q).disp = s.disp := by dsimp only [State.setMcQueue]
@[simp] theorem State.setMcQueue_etch (s : State) (c : Nat) (q : List Queued) : (s.setMcQueue c q).etch = s.etch := by dsimp only [State.setMcQueue]
@[simp] theorem State.setMcQueue_prf (s : State) (c : Nat) (q : List Queued) : (s.setMcQueue c q).prf = s.prf := by dsimp only [State.setMcQueue]
@[simp] theorem State.setMcQueue_grv (s : State) (c : Nat) (q : List Queued) : (s.setMcQueue c q).grv = s.grv := by dsimp only [State.setMcQueue]
@[simp] theorem State.setMcQueue_touch (s : State) (c : Nat) (q : List Queued) : (s.setMcQueue c q).touch = s.touch := by dsimp only [State.setMcQueue]
@[simp] theorem State.setMcQueue_hap (s : State) (c : Nat) (q : List Queued) : (s.setMcQueue c q).hap = s.hap := by dsimp only [State.setMcQueue]
@[simp] theorem State.setMcQueue_fol (s : State) (c : Nat) (q : List Queued) : (s.setMcQueue c q).fol = s.fol := by dsimp only [State.setMcQueue]
@[simp] theorem State.setMcQueue_aud (s : State) (c : Nat) (q : List Queued) : (s.setMcQueue c q).aud = s.aud := by dsimp only [State.setMcQueue]
@[simp] theorem State.setMcQueue_fw (s : State) (c : Nat) (q : List Queued) : (s.setMcQueue c q).fw = s.fw := by dsimp only [State.setMcQueue]
@[simp] theorem State.setMcQueue_pwr (s : State) (c : Nat) (q : List Queued) : (s.setMcQueue c q).pwr = s.pwr := by dsimp only [State.setMcQueue]
@[simp] theorem State.setMcQueue_dziv (s : State) (c : Nat) (q : List Queued) : (s.setMcQueue c q).dziv = s.dziv := by dsimp only [State.setMcQueue]
@[simp] theorem State.setMcQueue_lsio (s : State) (c : Nat) (q : List Queued) : (s.setMcQueue c q).lsio = s.lsio := by dsimp only [State.setMcQueue]

/-! `setMirror` changes `mc` alone. -/

@[simp] theorem State.setMirror_pending (s : State) (m : Nat) (x : Option Mirror) : (s.setMirror m x).pending = s.pending := by dsimp only [State.setMirror]
@[simp] theorem State.setMirror_resp (s : State) (m : Nat) (x : Option Mirror) : (s.setMirror m x).resp = s.resp := by dsimp only [State.setMirror]
@[simp] theorem State.setMirror_regs (s : State) (m : Nat) (x : Option Mirror) : (s.setMirror m x).regs = s.regs := by dsimp only [State.setMirror]
@[simp] theorem State.setMirror_mem (s : State) (m : Nat) (x : Option Mirror) : (s.setMirror m x).mem = s.mem := by dsimp only [State.setMirror]
@[simp] theorem State.setMirror_cyc (s : State) (m : Nat) (x : Option Mirror) : (s.setMirror m x).cyc = s.cyc := by dsimp only [State.setMirror]
@[simp] theorem State.setMirror_devOff (s : State) (m : Nat) (x : Option Mirror) : (s.setMirror m x).devOff = s.devOff := by dsimp only [State.setMirror]
@[simp] theorem State.setMirror_free (s : State) (m : Nat) (x : Option Mirror) : (s.setMirror m x).free = s.free := by dsimp only [State.setMirror]
@[simp] theorem State.setMirror_wld (s : State) (m : Nat) (x : Option Mirror) : (s.setMirror m x).wld = s.wld := by dsimp only [State.setMirror]
@[simp] theorem State.setMirror_cp (s : State) (m : Nat) (x : Option Mirror) : (s.setMirror m x).cp = s.cp := by dsimp only [State.setMirror]
@[simp] theorem State.setMirror_cl (s : State) (m : Nat) (x : Option Mirror) : (s.setMirror m x).cl = s.cl := by dsimp only [State.setMirror]
@[simp] theorem State.setMirror_arb (s : State) (m : Nat) (x : Option Mirror) : (s.setMirror m x).arb = s.arb := by dsimp only [State.setMirror]
@[simp] theorem State.setMirror_flt (s : State) (m : Nat) (x : Option Mirror) : (s.setMirror m x).flt = s.flt := by dsimp only [State.setMirror]
@[simp] theorem State.setMirror_disp (s : State) (m : Nat) (x : Option Mirror) : (s.setMirror m x).disp = s.disp := by dsimp only [State.setMirror]
@[simp] theorem State.setMirror_etch (s : State) (m : Nat) (x : Option Mirror) : (s.setMirror m x).etch = s.etch := by dsimp only [State.setMirror]
@[simp] theorem State.setMirror_prf (s : State) (m : Nat) (x : Option Mirror) : (s.setMirror m x).prf = s.prf := by dsimp only [State.setMirror]
@[simp] theorem State.setMirror_grv (s : State) (m : Nat) (x : Option Mirror) : (s.setMirror m x).grv = s.grv := by dsimp only [State.setMirror]
@[simp] theorem State.setMirror_touch (s : State) (m : Nat) (x : Option Mirror) : (s.setMirror m x).touch = s.touch := by dsimp only [State.setMirror]
@[simp] theorem State.setMirror_hap (s : State) (m : Nat) (x : Option Mirror) : (s.setMirror m x).hap = s.hap := by dsimp only [State.setMirror]
@[simp] theorem State.setMirror_fol (s : State) (m : Nat) (x : Option Mirror) : (s.setMirror m x).fol = s.fol := by dsimp only [State.setMirror]
@[simp] theorem State.setMirror_aud (s : State) (m : Nat) (x : Option Mirror) : (s.setMirror m x).aud = s.aud := by dsimp only [State.setMirror]
@[simp] theorem State.setMirror_fw (s : State) (m : Nat) (x : Option Mirror) : (s.setMirror m x).fw = s.fw := by dsimp only [State.setMirror]
@[simp] theorem State.setMirror_pwr (s : State) (m : Nat) (x : Option Mirror) : (s.setMirror m x).pwr = s.pwr := by dsimp only [State.setMirror]
@[simp] theorem State.setMirror_dziv (s : State) (m : Nat) (x : Option Mirror) : (s.setMirror m x).dziv = s.dziv := by dsimp only [State.setMirror]
@[simp] theorem State.setMirror_lsio (s : State) (m : Nat) (x : Option Mirror) : (s.setMirror m x).lsio = s.lsio := by dsimp only [State.setMirror]

/-! `setGrant` changes `arb` alone. -/

@[simp] theorem State.setGrant_pending (s : State) (u : Nat) (g : Option Grant) : (s.setGrant u g).pending = s.pending := by dsimp only [State.setGrant]
@[simp] theorem State.setGrant_resp (s : State) (u : Nat) (g : Option Grant) : (s.setGrant u g).resp = s.resp := by dsimp only [State.setGrant]
@[simp] theorem State.setGrant_regs (s : State) (u : Nat) (g : Option Grant) : (s.setGrant u g).regs = s.regs := by dsimp only [State.setGrant]
@[simp] theorem State.setGrant_mem (s : State) (u : Nat) (g : Option Grant) : (s.setGrant u g).mem = s.mem := by dsimp only [State.setGrant]
@[simp] theorem State.setGrant_cyc (s : State) (u : Nat) (g : Option Grant) : (s.setGrant u g).cyc = s.cyc := by dsimp only [State.setGrant]
@[simp] theorem State.setGrant_devOff (s : State) (u : Nat) (g : Option Grant) : (s.setGrant u g).devOff = s.devOff := by dsimp only [State.setGrant]
@[simp] theorem State.setGrant_free (s : State) (u : Nat) (g : Option Grant) : (s.setGrant u g).free = s.free := by dsimp only [State.setGrant]
@[simp] theorem State.setGrant_wld (s : State) (u : Nat) (g : Option Grant) : (s.setGrant u g).wld = s.wld := by dsimp only [State.setGrant]
@[simp] theorem State.setGrant_cp (s : State) (u : Nat) (g : Option Grant) : (s.setGrant u g).cp = s.cp := by dsimp only [State.setGrant]
@[simp] theorem State.setGrant_cl (s : State) (u : Nat) (g : Option Grant) : (s.setGrant u g).cl = s.cl := by dsimp only [State.setGrant]
@[simp] theorem State.setGrant_mc (s : State) (u : Nat) (g : Option Grant) : (s.setGrant u g).mc = s.mc := by dsimp only [State.setGrant]
@[simp] theorem State.setGrant_flt (s : State) (u : Nat) (g : Option Grant) : (s.setGrant u g).flt = s.flt := by dsimp only [State.setGrant]
@[simp] theorem State.setGrant_disp (s : State) (u : Nat) (g : Option Grant) : (s.setGrant u g).disp = s.disp := by dsimp only [State.setGrant]
@[simp] theorem State.setGrant_etch (s : State) (u : Nat) (g : Option Grant) : (s.setGrant u g).etch = s.etch := by dsimp only [State.setGrant]
@[simp] theorem State.setGrant_prf (s : State) (u : Nat) (g : Option Grant) : (s.setGrant u g).prf = s.prf := by dsimp only [State.setGrant]
@[simp] theorem State.setGrant_grv (s : State) (u : Nat) (g : Option Grant) : (s.setGrant u g).grv = s.grv := by dsimp only [State.setGrant]
@[simp] theorem State.setGrant_touch (s : State) (u : Nat) (g : Option Grant) : (s.setGrant u g).touch = s.touch := by dsimp only [State.setGrant]
@[simp] theorem State.setGrant_hap (s : State) (u : Nat) (g : Option Grant) : (s.setGrant u g).hap = s.hap := by dsimp only [State.setGrant]
@[simp] theorem State.setGrant_fol (s : State) (u : Nat) (g : Option Grant) : (s.setGrant u g).fol = s.fol := by dsimp only [State.setGrant]
@[simp] theorem State.setGrant_aud (s : State) (u : Nat) (g : Option Grant) : (s.setGrant u g).aud = s.aud := by dsimp only [State.setGrant]
@[simp] theorem State.setGrant_fw (s : State) (u : Nat) (g : Option Grant) : (s.setGrant u g).fw = s.fw := by dsimp only [State.setGrant]
@[simp] theorem State.setGrant_pwr (s : State) (u : Nat) (g : Option Grant) : (s.setGrant u g).pwr = s.pwr := by dsimp only [State.setGrant]
@[simp] theorem State.setGrant_dziv (s : State) (u : Nat) (g : Option Grant) : (s.setGrant u g).dziv = s.dziv := by dsimp only [State.setGrant]
@[simp] theorem State.setGrant_lsio (s : State) (u : Nat) (g : Option Grant) : (s.setGrant u g).lsio = s.lsio := by dsimp only [State.setGrant]

/-! `setQueue` changes `arb` alone. -/

@[simp] theorem State.setQueue_pending (s : State) (p : Nat) (q o : List Request) : (s.setQueue p q o).pending = s.pending := by dsimp only [State.setQueue]
@[simp] theorem State.setQueue_resp (s : State) (p : Nat) (q o : List Request) : (s.setQueue p q o).resp = s.resp := by dsimp only [State.setQueue]
@[simp] theorem State.setQueue_regs (s : State) (p : Nat) (q o : List Request) : (s.setQueue p q o).regs = s.regs := by dsimp only [State.setQueue]
@[simp] theorem State.setQueue_mem (s : State) (p : Nat) (q o : List Request) : (s.setQueue p q o).mem = s.mem := by dsimp only [State.setQueue]
@[simp] theorem State.setQueue_cyc (s : State) (p : Nat) (q o : List Request) : (s.setQueue p q o).cyc = s.cyc := by dsimp only [State.setQueue]
@[simp] theorem State.setQueue_devOff (s : State) (p : Nat) (q o : List Request) : (s.setQueue p q o).devOff = s.devOff := by dsimp only [State.setQueue]
@[simp] theorem State.setQueue_free (s : State) (p : Nat) (q o : List Request) : (s.setQueue p q o).free = s.free := by dsimp only [State.setQueue]
@[simp] theorem State.setQueue_wld (s : State) (p : Nat) (q o : List Request) : (s.setQueue p q o).wld = s.wld := by dsimp only [State.setQueue]
@[simp] theorem State.setQueue_cp (s : State) (p : Nat) (q o : List Request) : (s.setQueue p q o).cp = s.cp := by dsimp only [State.setQueue]
@[simp] theorem State.setQueue_cl (s : State) (p : Nat) (q o : List Request) : (s.setQueue p q o).cl = s.cl := by dsimp only [State.setQueue]
@[simp] theorem State.setQueue_mc (s : State) (p : Nat) (q o : List Request) : (s.setQueue p q o).mc = s.mc := by dsimp only [State.setQueue]
@[simp] theorem State.setQueue_flt (s : State) (p : Nat) (q o : List Request) : (s.setQueue p q o).flt = s.flt := by dsimp only [State.setQueue]
@[simp] theorem State.setQueue_disp (s : State) (p : Nat) (q o : List Request) : (s.setQueue p q o).disp = s.disp := by dsimp only [State.setQueue]
@[simp] theorem State.setQueue_etch (s : State) (p : Nat) (q o : List Request) : (s.setQueue p q o).etch = s.etch := by dsimp only [State.setQueue]
@[simp] theorem State.setQueue_prf (s : State) (p : Nat) (q o : List Request) : (s.setQueue p q o).prf = s.prf := by dsimp only [State.setQueue]
@[simp] theorem State.setQueue_grv (s : State) (p : Nat) (q o : List Request) : (s.setQueue p q o).grv = s.grv := by dsimp only [State.setQueue]
@[simp] theorem State.setQueue_touch (s : State) (p : Nat) (q o : List Request) : (s.setQueue p q o).touch = s.touch := by dsimp only [State.setQueue]
@[simp] theorem State.setQueue_hap (s : State) (p : Nat) (q o : List Request) : (s.setQueue p q o).hap = s.hap := by dsimp only [State.setQueue]
@[simp] theorem State.setQueue_fol (s : State) (p : Nat) (q o : List Request) : (s.setQueue p q o).fol = s.fol := by dsimp only [State.setQueue]
@[simp] theorem State.setQueue_aud (s : State) (p : Nat) (q o : List Request) : (s.setQueue p q o).aud = s.aud := by dsimp only [State.setQueue]
@[simp] theorem State.setQueue_fw (s : State) (p : Nat) (q o : List Request) : (s.setQueue p q o).fw = s.fw := by dsimp only [State.setQueue]
@[simp] theorem State.setQueue_pwr (s : State) (p : Nat) (q o : List Request) : (s.setQueue p q o).pwr = s.pwr := by dsimp only [State.setQueue]
@[simp] theorem State.setQueue_dziv (s : State) (p : Nat) (q o : List Request) : (s.setQueue p q o).dziv = s.dziv := by dsimp only [State.setQueue]
@[simp] theorem State.setQueue_lsio (s : State) (p : Nat) (q o : List Request) : (s.setQueue p q o).lsio = s.lsio := by dsimp only [State.setQueue]

/-! `setOut` changes `disp` alone. -/

@[simp] theorem State.setOut_pending (s : State) (n : Nat) (o : Output) : (s.setOut n o).pending = s.pending := by dsimp only [State.setOut]
@[simp] theorem State.setOut_resp (s : State) (n : Nat) (o : Output) : (s.setOut n o).resp = s.resp := by dsimp only [State.setOut]
@[simp] theorem State.setOut_regs (s : State) (n : Nat) (o : Output) : (s.setOut n o).regs = s.regs := by dsimp only [State.setOut]
@[simp] theorem State.setOut_mem (s : State) (n : Nat) (o : Output) : (s.setOut n o).mem = s.mem := by dsimp only [State.setOut]
@[simp] theorem State.setOut_cyc (s : State) (n : Nat) (o : Output) : (s.setOut n o).cyc = s.cyc := by dsimp only [State.setOut]
@[simp] theorem State.setOut_devOff (s : State) (n : Nat) (o : Output) : (s.setOut n o).devOff = s.devOff := by dsimp only [State.setOut]
@[simp] theorem State.setOut_free (s : State) (n : Nat) (o : Output) : (s.setOut n o).free = s.free := by dsimp only [State.setOut]
@[simp] theorem State.setOut_wld (s : State) (n : Nat) (o : Output) : (s.setOut n o).wld = s.wld := by dsimp only [State.setOut]
@[simp] theorem State.setOut_cp (s : State) (n : Nat) (o : Output) : (s.setOut n o).cp = s.cp := by dsimp only [State.setOut]
@[simp] theorem State.setOut_cl (s : State) (n : Nat) (o : Output) : (s.setOut n o).cl = s.cl := by dsimp only [State.setOut]
@[simp] theorem State.setOut_mc (s : State) (n : Nat) (o : Output) : (s.setOut n o).mc = s.mc := by dsimp only [State.setOut]
@[simp] theorem State.setOut_arb (s : State) (n : Nat) (o : Output) : (s.setOut n o).arb = s.arb := by dsimp only [State.setOut]
@[simp] theorem State.setOut_flt (s : State) (n : Nat) (o : Output) : (s.setOut n o).flt = s.flt := by dsimp only [State.setOut]
@[simp] theorem State.setOut_etch (s : State) (n : Nat) (o : Output) : (s.setOut n o).etch = s.etch := by dsimp only [State.setOut]
@[simp] theorem State.setOut_prf (s : State) (n : Nat) (o : Output) : (s.setOut n o).prf = s.prf := by dsimp only [State.setOut]
@[simp] theorem State.setOut_grv (s : State) (n : Nat) (o : Output) : (s.setOut n o).grv = s.grv := by dsimp only [State.setOut]
@[simp] theorem State.setOut_touch (s : State) (n : Nat) (o : Output) : (s.setOut n o).touch = s.touch := by dsimp only [State.setOut]
@[simp] theorem State.setOut_hap (s : State) (n : Nat) (o : Output) : (s.setOut n o).hap = s.hap := by dsimp only [State.setOut]
@[simp] theorem State.setOut_fol (s : State) (n : Nat) (o : Output) : (s.setOut n o).fol = s.fol := by dsimp only [State.setOut]
@[simp] theorem State.setOut_aud (s : State) (n : Nat) (o : Output) : (s.setOut n o).aud = s.aud := by dsimp only [State.setOut]
@[simp] theorem State.setOut_fw (s : State) (n : Nat) (o : Output) : (s.setOut n o).fw = s.fw := by dsimp only [State.setOut]
@[simp] theorem State.setOut_pwr (s : State) (n : Nat) (o : Output) : (s.setOut n o).pwr = s.pwr := by dsimp only [State.setOut]
@[simp] theorem State.setOut_dziv (s : State) (n : Nat) (o : Output) : (s.setOut n o).dziv = s.dziv := by dsimp only [State.setOut]
@[simp] theorem State.setOut_lsio (s : State) (n : Nat) (o : Output) : (s.setOut n o).lsio = s.lsio := by dsimp only [State.setOut]

/-! `setSlot` changes `disp` alone. -/

@[simp] theorem State.setSlot_pending (s : State) (l : Nat) (x : SlotSt) : (s.setSlot l x).pending = s.pending := by dsimp only [State.setSlot]
@[simp] theorem State.setSlot_resp (s : State) (l : Nat) (x : SlotSt) : (s.setSlot l x).resp = s.resp := by dsimp only [State.setSlot]
@[simp] theorem State.setSlot_regs (s : State) (l : Nat) (x : SlotSt) : (s.setSlot l x).regs = s.regs := by dsimp only [State.setSlot]
@[simp] theorem State.setSlot_mem (s : State) (l : Nat) (x : SlotSt) : (s.setSlot l x).mem = s.mem := by dsimp only [State.setSlot]
@[simp] theorem State.setSlot_cyc (s : State) (l : Nat) (x : SlotSt) : (s.setSlot l x).cyc = s.cyc := by dsimp only [State.setSlot]
@[simp] theorem State.setSlot_devOff (s : State) (l : Nat) (x : SlotSt) : (s.setSlot l x).devOff = s.devOff := by dsimp only [State.setSlot]
@[simp] theorem State.setSlot_free (s : State) (l : Nat) (x : SlotSt) : (s.setSlot l x).free = s.free := by dsimp only [State.setSlot]
@[simp] theorem State.setSlot_wld (s : State) (l : Nat) (x : SlotSt) : (s.setSlot l x).wld = s.wld := by dsimp only [State.setSlot]
@[simp] theorem State.setSlot_cp (s : State) (l : Nat) (x : SlotSt) : (s.setSlot l x).cp = s.cp := by dsimp only [State.setSlot]
@[simp] theorem State.setSlot_cl (s : State) (l : Nat) (x : SlotSt) : (s.setSlot l x).cl = s.cl := by dsimp only [State.setSlot]
@[simp] theorem State.setSlot_mc (s : State) (l : Nat) (x : SlotSt) : (s.setSlot l x).mc = s.mc := by dsimp only [State.setSlot]
@[simp] theorem State.setSlot_arb (s : State) (l : Nat) (x : SlotSt) : (s.setSlot l x).arb = s.arb := by dsimp only [State.setSlot]
@[simp] theorem State.setSlot_flt (s : State) (l : Nat) (x : SlotSt) : (s.setSlot l x).flt = s.flt := by dsimp only [State.setSlot]
@[simp] theorem State.setSlot_etch (s : State) (l : Nat) (x : SlotSt) : (s.setSlot l x).etch = s.etch := by dsimp only [State.setSlot]
@[simp] theorem State.setSlot_prf (s : State) (l : Nat) (x : SlotSt) : (s.setSlot l x).prf = s.prf := by dsimp only [State.setSlot]
@[simp] theorem State.setSlot_grv (s : State) (l : Nat) (x : SlotSt) : (s.setSlot l x).grv = s.grv := by dsimp only [State.setSlot]
@[simp] theorem State.setSlot_touch (s : State) (l : Nat) (x : SlotSt) : (s.setSlot l x).touch = s.touch := by dsimp only [State.setSlot]
@[simp] theorem State.setSlot_hap (s : State) (l : Nat) (x : SlotSt) : (s.setSlot l x).hap = s.hap := by dsimp only [State.setSlot]
@[simp] theorem State.setSlot_fol (s : State) (l : Nat) (x : SlotSt) : (s.setSlot l x).fol = s.fol := by dsimp only [State.setSlot]
@[simp] theorem State.setSlot_aud (s : State) (l : Nat) (x : SlotSt) : (s.setSlot l x).aud = s.aud := by dsimp only [State.setSlot]
@[simp] theorem State.setSlot_fw (s : State) (l : Nat) (x : SlotSt) : (s.setSlot l x).fw = s.fw := by dsimp only [State.setSlot]
@[simp] theorem State.setSlot_pwr (s : State) (l : Nat) (x : SlotSt) : (s.setSlot l x).pwr = s.pwr := by dsimp only [State.setSlot]
@[simp] theorem State.setSlot_dziv (s : State) (l : Nat) (x : SlotSt) : (s.setSlot l x).dziv = s.dziv := by dsimp only [State.setSlot]
@[simp] theorem State.setSlot_lsio (s : State) (l : Nat) (x : SlotSt) : (s.setSlot l x).lsio = s.lsio := by dsimp only [State.setSlot]

/-! `setReady` changes `prf` alone. -/

@[simp] theorem State.setReady_pending (s : State) (n : Nat) (r : Option Bool) : (s.setReady n r).pending = s.pending := by dsimp only [State.setReady]
@[simp] theorem State.setReady_resp (s : State) (n : Nat) (r : Option Bool) : (s.setReady n r).resp = s.resp := by dsimp only [State.setReady]
@[simp] theorem State.setReady_regs (s : State) (n : Nat) (r : Option Bool) : (s.setReady n r).regs = s.regs := by dsimp only [State.setReady]
@[simp] theorem State.setReady_mem (s : State) (n : Nat) (r : Option Bool) : (s.setReady n r).mem = s.mem := by dsimp only [State.setReady]
@[simp] theorem State.setReady_cyc (s : State) (n : Nat) (r : Option Bool) : (s.setReady n r).cyc = s.cyc := by dsimp only [State.setReady]
@[simp] theorem State.setReady_devOff (s : State) (n : Nat) (r : Option Bool) : (s.setReady n r).devOff = s.devOff := by dsimp only [State.setReady]
@[simp] theorem State.setReady_free (s : State) (n : Nat) (r : Option Bool) : (s.setReady n r).free = s.free := by dsimp only [State.setReady]
@[simp] theorem State.setReady_wld (s : State) (n : Nat) (r : Option Bool) : (s.setReady n r).wld = s.wld := by dsimp only [State.setReady]
@[simp] theorem State.setReady_cp (s : State) (n : Nat) (r : Option Bool) : (s.setReady n r).cp = s.cp := by dsimp only [State.setReady]
@[simp] theorem State.setReady_cl (s : State) (n : Nat) (r : Option Bool) : (s.setReady n r).cl = s.cl := by dsimp only [State.setReady]
@[simp] theorem State.setReady_mc (s : State) (n : Nat) (r : Option Bool) : (s.setReady n r).mc = s.mc := by dsimp only [State.setReady]
@[simp] theorem State.setReady_arb (s : State) (n : Nat) (r : Option Bool) : (s.setReady n r).arb = s.arb := by dsimp only [State.setReady]
@[simp] theorem State.setReady_flt (s : State) (n : Nat) (r : Option Bool) : (s.setReady n r).flt = s.flt := by dsimp only [State.setReady]
@[simp] theorem State.setReady_disp (s : State) (n : Nat) (r : Option Bool) : (s.setReady n r).disp = s.disp := by dsimp only [State.setReady]
@[simp] theorem State.setReady_etch (s : State) (n : Nat) (r : Option Bool) : (s.setReady n r).etch = s.etch := by dsimp only [State.setReady]
@[simp] theorem State.setReady_grv (s : State) (n : Nat) (r : Option Bool) : (s.setReady n r).grv = s.grv := by dsimp only [State.setReady]
@[simp] theorem State.setReady_touch (s : State) (n : Nat) (r : Option Bool) : (s.setReady n r).touch = s.touch := by dsimp only [State.setReady]
@[simp] theorem State.setReady_hap (s : State) (n : Nat) (r : Option Bool) : (s.setReady n r).hap = s.hap := by dsimp only [State.setReady]
@[simp] theorem State.setReady_fol (s : State) (n : Nat) (r : Option Bool) : (s.setReady n r).fol = s.fol := by dsimp only [State.setReady]
@[simp] theorem State.setReady_aud (s : State) (n : Nat) (r : Option Bool) : (s.setReady n r).aud = s.aud := by dsimp only [State.setReady]
@[simp] theorem State.setReady_fw (s : State) (n : Nat) (r : Option Bool) : (s.setReady n r).fw = s.fw := by dsimp only [State.setReady]
@[simp] theorem State.setReady_pwr (s : State) (n : Nat) (r : Option Bool) : (s.setReady n r).pwr = s.pwr := by dsimp only [State.setReady]
@[simp] theorem State.setReady_dziv (s : State) (n : Nat) (r : Option Bool) : (s.setReady n r).dziv = s.dziv := by dsimp only [State.setReady]
@[simp] theorem State.setReady_lsio (s : State) (n : Nat) (r : Option Bool) : (s.setReady n r).lsio = s.lsio := by dsimp only [State.setReady]

/-! `setGrvPalette` changes `grv` alone. -/

@[simp] theorem State.setGrvPalette_pending (s : State) (r : RingId) (l : List Byte) : (s.setGrvPalette r l).pending = s.pending := by dsimp only [State.setGrvPalette]
@[simp] theorem State.setGrvPalette_resp (s : State) (r : RingId) (l : List Byte) : (s.setGrvPalette r l).resp = s.resp := by dsimp only [State.setGrvPalette]
@[simp] theorem State.setGrvPalette_regs (s : State) (r : RingId) (l : List Byte) : (s.setGrvPalette r l).regs = s.regs := by dsimp only [State.setGrvPalette]
@[simp] theorem State.setGrvPalette_mem (s : State) (r : RingId) (l : List Byte) : (s.setGrvPalette r l).mem = s.mem := by dsimp only [State.setGrvPalette]
@[simp] theorem State.setGrvPalette_cyc (s : State) (r : RingId) (l : List Byte) : (s.setGrvPalette r l).cyc = s.cyc := by dsimp only [State.setGrvPalette]
@[simp] theorem State.setGrvPalette_devOff (s : State) (r : RingId) (l : List Byte) : (s.setGrvPalette r l).devOff = s.devOff := by dsimp only [State.setGrvPalette]
@[simp] theorem State.setGrvPalette_free (s : State) (r : RingId) (l : List Byte) : (s.setGrvPalette r l).free = s.free := by dsimp only [State.setGrvPalette]
@[simp] theorem State.setGrvPalette_wld (s : State) (r : RingId) (l : List Byte) : (s.setGrvPalette r l).wld = s.wld := by dsimp only [State.setGrvPalette]
@[simp] theorem State.setGrvPalette_cp (s : State) (r : RingId) (l : List Byte) : (s.setGrvPalette r l).cp = s.cp := by dsimp only [State.setGrvPalette]
@[simp] theorem State.setGrvPalette_cl (s : State) (r : RingId) (l : List Byte) : (s.setGrvPalette r l).cl = s.cl := by dsimp only [State.setGrvPalette]
@[simp] theorem State.setGrvPalette_mc (s : State) (r : RingId) (l : List Byte) : (s.setGrvPalette r l).mc = s.mc := by dsimp only [State.setGrvPalette]
@[simp] theorem State.setGrvPalette_arb (s : State) (r : RingId) (l : List Byte) : (s.setGrvPalette r l).arb = s.arb := by dsimp only [State.setGrvPalette]
@[simp] theorem State.setGrvPalette_flt (s : State) (r : RingId) (l : List Byte) : (s.setGrvPalette r l).flt = s.flt := by dsimp only [State.setGrvPalette]
@[simp] theorem State.setGrvPalette_disp (s : State) (r : RingId) (l : List Byte) : (s.setGrvPalette r l).disp = s.disp := by dsimp only [State.setGrvPalette]
@[simp] theorem State.setGrvPalette_etch (s : State) (r : RingId) (l : List Byte) : (s.setGrvPalette r l).etch = s.etch := by dsimp only [State.setGrvPalette]
@[simp] theorem State.setGrvPalette_prf (s : State) (r : RingId) (l : List Byte) : (s.setGrvPalette r l).prf = s.prf := by dsimp only [State.setGrvPalette]
@[simp] theorem State.setGrvPalette_touch (s : State) (r : RingId) (l : List Byte) : (s.setGrvPalette r l).touch = s.touch := by dsimp only [State.setGrvPalette]
@[simp] theorem State.setGrvPalette_hap (s : State) (r : RingId) (l : List Byte) : (s.setGrvPalette r l).hap = s.hap := by dsimp only [State.setGrvPalette]
@[simp] theorem State.setGrvPalette_fol (s : State) (r : RingId) (l : List Byte) : (s.setGrvPalette r l).fol = s.fol := by dsimp only [State.setGrvPalette]
@[simp] theorem State.setGrvPalette_aud (s : State) (r : RingId) (l : List Byte) : (s.setGrvPalette r l).aud = s.aud := by dsimp only [State.setGrvPalette]
@[simp] theorem State.setGrvPalette_fw (s : State) (r : RingId) (l : List Byte) : (s.setGrvPalette r l).fw = s.fw := by dsimp only [State.setGrvPalette]
@[simp] theorem State.setGrvPalette_pwr (s : State) (r : RingId) (l : List Byte) : (s.setGrvPalette r l).pwr = s.pwr := by dsimp only [State.setGrvPalette]
@[simp] theorem State.setGrvPalette_dziv (s : State) (r : RingId) (l : List Byte) : (s.setGrvPalette r l).dziv = s.dziv := by dsimp only [State.setGrvPalette]
@[simp] theorem State.setGrvPalette_lsio (s : State) (r : RingId) (l : List Byte) : (s.setGrvPalette r l).lsio = s.lsio := by dsimp only [State.setGrvPalette]

/-! `setPanel` changes `touch` alone. -/

@[simp] theorem State.setPanel_pending (s : State) (p : Nat) (x : Panel) : (s.setPanel p x).pending = s.pending := by dsimp only [State.setPanel]
@[simp] theorem State.setPanel_resp (s : State) (p : Nat) (x : Panel) : (s.setPanel p x).resp = s.resp := by dsimp only [State.setPanel]
@[simp] theorem State.setPanel_regs (s : State) (p : Nat) (x : Panel) : (s.setPanel p x).regs = s.regs := by dsimp only [State.setPanel]
@[simp] theorem State.setPanel_mem (s : State) (p : Nat) (x : Panel) : (s.setPanel p x).mem = s.mem := by dsimp only [State.setPanel]
@[simp] theorem State.setPanel_cyc (s : State) (p : Nat) (x : Panel) : (s.setPanel p x).cyc = s.cyc := by dsimp only [State.setPanel]
@[simp] theorem State.setPanel_devOff (s : State) (p : Nat) (x : Panel) : (s.setPanel p x).devOff = s.devOff := by dsimp only [State.setPanel]
@[simp] theorem State.setPanel_free (s : State) (p : Nat) (x : Panel) : (s.setPanel p x).free = s.free := by dsimp only [State.setPanel]
@[simp] theorem State.setPanel_wld (s : State) (p : Nat) (x : Panel) : (s.setPanel p x).wld = s.wld := by dsimp only [State.setPanel]
@[simp] theorem State.setPanel_cp (s : State) (p : Nat) (x : Panel) : (s.setPanel p x).cp = s.cp := by dsimp only [State.setPanel]
@[simp] theorem State.setPanel_cl (s : State) (p : Nat) (x : Panel) : (s.setPanel p x).cl = s.cl := by dsimp only [State.setPanel]
@[simp] theorem State.setPanel_mc (s : State) (p : Nat) (x : Panel) : (s.setPanel p x).mc = s.mc := by dsimp only [State.setPanel]
@[simp] theorem State.setPanel_arb (s : State) (p : Nat) (x : Panel) : (s.setPanel p x).arb = s.arb := by dsimp only [State.setPanel]
@[simp] theorem State.setPanel_flt (s : State) (p : Nat) (x : Panel) : (s.setPanel p x).flt = s.flt := by dsimp only [State.setPanel]
@[simp] theorem State.setPanel_disp (s : State) (p : Nat) (x : Panel) : (s.setPanel p x).disp = s.disp := by dsimp only [State.setPanel]
@[simp] theorem State.setPanel_etch (s : State) (p : Nat) (x : Panel) : (s.setPanel p x).etch = s.etch := by dsimp only [State.setPanel]
@[simp] theorem State.setPanel_prf (s : State) (p : Nat) (x : Panel) : (s.setPanel p x).prf = s.prf := by dsimp only [State.setPanel]
@[simp] theorem State.setPanel_grv (s : State) (p : Nat) (x : Panel) : (s.setPanel p x).grv = s.grv := by dsimp only [State.setPanel]
@[simp] theorem State.setPanel_hap (s : State) (p : Nat) (x : Panel) : (s.setPanel p x).hap = s.hap := by dsimp only [State.setPanel]
@[simp] theorem State.setPanel_fol (s : State) (p : Nat) (x : Panel) : (s.setPanel p x).fol = s.fol := by dsimp only [State.setPanel]
@[simp] theorem State.setPanel_aud (s : State) (p : Nat) (x : Panel) : (s.setPanel p x).aud = s.aud := by dsimp only [State.setPanel]
@[simp] theorem State.setPanel_fw (s : State) (p : Nat) (x : Panel) : (s.setPanel p x).fw = s.fw := by dsimp only [State.setPanel]
@[simp] theorem State.setPanel_pwr (s : State) (p : Nat) (x : Panel) : (s.setPanel p x).pwr = s.pwr := by dsimp only [State.setPanel]
@[simp] theorem State.setPanel_dziv (s : State) (p : Nat) (x : Panel) : (s.setPanel p x).dziv = s.dziv := by dsimp only [State.setPanel]
@[simp] theorem State.setPanel_lsio (s : State) (p : Nat) (x : Panel) : (s.setPanel p x).lsio = s.lsio := by dsimp only [State.setPanel]

/-! `setAct` changes `hap` alone. -/

@[simp] theorem State.setAct_pending (s : State) (a : Nat) (x : Act) : (s.setAct a x).pending = s.pending := by dsimp only [State.setAct]
@[simp] theorem State.setAct_resp (s : State) (a : Nat) (x : Act) : (s.setAct a x).resp = s.resp := by dsimp only [State.setAct]
@[simp] theorem State.setAct_regs (s : State) (a : Nat) (x : Act) : (s.setAct a x).regs = s.regs := by dsimp only [State.setAct]
@[simp] theorem State.setAct_mem (s : State) (a : Nat) (x : Act) : (s.setAct a x).mem = s.mem := by dsimp only [State.setAct]
@[simp] theorem State.setAct_cyc (s : State) (a : Nat) (x : Act) : (s.setAct a x).cyc = s.cyc := by dsimp only [State.setAct]
@[simp] theorem State.setAct_devOff (s : State) (a : Nat) (x : Act) : (s.setAct a x).devOff = s.devOff := by dsimp only [State.setAct]
@[simp] theorem State.setAct_free (s : State) (a : Nat) (x : Act) : (s.setAct a x).free = s.free := by dsimp only [State.setAct]
@[simp] theorem State.setAct_wld (s : State) (a : Nat) (x : Act) : (s.setAct a x).wld = s.wld := by dsimp only [State.setAct]
@[simp] theorem State.setAct_cp (s : State) (a : Nat) (x : Act) : (s.setAct a x).cp = s.cp := by dsimp only [State.setAct]
@[simp] theorem State.setAct_cl (s : State) (a : Nat) (x : Act) : (s.setAct a x).cl = s.cl := by dsimp only [State.setAct]
@[simp] theorem State.setAct_mc (s : State) (a : Nat) (x : Act) : (s.setAct a x).mc = s.mc := by dsimp only [State.setAct]
@[simp] theorem State.setAct_arb (s : State) (a : Nat) (x : Act) : (s.setAct a x).arb = s.arb := by dsimp only [State.setAct]
@[simp] theorem State.setAct_flt (s : State) (a : Nat) (x : Act) : (s.setAct a x).flt = s.flt := by dsimp only [State.setAct]
@[simp] theorem State.setAct_disp (s : State) (a : Nat) (x : Act) : (s.setAct a x).disp = s.disp := by dsimp only [State.setAct]
@[simp] theorem State.setAct_etch (s : State) (a : Nat) (x : Act) : (s.setAct a x).etch = s.etch := by dsimp only [State.setAct]
@[simp] theorem State.setAct_prf (s : State) (a : Nat) (x : Act) : (s.setAct a x).prf = s.prf := by dsimp only [State.setAct]
@[simp] theorem State.setAct_grv (s : State) (a : Nat) (x : Act) : (s.setAct a x).grv = s.grv := by dsimp only [State.setAct]
@[simp] theorem State.setAct_touch (s : State) (a : Nat) (x : Act) : (s.setAct a x).touch = s.touch := by dsimp only [State.setAct]
@[simp] theorem State.setAct_fol (s : State) (a : Nat) (x : Act) : (s.setAct a x).fol = s.fol := by dsimp only [State.setAct]
@[simp] theorem State.setAct_aud (s : State) (a : Nat) (x : Act) : (s.setAct a x).aud = s.aud := by dsimp only [State.setAct]
@[simp] theorem State.setAct_fw (s : State) (a : Nat) (x : Act) : (s.setAct a x).fw = s.fw := by dsimp only [State.setAct]
@[simp] theorem State.setAct_pwr (s : State) (a : Nat) (x : Act) : (s.setAct a x).pwr = s.pwr := by dsimp only [State.setAct]
@[simp] theorem State.setAct_dziv (s : State) (a : Nat) (x : Act) : (s.setAct a x).dziv = s.dziv := by dsimp only [State.setAct]
@[simp] theorem State.setAct_lsio (s : State) (a : Nat) (x : Act) : (s.setAct a x).lsio = s.lsio := by dsimp only [State.setAct]

/-! `setWave` changes `hap` alone. -/

@[simp] theorem State.setWave_pending (s : State) (k : Nat) (w : Option Wave) : (s.setWave k w).pending = s.pending := by dsimp only [State.setWave]
@[simp] theorem State.setWave_resp (s : State) (k : Nat) (w : Option Wave) : (s.setWave k w).resp = s.resp := by dsimp only [State.setWave]
@[simp] theorem State.setWave_regs (s : State) (k : Nat) (w : Option Wave) : (s.setWave k w).regs = s.regs := by dsimp only [State.setWave]
@[simp] theorem State.setWave_mem (s : State) (k : Nat) (w : Option Wave) : (s.setWave k w).mem = s.mem := by dsimp only [State.setWave]
@[simp] theorem State.setWave_cyc (s : State) (k : Nat) (w : Option Wave) : (s.setWave k w).cyc = s.cyc := by dsimp only [State.setWave]
@[simp] theorem State.setWave_devOff (s : State) (k : Nat) (w : Option Wave) : (s.setWave k w).devOff = s.devOff := by dsimp only [State.setWave]
@[simp] theorem State.setWave_free (s : State) (k : Nat) (w : Option Wave) : (s.setWave k w).free = s.free := by dsimp only [State.setWave]
@[simp] theorem State.setWave_wld (s : State) (k : Nat) (w : Option Wave) : (s.setWave k w).wld = s.wld := by dsimp only [State.setWave]
@[simp] theorem State.setWave_cp (s : State) (k : Nat) (w : Option Wave) : (s.setWave k w).cp = s.cp := by dsimp only [State.setWave]
@[simp] theorem State.setWave_cl (s : State) (k : Nat) (w : Option Wave) : (s.setWave k w).cl = s.cl := by dsimp only [State.setWave]
@[simp] theorem State.setWave_mc (s : State) (k : Nat) (w : Option Wave) : (s.setWave k w).mc = s.mc := by dsimp only [State.setWave]
@[simp] theorem State.setWave_arb (s : State) (k : Nat) (w : Option Wave) : (s.setWave k w).arb = s.arb := by dsimp only [State.setWave]
@[simp] theorem State.setWave_flt (s : State) (k : Nat) (w : Option Wave) : (s.setWave k w).flt = s.flt := by dsimp only [State.setWave]
@[simp] theorem State.setWave_disp (s : State) (k : Nat) (w : Option Wave) : (s.setWave k w).disp = s.disp := by dsimp only [State.setWave]
@[simp] theorem State.setWave_etch (s : State) (k : Nat) (w : Option Wave) : (s.setWave k w).etch = s.etch := by dsimp only [State.setWave]
@[simp] theorem State.setWave_prf (s : State) (k : Nat) (w : Option Wave) : (s.setWave k w).prf = s.prf := by dsimp only [State.setWave]
@[simp] theorem State.setWave_grv (s : State) (k : Nat) (w : Option Wave) : (s.setWave k w).grv = s.grv := by dsimp only [State.setWave]
@[simp] theorem State.setWave_touch (s : State) (k : Nat) (w : Option Wave) : (s.setWave k w).touch = s.touch := by dsimp only [State.setWave]
@[simp] theorem State.setWave_fol (s : State) (k : Nat) (w : Option Wave) : (s.setWave k w).fol = s.fol := by dsimp only [State.setWave]
@[simp] theorem State.setWave_aud (s : State) (k : Nat) (w : Option Wave) : (s.setWave k w).aud = s.aud := by dsimp only [State.setWave]
@[simp] theorem State.setWave_fw (s : State) (k : Nat) (w : Option Wave) : (s.setWave k w).fw = s.fw := by dsimp only [State.setWave]
@[simp] theorem State.setWave_pwr (s : State) (k : Nat) (w : Option Wave) : (s.setWave k w).pwr = s.pwr := by dsimp only [State.setWave]
@[simp] theorem State.setWave_dziv (s : State) (k : Nat) (w : Option Wave) : (s.setWave k w).dziv = s.dziv := by dsimp only [State.setWave]
@[simp] theorem State.setWave_lsio (s : State) (k : Nat) (w : Option Wave) : (s.setWave k w).lsio = s.lsio := by dsimp only [State.setWave]

/-! `setMux` changes `aud` alone. -/

@[simp] theorem State.setMux_pending (s : State) (d : Nat) (m : Mux) : (s.setMux d m).pending = s.pending := by dsimp only [State.setMux]
@[simp] theorem State.setMux_resp (s : State) (d : Nat) (m : Mux) : (s.setMux d m).resp = s.resp := by dsimp only [State.setMux]
@[simp] theorem State.setMux_regs (s : State) (d : Nat) (m : Mux) : (s.setMux d m).regs = s.regs := by dsimp only [State.setMux]
@[simp] theorem State.setMux_mem (s : State) (d : Nat) (m : Mux) : (s.setMux d m).mem = s.mem := by dsimp only [State.setMux]
@[simp] theorem State.setMux_cyc (s : State) (d : Nat) (m : Mux) : (s.setMux d m).cyc = s.cyc := by dsimp only [State.setMux]
@[simp] theorem State.setMux_devOff (s : State) (d : Nat) (m : Mux) : (s.setMux d m).devOff = s.devOff := by dsimp only [State.setMux]
@[simp] theorem State.setMux_free (s : State) (d : Nat) (m : Mux) : (s.setMux d m).free = s.free := by dsimp only [State.setMux]
@[simp] theorem State.setMux_wld (s : State) (d : Nat) (m : Mux) : (s.setMux d m).wld = s.wld := by dsimp only [State.setMux]
@[simp] theorem State.setMux_cp (s : State) (d : Nat) (m : Mux) : (s.setMux d m).cp = s.cp := by dsimp only [State.setMux]
@[simp] theorem State.setMux_cl (s : State) (d : Nat) (m : Mux) : (s.setMux d m).cl = s.cl := by dsimp only [State.setMux]
@[simp] theorem State.setMux_mc (s : State) (d : Nat) (m : Mux) : (s.setMux d m).mc = s.mc := by dsimp only [State.setMux]
@[simp] theorem State.setMux_arb (s : State) (d : Nat) (m : Mux) : (s.setMux d m).arb = s.arb := by dsimp only [State.setMux]
@[simp] theorem State.setMux_flt (s : State) (d : Nat) (m : Mux) : (s.setMux d m).flt = s.flt := by dsimp only [State.setMux]
@[simp] theorem State.setMux_disp (s : State) (d : Nat) (m : Mux) : (s.setMux d m).disp = s.disp := by dsimp only [State.setMux]
@[simp] theorem State.setMux_etch (s : State) (d : Nat) (m : Mux) : (s.setMux d m).etch = s.etch := by dsimp only [State.setMux]
@[simp] theorem State.setMux_prf (s : State) (d : Nat) (m : Mux) : (s.setMux d m).prf = s.prf := by dsimp only [State.setMux]
@[simp] theorem State.setMux_grv (s : State) (d : Nat) (m : Mux) : (s.setMux d m).grv = s.grv := by dsimp only [State.setMux]
@[simp] theorem State.setMux_touch (s : State) (d : Nat) (m : Mux) : (s.setMux d m).touch = s.touch := by dsimp only [State.setMux]
@[simp] theorem State.setMux_hap (s : State) (d : Nat) (m : Mux) : (s.setMux d m).hap = s.hap := by dsimp only [State.setMux]
@[simp] theorem State.setMux_fol (s : State) (d : Nat) (m : Mux) : (s.setMux d m).fol = s.fol := by dsimp only [State.setMux]
@[simp] theorem State.setMux_fw (s : State) (d : Nat) (m : Mux) : (s.setMux d m).fw = s.fw := by dsimp only [State.setMux]
@[simp] theorem State.setMux_pwr (s : State) (d : Nat) (m : Mux) : (s.setMux d m).pwr = s.pwr := by dsimp only [State.setMux]
@[simp] theorem State.setMux_dziv (s : State) (d : Nat) (m : Mux) : (s.setMux d m).dziv = s.dziv := by dsimp only [State.setMux]
@[simp] theorem State.setMux_lsio (s : State) (d : Nat) (m : Mux) : (s.setMux d m).lsio = s.lsio := by dsimp only [State.setMux]

/-! `setBus` changes `aud` alone. -/

@[simp] theorem State.setBus_pending (s : State) (k : Nat) (b : Bus) : (s.setBus k b).pending = s.pending := by dsimp only [State.setBus]
@[simp] theorem State.setBus_resp (s : State) (k : Nat) (b : Bus) : (s.setBus k b).resp = s.resp := by dsimp only [State.setBus]
@[simp] theorem State.setBus_regs (s : State) (k : Nat) (b : Bus) : (s.setBus k b).regs = s.regs := by dsimp only [State.setBus]
@[simp] theorem State.setBus_mem (s : State) (k : Nat) (b : Bus) : (s.setBus k b).mem = s.mem := by dsimp only [State.setBus]
@[simp] theorem State.setBus_cyc (s : State) (k : Nat) (b : Bus) : (s.setBus k b).cyc = s.cyc := by dsimp only [State.setBus]
@[simp] theorem State.setBus_devOff (s : State) (k : Nat) (b : Bus) : (s.setBus k b).devOff = s.devOff := by dsimp only [State.setBus]
@[simp] theorem State.setBus_free (s : State) (k : Nat) (b : Bus) : (s.setBus k b).free = s.free := by dsimp only [State.setBus]
@[simp] theorem State.setBus_wld (s : State) (k : Nat) (b : Bus) : (s.setBus k b).wld = s.wld := by dsimp only [State.setBus]
@[simp] theorem State.setBus_cp (s : State) (k : Nat) (b : Bus) : (s.setBus k b).cp = s.cp := by dsimp only [State.setBus]
@[simp] theorem State.setBus_cl (s : State) (k : Nat) (b : Bus) : (s.setBus k b).cl = s.cl := by dsimp only [State.setBus]
@[simp] theorem State.setBus_mc (s : State) (k : Nat) (b : Bus) : (s.setBus k b).mc = s.mc := by dsimp only [State.setBus]
@[simp] theorem State.setBus_arb (s : State) (k : Nat) (b : Bus) : (s.setBus k b).arb = s.arb := by dsimp only [State.setBus]
@[simp] theorem State.setBus_flt (s : State) (k : Nat) (b : Bus) : (s.setBus k b).flt = s.flt := by dsimp only [State.setBus]
@[simp] theorem State.setBus_disp (s : State) (k : Nat) (b : Bus) : (s.setBus k b).disp = s.disp := by dsimp only [State.setBus]
@[simp] theorem State.setBus_etch (s : State) (k : Nat) (b : Bus) : (s.setBus k b).etch = s.etch := by dsimp only [State.setBus]
@[simp] theorem State.setBus_prf (s : State) (k : Nat) (b : Bus) : (s.setBus k b).prf = s.prf := by dsimp only [State.setBus]
@[simp] theorem State.setBus_grv (s : State) (k : Nat) (b : Bus) : (s.setBus k b).grv = s.grv := by dsimp only [State.setBus]
@[simp] theorem State.setBus_touch (s : State) (k : Nat) (b : Bus) : (s.setBus k b).touch = s.touch := by dsimp only [State.setBus]
@[simp] theorem State.setBus_hap (s : State) (k : Nat) (b : Bus) : (s.setBus k b).hap = s.hap := by dsimp only [State.setBus]
@[simp] theorem State.setBus_fol (s : State) (k : Nat) (b : Bus) : (s.setBus k b).fol = s.fol := by dsimp only [State.setBus]
@[simp] theorem State.setBus_fw (s : State) (k : Nat) (b : Bus) : (s.setBus k b).fw = s.fw := by dsimp only [State.setBus]
@[simp] theorem State.setBus_pwr (s : State) (k : Nat) (b : Bus) : (s.setBus k b).pwr = s.pwr := by dsimp only [State.setBus]
@[simp] theorem State.setBus_dziv (s : State) (k : Nat) (b : Bus) : (s.setBus k b).dziv = s.dziv := by dsimp only [State.setBus]
@[simp] theorem State.setBus_lsio (s : State) (k : Nat) (b : Bus) : (s.setBus k b).lsio = s.lsio := by dsimp only [State.setBus]

/-! `setPair` changes `aud` alone. -/

@[simp] theorem State.setPair_pending (s : State) (u : Nat) (g : GenPair) : (s.setPair u g).pending = s.pending := by dsimp only [State.setPair]
@[simp] theorem State.setPair_resp (s : State) (u : Nat) (g : GenPair) : (s.setPair u g).resp = s.resp := by dsimp only [State.setPair]
@[simp] theorem State.setPair_regs (s : State) (u : Nat) (g : GenPair) : (s.setPair u g).regs = s.regs := by dsimp only [State.setPair]
@[simp] theorem State.setPair_mem (s : State) (u : Nat) (g : GenPair) : (s.setPair u g).mem = s.mem := by dsimp only [State.setPair]
@[simp] theorem State.setPair_cyc (s : State) (u : Nat) (g : GenPair) : (s.setPair u g).cyc = s.cyc := by dsimp only [State.setPair]
@[simp] theorem State.setPair_devOff (s : State) (u : Nat) (g : GenPair) : (s.setPair u g).devOff = s.devOff := by dsimp only [State.setPair]
@[simp] theorem State.setPair_free (s : State) (u : Nat) (g : GenPair) : (s.setPair u g).free = s.free := by dsimp only [State.setPair]
@[simp] theorem State.setPair_wld (s : State) (u : Nat) (g : GenPair) : (s.setPair u g).wld = s.wld := by dsimp only [State.setPair]
@[simp] theorem State.setPair_cp (s : State) (u : Nat) (g : GenPair) : (s.setPair u g).cp = s.cp := by dsimp only [State.setPair]
@[simp] theorem State.setPair_cl (s : State) (u : Nat) (g : GenPair) : (s.setPair u g).cl = s.cl := by dsimp only [State.setPair]
@[simp] theorem State.setPair_mc (s : State) (u : Nat) (g : GenPair) : (s.setPair u g).mc = s.mc := by dsimp only [State.setPair]
@[simp] theorem State.setPair_arb (s : State) (u : Nat) (g : GenPair) : (s.setPair u g).arb = s.arb := by dsimp only [State.setPair]
@[simp] theorem State.setPair_flt (s : State) (u : Nat) (g : GenPair) : (s.setPair u g).flt = s.flt := by dsimp only [State.setPair]
@[simp] theorem State.setPair_disp (s : State) (u : Nat) (g : GenPair) : (s.setPair u g).disp = s.disp := by dsimp only [State.setPair]
@[simp] theorem State.setPair_etch (s : State) (u : Nat) (g : GenPair) : (s.setPair u g).etch = s.etch := by dsimp only [State.setPair]
@[simp] theorem State.setPair_prf (s : State) (u : Nat) (g : GenPair) : (s.setPair u g).prf = s.prf := by dsimp only [State.setPair]
@[simp] theorem State.setPair_grv (s : State) (u : Nat) (g : GenPair) : (s.setPair u g).grv = s.grv := by dsimp only [State.setPair]
@[simp] theorem State.setPair_touch (s : State) (u : Nat) (g : GenPair) : (s.setPair u g).touch = s.touch := by dsimp only [State.setPair]
@[simp] theorem State.setPair_hap (s : State) (u : Nat) (g : GenPair) : (s.setPair u g).hap = s.hap := by dsimp only [State.setPair]
@[simp] theorem State.setPair_fol (s : State) (u : Nat) (g : GenPair) : (s.setPair u g).fol = s.fol := by dsimp only [State.setPair]
@[simp] theorem State.setPair_fw (s : State) (u : Nat) (g : GenPair) : (s.setPair u g).fw = s.fw := by dsimp only [State.setPair]
@[simp] theorem State.setPair_pwr (s : State) (u : Nat) (g : GenPair) : (s.setPair u g).pwr = s.pwr := by dsimp only [State.setPair]
@[simp] theorem State.setPair_dziv (s : State) (u : Nat) (g : GenPair) : (s.setPair u g).dziv = s.dziv := by dsimp only [State.setPair]
@[simp] theorem State.setPair_lsio (s : State) (u : Nat) (g : GenPair) : (s.setPair u g).lsio = s.lsio := by dsimp only [State.setPair]

/-! `setStream` changes `aud` alone. -/

@[simp] theorem State.setStream_pending (s : State) (k : Nat) (x : Option AStream) : (s.setStream k x).pending = s.pending := by dsimp only [State.setStream]
@[simp] theorem State.setStream_resp (s : State) (k : Nat) (x : Option AStream) : (s.setStream k x).resp = s.resp := by dsimp only [State.setStream]
@[simp] theorem State.setStream_regs (s : State) (k : Nat) (x : Option AStream) : (s.setStream k x).regs = s.regs := by dsimp only [State.setStream]
@[simp] theorem State.setStream_mem (s : State) (k : Nat) (x : Option AStream) : (s.setStream k x).mem = s.mem := by dsimp only [State.setStream]
@[simp] theorem State.setStream_cyc (s : State) (k : Nat) (x : Option AStream) : (s.setStream k x).cyc = s.cyc := by dsimp only [State.setStream]
@[simp] theorem State.setStream_devOff (s : State) (k : Nat) (x : Option AStream) : (s.setStream k x).devOff = s.devOff := by dsimp only [State.setStream]
@[simp] theorem State.setStream_free (s : State) (k : Nat) (x : Option AStream) : (s.setStream k x).free = s.free := by dsimp only [State.setStream]
@[simp] theorem State.setStream_wld (s : State) (k : Nat) (x : Option AStream) : (s.setStream k x).wld = s.wld := by dsimp only [State.setStream]
@[simp] theorem State.setStream_cp (s : State) (k : Nat) (x : Option AStream) : (s.setStream k x).cp = s.cp := by dsimp only [State.setStream]
@[simp] theorem State.setStream_cl (s : State) (k : Nat) (x : Option AStream) : (s.setStream k x).cl = s.cl := by dsimp only [State.setStream]
@[simp] theorem State.setStream_mc (s : State) (k : Nat) (x : Option AStream) : (s.setStream k x).mc = s.mc := by dsimp only [State.setStream]
@[simp] theorem State.setStream_arb (s : State) (k : Nat) (x : Option AStream) : (s.setStream k x).arb = s.arb := by dsimp only [State.setStream]
@[simp] theorem State.setStream_flt (s : State) (k : Nat) (x : Option AStream) : (s.setStream k x).flt = s.flt := by dsimp only [State.setStream]
@[simp] theorem State.setStream_disp (s : State) (k : Nat) (x : Option AStream) : (s.setStream k x).disp = s.disp := by dsimp only [State.setStream]
@[simp] theorem State.setStream_etch (s : State) (k : Nat) (x : Option AStream) : (s.setStream k x).etch = s.etch := by dsimp only [State.setStream]
@[simp] theorem State.setStream_prf (s : State) (k : Nat) (x : Option AStream) : (s.setStream k x).prf = s.prf := by dsimp only [State.setStream]
@[simp] theorem State.setStream_grv (s : State) (k : Nat) (x : Option AStream) : (s.setStream k x).grv = s.grv := by dsimp only [State.setStream]
@[simp] theorem State.setStream_touch (s : State) (k : Nat) (x : Option AStream) : (s.setStream k x).touch = s.touch := by dsimp only [State.setStream]
@[simp] theorem State.setStream_hap (s : State) (k : Nat) (x : Option AStream) : (s.setStream k x).hap = s.hap := by dsimp only [State.setStream]
@[simp] theorem State.setStream_fol (s : State) (k : Nat) (x : Option AStream) : (s.setStream k x).fol = s.fol := by dsimp only [State.setStream]
@[simp] theorem State.setStream_fw (s : State) (k : Nat) (x : Option AStream) : (s.setStream k x).fw = s.fw := by dsimp only [State.setStream]
@[simp] theorem State.setStream_pwr (s : State) (k : Nat) (x : Option AStream) : (s.setStream k x).pwr = s.pwr := by dsimp only [State.setStream]
@[simp] theorem State.setStream_dziv (s : State) (k : Nat) (x : Option AStream) : (s.setStream k x).dziv = s.dziv := by dsimp only [State.setStream]
@[simp] theorem State.setStream_lsio (s : State) (k : Nat) (x : Option AStream) : (s.setStream k x).lsio = s.lsio := by dsimp only [State.setStream]

/-! `setFrameLock` changes `dziv` alone. -/

@[simp] theorem State.setFrameLock_pending (s : State) (n : Nat) (x : Option Lock) : (s.setFrameLock n x).pending = s.pending := by dsimp only [State.setFrameLock]
@[simp] theorem State.setFrameLock_resp (s : State) (n : Nat) (x : Option Lock) : (s.setFrameLock n x).resp = s.resp := by dsimp only [State.setFrameLock]
@[simp] theorem State.setFrameLock_regs (s : State) (n : Nat) (x : Option Lock) : (s.setFrameLock n x).regs = s.regs := by dsimp only [State.setFrameLock]
@[simp] theorem State.setFrameLock_mem (s : State) (n : Nat) (x : Option Lock) : (s.setFrameLock n x).mem = s.mem := by dsimp only [State.setFrameLock]
@[simp] theorem State.setFrameLock_cyc (s : State) (n : Nat) (x : Option Lock) : (s.setFrameLock n x).cyc = s.cyc := by dsimp only [State.setFrameLock]
@[simp] theorem State.setFrameLock_devOff (s : State) (n : Nat) (x : Option Lock) : (s.setFrameLock n x).devOff = s.devOff := by dsimp only [State.setFrameLock]
@[simp] theorem State.setFrameLock_free (s : State) (n : Nat) (x : Option Lock) : (s.setFrameLock n x).free = s.free := by dsimp only [State.setFrameLock]
@[simp] theorem State.setFrameLock_wld (s : State) (n : Nat) (x : Option Lock) : (s.setFrameLock n x).wld = s.wld := by dsimp only [State.setFrameLock]
@[simp] theorem State.setFrameLock_cp (s : State) (n : Nat) (x : Option Lock) : (s.setFrameLock n x).cp = s.cp := by dsimp only [State.setFrameLock]
@[simp] theorem State.setFrameLock_cl (s : State) (n : Nat) (x : Option Lock) : (s.setFrameLock n x).cl = s.cl := by dsimp only [State.setFrameLock]
@[simp] theorem State.setFrameLock_mc (s : State) (n : Nat) (x : Option Lock) : (s.setFrameLock n x).mc = s.mc := by dsimp only [State.setFrameLock]
@[simp] theorem State.setFrameLock_arb (s : State) (n : Nat) (x : Option Lock) : (s.setFrameLock n x).arb = s.arb := by dsimp only [State.setFrameLock]
@[simp] theorem State.setFrameLock_flt (s : State) (n : Nat) (x : Option Lock) : (s.setFrameLock n x).flt = s.flt := by dsimp only [State.setFrameLock]
@[simp] theorem State.setFrameLock_disp (s : State) (n : Nat) (x : Option Lock) : (s.setFrameLock n x).disp = s.disp := by dsimp only [State.setFrameLock]
@[simp] theorem State.setFrameLock_etch (s : State) (n : Nat) (x : Option Lock) : (s.setFrameLock n x).etch = s.etch := by dsimp only [State.setFrameLock]
@[simp] theorem State.setFrameLock_prf (s : State) (n : Nat) (x : Option Lock) : (s.setFrameLock n x).prf = s.prf := by dsimp only [State.setFrameLock]
@[simp] theorem State.setFrameLock_grv (s : State) (n : Nat) (x : Option Lock) : (s.setFrameLock n x).grv = s.grv := by dsimp only [State.setFrameLock]
@[simp] theorem State.setFrameLock_touch (s : State) (n : Nat) (x : Option Lock) : (s.setFrameLock n x).touch = s.touch := by dsimp only [State.setFrameLock]
@[simp] theorem State.setFrameLock_hap (s : State) (n : Nat) (x : Option Lock) : (s.setFrameLock n x).hap = s.hap := by dsimp only [State.setFrameLock]
@[simp] theorem State.setFrameLock_fol (s : State) (n : Nat) (x : Option Lock) : (s.setFrameLock n x).fol = s.fol := by dsimp only [State.setFrameLock]
@[simp] theorem State.setFrameLock_aud (s : State) (n : Nat) (x : Option Lock) : (s.setFrameLock n x).aud = s.aud := by dsimp only [State.setFrameLock]
@[simp] theorem State.setFrameLock_fw (s : State) (n : Nat) (x : Option Lock) : (s.setFrameLock n x).fw = s.fw := by dsimp only [State.setFrameLock]
@[simp] theorem State.setFrameLock_pwr (s : State) (n : Nat) (x : Option Lock) : (s.setFrameLock n x).pwr = s.pwr := by dsimp only [State.setFrameLock]
@[simp] theorem State.setFrameLock_lsio (s : State) (n : Nat) (x : Option Lock) : (s.setFrameLock n x).lsio = s.lsio := by dsimp only [State.setFrameLock]

/-! `sendFrame` changes `dziv` alone. -/

@[simp] theorem State.sendFrame_pending (s : State) (p : Nat) (f : List Byte) : (s.sendFrame p f).pending = s.pending := by dsimp only [State.sendFrame]
@[simp] theorem State.sendFrame_resp (s : State) (p : Nat) (f : List Byte) : (s.sendFrame p f).resp = s.resp := by dsimp only [State.sendFrame]
@[simp] theorem State.sendFrame_regs (s : State) (p : Nat) (f : List Byte) : (s.sendFrame p f).regs = s.regs := by dsimp only [State.sendFrame]
@[simp] theorem State.sendFrame_mem (s : State) (p : Nat) (f : List Byte) : (s.sendFrame p f).mem = s.mem := by dsimp only [State.sendFrame]
@[simp] theorem State.sendFrame_cyc (s : State) (p : Nat) (f : List Byte) : (s.sendFrame p f).cyc = s.cyc := by dsimp only [State.sendFrame]
@[simp] theorem State.sendFrame_devOff (s : State) (p : Nat) (f : List Byte) : (s.sendFrame p f).devOff = s.devOff := by dsimp only [State.sendFrame]
@[simp] theorem State.sendFrame_free (s : State) (p : Nat) (f : List Byte) : (s.sendFrame p f).free = s.free := by dsimp only [State.sendFrame]
@[simp] theorem State.sendFrame_wld (s : State) (p : Nat) (f : List Byte) : (s.sendFrame p f).wld = s.wld := by dsimp only [State.sendFrame]
@[simp] theorem State.sendFrame_cp (s : State) (p : Nat) (f : List Byte) : (s.sendFrame p f).cp = s.cp := by dsimp only [State.sendFrame]
@[simp] theorem State.sendFrame_cl (s : State) (p : Nat) (f : List Byte) : (s.sendFrame p f).cl = s.cl := by dsimp only [State.sendFrame]
@[simp] theorem State.sendFrame_mc (s : State) (p : Nat) (f : List Byte) : (s.sendFrame p f).mc = s.mc := by dsimp only [State.sendFrame]
@[simp] theorem State.sendFrame_arb (s : State) (p : Nat) (f : List Byte) : (s.sendFrame p f).arb = s.arb := by dsimp only [State.sendFrame]
@[simp] theorem State.sendFrame_flt (s : State) (p : Nat) (f : List Byte) : (s.sendFrame p f).flt = s.flt := by dsimp only [State.sendFrame]
@[simp] theorem State.sendFrame_disp (s : State) (p : Nat) (f : List Byte) : (s.sendFrame p f).disp = s.disp := by dsimp only [State.sendFrame]
@[simp] theorem State.sendFrame_etch (s : State) (p : Nat) (f : List Byte) : (s.sendFrame p f).etch = s.etch := by dsimp only [State.sendFrame]
@[simp] theorem State.sendFrame_prf (s : State) (p : Nat) (f : List Byte) : (s.sendFrame p f).prf = s.prf := by dsimp only [State.sendFrame]
@[simp] theorem State.sendFrame_grv (s : State) (p : Nat) (f : List Byte) : (s.sendFrame p f).grv = s.grv := by dsimp only [State.sendFrame]
@[simp] theorem State.sendFrame_touch (s : State) (p : Nat) (f : List Byte) : (s.sendFrame p f).touch = s.touch := by dsimp only [State.sendFrame]
@[simp] theorem State.sendFrame_hap (s : State) (p : Nat) (f : List Byte) : (s.sendFrame p f).hap = s.hap := by dsimp only [State.sendFrame]
@[simp] theorem State.sendFrame_fol (s : State) (p : Nat) (f : List Byte) : (s.sendFrame p f).fol = s.fol := by dsimp only [State.sendFrame]
@[simp] theorem State.sendFrame_aud (s : State) (p : Nat) (f : List Byte) : (s.sendFrame p f).aud = s.aud := by dsimp only [State.sendFrame]
@[simp] theorem State.sendFrame_fw (s : State) (p : Nat) (f : List Byte) : (s.sendFrame p f).fw = s.fw := by dsimp only [State.sendFrame]
@[simp] theorem State.sendFrame_pwr (s : State) (p : Nat) (f : List Byte) : (s.sendFrame p f).pwr = s.pwr := by dsimp only [State.sendFrame]
@[simp] theorem State.sendFrame_lsio (s : State) (p : Nat) (f : List Byte) : (s.sendFrame p f).lsio = s.lsio := by dsimp only [State.sendFrame]

/-! `putMember` changes `dziv` alone. -/

@[simp] theorem State.putMember_pending (s : State) (m : Nat) (x : Member) : (s.putMember m x).pending = s.pending := by dsimp only [State.putMember]
@[simp] theorem State.putMember_resp (s : State) (m : Nat) (x : Member) : (s.putMember m x).resp = s.resp := by dsimp only [State.putMember]
@[simp] theorem State.putMember_regs (s : State) (m : Nat) (x : Member) : (s.putMember m x).regs = s.regs := by dsimp only [State.putMember]
@[simp] theorem State.putMember_mem (s : State) (m : Nat) (x : Member) : (s.putMember m x).mem = s.mem := by dsimp only [State.putMember]
@[simp] theorem State.putMember_cyc (s : State) (m : Nat) (x : Member) : (s.putMember m x).cyc = s.cyc := by dsimp only [State.putMember]
@[simp] theorem State.putMember_devOff (s : State) (m : Nat) (x : Member) : (s.putMember m x).devOff = s.devOff := by dsimp only [State.putMember]
@[simp] theorem State.putMember_free (s : State) (m : Nat) (x : Member) : (s.putMember m x).free = s.free := by dsimp only [State.putMember]
@[simp] theorem State.putMember_wld (s : State) (m : Nat) (x : Member) : (s.putMember m x).wld = s.wld := by dsimp only [State.putMember]
@[simp] theorem State.putMember_cp (s : State) (m : Nat) (x : Member) : (s.putMember m x).cp = s.cp := by dsimp only [State.putMember]
@[simp] theorem State.putMember_cl (s : State) (m : Nat) (x : Member) : (s.putMember m x).cl = s.cl := by dsimp only [State.putMember]
@[simp] theorem State.putMember_mc (s : State) (m : Nat) (x : Member) : (s.putMember m x).mc = s.mc := by dsimp only [State.putMember]
@[simp] theorem State.putMember_arb (s : State) (m : Nat) (x : Member) : (s.putMember m x).arb = s.arb := by dsimp only [State.putMember]
@[simp] theorem State.putMember_flt (s : State) (m : Nat) (x : Member) : (s.putMember m x).flt = s.flt := by dsimp only [State.putMember]
@[simp] theorem State.putMember_disp (s : State) (m : Nat) (x : Member) : (s.putMember m x).disp = s.disp := by dsimp only [State.putMember]
@[simp] theorem State.putMember_etch (s : State) (m : Nat) (x : Member) : (s.putMember m x).etch = s.etch := by dsimp only [State.putMember]
@[simp] theorem State.putMember_prf (s : State) (m : Nat) (x : Member) : (s.putMember m x).prf = s.prf := by dsimp only [State.putMember]
@[simp] theorem State.putMember_grv (s : State) (m : Nat) (x : Member) : (s.putMember m x).grv = s.grv := by dsimp only [State.putMember]
@[simp] theorem State.putMember_touch (s : State) (m : Nat) (x : Member) : (s.putMember m x).touch = s.touch := by dsimp only [State.putMember]
@[simp] theorem State.putMember_hap (s : State) (m : Nat) (x : Member) : (s.putMember m x).hap = s.hap := by dsimp only [State.putMember]
@[simp] theorem State.putMember_fol (s : State) (m : Nat) (x : Member) : (s.putMember m x).fol = s.fol := by dsimp only [State.putMember]
@[simp] theorem State.putMember_aud (s : State) (m : Nat) (x : Member) : (s.putMember m x).aud = s.aud := by dsimp only [State.putMember]
@[simp] theorem State.putMember_fw (s : State) (m : Nat) (x : Member) : (s.putMember m x).fw = s.fw := by dsimp only [State.putMember]
@[simp] theorem State.putMember_pwr (s : State) (m : Nat) (x : Member) : (s.putMember m x).pwr = s.pwr := by dsimp only [State.putMember]
@[simp] theorem State.putMember_lsio (s : State) (m : Nat) (x : Member) : (s.putMember m x).lsio = s.lsio := by dsimp only [State.putMember]

/-! `setIntercom` changes `dziv` alone. -/

@[simp] theorem State.setIntercom_pending (s : State) (i : Nat) (x : Intercom) : (s.setIntercom i x).pending = s.pending := by dsimp only [State.setIntercom]
@[simp] theorem State.setIntercom_resp (s : State) (i : Nat) (x : Intercom) : (s.setIntercom i x).resp = s.resp := by dsimp only [State.setIntercom]
@[simp] theorem State.setIntercom_regs (s : State) (i : Nat) (x : Intercom) : (s.setIntercom i x).regs = s.regs := by dsimp only [State.setIntercom]
@[simp] theorem State.setIntercom_mem (s : State) (i : Nat) (x : Intercom) : (s.setIntercom i x).mem = s.mem := by dsimp only [State.setIntercom]
@[simp] theorem State.setIntercom_cyc (s : State) (i : Nat) (x : Intercom) : (s.setIntercom i x).cyc = s.cyc := by dsimp only [State.setIntercom]
@[simp] theorem State.setIntercom_devOff (s : State) (i : Nat) (x : Intercom) : (s.setIntercom i x).devOff = s.devOff := by dsimp only [State.setIntercom]
@[simp] theorem State.setIntercom_free (s : State) (i : Nat) (x : Intercom) : (s.setIntercom i x).free = s.free := by dsimp only [State.setIntercom]
@[simp] theorem State.setIntercom_wld (s : State) (i : Nat) (x : Intercom) : (s.setIntercom i x).wld = s.wld := by dsimp only [State.setIntercom]
@[simp] theorem State.setIntercom_cp (s : State) (i : Nat) (x : Intercom) : (s.setIntercom i x).cp = s.cp := by dsimp only [State.setIntercom]
@[simp] theorem State.setIntercom_cl (s : State) (i : Nat) (x : Intercom) : (s.setIntercom i x).cl = s.cl := by dsimp only [State.setIntercom]
@[simp] theorem State.setIntercom_mc (s : State) (i : Nat) (x : Intercom) : (s.setIntercom i x).mc = s.mc := by dsimp only [State.setIntercom]
@[simp] theorem State.setIntercom_arb (s : State) (i : Nat) (x : Intercom) : (s.setIntercom i x).arb = s.arb := by dsimp only [State.setIntercom]
@[simp] theorem State.setIntercom_flt (s : State) (i : Nat) (x : Intercom) : (s.setIntercom i x).flt = s.flt := by dsimp only [State.setIntercom]
@[simp] theorem State.setIntercom_disp (s : State) (i : Nat) (x : Intercom) : (s.setIntercom i x).disp = s.disp := by dsimp only [State.setIntercom]
@[simp] theorem State.setIntercom_etch (s : State) (i : Nat) (x : Intercom) : (s.setIntercom i x).etch = s.etch := by dsimp only [State.setIntercom]
@[simp] theorem State.setIntercom_prf (s : State) (i : Nat) (x : Intercom) : (s.setIntercom i x).prf = s.prf := by dsimp only [State.setIntercom]
@[simp] theorem State.setIntercom_grv (s : State) (i : Nat) (x : Intercom) : (s.setIntercom i x).grv = s.grv := by dsimp only [State.setIntercom]
@[simp] theorem State.setIntercom_touch (s : State) (i : Nat) (x : Intercom) : (s.setIntercom i x).touch = s.touch := by dsimp only [State.setIntercom]
@[simp] theorem State.setIntercom_hap (s : State) (i : Nat) (x : Intercom) : (s.setIntercom i x).hap = s.hap := by dsimp only [State.setIntercom]
@[simp] theorem State.setIntercom_fol (s : State) (i : Nat) (x : Intercom) : (s.setIntercom i x).fol = s.fol := by dsimp only [State.setIntercom]
@[simp] theorem State.setIntercom_aud (s : State) (i : Nat) (x : Intercom) : (s.setIntercom i x).aud = s.aud := by dsimp only [State.setIntercom]
@[simp] theorem State.setIntercom_fw (s : State) (i : Nat) (x : Intercom) : (s.setIntercom i x).fw = s.fw := by dsimp only [State.setIntercom]
@[simp] theorem State.setIntercom_pwr (s : State) (i : Nat) (x : Intercom) : (s.setIntercom i x).pwr = s.pwr := by dsimp only [State.setIntercom]
@[simp] theorem State.setIntercom_lsio (s : State) (i : Nat) (x : Intercom) : (s.setIntercom i x).lsio = s.lsio := by dsimp only [State.setIntercom]

/-! `setQp` changes `dziv` alone. -/

@[simp] theorem State.setQp_pending (s : State) (q : Nat) (x : Option Qp) : (s.setQp q x).pending = s.pending := by dsimp only [State.setQp]
@[simp] theorem State.setQp_resp (s : State) (q : Nat) (x : Option Qp) : (s.setQp q x).resp = s.resp := by dsimp only [State.setQp]
@[simp] theorem State.setQp_regs (s : State) (q : Nat) (x : Option Qp) : (s.setQp q x).regs = s.regs := by dsimp only [State.setQp]
@[simp] theorem State.setQp_mem (s : State) (q : Nat) (x : Option Qp) : (s.setQp q x).mem = s.mem := by dsimp only [State.setQp]
@[simp] theorem State.setQp_cyc (s : State) (q : Nat) (x : Option Qp) : (s.setQp q x).cyc = s.cyc := by dsimp only [State.setQp]
@[simp] theorem State.setQp_devOff (s : State) (q : Nat) (x : Option Qp) : (s.setQp q x).devOff = s.devOff := by dsimp only [State.setQp]
@[simp] theorem State.setQp_free (s : State) (q : Nat) (x : Option Qp) : (s.setQp q x).free = s.free := by dsimp only [State.setQp]
@[simp] theorem State.setQp_wld (s : State) (q : Nat) (x : Option Qp) : (s.setQp q x).wld = s.wld := by dsimp only [State.setQp]
@[simp] theorem State.setQp_cp (s : State) (q : Nat) (x : Option Qp) : (s.setQp q x).cp = s.cp := by dsimp only [State.setQp]
@[simp] theorem State.setQp_cl (s : State) (q : Nat) (x : Option Qp) : (s.setQp q x).cl = s.cl := by dsimp only [State.setQp]
@[simp] theorem State.setQp_mc (s : State) (q : Nat) (x : Option Qp) : (s.setQp q x).mc = s.mc := by dsimp only [State.setQp]
@[simp] theorem State.setQp_arb (s : State) (q : Nat) (x : Option Qp) : (s.setQp q x).arb = s.arb := by dsimp only [State.setQp]
@[simp] theorem State.setQp_flt (s : State) (q : Nat) (x : Option Qp) : (s.setQp q x).flt = s.flt := by dsimp only [State.setQp]
@[simp] theorem State.setQp_disp (s : State) (q : Nat) (x : Option Qp) : (s.setQp q x).disp = s.disp := by dsimp only [State.setQp]
@[simp] theorem State.setQp_etch (s : State) (q : Nat) (x : Option Qp) : (s.setQp q x).etch = s.etch := by dsimp only [State.setQp]
@[simp] theorem State.setQp_prf (s : State) (q : Nat) (x : Option Qp) : (s.setQp q x).prf = s.prf := by dsimp only [State.setQp]
@[simp] theorem State.setQp_grv (s : State) (q : Nat) (x : Option Qp) : (s.setQp q x).grv = s.grv := by dsimp only [State.setQp]
@[simp] theorem State.setQp_touch (s : State) (q : Nat) (x : Option Qp) : (s.setQp q x).touch = s.touch := by dsimp only [State.setQp]
@[simp] theorem State.setQp_hap (s : State) (q : Nat) (x : Option Qp) : (s.setQp q x).hap = s.hap := by dsimp only [State.setQp]
@[simp] theorem State.setQp_fol (s : State) (q : Nat) (x : Option Qp) : (s.setQp q x).fol = s.fol := by dsimp only [State.setQp]
@[simp] theorem State.setQp_aud (s : State) (q : Nat) (x : Option Qp) : (s.setQp q x).aud = s.aud := by dsimp only [State.setQp]
@[simp] theorem State.setQp_fw (s : State) (q : Nat) (x : Option Qp) : (s.setQp q x).fw = s.fw := by dsimp only [State.setQp]
@[simp] theorem State.setQp_pwr (s : State) (q : Nat) (x : Option Qp) : (s.setQp q x).pwr = s.pwr := by dsimp only [State.setQp]
@[simp] theorem State.setQp_lsio (s : State) (q : Nat) (x : Option Qp) : (s.setQp q x).lsio = s.lsio := by dsimp only [State.setQp]

/-! `setTx` changes `lsio` alone. -/

@[simp] theorem State.setTx_pending (s : State) (p : Nat) (l : List Nat) : (s.setTx p l).pending = s.pending := by dsimp only [State.setTx]
@[simp] theorem State.setTx_resp (s : State) (p : Nat) (l : List Nat) : (s.setTx p l).resp = s.resp := by dsimp only [State.setTx]
@[simp] theorem State.setTx_regs (s : State) (p : Nat) (l : List Nat) : (s.setTx p l).regs = s.regs := by dsimp only [State.setTx]
@[simp] theorem State.setTx_mem (s : State) (p : Nat) (l : List Nat) : (s.setTx p l).mem = s.mem := by dsimp only [State.setTx]
@[simp] theorem State.setTx_cyc (s : State) (p : Nat) (l : List Nat) : (s.setTx p l).cyc = s.cyc := by dsimp only [State.setTx]
@[simp] theorem State.setTx_devOff (s : State) (p : Nat) (l : List Nat) : (s.setTx p l).devOff = s.devOff := by dsimp only [State.setTx]
@[simp] theorem State.setTx_free (s : State) (p : Nat) (l : List Nat) : (s.setTx p l).free = s.free := by dsimp only [State.setTx]
@[simp] theorem State.setTx_wld (s : State) (p : Nat) (l : List Nat) : (s.setTx p l).wld = s.wld := by dsimp only [State.setTx]
@[simp] theorem State.setTx_cp (s : State) (p : Nat) (l : List Nat) : (s.setTx p l).cp = s.cp := by dsimp only [State.setTx]
@[simp] theorem State.setTx_cl (s : State) (p : Nat) (l : List Nat) : (s.setTx p l).cl = s.cl := by dsimp only [State.setTx]
@[simp] theorem State.setTx_mc (s : State) (p : Nat) (l : List Nat) : (s.setTx p l).mc = s.mc := by dsimp only [State.setTx]
@[simp] theorem State.setTx_arb (s : State) (p : Nat) (l : List Nat) : (s.setTx p l).arb = s.arb := by dsimp only [State.setTx]
@[simp] theorem State.setTx_flt (s : State) (p : Nat) (l : List Nat) : (s.setTx p l).flt = s.flt := by dsimp only [State.setTx]
@[simp] theorem State.setTx_disp (s : State) (p : Nat) (l : List Nat) : (s.setTx p l).disp = s.disp := by dsimp only [State.setTx]
@[simp] theorem State.setTx_etch (s : State) (p : Nat) (l : List Nat) : (s.setTx p l).etch = s.etch := by dsimp only [State.setTx]
@[simp] theorem State.setTx_prf (s : State) (p : Nat) (l : List Nat) : (s.setTx p l).prf = s.prf := by dsimp only [State.setTx]
@[simp] theorem State.setTx_grv (s : State) (p : Nat) (l : List Nat) : (s.setTx p l).grv = s.grv := by dsimp only [State.setTx]
@[simp] theorem State.setTx_touch (s : State) (p : Nat) (l : List Nat) : (s.setTx p l).touch = s.touch := by dsimp only [State.setTx]
@[simp] theorem State.setTx_hap (s : State) (p : Nat) (l : List Nat) : (s.setTx p l).hap = s.hap := by dsimp only [State.setTx]
@[simp] theorem State.setTx_fol (s : State) (p : Nat) (l : List Nat) : (s.setTx p l).fol = s.fol := by dsimp only [State.setTx]
@[simp] theorem State.setTx_aud (s : State) (p : Nat) (l : List Nat) : (s.setTx p l).aud = s.aud := by dsimp only [State.setTx]
@[simp] theorem State.setTx_fw (s : State) (p : Nat) (l : List Nat) : (s.setTx p l).fw = s.fw := by dsimp only [State.setTx]
@[simp] theorem State.setTx_pwr (s : State) (p : Nat) (l : List Nat) : (s.setTx p l).pwr = s.pwr := by dsimp only [State.setTx]
@[simp] theorem State.setTx_dziv (s : State) (p : Nat) (l : List Nat) : (s.setTx p l).dziv = s.dziv := by dsimp only [State.setTx]

/-! `setRxFifo` changes `lsio` alone. -/

@[simp] theorem State.setRxFifo_pending (s : State) (p : Nat) (l : List Nat) : (s.setRxFifo p l).pending = s.pending := by dsimp only [State.setRxFifo]
@[simp] theorem State.setRxFifo_resp (s : State) (p : Nat) (l : List Nat) : (s.setRxFifo p l).resp = s.resp := by dsimp only [State.setRxFifo]
@[simp] theorem State.setRxFifo_regs (s : State) (p : Nat) (l : List Nat) : (s.setRxFifo p l).regs = s.regs := by dsimp only [State.setRxFifo]
@[simp] theorem State.setRxFifo_mem (s : State) (p : Nat) (l : List Nat) : (s.setRxFifo p l).mem = s.mem := by dsimp only [State.setRxFifo]
@[simp] theorem State.setRxFifo_cyc (s : State) (p : Nat) (l : List Nat) : (s.setRxFifo p l).cyc = s.cyc := by dsimp only [State.setRxFifo]
@[simp] theorem State.setRxFifo_devOff (s : State) (p : Nat) (l : List Nat) : (s.setRxFifo p l).devOff = s.devOff := by dsimp only [State.setRxFifo]
@[simp] theorem State.setRxFifo_free (s : State) (p : Nat) (l : List Nat) : (s.setRxFifo p l).free = s.free := by dsimp only [State.setRxFifo]
@[simp] theorem State.setRxFifo_wld (s : State) (p : Nat) (l : List Nat) : (s.setRxFifo p l).wld = s.wld := by dsimp only [State.setRxFifo]
@[simp] theorem State.setRxFifo_cp (s : State) (p : Nat) (l : List Nat) : (s.setRxFifo p l).cp = s.cp := by dsimp only [State.setRxFifo]
@[simp] theorem State.setRxFifo_cl (s : State) (p : Nat) (l : List Nat) : (s.setRxFifo p l).cl = s.cl := by dsimp only [State.setRxFifo]
@[simp] theorem State.setRxFifo_mc (s : State) (p : Nat) (l : List Nat) : (s.setRxFifo p l).mc = s.mc := by dsimp only [State.setRxFifo]
@[simp] theorem State.setRxFifo_arb (s : State) (p : Nat) (l : List Nat) : (s.setRxFifo p l).arb = s.arb := by dsimp only [State.setRxFifo]
@[simp] theorem State.setRxFifo_flt (s : State) (p : Nat) (l : List Nat) : (s.setRxFifo p l).flt = s.flt := by dsimp only [State.setRxFifo]
@[simp] theorem State.setRxFifo_disp (s : State) (p : Nat) (l : List Nat) : (s.setRxFifo p l).disp = s.disp := by dsimp only [State.setRxFifo]
@[simp] theorem State.setRxFifo_etch (s : State) (p : Nat) (l : List Nat) : (s.setRxFifo p l).etch = s.etch := by dsimp only [State.setRxFifo]
@[simp] theorem State.setRxFifo_prf (s : State) (p : Nat) (l : List Nat) : (s.setRxFifo p l).prf = s.prf := by dsimp only [State.setRxFifo]
@[simp] theorem State.setRxFifo_grv (s : State) (p : Nat) (l : List Nat) : (s.setRxFifo p l).grv = s.grv := by dsimp only [State.setRxFifo]
@[simp] theorem State.setRxFifo_touch (s : State) (p : Nat) (l : List Nat) : (s.setRxFifo p l).touch = s.touch := by dsimp only [State.setRxFifo]
@[simp] theorem State.setRxFifo_hap (s : State) (p : Nat) (l : List Nat) : (s.setRxFifo p l).hap = s.hap := by dsimp only [State.setRxFifo]
@[simp] theorem State.setRxFifo_fol (s : State) (p : Nat) (l : List Nat) : (s.setRxFifo p l).fol = s.fol := by dsimp only [State.setRxFifo]
@[simp] theorem State.setRxFifo_aud (s : State) (p : Nat) (l : List Nat) : (s.setRxFifo p l).aud = s.aud := by dsimp only [State.setRxFifo]
@[simp] theorem State.setRxFifo_fw (s : State) (p : Nat) (l : List Nat) : (s.setRxFifo p l).fw = s.fw := by dsimp only [State.setRxFifo]
@[simp] theorem State.setRxFifo_pwr (s : State) (p : Nat) (l : List Nat) : (s.setRxFifo p l).pwr = s.pwr := by dsimp only [State.setRxFifo]
@[simp] theorem State.setRxFifo_dziv (s : State) (p : Nat) (l : List Nat) : (s.setRxFifo p l).dziv = s.dziv := by dsimp only [State.setRxFifo]

/-! Reading what was written. -/

@[simp] theorem State.place_setPlace (s : State) (k : Nat) (x : Option Started) : (s.setPlace k x).place k = x := SMap.get_set_same _ _ _ _
theorem State.place_setPlace_ne (s : State) {j k : Nat} (x : Option Started) (h : j ≠ k) : (s.setPlace k x).place j = s.place j := SMap.get_set_ne _ _ _ h
@[simp] theorem State.client_setClient (s : State) (k : Nat) (x : Client) : (s.setClient k x).client k = x := SMap.get_set_same _ _ _ _
theorem State.client_setClient_ne (s : State) {j k : Nat} (x : Client) (h : j ≠ k) : (s.setClient k x).client j = s.client j := SMap.get_set_ne _ _ _ h
@[simp] theorem State.mcQueue_setMcQueue (s : State) (k : Nat) (x : List Queued) : (s.setMcQueue k x).mcQueue k = x := SMap.get_set_same _ _ _ _
theorem State.mcQueue_setMcQueue_ne (s : State) {j k : Nat} (x : List Queued) (h : j ≠ k) : (s.setMcQueue k x).mcQueue j = s.mcQueue j := SMap.get_set_ne _ _ _ h
@[simp] theorem State.mirror_setMirror (s : State) (k : Nat) (x : Option Mirror) : (s.setMirror k x).mirror k = x := SMap.get_set_same _ _ _ _
theorem State.mirror_setMirror_ne (s : State) {j k : Nat} (x : Option Mirror) (h : j ≠ k) : (s.setMirror k x).mirror j = s.mirror j := SMap.get_set_ne _ _ _ h
@[simp] theorem State.grant_setGrant (s : State) (k : Nat) (x : Option Grant) : (s.setGrant k x).grant k = x := SMap.get_set_same _ _ _ _
theorem State.grant_setGrant_ne (s : State) {j k : Nat} (x : Option Grant) (h : j ≠ k) : (s.setGrant k x).grant j = s.grant j := SMap.get_set_ne _ _ _ h
@[simp] theorem State.out_setOut (s : State) (k : Nat) (x : Output) : (s.setOut k x).out k = x := SMap.get_set_same _ _ _ _
theorem State.out_setOut_ne (s : State) {j k : Nat} (x : Output) (h : j ≠ k) : (s.setOut k x).out j = s.out j := SMap.get_set_ne _ _ _ h
@[simp] theorem State.slot_setSlot (s : State) (k : Nat) (x : SlotSt) : (s.setSlot k x).slot k = x := SMap.get_set_same _ _ _ _
theorem State.slot_setSlot_ne (s : State) {j k : Nat} (x : SlotSt) (h : j ≠ k) : (s.setSlot k x).slot j = s.slot j := SMap.get_set_ne _ _ _ h
@[simp] theorem State.panel_setPanel (s : State) (k : Nat) (x : Panel) : (s.setPanel k x).panel k = x := SMap.get_set_same _ _ _ _
theorem State.panel_setPanel_ne (s : State) {j k : Nat} (x : Panel) (h : j ≠ k) : (s.setPanel k x).panel j = s.panel j := SMap.get_set_ne _ _ _ h
@[simp] theorem State.act_setAct (s : State) (k : Nat) (x : Act) : (s.setAct k x).act k = x := SMap.get_set_same _ _ _ _
theorem State.act_setAct_ne (s : State) {j k : Nat} (x : Act) (h : j ≠ k) : (s.setAct k x).act j = s.act j := SMap.get_set_ne _ _ _ h
@[simp] theorem State.wave_setWave (s : State) (k : Nat) (x : Option Wave) : (s.setWave k x).wave k = x := SMap.get_set_same _ _ _ _
theorem State.wave_setWave_ne (s : State) {j k : Nat} (x : Option Wave) (h : j ≠ k) : (s.setWave k x).wave j = s.wave j := SMap.get_set_ne _ _ _ h
@[simp] theorem State.mux_setMux (s : State) (k : Nat) (x : Mux) : (s.setMux k x).mux k = x := SMap.get_set_same _ _ _ _
theorem State.mux_setMux_ne (s : State) {j k : Nat} (x : Mux) (h : j ≠ k) : (s.setMux k x).mux j = s.mux j := SMap.get_set_ne _ _ _ h
@[simp] theorem State.bus_setBus (s : State) (k : Nat) (x : Bus) : (s.setBus k x).bus k = x := SMap.get_set_same _ _ _ _
theorem State.bus_setBus_ne (s : State) {j k : Nat} (x : Bus) (h : j ≠ k) : (s.setBus k x).bus j = s.bus j := SMap.get_set_ne _ _ _ h
@[simp] theorem State.pair_setPair (s : State) (k : Nat) (x : GenPair) : (s.setPair k x).pair k = x := SMap.get_set_same _ _ _ _
theorem State.pair_setPair_ne (s : State) {j k : Nat} (x : GenPair) (h : j ≠ k) : (s.setPair k x).pair j = s.pair j := SMap.get_set_ne _ _ _ h
@[simp] theorem State.stream_setStream (s : State) (k : Nat) (x : Option AStream) : (s.setStream k x).stream k = x := SMap.get_set_same _ _ _ _
theorem State.stream_setStream_ne (s : State) {j k : Nat} (x : Option AStream) (h : j ≠ k) : (s.setStream k x).stream j = s.stream j := SMap.get_set_ne _ _ _ h
@[simp] theorem State.frameLock_setFrameLock (s : State) (k : Nat) (x : Option Lock) : (s.setFrameLock k x).frameLock k = x := SMap.get_set_same _ _ _ _
theorem State.frameLock_setFrameLock_ne (s : State) {j k : Nat} (x : Option Lock) (h : j ≠ k) : (s.setFrameLock k x).frameLock j = s.frameLock j := SMap.get_set_ne _ _ _ h
@[simp] theorem State.member_putMember (s : State) (k : Nat) (x : Member) : (s.putMember k x).member k = x := SMap.get_set_same _ _ _ _
theorem State.member_putMember_ne (s : State) {j k : Nat} (x : Member) (h : j ≠ k) : (s.putMember k x).member j = s.member j := SMap.get_set_ne _ _ _ h
@[simp] theorem State.intercom_setIntercom (s : State) (k : Nat) (x : Intercom) : (s.setIntercom k x).intercom k = x := SMap.get_set_same _ _ _ _
theorem State.intercom_setIntercom_ne (s : State) {j k : Nat} (x : Intercom) (h : j ≠ k) : (s.setIntercom k x).intercom j = s.intercom j := SMap.get_set_ne _ _ _ h
@[simp] theorem State.qp_setQp (s : State) (k : Nat) (x : Option Qp) : (s.setQp k x).qp k = x := SMap.get_set_same _ _ _ _
theorem State.qp_setQp_ne (s : State) {j k : Nat} (x : Option Qp) (h : j ≠ k) : (s.setQp k x).qp j = s.qp j := SMap.get_set_ne _ _ _ h
@[simp] theorem State.rxFifo_setRxFifo (s : State) (k : Nat) (x : List Nat) : (s.setRxFifo k x).rxFifo k = x := SMap.get_set_same _ _ _ _
theorem State.rxFifo_setRxFifo_ne (s : State) {j k : Nat} (x : List Nat) (h : j ≠ k) : (s.setRxFifo k x).rxFifo j = s.rxFifo j := SMap.get_set_ne _ _ _ h

@[simp] theorem State.rg_setRg (s : State) (a : Nat) (v : Word) : (s.setRg a v).rg a = v := by simp only [State.rg, State.setRg, SMap.get_set_same]
@[simp] theorem State.rg_setRg_ne (s : State) {a b : Nat} (v : Word) (h : b ≠ a) : (s.setRg a v).rg b = s.rg b := by
  simp only [State.rg, State.setRg, SMap.get_set_ne _ _ _ h]
@[simp] theorem State.ring_setRing (s : State) (r : RingId) (x : RingSet) : (s.setRing r x).ring r = x := SMap.get_set_same _ _ _ _
theorem State.ring_setRing_ne (s : State) {r q : RingId} (x : RingSet) (h : ringKey q ≠ ringKey r) : (s.setRing r x).ring q = s.ring q :=
  SMap.get_set_ne _ _ _ h

/-! Registers, places, rings, clients and memory as they read through an update of another part. -/

@[simp] theorem State.place_of_setRg (s : State) (a : Nat) (v : Word) (x : Nat) : (s.setRg a v).place x = s.place x := by dsimp only [State.place, State.setRg]
@[simp] theorem State.ring_of_setRg (s : State) (a : Nat) (v : Word) (x : RingId) : (s.setRg a v).ring x = s.ring x := by dsimp only [State.ring, State.setRg]
@[simp] theorem State.client_of_setRg (s : State) (a : Nat) (v : Word) (x : Nat) : (s.setRg a v).client x = s.client x := by dsimp only [State.client, State.setRg]
@[simp] theorem State.byte_of_setRg (s : State) (a : Nat) (v : Word) (x : Nat) : (s.setRg a v).byte x = s.byte x := by dsimp only [State.byte, State.setRg]
@[simp] theorem State.isPend_of_setRg (s : State) (a : Nat) (v : Word) (x : Nat) : (s.setRg a v).isPend x = s.isPend x := by dsimp only [State.isPend, State.setRg]
@[simp] theorem State.place_of_setFld (s : State) (f : Fld) (v n : Nat) (x : Nat) : (s.setFld f v n).place x = s.place x := by dsimp only [State.place, State.setFld, State.setRg]
@[simp] theorem State.ring_of_setFld (s : State) (f : Fld) (v n : Nat) (x : RingId) : (s.setFld f v n).ring x = s.ring x := by dsimp only [State.ring, State.setFld, State.setRg]
@[simp] theorem State.client_of_setFld (s : State) (f : Fld) (v n : Nat) (x : Nat) : (s.setFld f v n).client x = s.client x := by dsimp only [State.client, State.setFld, State.setRg]
@[simp] theorem State.byte_of_setFld (s : State) (f : Fld) (v n : Nat) (x : Nat) : (s.setFld f v n).byte x = s.byte x := by dsimp only [State.byte, State.setFld, State.setRg]
@[simp] theorem State.isPend_of_setFld (s : State) (f : Fld) (v n : Nat) (x : Nat) : (s.setFld f v n).isPend x = s.isPend x := by dsimp only [State.isPend, State.setFld, State.setRg]
@[simp] theorem State.place_of_setFlag (s : State) (f : Fld) (b : Bool) (n : Nat) (x : Nat) : (s.setFlag f b n).place x = s.place x := by dsimp only [State.place, State.setFlag, State.setFld, State.setRg]
@[simp] theorem State.ring_of_setFlag (s : State) (f : Fld) (b : Bool) (n : Nat) (x : RingId) : (s.setFlag f b n).ring x = s.ring x := by dsimp only [State.ring, State.setFlag, State.setFld, State.setRg]
@[simp] theorem State.client_of_setFlag (s : State) (f : Fld) (b : Bool) (n : Nat) (x : Nat) : (s.setFlag f b n).client x = s.client x := by dsimp only [State.client, State.setFlag, State.setFld, State.setRg]
@[simp] theorem State.byte_of_setFlag (s : State) (f : Fld) (b : Bool) (n : Nat) (x : Nat) : (s.setFlag f b n).byte x = s.byte x := by dsimp only [State.byte, State.setFlag, State.setFld, State.setRg]
@[simp] theorem State.isPend_of_setFlag (s : State) (f : Fld) (b : Bool) (n : Nat) (x : Nat) : (s.setFlag f b n).isPend x = s.isPend x := by dsimp only [State.isPend, State.setFlag, State.setFld, State.setRg]
@[simp] theorem State.place_of_satInc (s : State) (f : Fld) (n k : Nat) (x : Nat) : (s.satInc f n k).place x = s.place x := by dsimp only [State.place, State.satInc, State.setFld, State.setRg]
@[simp] theorem State.ring_of_satInc (s : State) (f : Fld) (n k : Nat) (x : RingId) : (s.satInc f n k).ring x = s.ring x := by dsimp only [State.ring, State.satInc, State.setFld, State.setRg]
@[simp] theorem State.client_of_satInc (s : State) (f : Fld) (n k : Nat) (x : Nat) : (s.satInc f n k).client x = s.client x := by dsimp only [State.client, State.satInc, State.setFld, State.setRg]
@[simp] theorem State.byte_of_satInc (s : State) (f : Fld) (n k : Nat) (x : Nat) : (s.satInc f n k).byte x = s.byte x := by dsimp only [State.byte, State.satInc, State.setFld, State.setRg]
@[simp] theorem State.isPend_of_satInc (s : State) (f : Fld) (n k : Nat) (x : Nat) : (s.satInc f n k).isPend x = s.isPend x := by dsimp only [State.isPend, State.satInc, State.setFld, State.setRg]
@[simp] theorem State.place_of_bumpEpoch (s : State) (c : Nat) (x : Nat) : (s.bumpEpoch c).place x = s.place x := by dsimp only [State.place, State.bumpEpoch, State.setFld, State.setRg]
@[simp] theorem State.ring_of_bumpEpoch (s : State) (c : Nat) (x : RingId) : (s.bumpEpoch c).ring x = s.ring x := by dsimp only [State.ring, State.bumpEpoch, State.setFld, State.setRg]
@[simp] theorem State.client_of_bumpEpoch (s : State) (c : Nat) (x : Nat) : (s.bumpEpoch c).client x = s.client x := by dsimp only [State.client, State.bumpEpoch, State.setFld, State.setRg]
@[simp] theorem State.byte_of_bumpEpoch (s : State) (c : Nat) (x : Nat) : (s.bumpEpoch c).byte x = s.byte x := by dsimp only [State.byte, State.bumpEpoch, State.setFld, State.setRg]
@[simp] theorem State.isPend_of_bumpEpoch (s : State) (c : Nat) (x : Nat) : (s.bumpEpoch c).isPend x = s.isPend x := by dsimp only [State.isPend, State.bumpEpoch, State.setFld, State.setRg]
@[simp] theorem State.place_of_put32 (s : State) (a v : Nat) (x : Nat) : (s.put32 a v).place x = s.place x := by dsimp only [State.place, State.put32, State.setRg]
@[simp] theorem State.ring_of_put32 (s : State) (a v : Nat) (x : RingId) : (s.put32 a v).ring x = s.ring x := by dsimp only [State.ring, State.put32, State.setRg]
@[simp] theorem State.client_of_put32 (s : State) (a v : Nat) (x : Nat) : (s.put32 a v).client x = s.client x := by dsimp only [State.client, State.put32, State.setRg]
@[simp] theorem State.byte_of_put32 (s : State) (a v : Nat) (x : Nat) : (s.put32 a v).byte x = s.byte x := by dsimp only [State.byte, State.put32, State.setRg]
@[simp] theorem State.isPend_of_put32 (s : State) (a v : Nat) (x : Nat) : (s.put32 a v).isPend x = s.isPend x := by dsimp only [State.isPend, State.put32, State.setRg]
@[simp] theorem State.rg_of_answer (s : State) (r : Resp) (x : Nat) : (s.answer r).rg x = s.rg x := by dsimp only [State.rg, State.answer]
@[simp] theorem State.fld_of_answer (s : State) (r : Resp) (f0 : Fld) (x : Nat) : (s.answer r).fld f0 x = s.fld f0 x := by dsimp only [State.fld, State.rg, State.answer]
@[simp] theorem State.flag_of_answer (s : State) (r : Resp) (f0 : Fld) (x : Nat) : (s.answer r).flag f0 x = s.flag f0 x := by simp only [State.flag, State.fld_of_answer]
@[simp] theorem State.place_of_answer (s : State) (r : Resp) (x : Nat) : (s.answer r).place x = s.place x := by dsimp only [State.place, State.answer]
@[simp] theorem State.ring_of_answer (s : State) (r : Resp) (x : RingId) : (s.answer r).ring x = s.ring x := by dsimp only [State.ring, State.answer]
@[simp] theorem State.client_of_answer (s : State) (r : Resp) (x : Nat) : (s.answer r).client x = s.client x := by dsimp only [State.client, State.answer]
@[simp] theorem State.byte_of_answer (s : State) (r : Resp) (x : Nat) : (s.answer r).byte x = s.byte x := by dsimp only [State.byte, State.answer]
@[simp] theorem State.isPend_of_answer (s : State) (r : Resp) (x : Nat) : (s.answer r).isPend x = s.isPend x := by dsimp only [State.isPend, State.answer]
@[simp] theorem State.rg_of_fresh (s : State) (x : Nat) : (s.fresh).rg x = s.rg x := by dsimp only [State.rg, State.fresh]
@[simp] theorem State.fld_of_fresh (s : State) (f0 : Fld) (x : Nat) : (s.fresh).fld f0 x = s.fld f0 x := by dsimp only [State.fld, State.rg, State.fresh]
@[simp] theorem State.flag_of_fresh (s : State) (f0 : Fld) (x : Nat) : (s.fresh).flag f0 x = s.flag f0 x := by simp only [State.flag, State.fld_of_fresh]
@[simp] theorem State.place_of_fresh (s : State) (x : Nat) : (s.fresh).place x = s.place x := by dsimp only [State.place, State.fresh]
@[simp] theorem State.ring_of_fresh (s : State) (x : RingId) : (s.fresh).ring x = s.ring x := by dsimp only [State.ring, State.fresh]
@[simp] theorem State.client_of_fresh (s : State) (x : Nat) : (s.fresh).client x = s.client x := by dsimp only [State.client, State.fresh]
@[simp] theorem State.byte_of_fresh (s : State) (x : Nat) : (s.fresh).byte x = s.byte x := by dsimp only [State.byte, State.fresh]
@[simp] theorem State.isPend_of_fresh (s : State) (x : Nat) : (s.fresh).isPend x = s.isPend x := by dsimp only [State.isPend, State.fresh]
@[simp] theorem State.rg_of_putBytes (s : State) (a : Nat) (l : List Byte) (x : Nat) : (s.putBytes a l).rg x = s.rg x := by dsimp only [State.rg, State.putBytes]
@[simp] theorem State.fld_of_putBytes (s : State) (a : Nat) (l : List Byte) (f0 : Fld) (x : Nat) : (s.putBytes a l).fld f0 x = s.fld f0 x := by dsimp only [State.fld, State.rg, State.putBytes]
@[simp] theorem State.flag_of_putBytes (s : State) (a : Nat) (l : List Byte) (f0 : Fld) (x : Nat) : (s.putBytes a l).flag f0 x = s.flag f0 x := by simp only [State.flag, State.fld_of_putBytes]
@[simp] theorem State.place_of_putBytes (s : State) (a : Nat) (l : List Byte) (x : Nat) : (s.putBytes a l).place x = s.place x := by dsimp only [State.place, State.putBytes]
@[simp] theorem State.ring_of_putBytes (s : State) (a : Nat) (l : List Byte) (x : RingId) : (s.putBytes a l).ring x = s.ring x := by dsimp only [State.ring, State.putBytes]
@[simp] theorem State.client_of_putBytes (s : State) (a : Nat) (l : List Byte) (x : Nat) : (s.putBytes a l).client x = s.client x := by dsimp only [State.client, State.putBytes]
@[simp] theorem State.isPend_of_putBytes (s : State) (a : Nat) (l : List Byte) (x : Nat) : (s.putBytes a l).isPend x = s.isPend x := by dsimp only [State.isPend, State.putBytes]
@[simp] theorem State.rg_of_raise (s : State) (n : Nat) (x : Nat) : (s.raise n).rg x = s.rg x := by dsimp only [State.rg, State.raise]
@[simp] theorem State.fld_of_raise (s : State) (n : Nat) (f0 : Fld) (x : Nat) : (s.raise n).fld f0 x = s.fld f0 x := by dsimp only [State.fld, State.rg, State.raise]
@[simp] theorem State.flag_of_raise (s : State) (n : Nat) (f0 : Fld) (x : Nat) : (s.raise n).flag f0 x = s.flag f0 x := by simp only [State.flag, State.fld_of_raise]
@[simp] theorem State.place_of_raise (s : State) (n : Nat) (x : Nat) : (s.raise n).place x = s.place x := by dsimp only [State.place, State.raise]
@[simp] theorem State.ring_of_raise (s : State) (n : Nat) (x : RingId) : (s.raise n).ring x = s.ring x := by dsimp only [State.ring, State.raise]
@[simp] theorem State.client_of_raise (s : State) (n : Nat) (x : Nat) : (s.raise n).client x = s.client x := by dsimp only [State.client, State.raise]
@[simp] theorem State.byte_of_raise (s : State) (n : Nat) (x : Nat) : (s.raise n).byte x = s.byte x := by dsimp only [State.byte, State.raise]
@[simp] theorem State.rg_of_clearSrc (s : State) (n : Nat) (x : Nat) : (s.clearSrc n).rg x = s.rg x := by dsimp only [State.rg, State.clearSrc]
@[simp] theorem State.fld_of_clearSrc (s : State) (n : Nat) (f0 : Fld) (x : Nat) : (s.clearSrc n).fld f0 x = s.fld f0 x := by dsimp only [State.fld, State.rg, State.clearSrc]
@[simp] theorem State.flag_of_clearSrc (s : State) (n : Nat) (f0 : Fld) (x : Nat) : (s.clearSrc n).flag f0 x = s.flag f0 x := by simp only [State.flag, State.fld_of_clearSrc]
@[simp] theorem State.place_of_clearSrc (s : State) (n : Nat) (x : Nat) : (s.clearSrc n).place x = s.place x := by dsimp only [State.place, State.clearSrc]
@[simp] theorem State.ring_of_clearSrc (s : State) (n : Nat) (x : RingId) : (s.clearSrc n).ring x = s.ring x := by dsimp only [State.ring, State.clearSrc]
@[simp] theorem State.client_of_clearSrc (s : State) (n : Nat) (x : Nat) : (s.clearSrc n).client x = s.client x := by dsimp only [State.client, State.clearSrc]
@[simp] theorem State.byte_of_clearSrc (s : State) (n : Nat) (x : Nat) : (s.clearSrc n).byte x = s.byte x := by dsimp only [State.byte, State.clearSrc]
@[simp] theorem State.rg_of_setPlace (s : State) (k : Nat) (p : Option Started) (x : Nat) : (s.setPlace k p).rg x = s.rg x := by dsimp only [State.rg, State.setPlace]
@[simp] theorem State.fld_of_setPlace (s : State) (k : Nat) (p : Option Started) (f0 : Fld) (x : Nat) : (s.setPlace k p).fld f0 x = s.fld f0 x := by dsimp only [State.fld, State.rg, State.setPlace]
@[simp] theorem State.flag_of_setPlace (s : State) (k : Nat) (p : Option Started) (f0 : Fld) (x : Nat) : (s.setPlace k p).flag f0 x = s.flag f0 x := by simp only [State.flag, State.fld_of_setPlace]
@[simp] theorem State.client_of_setPlace (s : State) (k : Nat) (p : Option Started) (x : Nat) : (s.setPlace k p).client x = s.client x := by dsimp only [State.client, State.setPlace]
@[simp] theorem State.byte_of_setPlace (s : State) (k : Nat) (p : Option Started) (x : Nat) : (s.setPlace k p).byte x = s.byte x := by dsimp only [State.byte, State.setPlace]
@[simp] theorem State.isPend_of_setPlace (s : State) (k : Nat) (p : Option Started) (x : Nat) : (s.setPlace k p).isPend x = s.isPend x := by dsimp only [State.isPend, State.setPlace]
@[simp] theorem State.rg_of_setRing (s : State) (r : RingId) (y : RingSet) (x : Nat) : (s.setRing r y).rg x = s.rg x := by dsimp only [State.rg, State.setRing]
@[simp] theorem State.fld_of_setRing (s : State) (r : RingId) (y : RingSet) (f0 : Fld) (x : Nat) : (s.setRing r y).fld f0 x = s.fld f0 x := by dsimp only [State.fld, State.rg, State.setRing]
@[simp] theorem State.flag_of_setRing (s : State) (r : RingId) (y : RingSet) (f0 : Fld) (x : Nat) : (s.setRing r y).flag f0 x = s.flag f0 x := by simp only [State.flag, State.fld_of_setRing]
@[simp] theorem State.client_of_setRing (s : State) (r : RingId) (y : RingSet) (x : Nat) : (s.setRing r y).client x = s.client x := by dsimp only [State.client, State.setRing]
@[simp] theorem State.byte_of_setRing (s : State) (r : RingId) (y : RingSet) (x : Nat) : (s.setRing r y).byte x = s.byte x := by dsimp only [State.byte, State.setRing]
@[simp] theorem State.isPend_of_setRing (s : State) (r : RingId) (y : RingSet) (x : Nat) : (s.setRing r y).isPend x = s.isPend x := by dsimp only [State.isPend, State.setRing]
@[simp] theorem State.rg_of_makeResident (s : State) (n : Nat) (x : Nat) : (s.makeResident n).rg x = s.rg x := by dsimp only [State.rg, State.makeResident]
@[simp] theorem State.fld_of_makeResident (s : State) (n : Nat) (f0 : Fld) (x : Nat) : (s.makeResident n).fld f0 x = s.fld f0 x := by dsimp only [State.fld, State.rg, State.makeResident]
@[simp] theorem State.flag_of_makeResident (s : State) (n : Nat) (f0 : Fld) (x : Nat) : (s.makeResident n).flag f0 x = s.flag f0 x := by simp only [State.flag, State.fld_of_makeResident]
@[simp] theorem State.client_of_makeResident (s : State) (n : Nat) (x : Nat) : (s.makeResident n).client x = s.client x := by dsimp only [State.client, State.makeResident]
@[simp] theorem State.byte_of_makeResident (s : State) (n : Nat) (x : Nat) : (s.makeResident n).byte x = s.byte x := by dsimp only [State.byte, State.makeResident]
@[simp] theorem State.isPend_of_makeResident (s : State) (n : Nat) (x : Nat) : (s.makeResident n).isPend x = s.isPend x := by dsimp only [State.isPend, State.makeResident]
@[simp] theorem State.rg_of_evict (s : State) (n : Nat) (x : Nat) : (s.evict n).rg x = s.rg x := by dsimp only [State.rg, State.evict]
@[simp] theorem State.fld_of_evict (s : State) (n : Nat) (f0 : Fld) (x : Nat) : (s.evict n).fld f0 x = s.fld f0 x := by dsimp only [State.fld, State.rg, State.evict]
@[simp] theorem State.flag_of_evict (s : State) (n : Nat) (f0 : Fld) (x : Nat) : (s.evict n).flag f0 x = s.flag f0 x := by simp only [State.flag, State.fld_of_evict]
@[simp] theorem State.client_of_evict (s : State) (n : Nat) (x : Nat) : (s.evict n).client x = s.client x := by dsimp only [State.client, State.evict]
@[simp] theorem State.byte_of_evict (s : State) (n : Nat) (x : Nat) : (s.evict n).byte x = s.byte x := by dsimp only [State.byte, State.evict]
@[simp] theorem State.isPend_of_evict (s : State) (n : Nat) (x : Nat) : (s.evict n).isPend x = s.isPend x := by dsimp only [State.isPend, State.evict]
@[simp] theorem State.rg_of_setClient (s : State) (n : Nat) (c : Client) (x : Nat) : (s.setClient n c).rg x = s.rg x := by dsimp only [State.rg, State.setClient]
@[simp] theorem State.fld_of_setClient (s : State) (n : Nat) (c : Client) (f0 : Fld) (x : Nat) : (s.setClient n c).fld f0 x = s.fld f0 x := by dsimp only [State.fld, State.rg, State.setClient]
@[simp] theorem State.flag_of_setClient (s : State) (n : Nat) (c : Client) (f0 : Fld) (x : Nat) : (s.setClient n c).flag f0 x = s.flag f0 x := by simp only [State.flag, State.fld_of_setClient]
@[simp] theorem State.place_of_setClient (s : State) (n : Nat) (c : Client) (x : Nat) : (s.setClient n c).place x = s.place x := by dsimp only [State.place, State.setClient]
@[simp] theorem State.ring_of_setClient (s : State) (n : Nat) (c : Client) (x : RingId) : (s.setClient n c).ring x = s.ring x := by dsimp only [State.ring, State.setClient]
@[simp] theorem State.byte_of_setClient (s : State) (n : Nat) (c : Client) (x : Nat) : (s.setClient n c).byte x = s.byte x := by dsimp only [State.byte, State.setClient]
@[simp] theorem State.isPend_of_setClient (s : State) (n : Nat) (c : Client) (x : Nat) : (s.setClient n c).isPend x = s.isPend x := by dsimp only [State.isPend, State.setClient]
@[simp] theorem State.rg_of_count (s : State) (o n : Nat) (x : Nat) : (s.count o n).rg x = s.rg x := by dsimp only [State.rg, State.count]
@[simp] theorem State.fld_of_count (s : State) (o n : Nat) (f0 : Fld) (x : Nat) : (s.count o n).fld f0 x = s.fld f0 x := by dsimp only [State.fld, State.rg, State.count]
@[simp] theorem State.flag_of_count (s : State) (o n : Nat) (f0 : Fld) (x : Nat) : (s.count o n).flag f0 x = s.flag f0 x := by simp only [State.flag, State.fld_of_count]
@[simp] theorem State.place_of_count (s : State) (o n : Nat) (x : Nat) : (s.count o n).place x = s.place x := by dsimp only [State.place, State.count]
@[simp] theorem State.ring_of_count (s : State) (o n : Nat) (x : RingId) : (s.count o n).ring x = s.ring x := by dsimp only [State.ring, State.count]
@[simp] theorem State.client_of_count (s : State) (o n : Nat) (x : Nat) : (s.count o n).client x = s.client x := by dsimp only [State.client, State.count]
@[simp] theorem State.byte_of_count (s : State) (o n : Nat) (x : Nat) : (s.count o n).byte x = s.byte x := by dsimp only [State.byte, State.count]
@[simp] theorem State.isPend_of_count (s : State) (o n : Nat) (x : Nat) : (s.count o n).isPend x = s.isPend x := by dsimp only [State.isPend, State.count]
@[simp] theorem State.rg_of_setMcQueue (s : State) (c : Nat) (q : List Queued) (x : Nat) : (s.setMcQueue c q).rg x = s.rg x := by dsimp only [State.rg, State.setMcQueue]
@[simp] theorem State.fld_of_setMcQueue (s : State) (c : Nat) (q : List Queued) (f0 : Fld) (x : Nat) : (s.setMcQueue c q).fld f0 x = s.fld f0 x := by dsimp only [State.fld, State.rg, State.setMcQueue]
@[simp] theorem State.flag_of_setMcQueue (s : State) (c : Nat) (q : List Queued) (f0 : Fld) (x : Nat) : (s.setMcQueue c q).flag f0 x = s.flag f0 x := by simp only [State.flag, State.fld_of_setMcQueue]
@[simp] theorem State.place_of_setMcQueue (s : State) (c : Nat) (q : List Queued) (x : Nat) : (s.setMcQueue c q).place x = s.place x := by dsimp only [State.place, State.setMcQueue]
@[simp] theorem State.ring_of_setMcQueue (s : State) (c : Nat) (q : List Queued) (x : RingId) : (s.setMcQueue c q).ring x = s.ring x := by dsimp only [State.ring, State.setMcQueue]
@[simp] theorem State.client_of_setMcQueue (s : State) (c : Nat) (q : List Queued) (x : Nat) : (s.setMcQueue c q).client x = s.client x := by dsimp only [State.client, State.setMcQueue]
@[simp] theorem State.byte_of_setMcQueue (s : State) (c : Nat) (q : List Queued) (x : Nat) : (s.setMcQueue c q).byte x = s.byte x := by dsimp only [State.byte, State.setMcQueue]
@[simp] theorem State.isPend_of_setMcQueue (s : State) (c : Nat) (q : List Queued) (x : Nat) : (s.setMcQueue c q).isPend x = s.isPend x := by dsimp only [State.isPend, State.setMcQueue]
@[simp] theorem State.rg_of_setMirror (s : State) (m : Nat) (y : Option Mirror) (x : Nat) : (s.setMirror m y).rg x = s.rg x := by dsimp only [State.rg, State.setMirror]
@[simp] theorem State.fld_of_setMirror (s : State) (m : Nat) (y : Option Mirror) (f0 : Fld) (x : Nat) : (s.setMirror m y).fld f0 x = s.fld f0 x := by dsimp only [State.fld, State.rg, State.setMirror]
@[simp] theorem State.flag_of_setMirror (s : State) (m : Nat) (y : Option Mirror) (f0 : Fld) (x : Nat) : (s.setMirror m y).flag f0 x = s.flag f0 x := by simp only [State.flag, State.fld_of_setMirror]
@[simp] theorem State.place_of_setMirror (s : State) (m : Nat) (y : Option Mirror) (x : Nat) : (s.setMirror m y).place x = s.place x := by dsimp only [State.place, State.setMirror]
@[simp] theorem State.ring_of_setMirror (s : State) (m : Nat) (y : Option Mirror) (x : RingId) : (s.setMirror m y).ring x = s.ring x := by dsimp only [State.ring, State.setMirror]
@[simp] theorem State.client_of_setMirror (s : State) (m : Nat) (y : Option Mirror) (x : Nat) : (s.setMirror m y).client x = s.client x := by dsimp only [State.client, State.setMirror]
@[simp] theorem State.byte_of_setMirror (s : State) (m : Nat) (y : Option Mirror) (x : Nat) : (s.setMirror m y).byte x = s.byte x := by dsimp only [State.byte, State.setMirror]
@[simp] theorem State.isPend_of_setMirror (s : State) (m : Nat) (y : Option Mirror) (x : Nat) : (s.setMirror m y).isPend x = s.isPend x := by dsimp only [State.isPend, State.setMirror]
@[simp] theorem State.rg_of_setGrant (s : State) (u : Nat) (g : Option Grant) (x : Nat) : (s.setGrant u g).rg x = s.rg x := by dsimp only [State.rg, State.setGrant]
@[simp] theorem State.fld_of_setGrant (s : State) (u : Nat) (g : Option Grant) (f0 : Fld) (x : Nat) : (s.setGrant u g).fld f0 x = s.fld f0 x := by dsimp only [State.fld, State.rg, State.setGrant]
@[simp] theorem State.flag_of_setGrant (s : State) (u : Nat) (g : Option Grant) (f0 : Fld) (x : Nat) : (s.setGrant u g).flag f0 x = s.flag f0 x := by simp only [State.flag, State.fld_of_setGrant]
@[simp] theorem State.place_of_setGrant (s : State) (u : Nat) (g : Option Grant) (x : Nat) : (s.setGrant u g).place x = s.place x := by dsimp only [State.place, State.setGrant]
@[simp] theorem State.ring_of_setGrant (s : State) (u : Nat) (g : Option Grant) (x : RingId) : (s.setGrant u g).ring x = s.ring x := by dsimp only [State.ring, State.setGrant]
@[simp] theorem State.client_of_setGrant (s : State) (u : Nat) (g : Option Grant) (x : Nat) : (s.setGrant u g).client x = s.client x := by dsimp only [State.client, State.setGrant]
@[simp] theorem State.byte_of_setGrant (s : State) (u : Nat) (g : Option Grant) (x : Nat) : (s.setGrant u g).byte x = s.byte x := by dsimp only [State.byte, State.setGrant]
@[simp] theorem State.isPend_of_setGrant (s : State) (u : Nat) (g : Option Grant) (x : Nat) : (s.setGrant u g).isPend x = s.isPend x := by dsimp only [State.isPend, State.setGrant]
@[simp] theorem State.rg_of_setQueue (s : State) (p : Nat) (q o : List Request) (x : Nat) : (s.setQueue p q o).rg x = s.rg x := by dsimp only [State.rg, State.setQueue]
@[simp] theorem State.fld_of_setQueue (s : State) (p : Nat) (q o : List Request) (f0 : Fld) (x : Nat) : (s.setQueue p q o).fld f0 x = s.fld f0 x := by dsimp only [State.fld, State.rg, State.setQueue]
@[simp] theorem State.flag_of_setQueue (s : State) (p : Nat) (q o : List Request) (f0 : Fld) (x : Nat) : (s.setQueue p q o).flag f0 x = s.flag f0 x := by simp only [State.flag, State.fld_of_setQueue]
@[simp] theorem State.place_of_setQueue (s : State) (p : Nat) (q o : List Request) (x : Nat) : (s.setQueue p q o).place x = s.place x := by dsimp only [State.place, State.setQueue]
@[simp] theorem State.ring_of_setQueue (s : State) (p : Nat) (q o : List Request) (x : RingId) : (s.setQueue p q o).ring x = s.ring x := by dsimp only [State.ring, State.setQueue]
@[simp] theorem State.client_of_setQueue (s : State) (p : Nat) (q o : List Request) (x : Nat) : (s.setQueue p q o).client x = s.client x := by dsimp only [State.client, State.setQueue]
@[simp] theorem State.byte_of_setQueue (s : State) (p : Nat) (q o : List Request) (x : Nat) : (s.setQueue p q o).byte x = s.byte x := by dsimp only [State.byte, State.setQueue]
@[simp] theorem State.isPend_of_setQueue (s : State) (p : Nat) (q o : List Request) (x : Nat) : (s.setQueue p q o).isPend x = s.isPend x := by dsimp only [State.isPend, State.setQueue]
@[simp] theorem State.rg_of_setOut (s : State) (n : Nat) (o : Output) (x : Nat) : (s.setOut n o).rg x = s.rg x := by dsimp only [State.rg, State.setOut]
@[simp] theorem State.fld_of_setOut (s : State) (n : Nat) (o : Output) (f0 : Fld) (x : Nat) : (s.setOut n o).fld f0 x = s.fld f0 x := by dsimp only [State.fld, State.rg, State.setOut]
@[simp] theorem State.flag_of_setOut (s : State) (n : Nat) (o : Output) (f0 : Fld) (x : Nat) : (s.setOut n o).flag f0 x = s.flag f0 x := by simp only [State.flag, State.fld_of_setOut]
@[simp] theorem State.place_of_setOut (s : State) (n : Nat) (o : Output) (x : Nat) : (s.setOut n o).place x = s.place x := by dsimp only [State.place, State.setOut]
@[simp] theorem State.ring_of_setOut (s : State) (n : Nat) (o : Output) (x : RingId) : (s.setOut n o).ring x = s.ring x := by dsimp only [State.ring, State.setOut]
@[simp] theorem State.client_of_setOut (s : State) (n : Nat) (o : Output) (x : Nat) : (s.setOut n o).client x = s.client x := by dsimp only [State.client, State.setOut]
@[simp] theorem State.byte_of_setOut (s : State) (n : Nat) (o : Output) (x : Nat) : (s.setOut n o).byte x = s.byte x := by dsimp only [State.byte, State.setOut]
@[simp] theorem State.isPend_of_setOut (s : State) (n : Nat) (o : Output) (x : Nat) : (s.setOut n o).isPend x = s.isPend x := by dsimp only [State.isPend, State.setOut]
@[simp] theorem State.rg_of_setSlot (s : State) (l : Nat) (y : SlotSt) (x : Nat) : (s.setSlot l y).rg x = s.rg x := by dsimp only [State.rg, State.setSlot]
@[simp] theorem State.fld_of_setSlot (s : State) (l : Nat) (y : SlotSt) (f0 : Fld) (x : Nat) : (s.setSlot l y).fld f0 x = s.fld f0 x := by dsimp only [State.fld, State.rg, State.setSlot]
@[simp] theorem State.flag_of_setSlot (s : State) (l : Nat) (y : SlotSt) (f0 : Fld) (x : Nat) : (s.setSlot l y).flag f0 x = s.flag f0 x := by simp only [State.flag, State.fld_of_setSlot]
@[simp] theorem State.place_of_setSlot (s : State) (l : Nat) (y : SlotSt) (x : Nat) : (s.setSlot l y).place x = s.place x := by dsimp only [State.place, State.setSlot]
@[simp] theorem State.ring_of_setSlot (s : State) (l : Nat) (y : SlotSt) (x : RingId) : (s.setSlot l y).ring x = s.ring x := by dsimp only [State.ring, State.setSlot]
@[simp] theorem State.client_of_setSlot (s : State) (l : Nat) (y : SlotSt) (x : Nat) : (s.setSlot l y).client x = s.client x := by dsimp only [State.client, State.setSlot]
@[simp] theorem State.byte_of_setSlot (s : State) (l : Nat) (y : SlotSt) (x : Nat) : (s.setSlot l y).byte x = s.byte x := by dsimp only [State.byte, State.setSlot]
@[simp] theorem State.isPend_of_setSlot (s : State) (l : Nat) (y : SlotSt) (x : Nat) : (s.setSlot l y).isPend x = s.isPend x := by dsimp only [State.isPend, State.setSlot]
@[simp] theorem State.rg_of_setReady (s : State) (n : Nat) (r : Option Bool) (x : Nat) : (s.setReady n r).rg x = s.rg x := by dsimp only [State.rg, State.setReady]
@[simp] theorem State.fld_of_setReady (s : State) (n : Nat) (r : Option Bool) (f0 : Fld) (x : Nat) : (s.setReady n r).fld f0 x = s.fld f0 x := by dsimp only [State.fld, State.rg, State.setReady]
@[simp] theorem State.flag_of_setReady (s : State) (n : Nat) (r : Option Bool) (f0 : Fld) (x : Nat) : (s.setReady n r).flag f0 x = s.flag f0 x := by simp only [State.flag, State.fld_of_setReady]
@[simp] theorem State.place_of_setReady (s : State) (n : Nat) (r : Option Bool) (x : Nat) : (s.setReady n r).place x = s.place x := by dsimp only [State.place, State.setReady]
@[simp] theorem State.ring_of_setReady (s : State) (n : Nat) (r : Option Bool) (x : RingId) : (s.setReady n r).ring x = s.ring x := by dsimp only [State.ring, State.setReady]
@[simp] theorem State.client_of_setReady (s : State) (n : Nat) (r : Option Bool) (x : Nat) : (s.setReady n r).client x = s.client x := by dsimp only [State.client, State.setReady]
@[simp] theorem State.byte_of_setReady (s : State) (n : Nat) (r : Option Bool) (x : Nat) : (s.setReady n r).byte x = s.byte x := by dsimp only [State.byte, State.setReady]
@[simp] theorem State.isPend_of_setReady (s : State) (n : Nat) (r : Option Bool) (x : Nat) : (s.setReady n r).isPend x = s.isPend x := by dsimp only [State.isPend, State.setReady]
@[simp] theorem State.rg_of_setGrvPalette (s : State) (r : RingId) (l : List Byte) (x : Nat) : (s.setGrvPalette r l).rg x = s.rg x := by dsimp only [State.rg, State.setGrvPalette]
@[simp] theorem State.fld_of_setGrvPalette (s : State) (r : RingId) (l : List Byte) (f0 : Fld) (x : Nat) : (s.setGrvPalette r l).fld f0 x = s.fld f0 x := by dsimp only [State.fld, State.rg, State.setGrvPalette]
@[simp] theorem State.flag_of_setGrvPalette (s : State) (r : RingId) (l : List Byte) (f0 : Fld) (x : Nat) : (s.setGrvPalette r l).flag f0 x = s.flag f0 x := by simp only [State.flag, State.fld_of_setGrvPalette]
@[simp] theorem State.place_of_setGrvPalette (s : State) (r : RingId) (l : List Byte) (x : Nat) : (s.setGrvPalette r l).place x = s.place x := by dsimp only [State.place, State.setGrvPalette]
@[simp] theorem State.ring_of_setGrvPalette (s : State) (r : RingId) (l : List Byte) (x : RingId) : (s.setGrvPalette r l).ring x = s.ring x := by dsimp only [State.ring, State.setGrvPalette]
@[simp] theorem State.client_of_setGrvPalette (s : State) (r : RingId) (l : List Byte) (x : Nat) : (s.setGrvPalette r l).client x = s.client x := by dsimp only [State.client, State.setGrvPalette]
@[simp] theorem State.byte_of_setGrvPalette (s : State) (r : RingId) (l : List Byte) (x : Nat) : (s.setGrvPalette r l).byte x = s.byte x := by dsimp only [State.byte, State.setGrvPalette]
@[simp] theorem State.isPend_of_setGrvPalette (s : State) (r : RingId) (l : List Byte) (x : Nat) : (s.setGrvPalette r l).isPend x = s.isPend x := by dsimp only [State.isPend, State.setGrvPalette]
@[simp] theorem State.rg_of_setPanel (s : State) (p : Nat) (y : Panel) (x : Nat) : (s.setPanel p y).rg x = s.rg x := by dsimp only [State.rg, State.setPanel]
@[simp] theorem State.fld_of_setPanel (s : State) (p : Nat) (y : Panel) (f0 : Fld) (x : Nat) : (s.setPanel p y).fld f0 x = s.fld f0 x := by dsimp only [State.fld, State.rg, State.setPanel]
@[simp] theorem State.flag_of_setPanel (s : State) (p : Nat) (y : Panel) (f0 : Fld) (x : Nat) : (s.setPanel p y).flag f0 x = s.flag f0 x := by simp only [State.flag, State.fld_of_setPanel]
@[simp] theorem State.place_of_setPanel (s : State) (p : Nat) (y : Panel) (x : Nat) : (s.setPanel p y).place x = s.place x := by dsimp only [State.place, State.setPanel]
@[simp] theorem State.ring_of_setPanel (s : State) (p : Nat) (y : Panel) (x : RingId) : (s.setPanel p y).ring x = s.ring x := by dsimp only [State.ring, State.setPanel]
@[simp] theorem State.client_of_setPanel (s : State) (p : Nat) (y : Panel) (x : Nat) : (s.setPanel p y).client x = s.client x := by dsimp only [State.client, State.setPanel]
@[simp] theorem State.byte_of_setPanel (s : State) (p : Nat) (y : Panel) (x : Nat) : (s.setPanel p y).byte x = s.byte x := by dsimp only [State.byte, State.setPanel]
@[simp] theorem State.isPend_of_setPanel (s : State) (p : Nat) (y : Panel) (x : Nat) : (s.setPanel p y).isPend x = s.isPend x := by dsimp only [State.isPend, State.setPanel]
@[simp] theorem State.rg_of_setAct (s : State) (a : Nat) (y : Act) (x : Nat) : (s.setAct a y).rg x = s.rg x := by dsimp only [State.rg, State.setAct]
@[simp] theorem State.fld_of_setAct (s : State) (a : Nat) (y : Act) (f0 : Fld) (x : Nat) : (s.setAct a y).fld f0 x = s.fld f0 x := by dsimp only [State.fld, State.rg, State.setAct]
@[simp] theorem State.flag_of_setAct (s : State) (a : Nat) (y : Act) (f0 : Fld) (x : Nat) : (s.setAct a y).flag f0 x = s.flag f0 x := by simp only [State.flag, State.fld_of_setAct]
@[simp] theorem State.place_of_setAct (s : State) (a : Nat) (y : Act) (x : Nat) : (s.setAct a y).place x = s.place x := by dsimp only [State.place, State.setAct]
@[simp] theorem State.ring_of_setAct (s : State) (a : Nat) (y : Act) (x : RingId) : (s.setAct a y).ring x = s.ring x := by dsimp only [State.ring, State.setAct]
@[simp] theorem State.client_of_setAct (s : State) (a : Nat) (y : Act) (x : Nat) : (s.setAct a y).client x = s.client x := by dsimp only [State.client, State.setAct]
@[simp] theorem State.byte_of_setAct (s : State) (a : Nat) (y : Act) (x : Nat) : (s.setAct a y).byte x = s.byte x := by dsimp only [State.byte, State.setAct]
@[simp] theorem State.isPend_of_setAct (s : State) (a : Nat) (y : Act) (x : Nat) : (s.setAct a y).isPend x = s.isPend x := by dsimp only [State.isPend, State.setAct]
@[simp] theorem State.rg_of_setWave (s : State) (k : Nat) (w : Option Wave) (x : Nat) : (s.setWave k w).rg x = s.rg x := by dsimp only [State.rg, State.setWave]
@[simp] theorem State.fld_of_setWave (s : State) (k : Nat) (w : Option Wave) (f0 : Fld) (x : Nat) : (s.setWave k w).fld f0 x = s.fld f0 x := by dsimp only [State.fld, State.rg, State.setWave]
@[simp] theorem State.flag_of_setWave (s : State) (k : Nat) (w : Option Wave) (f0 : Fld) (x : Nat) : (s.setWave k w).flag f0 x = s.flag f0 x := by simp only [State.flag, State.fld_of_setWave]
@[simp] theorem State.place_of_setWave (s : State) (k : Nat) (w : Option Wave) (x : Nat) : (s.setWave k w).place x = s.place x := by dsimp only [State.place, State.setWave]
@[simp] theorem State.ring_of_setWave (s : State) (k : Nat) (w : Option Wave) (x : RingId) : (s.setWave k w).ring x = s.ring x := by dsimp only [State.ring, State.setWave]
@[simp] theorem State.client_of_setWave (s : State) (k : Nat) (w : Option Wave) (x : Nat) : (s.setWave k w).client x = s.client x := by dsimp only [State.client, State.setWave]
@[simp] theorem State.byte_of_setWave (s : State) (k : Nat) (w : Option Wave) (x : Nat) : (s.setWave k w).byte x = s.byte x := by dsimp only [State.byte, State.setWave]
@[simp] theorem State.isPend_of_setWave (s : State) (k : Nat) (w : Option Wave) (x : Nat) : (s.setWave k w).isPend x = s.isPend x := by dsimp only [State.isPend, State.setWave]
@[simp] theorem State.rg_of_setMux (s : State) (d : Nat) (m : Mux) (x : Nat) : (s.setMux d m).rg x = s.rg x := by dsimp only [State.rg, State.setMux]
@[simp] theorem State.fld_of_setMux (s : State) (d : Nat) (m : Mux) (f0 : Fld) (x : Nat) : (s.setMux d m).fld f0 x = s.fld f0 x := by dsimp only [State.fld, State.rg, State.setMux]
@[simp] theorem State.flag_of_setMux (s : State) (d : Nat) (m : Mux) (f0 : Fld) (x : Nat) : (s.setMux d m).flag f0 x = s.flag f0 x := by simp only [State.flag, State.fld_of_setMux]
@[simp] theorem State.place_of_setMux (s : State) (d : Nat) (m : Mux) (x : Nat) : (s.setMux d m).place x = s.place x := by dsimp only [State.place, State.setMux]
@[simp] theorem State.ring_of_setMux (s : State) (d : Nat) (m : Mux) (x : RingId) : (s.setMux d m).ring x = s.ring x := by dsimp only [State.ring, State.setMux]
@[simp] theorem State.client_of_setMux (s : State) (d : Nat) (m : Mux) (x : Nat) : (s.setMux d m).client x = s.client x := by dsimp only [State.client, State.setMux]
@[simp] theorem State.byte_of_setMux (s : State) (d : Nat) (m : Mux) (x : Nat) : (s.setMux d m).byte x = s.byte x := by dsimp only [State.byte, State.setMux]
@[simp] theorem State.isPend_of_setMux (s : State) (d : Nat) (m : Mux) (x : Nat) : (s.setMux d m).isPend x = s.isPend x := by dsimp only [State.isPend, State.setMux]
@[simp] theorem State.rg_of_setBus (s : State) (k : Nat) (b : Bus) (x : Nat) : (s.setBus k b).rg x = s.rg x := by dsimp only [State.rg, State.setBus]
@[simp] theorem State.fld_of_setBus (s : State) (k : Nat) (b : Bus) (f0 : Fld) (x : Nat) : (s.setBus k b).fld f0 x = s.fld f0 x := by dsimp only [State.fld, State.rg, State.setBus]
@[simp] theorem State.flag_of_setBus (s : State) (k : Nat) (b : Bus) (f0 : Fld) (x : Nat) : (s.setBus k b).flag f0 x = s.flag f0 x := by simp only [State.flag, State.fld_of_setBus]
@[simp] theorem State.place_of_setBus (s : State) (k : Nat) (b : Bus) (x : Nat) : (s.setBus k b).place x = s.place x := by dsimp only [State.place, State.setBus]
@[simp] theorem State.ring_of_setBus (s : State) (k : Nat) (b : Bus) (x : RingId) : (s.setBus k b).ring x = s.ring x := by dsimp only [State.ring, State.setBus]
@[simp] theorem State.client_of_setBus (s : State) (k : Nat) (b : Bus) (x : Nat) : (s.setBus k b).client x = s.client x := by dsimp only [State.client, State.setBus]
@[simp] theorem State.byte_of_setBus (s : State) (k : Nat) (b : Bus) (x : Nat) : (s.setBus k b).byte x = s.byte x := by dsimp only [State.byte, State.setBus]
@[simp] theorem State.isPend_of_setBus (s : State) (k : Nat) (b : Bus) (x : Nat) : (s.setBus k b).isPend x = s.isPend x := by dsimp only [State.isPend, State.setBus]
@[simp] theorem State.rg_of_setPair (s : State) (u : Nat) (g : GenPair) (x : Nat) : (s.setPair u g).rg x = s.rg x := by dsimp only [State.rg, State.setPair]
@[simp] theorem State.fld_of_setPair (s : State) (u : Nat) (g : GenPair) (f0 : Fld) (x : Nat) : (s.setPair u g).fld f0 x = s.fld f0 x := by dsimp only [State.fld, State.rg, State.setPair]
@[simp] theorem State.flag_of_setPair (s : State) (u : Nat) (g : GenPair) (f0 : Fld) (x : Nat) : (s.setPair u g).flag f0 x = s.flag f0 x := by simp only [State.flag, State.fld_of_setPair]
@[simp] theorem State.place_of_setPair (s : State) (u : Nat) (g : GenPair) (x : Nat) : (s.setPair u g).place x = s.place x := by dsimp only [State.place, State.setPair]
@[simp] theorem State.ring_of_setPair (s : State) (u : Nat) (g : GenPair) (x : RingId) : (s.setPair u g).ring x = s.ring x := by dsimp only [State.ring, State.setPair]
@[simp] theorem State.client_of_setPair (s : State) (u : Nat) (g : GenPair) (x : Nat) : (s.setPair u g).client x = s.client x := by dsimp only [State.client, State.setPair]
@[simp] theorem State.byte_of_setPair (s : State) (u : Nat) (g : GenPair) (x : Nat) : (s.setPair u g).byte x = s.byte x := by dsimp only [State.byte, State.setPair]
@[simp] theorem State.isPend_of_setPair (s : State) (u : Nat) (g : GenPair) (x : Nat) : (s.setPair u g).isPend x = s.isPend x := by dsimp only [State.isPend, State.setPair]
@[simp] theorem State.rg_of_setStream (s : State) (k : Nat) (y : Option AStream) (x : Nat) : (s.setStream k y).rg x = s.rg x := by dsimp only [State.rg, State.setStream]
@[simp] theorem State.fld_of_setStream (s : State) (k : Nat) (y : Option AStream) (f0 : Fld) (x : Nat) : (s.setStream k y).fld f0 x = s.fld f0 x := by dsimp only [State.fld, State.rg, State.setStream]
@[simp] theorem State.flag_of_setStream (s : State) (k : Nat) (y : Option AStream) (f0 : Fld) (x : Nat) : (s.setStream k y).flag f0 x = s.flag f0 x := by simp only [State.flag, State.fld_of_setStream]
@[simp] theorem State.place_of_setStream (s : State) (k : Nat) (y : Option AStream) (x : Nat) : (s.setStream k y).place x = s.place x := by dsimp only [State.place, State.setStream]
@[simp] theorem State.ring_of_setStream (s : State) (k : Nat) (y : Option AStream) (x : RingId) : (s.setStream k y).ring x = s.ring x := by dsimp only [State.ring, State.setStream]
@[simp] theorem State.client_of_setStream (s : State) (k : Nat) (y : Option AStream) (x : Nat) : (s.setStream k y).client x = s.client x := by dsimp only [State.client, State.setStream]
@[simp] theorem State.byte_of_setStream (s : State) (k : Nat) (y : Option AStream) (x : Nat) : (s.setStream k y).byte x = s.byte x := by dsimp only [State.byte, State.setStream]
@[simp] theorem State.isPend_of_setStream (s : State) (k : Nat) (y : Option AStream) (x : Nat) : (s.setStream k y).isPend x = s.isPend x := by dsimp only [State.isPend, State.setStream]
@[simp] theorem State.rg_of_setFrameLock (s : State) (n : Nat) (y : Option Lock) (x : Nat) : (s.setFrameLock n y).rg x = s.rg x := by dsimp only [State.rg, State.setFrameLock]
@[simp] theorem State.fld_of_setFrameLock (s : State) (n : Nat) (y : Option Lock) (f0 : Fld) (x : Nat) : (s.setFrameLock n y).fld f0 x = s.fld f0 x := by dsimp only [State.fld, State.rg, State.setFrameLock]
@[simp] theorem State.flag_of_setFrameLock (s : State) (n : Nat) (y : Option Lock) (f0 : Fld) (x : Nat) : (s.setFrameLock n y).flag f0 x = s.flag f0 x := by simp only [State.flag, State.fld_of_setFrameLock]
@[simp] theorem State.place_of_setFrameLock (s : State) (n : Nat) (y : Option Lock) (x : Nat) : (s.setFrameLock n y).place x = s.place x := by dsimp only [State.place, State.setFrameLock]
@[simp] theorem State.ring_of_setFrameLock (s : State) (n : Nat) (y : Option Lock) (x : RingId) : (s.setFrameLock n y).ring x = s.ring x := by dsimp only [State.ring, State.setFrameLock]
@[simp] theorem State.client_of_setFrameLock (s : State) (n : Nat) (y : Option Lock) (x : Nat) : (s.setFrameLock n y).client x = s.client x := by dsimp only [State.client, State.setFrameLock]
@[simp] theorem State.byte_of_setFrameLock (s : State) (n : Nat) (y : Option Lock) (x : Nat) : (s.setFrameLock n y).byte x = s.byte x := by dsimp only [State.byte, State.setFrameLock]
@[simp] theorem State.isPend_of_setFrameLock (s : State) (n : Nat) (y : Option Lock) (x : Nat) : (s.setFrameLock n y).isPend x = s.isPend x := by dsimp only [State.isPend, State.setFrameLock]
@[simp] theorem State.rg_of_sendFrame (s : State) (p : Nat) (f : List Byte) (x : Nat) : (s.sendFrame p f).rg x = s.rg x := by dsimp only [State.rg, State.sendFrame]
@[simp] theorem State.fld_of_sendFrame (s : State) (p : Nat) (f : List Byte) (f0 : Fld) (x : Nat) : (s.sendFrame p f).fld f0 x = s.fld f0 x := by dsimp only [State.fld, State.rg, State.sendFrame]
@[simp] theorem State.flag_of_sendFrame (s : State) (p : Nat) (f : List Byte) (f0 : Fld) (x : Nat) : (s.sendFrame p f).flag f0 x = s.flag f0 x := by simp only [State.flag, State.fld_of_sendFrame]
@[simp] theorem State.place_of_sendFrame (s : State) (p : Nat) (f : List Byte) (x : Nat) : (s.sendFrame p f).place x = s.place x := by dsimp only [State.place, State.sendFrame]
@[simp] theorem State.ring_of_sendFrame (s : State) (p : Nat) (f : List Byte) (x : RingId) : (s.sendFrame p f).ring x = s.ring x := by dsimp only [State.ring, State.sendFrame]
@[simp] theorem State.client_of_sendFrame (s : State) (p : Nat) (f : List Byte) (x : Nat) : (s.sendFrame p f).client x = s.client x := by dsimp only [State.client, State.sendFrame]
@[simp] theorem State.byte_of_sendFrame (s : State) (p : Nat) (f : List Byte) (x : Nat) : (s.sendFrame p f).byte x = s.byte x := by dsimp only [State.byte, State.sendFrame]
@[simp] theorem State.isPend_of_sendFrame (s : State) (p : Nat) (f : List Byte) (x : Nat) : (s.sendFrame p f).isPend x = s.isPend x := by dsimp only [State.isPend, State.sendFrame]
@[simp] theorem State.rg_of_putMember (s : State) (m : Nat) (y : Member) (x : Nat) : (s.putMember m y).rg x = s.rg x := by dsimp only [State.rg, State.putMember]
@[simp] theorem State.fld_of_putMember (s : State) (m : Nat) (y : Member) (f0 : Fld) (x : Nat) : (s.putMember m y).fld f0 x = s.fld f0 x := by dsimp only [State.fld, State.rg, State.putMember]
@[simp] theorem State.flag_of_putMember (s : State) (m : Nat) (y : Member) (f0 : Fld) (x : Nat) : (s.putMember m y).flag f0 x = s.flag f0 x := by simp only [State.flag, State.fld_of_putMember]
@[simp] theorem State.place_of_putMember (s : State) (m : Nat) (y : Member) (x : Nat) : (s.putMember m y).place x = s.place x := by dsimp only [State.place, State.putMember]
@[simp] theorem State.ring_of_putMember (s : State) (m : Nat) (y : Member) (x : RingId) : (s.putMember m y).ring x = s.ring x := by dsimp only [State.ring, State.putMember]
@[simp] theorem State.client_of_putMember (s : State) (m : Nat) (y : Member) (x : Nat) : (s.putMember m y).client x = s.client x := by dsimp only [State.client, State.putMember]
@[simp] theorem State.byte_of_putMember (s : State) (m : Nat) (y : Member) (x : Nat) : (s.putMember m y).byte x = s.byte x := by dsimp only [State.byte, State.putMember]
@[simp] theorem State.isPend_of_putMember (s : State) (m : Nat) (y : Member) (x : Nat) : (s.putMember m y).isPend x = s.isPend x := by dsimp only [State.isPend, State.putMember]
@[simp] theorem State.rg_of_setIntercom (s : State) (i : Nat) (y : Intercom) (x : Nat) : (s.setIntercom i y).rg x = s.rg x := by dsimp only [State.rg, State.setIntercom]
@[simp] theorem State.fld_of_setIntercom (s : State) (i : Nat) (y : Intercom) (f0 : Fld) (x : Nat) : (s.setIntercom i y).fld f0 x = s.fld f0 x := by dsimp only [State.fld, State.rg, State.setIntercom]
@[simp] theorem State.flag_of_setIntercom (s : State) (i : Nat) (y : Intercom) (f0 : Fld) (x : Nat) : (s.setIntercom i y).flag f0 x = s.flag f0 x := by simp only [State.flag, State.fld_of_setIntercom]
@[simp] theorem State.place_of_setIntercom (s : State) (i : Nat) (y : Intercom) (x : Nat) : (s.setIntercom i y).place x = s.place x := by dsimp only [State.place, State.setIntercom]
@[simp] theorem State.ring_of_setIntercom (s : State) (i : Nat) (y : Intercom) (x : RingId) : (s.setIntercom i y).ring x = s.ring x := by dsimp only [State.ring, State.setIntercom]
@[simp] theorem State.client_of_setIntercom (s : State) (i : Nat) (y : Intercom) (x : Nat) : (s.setIntercom i y).client x = s.client x := by dsimp only [State.client, State.setIntercom]
@[simp] theorem State.byte_of_setIntercom (s : State) (i : Nat) (y : Intercom) (x : Nat) : (s.setIntercom i y).byte x = s.byte x := by dsimp only [State.byte, State.setIntercom]
@[simp] theorem State.isPend_of_setIntercom (s : State) (i : Nat) (y : Intercom) (x : Nat) : (s.setIntercom i y).isPend x = s.isPend x := by dsimp only [State.isPend, State.setIntercom]
@[simp] theorem State.rg_of_setQp (s : State) (q : Nat) (y : Option Qp) (x : Nat) : (s.setQp q y).rg x = s.rg x := by dsimp only [State.rg, State.setQp]
@[simp] theorem State.fld_of_setQp (s : State) (q : Nat) (y : Option Qp) (f0 : Fld) (x : Nat) : (s.setQp q y).fld f0 x = s.fld f0 x := by dsimp only [State.fld, State.rg, State.setQp]
@[simp] theorem State.flag_of_setQp (s : State) (q : Nat) (y : Option Qp) (f0 : Fld) (x : Nat) : (s.setQp q y).flag f0 x = s.flag f0 x := by simp only [State.flag, State.fld_of_setQp]
@[simp] theorem State.place_of_setQp (s : State) (q : Nat) (y : Option Qp) (x : Nat) : (s.setQp q y).place x = s.place x := by dsimp only [State.place, State.setQp]
@[simp] theorem State.ring_of_setQp (s : State) (q : Nat) (y : Option Qp) (x : RingId) : (s.setQp q y).ring x = s.ring x := by dsimp only [State.ring, State.setQp]
@[simp] theorem State.client_of_setQp (s : State) (q : Nat) (y : Option Qp) (x : Nat) : (s.setQp q y).client x = s.client x := by dsimp only [State.client, State.setQp]
@[simp] theorem State.byte_of_setQp (s : State) (q : Nat) (y : Option Qp) (x : Nat) : (s.setQp q y).byte x = s.byte x := by dsimp only [State.byte, State.setQp]
@[simp] theorem State.isPend_of_setQp (s : State) (q : Nat) (y : Option Qp) (x : Nat) : (s.setQp q y).isPend x = s.isPend x := by dsimp only [State.isPend, State.setQp]
@[simp] theorem State.rg_of_setTx (s : State) (p : Nat) (l : List Nat) (x : Nat) : (s.setTx p l).rg x = s.rg x := by dsimp only [State.rg, State.setTx]
@[simp] theorem State.fld_of_setTx (s : State) (p : Nat) (l : List Nat) (f0 : Fld) (x : Nat) : (s.setTx p l).fld f0 x = s.fld f0 x := by dsimp only [State.fld, State.rg, State.setTx]
@[simp] theorem State.flag_of_setTx (s : State) (p : Nat) (l : List Nat) (f0 : Fld) (x : Nat) : (s.setTx p l).flag f0 x = s.flag f0 x := by simp only [State.flag, State.fld_of_setTx]
@[simp] theorem State.place_of_setTx (s : State) (p : Nat) (l : List Nat) (x : Nat) : (s.setTx p l).place x = s.place x := by dsimp only [State.place, State.setTx]
@[simp] theorem State.ring_of_setTx (s : State) (p : Nat) (l : List Nat) (x : RingId) : (s.setTx p l).ring x = s.ring x := by dsimp only [State.ring, State.setTx]
@[simp] theorem State.client_of_setTx (s : State) (p : Nat) (l : List Nat) (x : Nat) : (s.setTx p l).client x = s.client x := by dsimp only [State.client, State.setTx]
@[simp] theorem State.byte_of_setTx (s : State) (p : Nat) (l : List Nat) (x : Nat) : (s.setTx p l).byte x = s.byte x := by dsimp only [State.byte, State.setTx]
@[simp] theorem State.isPend_of_setTx (s : State) (p : Nat) (l : List Nat) (x : Nat) : (s.setTx p l).isPend x = s.isPend x := by dsimp only [State.isPend, State.setTx]
@[simp] theorem State.rg_of_setRxFifo (s : State) (p : Nat) (l : List Nat) (x : Nat) : (s.setRxFifo p l).rg x = s.rg x := by dsimp only [State.rg, State.setRxFifo]
@[simp] theorem State.fld_of_setRxFifo (s : State) (p : Nat) (l : List Nat) (f0 : Fld) (x : Nat) : (s.setRxFifo p l).fld f0 x = s.fld f0 x := by dsimp only [State.fld, State.rg, State.setRxFifo]
@[simp] theorem State.flag_of_setRxFifo (s : State) (p : Nat) (l : List Nat) (f0 : Fld) (x : Nat) : (s.setRxFifo p l).flag f0 x = s.flag f0 x := by simp only [State.flag, State.fld_of_setRxFifo]
@[simp] theorem State.place_of_setRxFifo (s : State) (p : Nat) (l : List Nat) (x : Nat) : (s.setRxFifo p l).place x = s.place x := by dsimp only [State.place, State.setRxFifo]
@[simp] theorem State.ring_of_setRxFifo (s : State) (p : Nat) (l : List Nat) (x : RingId) : (s.setRxFifo p l).ring x = s.ring x := by dsimp only [State.ring, State.setRxFifo]
@[simp] theorem State.client_of_setRxFifo (s : State) (p : Nat) (l : List Nat) (x : Nat) : (s.setRxFifo p l).client x = s.client x := by dsimp only [State.client, State.setRxFifo]
@[simp] theorem State.byte_of_setRxFifo (s : State) (p : Nat) (l : List Nat) (x : Nat) : (s.setRxFifo p l).byte x = s.byte x := by dsimp only [State.byte, State.setRxFifo]
@[simp] theorem State.isPend_of_setRxFifo (s : State) (p : Nat) (l : List Nat) (x : Nat) : (s.setRxFifo p l).isPend x = s.isPend x := by dsimp only [State.isPend, State.setRxFifo]

end Sys2Proof.Machine
end

