-- ==== Sys2Proof/Laws/Regs.lean ====
section
/-! SUPPORT. Laws of register fields: what a field, its neighbours and every other register read as after a hardware write of a field. -/

namespace Sys2Proof.Machine

theorem bitsOf_lt (w : Word) (hi lo : Nat) : bitsOf w hi lo < 2 ^ (hi + 1 - lo) := Nat.mod_lt _ (Nat.two_pow_pos _)

/-- A word in three parts: above a field, the field, and below it. -/
theorem word_parts (w hi lo : Nat) (h : lo ≤ hi) :
    w = w / 2 ^ (hi + 1) * 2 ^ (hi + 1) + w / 2 ^ lo % 2 ^ (hi + 1 - lo) * 2 ^ lo + w % 2 ^ lo := by
  have e : 2 ^ (hi + 1) = 2 ^ lo * 2 ^ (hi + 1 - lo) := by rw [← Nat.pow_add]; congr 1; omega
  have h1 := Nat.div_add_mod w (2 ^ lo)
  have h2 := Nat.div_add_mod (w / 2 ^ lo) (2 ^ (hi + 1 - lo))
  rw [Nat.div_div_eq_div_mul, ← e] at h2
  generalize w / 2 ^ (hi + 1) = a at *
  generalize w / 2 ^ lo % 2 ^ (hi + 1 - lo) = f at *
  generalize w % 2 ^ lo = b at *
  rw [e]
  rw [← h2] at h1
  rw [← h1]
  ring

/-- The number a word holds after a field has been replaced. -/
theorem toNat_putBits (w : Word) (hi lo v : Nat) (h : lo ≤ hi) (h32 : hi < 32) :
    (putBits w hi lo v).toNat = w.toNat / 2 ^ (hi + 1) * 2 ^ (hi + 1) + v % 2 ^ (hi + 1 - lo) * 2 ^ lo + w.toNat % 2 ^ lo := by
  have e : 2 ^ (hi + 1) = 2 ^ lo * 2 ^ (hi + 1 - lo) := by rw [← Nat.pow_add]; congr 1; omega
  have hp := word_parts w.toNat hi lo h
  have hv : v % 2 ^ (hi + 1 - lo) < 2 ^ (hi + 1 - lo) := Nat.mod_lt _ (Nat.two_pow_pos _)
  have hb : w.toNat % 2 ^ lo < 2 ^ lo := Nat.mod_lt _ (Nat.two_pow_pos _)
  have hw : w.toNat < 2 ^ 32 := w.isLt
  have e32 : 2 ^ 32 = 2 ^ (hi + 1) * 2 ^ (32 - (hi + 1)) := by rw [← Nat.pow_add]; congr 1; omega
  have ha : w.toNat / 2 ^ (hi + 1) < 2 ^ (32 - (hi + 1)) := by
    rw [Nat.div_lt_iff_lt_mul (Nat.two_pow_pos _), Nat.mul_comm, ← e32]; exact hw
  simp only [putBits, bitsOf, BitVec.toNat_ofNat]
  have key : w.toNat - w.toNat / 2 ^ lo % 2 ^ (hi + 1 - lo) * 2 ^ lo + v % 2 ^ (hi + 1 - lo) * 2 ^ lo =
      w.toNat / 2 ^ (hi + 1) * 2 ^ (hi + 1) + v % 2 ^ (hi + 1 - lo) * 2 ^ lo + w.toNat % 2 ^ lo := by
    generalize hF : w.toNat / 2 ^ lo % 2 ^ (hi + 1 - lo) * 2 ^ lo = F at *
    generalize w.toNat / 2 ^ (hi + 1) * 2 ^ (hi + 1) = A at *
    omega
  rw [key]
  apply Nat.mod_eq_of_lt
  have hvb : v % 2 ^ (hi + 1 - lo) * 2 ^ lo + w.toNat % 2 ^ lo < 2 ^ (hi + 1) := by
    rw [e]
    calc v % 2 ^ (hi + 1 - lo) * 2 ^ lo + w.toNat % 2 ^ lo < v % 2 ^ (hi + 1 - lo) * 2 ^ lo + 2 ^ lo := by omega
      _ = (v % 2 ^ (hi + 1 - lo) + 1) * 2 ^ lo := by ring
      _ ≤ 2 ^ (hi + 1 - lo) * 2 ^ lo := Nat.mul_le_mul_right _ hv
      _ = 2 ^ lo * 2 ^ (hi + 1 - lo) := Nat.mul_comm _ _
  have hA : w.toNat / 2 ^ (hi + 1) * 2 ^ (hi + 1) + 2 ^ (hi + 1) ≤ 2 ^ 32 := by
    rw [e32]
    calc w.toNat / 2 ^ (hi + 1) * 2 ^ (hi + 1) + 2 ^ (hi + 1) = (w.toNat / 2 ^ (hi + 1) + 1) * 2 ^ (hi + 1) := by ring
      _ ≤ 2 ^ (32 - (hi + 1)) * 2 ^ (hi + 1) := Nat.mul_le_mul_right _ ha
      _ = 2 ^ (hi + 1) * 2 ^ (32 - (hi + 1)) := Nat.mul_comm _ _
  omega

/-- The bits below a replaced field stay. -/
theorem putBits_below (w : Word) (hi lo v : Nat) (h : lo ≤ hi) (h32 : hi < 32) : (putBits w hi lo v).toNat % 2 ^ lo = w.toNat % 2 ^ lo := by
  have e : 2 ^ (hi + 1) = 2 ^ (hi + 1 - lo) * 2 ^ lo := by rw [← Nat.pow_add]; congr 1; omega
  rw [toNat_putBits w hi lo v h h32, e, ← Nat.mul_assoc, ← Nat.add_mul, Nat.mul_comm _ (2 ^ lo), Nat.mul_add_mod, Nat.mod_mod]

/-- The bits above a replaced field stay. -/
theorem putBits_above (w : Word) (hi lo v : Nat) (h : lo ≤ hi) (h32 : hi < 32) :
    (putBits w hi lo v).toNat / 2 ^ (hi + 1) = w.toNat / 2 ^ (hi + 1) := by
  have hb : w.toNat % 2 ^ lo < 2 ^ lo := Nat.mod_lt _ (Nat.two_pow_pos _)
  have hv : v % 2 ^ (hi + 1 - lo) < 2 ^ (hi + 1 - lo) := Nat.mod_lt _ (Nat.two_pow_pos _)
  have e : 2 ^ (hi + 1) = 2 ^ (hi + 1 - lo) * 2 ^ lo := by rw [← Nat.pow_add]; congr 1; omega
  have hvb : v % 2 ^ (hi + 1 - lo) * 2 ^ lo + w.toNat % 2 ^ lo < 2 ^ (hi + 1) := by
    rw [e]
    calc v % 2 ^ (hi + 1 - lo) * 2 ^ lo + w.toNat % 2 ^ lo < v % 2 ^ (hi + 1 - lo) * 2 ^ lo + 2 ^ lo := by omega
      _ = (v % 2 ^ (hi + 1 - lo) + 1) * 2 ^ lo := by ring
      _ ≤ 2 ^ (hi + 1 - lo) * 2 ^ lo := Nat.mul_le_mul_right _ hv
  rw [toNat_putBits w hi lo v h h32, Nat.add_assoc, Nat.mul_comm _ (2 ^ (hi + 1)), Nat.mul_add_div (Nat.two_pow_pos _), Nat.div_eq_of_lt hvb, Nat.add_zero]

/-- The replaced field holds the low bits of what was written. -/
theorem bitsOf_putBits_same (w : Word) (hi lo v : Nat) (h : lo ≤ hi) (h32 : hi < 32) : bitsOf (putBits w hi lo v) hi lo = v % 2 ^ (hi + 1 - lo) := by
  have hb : w.toNat % 2 ^ lo < 2 ^ lo := Nat.mod_lt _ (Nat.two_pow_pos _)
  have e : 2 ^ (hi + 1) = 2 ^ (hi + 1 - lo) * 2 ^ lo := by rw [← Nat.pow_add]; congr 1; omega
  simp only [bitsOf]
  rw [toNat_putBits w hi lo v h h32, e, ← Nat.mul_assoc, ← Nat.add_mul, Nat.mul_comm _ (2 ^ lo), Nat.mul_add_div (Nat.two_pow_pos _),
    Nat.div_eq_of_lt hb, Nat.add_zero, Nat.mul_comm _ (2 ^ (hi + 1 - lo)), Nat.mul_add_mod, Nat.mod_mod]

/-- A field that does not meet the replaced one stays. -/
theorem bitsOf_putBits_ne (w : Word) (hi lo v hi' lo' : Nat) (h : lo ≤ hi) (h32 : hi < 32) (hd : hi' < lo ∨ hi < lo') :
    bitsOf (putBits w hi lo v) hi' lo' = bitsOf w hi' lo' := by
  simp only [bitsOf]
  rcases hd with hd | hd
  · have cut : ∀ x : Nat, x / 2 ^ lo' % 2 ^ (hi' + 1 - lo') = x % 2 ^ lo / 2 ^ lo' % 2 ^ (hi' + 1 - lo') := by
      intro x
      by_cases hl : lo' ≤ lo
      · have e : 2 ^ lo = 2 ^ lo' * 2 ^ (lo - lo') := by rw [← Nat.pow_add]; congr 1; omega
        rw [e, Nat.mod_mul_right_div_self, Nat.mod_mod_of_dvd]
        exact pow_dvd_pow 2 (by omega)
      · have : hi' + 1 - lo' = 0 := by omega
        simp [this, Nat.mod_one]
    rw [cut, putBits_below w hi lo v h h32, ← cut]
  · have cut : ∀ x : Nat, x / 2 ^ lo' = x / 2 ^ (hi + 1) / 2 ^ (lo' - (hi + 1)) := by
      intro x
      rw [Nat.div_div_eq_div_mul, ← Nat.pow_add]; congr 2; omega
    rw [cut, putBits_above w hi lo v h h32, ← cut]

/-- The bits of a word outside a replaced field stay. -/
theorem getLsbD_putBits_ne (w : Word) (hi lo v i : Nat) (h : lo ≤ hi) (h32 : hi < 32) (hd : i < lo ∨ hi < i) :
    (putBits w hi lo v).getLsbD i = w.getLsbD i := by
  have := bitsOf_putBits_ne w hi lo v i i h h32 hd
  simp only [bitsOf, Nat.add_sub_cancel_left, Nat.pow_one] at this
  rw [BitVec.getLsbD, BitVec.getLsbD, Nat.testBit_eq_decide_div_mod_eq, Nat.testBit_eq_decide_div_mod_eq, this]

/-! Registers of the state. -/

theorem State.fld_setFld (s : State) (f : Fld) (v n : Nat) (h : f.lo ≤ f.hi) (h32 : f.hi < 32) : (s.setFld f v n).fld f n = v % 2 ^ f.width := by
  simp only [State.fld, State.setFld, State.rg_setRg, Fld.width]
  exact bitsOf_putBits_same _ _ _ _ h h32

/-- A field of another register stays. -/
theorem State.fld_setFld_reg (s : State) (f g : Fld) (v n m : Nat) (h : g.addr m ≠ f.addr n) : (s.setFld f v n).fld g m = s.fld g m := by
  simp only [State.fld, State.setFld, State.rg_setRg_ne s _ h]

/-- Another field of the same register stays. -/
theorem State.fld_setFld_field (s : State) (f g : Fld) (v n m : Nat) (ha : g.addr m = f.addr n) (h : f.lo ≤ f.hi) (h32 : f.hi < 32)
    (hd : g.hi < f.lo ∨ f.hi < g.lo) : (s.setFld f v n).fld g m = s.fld g m := by
  simp only [State.fld, State.setFld, ha, State.rg_setRg]
  exact bitsOf_putBits_ne _ _ _ _ _ _ h h32 hd

theorem State.fld_lt (s : State) (f : Fld) (n : Nat) : s.fld f n < 2 ^ f.width := bitsOf_lt _ _ _

theorem State.flag_setFlag (s : State) (f : Fld) (b : Bool) (n : Nat) (h : f.lo = f.hi) (h32 : f.hi < 32) : (s.setFlag f b n).flag f n = b := by
  simp only [State.flag, State.setFlag, State.fld_setFld s f _ n (by omega) h32, Fld.width, h, Nat.add_sub_cancel_left]
  cases b <;> simp

theorem SameRegsBut.rfl (l : List Nat) (s : State) : SameRegsBut l s s := fun _ _ => Eq.refl _

theorem SameRegsBut.trans {l : List Nat} {s t u : State} (h : SameRegsBut l s t) (g : SameRegsBut l t u) : SameRegsBut l s u :=
  fun a ha => (g a ha).trans (h a ha)

theorem SameRegsBut.mono {l k : List Nat} {s t : State} (h : SameRegsBut l s t) (hk : ∀ a ∈ l, a ∈ k) : SameRegsBut k s t :=
  fun a ha => h a (fun hl => ha (hk a hl))

theorem SameRegsBut.of_regs {l : List Nat} {s t : State} (h : t.regs = s.regs) : SameRegsBut l s t := fun a _ => by simp only [State.rg, h]

theorem SameRegsBut.setRg {l : List Nat} (s : State) (a : Nat) (v : Word) (h : a ∈ l) : SameRegsBut l s (s.setRg a v) :=
  fun _ hb => State.rg_setRg_ne s v (fun e => hb (e ▸ h))

theorem SameRegsBut.setFld {l : List Nat} (s : State) (f : Fld) (v n : Nat) (h : f.addr n ∈ l) : SameRegsBut l s (s.setFld f v n) :=
  SameRegsBut.setRg s _ _ h

theorem SameRegsBut.setFlag {l : List Nat} (s : State) (f : Fld) (b : Bool) (n : Nat) (h : f.addr n ∈ l) : SameRegsBut l s (s.setFlag f b n) :=
  SameRegsBut.setRg s _ _ h

theorem SameRegsBut.satInc {l : List Nat} (s : State) (f : Fld) (n k : Nat) (h : f.addr n ∈ l) : SameRegsBut l s (s.satInc f n k) :=
  SameRegsBut.setRg s _ _ h

end Sys2Proof.Machine
end

