-- ==== Sys2Proof/Laws/Ops.lean ====
section
/-! SUPPORT. Laws of the operations that most commands share: interrupt sources, packets in execution and their ends, answers, and the parts of the
canonical form that an update leaves as they are. -/

namespace Sys2Proof.Machine

/-! Interrupt sources. -/

theorem State.isPend_raise (s : State) (n m : Nat) (h : m < 512) : (s.raise n).isPend m = (s.isPend m || decide (m = n)) := by
  simp only [State.isPend, State.raise, BitVec.getLsbD_or, BitVec.getLsbD_shiftLeft, BitVec.getLsbD_one, h, decide_true, Bool.true_and]
  congr 1
  by_cases e : m = n
  · subst e; simp
  · by_cases hl : m < n
    · simp [hl, e]
    · have hs : ¬ m - n = 0 := by omega
      simp [hl, e, hs]

theorem State.isPend_raise_ne (s : State) {n m : Nat} (h : m ≠ n) : (s.raise n).isPend m = s.isPend m := by
  by_cases hm : m < 512
  · rw [State.isPend_raise s n m hm]; simp [h]
  · simp only [State.isPend, BitVec.getLsbD_of_ge _ _ (Nat.le_of_not_lt hm)]

theorem State.isPend_raise_same (s : State) (n : Nat) (h : n < 512) : (s.raise n).isPend n = true := by
  rw [State.isPend_raise s n n h]; simp

theorem State.isPend_clearSrc_same (s : State) (n : Nat) : (s.clearSrc n).isPend n = false := by
  by_cases h : n < 512
  · simp [State.isPend, State.clearSrc, h]
  · simp only [State.isPend, BitVec.getLsbD_of_ge _ _ (Nat.le_of_not_lt h)]

theorem State.isPend_clearSrc_ne (s : State) {n m : Nat} (h : m ≠ n) : (s.clearSrc n).isPend m = s.isPend m := by
  by_cases hm : m < 512
  · simp only [State.isPend, State.clearSrc, BitVec.getLsbD_and, BitVec.getLsbD_not, BitVec.getLsbD_shiftLeft, BitVec.getLsbD_one, hm, decide_true,
      Bool.true_and]
    by_cases hl : m < n
    · simp [hl]
    · have hs : ¬ m - n = 0 := by omega
      simp [hl, hs]
  · simp only [State.isPend, BitVec.getLsbD_of_ge _ _ (Nat.le_of_not_lt hm)]

theorem SamePendBut.rfl (l : List Nat) (s : State) : SamePendBut l s s := fun _ _ => Eq.refl _

theorem SamePendBut.trans {l : List Nat} {s t u : State} (h : SamePendBut l s t) (g : SamePendBut l t u) : SamePendBut l s u :=
  fun a ha => (g a ha).trans (h a ha)

theorem SamePendBut.raise {l : List Nat} (s : State) (n : Nat) (h : n ∈ l) : SamePendBut l s (s.raise n) :=
  fun _ hm => State.isPend_raise_ne s (fun e => hm (e ▸ h))

theorem SamePendBut.of_wld {l : List Nat} {s t : State} (h : t.wld = s.wld) : SamePendBut l s t := fun a _ => by simp only [State.isPend, h]

/-! Packets in execution (03 R125, R129). -/

/-- What it says about the place that an operation may act. -/
theorem State.opAt_some {s : State} {k o : Nat} {p : Started} (h : s.opAt k o = some p) :
    s.place k = some p ∧ p.pkt.opcode = o ∧ p.result = none ∧ s.standsStill k p = false := by
  simp only [State.opAt] at h
  split at h
  · rename_i q hq
    split at h
    · rename_i hc; cases h; exact ⟨hq, hc⟩
    · cases h
  · cases h

theorem State.opAt_of {s : State} {k o : Nat} {p : Started} (h : s.place k = some p) (ho : p.pkt.opcode = o) (hr : p.result = none)
    (hs : s.standsStill k p = false) : s.opAt k o = some p := by
  simp [State.opAt, h, ho, hr, hs]

/-- What ending an operation does: its place holds the completion. -/
theorem State.endOp_eq (s : State) (k st r0 r1 r2 r3 : Nat) {p : Started} (h : s.place k = some p) :
    s.endOp k st r0 r1 r2 r3 = s.setPlace k (some { p with result := some ⟨st, r0, r1, r2, r3⟩ }) := by
  simp only [State.endOp, h]

theorem State.endOpHeld_eq (s : State) (k st r0 r1 r2 r3 : Nat) {p : Started} (h : s.place k = some p) :
    s.endOpHeld k st r0 r1 r2 r3 = s.setPlace k (some { p with result := some ⟨st, r0, r1, r2, r3⟩, held := true }) := by
  simp only [State.endOpHeld, h]

theorem State.endOp_none (s : State) (k st r0 r1 r2 r3 : Nat) (h : s.place k = none) : s.endOp k st r0 r1 r2 r3 = s := by
  simp only [State.endOp, h]

theorem State.result_endOp (s : State) (k st r0 r1 r2 r3 : Nat) {p : Started} (h : s.place k = some p) :
    (s.endOp k st r0 r1 r2 r3).result k = some ⟨st, r0, r1, r2, r3⟩ := by
  simp only [State.result, State.endOp_eq s k st r0 r1 r2 r3 h, State.place_setPlace]

theorem State.place_endOp_ne (s : State) {j k : Nat} (st r0 r1 r2 r3 : Nat) (h : j ≠ k) : (s.endOp k st r0 r1 r2 r3).place j = s.place j := by
  simp only [State.endOp]
  split
  · exact State.place_setPlace_ne s _ h
  · rfl

/-- Ending an operation changes the places alone. -/
theorem State.endOp_rest (s : State) (k st r0 r1 r2 r3 : Nat) :
    s.endOp k st r0 r1 r2 r3 = { s with cp := { s.cp with places := (s.endOp k st r0 r1 r2 r3).cp.places } } := by
  simp only [State.endOp]
  split
  · rfl
  · rfl

theorem State.setProgress_eq (s : State) (k n : Nat) {p : Started} (h : s.place k = some p) :
    s.setProgress k n = s.setPlace k (some { p with progress := n }) := by
  simp only [State.setProgress, h]

theorem State.releaseOp_eq (s : State) (k : Nat) {p : Started} (h : s.place k = some p) :
    s.releaseOp k = s.setPlace k (some { p with held := false }) := by
  simp only [State.releaseOp, h]

/-! The canonical form depends on memory, registers and the runs of inks alone. -/

theorem State.Canonical.of_eq {s t : State} (h : s.Canonical) (hm : t.mem = s.mem) (hr : t.regs = s.regs) (hi : t.mc.inks = s.mc.inks) :
    t.Canonical := by
  simpa only [State.Canonical, hm, hr, hi] using h

theorem State.Canonical.withResp {s : State} (h : s.Canonical) (x : Resp) : ({ s with resp := x } : State).Canonical := ⟨h.1, h.2.1, h.2.2⟩
theorem State.Canonical.withCyc {s : State} (h : s.Canonical) (x : Nat) : ({ s with cyc := x } : State).Canonical := ⟨h.1, h.2.1, h.2.2⟩
theorem State.Canonical.withDevOff {s : State} (h : s.Canonical) (x : Int) : ({ s with devOff := x } : State).Canonical := ⟨h.1, h.2.1, h.2.2⟩
theorem State.Canonical.withFree {s : State} (h : s.Canonical) (x : Nat) : ({ s with free := x } : State).Canonical := ⟨h.1, h.2.1, h.2.2⟩
theorem State.Canonical.withWld {s : State} (h : s.Canonical) (x : Wld) : ({ s with wld := x } : State).Canonical := ⟨h.1, h.2.1, h.2.2⟩
theorem State.Canonical.withCp {s : State} (h : s.Canonical) (x : Cp) : ({ s with cp := x } : State).Canonical := ⟨h.1, h.2.1, h.2.2⟩
theorem State.Canonical.withCl {s : State} (h : s.Canonical) (x : Cl) : ({ s with cl := x } : State).Canonical := ⟨h.1, h.2.1, h.2.2⟩
theorem State.Canonical.withArb {s : State} (h : s.Canonical) (x : Arb) : ({ s with arb := x } : State).Canonical := ⟨h.1, h.2.1, h.2.2⟩
theorem State.Canonical.withFlt {s : State} (h : s.Canonical) (x : Flt) : ({ s with flt := x } : State).Canonical := ⟨h.1, h.2.1, h.2.2⟩
theorem State.Canonical.withDisp {s : State} (h : s.Canonical) (x : Disp) : ({ s with disp := x } : State).Canonical := ⟨h.1, h.2.1, h.2.2⟩
theorem State.Canonical.withEtch {s : State} (h : s.Canonical) (x : Etch) : ({ s with etch := x } : State).Canonical := ⟨h.1, h.2.1, h.2.2⟩
theorem State.Canonical.withPrf {s : State} (h : s.Canonical) (x : Proof) : ({ s with prf := x } : State).Canonical := ⟨h.1, h.2.1, h.2.2⟩
theorem State.Canonical.withGrv {s : State} (h : s.Canonical) (x : Grv) : ({ s with grv := x } : State).Canonical := ⟨h.1, h.2.1, h.2.2⟩
theorem State.Canonical.withTouch {s : State} (h : s.Canonical) (x : Touch) : ({ s with touch := x } : State).Canonical := ⟨h.1, h.2.1, h.2.2⟩
theorem State.Canonical.withHap {s : State} (h : s.Canonical) (x : Hap) : ({ s with hap := x } : State).Canonical := ⟨h.1, h.2.1, h.2.2⟩
theorem State.Canonical.withFol {s : State} (h : s.Canonical) (x : Fol) : ({ s with fol := x } : State).Canonical := ⟨h.1, h.2.1, h.2.2⟩
theorem State.Canonical.withAud {s : State} (h : s.Canonical) (x : Aud) : ({ s with aud := x } : State).Canonical := ⟨h.1, h.2.1, h.2.2⟩
theorem State.Canonical.withFw {s : State} (h : s.Canonical) (x : Fw) : ({ s with fw := x } : State).Canonical := ⟨h.1, h.2.1, h.2.2⟩
theorem State.Canonical.withPwr {s : State} (h : s.Canonical) (x : Pwr) : ({ s with pwr := x } : State).Canonical := ⟨h.1, h.2.1, h.2.2⟩
theorem State.Canonical.withDziv {s : State} (h : s.Canonical) (x : Dziv) : ({ s with dziv := x } : State).Canonical := ⟨h.1, h.2.1, h.2.2⟩
theorem State.Canonical.withLsio {s : State} (h : s.Canonical) (x : Lsio) : ({ s with lsio := x } : State).Canonical := ⟨h.1, h.2.1, h.2.2⟩
theorem State.Canonical.withPending {s : State} (h : s.Canonical) (x : List Instr) : ({ s with pending := x } : State).Canonical := ⟨h.1, h.2.1, h.2.2⟩
theorem State.Canonical.withMc {s : State} (h : s.Canonical) (x : Mc) (hx : x.inks = s.mc.inks) : ({ s with mc := x } : State).Canonical :=
  ⟨h.1, h.2.1, by simpa only [hx] using h.2.2⟩

theorem State.Canonical.setRg {s : State} (h : s.Canonical) (a : Nat) (v : Word) : (s.setRg a v).Canonical := by
  simp only [State.Canonical, State.setRg_mem, State.setRg_mc]
  refine ⟨h.1, ?_, h.2.2⟩
  simp only [State.setRg, Registers.wf]
  exact SMap.wf_set _ _ _ _ h.2.1

theorem State.Canonical.setFld {s : State} (h : s.Canonical) (f : Fld) (v n : Nat) : (s.setFld f v n).Canonical := h.setRg _ _

theorem State.Canonical.setFlag {s : State} (h : s.Canonical) (f : Fld) (b : Bool) (n : Nat) : (s.setFlag f b n).Canonical := h.setRg _ _

theorem State.Canonical.satInc {s : State} (h : s.Canonical) (f : Fld) (n k : Nat) : (s.satInc f n k).Canonical := h.setRg _ _

theorem State.Canonical.bumpEpoch {s : State} (h : s.Canonical) (c : Nat) : (s.bumpEpoch c).Canonical := h.setRg _ _

theorem State.Canonical.raise {s : State} (h : s.Canonical) (n : Nat) : (s.raise n).Canonical := h

theorem State.Canonical.clearSrc {s : State} (h : s.Canonical) (n : Nat) : (s.clearSrc n).Canonical := h

theorem State.Canonical.answer {s : State} (h : s.Canonical) (r : Resp) : (s.answer r).Canonical := h

theorem State.Canonical.setPlace {s : State} (h : s.Canonical) (k : Nat) (p : Option Started) : (s.setPlace k p).Canonical := h

theorem State.Canonical.setRing {s : State} (h : s.Canonical) (r : RingId) (x : RingSet) : (s.setRing r x).Canonical := h

theorem State.Canonical.setClient {s : State} (h : s.Canonical) (n : Nat) (c : Client) : (s.setClient n c).Canonical := h

theorem State.Canonical.setGrant {s : State} (h : s.Canonical) (u : Nat) (g : Option Grant) : (s.setGrant u g).Canonical := h

theorem State.Canonical.setQueue {s : State} (h : s.Canonical) (p : Nat) (q o : List Request) : (s.setQueue p q o).Canonical := h

theorem State.Canonical.count {s : State} (h : s.Canonical) (o n : Nat) : (s.count o n).Canonical := h

theorem State.Canonical.endOp {s : State} (h : s.Canonical) (k st r0 r1 r2 r3 : Nat) : (s.endOp k st r0 r1 r2 r3).Canonical := by
  rw [State.endOp_rest]; exact h

theorem State.Canonical.endOpHeld {s : State} (h : s.Canonical) (k st r0 r1 r2 r3 : Nat) : (s.endOpHeld k st r0 r1 r2 r3).Canonical := by
  simp only [State.endOpHeld]
  split <;> exact h

theorem State.Canonical.setProgress {s : State} (h : s.Canonical) (k n : Nat) : (s.setProgress k n).Canonical := by
  simp only [State.setProgress]
  split <;> exact h

theorem State.Canonical.releaseOp {s : State} (h : s.Canonical) (k : Nat) : (s.releaseOp k).Canonical := by
  simp only [State.releaseOp]
  split <;> exact h

/-- A fold keeps the canonical form when each of its steps does. -/
theorem State.Canonical.foldl {α : Type} {f : State → α → State} (hf : ∀ t a, State.Canonical t → (f t a).Canonical) (l : List α) {s : State}
    (h : s.Canonical) : (l.foldl f s).Canonical := by
  induction l generalizing s with
  | nil => exact h
  | cons a t ih => exact ih (hf s a h)

/-- A fold leaves alone what each of its steps leaves alone. -/
theorem foldl_keeps {α β : Type} {f : State → α → State} (g : State → β) (hf : ∀ t a, g (f t a) = g t) (l : List α) (s : State) :
    g (l.foldl f s) = g s := by
  induction l generalizing s with
  | nil => rfl
  | cons a t ih => exact (ih (f s a)).trans (hf s a)

end Sys2Proof.Machine
end

