-- ==== Sys2Proof/Laws/Memory.lean ====
section
/-! SUPPORT. Laws of memory: what every byte reads as after a store, that every memory operation keeps the canonical form, and what a store of a
DRAM word leaves of its ink, POISON and damage. -/

namespace Sys2Proof.Machine

/-! Bytes. -/

theorem get_putCells (m : List Host.Cell) (a : Nat) (l : List Byte) (b : Nat) :
    SMap.get (fun _ => 0) (putCells m a l) b = if h : a ≤ b ∧ b - a < l.length then l[b - a]'h.2 else SMap.get (fun _ => 0) m b := by
  induction l generalizing m a with
  | nil => simp [putCells]
  | cons x t ih =>
    simp only [putCells]
    rw [ih]
    by_cases h1 : a + 1 ≤ b ∧ b - (a + 1) < t.length
    · have h2 : a ≤ b ∧ b - a < (x :: t).length := by simp only [List.length_cons]; omega
      rw [dif_pos h1, dif_pos h2]
      have e : b - a = b - (a + 1) + 1 := by omega
      simp only [e, List.getElem_cons_succ]
    · rw [dif_neg h1, SMap.get_set]
      by_cases h3 : b = a
      · subst h3
        simp
      · have h2 : ¬ (a ≤ b ∧ b - a < (x :: t).length) := by simp only [List.length_cons]; omega
        rw [dif_neg h2, if_neg h3]

/-- What a byte reads as after bytes have been written. -/
theorem State.byte_putBytes (s : State) (a : Nat) (l : List Byte) (b : Nat) :
    (s.putBytes a l).byte b = if h : a ≤ b ∧ b - a < l.length then l[b - a]'h.2 else s.byte b := get_putCells s.mem a l b

/-- A byte outside the written ones stays. -/
theorem State.byte_putBytes_ne (s : State) {a b : Nat} (l : List Byte) (h : b < a ∨ a + l.length ≤ b) : (s.putBytes a l).byte b = s.byte b := by
  rw [State.byte_putBytes, dif_neg (by omega)]

theorem State.byte_putBytes_in (s : State) (a : Nat) (l : List Byte) {i : Nat} (h : i < l.length) : (s.putBytes a l).byte (a + i) = l[i] := by
  rw [State.byte_putBytes, dif_pos (by omega)]
  simp only [Nat.add_sub_cancel_left]

/-! The canonical form of memory. -/

theorem Memory.wf_putCells (m : List Host.Cell) (a : Nat) (l : List Byte) (h : Memory.wf m = true) : Memory.wf (putCells m a l) = true := by
  induction l generalizing m a with
  | nil => exact h
  | cons x t ih => exact ih _ _ (SMap.wf_set _ _ _ _ h)

theorem Memory.wf_clear (m : List Host.Cell) (lo hi : Nat) (h : Memory.wf m = true) : Memory.wf (SMap.clear m lo hi) = true := SMap.wf_clear _ _ _ _ h

theorem Memory.wf_filter (m : List Host.Cell) (p : Host.Cell → Bool) (h : Memory.wf m = true) : Memory.wf (m.filter p) = true :=
  SMap.wf_filter _ _ _ h

theorem State.Canonical.putBytes {s : State} (h : s.Canonical) (a : Nat) (l : List Byte) : (s.putBytes a l).Canonical :=
  ⟨Memory.wf_putCells _ _ _ h.1, h.2.1, h.2.2⟩

/-! The store of a DRAM word (13 R526, R531, R560). -/

/-- The store in a word without a copy: its bytes, POISON 0, a fresh codeword, and nothing more to write back. -/
theorem State.storeDram_one (s : State) (a0 off : Nat) (l : List Byte) (h : s.copyOf a0 = none) :
    s.storeDram a0 off l = { s.putBytes (s.served a0 + off) l with mc := { s.mc with
      poison := SMap.set (fun _ => false) s.mc.poison (wordNo (s.served a0)) false
      damage := SMap.set (fun _ => []) s.mc.damage (wordNo (s.served a0)) []
      writeback := s.mc.writeback.filter (fun x => x != s.served a0) } } := by
  simp only [State.storeDram, h]
  rfl

/-- A store changes memory, POISON, damage and the words waiting to be written back, and nothing else. -/
theorem State.storeDram_rest (s : State) (a0 off : Nat) (l : List Byte) :
    s.storeDram a0 off l = { s with mem := (s.storeDram a0 off l).mem, mc := { s.mc with
      poison := (s.storeDram a0 off l).mc.poison, damage := (s.storeDram a0 off l).mc.damage, writeback := (s.storeDram a0 off l).mc.writeback } } := by
  simp only [State.storeDram]
  split <;> rfl

theorem State.Canonical.storeDram {s : State} (h : s.Canonical) (a0 off : Nat) (l : List Byte) : (s.storeDram a0 off l).Canonical := by
  simp only [State.storeDram]
  split
  · exact ⟨Memory.wf_putCells _ _ _ (Memory.wf_putCells _ _ _ h.1), h.2.1, h.2.2⟩
  · exact ⟨Memory.wf_putCells _ _ _ h.1, h.2.1, h.2.2⟩

theorem State.Canonical.poisonWord {s : State} (h : s.Canonical) (a ink : Nat) : (s.poisonWord a ink).Canonical := by
  have h' := h.storeDram a 0 (List.replicate 32 0)
  exact ⟨h'.1, h'.2.1, Runs.wf_setRange _ _ _ _ h'.2.2⟩

theorem State.Canonical.rewriteDecoded {s : State} (h : s.Canonical) (a : Nat) : (s.rewriteDecoded a).Canonical := by
  have h' := h.storeDram a 0 (s.dramBytes a 0 32)
  exact ⟨h'.1, h'.2.1, Runs.wf_setRange _ _ _ _ h'.2.2⟩

theorem State.Canonical.upset {s : State} (h : s.Canonical) (a : Nat) (noise : List (Nat × Byte)) : (s.upset a noise).Canonical := by
  simp only [State.upset]
  split <;> exact h

theorem State.Canonical.countCorrection {s : State} (h : s.Canonical) (c sym : Nat) : (s.countCorrection c sym).Canonical := by
  simp only [State.countCorrection]
  repeat' split
  all_goals first
    | with_reducible exact (h.satInc _ _ _).raise _
    | with_reducible exact h.satInc _ _ _

theorem State.Canonical.noteRead {s : State} (h : s.Canonical) (a0 : Nat) : (s.noteRead a0).Canonical := by
  simp only [State.noteRead]
  repeat' split
  all_goals first
    | with_reducible exact h
    | with_reducible exact State.Canonical.of_eq (h.countCorrection _ _) rfl rfl rfl
    | with_reducible exact State.Canonical.storeDram (h.satInc _ _ _) _ _ _
    | with_reducible exact h.storeDram _ _ _

theorem State.Canonical.noteReads {s : State} (h : s.Canonical) (a n : Nat) : (s.noteReads a n).Canonical := by
  simp only [State.noteReads]
  split
  · exact h
  · refine State.Canonical.foldl (fun t p ht => ?_) _ h
    split
    · exact ht.noteRead _
    · exact ht

theorem State.Canonical.firstOrOver {s : State} (h : s.Canonical) (v o : Fld) : (s.firstOrOver v o).2.Canonical := by
  have h1 := h.setFld v 1 0
  have h2 := h.setFld o 1 0
  unfold State.firstOrOver
  generalize s.flag v = b
  generalize s.setFld v 1 0 = x at *
  generalize s.setFld o 1 0 = y at *
  cases b
  · exact h1
  · exact h2

theorem State.Canonical.refusePlate {s : State} (h : s.Canonical) (w : Who) (a : Nat) : (s.refusePlate w a).Canonical := by
  have h1 := h.firstOrOver F.ETCH_WPROT_VALID F.ETCH_WPROT_OVERFLOW
  unfold State.refusePlate
  generalize s.firstOrOver F.ETCH_WPROT_VALID F.ETCH_WPROT_OVERFLOW = x at *
  obtain ⟨b, t⟩ := x
  cases b
  · exact (h1.raise 168).withEtch _
  · exact State.Canonical.withEtch (State.Canonical.raise (h1.setFld F.ETCH_WPROT_OFFSET (a - plateBase) 0) 168) _

theorem State.Canonical.storeWord {s : State} (h : s.Canonical) (w : Who) (a : Nat) (l : List Byte) : (s.storeWord w a l).2.Canonical := by
  simp only [State.storeWord]
  repeat' split
  all_goals first
    | with_reducible exact h
    | with_reducible exact h.storeDram _ _ _
    | with_reducible exact (h.noteRead _).storeDram _ _ _
    | with_reducible exact h.refusePlate _ _
    | with_reducible exact h.putBytes _ _

theorem State.Canonical.physWriteGo {w : Who} (ps : List (Nat × Nat)) (l : List Byte) {s : State} (h : s.Canonical) :
    (State.physWriteGo w ps l s).2.Canonical := by
  induction ps generalizing l s with
  | nil => exact h
  | cons p t ih =>
    simp only [State.physWriteGo]
    split
    · rename_i f s' heq
      have := h.storeWord w p.1 (l.take p.2)
      rw [heq] at this
      exact this
    · rename_i s' heq
      have := h.storeWord w p.1 (l.take p.2)
      rw [heq] at this
      exact ih _ this

/-- A write at a physical address keeps the canonical form. -/
theorem State.Canonical.physWrite {s : State} (h : s.Canonical) (w : Who) (a : Nat) (l : List Byte) : (s.physWrite w a l).2.Canonical :=
  h.physWriteGo _ _

theorem State.Canonical.cache {s : State} (h : s.Canonical) (w : Who) (va pa : Nat) (b : Bool) : (s.cache w va pa b).Canonical := by
  simp only [State.cache]
  split
  · split <;> exact h
  · exact h

theorem State.Canonical.dmaReadGo {w : Who} (ps : List (Nat × Nat)) (acc : List Byte) {s : State} (h : s.Canonical) :
    (State.dmaReadGo w ps acc s).2.Canonical := by
  induction ps generalizing acc s with
  | nil => exact h
  | cons p t ih =>
    simp only [State.dmaReadGo]
    split
    · with_reducible exact h
    · split
      · with_reducible exact h
      · exact ih _ (State.Canonical.noteReads (h.cache _ _ _ _) _ _)

/-- A read under a party's identity keeps the canonical form. -/
theorem State.Canonical.dmaRead {s : State} (h : s.Canonical) (w : Who) (va n : Nat) : (s.dmaRead w va n).2.Canonical := h.dmaReadGo _ _

theorem State.Canonical.dmaWriteGo {w : Who} (ps : List (Nat × Nat)) (l : List Byte) {s : State} (h : s.Canonical) :
    (State.dmaWriteGo w ps l s).2.Canonical := by
  induction ps generalizing l s with
  | nil => exact h
  | cons p t ih =>
    simp only [State.dmaWriteGo]
    split
    · exact h
    · rename_i pa _
      have hw := State.Canonical.physWrite (h.cache w p.1 pa true) w pa (l.take p.2)
      split
      · rename_i heq
        rw [heq] at hw
        exact hw
      · rename_i heq
        rw [heq] at hw
        exact ih _ hw

/-- A write under a party's identity keeps the canonical form. -/
theorem State.Canonical.dmaWrite {s : State} (h : s.Canonical) (w : Who) (va : Nat) (l : List Byte) : (s.dmaWrite w va l).2.Canonical :=
  h.dmaWriteGo _ _

/-! The wiping and copying of ranges (13 R535, R560). -/

theorem State.Canonical.wipe {s : State} (h : s.Canonical) (lo hi ink : Nat) : (s.wipe lo hi ink).Canonical := by
  simp only [State.wipe]
  refine State.Canonical.foldl (fun t e ht => ?_) _ ?_
  · split
    · exact ⟨Memory.wf_clear _ _ _ ht.1, ht.2.1, Runs.wf_setRange _ _ _ _ ht.2.2⟩
    · exact ht
  · exact ⟨Memory.wf_clear _ _ _ h.1, h.2.1, Runs.wf_setRange _ _ _ _ h.2.2⟩

theorem Memory.wf_foldl_set (l : List Host.Cell) (f : Nat → Nat) (m : List Host.Cell) (h : Memory.wf m = true) :
    Memory.wf (l.foldl (fun m c => SMap.set (fun _ => 0) m (f c.1) c.2) m) = true := by
  induction l generalizing m with
  | nil => exact h
  | cons c t ih => exact ih _ (SMap.wf_set _ _ _ _ h)

theorem Runs.wf_foldl_setRange (l : RunMap) (f : Nat → Nat) (hi : Nat) (m : RunMap) (h : Runs.wf m = true) :
    Runs.wf (l.foldl (fun m r => RunMap.setRange m (f r.1) hi r.2) m) = true := by
  induction l generalizing m with
  | nil => exact h
  | cons c t ih => exact ih _ (Runs.wf_setRange _ _ _ _ h)

theorem State.Canonical.copyWords {s : State} (h : s.Canonical) (src dst n : Nat) : (s.copyWords src dst n).Canonical :=
  ⟨Memory.wf_foldl_set _ (fun a => a - src + dst) _ (Memory.wf_clear _ _ _ h.1), h.2.1,
    Runs.wf_foldl_setRange _ (fun a => a - wordNo src + wordNo dst) _ _ (Runs.wf_setRange _ _ _ _ h.2.2)⟩

end Sys2Proof.Machine
end

