-- ==== Sys2Proof/WellFormed.lean ====
section
/-! DEFINITION. When a command's operands lie within the widths and counts the spec gives them. -/

namespace Sys2Proof

/-- Client numbers are 0 to 4095 (00, Numbering; 01 R12). -/
def Who.wf : Who → Bool
  | .s => true
  | .med => true
  | .fw => true
  | .client n => decide (n < 4096)

/-- A client ring set is one of 4,096 (03 R98). -/
def RingId.wf : RingId → Bool
  | .s => true
  | .med => true
  | .client n => decide (n < 4096)

/-- A memory request is well formed when its issuer is. -/
def Req.wf (r : Req) : Bool := r.who.wf

/-- The operands of a command lie within the ranges of the spec's numbering. -/
def Instr.wf : Instr → Bool
  | .registerWrite _ who addr _ => who.wf && decide (addr < 2 ^ 48)
  | .misalignedWindowAccess who _ addr => who.wf && decide (addr < 2 ^ 48)
  | .unmappedAccess who _ _ addr => who.wf && decide (addr < 2 ^ 48)
  | .gatedWindowAccess who _ addr => who.wf && decide (addr < 2 ^ 48)
  | .memoryRead r addr noise _ => r.wf && decide (addr < 2 ^ 48) && noise.all (fun e => decide (e.1 < 36))
  | .memoryWrite _ gen r addr data _ => decide (gen < 2 ^ 16) && r.wf && decide (addr < 2 ^ 48) && data.length == 32
  | .partialWrite _ gen r addr _ noise _ => decide (gen < 2 ^ 16) && r.wf && decide (addr < 2 ^ 48) && noise.all (fun e => decide (e.1 < 36))
  | .correctionWriteback addr => decide (addr < 2 ^ 48)
  | .patrolRead addr noise => decide (addr < 2 ^ 48) && noise.all (fun e => decide (e.1 < 36))
  | .requestAgePromotion c _ => decide (c < 16)
  | .refreshBatch c => decide (c < 16)
  | .mr4Poll c ind => decide (c < 16) && decide (ind < 4)
  | .modeRegisterReadback c _ => decide (c < 16)
  | .commandPathParityError c => decide (c < 16)
  | .heavyRowWindowClear => true
  | .slotTableSwap g => decide (g < 4)
  | .thawPoison who c => who.wf && decide (c < 16)
  | .thawRewriteMr who c => who.wf && decide (c < 16)
  | .thawRetrain who c => who.wf && decide (c < 16)
  | .thawFence who c => who.wf && decide (c < 16)
  | .selfThaw c => decide (c < 16)
  | .wckDrift => true
  | .retrainAttemptEnd failed => decide (failed < 2 ^ 16)
  | .mirrorCopyDone m => decide (m < 8)
  | .scrub k _ => decide (k < 128)
  | .slotSet k => decide (k < 128)
  | .mirrorSet k => decide (k < 128)
  | .retrain k => decide (k < 128)
  | .memQuery k => decide (k < 128)
  | .checkpointCommit => true
  | .lockstepMismatch => true
  | .pairBResume => true
  | .intBandWrite who j _ => who.wf && decide (j < 16)
  | .intSack who _ => who.wf
  | .secureInterruptSignal => true
  | .aplicMessageSend src => decide (src < 512)
  | .intMbxOwnerWrite who m _ => who.wf && decide (m < 16)
  | .mbxTake who m _ => who.wf && decide (m < 16)
  | .mbxSend who m _ => who.wf && decide (m < 16)
  | .mbxDoorbell who m _ => who.wf && decide (m < 16)
  | .mbxBufferWrite who m _ _ => who.wf && decide (m < 16)
  | .debugAccess _ r _ addr _ => r.wf && decide (addr < 2 ^ 48)
  | .pwrSclaimWrite who j _ => who.wf && decide (j < 2)
  | .deferredApply _ => true
  | .sqTailDoorbell who ring _ => who.wf && ring.wf
  | .cqHeadDoorbell who ring _ => who.wf && ring.wf
  | .eqHeadDoorbell who ring _ => who.wf && ring.wf
  | .sqResume who ring _ => who.wf && ring.wf
  | .packetStart ring => ring.wf
  | .fenceEvaluate ring => ring.wf
  | .fenceTimeout ring => ring.wf
  | .packetComplete k => decide (k < 128)
  | .quantumBoundary => true
  | .contextResident => true
  | .nop k => decide (k < 128)
  | .ringSetup k => decide (k < 128)
  | .ringDisable k => decide (k < 128)
  | .ringSetDrained ring => ring.wf
  | .ringQuery k => decide (k < 128)
  | .eventMask k => decide (k < 128)
  | .timeRead k => decide (k < 128)
  | .pringEnable who p _ => who.wf && decide (p < 2)
  | .pringDisable who p _ => who.wf && decide (p < 2)
  | .instanceQuery k => decide (k < 128)
  | .instanceReset k => decide (k < 128)
  | .instanceResetDone c => decide (c < 4096)
  | .shareSet k => decide (k < 128)
  | .grant k => decide (k < 128)
  | .resourceRemoval _ => true
  | .devctxSet k => decide (k < 128)
  | .clientBind k => decide (k < 128)
  | .iotlbInval k => decide (k < 128)
  | .pasidMap k => decide (k < 128)
  | .pcieInboundRequest fn _ _ => decide (fn < 64)
  | .pcieFlr fn => decide (fn < 64)
  | .pciePerst _ => true
  | .pcieLinkChange _ speed width vfs => decide (speed < 8) && decide (width < 16) && decide (vfs < 64)
  | .pcieError _ => true
  | .dptxTrain who n _ => who.wf && decide (n < 8)
  | .trainingAttemptEnd n _ => decide (n < 8)
  | .hpdUnplug n => decide (n < 8)
  | .hpdPlug n => decide (n < 8)
  | .irqHpd n _ => decide (n < 8)
  | .dtgEnable who n _ => who.wf && decide (n < 8)
  | .applyArm who n _ => who.wf && decide (n < 8)
  | .layerArm who l _ => who.wf && decide (l < 64)
  | .applyLine n => decide (n < 8)
  | .frameBoundary n => decide (n < 8)
  | .verticalStart n => decide (n < 8)
  | .layerFetchFault l reason line => decide (l < 64) && decide (reason < 8) && decide (line < 2 ^ 16)
  | .layerUnderrun l line => decide (l < 64) && decide (line < 2 ^ 16)
  | .outputQuery k => decide (k < 128)
  | .modeSet k => decide (k < 128)
  | .auxXfer k _ => decide (k < 128)
  | .layerAssign k => decide (k < 128)
  | .layerUnassign k => decide (k < 128)
  | .layerSet k => decide (k < 128)
  | .flip k => decide (k < 128)
  | .paletteSet k => decide (k < 128)
  | .plateLockedWrite who addr => who.wf && decide (addr < 2 ^ 48)
  | .listLoad k => decide (k < 128)
  | .listUnload k => decide (k < 128)
  | .listCheckDone => true
  | .swap k => decide (k < 128)
  | .listRelease _ => true
  | .blinkSet k => decide (k < 128)
  | .blinkPhaseChange n c => decide (n < 8) && decide (c < 2)
  | .modeDecide k => decide (k < 128)
  | .etchQuery k => decide (k < 128)
  | .proofVerdict n w line crc => decide (n < 8) && decide (w < 16) && decide (line < 2 ^ 16) && decide (crc < 2 ^ 32)
  | .takeoverSwitch n line => decide (n < 8) && decide (line < 2 ^ 16)
  | .proofPassStart => true
  | .proofPassEnd => true
  | .returnCheckEnd n _ => decide (n < 8)
  | .sinkCrcRead n _ => decide (n < 8)
  | .guardSet k => decide (k < 128)
  | .windowSet k => decide (k < 128)
  | .proofReturn k => decide (k < 128)
  | .proofForce k => decide (k < 128)
  | .proofQuery k => decide (k < 128)
  | .fill k => decide (k < 128)
  | .gradient k => decide (k < 128)
  | .copy k => decide (k < 128)
  | .blend k => decide (k < 128)
  | .scale k => decide (k < 128)
  | .convert k => decide (k < 128)
  | .pathFill k => decide (k < 128)
  | .pathStroke k => decide (k < 128)
  | .grvGlyphs k => decide (k < 128)
  | .grvPaletteLoad k => decide (k < 128)
  | .grvCtxSave k => decide (k < 128)
  | .grvCtxRestore k => decide (k < 128)
  | .graverStripEnd k => decide (k < 128)
  | .grvCtxbaseWrite who _ _ => who.wf
  | .arbiterRequest _ pool _ => decide (pool < 4)
  | .takeAwayStop u => decide (u < 14)
  | .arbiterRelease u => decide (u < 14)
  | .lockOverrun u => decide (u < 14)
  | .hallRun k => decide (k < 128)
  | .hallQuery k => decide (k < 128)
  | .scanStart p => decide (p < 8)
  | .driveWindowEnd p _ => decide (p < 8)
  | .surveyEnd p _ => decide (p < 8)
  | .surveySkipped p => decide (p < 8)
  | .scanDecision p _ => decide (p < 8)
  | .reportWrite p => decide (p < 8)
  | .persistTimer p id => decide (p < 8) && decide (id < 32)
  | .idleLevelTimer p => decide (p < 8)
  | .surveyDue p => decide (p < 8)
  | .wakeScan _ => true
  | .panelSet k => decide (k < 128)
  | .panelTune k => decide (k < 128)
  | .reportSetup k => decide (k < 128)
  | .zoneSet k => decide (k < 128)
  | .absorb k => decide (k < 128)
  | .recalibrate k => decide (k < 128)
  | .panelQuery k => decide (k < 128)
  | .tchCtxSave k => decide (k < 128)
  | .tchCtxRestore k => decide (k < 128)
  | .hapTrigEdge j _ => decide (j < 8)
  | .hapticZoneTrigger z => decide (z < 256)
  | .segmentEnd a => decide (a < 8)
  | .coastWindow a bemf => decide (a < 8) && decide (bemf < 2 ^ 16)
  | .openCheck a ma => decide (a < 8) && decide (ma < 2 ^ 16)
  | .overcurrent a ma => decide (a < 8) && decide (ma < 2 ^ 16)
  | .vhapMeasure mv => decide (mv < 2 ^ 16)
  | .play k => decide (k < 128)
  | .waveLoad k => decide (k < 128)
  | .waveFree k => decide (k < 128)
  | .actQuery k => decide (k < 128)
  | .maint k => decide (k < 128)
  | .portSet k => decide (k < 128)
  | .routeSet k => decide (k < 128)
  | .busSet k => decide (k < 128)
  | .safeload k => decide (k < 128)
  | .safeloadSwap _ => true
  | .routerState k => decide (k < 128)
  | .genSet k => decide (k < 128)
  | .toneSet k => decide (k < 128)
  | .cadenceStepEnd g => decide (g < 16)
  | .beepPlay k => decide (k < 128)
  | .zoneBeepTrigger z => decide (z < 256)
  | .crossfadeEnd d => decide (d < 512)
  | .streamSetup k => decide (k < 128)
  | .streamCtrl k => decide (k < 128)
  | .streamFetch st _ => decide (st < 256)
  | .alarmSet k => decide (k < 128)
  | .audioQuery k => decide (k < 128)
  | .audCtxSave k => decide (k < 128)
  | .audCtxRestore k => decide (k < 128)
  | .portClockLost p rate => decide (p < 8) && decide (rate < 2 ^ 32)
  | .portClockBack p rate => decide (p < 8) && decide (rate < 2 ^ 32)
  | .alarmLaneMismatch => true
  | .alarmMemberFail m => decide (m < 2)
  | .folioQuery k => decide (k < 128)
  | .folioFlush k => decide (k < 128)
  | .settingsWrite k => decide (k < 128)
  | .settingsRead k => decide (k < 128)
  | .logRead k => decide (k < 128)
  | .calSet k => decide (k < 128)
  | .calDone k => decide (k < 128)
  | .folioAdopt k => decide (k < 128)
  | .flushTimer => true
  | .flashProgramDone _ => true
  | .compactionCommit => true
  | .dayChange => true
  | .histogramMinute _ => true
  | .pwrFailFall => true
  | .pwrFailRise _ => true
  | .coldBoot => true
  | .uartRecoveryImage _ => true
  | .fwQuery k => decide (k < 128)
  | .fwErase k => decide (k < 128)
  | .fwWrite k => decide (k < 128)
  | .fwVerify k => decide (k < 128)
  | .fwActivate k => decide (k < 128)
  | .activationResume => true
  | .fwConfirm k => decide (k < 128)
  | .fwAbandon k => decide (k < 128)
  | .healthWindowExpiry => true
  | .faultQuery k => decide (k < 128)
  | .faultClear k => decide (k < 128)
  | .safeEnter k => decide (k < 128)
  | .faultRecord => true
  | .timingStall n => decide (n < 8)
  | .clockFault => true
  | .sramUncorrectable arr _ => decide (arr < 4)
  | .swdogKick who _ => who.wf
  | .watchdogExpiry => true
  | .rubFire k => decide (k < 128)
  | .rubInEdge => true
  | .rubbingLatch => true
  | .rubAutoRelease => true
  | .rubRead k => decide (k < 128)
  | .rubRelease k => decide (k < 128)
  | .linkSet k => decide (k < 128)
  | .timeSet k => decide (k < 128)
  | .groupSet k => decide (k < 128)
  | .rosterSet k => decide (k < 128)
  | .admitMember k => decide (k < 128)
  | .alarmSend k => decide (k < 128)
  | .lockSet k => decide (k < 128)
  | .intercomSet k => decide (k < 128)
  | .qpSetup k => decide (k < 128)
  | .qpKick k => decide (k < 128)
  | .linkQuery k => decide (k < 128)
  | .groupFrameReceived port _ => decide (port < 2)
  | .ptpMessage port _ _ => decide (port < 2)
  | .syncTimeout _ => true
  | .helloTimer => true
  | .memberTimeout j => decide (j < 1024)
  | .groupTriggerTime => true
  | .intercomFrameSend j _ => decide (j < 8)
  | .intercomIdle j => decide (j < 8)
  | .qpFrameReceived port _ => decide (port < 2)
  | .qpTransmit q => decide (q < 32)
  | .ethLinkChange port _ => decide (port < 2)
  | .powerState k => decide (k < 128)
  | .sleepEntry => true
  | .vaultEntry => true
  | .wakeSource cause pin => decide (cause < 4) && decide (pin < 8)
  | .sleepExit => true
  | .clusterIdleGate c => decide (c < 4)
  | .clusterWake c => decide (c < 4)
  | .domainSet k => decide (k < 128)
  | .domainRestored d => decide (d < 64)
  | .reset k => decide (k < 128)
  | .nworldResetDone => true
  | .resetNLow => true
  | .poresetLow => true
  | .rtcSet k => decide (k < 128)
  | .powerQuery k => decide (k < 128)
  | .railPowerGood r => decide (r < 16)
  | .railTimeout r status => decide (r < 16) && decide (status < 2 ^ 16)
  | .avsAdjust dir => decide (dir < 4)
  | .tjLimit => true
  | .caseOpen => true
  | .vbatLoss => true
  | .lsioSownWrite who addr _ => who.wf && decide (addr < 2 ^ 48)
  | .lsioCtrlWrite who p _ => who.wf && decide (p < 14)
  | .lsioTxPush who p _ => who.wf && decide (p < 14)
  | .lsioRxPop who p _ => who.wf && decide (p < 14)
  | .lsioRxEntry p _ => decide (p < 14)
  | .lsioTxDone p => decide (p < 14)
  | .lsioBusError p tec rec => decide (p < 14) && decide (tec < 256) && decide (rec < 256)
  | .canStateChange p st => decide (p < 14) && decide (st < 4)
  | .gpioEdge ix _ => decide (ix < 64)
  | .flashEraseDone port _ => decide (port < 2)
  | .fwVerifyDone => true
  | .mirrorReleaseDone m => decide (m < 8)
  | .sramCe => true
  | .gainRampEnd ix => decide (ix < 1024)
  | .aonPowerUp => true
  | .warmResetRelease => true

end Sys2Proof
end

