-- ==== Sys2Proof/Laws/PerInstr.lean ====
section
/-! SUPPORT. The family Operands: what a well-formed command's operands are, one lemma per command. A command of the
command interface names one of the 128 execution places (11 R461), a command that carries an issuer names one the manual
numbers (01 R12, R14), a ring operand names one of the ring sets (03 R98), and an address lies in the 48-bit map. -/

namespace Sys2Proof.Laws.Operands

/-- The execution places a command names. -/
def places : Instr → List Nat
  | .registerWrite _ _ _ _ => []
  | .misalignedWindowAccess _ _ _ => []
  | .unmappedAccess _ _ _ _ => []
  | .gatedWindowAccess _ _ _ => []
  | .memoryRead _ _ _ _ => []
  | .memoryWrite _ _ _ _ _ _ => []
  | .partialWrite _ _ _ _ _ _ _ => []
  | .correctionWriteback _ => []
  | .patrolRead _ _ => []
  | .requestAgePromotion _ _ => []
  | .refreshBatch _ => []
  | .mr4Poll _ _ => []
  | .modeRegisterReadback _ _ => []
  | .commandPathParityError _ => []
  | .heavyRowWindowClear => []
  | .slotTableSwap _ => []
  | .thawPoison _ _ => []
  | .thawRewriteMr _ _ => []
  | .thawRetrain _ _ => []
  | .thawFence _ _ => []
  | .selfThaw _ => []
  | .wckDrift => []
  | .retrainAttemptEnd _ => []
  | .mirrorCopyDone _ => []
  | .scrub k _ => [k]
  | .slotSet k => [k]
  | .mirrorSet k => [k]
  | .retrain k => [k]
  | .memQuery k => [k]
  | .checkpointCommit => []
  | .lockstepMismatch => []
  | .pairBResume => []
  | .intBandWrite _ _ _ => []
  | .intSack _ _ => []
  | .secureInterruptSignal => []
  | .aplicMessageSend _ => []
  | .intMbxOwnerWrite _ _ _ => []
  | .mbxTake _ _ _ => []
  | .mbxSend _ _ _ => []
  | .mbxDoorbell _ _ _ => []
  | .mbxBufferWrite _ _ _ _ => []
  | .debugAccess _ _ _ _ _ => []
  | .pwrSclaimWrite _ _ _ => []
  | .deferredApply _ => []
  | .sqTailDoorbell _ _ _ => []
  | .cqHeadDoorbell _ _ _ => []
  | .eqHeadDoorbell _ _ _ => []
  | .sqResume _ _ _ => []
  | .packetStart _ => []
  | .fenceEvaluate _ => []
  | .fenceTimeout _ => []
  | .packetComplete k => [k]
  | .quantumBoundary => []
  | .contextResident => []
  | .nop k => [k]
  | .ringSetup k => [k]
  | .ringDisable k => [k]
  | .ringSetDrained _ => []
  | .ringQuery k => [k]
  | .eventMask k => [k]
  | .timeRead k => [k]
  | .pringEnable _ _ _ => []
  | .pringDisable _ _ _ => []
  | .instanceQuery k => [k]
  | .instanceReset k => [k]
  | .instanceResetDone _ => []
  | .shareSet k => [k]
  | .grant k => [k]
  | .resourceRemoval _ => []
  | .devctxSet k => [k]
  | .clientBind k => [k]
  | .iotlbInval k => [k]
  | .pasidMap k => [k]
  | .pcieInboundRequest _ _ _ => []
  | .pcieFlr _ => []
  | .pciePerst _ => []
  | .pcieLinkChange _ _ _ _ => []
  | .pcieError _ => []
  | .dptxTrain _ _ _ => []
  | .trainingAttemptEnd _ _ => []
  | .hpdUnplug _ => []
  | .hpdPlug _ => []
  | .irqHpd _ _ => []
  | .dtgEnable _ _ _ => []
  | .applyArm _ _ _ => []
  | .layerArm _ _ _ => []
  | .applyLine _ => []
  | .frameBoundary _ => []
  | .verticalStart _ => []
  | .layerFetchFault _ _ _ => []
  | .layerUnderrun _ _ => []
  | .outputQuery k => [k]
  | .modeSet k => [k]
  | .auxXfer k _ => [k]
  | .layerAssign k => [k]
  | .layerUnassign k => [k]
  | .layerSet k => [k]
  | .flip k => [k]
  | .paletteSet k => [k]
  | .plateLockedWrite _ _ => []
  | .listLoad k => [k]
  | .listUnload k => [k]
  | .listCheckDone => []
  | .swap k => [k]
  | .listRelease _ => []
  | .blinkSet k => [k]
  | .blinkPhaseChange _ _ => []
  | .modeDecide k => [k]
  | .etchQuery k => [k]
  | .proofVerdict _ _ _ _ => []
  | .takeoverSwitch _ _ => []
  | .proofPassStart => []
  | .proofPassEnd => []
  | .returnCheckEnd _ _ => []
  | .sinkCrcRead _ _ => []
  | .guardSet k => [k]
  | .windowSet k => [k]
  | .proofReturn k => [k]
  | .proofForce k => [k]
  | .proofQuery k => [k]
  | .fill k => [k]
  | .gradient k => [k]
  | .copy k => [k]
  | .blend k => [k]
  | .scale k => [k]
  | .convert k => [k]
  | .pathFill k => [k]
  | .pathStroke k => [k]
  | .grvGlyphs k => [k]
  | .grvPaletteLoad k => [k]
  | .grvCtxSave k => [k]
  | .grvCtxRestore k => [k]
  | .graverStripEnd k => [k]
  | .grvCtxbaseWrite _ _ _ => []
  | .arbiterRequest _ _ _ => []
  | .takeAwayStop _ => []
  | .arbiterRelease _ => []
  | .lockOverrun _ => []
  | .hallRun k => [k]
  | .hallQuery k => [k]
  | .scanStart _ => []
  | .driveWindowEnd _ _ => []
  | .surveyEnd _ _ => []
  | .surveySkipped _ => []
  | .scanDecision _ _ => []
  | .reportWrite _ => []
  | .persistTimer _ _ => []
  | .idleLevelTimer _ => []
  | .surveyDue _ => []
  | .wakeScan _ => []
  | .panelSet k => [k]
  | .panelTune k => [k]
  | .reportSetup k => [k]
  | .zoneSet k => [k]
  | .absorb k => [k]
  | .recalibrate k => [k]
  | .panelQuery k => [k]
  | .tchCtxSave k => [k]
  | .tchCtxRestore k => [k]
  | .hapTrigEdge _ _ => []
  | .hapticZoneTrigger _ => []
  | .segmentEnd _ => []
  | .coastWindow _ _ => []
  | .openCheck _ _ => []
  | .overcurrent _ _ => []
  | .vhapMeasure _ => []
  | .play k => [k]
  | .waveLoad k => [k]
  | .waveFree k => [k]
  | .actQuery k => [k]
  | .maint k => [k]
  | .portSet k => [k]
  | .routeSet k => [k]
  | .busSet k => [k]
  | .safeload k => [k]
  | .safeloadSwap _ => []
  | .routerState k => [k]
  | .genSet k => [k]
  | .toneSet k => [k]
  | .cadenceStepEnd _ => []
  | .beepPlay k => [k]
  | .zoneBeepTrigger _ => []
  | .crossfadeEnd _ => []
  | .streamSetup k => [k]
  | .streamCtrl k => [k]
  | .streamFetch _ _ => []
  | .alarmSet k => [k]
  | .audioQuery k => [k]
  | .audCtxSave k => [k]
  | .audCtxRestore k => [k]
  | .portClockLost _ _ => []
  | .portClockBack _ _ => []
  | .alarmLaneMismatch => []
  | .alarmMemberFail _ => []
  | .folioQuery k => [k]
  | .folioFlush k => [k]
  | .settingsWrite k => [k]
  | .settingsRead k => [k]
  | .logRead k => [k]
  | .calSet k => [k]
  | .calDone k => [k]
  | .folioAdopt k => [k]
  | .flushTimer => []
  | .flashProgramDone _ => []
  | .compactionCommit => []
  | .dayChange => []
  | .histogramMinute _ => []
  | .pwrFailFall => []
  | .pwrFailRise _ => []
  | .coldBoot => []
  | .uartRecoveryImage _ => []
  | .fwQuery k => [k]
  | .fwErase k => [k]
  | .fwWrite k => [k]
  | .fwVerify k => [k]
  | .fwActivate k => [k]
  | .activationResume => []
  | .fwConfirm k => [k]
  | .fwAbandon k => [k]
  | .healthWindowExpiry => []
  | .faultQuery k => [k]
  | .faultClear k => [k]
  | .safeEnter k => [k]
  | .faultRecord => []
  | .timingStall _ => []
  | .clockFault => []
  | .sramUncorrectable _ _ => []
  | .swdogKick _ _ => []
  | .watchdogExpiry => []
  | .rubFire k => [k]
  | .rubInEdge => []
  | .rubbingLatch => []
  | .rubAutoRelease => []
  | .rubRead k => [k]
  | .rubRelease k => [k]
  | .linkSet k => [k]
  | .timeSet k => [k]
  | .groupSet k => [k]
  | .rosterSet k => [k]
  | .admitMember k => [k]
  | .alarmSend k => [k]
  | .lockSet k => [k]
  | .intercomSet k => [k]
  | .qpSetup k => [k]
  | .qpKick k => [k]
  | .linkQuery k => [k]
  | .groupFrameReceived _ _ => []
  | .ptpMessage _ _ _ => []
  | .syncTimeout _ => []
  | .helloTimer => []
  | .memberTimeout _ => []
  | .groupTriggerTime => []
  | .intercomFrameSend _ _ => []
  | .intercomIdle _ => []
  | .qpFrameReceived _ _ => []
  | .qpTransmit _ => []
  | .ethLinkChange _ _ => []
  | .powerState k => [k]
  | .sleepEntry => []
  | .vaultEntry => []
  | .wakeSource _ _ => []
  | .sleepExit => []
  | .clusterIdleGate _ => []
  | .clusterWake _ => []
  | .domainSet k => [k]
  | .domainRestored _ => []
  | .reset k => [k]
  | .nworldResetDone => []
  | .resetNLow => []
  | .poresetLow => []
  | .rtcSet k => [k]
  | .powerQuery k => [k]
  | .railPowerGood _ => []
  | .railTimeout _ _ => []
  | .avsAdjust _ => []
  | .tjLimit => []
  | .caseOpen => []
  | .vbatLoss => []
  | .lsioSownWrite _ _ _ => []
  | .lsioCtrlWrite _ _ _ => []
  | .lsioTxPush _ _ _ => []
  | .lsioRxPop _ _ _ => []
  | .lsioRxEntry _ _ => []
  | .lsioTxDone _ => []
  | .lsioBusError _ _ _ => []
  | .canStateChange _ _ => []
  | .gpioEdge _ _ => []
  | .flashEraseDone _ _ => []
  | .fwVerifyDone => []
  | .mirrorReleaseDone _ => []
  | .sramCe => []
  | .gainRampEnd _ => []
  | .aonPowerUp => []
  | .warmResetRelease => []

/-- The issuers a command carries. -/
def issuers : Instr → List Who
  | .registerWrite _ who _ _ => [who]
  | .misalignedWindowAccess who _ _ => [who]
  | .unmappedAccess who _ _ _ => [who]
  | .gatedWindowAccess who _ _ => [who]
  | .memoryRead r _ _ _ => [r.who]
  | .memoryWrite _ _ r _ _ _ => [r.who]
  | .partialWrite _ _ r _ _ _ _ => [r.who]
  | .correctionWriteback _ => []
  | .patrolRead _ _ => []
  | .requestAgePromotion _ _ => []
  | .refreshBatch _ => []
  | .mr4Poll _ _ => []
  | .modeRegisterReadback _ _ => []
  | .commandPathParityError _ => []
  | .heavyRowWindowClear => []
  | .slotTableSwap _ => []
  | .thawPoison who _ => [who]
  | .thawRewriteMr who _ => [who]
  | .thawRetrain who _ => [who]
  | .thawFence who _ => [who]
  | .selfThaw _ => []
  | .wckDrift => []
  | .retrainAttemptEnd _ => []
  | .mirrorCopyDone _ => []
  | .scrub _ _ => []
  | .slotSet _ => []
  | .mirrorSet _ => []
  | .retrain _ => []
  | .memQuery _ => []
  | .checkpointCommit => []
  | .lockstepMismatch => []
  | .pairBResume => []
  | .intBandWrite who _ _ => [who]
  | .intSack who _ => [who]
  | .secureInterruptSignal => []
  | .aplicMessageSend _ => []
  | .intMbxOwnerWrite who _ _ => [who]
  | .mbxTake who _ _ => [who]
  | .mbxSend who _ _ => [who]
  | .mbxDoorbell who _ _ => [who]
  | .mbxBufferWrite who _ _ _ => [who]
  | .debugAccess _ r _ _ _ => [r.who]
  | .pwrSclaimWrite who _ _ => [who]
  | .deferredApply _ => []
  | .sqTailDoorbell who _ _ => [who]
  | .cqHeadDoorbell who _ _ => [who]
  | .eqHeadDoorbell who _ _ => [who]
  | .sqResume who _ _ => [who]
  | .packetStart _ => []
  | .fenceEvaluate _ => []
  | .fenceTimeout _ => []
  | .packetComplete _ => []
  | .quantumBoundary => []
  | .contextResident => []
  | .nop _ => []
  | .ringSetup _ => []
  | .ringDisable _ => []
  | .ringSetDrained _ => []
  | .ringQuery _ => []
  | .eventMask _ => []
  | .timeRead _ => []
  | .pringEnable who _ _ => [who]
  | .pringDisable who _ _ => [who]
  | .instanceQuery _ => []
  | .instanceReset _ => []
  | .instanceResetDone _ => []
  | .shareSet _ => []
  | .grant _ => []
  | .resourceRemoval _ => []
  | .devctxSet _ => []
  | .clientBind _ => []
  | .iotlbInval _ => []
  | .pasidMap _ => []
  | .pcieInboundRequest _ _ _ => []
  | .pcieFlr _ => []
  | .pciePerst _ => []
  | .pcieLinkChange _ _ _ _ => []
  | .pcieError _ => []
  | .dptxTrain who _ _ => [who]
  | .trainingAttemptEnd _ _ => []
  | .hpdUnplug _ => []
  | .hpdPlug _ => []
  | .irqHpd _ _ => []
  | .dtgEnable who _ _ => [who]
  | .applyArm who _ _ => [who]
  | .layerArm who _ _ => [who]
  | .applyLine _ => []
  | .frameBoundary _ => []
  | .verticalStart _ => []
  | .layerFetchFault _ _ _ => []
  | .layerUnderrun _ _ => []
  | .outputQuery _ => []
  | .modeSet _ => []
  | .auxXfer _ _ => []
  | .layerAssign _ => []
  | .layerUnassign _ => []
  | .layerSet _ => []
  | .flip _ => []
  | .paletteSet _ => []
  | .plateLockedWrite who _ => [who]
  | .listLoad _ => []
  | .listUnload _ => []
  | .listCheckDone => []
  | .swap _ => []
  | .listRelease _ => []
  | .blinkSet _ => []
  | .blinkPhaseChange _ _ => []
  | .modeDecide _ => []
  | .etchQuery _ => []
  | .proofVerdict _ _ _ _ => []
  | .takeoverSwitch _ _ => []
  | .proofPassStart => []
  | .proofPassEnd => []
  | .returnCheckEnd _ _ => []
  | .sinkCrcRead _ _ => []
  | .guardSet _ => []
  | .windowSet _ => []
  | .proofReturn _ => []
  | .proofForce _ => []
  | .proofQuery _ => []
  | .fill _ => []
  | .gradient _ => []
  | .copy _ => []
  | .blend _ => []
  | .scale _ => []
  | .convert _ => []
  | .pathFill _ => []
  | .pathStroke _ => []
  | .grvGlyphs _ => []
  | .grvPaletteLoad _ => []
  | .grvCtxSave _ => []
  | .grvCtxRestore _ => []
  | .graverStripEnd _ => []
  | .grvCtxbaseWrite who _ _ => [who]
  | .arbiterRequest _ _ _ => []
  | .takeAwayStop _ => []
  | .arbiterRelease _ => []
  | .lockOverrun _ => []
  | .hallRun _ => []
  | .hallQuery _ => []
  | .scanStart _ => []
  | .driveWindowEnd _ _ => []
  | .surveyEnd _ _ => []
  | .surveySkipped _ => []
  | .scanDecision _ _ => []
  | .reportWrite _ => []
  | .persistTimer _ _ => []
  | .idleLevelTimer _ => []
  | .surveyDue _ => []
  | .wakeScan _ => []
  | .panelSet _ => []
  | .panelTune _ => []
  | .reportSetup _ => []
  | .zoneSet _ => []
  | .absorb _ => []
  | .recalibrate _ => []
  | .panelQuery _ => []
  | .tchCtxSave _ => []
  | .tchCtxRestore _ => []
  | .hapTrigEdge _ _ => []
  | .hapticZoneTrigger _ => []
  | .segmentEnd _ => []
  | .coastWindow _ _ => []
  | .openCheck _ _ => []
  | .overcurrent _ _ => []
  | .vhapMeasure _ => []
  | .play _ => []
  | .waveLoad _ => []
  | .waveFree _ => []
  | .actQuery _ => []
  | .maint _ => []
  | .portSet _ => []
  | .routeSet _ => []
  | .busSet _ => []
  | .safeload _ => []
  | .safeloadSwap _ => []
  | .routerState _ => []
  | .genSet _ => []
  | .toneSet _ => []
  | .cadenceStepEnd _ => []
  | .beepPlay _ => []
  | .zoneBeepTrigger _ => []
  | .crossfadeEnd _ => []
  | .streamSetup _ => []
  | .streamCtrl _ => []
  | .streamFetch _ _ => []
  | .alarmSet _ => []
  | .audioQuery _ => []
  | .audCtxSave _ => []
  | .audCtxRestore _ => []
  | .portClockLost _ _ => []
  | .portClockBack _ _ => []
  | .alarmLaneMismatch => []
  | .alarmMemberFail _ => []
  | .folioQuery _ => []
  | .folioFlush _ => []
  | .settingsWrite _ => []
  | .settingsRead _ => []
  | .logRead _ => []
  | .calSet _ => []
  | .calDone _ => []
  | .folioAdopt _ => []
  | .flushTimer => []
  | .flashProgramDone _ => []
  | .compactionCommit => []
  | .dayChange => []
  | .histogramMinute _ => []
  | .pwrFailFall => []
  | .pwrFailRise _ => []
  | .coldBoot => []
  | .uartRecoveryImage _ => []
  | .fwQuery _ => []
  | .fwErase _ => []
  | .fwWrite _ => []
  | .fwVerify _ => []
  | .fwActivate _ => []
  | .activationResume => []
  | .fwConfirm _ => []
  | .fwAbandon _ => []
  | .healthWindowExpiry => []
  | .faultQuery _ => []
  | .faultClear _ => []
  | .safeEnter _ => []
  | .faultRecord => []
  | .timingStall _ => []
  | .clockFault => []
  | .sramUncorrectable _ _ => []
  | .swdogKick who _ => [who]
  | .watchdogExpiry => []
  | .rubFire _ => []
  | .rubInEdge => []
  | .rubbingLatch => []
  | .rubAutoRelease => []
  | .rubRead _ => []
  | .rubRelease _ => []
  | .linkSet _ => []
  | .timeSet _ => []
  | .groupSet _ => []
  | .rosterSet _ => []
  | .admitMember _ => []
  | .alarmSend _ => []
  | .lockSet _ => []
  | .intercomSet _ => []
  | .qpSetup _ => []
  | .qpKick _ => []
  | .linkQuery _ => []
  | .groupFrameReceived _ _ => []
  | .ptpMessage _ _ _ => []
  | .syncTimeout _ => []
  | .helloTimer => []
  | .memberTimeout _ => []
  | .groupTriggerTime => []
  | .intercomFrameSend _ _ => []
  | .intercomIdle _ => []
  | .qpFrameReceived _ _ => []
  | .qpTransmit _ => []
  | .ethLinkChange _ _ => []
  | .powerState _ => []
  | .sleepEntry => []
  | .vaultEntry => []
  | .wakeSource _ _ => []
  | .sleepExit => []
  | .clusterIdleGate _ => []
  | .clusterWake _ => []
  | .domainSet _ => []
  | .domainRestored _ => []
  | .reset _ => []
  | .nworldResetDone => []
  | .resetNLow => []
  | .poresetLow => []
  | .rtcSet _ => []
  | .powerQuery _ => []
  | .railPowerGood _ => []
  | .railTimeout _ _ => []
  | .avsAdjust _ => []
  | .tjLimit => []
  | .caseOpen => []
  | .vbatLoss => []
  | .lsioSownWrite who _ _ => [who]
  | .lsioCtrlWrite who _ _ => [who]
  | .lsioTxPush who _ _ => [who]
  | .lsioRxPop who _ _ => [who]
  | .lsioRxEntry _ _ => []
  | .lsioTxDone _ => []
  | .lsioBusError _ _ _ => []
  | .canStateChange _ _ => []
  | .gpioEdge _ _ => []
  | .flashEraseDone _ _ => []
  | .fwVerifyDone => []
  | .mirrorReleaseDone _ => []
  | .sramCe => []
  | .gainRampEnd _ => []
  | .aonPowerUp => []
  | .warmResetRelease => []

/-- The ring sets a command names. -/
def rings : Instr → List RingId
  | .registerWrite _ _ _ _ => []
  | .misalignedWindowAccess _ _ _ => []
  | .unmappedAccess _ _ _ _ => []
  | .gatedWindowAccess _ _ _ => []
  | .memoryRead _ _ _ _ => []
  | .memoryWrite _ _ _ _ _ _ => []
  | .partialWrite _ _ _ _ _ _ _ => []
  | .correctionWriteback _ => []
  | .patrolRead _ _ => []
  | .requestAgePromotion _ _ => []
  | .refreshBatch _ => []
  | .mr4Poll _ _ => []
  | .modeRegisterReadback _ _ => []
  | .commandPathParityError _ => []
  | .heavyRowWindowClear => []
  | .slotTableSwap _ => []
  | .thawPoison _ _ => []
  | .thawRewriteMr _ _ => []
  | .thawRetrain _ _ => []
  | .thawFence _ _ => []
  | .selfThaw _ => []
  | .wckDrift => []
  | .retrainAttemptEnd _ => []
  | .mirrorCopyDone _ => []
  | .scrub _ _ => []
  | .slotSet _ => []
  | .mirrorSet _ => []
  | .retrain _ => []
  | .memQuery _ => []
  | .checkpointCommit => []
  | .lockstepMismatch => []
  | .pairBResume => []
  | .intBandWrite _ _ _ => []
  | .intSack _ _ => []
  | .secureInterruptSignal => []
  | .aplicMessageSend _ => []
  | .intMbxOwnerWrite _ _ _ => []
  | .mbxTake _ _ _ => []
  | .mbxSend _ _ _ => []
  | .mbxDoorbell _ _ _ => []
  | .mbxBufferWrite _ _ _ _ => []
  | .debugAccess _ _ _ _ _ => []
  | .pwrSclaimWrite _ _ _ => []
  | .deferredApply _ => []
  | .sqTailDoorbell _ ring _ => [ring]
  | .cqHeadDoorbell _ ring _ => [ring]
  | .eqHeadDoorbell _ ring _ => [ring]
  | .sqResume _ ring _ => [ring]
  | .packetStart ring => [ring]
  | .fenceEvaluate ring => [ring]
  | .fenceTimeout ring => [ring]
  | .packetComplete _ => []
  | .quantumBoundary => []
  | .contextResident => []
  | .nop _ => []
  | .ringSetup _ => []
  | .ringDisable _ => []
  | .ringSetDrained ring => [ring]
  | .ringQuery _ => []
  | .eventMask _ => []
  | .timeRead _ => []
  | .pringEnable _ _ _ => []
  | .pringDisable _ _ _ => []
  | .instanceQuery _ => []
  | .instanceReset _ => []
  | .instanceResetDone _ => []
  | .shareSet _ => []
  | .grant _ => []
  | .resourceRemoval _ => []
  | .devctxSet _ => []
  | .clientBind _ => []
  | .iotlbInval _ => []
  | .pasidMap _ => []
  | .pcieInboundRequest _ _ _ => []
  | .pcieFlr _ => []
  | .pciePerst _ => []
  | .pcieLinkChange _ _ _ _ => []
  | .pcieError _ => []
  | .dptxTrain _ _ _ => []
  | .trainingAttemptEnd _ _ => []
  | .hpdUnplug _ => []
  | .hpdPlug _ => []
  | .irqHpd _ _ => []
  | .dtgEnable _ _ _ => []
  | .applyArm _ _ _ => []
  | .layerArm _ _ _ => []
  | .applyLine _ => []
  | .frameBoundary _ => []
  | .verticalStart _ => []
  | .layerFetchFault _ _ _ => []
  | .layerUnderrun _ _ => []
  | .outputQuery _ => []
  | .modeSet _ => []
  | .auxXfer _ _ => []
  | .layerAssign _ => []
  | .layerUnassign _ => []
  | .layerSet _ => []
  | .flip _ => []
  | .paletteSet _ => []
  | .plateLockedWrite _ _ => []
  | .listLoad _ => []
  | .listUnload _ => []
  | .listCheckDone => []
  | .swap _ => []
  | .listRelease _ => []
  | .blinkSet _ => []
  | .blinkPhaseChange _ _ => []
  | .modeDecide _ => []
  | .etchQuery _ => []
  | .proofVerdict _ _ _ _ => []
  | .takeoverSwitch _ _ => []
  | .proofPassStart => []
  | .proofPassEnd => []
  | .returnCheckEnd _ _ => []
  | .sinkCrcRead _ _ => []
  | .guardSet _ => []
  | .windowSet _ => []
  | .proofReturn _ => []
  | .proofForce _ => []
  | .proofQuery _ => []
  | .fill _ => []
  | .gradient _ => []
  | .copy _ => []
  | .blend _ => []
  | .scale _ => []
  | .convert _ => []
  | .pathFill _ => []
  | .pathStroke _ => []
  | .grvGlyphs _ => []
  | .grvPaletteLoad _ => []
  | .grvCtxSave _ => []
  | .grvCtxRestore _ => []
  | .graverStripEnd _ => []
  | .grvCtxbaseWrite _ _ _ => []
  | .arbiterRequest _ _ _ => []
  | .takeAwayStop _ => []
  | .arbiterRelease _ => []
  | .lockOverrun _ => []
  | .hallRun _ => []
  | .hallQuery _ => []
  | .scanStart _ => []
  | .driveWindowEnd _ _ => []
  | .surveyEnd _ _ => []
  | .surveySkipped _ => []
  | .scanDecision _ _ => []
  | .reportWrite _ => []
  | .persistTimer _ _ => []
  | .idleLevelTimer _ => []
  | .surveyDue _ => []
  | .wakeScan _ => []
  | .panelSet _ => []
  | .panelTune _ => []
  | .reportSetup _ => []
  | .zoneSet _ => []
  | .absorb _ => []
  | .recalibrate _ => []
  | .panelQuery _ => []
  | .tchCtxSave _ => []
  | .tchCtxRestore _ => []
  | .hapTrigEdge _ _ => []
  | .hapticZoneTrigger _ => []
  | .segmentEnd _ => []
  | .coastWindow _ _ => []
  | .openCheck _ _ => []
  | .overcurrent _ _ => []
  | .vhapMeasure _ => []
  | .play _ => []
  | .waveLoad _ => []
  | .waveFree _ => []
  | .actQuery _ => []
  | .maint _ => []
  | .portSet _ => []
  | .routeSet _ => []
  | .busSet _ => []
  | .safeload _ => []
  | .safeloadSwap _ => []
  | .routerState _ => []
  | .genSet _ => []
  | .toneSet _ => []
  | .cadenceStepEnd _ => []
  | .beepPlay _ => []
  | .zoneBeepTrigger _ => []
  | .crossfadeEnd _ => []
  | .streamSetup _ => []
  | .streamCtrl _ => []
  | .streamFetch _ _ => []
  | .alarmSet _ => []
  | .audioQuery _ => []
  | .audCtxSave _ => []
  | .audCtxRestore _ => []
  | .portClockLost _ _ => []
  | .portClockBack _ _ => []
  | .alarmLaneMismatch => []
  | .alarmMemberFail _ => []
  | .folioQuery _ => []
  | .folioFlush _ => []
  | .settingsWrite _ => []
  | .settingsRead _ => []
  | .logRead _ => []
  | .calSet _ => []
  | .calDone _ => []
  | .folioAdopt _ => []
  | .flushTimer => []
  | .flashProgramDone _ => []
  | .compactionCommit => []
  | .dayChange => []
  | .histogramMinute _ => []
  | .pwrFailFall => []
  | .pwrFailRise _ => []
  | .coldBoot => []
  | .uartRecoveryImage _ => []
  | .fwQuery _ => []
  | .fwErase _ => []
  | .fwWrite _ => []
  | .fwVerify _ => []
  | .fwActivate _ => []
  | .activationResume => []
  | .fwConfirm _ => []
  | .fwAbandon _ => []
  | .healthWindowExpiry => []
  | .faultQuery _ => []
  | .faultClear _ => []
  | .safeEnter _ => []
  | .faultRecord => []
  | .timingStall _ => []
  | .clockFault => []
  | .sramUncorrectable _ _ => []
  | .swdogKick _ _ => []
  | .watchdogExpiry => []
  | .rubFire _ => []
  | .rubInEdge => []
  | .rubbingLatch => []
  | .rubAutoRelease => []
  | .rubRead _ => []
  | .rubRelease _ => []
  | .linkSet _ => []
  | .timeSet _ => []
  | .groupSet _ => []
  | .rosterSet _ => []
  | .admitMember _ => []
  | .alarmSend _ => []
  | .lockSet _ => []
  | .intercomSet _ => []
  | .qpSetup _ => []
  | .qpKick _ => []
  | .linkQuery _ => []
  | .groupFrameReceived _ _ => []
  | .ptpMessage _ _ _ => []
  | .syncTimeout _ => []
  | .helloTimer => []
  | .memberTimeout _ => []
  | .groupTriggerTime => []
  | .intercomFrameSend _ _ => []
  | .intercomIdle _ => []
  | .qpFrameReceived _ _ => []
  | .qpTransmit _ => []
  | .ethLinkChange _ _ => []
  | .powerState _ => []
  | .sleepEntry => []
  | .vaultEntry => []
  | .wakeSource _ _ => []
  | .sleepExit => []
  | .clusterIdleGate _ => []
  | .clusterWake _ => []
  | .domainSet _ => []
  | .domainRestored _ => []
  | .reset _ => []
  | .nworldResetDone => []
  | .resetNLow => []
  | .poresetLow => []
  | .rtcSet _ => []
  | .powerQuery _ => []
  | .railPowerGood _ => []
  | .railTimeout _ _ => []
  | .avsAdjust _ => []
  | .tjLimit => []
  | .caseOpen => []
  | .vbatLoss => []
  | .lsioSownWrite _ _ _ => []
  | .lsioCtrlWrite _ _ _ => []
  | .lsioTxPush _ _ _ => []
  | .lsioRxPop _ _ _ => []
  | .lsioRxEntry _ _ => []
  | .lsioTxDone _ => []
  | .lsioBusError _ _ _ => []
  | .canStateChange _ _ => []
  | .gpioEdge _ _ => []
  | .flashEraseDone _ _ => []
  | .fwVerifyDone => []
  | .mirrorReleaseDone _ => []
  | .sramCe => []
  | .gainRampEnd _ => []
  | .aonPowerUp => []
  | .warmResetRelease => []

/-- The addresses a command carries. -/
def addresses : Instr → List Nat
  | .registerWrite _ _ addr _ => [addr]
  | .misalignedWindowAccess _ _ addr => [addr]
  | .unmappedAccess _ _ _ addr => [addr]
  | .gatedWindowAccess _ _ addr => [addr]
  | .memoryRead _ addr _ _ => [addr]
  | .memoryWrite _ _ _ addr _ _ => [addr]
  | .partialWrite _ _ _ addr _ _ _ => [addr]
  | .correctionWriteback addr => [addr]
  | .patrolRead addr _ => [addr]
  | .requestAgePromotion _ _ => []
  | .refreshBatch _ => []
  | .mr4Poll _ _ => []
  | .modeRegisterReadback _ _ => []
  | .commandPathParityError _ => []
  | .heavyRowWindowClear => []
  | .slotTableSwap _ => []
  | .thawPoison _ _ => []
  | .thawRewriteMr _ _ => []
  | .thawRetrain _ _ => []
  | .thawFence _ _ => []
  | .selfThaw _ => []
  | .wckDrift => []
  | .retrainAttemptEnd _ => []
  | .mirrorCopyDone _ => []
  | .scrub _ _ => []
  | .slotSet _ => []
  | .mirrorSet _ => []
  | .retrain _ => []
  | .memQuery _ => []
  | .checkpointCommit => []
  | .lockstepMismatch => []
  | .pairBResume => []
  | .intBandWrite _ _ _ => []
  | .intSack _ _ => []
  | .secureInterruptSignal => []
  | .aplicMessageSend _ => []
  | .intMbxOwnerWrite _ _ _ => []
  | .mbxTake _ _ _ => []
  | .mbxSend _ _ _ => []
  | .mbxDoorbell _ _ _ => []
  | .mbxBufferWrite _ _ _ _ => []
  | .debugAccess _ _ _ addr _ => [addr]
  | .pwrSclaimWrite _ _ _ => []
  | .deferredApply _ => []
  | .sqTailDoorbell _ _ _ => []
  | .cqHeadDoorbell _ _ _ => []
  | .eqHeadDoorbell _ _ _ => []
  | .sqResume _ _ _ => []
  | .packetStart _ => []
  | .fenceEvaluate _ => []
  | .fenceTimeout _ => []
  | .packetComplete _ => []
  | .quantumBoundary => []
  | .contextResident => []
  | .nop _ => []
  | .ringSetup _ => []
  | .ringDisable _ => []
  | .ringSetDrained _ => []
  | .ringQuery _ => []
  | .eventMask _ => []
  | .timeRead _ => []
  | .pringEnable _ _ _ => []
  | .pringDisable _ _ _ => []
  | .instanceQuery _ => []
  | .instanceReset _ => []
  | .instanceResetDone _ => []
  | .shareSet _ => []
  | .grant _ => []
  | .resourceRemoval _ => []
  | .devctxSet _ => []
  | .clientBind _ => []
  | .iotlbInval _ => []
  | .pasidMap _ => []
  | .pcieInboundRequest _ _ _ => []
  | .pcieFlr _ => []
  | .pciePerst _ => []
  | .pcieLinkChange _ _ _ _ => []
  | .pcieError _ => []
  | .dptxTrain _ _ _ => []
  | .trainingAttemptEnd _ _ => []
  | .hpdUnplug _ => []
  | .hpdPlug _ => []
  | .irqHpd _ _ => []
  | .dtgEnable _ _ _ => []
  | .applyArm _ _ _ => []
  | .layerArm _ _ _ => []
  | .applyLine _ => []
  | .frameBoundary _ => []
  | .verticalStart _ => []
  | .layerFetchFault _ _ _ => []
  | .layerUnderrun _ _ => []
  | .outputQuery _ => []
  | .modeSet _ => []
  | .auxXfer _ _ => []
  | .layerAssign _ => []
  | .layerUnassign _ => []
  | .layerSet _ => []
  | .flip _ => []
  | .paletteSet _ => []
  | .plateLockedWrite _ addr => [addr]
  | .listLoad _ => []
  | .listUnload _ => []
  | .listCheckDone => []
  | .swap _ => []
  | .listRelease _ => []
  | .blinkSet _ => []
  | .blinkPhaseChange _ _ => []
  | .modeDecide _ => []
  | .etchQuery _ => []
  | .proofVerdict _ _ _ _ => []
  | .takeoverSwitch _ _ => []
  | .proofPassStart => []
  | .proofPassEnd => []
  | .returnCheckEnd _ _ => []
  | .sinkCrcRead _ _ => []
  | .guardSet _ => []
  | .windowSet _ => []
  | .proofReturn _ => []
  | .proofForce _ => []
  | .proofQuery _ => []
  | .fill _ => []
  | .gradient _ => []
  | .copy _ => []
  | .blend _ => []
  | .scale _ => []
  | .convert _ => []
  | .pathFill _ => []
  | .pathStroke _ => []
  | .grvGlyphs _ => []
  | .grvPaletteLoad _ => []
  | .grvCtxSave _ => []
  | .grvCtxRestore _ => []
  | .graverStripEnd _ => []
  | .grvCtxbaseWrite _ _ _ => []
  | .arbiterRequest _ _ _ => []
  | .takeAwayStop _ => []
  | .arbiterRelease _ => []
  | .lockOverrun _ => []
  | .hallRun _ => []
  | .hallQuery _ => []
  | .scanStart _ => []
  | .driveWindowEnd _ _ => []
  | .surveyEnd _ _ => []
  | .surveySkipped _ => []
  | .scanDecision _ _ => []
  | .reportWrite _ => []
  | .persistTimer _ _ => []
  | .idleLevelTimer _ => []
  | .surveyDue _ => []
  | .wakeScan _ => []
  | .panelSet _ => []
  | .panelTune _ => []
  | .reportSetup _ => []
  | .zoneSet _ => []
  | .absorb _ => []
  | .recalibrate _ => []
  | .panelQuery _ => []
  | .tchCtxSave _ => []
  | .tchCtxRestore _ => []
  | .hapTrigEdge _ _ => []
  | .hapticZoneTrigger _ => []
  | .segmentEnd _ => []
  | .coastWindow _ _ => []
  | .openCheck _ _ => []
  | .overcurrent _ _ => []
  | .vhapMeasure _ => []
  | .play _ => []
  | .waveLoad _ => []
  | .waveFree _ => []
  | .actQuery _ => []
  | .maint _ => []
  | .portSet _ => []
  | .routeSet _ => []
  | .busSet _ => []
  | .safeload _ => []
  | .safeloadSwap _ => []
  | .routerState _ => []
  | .genSet _ => []
  | .toneSet _ => []
  | .cadenceStepEnd _ => []
  | .beepPlay _ => []
  | .zoneBeepTrigger _ => []
  | .crossfadeEnd _ => []
  | .streamSetup _ => []
  | .streamCtrl _ => []
  | .streamFetch _ _ => []
  | .alarmSet _ => []
  | .audioQuery _ => []
  | .audCtxSave _ => []
  | .audCtxRestore _ => []
  | .portClockLost _ _ => []
  | .portClockBack _ _ => []
  | .alarmLaneMismatch => []
  | .alarmMemberFail _ => []
  | .folioQuery _ => []
  | .folioFlush _ => []
  | .settingsWrite _ => []
  | .settingsRead _ => []
  | .logRead _ => []
  | .calSet _ => []
  | .calDone _ => []
  | .folioAdopt _ => []
  | .flushTimer => []
  | .flashProgramDone _ => []
  | .compactionCommit => []
  | .dayChange => []
  | .histogramMinute _ => []
  | .pwrFailFall => []
  | .pwrFailRise _ => []
  | .coldBoot => []
  | .uartRecoveryImage _ => []
  | .fwQuery _ => []
  | .fwErase _ => []
  | .fwWrite _ => []
  | .fwVerify _ => []
  | .fwActivate _ => []
  | .activationResume => []
  | .fwConfirm _ => []
  | .fwAbandon _ => []
  | .healthWindowExpiry => []
  | .faultQuery _ => []
  | .faultClear _ => []
  | .safeEnter _ => []
  | .faultRecord => []
  | .timingStall _ => []
  | .clockFault => []
  | .sramUncorrectable _ _ => []
  | .swdogKick _ _ => []
  | .watchdogExpiry => []
  | .rubFire _ => []
  | .rubInEdge => []
  | .rubbingLatch => []
  | .rubAutoRelease => []
  | .rubRead _ => []
  | .rubRelease _ => []
  | .linkSet _ => []
  | .timeSet _ => []
  | .groupSet _ => []
  | .rosterSet _ => []
  | .admitMember _ => []
  | .alarmSend _ => []
  | .lockSet _ => []
  | .intercomSet _ => []
  | .qpSetup _ => []
  | .qpKick _ => []
  | .linkQuery _ => []
  | .groupFrameReceived _ _ => []
  | .ptpMessage _ _ _ => []
  | .syncTimeout _ => []
  | .helloTimer => []
  | .memberTimeout _ => []
  | .groupTriggerTime => []
  | .intercomFrameSend _ _ => []
  | .intercomIdle _ => []
  | .qpFrameReceived _ _ => []
  | .qpTransmit _ => []
  | .ethLinkChange _ _ => []
  | .powerState _ => []
  | .sleepEntry => []
  | .vaultEntry => []
  | .wakeSource _ _ => []
  | .sleepExit => []
  | .clusterIdleGate _ => []
  | .clusterWake _ => []
  | .domainSet _ => []
  | .domainRestored _ => []
  | .reset _ => []
  | .nworldResetDone => []
  | .resetNLow => []
  | .poresetLow => []
  | .rtcSet _ => []
  | .powerQuery _ => []
  | .railPowerGood _ => []
  | .railTimeout _ _ => []
  | .avsAdjust _ => []
  | .tjLimit => []
  | .caseOpen => []
  | .vbatLoss => []
  | .lsioSownWrite _ addr _ => [addr]
  | .lsioCtrlWrite _ _ _ => []
  | .lsioTxPush _ _ _ => []
  | .lsioRxPop _ _ _ => []
  | .lsioRxEntry _ _ => []
  | .lsioTxDone _ => []
  | .lsioBusError _ _ _ => []
  | .canStateChange _ _ => []
  | .gpioEdge _ _ => []
  | .flashEraseDone _ _ => []
  | .fwVerifyDone => []
  | .mirrorReleaseDone _ => []
  | .sramCe => []
  | .gainRampEnd _ => []
  | .aonPowerUp => []
  | .warmResetRelease => []

/-- What a well-formed command's operands are. -/
def Statement (i : Instr) : Prop :=
  i.wf = true → (∀ k ∈ places i, k < 128) ∧ (∀ w ∈ issuers i, w.wf = true) ∧ (∀ r ∈ rings i, r.wf = true) ∧
    ∀ a ∈ addresses i, a < 2 ^ 48

/-- The statement from what the check and the four lists are for one command. -/
theorem of_eq {i : Instr} {c : Bool} {ps : List Nat} {ws : List Who} {rs : List RingId} {as : List Nat}
    (hc : i.wf = c) (hp : places i = ps) (hw : issuers i = ws) (hr : rings i = rs) (ha : addresses i = as)
    (h : c = true → (∀ k ∈ ps, k < 128) ∧ (∀ w ∈ ws, w.wf = true) ∧ (∀ r ∈ rs, r.wf = true) ∧ ∀ a ∈ as, a < 2 ^ 48) :
    Statement i := by
  subst hc hp hw hr ha; exact h

/-- A command that names none of the four. -/
theorem of_none {i : Instr} (hp : places i = []) (hw : issuers i = []) (hr : rings i = []) (ha : addresses i = []) :
    Statement i := by
  intro _; rw [hp, hw, hr, ha]; simp

/-- A command of the command interface: its one checked operand is a place. -/
theorem of_place {i : Instr} {k : Nat} (hc : i.wf = decide (k < 128)) (hp : places i = [k]) (hw : issuers i = [])
    (hr : rings i = []) (ha : addresses i = []) : Statement i :=
  of_eq hc hp hw hr ha (by simp)

theorem registerWrite (buffered : Bool) (who : Who) (addr : Nat) (v : Word) : Statement (.registerWrite buffered who addr v) :=
  of_eq (c := who.wf && decide (addr < 2 ^ 48)) (ps := []) (ws := [who]) (rs := []) (as := [addr])
    rfl rfl rfl rfl rfl (by simp +contextual)
theorem misalignedWindowAccess (who : Who) (write : Bool) (addr : Nat) : Statement (.misalignedWindowAccess who write addr) :=
  of_eq (c := who.wf && decide (addr < 2 ^ 48)) (ps := []) (ws := [who]) (rs := []) (as := [addr])
    rfl rfl rfl rfl rfl (by simp +contextual)
theorem unmappedAccess (who : Who) (core : Bool) (write : Bool) (addr : Nat) : Statement (.unmappedAccess who core write addr) :=
  of_eq (c := who.wf && decide (addr < 2 ^ 48)) (ps := []) (ws := [who]) (rs := []) (as := [addr])
    rfl rfl rfl rfl rfl (by simp +contextual)
theorem gatedWindowAccess (who : Who) (write : Bool) (addr : Nat) : Statement (.gatedWindowAccess who write addr) :=
  of_eq (c := who.wf && decide (addr < 2 ^ 48)) (ps := []) (ws := [who]) (rs := []) (as := [addr])
    rfl rfl rfl rfl rfl (by simp +contextual)
theorem memoryRead (r : Req) (addr : Nat) (noise : List (Nat × Byte)) (act : Option RowAct) : Statement (.memoryRead r addr noise act) :=
  of_eq (c := r.wf && decide (addr < 2 ^ 48) && noise.all (fun e => decide (e.1 < 36))) (ps := []) (ws := [r.who]) (rs := []) (as := [addr])
    rfl rfl rfl rfl rfl (by simp +contextual [Req.wf])
theorem memoryWrite (buffered : Bool) (gen : Nat) (r : Req) (addr : Nat) (data : List Byte) (act : Option RowAct) : Statement (.memoryWrite buffered gen r addr data act) :=
  of_eq (c := decide (gen < 2 ^ 16) && r.wf && decide (addr < 2 ^ 48) && data.length == 32) (ps := []) (ws := [r.who]) (rs := []) (as := [addr])
    rfl rfl rfl rfl rfl (by simp +contextual [Req.wf])
theorem partialWrite (buffered : Bool) (gen : Nat) (r : Req) (addr : Nat) (data : List Byte) (noise : List (Nat × Byte)) (act : Option RowAct) : Statement (.partialWrite buffered gen r addr data noise act) :=
  of_eq (c := decide (gen < 2 ^ 16) && r.wf && decide (addr < 2 ^ 48) && noise.all (fun e => decide (e.1 < 36))) (ps := []) (ws := [r.who]) (rs := []) (as := [addr])
    rfl rfl rfl rfl rfl (by simp +contextual [Req.wf])
theorem correctionWriteback (addr : Nat) : Statement (.correctionWriteback addr) :=
  of_eq (c := decide (addr < 2 ^ 48)) (ps := []) (ws := []) (rs := []) (as := [addr])
    rfl rfl rfl rfl rfl (by simp +contextual)
theorem patrolRead (addr : Nat) (noise : List (Nat × Byte)) : Statement (.patrolRead addr noise) :=
  of_eq (c := decide (addr < 2 ^ 48) && noise.all (fun e => decide (e.1 < 36))) (ps := []) (ws := []) (rs := []) (as := [addr])
    rfl rfl rfl rfl rfl (by simp +contextual)
theorem requestAgePromotion (c : Nat) (ix : Nat) : Statement (.requestAgePromotion c ix) :=
  of_none rfl rfl rfl rfl
theorem refreshBatch (c : Nat) : Statement (.refreshBatch c) :=
  of_none rfl rfl rfl rfl
theorem mr4Poll (c : Nat) (ind : Nat) : Statement (.mr4Poll c ind) :=
  of_none rfl rfl rfl rfl
theorem modeRegisterReadback (c : Nat) (mismatch : Option Nat) : Statement (.modeRegisterReadback c mismatch) :=
  of_none rfl rfl rfl rfl
theorem commandPathParityError (c : Nat) : Statement (.commandPathParityError c) :=
  of_none rfl rfl rfl rfl
theorem heavyRowWindowClear : Statement (.heavyRowWindowClear) :=
  of_none rfl rfl rfl rfl
theorem slotTableSwap (g : Nat) : Statement (.slotTableSwap g) :=
  of_none rfl rfl rfl rfl
theorem thawPoison (who : Who) (c : Nat) : Statement (.thawPoison who c) :=
  of_eq (c := who.wf && decide (c < 16)) (ps := []) (ws := [who]) (rs := []) (as := [])
    rfl rfl rfl rfl rfl (by simp +contextual)
theorem thawRewriteMr (who : Who) (c : Nat) : Statement (.thawRewriteMr who c) :=
  of_eq (c := who.wf && decide (c < 16)) (ps := []) (ws := [who]) (rs := []) (as := [])
    rfl rfl rfl rfl rfl (by simp +contextual)
theorem thawRetrain (who : Who) (c : Nat) : Statement (.thawRetrain who c) :=
  of_eq (c := who.wf && decide (c < 16)) (ps := []) (ws := [who]) (rs := []) (as := [])
    rfl rfl rfl rfl rfl (by simp +contextual)
theorem thawFence (who : Who) (c : Nat) : Statement (.thawFence who c) :=
  of_eq (c := who.wf && decide (c < 16)) (ps := []) (ws := [who]) (rs := []) (as := [])
    rfl rfl rfl rfl rfl (by simp +contextual)
theorem selfThaw (c : Nat) : Statement (.selfThaw c) :=
  of_none rfl rfl rfl rfl
theorem wckDrift : Statement (.wckDrift) :=
  of_none rfl rfl rfl rfl
theorem retrainAttemptEnd (failed : Nat) : Statement (.retrainAttemptEnd failed) :=
  of_none rfl rfl rfl rfl
theorem mirrorCopyDone (m : Nat) : Statement (.mirrorCopyDone m) :=
  of_none rfl rfl rfl rfl
theorem scrub (k : Nat) (upto : Option Nat) : Statement (.scrub k upto) :=
  of_place rfl rfl rfl rfl rfl
theorem slotSet (k : Nat) : Statement (.slotSet k) :=
  of_place rfl rfl rfl rfl rfl
theorem mirrorSet (k : Nat) : Statement (.mirrorSet k) :=
  of_place rfl rfl rfl rfl rfl
theorem retrain (k : Nat) : Statement (.retrain k) :=
  of_place rfl rfl rfl rfl rfl
theorem memQuery (k : Nat) : Statement (.memQuery k) :=
  of_place rfl rfl rfl rfl rfl
theorem checkpointCommit : Statement (.checkpointCommit) :=
  of_none rfl rfl rfl rfl
theorem lockstepMismatch : Statement (.lockstepMismatch) :=
  of_none rfl rfl rfl rfl
theorem pairBResume : Statement (.pairBResume) :=
  of_none rfl rfl rfl rfl
theorem intBandWrite (who : Who) (j : Nat) (v : Word) : Statement (.intBandWrite who j v) :=
  of_eq (c := who.wf && decide (j < 16)) (ps := []) (ws := [who]) (rs := []) (as := [])
    rfl rfl rfl rfl rfl (by simp +contextual)
theorem intSack (who : Who) (v : Word) : Statement (.intSack who v) :=
  of_eq (c := who.wf) (ps := []) (ws := [who]) (rs := []) (as := [])
    rfl rfl rfl rfl rfl (by simp +contextual)
theorem secureInterruptSignal : Statement (.secureInterruptSignal) :=
  of_none rfl rfl rfl rfl
theorem aplicMessageSend (src : Nat) : Statement (.aplicMessageSend src) :=
  of_none rfl rfl rfl rfl
theorem intMbxOwnerWrite (who : Who) (m : Nat) (v : Word) : Statement (.intMbxOwnerWrite who m v) :=
  of_eq (c := who.wf && decide (m < 16)) (ps := []) (ws := [who]) (rs := []) (as := [])
    rfl rfl rfl rfl rfl (by simp +contextual)
theorem mbxTake (who : Who) (m : Nat) (v : Word) : Statement (.mbxTake who m v) :=
  of_eq (c := who.wf && decide (m < 16)) (ps := []) (ws := [who]) (rs := []) (as := [])
    rfl rfl rfl rfl rfl (by simp +contextual)
theorem mbxSend (who : Who) (m : Nat) (v : Word) : Statement (.mbxSend who m v) :=
  of_eq (c := who.wf && decide (m < 16)) (ps := []) (ws := [who]) (rs := []) (as := [])
    rfl rfl rfl rfl rfl (by simp +contextual)
theorem mbxDoorbell (who : Who) (m : Nat) (v : Word) : Statement (.mbxDoorbell who m v) :=
  of_eq (c := who.wf && decide (m < 16)) (ps := []) (ws := [who]) (rs := []) (as := [])
    rfl rfl rfl rfl rfl (by simp +contextual)
theorem mbxBufferWrite (who : Who) (m : Nat) (off : Nat) (v : Word) : Statement (.mbxBufferWrite who m off v) :=
  of_eq (c := who.wf && decide (m < 16)) (ps := []) (ws := [who]) (rs := []) (as := [])
    rfl rfl rfl rfl rfl (by simp +contextual)
theorem debugAccess (sWorld : Bool) (r : Req) (write : Bool) (addr : Nat) (data : List Byte) : Statement (.debugAccess sWorld r write addr data) :=
  of_eq (c := r.wf && decide (addr < 2 ^ 48)) (ps := []) (ws := [r.who]) (rs := []) (as := [addr])
    rfl rfl rfl rfl rfl (by simp +contextual [Req.wf])
theorem pwrSclaimWrite (who : Who) (j : Nat) (v : Word) : Statement (.pwrSclaimWrite who j v) :=
  of_eq (c := who.wf && decide (j < 2)) (ps := []) (ws := [who]) (rs := []) (as := [])
    rfl rfl rfl rfl rfl (by simp +contextual)
theorem deferredApply (ix : Nat) : Statement (.deferredApply ix) :=
  of_none rfl rfl rfl rfl
theorem sqTailDoorbell (who : Who) (ring : RingId) (v : Word) : Statement (.sqTailDoorbell who ring v) :=
  of_eq (c := who.wf && ring.wf) (ps := []) (ws := [who]) (rs := [ring]) (as := [])
    rfl rfl rfl rfl rfl (by simp +contextual)
theorem cqHeadDoorbell (who : Who) (ring : RingId) (v : Word) : Statement (.cqHeadDoorbell who ring v) :=
  of_eq (c := who.wf && ring.wf) (ps := []) (ws := [who]) (rs := [ring]) (as := [])
    rfl rfl rfl rfl rfl (by simp +contextual)
theorem eqHeadDoorbell (who : Who) (ring : RingId) (v : Word) : Statement (.eqHeadDoorbell who ring v) :=
  of_eq (c := who.wf && ring.wf) (ps := []) (ws := [who]) (rs := [ring]) (as := [])
    rfl rfl rfl rfl rfl (by simp +contextual)
theorem sqResume (who : Who) (ring : RingId) (v : Word) : Statement (.sqResume who ring v) :=
  of_eq (c := who.wf && ring.wf) (ps := []) (ws := [who]) (rs := [ring]) (as := [])
    rfl rfl rfl rfl rfl (by simp +contextual)
theorem packetStart (ring : RingId) : Statement (.packetStart ring) :=
  of_eq (c := ring.wf) (ps := []) (ws := []) (rs := [ring]) (as := [])
    rfl rfl rfl rfl rfl (by simp +contextual)
theorem fenceEvaluate (ring : RingId) : Statement (.fenceEvaluate ring) :=
  of_eq (c := ring.wf) (ps := []) (ws := []) (rs := [ring]) (as := [])
    rfl rfl rfl rfl rfl (by simp +contextual)
theorem fenceTimeout (ring : RingId) : Statement (.fenceTimeout ring) :=
  of_eq (c := ring.wf) (ps := []) (ws := []) (rs := [ring]) (as := [])
    rfl rfl rfl rfl rfl (by simp +contextual)
theorem packetComplete (k : Nat) : Statement (.packetComplete k) :=
  of_place rfl rfl rfl rfl rfl
theorem quantumBoundary : Statement (.quantumBoundary) :=
  of_none rfl rfl rfl rfl
theorem contextResident : Statement (.contextResident) :=
  of_none rfl rfl rfl rfl
theorem nop (k : Nat) : Statement (.nop k) :=
  of_place rfl rfl rfl rfl rfl
theorem ringSetup (k : Nat) : Statement (.ringSetup k) :=
  of_place rfl rfl rfl rfl rfl
theorem ringDisable (k : Nat) : Statement (.ringDisable k) :=
  of_place rfl rfl rfl rfl rfl
theorem ringSetDrained (ring : RingId) : Statement (.ringSetDrained ring) :=
  of_eq (c := ring.wf) (ps := []) (ws := []) (rs := [ring]) (as := [])
    rfl rfl rfl rfl rfl (by simp +contextual)
theorem ringQuery (k : Nat) : Statement (.ringQuery k) :=
  of_place rfl rfl rfl rfl rfl
theorem eventMask (k : Nat) : Statement (.eventMask k) :=
  of_place rfl rfl rfl rfl rfl
theorem timeRead (k : Nat) : Statement (.timeRead k) :=
  of_place rfl rfl rfl rfl rfl
theorem pringEnable (who : Who) (p : Nat) (v : Word) : Statement (.pringEnable who p v) :=
  of_eq (c := who.wf && decide (p < 2)) (ps := []) (ws := [who]) (rs := []) (as := [])
    rfl rfl rfl rfl rfl (by simp +contextual)
theorem pringDisable (who : Who) (p : Nat) (v : Word) : Statement (.pringDisable who p v) :=
  of_eq (c := who.wf && decide (p < 2)) (ps := []) (ws := [who]) (rs := []) (as := [])
    rfl rfl rfl rfl rfl (by simp +contextual)
theorem instanceQuery (k : Nat) : Statement (.instanceQuery k) :=
  of_place rfl rfl rfl rfl rfl
theorem instanceReset (k : Nat) : Statement (.instanceReset k) :=
  of_place rfl rfl rfl rfl rfl
theorem instanceResetDone (c : Nat) : Statement (.instanceResetDone c) :=
  of_none rfl rfl rfl rfl
theorem shareSet (k : Nat) : Statement (.shareSet k) :=
  of_place rfl rfl rfl rfl rfl
theorem grant (k : Nat) : Statement (.grant k) :=
  of_place rfl rfl rfl rfl rfl
theorem resourceRemoval (ix : Nat) : Statement (.resourceRemoval ix) :=
  of_none rfl rfl rfl rfl
theorem devctxSet (k : Nat) : Statement (.devctxSet k) :=
  of_place rfl rfl rfl rfl rfl
theorem clientBind (k : Nat) : Statement (.clientBind k) :=
  of_place rfl rfl rfl rfl rfl
theorem iotlbInval (k : Nat) : Statement (.iotlbInval k) :=
  of_place rfl rfl rfl rfl rfl
theorem pasidMap (k : Nat) : Statement (.pasidMap k) :=
  of_place rfl rfl rfl rfl rfl
theorem pcieInboundRequest (fn : Nat) (pasid : Option Nat) (q : PcieReq) : Statement (.pcieInboundRequest fn pasid q) :=
  of_none rfl rfl rfl rfl
theorem pcieFlr (fn : Nat) : Statement (.pcieFlr fn) :=
  of_none rfl rfl rfl rfl
theorem pciePerst (low : Bool) : Statement (.pciePerst low) :=
  of_none rfl rfl rfl rfl
theorem pcieLinkChange (up : Bool) (speed : Nat) (width : Nat) (vfs : Nat) : Statement (.pcieLinkChange up speed width vfs) :=
  of_none rfl rfl rfl rfl
theorem pcieError (uncorr : Bool) : Statement (.pcieError uncorr) :=
  of_none rfl rfl rfl rfl
theorem dptxTrain (who : Who) (n : Nat) (v : Word) : Statement (.dptxTrain who n v) :=
  of_eq (c := who.wf && decide (n < 8)) (ps := []) (ws := [who]) (rs := []) (as := [])
    rfl rfl rfl rfl rfl (by simp +contextual)
theorem trainingAttemptEnd (n : Nat) (ok : Bool) : Statement (.trainingAttemptEnd n ok) :=
  of_none rfl rfl rfl rfl
theorem hpdUnplug (n : Nat) : Statement (.hpdUnplug n) :=
  of_none rfl rfl rfl rfl
theorem hpdPlug (n : Nat) : Statement (.hpdPlug n) :=
  of_none rfl rfl rfl rfl
theorem irqHpd (n : Nat) (lost : Bool) : Statement (.irqHpd n lost) :=
  of_none rfl rfl rfl rfl
theorem dtgEnable (who : Who) (n : Nat) (v : Word) : Statement (.dtgEnable who n v) :=
  of_eq (c := who.wf && decide (n < 8)) (ps := []) (ws := [who]) (rs := []) (as := [])
    rfl rfl rfl rfl rfl (by simp +contextual)
theorem applyArm (who : Who) (n : Nat) (v : Word) : Statement (.applyArm who n v) :=
  of_eq (c := who.wf && decide (n < 8)) (ps := []) (ws := [who]) (rs := []) (as := [])
    rfl rfl rfl rfl rfl (by simp +contextual)
theorem layerArm (who : Who) (l : Nat) (v : Word) : Statement (.layerArm who l v) :=
  of_eq (c := who.wf && decide (l < 64)) (ps := []) (ws := [who]) (rs := []) (as := [])
    rfl rfl rfl rfl rfl (by simp +contextual)
theorem applyLine (n : Nat) : Statement (.applyLine n) :=
  of_none rfl rfl rfl rfl
theorem frameBoundary (n : Nat) : Statement (.frameBoundary n) :=
  of_none rfl rfl rfl rfl
theorem verticalStart (n : Nat) : Statement (.verticalStart n) :=
  of_none rfl rfl rfl rfl
theorem layerFetchFault (l : Nat) (reason : Nat) (line : Nat) : Statement (.layerFetchFault l reason line) :=
  of_none rfl rfl rfl rfl
theorem layerUnderrun (l : Nat) (line : Nat) : Statement (.layerUnderrun l line) :=
  of_none rfl rfl rfl rfl
theorem outputQuery (k : Nat) : Statement (.outputQuery k) :=
  of_place rfl rfl rfl rfl rfl
theorem modeSet (k : Nat) : Statement (.modeSet k) :=
  of_place rfl rfl rfl rfl rfl
theorem auxXfer (k : Nat) (reply : AuxReply) : Statement (.auxXfer k reply) :=
  of_place rfl rfl rfl rfl rfl
theorem layerAssign (k : Nat) : Statement (.layerAssign k) :=
  of_place rfl rfl rfl rfl rfl
theorem layerUnassign (k : Nat) : Statement (.layerUnassign k) :=
  of_place rfl rfl rfl rfl rfl
theorem layerSet (k : Nat) : Statement (.layerSet k) :=
  of_place rfl rfl rfl rfl rfl
theorem flip (k : Nat) : Statement (.flip k) :=
  of_place rfl rfl rfl rfl rfl
theorem paletteSet (k : Nat) : Statement (.paletteSet k) :=
  of_place rfl rfl rfl rfl rfl
theorem plateLockedWrite (who : Who) (addr : Nat) : Statement (.plateLockedWrite who addr) :=
  of_eq (c := who.wf && decide (addr < 2 ^ 48)) (ps := []) (ws := [who]) (rs := []) (as := [addr])
    rfl rfl rfl rfl rfl (by simp +contextual)
theorem listLoad (k : Nat) : Statement (.listLoad k) :=
  of_place rfl rfl rfl rfl rfl
theorem listUnload (k : Nat) : Statement (.listUnload k) :=
  of_place rfl rfl rfl rfl rfl
theorem listCheckDone : Statement (.listCheckDone) :=
  of_none rfl rfl rfl rfl
theorem swap (k : Nat) : Statement (.swap k) :=
  of_place rfl rfl rfl rfl rfl
theorem listRelease (ix : Nat) : Statement (.listRelease ix) :=
  of_none rfl rfl rfl rfl
theorem blinkSet (k : Nat) : Statement (.blinkSet k) :=
  of_place rfl rfl rfl rfl rfl
theorem blinkPhaseChange (n : Nat) (c : Nat) : Statement (.blinkPhaseChange n c) :=
  of_none rfl rfl rfl rfl
theorem modeDecide (k : Nat) : Statement (.modeDecide k) :=
  of_place rfl rfl rfl rfl rfl
theorem etchQuery (k : Nat) : Statement (.etchQuery k) :=
  of_place rfl rfl rfl rfl rfl
theorem proofVerdict (n : Nat) (w : Nat) (line : Nat) (crc : Nat) : Statement (.proofVerdict n w line crc) :=
  of_none rfl rfl rfl rfl
theorem takeoverSwitch (n : Nat) (line : Nat) : Statement (.takeoverSwitch n line) :=
  of_none rfl rfl rfl rfl
theorem proofPassStart : Statement (.proofPassStart) :=
  of_none rfl rfl rfl rfl
theorem proofPassEnd : Statement (.proofPassEnd) :=
  of_none rfl rfl rfl rfl
theorem returnCheckEnd (n : Nat) (bad : Option Nat) : Statement (.returnCheckEnd n bad) :=
  of_none rfl rfl rfl rfl
theorem sinkCrcRead (n : Nat) (crc : Option (Nat × List Nat × List Nat)) : Statement (.sinkCrcRead n crc) :=
  of_none rfl rfl rfl rfl
theorem guardSet (k : Nat) : Statement (.guardSet k) :=
  of_place rfl rfl rfl rfl rfl
theorem windowSet (k : Nat) : Statement (.windowSet k) :=
  of_place rfl rfl rfl rfl rfl
theorem proofReturn (k : Nat) : Statement (.proofReturn k) :=
  of_place rfl rfl rfl rfl rfl
theorem proofForce (k : Nat) : Statement (.proofForce k) :=
  of_place rfl rfl rfl rfl rfl
theorem proofQuery (k : Nat) : Statement (.proofQuery k) :=
  of_place rfl rfl rfl rfl rfl
theorem fill (k : Nat) : Statement (.fill k) :=
  of_place rfl rfl rfl rfl rfl
theorem gradient (k : Nat) : Statement (.gradient k) :=
  of_place rfl rfl rfl rfl rfl
theorem copy (k : Nat) : Statement (.copy k) :=
  of_place rfl rfl rfl rfl rfl
theorem blend (k : Nat) : Statement (.blend k) :=
  of_place rfl rfl rfl rfl rfl
theorem scale (k : Nat) : Statement (.scale k) :=
  of_place rfl rfl rfl rfl rfl
theorem convert (k : Nat) : Statement (.convert k) :=
  of_place rfl rfl rfl rfl rfl
theorem pathFill (k : Nat) : Statement (.pathFill k) :=
  of_place rfl rfl rfl rfl rfl
theorem pathStroke (k : Nat) : Statement (.pathStroke k) :=
  of_place rfl rfl rfl rfl rfl
theorem grvGlyphs (k : Nat) : Statement (.grvGlyphs k) :=
  of_place rfl rfl rfl rfl rfl
theorem grvPaletteLoad (k : Nat) : Statement (.grvPaletteLoad k) :=
  of_place rfl rfl rfl rfl rfl
theorem grvCtxSave (k : Nat) : Statement (.grvCtxSave k) :=
  of_place rfl rfl rfl rfl rfl
theorem grvCtxRestore (k : Nat) : Statement (.grvCtxRestore k) :=
  of_place rfl rfl rfl rfl rfl
theorem graverStripEnd (k : Nat) : Statement (.graverStripEnd k) :=
  of_place rfl rfl rfl rfl rfl
theorem grvCtxbaseWrite (who : Who) (hi : Bool) (v : Word) : Statement (.grvCtxbaseWrite who hi v) :=
  of_eq (c := who.wf) (ps := []) (ws := [who]) (rs := []) (as := [])
    rfl rfl rfl rfl rfl (by simp +contextual)
theorem arbiterRequest (q : Requester) (pool : Nat) (lockNs : Option Nat) : Statement (.arbiterRequest q pool lockNs) :=
  of_none rfl rfl rfl rfl
theorem takeAwayStop (u : Nat) : Statement (.takeAwayStop u) :=
  of_none rfl rfl rfl rfl
theorem arbiterRelease (u : Nat) : Statement (.arbiterRelease u) :=
  of_none rfl rfl rfl rfl
theorem lockOverrun (u : Nat) : Statement (.lockOverrun u) :=
  of_none rfl rfl rfl rfl
theorem hallRun (k : Nat) : Statement (.hallRun k) :=
  of_place rfl rfl rfl rfl rfl
theorem hallQuery (k : Nat) : Statement (.hallQuery k) :=
  of_place rfl rfl rfl rfl rfl
theorem scanStart (p : Nat) : Statement (.scanStart p) :=
  of_none rfl rfl rfl rfl
theorem driveWindowEnd (p : Nat) (win : List (Bool × List Nat)) : Statement (.driveWindowEnd p win) :=
  of_none rfl rfl rfl rfl
theorem surveyEnd (p : Nat) (win : List (Bool × List Nat)) : Statement (.surveyEnd p win) :=
  of_none rfl rfl rfl rfl
theorem surveySkipped (p : Nat) : Statement (.surveySkipped p) :=
  of_none rfl rfl rfl rfl
theorem scanDecision (p : Nat) (copy2 : Option (List Nat)) : Statement (.scanDecision p copy2) :=
  of_none rfl rfl rfl rfl
theorem reportWrite (p : Nat) : Statement (.reportWrite p) :=
  of_none rfl rfl rfl rfl
theorem persistTimer (p : Nat) (id : Nat) : Statement (.persistTimer p id) :=
  of_none rfl rfl rfl rfl
theorem idleLevelTimer (p : Nat) : Statement (.idleLevelTimer p) :=
  of_none rfl rfl rfl rfl
theorem surveyDue (p : Nat) : Statement (.surveyDue p) :=
  of_none rfl rfl rfl rfl
theorem wakeScan (wins : List (List (Bool × List Nat))) : Statement (.wakeScan wins) :=
  of_none rfl rfl rfl rfl
theorem panelSet (k : Nat) : Statement (.panelSet k) :=
  of_place rfl rfl rfl rfl rfl
theorem panelTune (k : Nat) : Statement (.panelTune k) :=
  of_place rfl rfl rfl rfl rfl
theorem reportSetup (k : Nat) : Statement (.reportSetup k) :=
  of_place rfl rfl rfl rfl rfl
theorem zoneSet (k : Nat) : Statement (.zoneSet k) :=
  of_place rfl rfl rfl rfl rfl
theorem absorb (k : Nat) : Statement (.absorb k) :=
  of_place rfl rfl rfl rfl rfl
theorem recalibrate (k : Nat) : Statement (.recalibrate k) :=
  of_place rfl rfl rfl rfl rfl
theorem panelQuery (k : Nat) : Statement (.panelQuery k) :=
  of_place rfl rfl rfl rfl rfl
theorem tchCtxSave (k : Nat) : Statement (.tchCtxSave k) :=
  of_place rfl rfl rfl rfl rfl
theorem tchCtxRestore (k : Nat) : Statement (.tchCtxRestore k) :=
  of_place rfl rfl rfl rfl rfl
theorem hapTrigEdge (j : Nat) (rising : Bool) : Statement (.hapTrigEdge j rising) :=
  of_none rfl rfl rfl rfl
theorem hapticZoneTrigger (z : Nat) : Statement (.hapticZoneTrigger z) :=
  of_none rfl rfl rfl rfl
theorem segmentEnd (a : Nat) : Statement (.segmentEnd a) :=
  of_none rfl rfl rfl rfl
theorem coastWindow (a : Nat) (bemf : Nat) : Statement (.coastWindow a bemf) :=
  of_none rfl rfl rfl rfl
theorem openCheck (a : Nat) (ma : Nat) : Statement (.openCheck a ma) :=
  of_none rfl rfl rfl rfl
theorem overcurrent (a : Nat) (ma : Nat) : Statement (.overcurrent a ma) :=
  of_none rfl rfl rfl rfl
theorem vhapMeasure (mv : Nat) : Statement (.vhapMeasure mv) :=
  of_none rfl rfl rfl rfl
theorem play (k : Nat) : Statement (.play k) :=
  of_place rfl rfl rfl rfl rfl
theorem waveLoad (k : Nat) : Statement (.waveLoad k) :=
  of_place rfl rfl rfl rfl rfl
theorem waveFree (k : Nat) : Statement (.waveFree k) :=
  of_place rfl rfl rfl rfl rfl
theorem actQuery (k : Nat) : Statement (.actQuery k) :=
  of_place rfl rfl rfl rfl rfl
theorem maint (k : Nat) : Statement (.maint k) :=
  of_place rfl rfl rfl rfl rfl
theorem portSet (k : Nat) : Statement (.portSet k) :=
  of_place rfl rfl rfl rfl rfl
theorem routeSet (k : Nat) : Statement (.routeSet k) :=
  of_place rfl rfl rfl rfl rfl
theorem busSet (k : Nat) : Statement (.busSet k) :=
  of_place rfl rfl rfl rfl rfl
theorem safeload (k : Nat) : Statement (.safeload k) :=
  of_place rfl rfl rfl rfl rfl
theorem safeloadSwap (v : Bool) : Statement (.safeloadSwap v) :=
  of_none rfl rfl rfl rfl
theorem routerState (k : Nat) : Statement (.routerState k) :=
  of_place rfl rfl rfl rfl rfl
theorem genSet (k : Nat) : Statement (.genSet k) :=
  of_place rfl rfl rfl rfl rfl
theorem toneSet (k : Nat) : Statement (.toneSet k) :=
  of_place rfl rfl rfl rfl rfl
theorem cadenceStepEnd (g : Nat) : Statement (.cadenceStepEnd g) :=
  of_none rfl rfl rfl rfl
theorem beepPlay (k : Nat) : Statement (.beepPlay k) :=
  of_place rfl rfl rfl rfl rfl
theorem zoneBeepTrigger (z : Nat) : Statement (.zoneBeepTrigger z) :=
  of_none rfl rfl rfl rfl
theorem crossfadeEnd (d : Nat) : Statement (.crossfadeEnd d) :=
  of_none rfl rfl rfl rfl
theorem streamSetup (k : Nat) : Statement (.streamSetup k) :=
  of_place rfl rfl rfl rfl rfl
theorem streamCtrl (k : Nat) : Statement (.streamCtrl k) :=
  of_place rfl rfl rfl rfl rfl
theorem streamFetch (st : Nat) (frames : List Nat) : Statement (.streamFetch st frames) :=
  of_none rfl rfl rfl rfl
theorem alarmSet (k : Nat) : Statement (.alarmSet k) :=
  of_place rfl rfl rfl rfl rfl
theorem audioQuery (k : Nat) : Statement (.audioQuery k) :=
  of_place rfl rfl rfl rfl rfl
theorem audCtxSave (k : Nat) : Statement (.audCtxSave k) :=
  of_place rfl rfl rfl rfl rfl
theorem audCtxRestore (k : Nat) : Statement (.audCtxRestore k) :=
  of_place rfl rfl rfl rfl rfl
theorem portClockLost (p : Nat) (rate : Nat) : Statement (.portClockLost p rate) :=
  of_none rfl rfl rfl rfl
theorem portClockBack (p : Nat) (rate : Nat) : Statement (.portClockBack p rate) :=
  of_none rfl rfl rfl rfl
theorem alarmLaneMismatch : Statement (.alarmLaneMismatch) :=
  of_none rfl rfl rfl rfl
theorem alarmMemberFail (m : Nat) : Statement (.alarmMemberFail m) :=
  of_none rfl rfl rfl rfl
theorem folioQuery (k : Nat) : Statement (.folioQuery k) :=
  of_place rfl rfl rfl rfl rfl
theorem folioFlush (k : Nat) : Statement (.folioFlush k) :=
  of_place rfl rfl rfl rfl rfl
theorem settingsWrite (k : Nat) : Statement (.settingsWrite k) :=
  of_place rfl rfl rfl rfl rfl
theorem settingsRead (k : Nat) : Statement (.settingsRead k) :=
  of_place rfl rfl rfl rfl rfl
theorem logRead (k : Nat) : Statement (.logRead k) :=
  of_place rfl rfl rfl rfl rfl
theorem calSet (k : Nat) : Statement (.calSet k) :=
  of_place rfl rfl rfl rfl rfl
theorem calDone (k : Nat) : Statement (.calDone k) :=
  of_place rfl rfl rfl rfl rfl
theorem folioAdopt (k : Nat) : Statement (.folioAdopt k) :=
  of_place rfl rfl rfl rfl rfl
theorem flushTimer : Statement (.flushTimer) :=
  of_none rfl rfl rfl rfl
theorem flashProgramDone (ok : Bool) : Statement (.flashProgramDone ok) :=
  of_none rfl rfl rfl rfl
theorem compactionCommit : Statement (.compactionCommit) :=
  of_none rfl rfl rfl rfl
theorem dayChange : Statement (.dayChange) :=
  of_none rfl rfl rfl rfl
theorem histogramMinute (tj : Int) : Statement (.histogramMinute tj) :=
  of_none rfl rfl rfl rfl
theorem pwrFailFall : Statement (.pwrFailFall) :=
  of_none rfl rfl rfl rfl
theorem pwrFailRise (ok : Bool) : Statement (.pwrFailRise ok) :=
  of_none rfl rfl rfl rfl
theorem coldBoot : Statement (.coldBoot) :=
  of_none rfl rfl rfl rfl
theorem uartRecoveryImage (image : List Byte) : Statement (.uartRecoveryImage image) :=
  of_none rfl rfl rfl rfl
theorem fwQuery (k : Nat) : Statement (.fwQuery k) :=
  of_place rfl rfl rfl rfl rfl
theorem fwErase (k : Nat) : Statement (.fwErase k) :=
  of_place rfl rfl rfl rfl rfl
theorem fwWrite (k : Nat) : Statement (.fwWrite k) :=
  of_place rfl rfl rfl rfl rfl
theorem fwVerify (k : Nat) : Statement (.fwVerify k) :=
  of_place rfl rfl rfl rfl rfl
theorem fwActivate (k : Nat) : Statement (.fwActivate k) :=
  of_place rfl rfl rfl rfl rfl
theorem activationResume : Statement (.activationResume) :=
  of_none rfl rfl rfl rfl
theorem fwConfirm (k : Nat) : Statement (.fwConfirm k) :=
  of_place rfl rfl rfl rfl rfl
theorem fwAbandon (k : Nat) : Statement (.fwAbandon k) :=
  of_place rfl rfl rfl rfl rfl
theorem healthWindowExpiry : Statement (.healthWindowExpiry) :=
  of_none rfl rfl rfl rfl
theorem faultQuery (k : Nat) : Statement (.faultQuery k) :=
  of_place rfl rfl rfl rfl rfl
theorem faultClear (k : Nat) : Statement (.faultClear k) :=
  of_place rfl rfl rfl rfl rfl
theorem safeEnter (k : Nat) : Statement (.safeEnter k) :=
  of_place rfl rfl rfl rfl rfl
theorem faultRecord : Statement (.faultRecord) :=
  of_none rfl rfl rfl rfl
theorem timingStall (n : Nat) : Statement (.timingStall n) :=
  of_none rfl rfl rfl rfl
theorem clockFault : Statement (.clockFault) :=
  of_none rfl rfl rfl rfl
theorem sramUncorrectable (arr : Nat) (layer : Option Nat) : Statement (.sramUncorrectable arr layer) :=
  of_none rfl rfl rfl rfl
theorem swdogKick (who : Who) (v : Word) : Statement (.swdogKick who v) :=
  of_eq (c := who.wf) (ps := []) (ws := [who]) (rs := []) (as := [])
    rfl rfl rfl rfl rfl (by simp +contextual)
theorem watchdogExpiry : Statement (.watchdogExpiry) :=
  of_none rfl rfl rfl rfl
theorem rubFire (k : Nat) : Statement (.rubFire k) :=
  of_place rfl rfl rfl rfl rfl
theorem rubInEdge : Statement (.rubInEdge) :=
  of_none rfl rfl rfl rfl
theorem rubbingLatch : Statement (.rubbingLatch) :=
  of_none rfl rfl rfl rfl
theorem rubAutoRelease : Statement (.rubAutoRelease) :=
  of_none rfl rfl rfl rfl
theorem rubRead (k : Nat) : Statement (.rubRead k) :=
  of_place rfl rfl rfl rfl rfl
theorem rubRelease (k : Nat) : Statement (.rubRelease k) :=
  of_place rfl rfl rfl rfl rfl
theorem linkSet (k : Nat) : Statement (.linkSet k) :=
  of_place rfl rfl rfl rfl rfl
theorem timeSet (k : Nat) : Statement (.timeSet k) :=
  of_place rfl rfl rfl rfl rfl
theorem groupSet (k : Nat) : Statement (.groupSet k) :=
  of_place rfl rfl rfl rfl rfl
theorem rosterSet (k : Nat) : Statement (.rosterSet k) :=
  of_place rfl rfl rfl rfl rfl
theorem admitMember (k : Nat) : Statement (.admitMember k) :=
  of_place rfl rfl rfl rfl rfl
theorem alarmSend (k : Nat) : Statement (.alarmSend k) :=
  of_place rfl rfl rfl rfl rfl
theorem lockSet (k : Nat) : Statement (.lockSet k) :=
  of_place rfl rfl rfl rfl rfl
theorem intercomSet (k : Nat) : Statement (.intercomSet k) :=
  of_place rfl rfl rfl rfl rfl
theorem qpSetup (k : Nat) : Statement (.qpSetup k) :=
  of_place rfl rfl rfl rfl rfl
theorem qpKick (k : Nat) : Statement (.qpKick k) :=
  of_place rfl rfl rfl rfl rfl
theorem linkQuery (k : Nat) : Statement (.linkQuery k) :=
  of_place rfl rfl rfl rfl rfl
theorem groupFrameReceived (port : Nat) (frame : List Byte) : Statement (.groupFrameReceived port frame) :=
  of_none rfl rfl rfl rfl
theorem ptpMessage (port : Nat) (off : Int) (gm : Bool) : Statement (.ptpMessage port off gm) :=
  of_none rfl rfl rfl rfl
theorem syncTimeout (other : Bool) : Statement (.syncTimeout other) :=
  of_none rfl rfl rfl rfl
theorem helloTimer : Statement (.helloTimer) :=
  of_none rfl rfl rfl rfl
theorem memberTimeout (j : Nat) : Statement (.memberTimeout j) :=
  of_none rfl rfl rfl rfl
theorem groupTriggerTime : Statement (.groupTriggerTime) :=
  of_none rfl rfl rfl rfl
theorem intercomFrameSend (j : Nat) (samples : List Nat) : Statement (.intercomFrameSend j samples) :=
  of_none rfl rfl rfl rfl
theorem intercomIdle (j : Nat) : Statement (.intercomIdle j) :=
  of_none rfl rfl rfl rfl
theorem qpFrameReceived (port : Nat) (frame : List Byte) : Statement (.qpFrameReceived port frame) :=
  of_none rfl rfl rfl rfl
theorem qpTransmit (q : Nat) : Statement (.qpTransmit q) :=
  of_none rfl rfl rfl rfl
theorem ethLinkChange (port : Nat) (up : Bool) : Statement (.ethLinkChange port up) :=
  of_none rfl rfl rfl rfl
theorem powerState (k : Nat) : Statement (.powerState k) :=
  of_place rfl rfl rfl rfl rfl
theorem sleepEntry : Statement (.sleepEntry) :=
  of_none rfl rfl rfl rfl
theorem vaultEntry : Statement (.vaultEntry) :=
  of_none rfl rfl rfl rfl
theorem wakeSource (cause : Nat) (pin : Nat) : Statement (.wakeSource cause pin) :=
  of_none rfl rfl rfl rfl
theorem sleepExit : Statement (.sleepExit) :=
  of_none rfl rfl rfl rfl
theorem clusterIdleGate (c : Nat) : Statement (.clusterIdleGate c) :=
  of_none rfl rfl rfl rfl
theorem clusterWake (c : Nat) : Statement (.clusterWake c) :=
  of_none rfl rfl rfl rfl
theorem domainSet (k : Nat) : Statement (.domainSet k) :=
  of_place rfl rfl rfl rfl rfl
theorem domainRestored (d : Nat) : Statement (.domainRestored d) :=
  of_none rfl rfl rfl rfl
theorem reset (k : Nat) : Statement (.reset k) :=
  of_place rfl rfl rfl rfl rfl
theorem nworldResetDone : Statement (.nworldResetDone) :=
  of_none rfl rfl rfl rfl
theorem resetNLow : Statement (.resetNLow) :=
  of_none rfl rfl rfl rfl
theorem poresetLow : Statement (.poresetLow) :=
  of_none rfl rfl rfl rfl
theorem rtcSet (k : Nat) : Statement (.rtcSet k) :=
  of_place rfl rfl rfl rfl rfl
theorem powerQuery (k : Nat) : Statement (.powerQuery k) :=
  of_place rfl rfl rfl rfl rfl
theorem railPowerGood (r : Nat) : Statement (.railPowerGood r) :=
  of_none rfl rfl rfl rfl
theorem railTimeout (r : Nat) (status : Nat) : Statement (.railTimeout r status) :=
  of_none rfl rfl rfl rfl
theorem avsAdjust (dir : Nat) : Statement (.avsAdjust dir) :=
  of_none rfl rfl rfl rfl
theorem tjLimit : Statement (.tjLimit) :=
  of_none rfl rfl rfl rfl
theorem caseOpen : Statement (.caseOpen) :=
  of_none rfl rfl rfl rfl
theorem vbatLoss : Statement (.vbatLoss) :=
  of_none rfl rfl rfl rfl
theorem lsioSownWrite (who : Who) (addr : Nat) (v : Word) : Statement (.lsioSownWrite who addr v) :=
  of_eq (c := who.wf && decide (addr < 2 ^ 48)) (ps := []) (ws := [who]) (rs := []) (as := [addr])
    rfl rfl rfl rfl rfl (by simp +contextual)
theorem lsioCtrlWrite (who : Who) (p : Nat) (v : Word) : Statement (.lsioCtrlWrite who p v) :=
  of_eq (c := who.wf && decide (p < 14)) (ps := []) (ws := [who]) (rs := []) (as := [])
    rfl rfl rfl rfl rfl (by simp +contextual)
theorem lsioTxPush (who : Who) (p : Nat) (v : Word) : Statement (.lsioTxPush who p v) :=
  of_eq (c := who.wf && decide (p < 14)) (ps := []) (ws := [who]) (rs := []) (as := [])
    rfl rfl rfl rfl rfl (by simp +contextual)
theorem lsioRxPop (who : Who) (p : Nat) (v : Word) : Statement (.lsioRxPop who p v) :=
  of_eq (c := who.wf && decide (p < 14)) (ps := []) (ws := [who]) (rs := []) (as := [])
    rfl rfl rfl rfl rfl (by simp +contextual)
theorem lsioRxEntry (p : Nat) (entries : List Nat) : Statement (.lsioRxEntry p entries) :=
  of_none rfl rfl rfl rfl
theorem lsioTxDone (p : Nat) : Statement (.lsioTxDone p) :=
  of_none rfl rfl rfl rfl
theorem lsioBusError (p : Nat) (tec : Nat) (rec : Nat) : Statement (.lsioBusError p tec rec) :=
  of_none rfl rfl rfl rfl
theorem canStateChange (p : Nat) (st : Nat) : Statement (.canStateChange p st) :=
  of_none rfl rfl rfl rfl
theorem gpioEdge (ix : Nat) (level : Bool) : Statement (.gpioEdge ix level) :=
  of_none rfl rfl rfl rfl
theorem flashEraseDone (port : Nat) (ok : Bool) : Statement (.flashEraseDone port ok) :=
  of_none rfl rfl rfl rfl
theorem fwVerifyDone : Statement (.fwVerifyDone) :=
  of_none rfl rfl rfl rfl
theorem mirrorReleaseDone (m : Nat) : Statement (.mirrorReleaseDone m) :=
  of_none rfl rfl rfl rfl
theorem sramCe : Statement (.sramCe) :=
  of_none rfl rfl rfl rfl
theorem gainRampEnd (ix : Nat) : Statement (.gainRampEnd ix) :=
  of_none rfl rfl rfl rfl
theorem aonPowerUp : Statement (.aonPowerUp) :=
  of_none rfl rfl rfl rfl
theorem warmResetRelease : Statement (.warmResetRelease) :=
  of_none rfl rfl rfl rfl

end Sys2Proof.Laws.Operands
end

