-- ==== Sys2Proof/Laws/Shared.lean ====
section
/-! SUPPORT. What every shared operation keeps: the queue of waiting commands, and the canonical forms. One law an operation, so that a proof about a
command cites it and does not unfold the operation. -/

namespace Sys2Proof.Machine

/-- A CRC is a fold over the bytes. -/
theorem crcBytes_eq_foldl (poly : Nat) (l : List Byte) (c : Nat) : crcBytes poly l c = l.foldl (crcByte poly) c := by
  induction l generalizing c with
  | nil => rfl
  | cons b t ih => unfold crcBytes; split <;> rename_i h <;> simp only [ih, List.foldl_cons]; rw [h]

/-- The second state has the first's queue, and the canonical forms where the first has them. -/
def State.Keeps (s t : State) : Prop := t.pending = s.pending ∧ (s.Canonical → t.Canonical)

theorem State.Keeps.rfl {s : State} : s.Keeps s := ⟨Eq.refl _, id⟩

theorem State.Keeps.trans {s t u : State} (h : s.Keeps t) (g : t.Keeps u) : s.Keeps u := ⟨g.1.trans h.1, fun c => g.2 (h.2 c)⟩

/-- An update of neither the queue nor the memory, the registers and the inks. -/
theorem State.Keeps.of_eq {s t : State} (hp : t.pending = s.pending) (hm : t.mem = s.mem) (hr : t.regs = s.regs) (hi : t.mc.inks = s.mc.inks) : s.Keeps t :=
  ⟨hp, fun c => c.of_eq hm hr hi⟩

theorem State.Keeps.foldl {α : Type} {f : State → α → State} (hf : ∀ t a, State.Keeps t (f t a)) (l : List α) (s : State) : s.Keeps (l.foldl f s) := by
  induction l generalizing s with
  | nil => exact .rfl
  | cons a t ih => exact (hf s a).trans (ih _)

theorem State.keeps_withFlt (s : State) (x : Flt) : s.Keeps { s with flt := x } := .of_eq (Eq.refl _) (Eq.refl _) (Eq.refl _) (Eq.refl _)
theorem State.keeps_withMc (s : State) (x : Mc) (h : x.inks = s.mc.inks) : s.Keeps { s with mc := x } := .of_eq (Eq.refl _) (Eq.refl _) (Eq.refl _) h

theorem State.Keeps.ite {s t u : State} {p : Prop} [Decidable p] (h : s.Keeps t) (g : s.Keeps u) : s.Keeps (if p then t else u) := by
  split
  · exact h
  · exact g

/-- What an operation that answers a value keeps, once its answer is named. -/
theorem State.Keeps.of_pair {α : Type} {s t : State} {x : α × State} {a : α} (h : x = (a, t)) (k : s.Keeps x.2) : s.Keeps t := by subst h; exact k

/-! The operations over registers, flags, places, rings and grants. -/

theorem State.keeps_setRg (s : State) (a : Nat) (v : Word) : s.Keeps (s.setRg a v) := ⟨Eq.refl _, fun c => c.setRg _ _⟩
theorem State.keeps_setFld (s : State) (f : Fld) (v n : Nat) : s.Keeps (s.setFld f v n) := s.keeps_setRg _ _
theorem State.keeps_setFlag (s : State) (f : Fld) (b : Bool) (n : Nat) : s.Keeps (s.setFlag f b n) := s.keeps_setRg _ _
theorem State.keeps_satInc (s : State) (f : Fld) (n k : Nat) : s.Keeps (s.satInc f n k) := s.keeps_setRg _ _
theorem State.keeps_raise (s : State) (n : Nat) : s.Keeps (s.raise n) := .of_eq (Eq.refl _) (Eq.refl _) (Eq.refl _) (Eq.refl _)
theorem State.keeps_count (s : State) (o n : Nat) : s.Keeps (s.count o n) := .of_eq (Eq.refl _) (Eq.refl _) (Eq.refl _) (Eq.refl _)
theorem State.keeps_setPlace (s : State) (k : Nat) (p : Option Started) : s.Keeps (s.setPlace k p) := .of_eq (Eq.refl _) (Eq.refl _) (Eq.refl _) (Eq.refl _)
theorem State.keeps_setRing (s : State) (r : RingId) (x : RingSet) : s.Keeps (s.setRing r x) := .of_eq (Eq.refl _) (Eq.refl _) (Eq.refl _) (Eq.refl _)
theorem State.keeps_setGrant (s : State) (u : Nat) (g : Option Grant) : s.Keeps (s.setGrant u g) := .of_eq (Eq.refl _) (Eq.refl _) (Eq.refl _) (Eq.refl _)
theorem State.keeps_setQueue (s : State) (p : Nat) (q o : List Request) : s.Keeps (s.setQueue p q o) := .of_eq (Eq.refl _) (Eq.refl _) (Eq.refl _) (Eq.refl _)
theorem State.keeps_msix (s : State) (c : Nat) : s.Keeps (s.msix c) := by
  unfold State.msix
  split
  · exact .rfl
  · split
    · exact .of_eq (Eq.refl _) (Eq.refl _) (Eq.refl _) (Eq.refl _)
    · exact .rfl

theorem State.keeps_endOp (s : State) (k st r0 r1 r2 r3 : Nat) : s.Keeps (s.endOp k st r0 r1 r2 r3) := by
  unfold State.endOp
  split
  · exact s.keeps_setPlace _ _
  · exact .rfl

theorem State.keeps_firstOrOver (s : State) (v o : Fld) : s.Keeps (s.firstOrOver v o).2 := by
  unfold State.firstOrOver
  split
  · exact s.keeps_setFld _ _ _
  · exact s.keeps_setFld _ _ _

/-! Memory. -/

theorem State.pending_putBytes (s : State) (a : Nat) (l : List Byte) : (s.putBytes a l).pending = s.pending := Eq.refl _

theorem State.keeps_putBytes (s : State) (a : Nat) (l : List Byte) : s.Keeps (s.putBytes a l) := ⟨Eq.refl _, fun c => c.putBytes _ _⟩

theorem State.keeps_storeDram (s : State) (a0 off : Nat) (l : List Byte) : s.Keeps (s.storeDram a0 off l) := by
  refine ⟨?_, fun c => c.storeDram _ _ _⟩
  unfold State.storeDram
  cases s.copyOf a0 <;> exact Eq.refl _

theorem State.keeps_countCorrection (s : State) (c sym : Nat) : s.Keeps (s.countCorrection c sym) := by
  refine ⟨?_, fun h => h.countCorrection _ _⟩
  simp only [State.countCorrection]
  split <;> split <;> first | exact Eq.refl _ | split <;> exact Eq.refl _

theorem State.keeps_noteRead (s : State) (a0 : Nat) : s.Keeps (s.noteRead a0) := by
  refine ⟨?_, fun c => c.noteRead _⟩
  simp only [State.noteRead]
  split
  · exact Eq.refl _
  · split
    · exact Eq.refl _
    · exact Eq.refl _
    · exact (s.keeps_countCorrection _ _).1
    · refine ((State.keeps_storeDram _ _ _ _).1).trans ?_
      split <;> exact Eq.refl _

theorem State.keeps_noteReads (s : State) (a n : Nat) : s.Keeps (s.noteReads a n) := by
  unfold State.noteReads
  split
  · exact .rfl
  · refine .foldl (fun t p => ?_) _ _
    split
    · exact t.keeps_noteRead _
    · exact .rfl

theorem State.keeps_refusePlate (s : State) (w : Who) (a : Nat) : s.Keeps (s.refusePlate w a) := by
  refine ⟨?_, fun c => c.refusePlate _ _⟩
  have h1 := (s.keeps_firstOrOver F.ETCH_WPROT_VALID F.ETCH_WPROT_OVERFLOW).1
  unfold State.refusePlate
  generalize s.firstOrOver F.ETCH_WPROT_VALID F.ETCH_WPROT_OVERFLOW = x at *
  obtain ⟨b, t⟩ := x
  cases b
  · exact h1
  · simpa only [State.raise, State.setFld_pending] using h1

theorem State.keeps_storeWord (s : State) (w : Who) (a : Nat) (l : List Byte) : s.Keeps (s.storeWord w a l).2 := by
  simp only [State.storeWord]
  split
  · exact .rfl
  · split
    · split
      · exact s.keeps_storeDram _ _ _
      · exact (s.keeps_noteRead _).trans (State.keeps_storeDram _ _ _ _)
    · split
      · exact .rfl
      · split
        · exact s.keeps_refusePlate _ _
        · exact s.keeps_putBytes _ _

theorem State.keeps_physWriteGo (w : Who) (ps : List (Nat × Nat)) (l : List Byte) (s : State) : s.Keeps (State.physWriteGo w ps l s).2 := by
  induction ps generalizing l s with
  | nil => exact .rfl
  | cons p t ih =>
    have h1 := s.keeps_storeWord w p.1 (l.take p.2)
    simp only [State.physWriteGo]
    generalize s.storeWord w p.1 (l.take p.2) = x at *
    obtain ⟨_ | f, u⟩ := x
    · exact h1.trans (ih _ _)
    · exact h1

/-- A write at a physical address. -/
theorem State.keeps_physWrite (s : State) (w : Who) (a : Nat) (l : List Byte) : s.Keeps (s.physWrite w a l).2 := State.keeps_physWriteGo _ _ _ _

theorem State.keeps_cache (s : State) (w : Who) (va pa : Nat) (b : Bool) : s.Keeps (s.cache w va pa b) := by
  unfold State.cache
  split
  · split
    · exact .rfl
    · exact .of_eq (Eq.refl _) (Eq.refl _) (Eq.refl _) (Eq.refl _)
  · exact .rfl

theorem State.keeps_dmaReadGo (w : Who) (ps : List (Nat × Nat)) (acc : List Byte) (s : State) : s.Keeps (State.dmaReadGo w ps acc s).2 := by
  induction ps generalizing acc s with
  | nil => exact .rfl
  | cons p t ih =>
    simp only [State.dmaReadGo]
    split
    · exact .rfl
    · split
      · exact .rfl
      · exact ((s.keeps_cache _ _ _ _).trans (State.keeps_noteReads _ _ _)).trans (ih _ _)

/-- A read under a party's identity and translation. -/
theorem State.keeps_dmaRead (s : State) (w : Who) (va n : Nat) : s.Keeps (s.dmaRead w va n).2 := State.keeps_dmaReadGo _ _ _ _

theorem State.keeps_dmaWriteGo (w : Who) (ps : List (Nat × Nat)) (l : List Byte) (s : State) : s.Keeps (State.dmaWriteGo w ps l s).2 := by
  induction ps generalizing l s with
  | nil => exact .rfl
  | cons p t ih =>
    simp only [State.dmaWriteGo]
    split
    · exact .rfl
    · rename_i pa _
      have h1 := (s.keeps_cache w p.1 pa true).trans (State.keeps_physWrite _ w pa (l.take p.2))
      generalize State.physWrite _ _ _ _ = x at *
      obtain ⟨_ | f, u⟩ := x
      · exact h1.trans (ih _ _)
      · exact h1

/-- A write under a party's identity and translation. -/
theorem State.keeps_dmaWrite (s : State) (w : Who) (va : Nat) (l : List Byte) : s.Keeps (s.dmaWrite w va l).2 := State.keeps_dmaWriteGo _ _ _ _

/-! Refused accesses (00 R26; 13 R533). -/

theorem State.keeps_recordInk (s : State) (w : Who) (a : Nat) (write : Bool) (st ca : Nat) : s.Keeps (s.recordInk w a write st ca) := by
  have h1 := s.keeps_firstOrOver F.MC_INKF_VALID F.MC_INKF_OVERFLOW
  unfold State.recordInk
  generalize s.firstOrOver F.MC_INKF_VALID F.MC_INKF_OVERFLOW = x at *
  obtain ⟨b, t⟩ := x
  cases b
  · exact h1
  · exact ((((((((((h1.trans (State.keeps_setFld _ _ _ _)).trans (State.keeps_setFld _ _ _ _)).trans (State.keeps_setFlag _ _ _ _)).trans
      (State.keeps_setFld _ _ _ _)).trans (State.keeps_setFlag _ _ _ _)).trans (State.keeps_setFld _ _ _ _)).trans (State.keeps_setFld _ _ _ _)).trans
      (State.keeps_setRg _ _ _)).trans (State.keeps_setRg _ _ _)).trans (State.keeps_raise _ _))

theorem State.keeps_recordBus (s : State) (w : Who) (a : Nat) (write : Bool) (kind : Nat) : s.Keeps (s.recordBus w a write kind) := by
  have h1 := s.keeps_firstOrOver F.DEV_BUSERR_VALID F.DEV_BUSERR_OVERFLOW
  unfold State.recordBus
  generalize s.firstOrOver F.DEV_BUSERR_VALID F.DEV_BUSERR_OVERFLOW = x at *
  obtain ⟨b, t⟩ := x
  cases b
  · exact h1
  · exact (((((((h1.trans (State.keeps_setFld _ _ _ _)).trans (State.keeps_setFlag _ _ _ _)).trans (State.keeps_setFld _ _ _ _)).trans
      (State.keeps_setFlag _ _ _ _)).trans (State.keeps_setFld _ _ _ _)).trans (State.keeps_setRg _ _ _)).trans (State.keeps_setRg _ _ _)).trans
      (State.keeps_raise _ _)

/-! Events and completions (03). -/

theorem State.keeps_noticeEntry (s : State) (r : RingId) (a b : Nat) : s.Keeps (s.noticeEntry r a b) := by
  cases r with
  | s => exact s.keeps_raise _
  | med => exact s.keeps_raise _
  | client c => exact s.keeps_msix _

theorem State.keeps_loseEvent (s : State) (r : RingId) (code : Nat) : s.Keeps (s.loseEvent r code) := s.keeps_setRing _ _

theorem State.keeps_noteQuiet (s : State) (f : XFault) : s.Keeps (s.noteQuiet f) := by
  unfold State.noteQuiet
  split
  · exact s.keeps_recordInk _ _ _ _ _
  · exact s.keeps_recordBus _ _ _ _
  · exact .rfl

theorem State.keeps_putEvent (s : State) (r : RingId) (code inst client d0 d1 d2 d3 time : Nat) :
    s.Keeps (s.putEvent r code inst client d0 d1 d2 d3 time) := by
  simp only [State.putEvent]
  split
  · rename_i f t heq
    have h1 := State.Keeps.of_pair heq (s.keeps_dmaWrite _ _ _)
    exact (h1.trans (t.keeps_noteQuiet f)).trans (State.keeps_loseEvent _ _ _)
  · rename_i t heq
    have h1 := State.Keeps.of_pair heq (s.keeps_dmaWrite _ _ _)
    exact (h1.trans (t.keeps_setRing _ _)).trans (State.keeps_noticeEntry _ _ _ _)

theorem State.keeps_writeEvent (s : State) (e : HeldEvent) : s.Keeps (s.writeEvent e) := by
  simp only [State.writeEvent]
  split
  · exact .rfl
  · split
    · exact s.keeps_loseEvent _ _
    · exact s.keeps_putEvent _ _ _ _ _ _ _ _ _

theorem State.keeps_holdEvent (s : State) (e : HeldEvent) : s.Keeps (s.holdEvent e) := by
  unfold State.holdEvent
  split
  · exact s.keeps_loseEvent _ _
  · exact .of_eq (Eq.refl _) (Eq.refl _) (Eq.refl _) (Eq.refl _)

theorem State.keeps_flushHeld (s : State) : s.Keeps s.flushHeld :=
  State.Keeps.trans (.of_eq (Eq.refl _) (Eq.refl _) (Eq.refl _) (Eq.refl _)) (.foldl (fun t e => t.keeps_writeEvent e) _ _)

/-- An event for a ring. -/
theorem State.keeps_event (s : State) (r : RingId) (code inst d0 d1 d2 d3 client : Nat) : s.Keeps (s.event r code inst d0 d1 d2 d3 client) := by
  simp only [State.event]
  split
  · exact .rfl
  · split
    · exact s.keeps_holdEvent _
    · exact s.keeps_writeEvent _

theorem State.keeps_eventSM (s : State) (code inst d0 d1 d2 d3 : Nat) : s.Keeps (s.eventSM code inst d0 d1 d2 d3) :=
  (s.keeps_event _ _ _ _ _ _ _ _).trans (State.keeps_event _ _ _ _ _ _ _ _ _)

theorem State.keeps_eventCopy (s : State) (c : Nat) (r : RingId) (code inst d0 d1 d2 d3 : Nat) : s.Keeps (s.eventCopy c r code inst d0 d1 d2 d3) := by
  simp only [State.eventCopy]
  split
  · exact s.keeps_event _ _ _ _ _ _ _ _
  · exact (s.keeps_event _ _ _ _ _ _ _ _).trans (State.keeps_event _ _ _ _ _ _ _ _ _)

theorem State.keeps_putCompletion (s : State) (r : RingId) (p : Packet) (x : Result) : s.Keeps (s.putCompletion r p x).2 := by
  simp only [State.putCompletion]
  split
  · rename_i f t heq
    have h1 := State.Keeps.of_pair heq (s.keeps_dmaWrite _ _ _)
    exact h1.trans (t.keeps_noteQuiet f)
  · rename_i t heq
    have h1 := State.Keeps.of_pair heq (s.keeps_dmaWrite _ _ _)
    exact (h1.trans (t.keeps_setRing _ _)).trans (State.keeps_noticeEntry _ _ _ _)

/-- A completion. -/
theorem State.keeps_complete (s : State) (r : RingId) (p : Packet) (x : Result) : s.Keeps (s.complete r p x) := by
  simp only [State.complete]
  split
  · exact s.keeps_setRing _ _
  · split
    · rename_i t heq
      exact .of_pair heq (s.keeps_putCompletion r p x)
    · rename_i t heq
      refine (State.Keeps.of_pair heq (s.keeps_putCompletion r p x)).trans (State.Keeps.trans ?_ (State.keeps_event _ _ _ _ _ _ _ _ _))
      exact t.keeps_setRing _ _

/-! The Engine Arbiter (12). -/

theorem State.keeps_reoffer (s : State) (pool : Nat) : s.Keeps (s.reoffer pool) := s.keeps_setQueue _ _ _

theorem State.keeps_grantTo (s : State) (u : Nat) (x : Request) : s.Keeps (s.grantTo u x) := .of_eq (Eq.refl _) (Eq.refl _) (Eq.refl _) (Eq.refl _)

theorem State.keeps_decideOnce (s : State) (pool : Nat) : s.Keeps (s.decideOnce pool) := by
  unfold State.decideOnce
  split
  · exact .rfl
  · split
    · exact .rfl
    · split
      · exact ((s.keeps_setQueue _ _ _).trans (State.keeps_grantTo _ _ _)).trans (State.keeps_reoffer _ _)
      · split
        · exact .rfl
        · split
          · exact .rfl
          · split
            · exact .rfl
            · exact s.keeps_setGrant _ _

/-- A decision of the arbiter. -/
theorem State.keeps_decidePool (s : State) (pool : Nat) : s.Keeps (s.decidePool pool) :=
  (s.keeps_decideOnce pool).trans (.foldl (fun t _ => t.keeps_decideOnce pool) _ _)

theorem State.keeps_releaseUnit (s : State) (u : Nat) : s.Keeps (s.releaseUnit u) := (s.keeps_setGrant _ _).trans (State.keeps_decidePool _ _)

theorem State.keeps_unqueue (s : State) (q : Requester) : s.Keeps (s.unqueue q) :=
  .foldl (fun t _ => (t.keeps_setQueue _ _ _).trans (State.keeps_reoffer _ _)) _ _

/-- A withdrawal. -/
theorem State.keeps_withdraw (s : State) (q : Requester) : s.Keeps (s.withdraw q) := by
  simp only [State.withdraw]
  split
  · exact (s.keeps_unqueue q).trans (State.keeps_releaseUnit _ _)
  · exact s.keeps_unqueue q

/-- The end of an operation that holds a unit. -/
theorem State.keeps_endOpFree (s : State) (k st r0 r1 r2 r3 : Nat) : s.Keeps (s.endOpFree k st r0 r1 r2 r3) :=
  (s.keeps_endOp _ _ _ _ _ _).trans (State.keeps_withdraw _ _)

/-! Faults and frozen channels (13, 17). -/

theorem State.keeps_rubMissed (s : State) (n : Nat) : s.Keeps (s.rubMissed n) := by
  simp only [State.rubMissed]
  split
  · exact ((s.keeps_setFld _ _ _).trans (State.keeps_satInc _ _ _ _)).trans (State.keeps_raise _ _)
  · exact (s.keeps_satInc _ _ _).trans (State.keeps_raise _ _)

theorem State.keeps_rubTrigger (s : State) (n : Nat) (late : Bool) (c : Nat) : s.Keeps (s.rubTrigger n late c) := by
  unfold State.rubTrigger
  split
  · split
    · exact .rfl
    · exact s.keeps_rubMissed _
  · exact .of_eq (Eq.refl _) (Eq.refl _) (Eq.refl _) (Eq.refl _)

theorem State.keeps_faultRecord (s : State) (cls inst extra : Nat) : s.Keeps (s.faultRecord cls inst extra) := by
  simp only [State.faultRecord]
  split <;> exact .of_eq (Eq.refl _) (Eq.refl _) (Eq.refl _) (Eq.refl _)

/-- A detected fault. -/
theorem State.keeps_fault (s : State) (cls inst extra : Nat) : s.Keeps (s.fault cls inst extra) := by
  unfold State.fault
  extract_lets s1 f1 a1 a2 a3 a4 s2 s3 b1 b2 f2 s4 rub seq s5
  have h1 : s.Keeps s1 := s.keeps_setFld _ _ _
  have g1 : s1.Keeps a1 := s1.keeps_withFlt _
  have g2 : a1.Keeps a2 := a1.keeps_setFld _ _ _
  have g3 : a2.Keeps a3 := a2.keeps_setFld _ _ _
  have g4 : a3.Keeps a4 := a3.keeps_setRg _ _
  have h2 : s1.Keeps s2 := .ite (((g1.trans g2).trans g3).trans (g4.trans (a4.keeps_setRg _ _))) .rfl
  have h3 : s2.Keeps s3 := s2.keeps_raise _
  have k1 : s3.Keeps b1 := s3.keeps_faultRecord _ _ _
  have k2 : b1.Keeps b2 := b1.keeps_setFld _ _ _
  have h4 : s3.Keeps s4 := .ite ((k1.trans k2).trans (b2.keeps_withFlt _)) .rfl
  have h5 : s4.Keeps s5 := .ite (s4.keeps_rubTrigger _ _ _) .rfl
  exact ((((h1.trans h2).trans h3).trans h4).trans h5).trans (s5.keeps_eventSM _ _ _ _ _ _)

/-- A channel that freezes. -/
theorem State.keeps_freeze (s : State) (c cause addr ink mr : Nat) (x : Nat × Nat × Nat) : s.Keeps (s.freeze c cause addr ink mr x) := by
  unfold State.freeze
  split
  · exact .rfl
  · extract_lets o s1 s2 s3 s4 s5 s6 m1 s7 s8 s9 s10
    have h1 : s.Keeps s1 := s.keeps_setFld _ _ _
    have h2 : s1.Keeps s2 := (s1.keeps_satInc _ _ _).trans (State.keeps_count _ _ _)
    have h3 : s2.Keeps s3 := s2.keeps_setRg _ _
    have h4 : s3.Keeps s4 := s3.keeps_setRg _ _
    have h5 : s4.Keeps s5 := s4.keeps_setRg _ _
    have h6 : s5.Keeps s6 := s5.keeps_setRg _ _
    have h7 : s6.Keeps s7 := s6.keeps_withMc _ (Eq.refl _)
    have h8 : s7.Keeps s8 := s7.keeps_raise _
    have h9 : s8.Keeps s9 := s8.keeps_rubTrigger _ _ _
    have h10 : s9.Keeps s10 := s9.keeps_fault _ _ _
    exact (((((((((h1.trans h2).trans h3).trans h4).trans h5).trans h6).trans h7).trans h8).trans h9).trans h10).trans (s10.keeps_eventSM _ _ _ _ _ _)

theorem State.keeps_incident (s : State) (i : Incident) : s.Keeps (s.incident i) := by
  cases i with
  | unmapped w a write kind => exact s.keeps_recordBus _ _ _ _
  | uncorr a cause ink => exact s.keeps_freeze _ _ _ _ _ _
  | ink w a write stored carried =>
    have h1 := s.keeps_recordInk w a write stored carried
    simp only [State.incident]
    generalize s.recordInk w a write stored carried = t at *
    refine h1.trans (.ite ?_ .rfl)
    refine State.Keeps.trans ?_ (State.keeps_event _ _ _ _ _ _ _ _ _)
    exact t.keeps_withMc _ (Eq.refl _)

/-- What a fault of a unit's access leaves. -/
theorem State.keeps_noteFault (s : State) (f : XFault) : s.Keeps (s.noteFault f) := by
  unfold State.noteFault
  split
  · exact s.keeps_incident _
  · exact .rfl

theorem State.keeps_flushPlate (s : State) : s.Keeps s.flushPlate :=
  State.Keeps.trans (.of_eq (Eq.refl _) (Eq.refl _) (Eq.refl _) (Eq.refl _)) (.foldl (fun t _ => t.keeps_event _ _ _ _ _ _ _ _) _ _)

/-- A unit's read. -/
theorem State.keeps_unitRead (s : State) (w : Who) (va n : Nat) : s.Keeps (s.unitRead w va n).2 := by
  have h1 := s.keeps_dmaRead w va n
  unfold State.unitRead
  generalize s.dmaRead w va n = x at *
  obtain ⟨_ | l, t⟩ := x
  · exact h1.trans (t.keeps_noteFault _)
  · exact h1

/-- A unit's write. -/
theorem State.keeps_unitWrite (s : State) (w : Who) (va : Nat) (l : List Byte) : s.Keeps (s.unitWrite w va l).2 := by
  have h1 := s.keeps_dmaWrite w va l
  unfold State.unitWrite
  generalize s.dmaWrite w va l = x at *
  obtain ⟨_ | f, t⟩ := x
  · exact h1.trans t.keeps_flushPlate
  · exact (h1.trans (t.keeps_noteFault f)).trans (State.keeps_flushPlate _)

end Sys2Proof.Machine
end

