-- ==== Sys2Proof/Tests/Slice0.lean ====
section
/-! SUPPORT. Small tests: ill-formed commands that the check refuses, and for every statement states and operands that meet its
hypotheses. -/

open Sys2Proof Sys2Proof.Machine

namespace Sys2Proof.Tests

set_option Elab.async false

/-- The state after reset. -/
def z : State := State.reset

/-- A packet of a ring in execution, with its opcode, parameters and progress. -/
def pk (r : RingId) (op : Nat) (ps : List Byte := []) (pr : Nat := 0) : Started :=
  { ring := r, pkt := { opcode := op, entries := 1, flags := 0, client := ringClient r, gen := 0, tag := 7, waitAddr := 0, waitValue := 0, sigAddr := 0
                        sigValue := 0, params := ps, index := 0 }, restarts := 0, progress := pr, result := none, held := false }

/-- A state with a packet in place 5. -/
def at5 (p : Started) (s : State := z) : State := s.setPlace 5 (some p)

/-- Four groups of 2 GiB of DRAM, all channels running. -/
def dram : State := (List.range 16).foldl (fun (s : State) c => s.setFld F.MC_CH_STAT_STATE 0 c) (z.setFld F.MC_CFG_USABLE 8)

/-- DRAM whose words hold the S-world's ink. -/
def dramS : State := { dram with mc := { dram.mc with inks := [(0, 1)] } }

/-- DRAM whose words hold ink 0, which a client carries. -/
def dramC : State := { dram with mc := { dram.mc with inks := [] } }

/-- A ring set in service, in Safety SRAM. -/
def ringOn : RingSet := { RingSet.off with enabled := true, sqBase := 0x1000000, cqBase := 0x1001000, eqBase := 0x1002000 }

/-- The first entry of a packet: opcode, ENTRIES, FLAGS, and a fence. -/
def hd (op entries flags addr v : Nat) : List Byte :=
  leBytes 2 op ++ leBytes 1 entries ++ leBytes 1 flags ++ List.replicate 12 0 ++ leBytes 8 addr ++ leBytes 8 v ++ List.replicate 32 0

/-- A packet with its FLAGS. -/
def pf (r : RingId) (op flags : Nat) : Packet := { (pk r op).pkt with flags := flags }

/-- A slot of client 0 on output 7. -/
def slotIn (l : Nat) : State := (z.setFld F.DPIPE_LOWNER_VALID 1 l).setFld F.DPIPE_LCTRL_OUTPUT 7 l

/-- A read that answers data is those data and the state it leaves. -/
theorem ok_of {ε α : Type} [DecidableEq α] {x : Except ε α × State} {v : α}
    (h : (match x.1 with | .ok w => decide (w = v) | .error _ => false) = true) : x = (.ok v, x.2) := by
  rcases x with ⟨_ | w, s⟩
  · cases h
  · simp_all

/-- Client 4095 with ink 5, bound to function 63, on DRAM of that ink. -/
def pcie : State :=
  ((({ dram with mc := { dram.mc with inks := [(0, 5)] }, cl := { z.cl with pasids := [⟨63, none, 4095, 0⟩], devctx := [(0, some ⟨0, 0, 0⟩)] } } : State).setRg
    (Reg.DEV_CLINK 511) 0x50000000).setClient 4095 { Client.fresh with bind := some ⟨0, 0, 0, 0⟩ })

/-- A plate list of one rectangle, with its CRC. -/
def rectList : List Byte :=
  let h := [1, 0, 1, 0] ++ leBytes 4 48 ++ leBytes 4 4096 ++ List.replicate 4 0
  let e := List.replicate 12 0 ++ [1, 0, 2, 0, 1, 0, 0, 0] ++ List.replicate 4 0 ++ leBytes 2 8 ++ leBytes 2 8
  h ++ leBytes 4 (crc32c (h ++ List.replicate 4 0 ++ e)) ++ e

/-- Output 7 under Proof, with window 15 on lines 0 to 8191. -/
def proofOn : State :=
  let s := ((z.setFld F.PROOF_CTRL_ENABLE 1 7).setFld F.PROOF_WIN_ACTIVE 0x8000 7).setFld F.PROOF_STAT_UNCHECKED 0 7
  (s.putPlate (s.proofBank 7 (s.fld F.PROOF_STAT_BANK 7) + 240) [0, 0, 0, 0, 0, 0, 0, 0x20]).setOut 7 { Output.idleOut with stream := true }

/-- A grant of an S-world holder, and a state that holds it. -/
def gr (q : Requester) : Grant := ⟨q, 0, false, false, 0, 0, 0, false, false⟩
def grants (u : Nat) (g : Grant) (s : State) : State := { s with arb := { s.arb with units := [(u, some g)] } }

/-- The data of a read that answers some. -/
def okVal {ε : Type} (x : Except ε (List Byte)) : List Byte := match x with | .ok l => l | .error _ => []

theorem ok_val {ε : Type} {x : Except ε (List Byte) × State} (h : (match x.1 with | .ok _ => true | .error _ => false) = true) :
    x = (.ok (okVal x.1), x.2) := by
  rcases x with ⟨_ | w, s⟩
  · cases h
  · rfl

/-- A write that meets no fault leaves the state it leaves. -/
theorem none_of {α : Type} {x : Option α × State} (h : x.1.isNone = true) : x = (none, x.2) := by
  rcases x with ⟨_ | w, s⟩
  · rfl
  · cases h

/-- What holds of every value of an option that is none. -/
theorem none_all {α : Type} {o : Option α} {P : α → Prop} (h : o.isNone = true) : ∀ w, o = some w → P w := by
  intro w e; subst e; cases h

/-- A group frame of member 1023 of group 0 with a SEQ, under the empty key, and a device that receives it on port 1. -/
def groupFrame (seq : Nat) : List Byte :=
  let p := [1, 0, 0xFF, 3, 0, 0, 0, 0] ++ leBytes 8 seq ++ leBytes 8 0
  List.replicate 16 0 ++ [0x88, 0xB5] ++ p ++ hmacSha256 [] p
def groupUp : State := ({ z.setFld F.TTH_PORT_STAT_UP 1 1 with dziv := { z.dziv with enabled := 2 } } : State).setFld F.TTH_GROUP_VALID 1

/-! Known answers: the standards' own check values, and numbers the spec's text gives. -/

/-- The check value of CRC-32C over the digits 1 to 9. -/
theorem test_crc32c_check : crc32c [0x31, 0x32, 0x33, 0x34, 0x35, 0x36, 0x37, 0x38, 0x39] = 0xE3069283 := by decide +kernel

/-- The first bytes of SHA-256 of "abc" (FIPS 180-4). -/
theorem test_sha256_abc : (sha256 [0x61, 0x62, 0x63]).take 4 = [0xBA, 0x78, 0x16, 0xBF] := by decide +kernel

/-- The first bytes of SHA-384 of "abc" (FIPS 180-4). -/
theorem test_sha384_abc : (sha384 [0x61, 0x62, 0x63]).take 4 = [0xCB, 0x00, 0x75, 0x3F] := by decide +kernel

/-- The identity register of a stepping-B0 device (00, Register descriptions). -/
theorem test_identity : z.rg (Reg.DEV_ID) = 0x54570810 := by decide +kernel

/-- The channel of an address, by the exclusive or of two pairs of bits (13 R520). -/
theorem test_channels : dram.channelOf (dramBase + 0x100) = 1 ∧ dram.channelOf (dramBase + 0x10000) = 1 ∧ dram.channelOf (dramBase + 0x10100) = 0 ∧
    dram.channelOf (dramBase + 2 ^ 31) = 4 := by decide +kernel

/-- Two damaged symbols are seen and not corrected; one is corrected (13 R525). -/
theorem test_two_symbols : (decodeWord [(3, 0x80), (20, 1)]).1 = .uncorrectable ∧ decodeWord [(20, 1)] = (.corrected 20, []) := by decide +kernel

/-- A NOP ends with OK (03 R134). -/
theorem test_nop : ((match exec (.nop 5) (at5 (pk .med 0)) with | .next t => t | _ => z).place 5).map Started.result =
    some (some (⟨0, 0, 0, 0, 0⟩ : Result)) := by decide +kernel

/-- Only the S-world writes FREEZE_LIMIT, and a value above 500 leaves it at its default of 50 (13 R554; 00 R3). -/
theorem test_freeze_limit : (match exec (.registerWrite false .med 0x10B00008 7) z with | .next t => t | _ => z).fld F.MC_FREEZE_LIMIT = 50 ∧
    (match exec (.registerWrite false .s 0x10B00008 501) z with | .next t => t | _ => z).fld F.MC_FREEZE_LIMIT = 50 ∧
    (match exec (.registerWrite false .s 0x10B00008 7) z with | .next t => t | _ => z).fld F.MC_FREEZE_LIMIT = 7 := by decide +kernel

/-- The node of the worked example of the Tracer chapter lies at (3,516, 1,923.75), in sixteenths of a pixel (08). -/
theorem test_touch_position :
    (axisPos 146 1 160 false 0 3840, axisPos 85 1 96 false 0 2160) = (16 * 3516, 16 * 1923 + 12) := by decide +kernel

/-- The block idles on an empty queue, and takes the front command of two. -/
theorem test_queue : (match step { z with pending := [.nop 5, .nop 6] } with | .next t => t.pending | _ => []) = [.nop 6] := by decide +kernel

/-! Every check of `Instr.wf` refuses a command that breaks it. -/

theorem test_ill_formed_1 :
    (Instr.registerWrite false (.client 4096) 0 0).wf = false ∧
    (Instr.registerWrite false .s (2 ^ 48) 0).wf = false ∧
    (Instr.misalignedWindowAccess (.client 4096) false 0).wf = false ∧
    (Instr.misalignedWindowAccess .s false (2 ^ 48)).wf = false ∧
    (Instr.unmappedAccess (.client 4096) false false 0).wf = false ∧
    (Instr.unmappedAccess .s false false (2 ^ 48)).wf = false ∧
    (Instr.gatedWindowAccess (.client 4096) false 0).wf = false ∧
    (Instr.gatedWindowAccess .s false (2 ^ 48)).wf = false ∧
    (Instr.memoryRead ⟨.client 4096, false, .be⟩ 0 [] none).wf = false ∧
    (Instr.memoryRead ⟨.s, false, .be⟩ (2 ^ 48) [] none).wf = false ∧
    (Instr.memoryRead ⟨.s, false, .be⟩ 0 [(36, 1)] none).wf = false ∧
    (Instr.memoryWrite false (2 ^ 16) ⟨.s, false, .be⟩ 0 (List.replicate 32 0) none).wf = false ∧
    (Instr.memoryWrite false 0 ⟨.client 4096, false, .be⟩ 0 (List.replicate 32 0) none).wf = false ∧
    (Instr.memoryWrite false 0 ⟨.s, false, .be⟩ (2 ^ 48) (List.replicate 32 0) none).wf = false ∧
    (Instr.memoryWrite false 0 ⟨.s, false, .be⟩ 0 (List.replicate 31 0) none).wf = false ∧
    (Instr.partialWrite false (2 ^ 16) ⟨.s, false, .be⟩ 0 [] [] none).wf = false ∧
    (Instr.partialWrite false 0 ⟨.client 4096, false, .be⟩ 0 [] [] none).wf = false ∧
    (Instr.partialWrite false 0 ⟨.s, false, .be⟩ (2 ^ 48) [] [] none).wf = false ∧
    (Instr.partialWrite false 0 ⟨.s, false, .be⟩ 0 [] [(36, 1)] none).wf = false ∧
    (Instr.correctionWriteback (2 ^ 48)).wf = false ∧
    (Instr.patrolRead (2 ^ 48) []).wf = false ∧
    (Instr.patrolRead 0 [(36, 1)]).wf = false ∧
    (Instr.requestAgePromotion 16 0).wf = false ∧
    (Instr.refreshBatch 16).wf = false ∧
    (Instr.mr4Poll 16 0).wf = false ∧
    (Instr.mr4Poll 0 4).wf = false ∧
    (Instr.modeRegisterReadback 16 none).wf = false ∧
    (Instr.commandPathParityError 16).wf = false := by decide

theorem test_ill_formed_2 :
    (Instr.slotTableSwap 4).wf = false ∧
    (Instr.thawPoison (.client 4096) 0).wf = false ∧
    (Instr.thawPoison .s 16).wf = false ∧
    (Instr.thawRewriteMr (.client 4096) 0).wf = false ∧
    (Instr.thawRewriteMr .s 16).wf = false ∧
    (Instr.thawRetrain (.client 4096) 0).wf = false ∧
    (Instr.thawRetrain .s 16).wf = false ∧
    (Instr.thawFence (.client 4096) 0).wf = false ∧
    (Instr.thawFence .s 16).wf = false ∧
    (Instr.selfThaw 16).wf = false ∧
    (Instr.retrainAttemptEnd (2 ^ 16)).wf = false ∧
    (Instr.mirrorCopyDone 8).wf = false ∧
    (Instr.scrub 128 none).wf = false ∧
    (Instr.slotSet 128).wf = false ∧
    (Instr.mirrorSet 128).wf = false ∧
    (Instr.retrain 128).wf = false ∧
    (Instr.memQuery 128).wf = false ∧
    (Instr.intBandWrite (.client 4096) 0 0).wf = false ∧
    (Instr.intBandWrite .s 16 0).wf = false ∧
    (Instr.intSack (.client 4096) 0).wf = false ∧
    (Instr.aplicMessageSend 512).wf = false ∧
    (Instr.intMbxOwnerWrite (.client 4096) 0 0).wf = false ∧
    (Instr.intMbxOwnerWrite .s 16 0).wf = false ∧
    (Instr.mbxTake (.client 4096) 0 0).wf = false ∧
    (Instr.mbxTake .s 16 0).wf = false ∧
    (Instr.mbxSend (.client 4096) 0 0).wf = false ∧
    (Instr.mbxSend .s 16 0).wf = false ∧
    (Instr.mbxDoorbell (.client 4096) 0 0).wf = false := by decide

theorem test_ill_formed_3 :
    (Instr.mbxDoorbell .s 16 0).wf = false ∧
    (Instr.mbxBufferWrite (.client 4096) 0 0 0).wf = false ∧
    (Instr.mbxBufferWrite .s 16 0 0).wf = false ∧
    (Instr.debugAccess false ⟨.client 4096, false, .be⟩ false 0 []).wf = false ∧
    (Instr.debugAccess false ⟨.s, false, .be⟩ false (2 ^ 48) []).wf = false ∧
    (Instr.pwrSclaimWrite (.client 4096) 0 0).wf = false ∧
    (Instr.pwrSclaimWrite .s 2 0).wf = false ∧
    (Instr.sqTailDoorbell (.client 4096) .s 0).wf = false ∧
    (Instr.sqTailDoorbell .s (.client 4096) 0).wf = false ∧
    (Instr.cqHeadDoorbell (.client 4096) .s 0).wf = false ∧
    (Instr.cqHeadDoorbell .s (.client 4096) 0).wf = false ∧
    (Instr.eqHeadDoorbell (.client 4096) .s 0).wf = false ∧
    (Instr.eqHeadDoorbell .s (.client 4096) 0).wf = false ∧
    (Instr.sqResume (.client 4096) .s 0).wf = false ∧
    (Instr.sqResume .s (.client 4096) 0).wf = false ∧
    (Instr.packetStart (.client 4096)).wf = false ∧
    (Instr.fenceEvaluate (.client 4096)).wf = false ∧
    (Instr.fenceTimeout (.client 4096)).wf = false ∧
    (Instr.packetComplete 128).wf = false ∧
    (Instr.nop 128).wf = false ∧
    (Instr.ringSetup 128).wf = false ∧
    (Instr.ringDisable 128).wf = false ∧
    (Instr.ringSetDrained (.client 4096)).wf = false ∧
    (Instr.ringQuery 128).wf = false ∧
    (Instr.eventMask 128).wf = false ∧
    (Instr.timeRead 128).wf = false ∧
    (Instr.pringEnable (.client 4096) 0 0).wf = false ∧
    (Instr.pringEnable .s 2 0).wf = false := by decide

theorem test_ill_formed_4 :
    (Instr.pringDisable (.client 4096) 0 0).wf = false ∧
    (Instr.pringDisable .s 2 0).wf = false ∧
    (Instr.instanceQuery 128).wf = false ∧
    (Instr.instanceReset 128).wf = false ∧
    (Instr.instanceResetDone 4096).wf = false ∧
    (Instr.shareSet 128).wf = false ∧
    (Instr.grant 128).wf = false ∧
    (Instr.devctxSet 128).wf = false ∧
    (Instr.clientBind 128).wf = false ∧
    (Instr.iotlbInval 128).wf = false ∧
    (Instr.pasidMap 128).wf = false ∧
    (Instr.pcieFlr 64).wf = false ∧
    (Instr.pcieLinkChange false 8 0 0).wf = false ∧
    (Instr.pcieLinkChange false 0 16 0).wf = false ∧
    (Instr.pcieLinkChange false 0 0 64).wf = false ∧
    (Instr.dptxTrain (.client 4096) 0 0).wf = false ∧
    (Instr.dptxTrain .s 8 0).wf = false ∧
    (Instr.trainingAttemptEnd 8 false).wf = false ∧
    (Instr.hpdUnplug 8).wf = false ∧
    (Instr.hpdPlug 8).wf = false ∧
    (Instr.irqHpd 8 false).wf = false ∧
    (Instr.dtgEnable (.client 4096) 0 0).wf = false ∧
    (Instr.dtgEnable .s 8 0).wf = false ∧
    (Instr.applyArm (.client 4096) 0 0).wf = false ∧
    (Instr.applyArm .s 8 0).wf = false ∧
    (Instr.layerArm (.client 4096) 0 0).wf = false ∧
    (Instr.layerArm .s 64 0).wf = false ∧
    (Instr.applyLine 8).wf = false := by decide

theorem test_ill_formed_5 :
    (Instr.frameBoundary 8).wf = false ∧
    (Instr.verticalStart 8).wf = false ∧
    (Instr.layerFetchFault 64 0 0).wf = false ∧
    (Instr.layerFetchFault 0 8 0).wf = false ∧
    (Instr.layerFetchFault 0 0 (2 ^ 16)).wf = false ∧
    (Instr.layerUnderrun 64 0).wf = false ∧
    (Instr.layerUnderrun 0 (2 ^ 16)).wf = false ∧
    (Instr.outputQuery 128).wf = false ∧
    (Instr.modeSet 128).wf = false ∧
    (Instr.layerAssign 128).wf = false ∧
    (Instr.layerUnassign 128).wf = false ∧
    (Instr.layerSet 128).wf = false ∧
    (Instr.flip 128).wf = false ∧
    (Instr.paletteSet 128).wf = false ∧
    (Instr.plateLockedWrite (.client 4096) 0).wf = false ∧
    (Instr.plateLockedWrite .s (2 ^ 48)).wf = false ∧
    (Instr.listLoad 128).wf = false ∧
    (Instr.listUnload 128).wf = false ∧
    (Instr.swap 128).wf = false ∧
    (Instr.blinkSet 128).wf = false ∧
    (Instr.blinkPhaseChange 8 0).wf = false ∧
    (Instr.blinkPhaseChange 0 2).wf = false ∧
    (Instr.modeDecide 128).wf = false ∧
    (Instr.etchQuery 128).wf = false ∧
    (Instr.proofVerdict 8 0 0 0).wf = false ∧
    (Instr.proofVerdict 0 16 0 0).wf = false ∧
    (Instr.proofVerdict 0 0 (2 ^ 16) 0).wf = false ∧
    (Instr.proofVerdict 0 0 0 (2 ^ 32)).wf = false := by decide

theorem test_ill_formed_6 :
    (Instr.takeoverSwitch 8 0).wf = false ∧
    (Instr.takeoverSwitch 0 (2 ^ 16)).wf = false ∧
    (Instr.returnCheckEnd 8 none).wf = false ∧
    (Instr.sinkCrcRead 8 none).wf = false ∧
    (Instr.guardSet 128).wf = false ∧
    (Instr.windowSet 128).wf = false ∧
    (Instr.proofReturn 128).wf = false ∧
    (Instr.proofForce 128).wf = false ∧
    (Instr.proofQuery 128).wf = false ∧
    (Instr.fill 128).wf = false ∧
    (Instr.gradient 128).wf = false ∧
    (Instr.copy 128).wf = false ∧
    (Instr.blend 128).wf = false ∧
    (Instr.scale 128).wf = false ∧
    (Instr.convert 128).wf = false ∧
    (Instr.pathFill 128).wf = false ∧
    (Instr.pathStroke 128).wf = false ∧
    (Instr.grvGlyphs 128).wf = false ∧
    (Instr.grvPaletteLoad 128).wf = false ∧
    (Instr.grvCtxSave 128).wf = false ∧
    (Instr.grvCtxRestore 128).wf = false ∧
    (Instr.graverStripEnd 128).wf = false ∧
    (Instr.grvCtxbaseWrite (.client 4096) false 0).wf = false ∧
    (Instr.arbiterRequest (.task 0 0) 4 none).wf = false ∧
    (Instr.takeAwayStop 14).wf = false ∧
    (Instr.arbiterRelease 14).wf = false ∧
    (Instr.lockOverrun 14).wf = false ∧
    (Instr.hallRun 128).wf = false := by decide

theorem test_ill_formed_7 :
    (Instr.hallQuery 128).wf = false ∧
    (Instr.scanStart 8).wf = false ∧
    (Instr.driveWindowEnd 8 []).wf = false ∧
    (Instr.surveyEnd 8 []).wf = false ∧
    (Instr.surveySkipped 8).wf = false ∧
    (Instr.scanDecision 8 none).wf = false ∧
    (Instr.reportWrite 8).wf = false ∧
    (Instr.persistTimer 8 0).wf = false ∧
    (Instr.persistTimer 0 32).wf = false ∧
    (Instr.idleLevelTimer 8).wf = false ∧
    (Instr.surveyDue 8).wf = false ∧
    (Instr.panelSet 128).wf = false ∧
    (Instr.panelTune 128).wf = false ∧
    (Instr.reportSetup 128).wf = false ∧
    (Instr.zoneSet 128).wf = false ∧
    (Instr.absorb 128).wf = false ∧
    (Instr.recalibrate 128).wf = false ∧
    (Instr.panelQuery 128).wf = false ∧
    (Instr.tchCtxSave 128).wf = false ∧
    (Instr.tchCtxRestore 128).wf = false ∧
    (Instr.hapTrigEdge 8 false).wf = false ∧
    (Instr.hapticZoneTrigger 256).wf = false ∧
    (Instr.segmentEnd 8).wf = false ∧
    (Instr.coastWindow 8 0).wf = false ∧
    (Instr.coastWindow 0 (2 ^ 16)).wf = false ∧
    (Instr.openCheck 8 0).wf = false ∧
    (Instr.openCheck 0 (2 ^ 16)).wf = false ∧
    (Instr.overcurrent 8 0).wf = false := by decide

theorem test_ill_formed_8 :
    (Instr.overcurrent 0 (2 ^ 16)).wf = false ∧
    (Instr.vhapMeasure (2 ^ 16)).wf = false ∧
    (Instr.play 128).wf = false ∧
    (Instr.waveLoad 128).wf = false ∧
    (Instr.waveFree 128).wf = false ∧
    (Instr.actQuery 128).wf = false ∧
    (Instr.maint 128).wf = false ∧
    (Instr.portSet 128).wf = false ∧
    (Instr.routeSet 128).wf = false ∧
    (Instr.busSet 128).wf = false ∧
    (Instr.safeload 128).wf = false ∧
    (Instr.routerState 128).wf = false ∧
    (Instr.genSet 128).wf = false ∧
    (Instr.toneSet 128).wf = false ∧
    (Instr.cadenceStepEnd 16).wf = false ∧
    (Instr.beepPlay 128).wf = false ∧
    (Instr.zoneBeepTrigger 256).wf = false ∧
    (Instr.crossfadeEnd 512).wf = false ∧
    (Instr.streamSetup 128).wf = false ∧
    (Instr.streamCtrl 128).wf = false ∧
    (Instr.streamFetch 256 []).wf = false ∧
    (Instr.alarmSet 128).wf = false ∧
    (Instr.audioQuery 128).wf = false ∧
    (Instr.audCtxSave 128).wf = false ∧
    (Instr.audCtxRestore 128).wf = false ∧
    (Instr.portClockLost 8 0).wf = false ∧
    (Instr.portClockLost 0 (2 ^ 32)).wf = false ∧
    (Instr.portClockBack 8 0).wf = false := by decide

theorem test_ill_formed_9 :
    (Instr.portClockBack 0 (2 ^ 32)).wf = false ∧
    (Instr.alarmMemberFail 2).wf = false ∧
    (Instr.folioQuery 128).wf = false ∧
    (Instr.folioFlush 128).wf = false ∧
    (Instr.settingsWrite 128).wf = false ∧
    (Instr.settingsRead 128).wf = false ∧
    (Instr.logRead 128).wf = false ∧
    (Instr.calSet 128).wf = false ∧
    (Instr.calDone 128).wf = false ∧
    (Instr.folioAdopt 128).wf = false ∧
    (Instr.fwQuery 128).wf = false ∧
    (Instr.fwErase 128).wf = false ∧
    (Instr.fwWrite 128).wf = false ∧
    (Instr.fwVerify 128).wf = false ∧
    (Instr.fwActivate 128).wf = false ∧
    (Instr.fwConfirm 128).wf = false ∧
    (Instr.fwAbandon 128).wf = false ∧
    (Instr.faultQuery 128).wf = false ∧
    (Instr.faultClear 128).wf = false ∧
    (Instr.safeEnter 128).wf = false ∧
    (Instr.timingStall 8).wf = false ∧
    (Instr.sramUncorrectable 4 none).wf = false ∧
    (Instr.swdogKick (.client 4096) 0).wf = false ∧
    (Instr.rubFire 128).wf = false ∧
    (Instr.rubRead 128).wf = false ∧
    (Instr.rubRelease 128).wf = false ∧
    (Instr.linkSet 128).wf = false ∧
    (Instr.timeSet 128).wf = false := by decide

theorem test_ill_formed_10 :
    (Instr.groupSet 128).wf = false ∧
    (Instr.rosterSet 128).wf = false ∧
    (Instr.admitMember 128).wf = false ∧
    (Instr.alarmSend 128).wf = false ∧
    (Instr.lockSet 128).wf = false ∧
    (Instr.intercomSet 128).wf = false ∧
    (Instr.qpSetup 128).wf = false ∧
    (Instr.qpKick 128).wf = false ∧
    (Instr.linkQuery 128).wf = false ∧
    (Instr.groupFrameReceived 2 []).wf = false ∧
    (Instr.ptpMessage 2 0 false).wf = false ∧
    (Instr.memberTimeout 1024).wf = false ∧
    (Instr.intercomFrameSend 8 []).wf = false ∧
    (Instr.intercomIdle 8).wf = false ∧
    (Instr.qpFrameReceived 2 []).wf = false ∧
    (Instr.qpTransmit 32).wf = false ∧
    (Instr.ethLinkChange 2 false).wf = false ∧
    (Instr.powerState 128).wf = false ∧
    (Instr.wakeSource 4 0).wf = false ∧
    (Instr.wakeSource 0 8).wf = false ∧
    (Instr.clusterIdleGate 4).wf = false ∧
    (Instr.clusterWake 4).wf = false ∧
    (Instr.domainSet 128).wf = false ∧
    (Instr.domainRestored 64).wf = false ∧
    (Instr.reset 128).wf = false ∧
    (Instr.rtcSet 128).wf = false ∧
    (Instr.powerQuery 128).wf = false ∧
    (Instr.railPowerGood 16).wf = false := by decide

theorem test_ill_formed_11 :
    (Instr.railTimeout 16 0).wf = false ∧
    (Instr.railTimeout 0 (2 ^ 16)).wf = false ∧
    (Instr.avsAdjust 4).wf = false ∧
    (Instr.lsioSownWrite (.client 4096) 0 0).wf = false ∧
    (Instr.lsioSownWrite .s (2 ^ 48) 0).wf = false ∧
    (Instr.lsioCtrlWrite (.client 4096) 0 0).wf = false ∧
    (Instr.lsioCtrlWrite .s 14 0).wf = false ∧
    (Instr.lsioTxPush (.client 4096) 0 0).wf = false ∧
    (Instr.lsioTxPush .s 14 0).wf = false ∧
    (Instr.lsioRxPop (.client 4096) 0 0).wf = false ∧
    (Instr.lsioRxPop .s 14 0).wf = false ∧
    (Instr.lsioRxEntry 14 []).wf = false ∧
    (Instr.lsioTxDone 14).wf = false ∧
    (Instr.lsioBusError 14 0 0).wf = false ∧
    (Instr.lsioBusError 0 256 0).wf = false ∧
    (Instr.lsioBusError 0 0 256).wf = false ∧
    (Instr.canStateChange 14 0).wf = false ∧
    (Instr.canStateChange 0 4).wf = false ∧
    (Instr.gpioEdge 64 false).wf = false ∧
    (Instr.flashEraseDone 2 false).wf = false ∧
    (Instr.mirrorReleaseDone 8).wf = false ∧
    (Instr.gainRampEnd 1024).wf = false := by decide

/-! For every statement with hypotheses, states and operands that meet them. -/

theorem witness_StepRunsTheFrontCommand :
    ∃ (s : State) (c : Instr) (rest : List Instr), s.pending = c :: rest :=
  ⟨{ z with pending := [.coldBoot, .vbatLoss] }, .coldBoot, [.vbatLoss], by decide +kernel⟩

theorem witness_IdleStepPassesOneCycle :
    ∃ (s : State), s.pending = [] ∧ (s.cyc + 1) % cyclesPerSecond ≠ 0 ∧ s.asleep = true :=
  ⟨z.setFld F.PWR_STATE_STATE 2, by decide +kernel⟩

theorem witness_EveryStepKeepsCanonicalForm :
    ∃ (s : State) (t : State), s.Canonical ∧ step s = .next t :=
  ⟨z, z.tick, ⟨by decide +kernel, by decide +kernel, by decide +kernel⟩, rfl⟩

theorem witness_NoCommandTouchesTheQueue :
    ∃ (i : Instr) (s : State) (t : State), exec i s = .next t :=
  ⟨.heavyRowWindowClear, { z with pending := [.vbatLoss] }, { z with pending := [.vbatLoss], mc := { z.mc with heavy := [], throttled := [] } }, rfl⟩

theorem witness_FieldWritesFollowAccessTypes :
    ∃ (a : Nat) (d : RegDesc) (f : FieldDesc), findReg a = some d ∧ f ∈ d.fields :=
  ⟨Reg.DEV_BUSERR, (findReg Reg.DEV_BUSERR).get (by decide +kernel), ⟨31, 31, .w1c, 0⟩, by decide +kernel⟩

theorem witness_RegisterWriteWritesItsRegister :
    (∃ (s : State) (who : Who) (a : Nat) (d : RegDesc), a / 0x100000 ∈ plainUnits ∧ a % 4 = 0 ∧ s.gatedAt a = false ∧ findReg a = some d ∧ d.wr.lets who = true) ∧
    (∃ (s : State), s.pairRuns = true ∧ s.wld.commitBuf.length < 256) :=
  ⟨⟨z, .s, Reg.ETCH_SAFE_BG 7, (findReg (Reg.ETCH_SAFE_BG 7)).get (by decide +kernel), by decide +kernel⟩,
   ⟨{ z with flt := { z.flt with poresetHi := true }, wld := { z.wld with commitBuf := List.replicate 255 (.reg 0 0) } }, by decide +kernel⟩⟩

theorem witness_RefusedAccessesAreRecordedAndAnswered :
    (∃ (s : State) (a : Nat), (s.region a = .window ∨ s.region a = .doorbell)) ∧
    (∃ (s : State) (a : Nat), s.region a = .none) ∧
    (∃ (s : State) (who : Who) (a : Nat), who ≠ .s ∧ (s.region a = .rom ∨ s.region a = .safetySram ∨ s.region a = .plateSram)) ∧
    (∃ (s : State) (a : Nat), s.region a = .window ∧ s.gatedAt a = true) :=
  ⟨⟨z, 0x10000000, by decide +kernel⟩,
   ⟨z, 0x11400000, by decide +kernel⟩,
   ⟨z, .client 0, 0x3FFFF, by decide +kernel⟩,
   ⟨{ z with pwr := { z.pwr with off := 2 ^ 46 - 1 } }, Reg.HALL_STAT, by decide +kernel⟩⟩

theorem witness_BusErrorKeepsTheFirstRefusal :
    (∃ (s : State) (a : Nat) (kind : Nat), s.flag F.DEV_BUSERR_VALID = false ∧ a < 2 ^ 48 ∧ kind < 8) ∧
    (∃ (s : State), s.flag F.DEV_BUSERR_VALID = true) :=
  ⟨⟨z, 2 ^ 48 - 1, 7, by decide +kernel⟩,
   ⟨z.setFld F.DEV_BUSERR_VALID 1, by decide +kernel⟩⟩

theorem witness_MemoryReadDecidedByInkThenPoison :
    ∃ (s0 : State) (s : State) (r : Req) (addr : Nat) (noise : List (Nat × Byte)) (act : Option RowAct) (d : Decode) (left : List (Nat × Byte)) (copy : Bool) (ink : Nat), s0.bound r = true ∧ s0.inWindows (addr / 32 * 32) = false ∧ ¬ (r.who = .s ∧ inCheckpoint (addr / 32 * 32) = true) ∧ s = s0.meet r (addr / 32 * 32) noise act ∧ s.region (addr / 32 * 32) = .dram ∧ s.inSecondary (addr / 32 * 32) = false ∧ s.channelFault (s.channelOf (s.served (addr / 32 * 32))) = none ∧ s.sideBadAt (s.served (addr / 32 * 32)) = false ∧ s.decoded (s.served (addr / 32 * 32)) = (d, left, copy) ∧ d ≠ .uncorrectable ∧ s.carried r.who (addr / 32 * 32) = some ink :=
  ⟨dram, dram.meet ⟨.s, true, .rt⟩ dramBase [] none, ⟨.s, true, .rt⟩, dramBase + 31, [], none, .clean, [], false, 1, by decide +kernel⟩

theorem witness_MemoryWritesStoreTheirBytes :
    (∃ (s0 : State) (s : State) (gen : Nat) (r : Req) (addr : Nat) (data : List Byte) (act : Option RowAct), s0.stale r gen = false ∧ s0.bound r = true ∧ s0.inWindows (addr / 32 * 32) = false ∧ ¬ (r.who = .s ∧ inCheckpoint (addr / 32 * 32) = true) ∧ s = s0.meet r (addr / 32 * 32) [] act ∧ data.length = 32 ∧ s.region (addr / 32 * 32) = .dram ∧ s.physFault r.who (addr / 32 * 32) true true = none) ∧
    (∃ (s0 : State) (s : State) (gen : Nat) (r : Req) (a : Nat) (data : List Byte) (noise : List (Nat × Byte)) (act : Option RowAct), s0.stale r gen = false ∧ s0.bound r = true ∧ s0.inWindows a = false ∧ ¬ (r.who = .s ∧ inCheckpoint a = true) ∧ s = s0.meet r a noise act ∧ 0 < data.length ∧ a % 32 + data.length ≤ 32 ∧ data.length ≠ 32 ∧ s.region a = .dram ∧ s.physFault r.who a true false = none) ∧
    (∃ (s : State) (r : Req) (a : Nat) (data : List Byte), r.who = .s ∧ s.region a = .safetySram ∧ inCheckpoint a = false ∧ 0 < data.length ∧ a % 32 + data.length ≤ 32) ∧
    (∃ (s : State) (r : Req), r.who = .s ∧ s.pairRuns = true ∧ s.wld.commitBuf.length < 256) ∧
    (∃ (s : State) (gen : Nat) (n : Nat) (r : Req), r.who = .client n ∧ gen ≠ 0 ∧ gen ≠ (s.client n).gen) :=
  ⟨⟨dramS, dramS.meet ⟨.s, true, .rt⟩ dramBase [] none, 0, ⟨.s, true, .rt⟩, dramBase, List.replicate 32 0xFF, none, by decide +kernel⟩,
   ⟨dramS, dramS.meet ⟨.s, true, .rt⟩ dramBase [(31, 1)] none, 0, ⟨.s, true, .rt⟩, dramBase + 1, List.replicate 31 0xFF, [(31, 1)], none, by decide +kernel⟩,
   ⟨z, ⟨.s, true, .rt⟩, 0x100001F, [1], by decide +kernel⟩,
   ⟨{ z with flt := { z.flt with poresetHi := true } }, ⟨.s, true, .rt⟩, by decide +kernel⟩,
   ⟨z, 2, 4095, ⟨.client 4095, false, .rt⟩, by decide +kernel⟩⟩

theorem witness_StoreChangesItsWordAlone :
    (∃ (s : State) (a : Nat) (data : List Byte) (i : Nat), s.copyOf a = none ∧ data.length = 32 ∧ s.served a % 32 = 0 ∧ i < 32 ∧ i < data.length) ∧
    (∃ (s : State) (a : Nat) (data : List Byte) (b : Nat), s.copyOf a = none ∧ data.length = 32 ∧ s.served a % 32 = 0 ∧ (b < s.served a ∨ s.served a + 32 ≤ b)) ∧
    (∃ (s : State) (a : Nat) (data : List Byte) (b : Nat), s.copyOf a = none ∧ data.length = 32 ∧ s.served a % 32 = 0 ∧ b / 32 ≠ s.served a / 32) :=
  ⟨⟨dram, dramBase, List.replicate 32 0xFF, 31, by decide +kernel⟩,
   ⟨dram, dramBase, List.replicate 32 0xFF, dramBase + 32, by decide +kernel⟩,
   ⟨dram, dramBase, List.replicate 32 0xFF, dramBase + 32, by decide +kernel⟩⟩

theorem witness_CodeMendsOneDamagedSymbol :
    ∃ (i : Nat) (e : Byte), i < 36 ∧ e ≠ 0 :=
  ⟨35, 0xFF, by decide +kernel⟩

theorem witness_RowsAgesAndRefreshFollowTheirRules :
    (∃ (s : State) (c : Nat) (i : Nat) (q : Queued) (up : Cls) (limit : Nat), (s.mcQueue c)[i]? = some q ∧ s.promoted q.cls = some (up, limit) ∧ s.passed q.since (limit * 100) = true) ∧
    (∃ (s : State) (c : Nat), s.fld F.MC_CH_STAT_STATE c < 2 ∧ (s.mcQueue c).isEmpty = true) ∧
    (∃ (s : State) (c : Nat), s.fld F.MC_CH_STAT_STATE c < 2 ∧ (s.mcQueue c).isEmpty = false ∧ SMap.get (fun _ => 0) s.mc.ahead c = 0 ∧ s.fld F.MC_CH_STAT_REFRESH c = 0 ∧ s.fld F.MC_CH_STAT_OWED c < 8) ∧
    (∃ (ind : Nat), ind < 4) :=
  ⟨⟨{ z.setMcQueue 15 [⟨⟨.med, true, .be⟩, .be, 0, dramBase, none⟩] with cyc := 10 ^ 9 }, 15, 0, ⟨⟨.med, true, .be⟩, .be, 0, dramBase, none⟩, .rt, (((z.promoted .be).map (·.2)).getD 0), by decide +kernel⟩,
   ⟨dram, 15, by decide +kernel⟩,
   ⟨(dram.setMcQueue 15 [⟨⟨.med, true, .be⟩, .be, 0, dramBase, none⟩]).setFld F.MC_CH_STAT_OWED 7 15, 15, by decide +kernel⟩,
   ⟨3, by decide +kernel⟩⟩

theorem witness_PatrolAndWritebackMendMemory :
    (∃ (s : State) (a : Nat), a % 32 = 0 ∧ a ∈ s.mc.writeback) ∧
    (∃ (s0 : State) (s : State) (a : Nat) (noise : List (Nat × Byte)) (left : List (Nat × Byte)) (copy : Bool), a % 32 = 0 ∧ s0.region a = .dram ∧ s0.fld F.MC_CH_STAT_STATE (s0.channelOf a) = 0 ∧ s = s0.upset a noise ∧ s.decoded a = (.uncorrectable, left, copy)) ∧
    (∃ (s0 : State) (s : State) (a : Nat) (noise : List (Nat × Byte)) (d : Decode) (left : List (Nat × Byte)) (copy : Bool), a % 32 = 0 ∧ s0.region a = .dram ∧ s0.fld F.MC_CH_STAT_STATE (s0.channelOf a) = 0 ∧ s = s0.upset a noise ∧ s.decoded a = (d, left, copy) ∧ d ≠ .uncorrectable) :=
  ⟨⟨{ z with mc := { z.mc with writeback := [dramBase + 32] } }, dramBase + 32, by decide +kernel⟩,
   ⟨dram, dram.upset dramBase [(0, 1), (7, 3), (9, 9)], dramBase, [(0, 1), (7, 3), (9, 9)], ((dram.upset dramBase [(0, 1), (7, 3), (9, 9)]).decoded dramBase).2.1, false, by decide +kernel⟩,
   ⟨dram, dram.upset dramBase [(35, 1)], dramBase, [(35, 1)], .corrected 35, ((dram.upset dramBase [(35, 1)]).decoded dramBase).2.1, false, by decide +kernel⟩⟩

theorem witness_PoisonedWordHoldsZeroAndItsInk :
    (∃ (s : State) (a : Nat) (i : Nat), s.Canonical ∧ a % 32 = 0 ∧ s.mirrorList = [] ∧ i < 32) ∧
    (∃ (s : State) (a : Nat) (b : Nat), s.Canonical ∧ a % 32 = 0 ∧ s.mirrorList = [] ∧ (b < a ∨ a + 32 ≤ b)) ∧
    (∃ (s : State) (a : Nat) (b : Nat), s.Canonical ∧ a % 32 = 0 ∧ s.mirrorList = [] ∧ b / 32 ≠ a / 32) :=
  ⟨⟨dram, dramBase, 31, ⟨⟨by decide +kernel, by decide +kernel, by decide +kernel⟩, by decide +kernel⟩⟩,
   ⟨dram, dramBase, dramBase + 32, ⟨⟨by decide +kernel, by decide +kernel, by decide +kernel⟩, by decide +kernel⟩⟩,
   ⟨dram, dramBase, dramBase + 32, ⟨⟨by decide +kernel, by decide +kernel, by decide +kernel⟩, by decide +kernel⟩⟩⟩

theorem witness_FreezesAndThawsFollowTheirCauses :
    (∃ (s : State) (c : Nat) (f : Freeze), s.frz c = some f ∧ s.fld F.MC_CH_STAT_STATE c = 1 ∧ (f.cause = 1 ∨ f.cause = 2)) ∧
    (∃ (s : State) (c : Nat) (f : Freeze), s.frz c = some f ∧ s.fld F.MC_CH_STAT_STATE c = 1 ∧ (f.cause = 3 ∨ f.cause = 4)) ∧
    (∃ (s : State) (c : Nat) (f : Freeze), s.frz c = some f ∧ s.passed f.since (s.fld F.MC_FREEZE_LIMIT * 10000) = true) ∧
    (∃ (who : Who), who ≠ .s) :=
  ⟨⟨{ (z.setFld F.MC_CH_STAT_STATE 1 15) with mc := { z.mc with frozen := [(15, some ⟨2, dramBase, 0, 0, 0⟩)] } }, 15, ⟨2, dramBase, 0, 0, 0⟩, by decide +kernel⟩,
   ⟨{ (z.setFld F.MC_CH_STAT_STATE 1 15) with mc := { z.mc with frozen := [(15, some ⟨4, dramBase, 0, 0, 0⟩)] } }, 15, ⟨4, dramBase, 0, 0, 0⟩, by decide +kernel⟩,
   ⟨{ (z.setFld F.MC_CH_STAT_STATE 1 15) with cyc := 10 ^ 12, mc := { z.mc with frozen := [(15, some ⟨3, dramBase, 0, 0, 0⟩)] } }, 15, ⟨3, dramBase, 0, 0, 0⟩, by decide +kernel⟩,
   ⟨.med, by decide +kernel⟩⟩

theorem witness_FreezeLatchesItsCause :
    (∃ (s : State) (c : Nat), s.fld F.MC_CH_STAT_STATE c ≠ 0) ∧
    (∃ (s : State) (c : Nat) (cause : Nat) (addr : Nat) (ink : Nat) (mr : Nat) (q : Queued), c < 16 ∧ cause < 8 ∧ addr < 2 ^ 48 ∧ s.fld F.MC_CH_STAT_STATE c = 0 ∧ (s.ring .s).enabled = false ∧ (s.ring .med).enabled = false ∧ q ∈ (s.freeze c cause addr ink mr).mcQueue c) :=
  ⟨⟨z.setFld F.MC_CH_STAT_STATE 2 15, 15, by decide +kernel⟩,
   ⟨dram.setMcQueue 15 [⟨⟨.med, true, .be⟩, .be, 0, dramBase, none⟩], 15, 7, 2 ^ 48 - 1, 0, 0, ⟨⟨.med, true, .be⟩, .be, 0, dramBase, none⟩, by decide +kernel⟩⟩

theorem witness_RetrainingStepsDownTheRates :
    (∃ (s : State) (k : Nat) (p : Started), s.opAt k 0x2403 = some p) ∧
    (∃ (s : State) (failed : Nat) (r0 : Nat) (n : Nat), s.mc.retrain = some (r0, n) ∧ s.unfenced.filter (fun c => bit failed c) = []) ∧
    (∃ (s : State) (failed : Nat) (r0 : Nat) (n : Nat) (c : Nat), s.mc.retrain = some (r0, n) ∧ c ∈ s.unfenced ∧ bit failed c = true ∧ s.fld F.MC_CFG_RATE < 3) ∧
    (∃ (s : State) (c : Nat) (q : Queued), s.mc.retrain = none ∧ c ∈ s.unfenced ∧ q ∈ s.startRetrain.mcQueue c) :=
  ⟨⟨at5 (pk .s 0x2403 ([])), 5, pk .s 0x2403 ([]), by decide +kernel⟩,
   ⟨{ z with mc := { z.mc with retrain := some (0, 1) } }, 0, 0, 1, by decide +kernel⟩,
   ⟨({ z with mc := { z.mc with retrain := some (0, 1) } } : State).setFld F.MC_CFG_RATE 2, 0x8000, 0, 1, 15, by decide +kernel⟩,
   ⟨z.setMcQueue 15 [⟨⟨.med, true, .be⟩, .be, 0, dramBase, none⟩], 15, ⟨⟨.med, true, .be⟩, .be, 0, dramBase, none⟩, by decide +kernel⟩⟩

theorem witness_ScrubGivesZeroDataAndTheNewInk :
    (∃ (s : State) (k : Nat) (p : Started), s.Canonical ∧ s.opAt k 0x2400 = some p ∧ p.progress = 0 ∧ p.p32 8 ≠ 0 ∧ (p.p64 0) % 4096 = 0 ∧ dramBase ≤ (p.p64 0) ∧ ((p.p64 0) + 4096 * p.p32 8) ≤ dramBase + s.usable ∧ s.mirrorList = [] ∧ s.scrubStop (p.p64 0) ((p.p64 0) + 4096 * p.p32 8) = ((p.p64 0) + 4096 * p.p32 8) ∧ s.sideBadIn (p.p64 0) ((p.p64 0) + 4096 * p.p32 8) = none ∧ RunMap.allIn s.mc.inks (wordNo (p.p64 0)) (wordNo ((p.p64 0) + 4096 * p.p32 8)) (fun old => scrubAllowed p.ring old (p.p8 12)) = true) ∧
    (∃ (s : State) (k : Nat) (p : Started), s.opAt k 0x2400 = some p ∧ p.progress = 0 ∧ p.p32 8 ≠ 0 ∧ dramBase ≤ (p.p64 0) ∧ ((p.p64 0) + 4096 * p.p32 8) ≤ dramBase + s.usable ∧ s.mirrorList = [] ∧ s.scrubStop (p.p64 0) ((p.p64 0) + 4096 * p.p32 8) = ((p.p64 0) + 4096 * p.p32 8) ∧ s.sideBadIn (p.p64 0) ((p.p64 0) + 4096 * p.p32 8) = none ∧ RunMap.allIn s.mc.inks (wordNo (p.p64 0)) (wordNo ((p.p64 0) + 4096 * p.p32 8)) (fun old => scrubAllowed p.ring old (p.p8 12)) = false) :=
  ⟨⟨at5 (pk .s 0x2400 (leBytes 8 dramBase ++ leBytes 4 1 ++ [7])) (dram), 5, pk .s 0x2400 (leBytes 8 dramBase ++ leBytes 4 1 ++ [7]), ⟨⟨by decide +kernel, by decide +kernel, by decide +kernel⟩, by decide +kernel⟩⟩,
   ⟨at5 (pk .med 0x2400 (leBytes 8 dramBase ++ leBytes 4 1 ++ [1])) (dram), 5, pk .med 0x2400 (leBytes 8 dramBase ++ leBytes 4 1 ++ [1]), by decide +kernel⟩⟩

theorem witness_ScrubIssuersFollowTheInkTable :
    ∃ (old : Nat) (new : Nat), old < 8 ∧ new < 8 :=
  ⟨7, 7, by decide +kernel⟩

theorem witness_SlotTablesSwapAfterTheRebuild :
    (∃ (s : State) (k : Nat) (p : Started), s.opAt k 0x2401 = some p ∧ p.p8 0 < 4 ∧ p.p8 1 ≤ 16 ∧ p.p8 2 ≤ 32 ∧ s.fld F.MC_SLOT_CFG_ISO_DISP (p.p8 0) + p.p8 2 ≤ 32) ∧
    (∃ (s : State) (k : Nat) (p : Started), s.opAt k 0x2401 = some p ∧ 32 < s.fld F.MC_SLOT_CFG_ISO_DISP (p.p8 0) + p.p8 2) ∧
    (∃ (s : State) (g : Nat) (x : Nat × Nat), g < 4 ∧ SMap.get (fun _ => none) s.mc.shadow g = some x) ∧
    (∃ (s : State) (k : Nat) (p : Started), s.opAt k 0x2404 = some p ∧ p.p8 0 = 0) ∧
    (∃ (s : State) (k : Nat) (p : Started), s.opAt k 0x2404 = some p ∧ p.p8 0 = 1) ∧
    (∃ (s : State) (k : Nat) (p : Started), s.opAt k 0x2404 = some p ∧ p.p8 0 = 2) :=
  ⟨⟨at5 (pk .s 0x2401 ([3, 16, 32])), 5, pk .s 0x2401 ([3, 16, 32]), by decide +kernel⟩,
   ⟨at5 (pk .s 0x2401 ([3, 16, 33])), 5, pk .s 0x2401 ([3, 16, 33]), by decide +kernel⟩,
   ⟨{ z with mc := { z.mc with shadow := [(3, some (16, 32))] } }, 3, (16, 32), by decide +kernel⟩,
   ⟨at5 (pk .s 0x2404 ([0, 3])), 5, pk .s 0x2404 ([0, 3]), by decide +kernel⟩,
   ⟨at5 (pk .s 0x2404 ([1, 3])), 5, pk .s 0x2404 ([1, 3]), by decide +kernel⟩,
   ⟨at5 (pk .s 0x2404 ([2, 3])), 5, pk .s 0x2404 ([2, 3]), by decide +kernel⟩⟩

theorem witness_SlotTableHasItsCounts :
    ∃ (safe : Nat) (iso : Nat), safe ≤ 16 ∧ iso ≤ 32 :=
  ⟨16, 32, by decide +kernel⟩

theorem witness_MirrorsEstablishCopyAndRelease :
    (∃ (s : State) (k : Nat) (p : Started), s.opAt k 0x2402 = some p ∧ p.p8 1 = 0 ∧ p.p8 0 < 8 ∧ p.p8 2 < 4 ∧ dramBase ≤ (p.p64 8) ∧ (p.p64 8) < dramBase + s.usable ∧ s.groupOff (p.p64 8) + (p.p32 16 * 0x200000) ≤ s.usable / 4 ∧ s.groupOf (p.p64 8) ≠ p.p8 2 ∧ s.mirrorList = [] ∧ s.mirror (p.p8 0) = none ∧ RunMap.allIn s.mc.inks (wordNo (dramBase + p.p8 2 * (s.usable / 4) + s.groupOff (p.p64 8))) (wordNo ((dramBase + p.p8 2 * (s.usable / 4) + s.groupOff (p.p64 8)) + (p.p32 16 * 0x200000))) (fun i => i == 0) = true) ∧
    (∃ (s : State) (k : Nat) (p : Started) (x : Mirror), s.opAt k 0x2402 = some p ∧ p.p8 1 = 1 ∧ s.mirror (p.p8 0) = some x) ∧
    (∃ (s : State) (m : Nat) (x : Mirror), s.mirror m = some x ∧ s.fld F.MC_MIRROR_STATE m = 1 ∧ x.releasing = false) ∧
    (∃ (s : State) (m : Nat) (x : Mirror), s.mirror m = some x ∧ x.releasing = true) :=
  ⟨⟨at5 (pk .s 0x2402 ([7, 0, 3] ++ List.replicate 5 0 ++ leBytes 8 dramBase ++ leBytes 4 1)) (dram), 5, pk .s 0x2402 ([7, 0, 3] ++ List.replicate 5 0 ++ leBytes 8 dramBase ++ leBytes 4 1), by decide +kernel⟩,
   ⟨at5 (pk .s 0x2402 ([7, 1])) (({ dram with mc := { dram.mc with mirrors := [(7, some ⟨dramBase, dramBase + 0x180000000, 0x200000, false⟩)] } } : State)), 5, pk .s 0x2402 ([7, 1]), ⟨dramBase, dramBase + 0x180000000, 0x200000, false⟩, by decide +kernel⟩,
   ⟨({ dram with mc := { dram.mc with mirrors := [(7, some ⟨dramBase, dramBase + 0x180000000, 0x200000, false⟩)] } } : State).setFld F.MC_MIRROR_STATE 1 7, 7, ⟨dramBase, dramBase + 0x180000000, 0x200000, false⟩, by decide +kernel⟩,
   ⟨({ dram with mc := { dram.mc with mirrors := [(7, some ⟨dramBase, dramBase + 0x180000000, 0x200000, true⟩)] } } : State), 7, ⟨dramBase, dramBase + 0x180000000, 0x200000, true⟩, by decide +kernel⟩⟩

theorem witness_MirrorCopyEqualsItsPrimary :
    (∃ (s : State) (src : Nat) (dst : Nat) (n : Nat) (i : Nat), src % 32 = 0 ∧ dst % 32 = 0 ∧ n % 32 = 0 ∧ 0 < n ∧ (src + n ≤ dst ∨ dst + n ≤ src) ∧ s.Canonical ∧ i < n) ∧
    (∃ (s : State) (src : Nat) (dst : Nat) (n : Nat) (a : Nat), src % 32 = 0 ∧ dst % 32 = 0 ∧ n % 32 = 0 ∧ 0 < n ∧ (src + n ≤ dst ∨ dst + n ≤ src) ∧ s.Canonical ∧ (a < dst ∨ dst + n ≤ a)) :=
  ⟨⟨dram, dramBase, dramBase + 32, 32, 31, ⟨by decide +kernel, by decide +kernel, by decide +kernel, by decide +kernel, by decide +kernel, ⟨by decide +kernel, by decide +kernel, by decide +kernel⟩, by decide +kernel⟩⟩,
   ⟨dram, dramBase, dramBase + 32, 32, dramBase + 64, ⟨by decide +kernel, by decide +kernel, by decide +kernel, by decide +kernel, by decide +kernel, ⟨by decide +kernel, by decide +kernel, by decide +kernel⟩, by decide +kernel⟩⟩⟩

theorem witness_PairsCommitDiscardAndTakeOver :
    (∃ (s : State), s.pairRuns = true) ∧
    (∃ (s : State) (c : Nat), s.wld.switching = some c ∧ s.cyc - c < 2 ^ 16) :=
  ⟨⟨{ z with flt := { z.flt with poresetHi := true } }, by decide +kernel⟩,
   ⟨{ z with cyc := 65535, wld := { z.wld with switching := some 0 } }, 0, by decide +kernel⟩⟩

theorem witness_InterruptsStayInTheirBands :
    (∃ (j : Nat), j < 16) ∧
    (∃ (who : Who), who ≠ .s) ∧
    (∃ (s : State) (v : Word), s.bandS (bitsOf v 8 0) = true ∧ s.levelHolds (bitsOf v 8 0) = false) ∧
    (∃ (s : State) (n : Nat), s.pairRuns = true ∧ s.topSource = some n) ∧
    (∃ (s : State) (src : Nat), src < 512 ∧ s.isPend src = true ∧ s.bandS src = false) :=
  ⟨⟨15, by decide +kernel⟩,
   ⟨.fw, by decide +kernel⟩,
   ⟨z, 1, by decide +kernel⟩,
   ⟨(({ z with flt := { z.flt with poresetHi := true } } : State).raise 1).setRg (Reg.INT_SPRIO 0) 0x10, 1, by decide +kernel⟩,
   ⟨z.raise 400, 400, by decide +kernel⟩⟩

theorem witness_StopShowsTheHighestPrioritySource :
    ∃ (s : State) (n : Nat) (m : Nat), s.topSource = some n ∧ m < 512 ∧ s.isPend m = true ∧ s.bandS m = true ∧ m < n :=
  ⟨((z.raise 1).raise 2).setRg (Reg.INT_SPRIO 0) 0x210, 2, 1, by decide +kernel⟩

theorem witness_OwnerWriteEmptiesTheMailbox :
    ∃ (s : State) (who : Who) (m : Nat), m < 16 ∧ s.mayRwm who = true :=
  ⟨z, .med, 15, by decide +kernel⟩

theorem witness_DoorbellPostsOneMessage :
    (∃ (s : State) (who : Who) (m : Nat) (v : Word), m < 16 ∧ s.mbxOwner who m = true ∧ s.flag F.INT_MBX_SCTRL_ENABLE m = true ∧ s.flag F.INT_MBX_STAT_N2S_FULL m = false ∧ bitsOf v 8 0 ≤ 256) ∧
    (∃ (s : State) (who : Who) (m : Nat) (v : Word), m < 16 ∧ s.mbxOwner who m = true ∧ (s.flag F.INT_MBX_SCTRL_ENABLE m = false ∨ s.flag F.INT_MBX_STAT_N2S_FULL m = true ∨ 256 < bitsOf v 8 0)) ∧
    (∃ (s : State) (who : Who) (m : Nat) (off : Nat), who ≠ .s ∧ s.flag F.INT_MBX_STAT_N2S_FULL m = true ∧ off < 256) :=
  ⟨⟨(z.setFld F.INT_MBX_SCTRL_ENABLE 1 15), .med, 15, 256, by decide +kernel⟩,
   ⟨(z.setFld F.INT_MBX_SCTRL_ENABLE 1 15), .med, 15, 257, by decide +kernel⟩,
   ⟨z.setFld F.INT_MBX_STAT_N2S_FULL 1 15, .med, 15, 252, by decide +kernel⟩⟩

theorem witness_MailboxesCarryMessagesAndReplies :
    (∃ (s : State) (who : Who) (m : Nat) (off : Nat), m < 16 ∧ off % 4 = 0 ∧ ((off < 256 ∧ s.mbxOwner who m = true ∧ s.flag F.INT_MBX_STAT_N2S_FULL m = false) ∨ (256 ≤ off ∧ off < 512 ∧ who = .s))) ∧
    (∃ (m : Nat) (v : Word), m < 16 ∧ v.getLsbD 30 = true ∧ v.getLsbD 29 = false) ∧
    (∃ (s : State) (m : Nat) (v : Word), m < 16 ∧ v.getLsbD 29 = true ∧ s.flag F.INT_MBX_STAT_S2N_FULL m = false ∧ bitsOf v 24 16 ≤ 256) ∧
    (∃ (who : Who), who ≠ .s) :=
  ⟨⟨z, .s, 15, 508, by decide +kernel⟩,
   ⟨15, 0x40000000, by decide +kernel⟩,
   ⟨z, 15, 0x21000000, by decide +kernel⟩,
   ⟨.med, by decide +kernel⟩⟩

theorem witness_DoorbellsMoveTheirIndexes :
    (∃ (s : State) (who : Who) (r : RingId) (v : Word), doorOwner who r = true ∧ (s.ring r).enabled = true ∧ (s.ring r).draining = false ∧ doorIndex v < 2 ^ (s.ring r).sqLog) ∧
    (∃ (s : State) (who : Who) (r : RingId) (v : Word), doorOwner who r = true ∧ (s.ring r).enabled = true ∧ headReaches (s.ring r).cqHead (s.ring r).cqTail (s.ring r).cqLog (doorIndex v) = true ∧ (s.ring r).stalled = [] ∧ (s.ring r).haltOwed = none) ∧
    (∃ (s : State) (who : Who) (r : RingId) (v : Word), doorOwner who r = true ∧ (s.ring r).enabled = true ∧ headReaches (s.ring r).eqHead (s.ring r).eqTail (s.ring r).eqLog (doorIndex v) = true ∧ (s.ring r).lost = 0) ∧
    (∃ (s : State) (who : Who) (r : RingId) (v : Word), doorOwner who r = true ∧ (s.ring r).enabled = true ∧ (s.ring r).halted = true ∧ doorIndex v < 2 ^ (s.ring r).sqLog) ∧
    (∃ (who : Who) (r : RingId), doorOwner who r = false) ∧
    (∃ (s : State) (who : Who) (r : RingId) (v : Word), doorOwner who r = true ∧ ((s.ring r).enabled = false ∨ 2 ^ (s.ring r).sqLog ≤ doorIndex v)) :=
  ⟨⟨z.setRing (.client 4095) ringOn, .client 4095, .client 4095, 63, by decide +kernel⟩,
   ⟨z.setRing .med { ringOn with cqTail := 15, cqHead := 3 }, .med, .med, 15, by decide +kernel⟩,
   ⟨z.setRing .med { ringOn with eqTail := 3, eqHead := 15 }, .med, .med, 3, by decide +kernel⟩,
   ⟨z.setRing .s { ringOn with halted := true }, .s, .s, 63, by decide +kernel⟩,
   ⟨.fw, .s, by decide +kernel⟩,
   ⟨z.setRing .s ringOn, .s, .s, 64, by decide +kernel⟩⟩

theorem witness_PacketsStartWaitOrAreRefused :
    (∃ (s : State) (s1 : State) (s2 : State) (r : RingId) (head : List Byte) (raw : List Byte) (st : Nat) (r0 : Nat), s.headReady r = true ∧ s.dmaRead (ringWho r) ((s.ring r).sqAddr (s.ring r).sqHead) 64 = (.ok head, s1) ∧ 1 ≤ (leAt head 2 1) ∧ (leAt head 2 1) ≤ 64 ∧ (leAt head 2 1) ≤ (s.ring r).sqCount ∧ (s.ring r).canReserve = true ∧ s1.mayStart r = true ∧ s1.outranked r = false ∧ State.readEntries r (s.ring r) (leAt head 2 1) (s.ring r).sqHead [] s1 = (.ok raw, s2) ∧ (s2.reserve r).refusal r raw (parsePacket raw (s.ring r).sqHead) = some (st, r0)) ∧
    (∃ (s : State) (s1 : State) (s2 : State) (r : RingId) (head : List Byte) (raw : List Byte) (s3 : State), s.headReady r = true ∧ s.dmaRead (ringWho r) ((s.ring r).sqAddr (s.ring r).sqHead) 64 = (.ok head, s1) ∧ 1 ≤ (leAt head 2 1) ∧ (leAt head 2 1) ≤ 64 ∧ (leAt head 2 1) ≤ (s.ring r).sqCount ∧ (s.ring r).canReserve = true ∧ s1.mayStart r = true ∧ s1.outranked r = false ∧ State.readEntries r (s.ring r) (leAt head 2 1) (s.ring r).sqHead [] s1 = (.ok raw, s2) ∧ (s2.reserve r).refusal r raw (parsePacket raw (s.ring r).sqHead) = none ∧ (s2.reserve r).waitHolds r (parsePacket raw (s.ring r).sqHead) = (.ok true, s3) ∧ s3.mayStart r = true) ∧
    (∃ (s : State) (s1 : State) (s2 : State) (r : RingId) (head : List Byte) (raw : List Byte) (s3 : State), s.headReady r = true ∧ s.dmaRead (ringWho r) ((s.ring r).sqAddr (s.ring r).sqHead) 64 = (.ok head, s1) ∧ 1 ≤ (leAt head 2 1) ∧ (leAt head 2 1) ≤ 64 ∧ (leAt head 2 1) ≤ (s.ring r).sqCount ∧ (s.ring r).canReserve = true ∧ s1.mayStart r = true ∧ s1.outranked r = false ∧ State.readEntries r (s.ring r) (leAt head 2 1) (s.ring r).sqHead [] s1 = (.ok raw, s2) ∧ (s2.reserve r).refusal r raw (parsePacket raw (s.ring r).sqHead) = none ∧ (s2.reserve r).waitHolds r (parsePacket raw (s.ring r).sqHead) = (.ok false, s3)) ∧
    (∃ (s : State) (s1 : State) (r : RingId) (head : List Byte), s.headReady r = true ∧ s.dmaRead (ringWho r) ((s.ring r).sqAddr (s.ring r).sqHead) 64 = (.ok head, s1) ∧ (leAt head 2 1 = 0 ∨ 64 < leAt head 2 1) ∧ (s.ring r).canReserve = true) :=
  ⟨⟨((z.setRing .s { ringOn with sqTail := 1 }).putBytes 0x1000000 (hd 0xFFFF 1 0 0 0)), (((z.setRing .s { ringOn with sqTail := 1 }).putBytes 0x1000000 (hd 0xFFFF 1 0 0 0)).dmaRead .s 0x1000000 64).2, (((z.setRing .s { ringOn with sqTail := 1 }).putBytes 0x1000000 (hd 0xFFFF 1 0 0 0)).dmaRead .s 0x1000000 64).2, .s, hd 0xFFFF 1 0 0 0, hd 0xFFFF 1 0 0 0, St.badOpcode, beforeP 0, ⟨by decide +kernel, ok_of (by decide +kernel), by decide +kernel, by decide +kernel, by decide +kernel, by decide +kernel, by decide +kernel, by decide +kernel, ok_of (by decide +kernel), by decide +kernel⟩⟩,
   ⟨((z.setRing .s { ringOn with sqTail := 1 }).putBytes 0x1000000 (hd 0 1 0 0 0)), (((z.setRing .s { ringOn with sqTail := 1 }).putBytes 0x1000000 (hd 0 1 0 0 0)).dmaRead .s 0x1000000 64).2, (((z.setRing .s { ringOn with sqTail := 1 }).putBytes 0x1000000 (hd 0 1 0 0 0)).dmaRead .s 0x1000000 64).2, .s, hd 0 1 0 0 0, hd 0 1 0 0 0, ((((z.setRing .s { ringOn with sqTail := 1 }).putBytes 0x1000000 (hd 0 1 0 0 0)).dmaRead .s 0x1000000 64).2.reserve .s), ⟨by decide +kernel, ok_of (by decide +kernel), by decide +kernel, by decide +kernel, by decide +kernel, by decide +kernel, by decide +kernel, by decide +kernel, ok_of (by decide +kernel), by decide +kernel, ok_of (by decide +kernel), by decide +kernel⟩⟩,
   ⟨((z.setRing .s { ringOn with sqTail := 1 }).putBytes 0x1000000 (hd 0 1 1 0x1003000 1)), (((z.setRing .s { ringOn with sqTail := 1 }).putBytes 0x1000000 (hd 0 1 1 0x1003000 1)).dmaRead .s 0x1000000 64).2, (((z.setRing .s { ringOn with sqTail := 1 }).putBytes 0x1000000 (hd 0 1 1 0x1003000 1)).dmaRead .s 0x1000000 64).2, .s, hd 0 1 1 0x1003000 1, hd 0 1 1 0x1003000 1, ((((z.setRing .s { ringOn with sqTail := 1 }).putBytes 0x1000000 (hd 0 1 1 0x1003000 1)).dmaRead .s 0x1000000 64).2.reserve .s), ⟨by decide +kernel, ok_of (by decide +kernel), by decide +kernel, by decide +kernel, by decide +kernel, by decide +kernel, by decide +kernel, by decide +kernel, ok_of (by decide +kernel), by decide +kernel, ok_of (by decide +kernel)⟩⟩,
   ⟨((z.setRing .s { ringOn with sqTail := 1 }).putBytes 0x1000000 (hd 0 65 0 0 0)), (((z.setRing .s { ringOn with sqTail := 1 }).putBytes 0x1000000 (hd 0 65 0 0 0)).dmaRead .s 0x1000000 64).2, .s, hd 0 65 0 0 0, ⟨by decide +kernel, ok_of (by decide +kernel), by decide +kernel, by decide +kernel⟩⟩⟩

theorem witness_ChecksRefuseInTheirOrder :
    (∃ (raw : List Byte) (p : Packet), bit p.flags 4 = true ∧ crc32c (zeroed raw 12 4) ≠ leAt raw 12 4) ∧
    (∃ (p : Packet), bit p.flags 4 = false ∧ 32 ≤ p.flags) ∧
    (∃ (p : Packet), bit p.flags 4 = false ∧ p.flags < 32 ∧ opSpec p.opcode = none) ∧
    (∃ (p : Packet) (o : OpSpec), bit p.flags 4 = false ∧ p.flags < 32 ∧ opSpec p.opcode = some o ∧ bit p.flags 3 = true ∧ o.lock = false) ∧
    (∃ (r : RingId) (p : Packet) (o : OpSpec), bit p.flags 4 = false ∧ p.flags < 32 ∧ opSpec p.opcode = some o ∧ (bit p.flags 3 = false ∨ o.lock = true) ∧ p.client ≠ ringClient r) ∧
    (∃ (s : State) (r : RingId) (p : Packet) (o : OpSpec) (n : Nat), bit p.flags 4 = false ∧ p.flags < 32 ∧ opSpec p.opcode = some o ∧ (bit p.flags 3 = false ∨ o.lock = true) ∧ r = .client n ∧ p.client = n ∧ p.gen ≠ (s.client n).gen) ∧
    (∃ (s : State) (r : RingId) (p : Packet) (o : OpSpec) (n : Nat), bit p.flags 4 = false ∧ p.flags < 32 ∧ opSpec p.opcode = some o ∧ (bit p.flags 3 = false ∨ o.lock = true) ∧ r = .client n ∧ p.client = n ∧ p.gen = (s.client n).gen ∧ s.maySubmit r o p = false) :=
  ⟨⟨List.replicate 64 0, pf .s 0 16, by decide +kernel⟩,
   ⟨pf .s 0 32, by decide +kernel⟩,
   ⟨pf .s 0xFFFF 0, by decide +kernel⟩,
   ⟨pf .s 0 8, (opSpec 0).get (by decide +kernel), by decide +kernel⟩,
   ⟨.s, pf (.client 4095) 0 0, (opSpec 0).get (by decide +kernel), by decide +kernel⟩,
   ⟨z, .client 4095, pf (.client 4095) 0 0, (opSpec 0).get (by decide +kernel), 4095, by decide +kernel⟩,
   ⟨z, .client 4095, { pf (.client 4095) 0x2400 0 with gen := 1 }, (opSpec 0x2400).get (by decide +kernel), 4095, by decide +kernel⟩⟩

theorem witness_FencesReleaseOrTimeOut :
    (∃ (s : State) (s1 : State) (r : RingId) (p : Packet) (since : Nat), (s.ring r).wait = some (p, since) ∧ s.waitHolds r p = (.ok true, s1) ∧ s1.mayStart r = true) ∧
    (∃ (s : State) (s1 : State) (r : RingId) (p : Packet) (since : Nat), (s.ring r).wait = some (p, since) ∧ s.waitHolds r p = (.ok false, s1) ∧ s.passed since ((if (s.ring r).fenceTmo = 0 then 100 else (s.ring r).fenceTmo) * 1000000) = true) ∧
    (∃ (s : State) (r : RingId) (p : Packet) (since : Nat), (s.ring r).wait = some (p, since) ∧ s.passed since ((if (s.ring r).fenceTmo = 0 then 100 else (s.ring r).fenceTmo) * 1000000) = false) :=
  ⟨⟨z.setRing .s { ringOn with fenceTmo := 60000, wait := some (pf .s 0 0, 0) }, z.setRing .s { ringOn with fenceTmo := 60000, wait := some (pf .s 0 0, 0) }, .s, pf .s 0 0, 0, ⟨by decide +kernel, ok_of (by decide +kernel), by decide +kernel⟩⟩,
   ⟨{ at5 (pk .s 0) (z.setRing .s { ringOn with fenceTmo := 60000, wait := some (pf .s 0 1, 0) }) with cyc := nsCycles 60000000000 }, { at5 (pk .s 0) (z.setRing .s { ringOn with fenceTmo := 60000, wait := some (pf .s 0 1, 0) }) with cyc := nsCycles 60000000000 }, .s, pf .s 0 1, 0, ⟨by decide +kernel, ok_of (by decide +kernel), by decide +kernel⟩⟩,
   ⟨{ (z.setRing .s { ringOn with fenceTmo := 60000, wait := some (pf .s 0 0, 0) }) with cyc := nsCycles 60000000000 - 1 }, .s, pf .s 0 0, 0, by decide +kernel⟩⟩

theorem witness_CompletionFollowsTheSignal :
    (∃ (s : State) (k : Nat) (p : Started) (x : Result), s.place k = some p ∧ p.result = some x ∧ p.held = false ∧ bit p.pkt.flags 1 = false ∧ bit p.pkt.flags 2 = false) ∧
    (∃ (s : State) (s1 : State) (k : Nat) (p : Started) (x : Result), s.place k = some p ∧ p.result = some x ∧ p.held = false ∧ bit p.pkt.flags 1 = true ∧ bit p.pkt.flags 2 = false ∧ ((p.finalResult x).status = St.ok ∨ (p.finalResult x).status = St.restarted ∨ (p.finalResult x).status = St.deferred) ∧ (s.setPlace k none).dmaWrite (ringWho p.ring) p.pkt.sigAddr (leBytes 8 p.pkt.sigValue) = (none, s1)) ∧
    (∃ (s : State) (k : Nat) (p : Started) (x : Result), s.place k = some p ∧ p.result = some x ∧ p.held = false ∧ bit p.pkt.flags 1 = false ∧ bit p.pkt.flags 2 = true ∧ ((p.finalResult x).status = St.ok ∨ (p.finalResult x).status = St.restarted)) :=
  ⟨⟨at5 ({ pk .s 0 with result := some ⟨0, 0, 0, 0, 0⟩, pkt := { pf .s 0 0 with sigAddr := 0x1003000, sigValue := 1 } }), 5, { pk .s 0 with result := some ⟨0, 0, 0, 0, 0⟩, pkt := { pf .s 0 0 with sigAddr := 0x1003000, sigValue := 1 } }, ⟨0, 0, 0, 0, 0⟩, by decide +kernel⟩,
   ⟨at5 ({ pk .s 0 with result := some ⟨0, 0, 0, 0, 0⟩, pkt := { pf .s 0 2 with sigAddr := 0x1003000, sigValue := 1 } }), (((at5 ({ pk .s 0 with result := some ⟨0, 0, 0, 0, 0⟩, pkt := { pf .s 0 2 with sigAddr := 0x1003000, sigValue := 1 } })).setPlace 5 none).dmaWrite .s 0x1003000 (leBytes 8 1)).2, 5, { pk .s 0 with result := some ⟨0, 0, 0, 0, 0⟩, pkt := { pf .s 0 2 with sigAddr := 0x1003000, sigValue := 1 } }, ⟨0, 0, 0, 0, 0⟩, ⟨by decide +kernel, by decide +kernel, by decide +kernel, by decide +kernel, by decide +kernel, by decide +kernel, none_of (by decide +kernel)⟩⟩,
   ⟨at5 ({ pk .s 0 with result := some ⟨0, 0, 0, 0, 0⟩, pkt := { pf .s 0 4 with sigAddr := 0x1003000, sigValue := 1 } }), 5, { pk .s 0 with result := some ⟨0, 0, 0, 0, 0⟩, pkt := { pf .s 0 4 with sigAddr := 0x1003000, sigValue := 1 } }, ⟨0, 0, 0, 0, 0⟩, by decide +kernel⟩⟩

theorem witness_CompletionEntryAdvancesTheTail :
    ∃ (s : State) (s1 : State) (r : RingId) (p : Packet) (x : Result), (s.ring r).stalled = [] ∧ s.dmaWrite (ringWho r) ((s.ring r).cqBase + 32 * (s.ring r).cqTail) (completionBytes p x (((s.ring r).cqPass + 1) % 2)) = (none, s1) :=
  ⟨z.setRing .s ringOn, ((z.setRing .s ringOn).dmaWrite .s 0x1001000 (completionBytes (pf .s 0 0) ⟨0, 0, 0, 0, 0⟩ 1)).2, .s, pf .s 0 0, ⟨0, 0, 0, 0, 0⟩, ⟨by decide +kernel, none_of (by decide +kernel)⟩⟩

theorem witness_CompletionEntryHoldsItsFields :
    ∃ (p : Packet) (x : Result) (phase : Nat), p.tag < 2 ^ 32 ∧ x.status < 2 ^ 16 ∧ p.client < 4096 ∧ phase < 2 ∧ p.gen < 2 ^ 16 ∧ p.opcode < 2 ^ 16 ∧ x.r0 < 2 ^ 32 ∧ x.r1 < 2 ^ 32 ∧ x.r2 < 2 ^ 32 ∧ x.r3 < 2 ^ 32 :=
  ⟨{ pf (.client 4095) 0xFFFF 0 with gen := 0xFFFF, tag := 2 ^ 32 - 1 }, ⟨0xFFFF, 2 ^ 32 - 1, 1, 2, 3⟩, 1, by decide +kernel⟩

theorem witness_DeviceOperationsAnswer :
    (∃ (s : State) (k : Nat) (p : Started), s.opAt k 0x0000 = some p) ∧
    (∃ (s : State) (k : Nat) (p : Started), s.opAt k 0x0005 = some p) ∧
    (∃ (s : State) (k : Nat) (p : Started), s.opAt k 0x0003 = some p) ∧
    (∃ (s : State) (k : Nat) (p : Started), s.opAt k 0x0004 = some p) ∧
    (∃ (s : State) (n : Nat), s.cp.waiting = [n] ∧ s.cp.resident.length < 128) :=
  ⟨⟨at5 (pk .s 0x0000 ([])), 5, pk .s 0x0000 ([]), by decide +kernel⟩,
   ⟨at5 (pk .s 0x0005 ([])), 5, pk .s 0x0005 ([]), by decide +kernel⟩,
   ⟨at5 (pk .s 0x0003 ([])), 5, pk .s 0x0003 ([]), by decide +kernel⟩,
   ⟨at5 (pk .s 0x0004 ([])), 5, pk .s 0x0004 ([]), by decide +kernel⟩,
   ⟨{ z with cp := { z.cp with waiting := [4095], resident := List.range 127 } }, 4095, by decide +kernel⟩⟩

theorem witness_EndedOperationHoldsItsCompletion :
    ∃ (s : State) (k : Nat) (p : Started) (j : Nat), s.place k = some p ∧ j ≠ k :=
  ⟨at5 (pk .s 0), 5, pk .s 0, 6, by decide +kernel⟩

theorem witness_RingSetsComeAndGo :
    (∃ (s : State) (k : Nat) (p : Started), s.opAt k 0x0001 = some p ∧ p.p16 0 < 4096 ∧ ¬ (p.ring = .med ∧ s.isSGuest (p.p16 0) = true) ∧ (s.ring (.client (p.p16 0))).enabled = false) ∧
    (∃ (s : State) (k : Nat) (p : Started), s.opAt k 0x0002 = some p ∧ p.progress = 0 ∧ (s.client (p.p16 0)).resetting = false ∧ (s.ring (.client (p.p16 0))).draining = false ∧ (s.ring (.client (p.p16 0))).enabled = false) ∧
    (∃ (s : State) (k : Nat) (p : Started), s.opAt k 0x0002 = some p ∧ p.progress = 0 ∧ (s.client (p.p16 0)).resetting = false ∧ (s.ring (.client (p.p16 0))).draining = false ∧ (s.ring (.client (p.p16 0))).enabled = true) ∧
    (∃ (s : State) (n : Nat) (k : Nat) (p : Started), (s.ring (.client n)).enabled = true ∧ (s.ring (.client n)).draining = true ∧ (s.ring (.client n)).stalled = [] ∧ s.inExec (.client n) = 0 ∧ (s.ring (.client n)).disableBy = some k ∧ s.place k = some p) ∧
    (∃ (s : State) (who : Who) (p : Nat) (v : Word), p < 2 ∧ s.fw.recovery = false ∧ s.pringWriter who p = true ∧ (s.rg (pringReg p 0)).getLsbD 31 = false ∧ (s.ring (pringId p)).enabled = false ∧ v.getLsbD 31 = true ∧ pringValid v = true) ∧
    (∃ (s : State) (who : Who) (p : Nat) (v : Word), s.pringWriter who p = true ∧ (s.rg (pringReg p 0)).getLsbD 31 = true ∧ v.getLsbD 31 = false) :=
  ⟨⟨at5 (pk .med 0x0001 (leBytes 2 4095)), 5, pk .med 0x0001 (leBytes 2 4095), by decide +kernel⟩,
   ⟨at5 (pk .s 0x0002 (leBytes 2 4095)), 5, pk .s 0x0002 (leBytes 2 4095), by decide +kernel⟩,
   ⟨at5 (pk .s 0x0002 (leBytes 2 4095)) (z.setRing (.client 4095) ringOn), 5, pk .s 0x0002 (leBytes 2 4095), by decide +kernel⟩,
   ⟨at5 (pk .med 2 ([])) (z.setRing (.client 4095) { ringOn with draining := true, disableBy := some 5 }), 4095, 5, pk .med 2 ([]), by decide +kernel⟩,
   ⟨z, .med, 1, BitVec.ofNat 32 (2 ^ 31 + 12 * 2 ^ 27 + 16 * 2 ^ 22 + 16 * 2 ^ 17 + 60000), by decide +kernel⟩,
   ⟨z.setRg (pringReg 1 0) 0x80000000, .med, 1, 0, by decide +kernel⟩⟩

theorem witness_TranslationFollowsItsBindings :
    (∃ (s : State) (k : Nat) (p : Started), s.opAt k 0x0400 = some p) ∧
    (∃ (s : State) (k : Nat) (p : Started), s.opAt k 0x0404 = some p) ∧
    (∃ (s : State) (k : Nat) (p : Started), s.opAt k 0x0405 = some p ∧ (s.client (p.p16 0 % 4096)).resetting = false) ∧
    (∃ (s : State) (k : Nat) (p : Started), s.opAt k 0x0406 = some p) :=
  ⟨⟨at5 (pk .s 0x0400 ([])), 5, pk .s 0x0400 ([]), by decide +kernel⟩,
   ⟨at5 (pk .s 0x0404 ([])), 5, pk .s 0x0404 ([]), by decide +kernel⟩,
   ⟨at5 (pk .s 0x0405 (leBytes 2 4095)), 5, pk .s 0x0405 (leBytes 2 4095), by decide +kernel⟩,
   ⟨at5 (pk .s 0x0406 ([])), 5, pk .s 0x0406 ([]), by decide +kernel⟩⟩

theorem witness_SharesAndGrantsFollowTheirQuotas :
    (∃ (s : State) (k : Nat) (p : Started), s.opAt k 0x0402 = some p ∧ p.progress = 0 ∧ s.overCommit p (p.p16 0 % 4096) = none ∧ (bit (p.p8 2) 0 = true ∨ s.underHeld p (p.p16 0 % 4096) = none)) ∧
    (∃ (s : State) (k : Nat) (off : Nat) (p : Started), s.opAt k 0x0402 = some p ∧ p.progress = 0 ∧ s.overCommit p (p.p16 0 % 4096) = some off) ∧
    (∃ (s : State), s.cl.clients.all (fun e => (s.client e.1).shares.isEmpty) = true ∧ s.cp.resident.length < 128) ∧
    (∃ (s : State) (k : Nat) (p : Started), s.opAt k 0x0403 = some p ∧ p.p8 3 = 0 ∧ p.p8 2 = 1 ∧ s.hasOutput (p.p16 6) (p.p16 0 % 4096) = false) ∧
    (∃ (s : State) (k : Nat) (p : Started), s.opAt k 0x0403 = some p ∧ p.p8 3 = 1 ∧ s.holds (p.p8 2) (p.p16 6) (p.p16 0 % 4096) = true) ∧
    (∃ (s : State) (i : Nat) (r : Removal), s.cl.removals[i]? = some r ∧ s.removalDue r = true) :=
  ⟨⟨at5 (pk .med 0x0402 (leBytes 2 4095)), 5, pk .med 0x0402 (leBytes 2 4095), by decide +kernel⟩,
   ⟨at5 (pk .med 0x0402 (leBytes 2 4095 ++ [0, 0, 0, 255, 255, 255, 255])), 5, 5, pk .med 0x0402 (leBytes 2 4095 ++ [0, 0, 0, 255, 255, 255, 255]), by decide +kernel⟩,
   ⟨z, by decide +kernel⟩,
   ⟨at5 (pk .med 0x0403 (leBytes 2 4095 ++ [1, 0, 0, 0, 7])), 5, pk .med 0x0403 (leBytes 2 4095 ++ [1, 0, 0, 0, 7]), by decide +kernel⟩,
   ⟨at5 (pk .med 0x0403 (leBytes 2 4095 ++ [1, 1, 0, 0, 7])) ({ z with cl := { z.cl with outputs := [(7, 4095)] } }), 5, pk .med 0x0403 (leBytes 2 4095 ++ [1, 1, 0, 0, 7]), by decide +kernel⟩,
   ⟨{ z with cl := { z.cl with removals := [⟨1, 7, 4095, 0, false, .med, none⟩] } }, 0, ⟨1, 7, 4095, 0, false, .med, none⟩, by decide +kernel⟩⟩

theorem witness_InstanceResetMovesTheGeneration :
    (∃ (g : Nat), g < 2 ^ 16 ∧ g < 0xFFFF) ∧
    (∃ (s : State) (k : Nat) (p : Started), s.opAt k 0x0401 = some p ∧ p.progress = 0 ∧ (s.client (p.p16 0 % 4096)).resetting = false ∧ (s.ring (.client (p.p16 0 % 4096))).enabled = true) ∧
    (∃ (s : State) (c : Nat), (s.client c).resetting = true ∧ (s.client c).resetBy = none ∧ s.oldWork c = false) :=
  ⟨⟨0xFFFE, by decide +kernel⟩,
   ⟨at5 (pk .s 0x0401 (leBytes 2 4095)) (z.setRing (.client 4095) ringOn), 5, pk .s 0x0401 (leBytes 2 4095), by decide +kernel⟩,
   ⟨z.setClient 4095 { Client.fresh with resetting := true }, 4095, by decide +kernel⟩⟩

theorem witness_PcieActsForItsClients :
    (∃ (s : State) (k : Nat) (p : Started), s.opAt k 0x0407 = some p ∧ bit (p.p8 1) 1 = false ∧ s.cl.pasids.any (fun m => m.client == (p.p16 2 % 4096) || (m.fn == p.p8 0 && m.pasid == (if bit (p.p8 1) 0 then none else some (p.p32 4)))) = false) ∧
    (∃ (s : State) (s1 : State) (fn : Nat) (pasid : Option Nat) (c : Nat) (a : Nat) (n : Nat) (l : List Byte), s.pcieOn = true ∧ s.flag F.PCIE_LINK_STAT_PERST = false ∧ s.safe = false ∧ s.pcieClient fn pasid = some c ∧ s.unitRead (.client c) a n = (.ok l, s1)) ∧
    (∃ (s : State) (s1 : State) (fn : Nat) (pasid : Option Nat) (c : Nat) (a : Nat) (l : List Byte), s.pcieOn = true ∧ s.flag F.PCIE_LINK_STAT_PERST = false ∧ s.safe = false ∧ s.pcieClient fn pasid = some c ∧ s.unitWrite (.client c) a l = (none, s1)) ∧
    (∃ (s : State) (fn : Nat) (pasid : Option Nat) (q : PcieReq), s.pcieOn = true ∧ s.flag F.PCIE_LINK_STAT_PERST = false ∧ (s.safe = true ∨ s.pcieClient fn pasid = none ∨ q = .ats)) ∧
    (∃ (s : State), s.pcieOn = true ∧ s.flag F.PCIE_LINK_STAT_PERST = false) ∧
    (∃ (s : State) (speed : Nat) (width : Nat) (vfs : Nat), s.pcieOn = true ∧ s.flag F.PCIE_LINK_STAT_PERST = false ∧ speed < 8 ∧ width < 32 ∧ vfs < 64) ∧
    (∃ (s : State), s.pcieOn = true) :=
  ⟨⟨at5 (pk .s 0x0407 ([63, 1, 0xFF, 0x0F])), 5, pk .s 0x0407 ([63, 1, 0xFF, 0x0F]), by decide +kernel⟩,
   ⟨pcie, ((pcie).unitRead (.client (4095)) (dramBase) (32)).2, 63, none, 4095, dramBase, 32, List.replicate 32 0, ⟨by decide +kernel, by decide +kernel, by decide +kernel, by decide +kernel, ok_of (by decide +kernel)⟩⟩,
   ⟨pcie, ((pcie).unitWrite (.client (4095)) (dramBase) ([1])).2, 63, none, 4095, dramBase, [1], ⟨by decide +kernel, by decide +kernel, by decide +kernel, by decide +kernel, none_of (by decide +kernel)⟩⟩,
   ⟨dramC, 63, none, .ats, by decide +kernel⟩,
   ⟨dramC, by decide +kernel⟩,
   ⟨dramC, 7, 31, 63, by decide +kernel⟩,
   ⟨z, by decide +kernel⟩⟩

theorem witness_LinksTrainAndFollowThePlug :
    (∃ (s : State) (n : Nat), s.gatedAt (Reg.DPTX_LINK n) = false ∧ s.flag F.DTG_CTRL_ENABLE n = false) ∧
    (∃ (s : State) (n : Nat) (a : Nat), (s.out n).training = some a ∧ n < 8) ∧
    (∃ (s : State) (n : Nat) (a : Nat), (s.out n).training = some a ∧ a < 2) ∧
    (∃ (s : State) (n : Nat) (a : Nat), (s.out n).training = some a ∧ 2 ≤ a) ∧
    (∃ (s : State) (n : Nat), s.flag F.DPTX_STAT_HPD n = true) ∧
    (∃ (s : State) (n : Nat), s.flag F.DPTX_STAT_HPD n = false) :=
  ⟨⟨z, 7, by decide +kernel⟩,
   ⟨z.setOut 7 { Output.idleOut with training := some 0 }, 7, 0, by decide +kernel⟩,
   ⟨z.setOut 7 { Output.idleOut with training := some 1 }, 7, 1, by decide +kernel⟩,
   ⟨z.setOut 7 { Output.idleOut with training := some 2 }, 7, 2, by decide +kernel⟩,
   ⟨z.setFld F.DPTX_STAT_HPD 1 7, 7, by decide +kernel⟩,
   ⟨z, 7, by decide +kernel⟩⟩

theorem witness_ShadowSetsArmByTheirRegisters :
    (∃ (s : State) (who : Who) (n : Nat), n < 8 ∧ s.gatedAt (Reg.DTG_APPLY n) = false ∧ s.mayRwm who = true) ∧
    (∃ (s : State) (who : Who) (l : Nat), l < 64 ∧ s.gatedAt (Reg.DPIPE_LCTRL l) = false ∧ s.mayRwm who = true) ∧
    (∃ (s : State) (who : Who) (n : Nat) (v : Word), s.gatedAt (Reg.DTG_CTRL n) = false ∧ s.mayRwm who = true ∧ v.getLsbD 31 = false) ∧
    (∃ (s : State) (who : Who) (n : Nat) (v : Word), s.gatedAt (Reg.DTG_CTRL n) = false ∧ s.mayRwm who = true ∧ v.getLsbD 31 = true) ∧
    (∃ (s : State) (who : Who) (n : Nat), s.mayRwm who = false ∧ s.gatedAt (Reg.DTG_APPLY n) = false) ∧
    (∃ (s : State) (who : Who) (n : Nat), s.mayRwm who = false ∧ s.gatedAt (Reg.DPIPE_LCTRL n) = false) ∧
    (∃ (s : State) (who : Who) (n : Nat), s.mayRwm who = false ∧ s.gatedAt (Reg.DTG_CTRL n) = false) :=
  ⟨⟨z, .med, 7, by decide +kernel⟩,
   ⟨z, .med, 63, by decide +kernel⟩,
   ⟨z, .med, 7, 0x7FFFFFFF, by decide +kernel⟩,
   ⟨z, .med, 7, 0x80000000, by decide +kernel⟩,
   ⟨z, .fw, 7, by decide +kernel⟩,
   ⟨z, .fw, 7, by decide +kernel⟩,
   ⟨z, .fw, 7, by decide +kernel⟩⟩

theorem witness_FramesCloseCountAndApply :
    (∃ (s : State) (n : Nat), s.outputRuns n = true ∧ s.flag F.DTG_STAT_STRETCH n = false) ∧
    (∃ (s : State) (n : Nat), s.outputRuns n = false) :=
  ⟨⟨z.setFld F.DTG_CTRL_ENABLE 1 7, 7, by decide +kernel⟩,
   ⟨z, 7, by decide +kernel⟩⟩

theorem witness_ApplyTakesEveryArmedSet :
    (∃ (s : State) (n : Nat) (b : Bool), s.armedSlots n b = [] ∧ s.flag F.DTG_APPLY_ARM n = false) ∧
    (∃ (s : State) (n : Nat) (b : Bool), s.armedSlots n b ≠ [] ∧ s.flag F.DTG_APPLY_ARM n = false) :=
  ⟨⟨z, 7, true, by decide +kernel⟩,
   ⟨(slotIn 63).setFld F.DPIPE_LCTRL_ARM 1 63, 7, true, by decide +kernel⟩⟩

theorem witness_LayerTroubleIsCountedAndReported :
    (∃ (s : State) (l : Nat) (reason : Nat), s.slotUsed l = true ∧ (s.slot l).live.enabled = true ∧ s.flag F.DPIPE_LSTAT_FAULTED l = false ∧ (reason = 1 ∨ reason = 2)) ∧
    (∃ (s : State) (l : Nat) (reason : Nat), s.slotUsed l = true ∧ (s.slot l).live.enabled = true ∧ s.flag F.DPIPE_LSTAT_FAULTED l = false ∧ (reason = 3 ∨ reason = 4)) ∧
    (∃ (s : State) (l : Nat), l < 64 ∧ s.slotUsed l = true ∧ (s.slot l).live.enabled = true ∧ s.flag F.DPIPE_LSTAT_FAULTED l = false) :=
  ⟨⟨((slotIn 63).setSlot 63 { SlotSt.blank with live := { Layer.blank with ctrl := 2 ^ 30 } }), 63, 2, by decide +kernel⟩,
   ⟨((slotIn 63).setSlot 63 { SlotSt.blank with live := { Layer.blank with ctrl := 2 ^ 30 } }), 63, 4, by decide +kernel⟩,
   ⟨((slotIn 63).setSlot 63 { SlotSt.blank with live := { Layer.blank with ctrl := 2 ^ 30 } }), 63, by decide +kernel⟩⟩

theorem witness_ModesAndQueriesAnswer :
    (∃ (s : State) (k : Nat) (p : Started), s.opAt k 0x0800 = some p ∧ (∀ c, p.ring = .client c → s.hasOutput (p.p8 0) c = true)) ∧
    (∃ (s : State) (k : Nat) (c : Nat) (p : Started), s.opAt k 0x0800 = some p ∧ p.ring = .client c ∧ s.hasOutput (p.p8 0) c = false) ∧
    (∃ (s : State) (k : Nat) (p : Started), s.opAt k 0x0802 = some p ∧ s.auxWaits k p = false ∧ (p.p8 1 = 0 ∨ p.p8 1 = 2)) ∧
    (∃ (s : State) (k : Nat) (p : Started), s.opAt k 0x0801 = some p ∧ (modeOf p (s.rg (Reg.DPTX_LINK (p.p8 0)))).off = false ∧ (modeOf p (s.rg (Reg.DPTX_LINK (p.p8 0)))).fault p = none ∧ s.layersStand (p.p8 0) (modeOf p (s.rg (Reg.DPTX_LINK (p.p8 0)))).timing = 0 ∧ (s.out (p.p8 0)).held = none ∧ s.claimed (11 + p.p8 0) = false) ∧
    (∃ (s : State) (k : Nat) (p : Started), s.opAt k 0x0801 = some p ∧ (modeOf p (s.rg (Reg.DPTX_LINK (p.p8 0)))).off = false ∧ (modeOf p (s.rg (Reg.DPTX_LINK (p.p8 0)))).fault p = none ∧ s.layersStand (p.p8 0) (modeOf p (s.rg (Reg.DPTX_LINK (p.p8 0)))).timing = 0 ∧ (s.out (p.p8 0)).held = none ∧ s.claimed (11 + p.p8 0) = true) ∧
    (∃ (s : State) (k : Nat) (p : Started) (o : Nat), s.opAt k 0x0801 = some p ∧ (modeOf p (s.rg (Reg.DPTX_LINK (p.p8 0)))).off = false ∧ (modeOf p (s.rg (Reg.DPTX_LINK (p.p8 0)))).fault p = some o) ∧
    (∃ (s : State) (k : Nat) (p : Started), s.opAt k 0x0801 = some p ∧ (modeOf p (s.rg (Reg.DPTX_LINK (p.p8 0)))).off = false ∧ (modeOf p (s.rg (Reg.DPTX_LINK (p.p8 0)))).fault p = none ∧ s.layersStand (p.p8 0) (modeOf p (s.rg (Reg.DPTX_LINK (p.p8 0)))).timing = 2) ∧
    (∃ (s : State) (k : Nat) (p : Started), s.opAt k 0x0801 = some p ∧ (modeOf p (s.rg (Reg.DPTX_LINK (p.p8 0)))).off = false ∧ (modeOf p (s.rg (Reg.DPTX_LINK (p.p8 0)))).fault p = none ∧ s.layersStand (p.p8 0) (modeOf p (s.rg (Reg.DPTX_LINK (p.p8 0)))).timing = 3) :=
  ⟨⟨at5 (pk .s 0x0800 ([7])), 5, pk .s 0x0800 ([7]), by decide +kernel, by intro c h; cases h⟩,
   ⟨at5 (pk (.client 4095) 0x0800 ([7])), 5, 4095, pk (.client 4095) 0x0800 ([7]), by decide +kernel⟩,
   ⟨at5 (pk .s 0x0802 ([7, 2])), 5, pk .s 0x0802 ([7, 2]), by decide +kernel⟩,
   ⟨at5 (pk .s 0x0801 (defaultMode 7)), 5, pk .s 0x0801 (defaultMode 7), by decide +kernel⟩,
   ⟨at5 (pk .s 0x0801 (defaultMode 7)) (z.setRg Reg.PWR_SCLAIM0 (BitVec.ofNat 32 (2 ^ 18))), 5, pk .s 0x0801 (defaultMode 7), by decide +kernel⟩,
   ⟨at5 (pk .s 0x0801 ([7, 0, 7])), 5, pk .s 0x0801 ([7, 0, 7]), 2, by decide +kernel⟩,
   ⟨at5 (pk .s 0x0801 (defaultMode 7)) (((slotIn 63).setFld F.DPIPE_LOWNER_VALID 1 62).setFld F.DPIPE_LCTRL_OUTPUT 7 62 |>.setSlot 63 { SlotSt.blank with live := { Layer.blank with ctrl := 2 ^ 30, srcSize := 0x1FFFF, dstSize := 0x10001 } } |>.setSlot 62 { SlotSt.blank with live := { Layer.blank with ctrl := 2 ^ 30, srcSize := 0x1FFFF, dstSize := 0x10001 } }), 5, pk .s 0x0801 (defaultMode 7), by decide +kernel⟩,
   ⟨at5 (pk .s 0x0801 (defaultMode 7)) (((slotIn 63).setFld F.MC_SLOT_CFG_ISO_RSV 33 3).setSlot 63 { SlotSt.blank with live := { Layer.blank with ctrl := 2 ^ 30, srcSize := 0x10001, dstSize := 0x10001 }, groups := [3] }), 5, pk .s 0x0801 (defaultMode 7), by decide +kernel⟩⟩

theorem witness_SlotsAreAssignedAndReleased :
    (∃ (s : State) (k : Nat) (l : Nat) (p : Started), s.opAt k 0x0803 = some p ∧ p.p8 0 = 255 ∧ s.hasOutput (p.p8 1) (p.p16 2) = true ∧ (s.slotsHeld (p.p16 2)).length < (s.client (p.p16 2)).layers ∧ (s.slotsOf (p.p8 1)).length < 16 ∧ (s.slotsOf (p.p8 1)).any (fun j => s.fld F.DPIPE_LCTRL_Z j == p.p8 4 || ((s.slot j).replace.map (·.1)) == some (p.p8 4)) = false ∧ (List.range 64).find? (fun j => !s.slotUsed j) = some l ∧ p.p16 2 < 4096 ∧ p.p8 1 < 8 ∧ p.p8 4 < 16) ∧
    (∃ (s : State) (k : Nat) (p : Started), s.opAt k 0x0803 = some p ∧ s.hasOutput (p.p8 1) (p.p16 2) = false) ∧
    (∃ (s : State) (k : Nat) (p : Started), s.opAt k 0x0804 = some p ∧ s.slotUsed (p.p8 0) = true ∧ s.flag F.DTG_CTRL_ENABLE (s.slotOut (p.p8 0)) = true) ∧
    (∃ (s : State) (k : Nat) (p : Started), s.opAt k 0x0804 = some p ∧ s.slotUsed (p.p8 0) = true ∧ s.flag F.DTG_CTRL_ENABLE (s.slotOut (p.p8 0)) = false) ∧
    (∃ (s : State) (s1 : State) (k : Nat) (p : Started) (b : List Byte), s.opAt k 0x0807 = some p ∧ s.slotRefusal p.ring (p.p8 0) 0 = none ∧ s.unitRead (ringWho p.ring) (p.p64 8) 1024 = (.ok b, s1)) :=
  ⟨⟨at5 (pk .med 0x0803 ([255, 7, 0xFF, 0x0F, 15])) (({ z with cl := { z.cl with outputs := [(7, 4095)] } } : State).setClient 4095 { Client.fresh with layers := 1 }), 5, 0, pk .med 0x0803 ([255, 7, 0xFF, 0x0F, 15]), by decide +kernel⟩,
   ⟨at5 (pk .med 0x0803 ([255, 7, 0xFF, 0x0F, 15])), 5, pk .med 0x0803 ([255, 7, 0xFF, 0x0F, 15]), by decide +kernel⟩,
   ⟨at5 (pk .s 0x0804 ([63])) ((slotIn 63).setFld F.DTG_CTRL_ENABLE 1 7), 5, pk .s 0x0804 ([63]), by decide +kernel⟩,
   ⟨at5 (pk .s 0x0804 ([63])) (slotIn 63), 5, pk .s 0x0804 ([63]), by decide +kernel⟩,
   ⟨at5 (pk .s 0x0807 ([63, 0, 0, 0, 0, 0, 0, 0] ++ leBytes 8 0x1000000)) (slotIn 63), ((at5 (pk .s 0x0807 ([63, 0, 0, 0, 0, 0, 0, 0] ++ leBytes 8 0x1000000)) (slotIn 63)).unitRead (ringWho (pk .s 0x0807 ([63, 0, 0, 0, 0, 0, 0, 0] ++ leBytes 8 0x1000000)).ring) ((pk .s 0x0807 ([63, 0, 0, 0, 0, 0, 0, 0] ++ leBytes 8 0x1000000)).p64 8) 1024).2, 5, pk .s 0x0807 ([63, 0, 0, 0, 0, 0, 0, 0] ++ leBytes 8 0x1000000), List.replicate 1024 0, ⟨by decide +kernel, by decide +kernel, ok_of (by decide +kernel)⟩⟩⟩

theorem witness_LayerSetsArmTheirShadow :
    (∃ (s : State) (k : Nat) (p : Started), s.opAt k 0x0805 = some p ∧ s.slotRefusal p.ring (p.p8 0) 0 = none ∧ ((s.writeLayer p (p.p8 0)).shadowLayer (p.p8 0)).pixelsOk (s.comingTiming (s.slotOut (p.p8 0))) = true ∧ (s.writeLayer p (p.p8 0)).buffersOk (s.slotOut (p.p8 0)) = true ∧ (s.writeLayer p (p.p8 0)).isoFits s = true) ∧
    (∃ (s : State) (k : Nat) (p : Started), s.opAt k 0x0805 = some p ∧ s.slotRefusal p.ring (p.p8 0) 0 = none ∧ ((s.writeLayer p (p.p8 0)).shadowLayer (p.p8 0)).pixelsOk (s.comingTiming (s.slotOut (p.p8 0))) = true ∧ (s.writeLayer p (p.p8 0)).buffersOk (s.slotOut (p.p8 0)) = false) ∧
    (∃ (s : State) (k : Nat) (p : Started), s.opAt k 0x0805 = some p ∧ s.slotRefusal p.ring (p.p8 0) 0 = none ∧ ((s.writeLayer p (p.p8 0)).shadowLayer (p.p8 0)).pixelsOk (s.comingTiming (s.slotOut (p.p8 0))) = true ∧ (s.writeLayer p (p.p8 0)).buffersOk (s.slotOut (p.p8 0)) = true ∧ (s.writeLayer p (p.p8 0)).isoFits s = false) ∧
    (∃ (s : State) (k : Nat) (p : Started), s.opAt k 0x0805 = some p ∧ s.slotRefusal p.ring (p.p8 0) 0 = none ∧ ((s.writeLayer p (p.p8 0)).shadowLayer (p.p8 0)).pixelsOk (s.comingTiming (s.slotOut (p.p8 0))) = false) ∧
    (∃ (l : Nat), l < 64) ∧
    (∃ (s : State) (k : Nat) (p : Started), s.opAt k 0x0806 = some p ∧ (∀ o ∈ flipEntries p, s.slotRefusal p.ring (p.p8 (8 + o)) (8 + o) = none) ∧ (∀ o ∈ flipEntries p, isYuv (s.shadowLayer (p.p8 (8 + o))).format = true → p.p64 (24 + o) % 64 = 0) ∧ (s.writeFlip p (flipEntries p)).isoFits s = true) ∧
    (∃ (s : State) (k : Nat) (p : Started), s.opAt k 0x0806 = some p ∧ (∀ o ∈ flipEntries p, s.slotRefusal p.ring (p.p8 (8 + o)) (8 + o) = none) ∧ (∀ o ∈ flipEntries p, isYuv (s.shadowLayer (p.p8 (8 + o))).format = true → p.p64 (24 + o) % 64 = 0) ∧ (s.writeFlip p (flipEntries p)).isoFits s = false) :=
  ⟨⟨at5 (pk .s 0x0805 ([63])) (slotIn 63), 5, pk .s 0x0805 ([63]), by decide +kernel⟩,
   ⟨at5 (pk .s 0x0805 ([63])) (((slotIn 63).setFld F.DPIPE_LOWNER_VALID 1 62).setFld F.DPIPE_LCTRL_OUTPUT 7 62 |>.setSlot 62 { SlotSt.blank with live := { Layer.blank with ctrl := 2 ^ 30, srcSize := 0x1FFFF, dstSize := 0x10001 } }), 5, pk .s 0x0805 ([63]), by decide +kernel⟩,
   ⟨at5 (pk .s 0x0805 ([63, 0, 1, 0, 64, 0, 0, 0] ++ leBytes 8 dramBase ++ List.replicate 12 0 ++ leBytes 4 0x10001 ++ List.replicate 4 0 ++ leBytes 4 0x10001 ++ List.replicate 4 0)) ((((({ dram with cl := { z.cl with devctx := [(0, some ⟨0, 0, 0⟩)] } } : State).setClient 0 { Client.fresh with bind := some ⟨0, 0, 0, 0⟩ }).setFld F.DPIPE_LOWNER_VALID 1 63).setFld F.DPIPE_LCTRL_OUTPUT 7 63).setFld F.MC_SLOT_CFG_ISO_RSV 33 0), 5, pk .s 0x0805 ([63, 0, 1, 0, 64, 0, 0, 0] ++ leBytes 8 dramBase ++ List.replicate 12 0 ++ leBytes 4 0x10001 ++ List.replicate 4 0 ++ leBytes 4 0x10001 ++ List.replicate 4 0), by decide +kernel⟩,
   ⟨at5 (pk .s 0x0805 ([63, 0, 1, 0] ++ List.replicate 24 0 ++ leBytes 4 0xFFFFFFFF)) (slotIn 63), 5, pk .s 0x0805 ([63, 0, 1, 0] ++ List.replicate 24 0 ++ leBytes 4 0xFFFFFFFF), by decide +kernel⟩,
   ⟨63, by decide +kernel⟩,
   ⟨at5 (pk .s 0x0806 ([1, 0, 0, 0, 0, 0, 0, 0, 63])) (slotIn 63), 5, pk .s 0x0806 ([1, 0, 0, 0, 0, 0, 0, 0, 63]), by decide +kernel⟩,
   ⟨at5 (pk .s 0x0806 ([1, 0, 0, 0, 0, 0, 0, 0, 63, 0, 0, 0, 0, 0, 0, 0] ++ leBytes 8 dramBase)) ((((((((({ dram with cl := { z.cl with devctx := [(0, some ⟨0, 0, 0⟩)] } } : State).setClient 0 { Client.fresh with bind := some ⟨0, 0, 0, 0⟩ }).setFld F.DPIPE_LOWNER_VALID 1 63).setFld F.DPIPE_LCTRL_OUTPUT 7 63).setFld F.MC_SLOT_CFG_ISO_RSV 33 0).setFld F.DPIPE_LCTRL_ENABLE 1 63).setRg (Reg.DPIPE_LSRC_SIZE 63) 0x10001).setRg (Reg.DPIPE_LDST_SIZE 63) 0x10001).setRg (Reg.DPIPE_LPITCH 63) 64), 5, pk .s 0x0806 ([1, 0, 0, 0, 0, 0, 0, 0, 63, 0, 0, 0, 0, 0, 0, 0] ++ leBytes 8 dramBase), by decide +kernel⟩⟩

theorem witness_ListsPassTheChecker :
    (∃ (s : State) (k : Nat) (p : Started), s.opAt k 0x0C00 = some p ∧ s.etch.checker.contains k = false) ∧
    (∃ (s : State) (k : Nat) (p : Started), s.opAt k 0x0C01 = some p ∧ p.p8 1 = 0) ∧
    (∃ (s : State) (k : Nat) (p : Started), s.opAt k 0x0C01 = some p ∧ p.p8 1 ≠ 0 ∧ s.etch.checker.contains k = false) ∧
    (∃ (s : State) (u : State) (k : Nat) (rest : List Nat) (p : Started), s.etch.checker = k :: rest ∧ u = { s with etch := { s.etch with checker := rest } } ∧ u.opAt k 0x0C00 = some p ∧ u.checkList (p.p32 4) ((List.range 4).filterMap (fun i => if i = p.p8 1 then none else (u.checkedList (p.p8 0) i).map (·.off))) = none) ∧
    (∃ (s : State) (u : State) (k : Nat) (rest : List Nat) (p : Started) (r : Refused), s.etch.checker = k :: rest ∧ u = { s with etch := { s.etch with checker := rest } } ∧ u.opAt k 0x0C00 = some p ∧ u.checkList (p.p32 4) ((List.range 4).filterMap (fun i => if i = p.p8 1 then none else (u.checkedList (p.p8 0) i).map (·.off))) = some r) ∧
    (∃ (s : State) (i : Nat) (j : Nat) (x : EtchList), s.etch.retiring[i]? = some (j, x)) :=
  ⟨⟨at5 (pk .s 0x0C00 ([])), 5, pk .s 0x0C00 ([]), by decide +kernel⟩,
   ⟨at5 (pk .s 0x0C01 ([7, 0])), 5, pk .s 0x0C01 ([7, 0]), by decide +kernel⟩,
   ⟨at5 (pk .s 0x0C01 ([7, 3])), 5, pk .s 0x0C01 ([7, 3]), by decide +kernel⟩,
   ⟨{ at5 (pk .s 0x0C00 [7, 3]) (z.putPlate 0 rectList) with etch := { (at5 (pk .s 0x0C00 [7, 3]) (z.putPlate 0 rectList)).etch with checker := [5, 6] } }, { at5 (pk .s 0x0C00 [7, 3]) (z.putPlate 0 rectList) with etch := { (at5 (pk .s 0x0C00 [7, 3]) (z.putPlate 0 rectList)).etch with checker := [6] } }, 5, [6], pk .s 0x0C00 [7, 3], by decide +kernel⟩,
   ⟨{ at5 (pk .s 0x0C00 [7, 3]) (z) with etch := { (at5 (pk .s 0x0C00 [7, 3]) (z)).etch with checker := [5, 6] } }, { at5 (pk .s 0x0C00 [7, 3]) (z) with etch := { (at5 (pk .s 0x0C00 [7, 3]) (z)).etch with checker := [6] } }, 5, [6], pk .s 0x0C00 [7, 3], ⟨1, 0, 0⟩, by decide +kernel⟩,
   ⟨{ z with etch := { z.etch with retiring := [(31, ⟨0, 48, [0], 0, false⟩)] } }, 0, 31, ⟨0, 48, [0], 0, false⟩, by decide +kernel⟩⟩

theorem witness_SwapsBlinkAndModesAreDecided :
    (∃ (s : State) (k : Nat) (p : Started), s.opAt k 0x0C02 = some p) ∧
    (∃ (s : State) (n : Nat), n < 8 ∧ s.flag F.ETCH_OUT_STAT_SWAP_ARMED n = false) ∧
    (∃ (s : State) (k : Nat) (p : Started), s.opAt k 0x0C03 = some p ∧ p.p8 1 < 4) ∧
    (∃ (s : State) (n : Nat) (c : Nat), (s.blink n c).isSome = true ∧ s.phaseNow n c ≠ bit (s.fld F.ETCH_BLINK_STAT_PHASE n) c ∧ s.blinkUsed n c = true) ∧
    (∃ (s : State) (k : Nat) (p : Started) (m : Mode), s.opAt k 0x0C04 = some p ∧ (s.out (p.p8 0)).held = some m ∧ p.p8 1 = 0) ∧
    (∃ (s : State) (k : Nat) (p : Started) (m : Mode), s.opAt k 0x0C04 = some p ∧ (s.out (p.p8 0)).held = some m ∧ p.p8 1 = 1) ∧
    (∃ (s : State) (k : Nat) (p : Started), s.opAt k 0x0C04 = some p ∧ (s.out (p.p8 0)).held = none) ∧
    (∃ (s : State) (k : Nat) (p : Started), s.opAt k 0x0C05 = some p) :=
  ⟨⟨at5 (pk .s 0x0C02 ([7])), 5, pk .s 0x0C02 ([7]), by decide +kernel⟩,
   ⟨z, 7, by decide +kernel⟩,
   ⟨at5 (pk .s 0x0C03 ([7, 3])), 5, pk .s 0x0C03 ([7, 3]), by decide +kernel⟩,
   ⟨{ z with cyc := nsCycles 600000000, etch := { z.etch with blinks := [(31, some ⟨500, 500, 0⟩)], live := [(28, some ⟨0, 48, [0], 8, false⟩)] } }, 7, 3, by decide +kernel⟩,
   ⟨at5 (pk .s 0x0C04 ([7, 0])) (z.setOut 7 { Output.idleOut with held := some ⟨Timing.ref, 0, 0, false⟩ }), 5, pk .s 0x0C04 ([7, 0]), ⟨Timing.ref, 0, 0, false⟩, by decide +kernel⟩,
   ⟨at5 (pk .s 0x0C04 ([7, 1])) (z.setOut 7 { Output.idleOut with held := some ⟨Timing.ref, 0, 0, false⟩ }), 5, pk .s 0x0C04 ([7, 1]), ⟨Timing.ref, 0, 0, false⟩, by decide +kernel⟩,
   ⟨at5 (pk .s 0x0C04 ([7, 1])), 5, pk .s 0x0C04 ([7, 1]), by decide +kernel⟩,
   ⟨at5 (pk .s 0x0C05 ([7, 1])), 5, pk .s 0x0C05 ([7, 1]), by decide +kernel⟩⟩

theorem witness_LockedPlateRefusesWrites :
    (∃ (s : State) (a : Nat), s.region a = .plateSram ∧ s.plateLocked a = true) ∧
    (∃ (s : State) (a : Nat), a < 2 ^ 26 ∧ s.flag F.ETCH_WPROT_VALID = false) ∧
    (∃ (s : State) (who : Who) (a : Nat), who ≠ .s ∧ s.region a = .plateSram) :=
  ⟨⟨{ z with etch := { z.etch with locks := [(3071, 1)] } }, plateBase + plateSize - 1, by decide +kernel⟩,
   ⟨z, 2 ^ 26 - 1, by decide +kernel⟩,
   ⟨z, .client 4095, plateBase, by decide +kernel⟩⟩

theorem witness_ProofChecksAndTakesOver :
    (∃ (s : State) (n : Nat) (rest : List Nat), s.prf.queue = n :: rest ∧ s.fld F.PROOF_RSV_STATE = 0) ∧
    (∃ (s : State) (n : Nat) (rest : List Nat), s.prf.queue = n :: rest ∧ s.passRuns n = true) ∧
    (∃ (s : State) (n : Nat) (w : Nat) (line : Nat), n < 8 ∧ s.checks n w line = true ∧ SMap.get (fun _ => false) s.prf.forced n = false) ∧
    (∃ (s : State) (n : Nat) (k : Takeover), s.prf.takeover = some k ∧ k.out = n) ∧
    (∃ (s : State) (n : Nat), s.fld F.PROOF_STAT_STATE n = 3) ∧
    (∃ (s : State) (n : Nat), s.fld F.PROOF_STAT_STATE n = 3) ∧
    (∃ (s : State) (n : Nat), n < 8 ∧ s.flag F.PROOF_CTRL_SINK_EN n = true ∧ (s.out n).stream = true) :=
  ⟨⟨{ z with prf := { z.prf with queue := [7] } }, 7, [], by decide +kernel⟩,
   ⟨(({ z with prf := { z.prf with queue := [7] } } : State).setFld F.PROOF_RSV_STATE 1).setFld F.PROOF_RSV_OUTPUT 7, 7, [], by decide +kernel⟩,
   ⟨proofOn, 7, 15, 8191, by decide +kernel⟩,
   ⟨{ z with prf := { z.prf with takeover := some ⟨7, 0, false⟩ } }, 7, ⟨7, 0, false⟩, by decide +kernel⟩,
   ⟨z.setFld F.PROOF_STAT_STATE 3 7, 7, by decide +kernel⟩,
   ⟨z.setFld F.PROOF_STAT_STATE 3 7, 7, by decide +kernel⟩,
   ⟨proofOn.setFld F.PROOF_CTRL_SINK_EN 1 7, 7, by decide +kernel⟩⟩

theorem witness_MismatchTakesOverOrIsASecondFault :
    (∃ (s : State) (n : Nat) (w : Nat) (line : Nat), s.checks n w line = true) ∧
    (∃ (s : State) (n : Nat) (w : Nat) (line : Nat), (s.noteMismatch n w line).flag F.PROOF_CTRL_GUARD n = false) ∧
    (∃ (s : State) (n : Nat) (w : Nat) (line : Nat), (s.noteMismatch n w line).flag F.PROOF_CTRL_GUARD n = true ∧ (s.noteMismatch n w line).spareUsed = false) ∧
    (∃ (s : State) (n : Nat) (w : Nat) (line : Nat), (s.noteMismatch n w line).flag F.PROOF_CTRL_GUARD n = true ∧ (s.noteMismatch n w line).spareUsed = true ∧ (s.noteMismatch n w line).prf.takeover.map (·.out) ≠ some n) ∧
    (∃ (s : State) (n : Nat) (w : Nat) (line : Nat), n < 8 ∧ w < 16 ∧ line < 2 ^ 13 ∧ s.flag F.PROOF_FAIL_VALID n = false) :=
  ⟨⟨proofOn, 7, 15, 8191, by decide +kernel⟩,
   ⟨proofOn, 7, 15, 8191, by decide +kernel⟩,
   ⟨proofOn.setFld F.PROOF_CTRL_GUARD 1 7, 7, 15, 8191, by decide +kernel⟩,
   ⟨(proofOn.setFld F.PROOF_CTRL_GUARD 1 7).setFld F.PROOF_RSV_STATE 2, 7, 15, 8191, by decide +kernel⟩,
   ⟨proofOn, 7, 15, 8191, by decide +kernel⟩⟩

theorem witness_ProofOperationsFollowTheirRules :
    (∃ (s : State) (k : Nat) (p : Started), s.opAt k 0x1000 = some p ∧ bit (p.p8 1) 0 = true ∧ s.flag F.PROOF_CTRL_ENABLE (p.p8 0) = true ∧ p.p32 4 / 4096 = s.fld F.PROOF_CTRL_AREA (p.p8 0) ∧ s.fld F.PROOF_STAT_STATE (p.p8 0) = 1 ∧ s.prf.takeover = none ∧ ((List.range 8).any (fun m => m != (p.p8 0) && s.flag F.PROOF_CTRL_ENABLE m && areasMeet (p.p32 4 / 4096) (s.fld F.PROOF_CTRL_AREA m)) || (List.range 35).any (fun i => decide (s.lockCount (p.p32 4 / 4096 + i) ≠ 0))) = false ∧ (p.p8 0) < 8 ∧ p.p8 2 < 256) ∧
    (∃ (s : State) (k : Nat) (p : Started), s.opAt k 0x1001 = some p ∧ s.flag F.PROOF_CTRL_ENABLE (p.p8 0) = true ∧ ((List.range 16).foldl (fun a w => let x := ((List.range (p.p8 2)).foldl (fun (u : State) i => u.putPlate (u.proofArea (p.p8 0) + 16 * (p.p8 1 + i)) ((p.pkt.params.drop (8 + 16 * i)).take 16)) s).window (p.p8 0) w; if x.on then a + x.w * x.h else a) 0) ≤ 4194304) ∧
    (∃ (s : State) (k : Nat) (p : Started), s.opAt k 0x1001 = some p ∧ s.flag F.PROOF_CTRL_ENABLE (p.p8 0) = true ∧ 4194304 < ((List.range 16).foldl (fun a w => let x := ((List.range (p.p8 2)).foldl (fun (u : State) i => u.putPlate (u.proofArea (p.p8 0) + 16 * (p.p8 1 + i)) ((p.pkt.params.drop (8 + 16 * i)).take 16)) s).window (p.p8 0) w; if x.on then a + x.w * x.h else a) 0)) ∧
    (∃ (s : State) (k : Nat) (p : Started), s.opAt k 0x1001 = some p ∧ s.flag F.PROOF_CTRL_ENABLE (p.p8 0) = false) ∧
    (∃ (s : State) (k : Nat) (p : Started), s.opAt k 0x1002 = some p ∧ s.fld F.PROOF_STAT_STATE (p.p8 0) = 2) ∧
    (∃ (s : State) (k : Nat) (p : Started), s.opAt k 0x1002 = some p ∧ s.fld F.PROOF_STAT_STATE (p.p8 0) ≠ 2) ∧
    (∃ (s : State) (k : Nat) (p : Started), s.opAt k 0x1003 = some p ∧ s.flag F.PROOF_CTRL_GUARD (p.p8 0) = true ∧ s.spareUsed = false) ∧
    (∃ (s : State) (k : Nat) (p : Started), s.opAt k 0x1003 = some p ∧ (s.flag F.PROOF_CTRL_GUARD (p.p8 0) = false ∨ s.spareUsed = true)) :=
  ⟨⟨at5 (pk .s 0x1000 ([7, 1, 255])) (((proofOn.setFld F.PROOF_STAT_STATE 1 7).setFld F.PROOF_CTRL_AREA 0 7)), 5, pk .s 0x1000 ([7, 1, 255]), by decide +kernel⟩,
   ⟨at5 (pk .s 0x1001 ([7])) (proofOn), 5, pk .s 0x1001 ([7]), by decide +kernel⟩,
   ⟨at5 (pk .s 0x1001 ([7])) ((proofOn.setFld F.PROOF_CTRL_AREA 0 7).putPlate 0 [0, 0, 0, 0, 0, 0x20, 0, 0x20, 1]), 5, pk .s 0x1001 ([7]), by decide +kernel⟩,
   ⟨at5 (pk .s 0x1001 ([7])), 5, pk .s 0x1001 ([7]), by decide +kernel⟩,
   ⟨at5 (pk .s 0x1002 ([7])) (z.setFld F.PROOF_STAT_STATE 2 7), 5, pk .s 0x1002 ([7]), by decide +kernel⟩,
   ⟨at5 (pk .s 0x1002 ([7])), 5, pk .s 0x1002 ([7]), by decide +kernel⟩,
   ⟨at5 (pk .s 0x1003 ([7])) (z.setFld F.PROOF_CTRL_GUARD 1 7), 5, pk .s 0x1003 ([7]), by decide +kernel⟩,
   ⟨at5 (pk .s 0x1003 ([7])), 5, pk .s 0x1003 ([7]), by decide +kernel⟩⟩

theorem witness_ProofOperationsFollowTheirRules_2 :
    (∃ (s : State) (k : Nat) (p : Started), s.opAt k 0x1004 = some p ∧ p.ring = .s) ∧
    (∃ (s : State) (k : Nat) (p : Started), s.opAt k 0x1004 = some p ∧ p.ring ≠ .s) :=
  ⟨⟨at5 (pk .s 0x1004 ([7])), 5, pk .s 0x1004 ([7]), by decide +kernel⟩,
   ⟨at5 (pk .med 0x1004 ([7])), 5, pk .med 0x1004 ([7]), by decide +kernel⟩⟩

theorem witness_GraverCommandsDraw :
    (∃ (i : Nat → Instr) (o : Nat) (s : State) (k : Nat) (u : Nat) (p : Started), (i, o) ∈ drawOps ∧ s.opAt k o = some p ∧ s.holdsIn (.packet k) 0 = some u ∧ graverEmpty o p.pkt.params = true) ∧
    (∃ (i : Nat → Instr) (o : Nat) (s : State) (k : Nat) (u : Nat) (p : Started) (c : GCtx) (s1 : State) (n : Nat) (s2 : State), (i, o) ∈ drawOps ∧ s.opAt k o = some p ∧ s.holdsIn (.packet k) 0 = some u ∧ graverEmpty o p.pkt.params = false ∧ p.progress % 2 = 0 ∧ s.graverCtx p = (.ok c, s1) ∧ inPlace o p.pkt.params = false ∧ State.drawGroups c (rectAt p.pkt.params 32).w ((List.range (rectAt p.pkt.params 32).h).map (fun y => [y])) 0 s1 = (none, n, s2)) ∧
    (∃ (i : Nat → Instr) (o : Nat) (s : State) (k : Nat) (u : Nat) (p : Started) (c : GCtx) (s1 : State) (e : GFault) (n : Nat) (s2 : State), (i, o) ∈ drawOps ∧ s.opAt k o = some p ∧ s.holdsIn (.packet k) 0 = some u ∧ graverEmpty o p.pkt.params = false ∧ p.progress % 2 = 0 ∧ s.graverCtx p = (.ok c, s1) ∧ inPlace o p.pkt.params = false ∧ State.drawGroups c (rectAt p.pkt.params 32).w ((List.range (rectAt p.pkt.params 32).h).map (fun y => [y])) 0 s1 = (some e, n, s2)) ∧
    (∃ (i : Nat → Instr) (o : Nat) (s : State) (k : Nat) (u : Nat) (p : Started) (c : GCtx) (s1 : State) (rows : List Nat) (n : Nat) (s2 : State), (i, o) ∈ drawOps ∧ s.opAt k o = some p ∧ s.holdsIn (.packet k) 0 = some u ∧ graverEmpty o p.pkt.params = false ∧ p.progress % 2 = 0 ∧ s.graverCtx p = (.ok c, s1) ∧ inPlace o p.pkt.params = true ∧ (stripRows o p.pkt.params)[p.progress / 2 % 2 ^ 16]? = some rows ∧ State.drawGroups c (rectAt p.pkt.params 32).w [rows] 0 s1 = (none, n, s2)) :=
  ⟨⟨.fill, 0x1400, at5 (pk .s 0x1400 ([])) (grants 0 (gr (.packet 5)) z), 5, 0, pk .s 0x1400 ([]), ⟨by simp [drawOps], by decide +kernel⟩⟩,
   ⟨.fill, 0x1400, at5 (pk .s 0x1400 (leBytes 8 0x1000000 ++ List.replicate 8 0 ++ leBytes 4 64 ++ leBytes 2 1 ++ leBytes 2 1 ++ List.replicate 8 0 ++ leBytes 2 0 ++ leBytes 2 0 ++ leBytes 2 1 ++ leBytes 2 1)) (grants 0 (gr (.packet 5)) z), 5, 0, pk .s 0x1400 (leBytes 8 0x1000000 ++ List.replicate 8 0 ++ leBytes 4 64 ++ leBytes 2 1 ++ leBytes 2 1 ++ List.replicate 8 0 ++ leBytes 2 0 ++ leBytes 2 0 ++ leBytes 2 1 ++ leBytes 2 1), ⟨0x1400, .s, leBytes 8 0x1000000 ++ List.replicate 8 0 ++ leBytes 4 64 ++ leBytes 2 1 ++ leBytes 2 1 ++ List.replicate 8 0 ++ leBytes 2 0 ++ leBytes 2 0 ++ leBytes 2 1 ++ leBytes 2 1, [], [], none⟩, ((at5 (pk .s 0x1400 (leBytes 8 0x1000000 ++ List.replicate 8 0 ++ leBytes 4 64 ++ leBytes 2 1 ++ leBytes 2 1 ++ List.replicate 8 0 ++ leBytes 2 0 ++ leBytes 2 0 ++ leBytes 2 1 ++ leBytes 2 1)) (grants 0 (gr (.packet 5)) z)).graverCtx (pk .s 0x1400 (leBytes 8 0x1000000 ++ List.replicate 8 0 ++ leBytes 4 64 ++ leBytes 2 1 ++ leBytes 2 1 ++ List.replicate 8 0 ++ leBytes 2 0 ++ leBytes 2 0 ++ leBytes 2 1 ++ leBytes 2 1))).2, 1, (State.drawGroups ((⟨0x1400, .s, leBytes 8 0x1000000 ++ List.replicate 8 0 ++ leBytes 4 64 ++ leBytes 2 1 ++ leBytes 2 1 ++ List.replicate 8 0 ++ leBytes 2 0 ++ leBytes 2 0 ++ leBytes 2 1 ++ leBytes 2 1, [], [], none⟩ : GCtx)) (rectAt (pk .s 0x1400 (leBytes 8 0x1000000 ++ List.replicate 8 0 ++ leBytes 4 64 ++ leBytes 2 1 ++ leBytes 2 1 ++ List.replicate 8 0 ++ leBytes 2 0 ++ leBytes 2 0 ++ leBytes 2 1 ++ leBytes 2 1)).pkt.params 32).w ((List.range (rectAt (pk .s 0x1400 (leBytes 8 0x1000000 ++ List.replicate 8 0 ++ leBytes 4 64 ++ leBytes 2 1 ++ leBytes 2 1 ++ List.replicate 8 0 ++ leBytes 2 0 ++ leBytes 2 0 ++ leBytes 2 1 ++ leBytes 2 1)).pkt.params 32).h).map (fun y => [y])) 0 (((at5 (pk .s 0x1400 (leBytes 8 0x1000000 ++ List.replicate 8 0 ++ leBytes 4 64 ++ leBytes 2 1 ++ leBytes 2 1 ++ List.replicate 8 0 ++ leBytes 2 0 ++ leBytes 2 0 ++ leBytes 2 1 ++ leBytes 2 1)) (grants 0 (gr (.packet 5)) z)).graverCtx (pk .s 0x1400 (leBytes 8 0x1000000 ++ List.replicate 8 0 ++ leBytes 4 64 ++ leBytes 2 1 ++ leBytes 2 1 ++ List.replicate 8 0 ++ leBytes 2 0 ++ leBytes 2 0 ++ leBytes 2 1 ++ leBytes 2 1))).2)).2.2, ⟨by simp [drawOps], by decide +kernel, by decide +kernel, by decide +kernel, by decide +kernel, ok_of (by decide +kernel), by decide +kernel, by decide +kernel⟩⟩,
   ⟨.fill, 0x1400, at5 (pk .s 0x1400 (leBytes 8 0x11400000 ++ List.replicate 8 0 ++ leBytes 4 64 ++ leBytes 2 1 ++ leBytes 2 1 ++ List.replicate 8 0 ++ leBytes 2 0 ++ leBytes 2 0 ++ leBytes 2 1 ++ leBytes 2 1)) (grants 0 (gr (.packet 5)) z), 5, 0, pk .s 0x1400 (leBytes 8 0x11400000 ++ List.replicate 8 0 ++ leBytes 4 64 ++ leBytes 2 1 ++ leBytes 2 1 ++ List.replicate 8 0 ++ leBytes 2 0 ++ leBytes 2 0 ++ leBytes 2 1 ++ leBytes 2 1), ⟨0x1400, .s, leBytes 8 0x11400000 ++ List.replicate 8 0 ++ leBytes 4 64 ++ leBytes 2 1 ++ leBytes 2 1 ++ List.replicate 8 0 ++ leBytes 2 0 ++ leBytes 2 0 ++ leBytes 2 1 ++ leBytes 2 1, [], [], none⟩, ((at5 (pk .s 0x1400 (leBytes 8 0x11400000 ++ List.replicate 8 0 ++ leBytes 4 64 ++ leBytes 2 1 ++ leBytes 2 1 ++ List.replicate 8 0 ++ leBytes 2 0 ++ leBytes 2 0 ++ leBytes 2 1 ++ leBytes 2 1)) (grants 0 (gr (.packet 5)) z)).graverCtx (pk .s 0x1400 (leBytes 8 0x11400000 ++ List.replicate 8 0 ++ leBytes 4 64 ++ leBytes 2 1 ++ leBytes 2 1 ++ List.replicate 8 0 ++ leBytes 2 0 ++ leBytes 2 0 ++ leBytes 2 1 ++ leBytes 2 1))).2, (((State.drawGroups ((⟨0x1400, .s, leBytes 8 0x11400000 ++ List.replicate 8 0 ++ leBytes 4 64 ++ leBytes 2 1 ++ leBytes 2 1 ++ List.replicate 8 0 ++ leBytes 2 0 ++ leBytes 2 0 ++ leBytes 2 1 ++ leBytes 2 1, [], [], none⟩ : GCtx)) (rectAt (pk .s 0x1400 (leBytes 8 0x11400000 ++ List.replicate 8 0 ++ leBytes 4 64 ++ leBytes 2 1 ++ leBytes 2 1 ++ List.replicate 8 0 ++ leBytes 2 0 ++ leBytes 2 0 ++ leBytes 2 1 ++ leBytes 2 1)).pkt.params 32).w ((List.range (rectAt (pk .s 0x1400 (leBytes 8 0x11400000 ++ List.replicate 8 0 ++ leBytes 4 64 ++ leBytes 2 1 ++ leBytes 2 1 ++ List.replicate 8 0 ++ leBytes 2 0 ++ leBytes 2 0 ++ leBytes 2 1 ++ leBytes 2 1)).pkt.params 32).h).map (fun y => [y])) 0 (((at5 (pk .s 0x1400 (leBytes 8 0x11400000 ++ List.replicate 8 0 ++ leBytes 4 64 ++ leBytes 2 1 ++ leBytes 2 1 ++ List.replicate 8 0 ++ leBytes 2 0 ++ leBytes 2 0 ++ leBytes 2 1 ++ leBytes 2 1)) (grants 0 (gr (.packet 5)) z)).graverCtx (pk .s 0x1400 (leBytes 8 0x11400000 ++ List.replicate 8 0 ++ leBytes 4 64 ++ leBytes 2 1 ++ leBytes 2 1 ++ List.replicate 8 0 ++ leBytes 2 0 ++ leBytes 2 0 ++ leBytes 2 1 ++ leBytes 2 1))).2)).1).getD (0, 0)), 0, (State.drawGroups ((⟨0x1400, .s, leBytes 8 0x11400000 ++ List.replicate 8 0 ++ leBytes 4 64 ++ leBytes 2 1 ++ leBytes 2 1 ++ List.replicate 8 0 ++ leBytes 2 0 ++ leBytes 2 0 ++ leBytes 2 1 ++ leBytes 2 1, [], [], none⟩ : GCtx)) (rectAt (pk .s 0x1400 (leBytes 8 0x11400000 ++ List.replicate 8 0 ++ leBytes 4 64 ++ leBytes 2 1 ++ leBytes 2 1 ++ List.replicate 8 0 ++ leBytes 2 0 ++ leBytes 2 0 ++ leBytes 2 1 ++ leBytes 2 1)).pkt.params 32).w ((List.range (rectAt (pk .s 0x1400 (leBytes 8 0x11400000 ++ List.replicate 8 0 ++ leBytes 4 64 ++ leBytes 2 1 ++ leBytes 2 1 ++ List.replicate 8 0 ++ leBytes 2 0 ++ leBytes 2 0 ++ leBytes 2 1 ++ leBytes 2 1)).pkt.params 32).h).map (fun y => [y])) 0 (((at5 (pk .s 0x1400 (leBytes 8 0x11400000 ++ List.replicate 8 0 ++ leBytes 4 64 ++ leBytes 2 1 ++ leBytes 2 1 ++ List.replicate 8 0 ++ leBytes 2 0 ++ leBytes 2 0 ++ leBytes 2 1 ++ leBytes 2 1)) (grants 0 (gr (.packet 5)) z)).graverCtx (pk .s 0x1400 (leBytes 8 0x11400000 ++ List.replicate 8 0 ++ leBytes 4 64 ++ leBytes 2 1 ++ leBytes 2 1 ++ List.replicate 8 0 ++ leBytes 2 0 ++ leBytes 2 0 ++ leBytes 2 1 ++ leBytes 2 1))).2)).2.2, ⟨by simp [drawOps], by decide +kernel, by decide +kernel, by decide +kernel, by decide +kernel, ok_of (by decide +kernel), by decide +kernel, by decide +kernel⟩⟩,
   ⟨.copy, 0x1402, at5 (pk .s 0x1402 (leBytes 8 0x1000000 ++ List.replicate 8 0 ++ leBytes 4 64 ++ leBytes 2 1 ++ leBytes 2 1 ++ List.replicate 8 0 ++ leBytes 2 0 ++ leBytes 2 0 ++ leBytes 2 1 ++ leBytes 2 1 ++ List.replicate 8 0 ++ leBytes 8 0x1000000 ++ List.replicate 8 0 ++ leBytes 4 64 ++ leBytes 2 1 ++ leBytes 2 1 ++ List.replicate 8 0 ++ leBytes 2 0 ++ leBytes 2 0 ++ leBytes 2 1 ++ leBytes 2 1)) (grants 0 (gr (.packet 5)) z), 5, 0, pk .s 0x1402 (leBytes 8 0x1000000 ++ List.replicate 8 0 ++ leBytes 4 64 ++ leBytes 2 1 ++ leBytes 2 1 ++ List.replicate 8 0 ++ leBytes 2 0 ++ leBytes 2 0 ++ leBytes 2 1 ++ leBytes 2 1 ++ List.replicate 8 0 ++ leBytes 8 0x1000000 ++ List.replicate 8 0 ++ leBytes 4 64 ++ leBytes 2 1 ++ leBytes 2 1 ++ List.replicate 8 0 ++ leBytes 2 0 ++ leBytes 2 0 ++ leBytes 2 1 ++ leBytes 2 1), ⟨0x1402, .s, leBytes 8 0x1000000 ++ List.replicate 8 0 ++ leBytes 4 64 ++ leBytes 2 1 ++ leBytes 2 1 ++ List.replicate 8 0 ++ leBytes 2 0 ++ leBytes 2 0 ++ leBytes 2 1 ++ leBytes 2 1 ++ List.replicate 8 0 ++ leBytes 8 0x1000000 ++ List.replicate 8 0 ++ leBytes 4 64 ++ leBytes 2 1 ++ leBytes 2 1 ++ List.replicate 8 0 ++ leBytes 2 0 ++ leBytes 2 0 ++ leBytes 2 1 ++ leBytes 2 1, [], [], none⟩, ((at5 (pk .s 0x1402 (leBytes 8 0x1000000 ++ List.replicate 8 0 ++ leBytes 4 64 ++ leBytes 2 1 ++ leBytes 2 1 ++ List.replicate 8 0 ++ leBytes 2 0 ++ leBytes 2 0 ++ leBytes 2 1 ++ leBytes 2 1 ++ List.replicate 8 0 ++ leBytes 8 0x1000000 ++ List.replicate 8 0 ++ leBytes 4 64 ++ leBytes 2 1 ++ leBytes 2 1 ++ List.replicate 8 0 ++ leBytes 2 0 ++ leBytes 2 0 ++ leBytes 2 1 ++ leBytes 2 1)) (grants 0 (gr (.packet 5)) z)).graverCtx (pk .s 0x1402 (leBytes 8 0x1000000 ++ List.replicate 8 0 ++ leBytes 4 64 ++ leBytes 2 1 ++ leBytes 2 1 ++ List.replicate 8 0 ++ leBytes 2 0 ++ leBytes 2 0 ++ leBytes 2 1 ++ leBytes 2 1 ++ List.replicate 8 0 ++ leBytes 8 0x1000000 ++ List.replicate 8 0 ++ leBytes 4 64 ++ leBytes 2 1 ++ leBytes 2 1 ++ List.replicate 8 0 ++ leBytes 2 0 ++ leBytes 2 0 ++ leBytes 2 1 ++ leBytes 2 1))).2, [0], 1, (State.drawGroups ((⟨0x1402, .s, leBytes 8 0x1000000 ++ List.replicate 8 0 ++ leBytes 4 64 ++ leBytes 2 1 ++ leBytes 2 1 ++ List.replicate 8 0 ++ leBytes 2 0 ++ leBytes 2 0 ++ leBytes 2 1 ++ leBytes 2 1 ++ List.replicate 8 0 ++ leBytes 8 0x1000000 ++ List.replicate 8 0 ++ leBytes 4 64 ++ leBytes 2 1 ++ leBytes 2 1 ++ List.replicate 8 0 ++ leBytes 2 0 ++ leBytes 2 0 ++ leBytes 2 1 ++ leBytes 2 1, [], [], none⟩ : GCtx)) (rectAt (pk .s 0x1402 (leBytes 8 0x1000000 ++ List.replicate 8 0 ++ leBytes 4 64 ++ leBytes 2 1 ++ leBytes 2 1 ++ List.replicate 8 0 ++ leBytes 2 0 ++ leBytes 2 0 ++ leBytes 2 1 ++ leBytes 2 1 ++ List.replicate 8 0 ++ leBytes 8 0x1000000 ++ List.replicate 8 0 ++ leBytes 4 64 ++ leBytes 2 1 ++ leBytes 2 1 ++ List.replicate 8 0 ++ leBytes 2 0 ++ leBytes 2 0 ++ leBytes 2 1 ++ leBytes 2 1)).pkt.params 32).w [([0])] 0 (((at5 (pk .s 0x1402 (leBytes 8 0x1000000 ++ List.replicate 8 0 ++ leBytes 4 64 ++ leBytes 2 1 ++ leBytes 2 1 ++ List.replicate 8 0 ++ leBytes 2 0 ++ leBytes 2 0 ++ leBytes 2 1 ++ leBytes 2 1 ++ List.replicate 8 0 ++ leBytes 8 0x1000000 ++ List.replicate 8 0 ++ leBytes 4 64 ++ leBytes 2 1 ++ leBytes 2 1 ++ List.replicate 8 0 ++ leBytes 2 0 ++ leBytes 2 0 ++ leBytes 2 1 ++ leBytes 2 1)) (grants 0 (gr (.packet 5)) z)).graverCtx (pk .s 0x1402 (leBytes 8 0x1000000 ++ List.replicate 8 0 ++ leBytes 4 64 ++ leBytes 2 1 ++ leBytes 2 1 ++ List.replicate 8 0 ++ leBytes 2 0 ++ leBytes 2 0 ++ leBytes 2 1 ++ leBytes 2 1 ++ List.replicate 8 0 ++ leBytes 8 0x1000000 ++ List.replicate 8 0 ++ leBytes 4 64 ++ leBytes 2 1 ++ leBytes 2 1 ++ List.replicate 8 0 ++ leBytes 2 0 ++ leBytes 2 0 ++ leBytes 2 1 ++ leBytes 2 1))).2)).2.2, ⟨by simp [drawOps], by decide +kernel, by decide +kernel, by decide +kernel, by decide +kernel, ok_of (by decide +kernel), by decide +kernel, by decide +kernel, by decide +kernel⟩⟩⟩

theorem witness_BlendModesKeepTheirMeaning :
    (∃ (a : Pix) (b : Pix), a.r ≤ 1023 ∧ a.g ≤ 1023 ∧ a.b ≤ 1023 ∧ a.q ≤ 1023 ∧ b.r ≤ 1023 ∧ b.g ≤ 1023 ∧ b.b ≤ 1023 ∧ b.q ≤ 1023 ∧ a.q = 1023) ∧
    (∃ (a : Pix) (b : Pix), a.r ≤ 1023 ∧ a.g ≤ 1023 ∧ a.b ≤ 1023 ∧ a.q ≤ 1023 ∧ b.r ≤ 1023 ∧ b.g ≤ 1023 ∧ b.b ≤ 1023 ∧ b.q ≤ 1023 ∧ a.q = 0) ∧
    (∃ (a : Pix) (b : Pix), a.r ≤ 1023 ∧ a.g ≤ 1023 ∧ a.b ≤ 1023 ∧ a.q ≤ 1023 ∧ b.r ≤ 1023 ∧ b.g ≤ 1023 ∧ b.b ≤ 1023 ∧ b.q ≤ 1023) :=
  ⟨⟨⟨1023, 1023, 1023, 1023⟩, ⟨0, 0, 0, 0⟩, by decide +kernel⟩,
   ⟨⟨0, 0, 0, 0⟩, ⟨1023, 1023, 1023, 1023⟩, by decide +kernel⟩,
   ⟨⟨1023, 1023, 1023, 1023⟩, ⟨1023, 1023, 1023, 1023⟩, by decide +kernel⟩⟩

theorem witness_GraverStripsPalettesAndContexts :
    (∃ (s : State) (k : Nat) (u : Nat) (p : Started), s.place k = some p ∧ s.holdsIn (.packet k) 0 = some u ∧ p.result = none ∧ p.progress % 2 = 1 ∧ p.pkt.opcode / 1024 = 5 ∧ (stripRows p.pkt.opcode p.pkt.params).length ≤ p.progress / 2 % 2 ^ 16 + 1) ∧
    (∃ (s : State) (s1 : State) (k : Nat) (u : Nat) (p : Started) (l : List Byte), s.opAt k 0x1409 = some p ∧ s.holdsIn (.packet k) 0 = some u ∧ s.unitRead (ringWho p.ring) (p.p64 0) 1024 = (.ok l, s1)) ∧
    (∃ (s : State) (s1 : State) (k : Nat) (u : Nat) (p : Started), s.opAt k 0x140A = some p ∧ s.holdsIn (.packet k) 0 = some u ∧ s.betweenStrips p.ring = false ∧ s.unitWrite (ringWho p.ring) (p.p64 0) (s.sealContext p.ring 5 1 (s.grvPalette p.ring ++ List.replicate 64 0)) = (none, s1)) ∧
    (∃ (s : State) (s1 : State) (k : Nat) (u : Nat) (p : Started) (l : List Byte), s.opAt k 0x140B = some p ∧ s.holdsIn (.packet k) 0 = some u ∧ s.betweenStrips p.ring = false ∧ s.unitRead (ringWho p.ring) (p.p64 0) 1104 = (.ok l, s1) ∧ s1.contextFault p.ring 5 1 l = none) ∧
    (∃ (s : State) (s1 : State) (k : Nat) (u : Nat) (p : Started) (l : List Byte) (st : Nat), s.opAt k 0x140B = some p ∧ s.holdsIn (.packet k) 0 = some u ∧ s.betweenStrips p.ring = false ∧ s.unitRead (ringWho p.ring) (p.p64 0) 1104 = (.ok l, s1) ∧ s1.contextFault p.ring 5 1 l = some st) ∧
    (∃ (s : State) (who : Who), s.mayRwm who = true ∧ s.gatedAt Reg.GRV_CTXBASE_HI = false) ∧
    (∃ (s : State) (who : Who), s.mayRwm who = true ∧ s.gatedAt Reg.GRV_CTXBASE_LO = false) :=
  ⟨⟨at5 (pk .s 0x1400 (leBytes 8 0x1000000 ++ List.replicate 8 0 ++ leBytes 4 64 ++ leBytes 2 1 ++ leBytes 2 1 ++ List.replicate 8 0 ++ leBytes 2 0 ++ leBytes 2 0 ++ leBytes 2 1 ++ leBytes 2 1) 1) (grants 0 (gr (.packet 5)) z), 5, 0, pk .s 0x1400 (leBytes 8 0x1000000 ++ List.replicate 8 0 ++ leBytes 4 64 ++ leBytes 2 1 ++ leBytes 2 1 ++ List.replicate 8 0 ++ leBytes 2 0 ++ leBytes 2 0 ++ leBytes 2 1 ++ leBytes 2 1) 1, by decide +kernel⟩,
   ⟨at5 (pk .s 0x1409 (leBytes 8 0x1000000)) (grants 0 (gr (.packet 5)) z), ((at5 (pk .s 0x1409 (leBytes 8 0x1000000)) (grants 0 (gr (.packet 5)) z)).unitRead (ringWho (pk .s 0x1409 (leBytes 8 0x1000000)).ring) ((pk .s 0x1409 (leBytes 8 0x1000000)).p64 0) 1024).2, 5, 0, pk .s 0x1409 (leBytes 8 0x1000000), List.replicate 1024 0, ⟨by decide +kernel, by decide +kernel, ok_of (by decide +kernel)⟩⟩,
   ⟨at5 (pk .s 0x140A (leBytes 8 0x1000000)) (grants 0 (gr (.packet 5)) z), ((at5 (pk .s 0x140A (leBytes 8 0x1000000)) (grants 0 (gr (.packet 5)) z)).unitWrite (ringWho (pk .s 0x140A (leBytes 8 0x1000000)).ring) ((pk .s 0x140A (leBytes 8 0x1000000)).p64 0) ((at5 (pk .s 0x140A (leBytes 8 0x1000000)) (grants 0 (gr (.packet 5)) z)).sealContext (pk .s 0x140A (leBytes 8 0x1000000)).ring 5 1 ((at5 (pk .s 0x140A (leBytes 8 0x1000000)) (grants 0 (gr (.packet 5)) z)).grvPalette (pk .s 0x140A (leBytes 8 0x1000000)).ring ++ List.replicate 64 0))).2, 5, 0, pk .s 0x140A (leBytes 8 0x1000000), ⟨by decide +kernel, by decide +kernel, by decide +kernel, none_of (by decide +kernel)⟩⟩,
   ⟨at5 (pk .s 0x140B (leBytes 8 0x1000000)) ((grants 0 (gr (.packet 5)) z).putBytes 0x1000000 (z.sealContext .s 5 1 (List.replicate 1088 0))), ((at5 (pk .s 0x140B (leBytes 8 0x1000000)) ((grants 0 (gr (.packet 5)) z).putBytes 0x1000000 (z.sealContext .s 5 1 (List.replicate 1088 0)))).unitRead (ringWho (pk .s 0x140B (leBytes 8 0x1000000)).ring) ((pk .s 0x140B (leBytes 8 0x1000000)).p64 0) 1104).2, 5, 0, pk .s 0x140B (leBytes 8 0x1000000), okVal ((at5 (pk .s 0x140B (leBytes 8 0x1000000)) ((grants 0 (gr (.packet 5)) z).putBytes 0x1000000 (z.sealContext .s 5 1 (List.replicate 1088 0)))).unitRead (ringWho (pk .s 0x140B (leBytes 8 0x1000000)).ring) ((pk .s 0x140B (leBytes 8 0x1000000)).p64 0) 1104).1, ⟨by decide +kernel, by decide +kernel, by decide +kernel, ok_val (by decide +kernel), by decide +kernel⟩⟩,
   ⟨at5 (pk .s 0x140B (leBytes 8 0x1000000)) (grants 0 (gr (.packet 5)) z), ((at5 (pk .s 0x140B (leBytes 8 0x1000000)) (grants 0 (gr (.packet 5)) z)).unitRead (ringWho (pk .s 0x140B (leBytes 8 0x1000000)).ring) ((pk .s 0x140B (leBytes 8 0x1000000)).p64 0) 1104).2, 5, 0, pk .s 0x140B (leBytes 8 0x1000000), okVal ((at5 (pk .s 0x140B (leBytes 8 0x1000000)) (grants 0 (gr (.packet 5)) z)).unitRead (ringWho (pk .s 0x140B (leBytes 8 0x1000000)).ring) ((pk .s 0x140B (leBytes 8 0x1000000)).p64 0) 1104).1, St.range, ⟨by decide +kernel, by decide +kernel, by decide +kernel, ok_val (by decide +kernel), by decide +kernel⟩⟩,
   ⟨z, .med, by decide +kernel⟩,
   ⟨z, .med, by decide +kernel⟩⟩

theorem witness_ArbiterGrantsTakesAndReleases :
    (∃ (s : State) (q : Requester) (pool : Nat) (u : Nat) (g : Grant), s.mayRequest q pool = true ∧ (s.queue pool ++ s.outside pool).any (fun x => x.holder == q) = false ∧ s.heldBy q = some (u, g) ∧ g.locked = true) ∧
    (∃ (s : State) (q : Requester) (pool : Nat) (lockNs : Option Nat), s.mayRequest q pool = true ∧ (s.queue pool ++ s.outside pool).any (fun x => x.holder == q) = false ∧ s.heldBy q = none ∧ (s.lockAsked q pool lockNs).2 = true) ∧
    (∃ (s : State) (q : Requester) (pool : Nat) (lockNs : Option Nat), s.mayRequest q pool = true ∧ (s.queue pool ++ s.outside pool).any (fun x => x.holder == q) = false ∧ s.heldBy q = none ∧ (s.lockAsked q pool lockNs).2 = false) ∧
    (∃ (s : State) (u : Nat) (g : Grant), s.grant u = some g ∧ g.stopping = true) ∧
    (∃ (s : State) (u : Nat) (r : Nat) (id : Nat) (g : Grant), s.grant u = some g ∧ g.holder = .task r id) ∧
    (∃ (s : State) (u : Nat) (k : Nat) (g : Grant) (p : Started), s.grant u = some g ∧ g.holder = .packet k ∧ s.place k = some p ∧ p.result ≠ none) ∧
    (∃ (s : State) (u : Nat) (g : Grant), u < 14 ∧ s.grant u = some g ∧ g.locked = true ∧ g.overran = false ∧ s.passed g.since (s.lockMaxNs (poolOf u)) = true) :=
  ⟨⟨at5 (pk .s 0x1400) (grants 1 { gr (.packet 5) with locked := true } z), .packet 5, 0, 1, { gr (.packet 5) with locked := true }, by decide +kernel⟩,
   ⟨z, .task 1 0, 0, some (10 ^ 12), by decide +kernel⟩,
   ⟨z, .task 1 0, 0, none, by decide +kernel⟩,
   ⟨grants 13 { gr (.task 0 0) with stopping := true } z, 13, { gr (.task 0 0) with stopping := true }, by decide +kernel⟩,
   ⟨grants 13 (gr (.task 0 0)) z, 13, 0, 0, gr (.task 0 0), by decide +kernel⟩,
   ⟨at5 { pk .s 0x1400 with result := some ⟨0, 0, 0, 0, 0⟩ } (grants 0 (gr (.packet 5)) z), 0, 5, gr (.packet 5), { pk .s 0x1400 with result := some ⟨0, 0, 0, 0, 0⟩ }, by decide +kernel⟩,
   ⟨{ grants 13 { gr (.task 0 0) with locked := true } z with cyc := 10 ^ 12 }, 13, { gr (.task 0 0) with locked := true }, by decide +kernel⟩⟩

theorem witness_QueuesKeepTheirOrder :
    ∃ (q : List Request), q.Pairwise (fun a b => ¬ b.before a = true) :=
  ⟨[⟨.task 0 0, 0, false, 0, false, 0⟩, ⟨.task 1 0, 1, false, 0, false, 1⟩], by decide +kernel⟩

theorem witness_HallmarkRunsEndWithTheirValue :
    (∃ (s : State) (s1 : State) (k : Nat) (u : Nat) (p : Started) (r : HallRun), s.opAt k 0x2800 = some p ∧ s.holdsIn (.packet k) 1 = some u ∧ p.p8 0 = 0 ∧ hallInput (hallModel p.pkt.params) (ringWho p.ring) none 0 (hallSegments p.pkt.params) ⟨p.p64 16, [], 0, 0⟩ s = (none, r, s1)) ∧
    (∃ (s : State) (k : Nat) (u : Nat) (p : Started), s.opAt k 0x2800 = some p ∧ s.holdsIn (.packet k) 1 = some u ∧ p.p8 0 = 2 ∧ hallTotal p.pkt.params < (hallModel p.pkt.params).k) ∧
    (∃ (s : State) (k : Nat) (p : Started), s.opAt k 0x2801 = some p) :=
  ⟨⟨at5 (pk .s 0x2800 ([0, 32, 0, 1] ++ List.replicate 4 0 ++ leBytes 8 0x04C11DB7 ++ List.replicate 32 0 ++ leBytes 8 0x1000000 ++ leBytes 4 1)) (grants 4 (gr (.packet 5)) z), (hallInput (hallModel (pk .s 0x2800 ([0, 32, 0, 1] ++ List.replicate 4 0 ++ leBytes 8 0x04C11DB7 ++ List.replicate 32 0 ++ leBytes 8 0x1000000 ++ leBytes 4 1)).pkt.params) (ringWho (pk .s 0x2800 ([0, 32, 0, 1] ++ List.replicate 4 0 ++ leBytes 8 0x04C11DB7 ++ List.replicate 32 0 ++ leBytes 8 0x1000000 ++ leBytes 4 1)).ring) none 0 (hallSegments (pk .s 0x2800 ([0, 32, 0, 1] ++ List.replicate 4 0 ++ leBytes 8 0x04C11DB7 ++ List.replicate 32 0 ++ leBytes 8 0x1000000 ++ leBytes 4 1)).pkt.params) ⟨(pk .s 0x2800 ([0, 32, 0, 1] ++ List.replicate 4 0 ++ leBytes 8 0x04C11DB7 ++ List.replicate 32 0 ++ leBytes 8 0x1000000 ++ leBytes 4 1)).p64 16, [], 0, 0⟩ (at5 (pk .s 0x2800 ([0, 32, 0, 1] ++ List.replicate 4 0 ++ leBytes 8 0x04C11DB7 ++ List.replicate 32 0 ++ leBytes 8 0x1000000 ++ leBytes 4 1)) (grants 4 (gr (.packet 5)) z))).2.2, 5, 4, pk .s 0x2800 ([0, 32, 0, 1] ++ List.replicate 4 0 ++ leBytes 8 0x04C11DB7 ++ List.replicate 32 0 ++ leBytes 8 0x1000000 ++ leBytes 4 1), (hallInput (hallModel (pk .s 0x2800 ([0, 32, 0, 1] ++ List.replicate 4 0 ++ leBytes 8 0x04C11DB7 ++ List.replicate 32 0 ++ leBytes 8 0x1000000 ++ leBytes 4 1)).pkt.params) (ringWho (pk .s 0x2800 ([0, 32, 0, 1] ++ List.replicate 4 0 ++ leBytes 8 0x04C11DB7 ++ List.replicate 32 0 ++ leBytes 8 0x1000000 ++ leBytes 4 1)).ring) none 0 (hallSegments (pk .s 0x2800 ([0, 32, 0, 1] ++ List.replicate 4 0 ++ leBytes 8 0x04C11DB7 ++ List.replicate 32 0 ++ leBytes 8 0x1000000 ++ leBytes 4 1)).pkt.params) ⟨(pk .s 0x2800 ([0, 32, 0, 1] ++ List.replicate 4 0 ++ leBytes 8 0x04C11DB7 ++ List.replicate 32 0 ++ leBytes 8 0x1000000 ++ leBytes 4 1)).p64 16, [], 0, 0⟩ (at5 (pk .s 0x2800 ([0, 32, 0, 1] ++ List.replicate 4 0 ++ leBytes 8 0x04C11DB7 ++ List.replicate 32 0 ++ leBytes 8 0x1000000 ++ leBytes 4 1)) (grants 4 (gr (.packet 5)) z))).2.1, ⟨by decide +kernel, by decide +kernel, by decide +kernel, by decide +kernel⟩⟩,
   ⟨at5 (pk .s 0x2800 ([2, 64])) (grants 4 (gr (.packet 5)) z), 5, 4, pk .s 0x2800 ([2, 64]), by decide +kernel⟩,
   ⟨at5 (pk .s 0x2801 ([])), 5, pk .s 0x2801 ([]), by decide +kernel⟩⟩

theorem witness_CheckValuesComposeAndReverse :
    (∃ (w : Nat) (v : Nat), v < 2 ^ w) ∧
    (∃ (m : HallModel) (v : Nat), 0 < m.w ∧ m.w ≤ 64 ∧ v < 2 ^ m.w) :=
  ⟨⟨64, 2 ^ 64 - 1, by decide +kernel⟩,
   ⟨⟨64, 2 ^ 64 - 1, 0, true, true, true⟩, 2 ^ 64 - 1, by decide +kernel⟩⟩

theorem witness_TouchScansRunTheirWindows :
    (∃ (s : State) (p : Nat), p < 8 ∧ s.flag F.TCH_CFG_ENABLE p = true ∧ s.fld F.TCH_STAT_STATE p = 2 ∧ (s.panel p).scan = none ∧ (s.panel p).needSurvey = false ∧ (s.panel p).div (s.fld F.TCH_STAT_LEVEL p) ≤ (s.panel p).skipped + 1 ∧ s.windowsFit p 1 = true) ∧
    (∃ (s : State) (p : Nat), p < 8 ∧ s.flag F.TCH_CFG_ENABLE p = true ∧ s.fld F.TCH_STAT_STATE p = 2 ∧ (s.panel p).scan = none ∧ (s.panel p).needSurvey = false ∧ (s.panel p).skipped + 1 < (s.panel p).div (s.fld F.TCH_STAT_LEVEL p)) ∧
    (∃ (s : State) (p : Nat) (sc : Scan), (s.panel p).scan = some sc ∧ sc.waiting = false ∧ sc.done < sc.windows) ∧
    (∃ (s : State) (p : Nat), s.fld F.TCH_STAT_STATE p = 2) ∧
    (∃ (s : State) (p : Nat), p < 8 ∧ (s.panel p).surveyDue = true) :=
  ⟨⟨((z.setFld F.TCH_CFG_ENABLE 1 7).setFld F.TCH_STAT_STATE 2 7), 7, by decide +kernel⟩,
   ⟨((z.setFld F.TCH_CFG_ENABLE 1 7).setFld F.TCH_STAT_STATE 2 7).setFld F.TCH_STAT_LEVEL 1 7, 7, by decide +kernel⟩,
   ⟨z.setPanel 7 { Panel.blank with scan := some ⟨2, 1, false, false, none, 0, 0⟩ }, 7, ⟨2, 1, false, false, none, 0, 0⟩, by decide +kernel⟩,
   ⟨((z.setFld F.TCH_CFG_ENABLE 1 7).setFld F.TCH_STAT_STATE 2 7), 7, by decide +kernel⟩,
   ⟨z.setPanel 7 { Panel.blank with surveyDue := true }, 7, by decide +kernel⟩⟩

theorem witness_TouchAcquiresAndDecides :
    (∃ (s : State) (p : Nat), s.flag F.TCH_CFG_ENABLE p = true ∧ ((s.panel p).surveyDue = true ∨ (s.panel p).needSurvey = true) ∧ (s.panel p).scan = none) ∧
    (∃ (s : State) (p : Nat) (sc : Scan), (s.panel p).scan = some sc ∧ sc.windows ≤ sc.done ∧ s.fld F.TCH_STAT_STATE p = 1 ∧ (s.panel p).acquire.acqScans < 4) ∧
    (∃ (s : State) (p : Nat) (sc : Scan), (s.panel p).scan = some sc ∧ sc.windows ≤ sc.done ∧ s.fld F.TCH_STAT_STATE p = 1 ∧ 4 ≤ (s.panel p).acquire.acqScans) ∧
    (∃ (s : State) (p : Nat) (sc : Scan), (s.panel p).scan = some sc ∧ sc.windows ≤ sc.done ∧ s.fld F.TCH_STAT_STATE p = 2) :=
  ⟨⟨(z.setFld F.TCH_CFG_ENABLE 1 7).setPanel 7 { Panel.blank with needSurvey := true }, 7, by decide +kernel⟩,
   ⟨(z.setFld F.TCH_STAT_STATE 1 7).setPanel 7 { Panel.blank with scan := some ⟨1, 1, false, false, none, 0, 0⟩, acqScans := 2 }, 7, ⟨1, 1, false, false, none, 0, 0⟩, by decide +kernel⟩,
   ⟨(z.setFld F.TCH_STAT_STATE 1 7).setPanel 7 { Panel.blank with scan := some ⟨1, 1, false, false, none, 0, 0⟩, acqScans := 3 }, 7, ⟨1, 1, false, false, none, 0, 0⟩, by decide +kernel⟩,
   ⟨(z.setFld F.TCH_STAT_STATE 2 7).setPanel 7 { Panel.blank with scan := some ⟨1, 1, false, false, none, 0, 0⟩ }, 7, ⟨1, 1, false, false, none, 0, 0⟩, by decide +kernel⟩⟩

theorem witness_TouchReportsAndTimers :
    (∃ (s : State) (p : Nat) (body : List Byte) (r : RepRing), s.paused = false ∧ (s.panel p).report = some body ∧ (s.panel p).ringS = some r ∧ (s.panel p).ringC = none) ∧
    (∃ (s : State) (t : State) (body : List Byte) (r : RepRing), s.unitWrite .s (r.base + 384 * r.index) (leBytes 2 r.seq ++ body) = (none, t)) ∧
    (∃ (s : State) (p : Nat) (id : Nat) (c : Contact), (s.panel p).contacts.find? (fun c => c.id == id) = some c ∧ c.persistent = false ∧ s.passed c.since ((s.panel p).persistS * 1000000000) = true) ∧
    (∃ (s : State) (p : Nat), s.fld F.TCH_STAT_STATE p = 2 ∧ (∀ c, c ∈ (s.panel p).contacts → c.persistent = true) ∧ s.fld F.TCH_STAT_LEVEL p < (s.panel p).levelAfter (s.cyc - (s.panel p).idleSince)) ∧
    (∃ (s : State) (p : Nat) (wins : List (List (Bool × List Nat))), s.fld F.PWR_STATE_STATE = 3 ∧ s.flag F.PWR_WAKE_PANEL_EN = true ∧ s.fld F.PWR_WAKE_PANEL = p ∧ s.fld F.TCH_STAT_STATE p = 3 ∧ wins.length = (s.panel p).windows) :=
  ⟨⟨z.setPanel 7 { Panel.blank with report := some [1], ringS := some (⟨0x1000000, 4, 0, 0⟩ : RepRing) }, 7, [1], (⟨0x1000000, 4, 0, 0⟩ : RepRing), by decide +kernel⟩,
   ⟨z, ((z).unitWrite .s (((⟨0x1000000, 4, 0, 0⟩ : RepRing)).base + 384 * ((⟨0x1000000, 4, 0, 0⟩ : RepRing)).index) (leBytes 2 ((⟨0x1000000, 4, 0, 0⟩ : RepRing)).seq ++ ([1]))).2, [1], (⟨0x1000000, 4, 0, 0⟩ : RepRing), none_of (by decide +kernel)⟩,
   ⟨{ z.setPanel 7 { Panel.blank with contacts := [⟨31, 0, 0, 0, 0, 0, 0, 0, 0, 0, false, none, 0, false, false, false, false⟩] } with cyc := nsCycles (600 * 1000000000) }, 7, 31, ⟨31, 0, 0, 0, 0, 0, 0, 0, 0, 0, false, none, 0, false, false, false, false⟩, by decide +kernel⟩,
   ⟨{ ((z.setFld F.TCH_CFG_ENABLE 1 7).setFld F.TCH_STAT_STATE 2 7).setPanel 7 { Panel.blank with contacts := [⟨31, 0, 0, 0, 0, 0, 0, 0, 0, 0, true, none, 0, false, false, false, false⟩] } with cyc := 10 ^ 12 }, 7, by decide +kernel⟩,
   ⟨(((z.setFld F.PWR_STATE_STATE 3).setFld F.PWR_WAKE_PANEL_EN 1).setFld F.PWR_WAKE_PANEL 7).setFld F.TCH_STAT_STATE 3 7, 7, [[]], by decide +kernel⟩⟩

theorem witness_TouchOperationsSetUpPanels :
    (∃ (s : State) (k : Nat) (q : Started), s.opAt k 0x1800 = some q ∧ (q.ring = .med → s.safetyPanel (q.p8 0) = false) ∧ s.flag F.TCH_CFG_ENABLE (q.p8 0) = false ∧ (bit (leAt (q.pkt.params.take 24) 1 1) 0 = true → s.linesTaken (q.p8 0) (q.pkt.params.take 24) = false)) ∧
    (∃ (s : State) (k : Nat) (q : Started), s.opAt k 0x1801 = some q ∧ (q.ring = .med → s.safetyPanel (q.p8 0) = false)) ∧
    (∃ (s : State) (k : Nat) (q : Started), s.opAt k 0x1802 = some q ∧ s.namesPanel q.ring (q.p8 0) = true ∧ q.p8 1 ≠ 0 ∧ q.ring = .s) ∧
    (∃ (s : State) (k : Nat) (q : Started), s.opAt k 0x1802 = some q ∧ s.namesPanel q.ring (q.p8 0) = true ∧ q.p8 1 ≠ 0 ∧ q.ring ≠ .s) ∧
    (∃ (s : State) (k : Nat) (q : Started), s.opAt k 0x1803 = some q ∧ (q.ring ≠ .s → s.zoneDenied q (s.zone (q.p16 0)) = false) ∧ (s.zone (q.p16 0) = none ∨ ∃ z, s.zone (q.p16 0) = some z ∧ z.owner = q.ring)) ∧
    (∃ (s : State) (k : Nat) (q : Started) (c : Contact), s.opAt k 0x1804 = some q ∧ q.ring = .s ∧ (s.panel (q.p8 0)).contacts.find? (fun c => c.id == q.p8 1) = some c ∧ c.persistent = true) ∧
    (∃ (s : State) (k : Nat) (q : Started), s.opAt k 0x1805 = some q ∧ (q.ring = .med → s.safetyPanel (q.p8 0) = false) ∧ s.flag F.TCH_CFG_ENABLE (q.p8 0) = true) ∧
    (∃ (s : State) (k : Nat) (q : Started), s.opAt k 0x1806 = some q ∧ s.namesPanel q.ring (q.p8 0) = true) :=
  ⟨⟨at5 (pk .s 0x1800 ([7])), 5, pk .s 0x1800 ([7]), by decide +kernel⟩,
   ⟨at5 (pk .s 0x1801 ([7])), 5, pk .s 0x1801 ([7]), by decide +kernel⟩,
   ⟨at5 (pk .s 0x1802 ([7, 1])), 5, pk .s 0x1802 ([7, 1]), by decide +kernel⟩,
   ⟨at5 (pk (.client 4095) 0x1802 ([7, 1])) ({ z with cl := { z.cl with holders := [(135, some 4095)] } }), 5, pk (.client 4095) 0x1802 ([7, 1]), by decide +kernel⟩,
   ⟨at5 (pk .s 0x1803 ([0xFF, 0])), 5, pk .s 0x1803 ([0xFF, 0]), ⟨by decide +kernel, by decide +kernel, Or.inl (by decide +kernel)⟩⟩,
   ⟨at5 (pk .s 0x1804 ([7, 31])) (z.setPanel 7 { Panel.blank with contacts := [⟨31, 0, 0, 0, 0, 0, 0, 0, 0, 0, true, none, 0, false, false, false, false⟩] }), 5, pk .s 0x1804 ([7, 31]), ⟨31, 0, 0, 0, 0, 0, 0, 0, 0, 0, true, none, 0, false, false, false, false⟩, by decide +kernel⟩,
   ⟨at5 (pk .s 0x1805 ([7])) (((z.setFld F.TCH_CFG_ENABLE 1 7).setFld F.TCH_STAT_STATE 2 7)), 5, pk .s 0x1805 ([7]), by decide +kernel⟩,
   ⟨at5 (pk .s 0x1806 ([7])), 5, pk .s 0x1806 ([7]), by decide +kernel⟩⟩

theorem witness_TouchOperationsSetUpPanels_2 :
    (∃ (s : State) (t : State) (k : Nat) (q : Started), s.opAt k 0x1807 = some q ∧ s.unitWrite (ringWho q.ring) (q.p64 8) (s.sealContext .med 6 1 ((s.panel (q.p8 0)).params ++ (s.panel (q.p8 0)).tune ++ List.replicate 56 0)) = (none, t)) ∧
    (∃ (s : State) (t : State) (k : Nat) (q : Started) (l : List Byte), s.opAt k 0x1808 = some q ∧ s.safetyPanel (q.p8 0) = false ∧ s.flag F.TCH_CFG_ENABLE (q.p8 0) = false ∧ s.unitRead (ringWho q.ring) (q.p64 8) 128 = (.ok l, t) ∧ t.contextFault .med 6 1 l = none ∧ (bit (leAt (BitVec.ofNat 8 (q.p8 0) :: (l.drop 17).take 23) 1 1) 0 = true → t.linesTaken (q.p8 0) (BitVec.ofNat 8 (q.p8 0) :: (l.drop 17).take 23) = false)) ∧
    (∃ (s : State) (k : Nat) (q : Started), s.opAt k 0x1800 = some q ∧ q.ring = .med ∧ s.safetyPanel (q.p8 0) = true) ∧
    (∃ (s : State) (k : Nat) (q : Started), s.opAt k 0x1803 = some q ∧ q.ring ≠ .s ∧ s.zoneDenied q (s.zone (q.p16 0)) = true) :=
  ⟨⟨at5 (pk .s 0x1807 ([7, 0, 0, 0, 0, 0, 0, 0] ++ leBytes 8 0x1000000)), ((at5 (pk .s 0x1807 ([7, 0, 0, 0, 0, 0, 0, 0] ++ leBytes 8 0x1000000))).unitWrite (ringWho (pk .s 0x1807 ([7, 0, 0, 0, 0, 0, 0, 0] ++ leBytes 8 0x1000000)).ring) ((pk .s 0x1807 ([7, 0, 0, 0, 0, 0, 0, 0] ++ leBytes 8 0x1000000)).p64 8) ((at5 (pk .s 0x1807 ([7, 0, 0, 0, 0, 0, 0, 0] ++ leBytes 8 0x1000000))).sealContext .med 6 1 (((at5 (pk .s 0x1807 ([7, 0, 0, 0, 0, 0, 0, 0] ++ leBytes 8 0x1000000))).panel ((pk .s 0x1807 ([7, 0, 0, 0, 0, 0, 0, 0] ++ leBytes 8 0x1000000)).p8 0)).params ++ ((at5 (pk .s 0x1807 ([7, 0, 0, 0, 0, 0, 0, 0] ++ leBytes 8 0x1000000))).panel ((pk .s 0x1807 ([7, 0, 0, 0, 0, 0, 0, 0] ++ leBytes 8 0x1000000)).p8 0)).tune ++ List.replicate 56 0))).2, 5, pk .s 0x1807 ([7, 0, 0, 0, 0, 0, 0, 0] ++ leBytes 8 0x1000000), ⟨by decide +kernel, none_of (by decide +kernel)⟩⟩,
   ⟨at5 (pk .s 0x1808 ([7, 0, 0, 0, 0, 0, 0, 0] ++ leBytes 8 0x1000000)) (z.putBytes 0x1000000 (z.sealContext .med 6 1 (List.replicate 112 0))), ((at5 (pk .s 0x1808 ([7, 0, 0, 0, 0, 0, 0, 0] ++ leBytes 8 0x1000000)) (z.putBytes 0x1000000 (z.sealContext .med 6 1 (List.replicate 112 0)))).unitRead (ringWho (pk .s 0x1808 ([7, 0, 0, 0, 0, 0, 0, 0] ++ leBytes 8 0x1000000)).ring) ((pk .s 0x1808 ([7, 0, 0, 0, 0, 0, 0, 0] ++ leBytes 8 0x1000000)).p64 8) 128).2, 5, pk .s 0x1808 ([7, 0, 0, 0, 0, 0, 0, 0] ++ leBytes 8 0x1000000), (z.sealContext .med 6 1 (List.replicate 112 0)), ⟨by decide +kernel, by decide +kernel, by decide +kernel, ok_of (by decide +kernel), by decide +kernel, by decide +kernel⟩⟩,
   ⟨at5 (pk .med 0x1800 ([7])) (z.setFld F.TCH_CFG_SAFETY 1 7), 5, pk .med 0x1800 ([7]), by decide +kernel⟩,
   ⟨at5 (pk (.client 0) 0x1803 ([0xFF, 0, 7])) ({ z with touch := { z.touch with zones := [(255, some ⟨.s, 7, 1, 0, 0, 1, 1, 255, 0, 0, 255, 0, 0, 0⟩)] } }), 5, pk (.client 0) 0x1803 ([0xFF, 0, 7]), by decide +kernel⟩⟩

theorem witness_TriggersStartEffects :
    (∃ (s : State) (j : Nat), s.flag F.HAP_TRIG_CFG_ENABLE j = true ∧ bit (s.fld F.HAP_TRIG_CFG_EDGE j) 0 = true) ∧
    (∃ (s : State) (j : Nat), s.flag F.HAP_TRIG_CFG_ENABLE j = true ∧ bit (s.fld F.HAP_TRIG_CFG_EDGE j) 1 = true) ∧
    (∃ (s : State) (z : Nat) (h : ZoneAct), s.touch.haptics.find? (fun h => h.zone == z) = some h) ∧
    (∃ (s : State) (a : Nat) (e : Nat) (safety : Bool) (segs : List Seg) (rep : Nat), (s.safe = false ∨ safety = true) ∧ s.effectSegs e = some (segs, rep) ∧ s.actRefuses a safety = none) ∧
    (∃ (s : State) (a : Nat) (e : Nat) (safety : Bool) (segs : List Seg) (rep : Nat), (s.safe = false ∨ safety = true) ∧ s.effectSegs e = some (segs, rep) ∧ s.actRefuses a safety = some 1) ∧
    (∃ (s : State) (a : Nat) (e : Nat) (safety : Bool) (segs : List Seg) (rep : Nat) (n : Nat), (s.safe = false ∨ safety = true) ∧ s.effectSegs e = some (segs, rep) ∧ n ≠ 1 ∧ s.actRefuses a safety = some n) ∧
    (∃ (s : State) (a : Nat) (b : Nat), a < 8 ∧ (s.act a).run = none ∧ b ≠ a) :=
  ⟨⟨(z.setFld F.HAP_TRIG_CFG_ENABLE 1 7).setFld F.HAP_TRIG_CFG_EDGE 3 7, 7, by decide +kernel⟩,
   ⟨(z.setFld F.HAP_TRIG_CFG_ENABLE 1 7).setFld F.HAP_TRIG_CFG_EDGE 3 7, 7, by decide +kernel⟩,
   ⟨{ z with touch := { z.touch with haptics := [⟨255, 7, 1, false, .s⟩] } }, 255, ⟨255, 7, 1, false, .s⟩, by decide +kernel⟩,
   ⟨z.setFld F.HAP_CFG_ENABLE 1 7, 7, 127, false, romEffect 127, 0, by decide +kernel⟩,
   ⟨(z.setAct 7 { Act.blank with run := some ⟨1, .pin 0, true, [⟨128, 0, 20⟩, ⟨64, 1, 10⟩], 0, 1, false, 0, 0, 0, 0, 0⟩ }).setFld F.HAP_CFG_ENABLE 1 7, 7, 127, false, romEffect 127, 0, by decide +kernel⟩,
   ⟨z, 7, 127, false, romEffect 127, 0, 2, by decide +kernel⟩,
   ⟨z, 7, 6, by decide +kernel⟩⟩

theorem witness_SegmentsRunAndFaultsCoast :
    (∃ (s : State) (a : Nat) (e : Effect), (s.act a).run = some e ∧ e.idx + 1 < e.segs.length) ∧
    (∃ (s : State) (a : Nat) (e : Effect), (s.act a).run = some e ∧ e.segs.length ≤ e.idx + 1 ∧ 0 < e.rounds) ∧
    (∃ (s : State) (a : Nat) (e : Effect), (s.act a).run = some e ∧ e.segs.length ≤ e.idx + 1 ∧ e.rounds = 0 ∧ ((s.actWear a).doneEvent a e 0 |>.act a).learn = none) ∧
    (∃ (s : State) (a : Nat) (bemf : Nat) (e : Effect) (g : Seg), (s.act a).run = some e ∧ e.seg = some g ∧ g.phase = 1 ∧ 5 * (e.windows + 1) + 1 ≤ g.dur ∧ a < 8 ∧ s.flag F.HAP_STAT_SIG_VALID a = false ∧ bemf < 65536) ∧
    (∃ (s : State) (a : Nat) (ma : Nat) (e : Effect) (g : Seg) (c : Nat), (s.act a).openDue = some c ∧ (s.act a).run = some e ∧ e.seg = some g ∧ ma ≠ 0 ∧ a < 8 ∧ s.flag F.HAP_STAT_SIG_VALID a = false ∧ ((s.act a).duty < 3200 ∨ e.openMa ≤ ma)) ∧
    (∃ (s : State) (a : Nat) (ma : Nat), 600 < ma ∧ (s.act a).bridge.drives = true) ∧
    (∃ (a : Nat) (kind : Nat) (b : Nat), a < 8 ∧ kind < 4 ∧ b ≠ a) :=
  ⟨⟨(z.setAct 7 { Act.blank with run := some ⟨1, .pin 0, false, [⟨128, 0, 20⟩, ⟨64, 1, 10⟩], 0, 1, false, 0, 0, 0, 0, 0⟩ }), 7, ⟨1, .pin 0, false, [⟨128, 0, 20⟩, ⟨64, 1, 10⟩], 0, 1, false, 0, 0, 0, 0, 0⟩, by decide +kernel⟩,
   ⟨(z.setAct 7 { Act.blank with run := some ⟨1, .pin 0, false, [⟨128, 0, 20⟩, ⟨64, 1, 10⟩], 1, 1, false, 0, 0, 0, 0, 0⟩ }), 7, ⟨1, .pin 0, false, [⟨128, 0, 20⟩, ⟨64, 1, 10⟩], 1, 1, false, 0, 0, 0, 0, 0⟩, by decide +kernel⟩,
   ⟨(z.setAct 7 { Act.blank with run := some ⟨1, .pin 0, false, [⟨128, 0, 20⟩, ⟨64, 1, 10⟩], 1, 0, false, 0, 0, 0, 0, 0⟩ }), 7, ⟨1, .pin 0, false, [⟨128, 0, 20⟩, ⟨64, 1, 10⟩], 1, 0, false, 0, 0, 0, 0, 0⟩, by decide +kernel⟩,
   ⟨(z.setAct 7 { Act.blank with run := some ⟨1, .pin 0, false, [⟨64, 1, 6⟩], 0, 1, false, 0, 0, 0, 0, 0⟩ }), 7, 65535, ⟨1, .pin 0, false, [⟨64, 1, 6⟩], 0, 1, false, 0, 0, 0, 0, 0⟩, ⟨64, 1, 6⟩, by decide +kernel⟩,
   ⟨(z.setAct 7 { Act.blank with run := some ⟨1, .pin 0, false, [⟨64, 1, 6⟩], 0, 1, false, 0, 0, 0, 0, 0⟩, openDue := some 0 }), 7, 1, ⟨1, .pin 0, false, [⟨64, 1, 6⟩], 0, 1, false, 0, 0, 0, 0, 0⟩, ⟨64, 1, 6⟩, 0, by decide +kernel⟩,
   ⟨(z.setAct 7 { Act.blank with bridge := .forward }), 7, 601, by decide +kernel⟩,
   ⟨7, 3, 6, by decide +kernel⟩⟩

theorem witness_HapticOperationsPlayAndLoad :
    (∃ (s : State) (k : Nat) (q : Started) (segs : List Seg) (rep : Nat), s.opAt k 0x1C00 = some q ∧ s.namesAct q.ring (q.p8 0) = true ∧ q.p8 1 ≠ 0 ∧ (128 ≤ q.p8 1 → s.foreignWave q.ring (q.p8 1 - 128) = false) ∧ s.effectSegs (q.p8 1) = some (segs, rep) ∧ s.actRefuses (q.p8 0) (decide (q.ring = .s)) = none) ∧
    (∃ (s : State) (k : Nat) (q : Started) (segs : List Seg) (rep : Nat), s.opAt k 0x1C00 = some q ∧ s.namesAct q.ring (q.p8 0) = true ∧ q.p8 1 ≠ 0 ∧ (128 ≤ q.p8 1 → s.foreignWave q.ring (q.p8 1 - 128) = false) ∧ s.effectSegs (q.p8 1) = some (segs, rep) ∧ s.actRefuses (q.p8 0) (decide (q.ring = .s)) = some 1) ∧
    (∃ (s : State) (k : Nat) (q : Started) (segs : List Seg) (rep : Nat) (n : Nat), s.opAt k 0x1C00 = some q ∧ s.namesAct q.ring (q.p8 0) = true ∧ q.p8 1 ≠ 0 ∧ (128 ≤ q.p8 1 → s.foreignWave q.ring (q.p8 1 - 128) = false) ∧ s.effectSegs (q.p8 1) = some (segs, rep) ∧ n ≠ 1 ∧ s.actRefuses (q.p8 0) (decide (q.ring = .s)) = some n) ∧
    (∃ (s : State) (k : Nat) (q : Started), s.opAt k 0x1C00 = some q ∧ s.namesAct q.ring (q.p8 0) = false) ∧
    (∃ (s : State) (k : Nat) (q : Started), s.opAt k 0x1C01 = some q ∧ (q.p8 0 < 24 ∨ q.ring = .s) ∧ (∀ w, s.wave (q.p8 0) = some w → w.owner = q.ring) ∧ s.waveRuns (q.p8 0) = false) ∧
    (∃ (s : State) (k : Nat) (q : Started), s.opAt k 0x1C02 = some q ∧ (q.p8 0 < 24 ∨ q.ring = .s) ∧ (∀ w, s.wave (q.p8 0) = some w → w.owner = q.ring) ∧ s.waveRuns (q.p8 0) = false) ∧
    (∃ (s : State) (k : Nat) (q : Started), s.opAt k 0x1C03 = some q ∧ s.namesAct q.ring (q.p8 0) = true) ∧
    (∃ (s : State) (k : Nat) (q : Started), s.opAt k 0x1C04 = some q ∧ (q.ring = .med → s.flag F.HAP_CFG_CLAIMED (q.p8 0) = false) ∧ q.p8 1 = 2 ∧ s.fld F.HAP_STAT_STATE (q.p8 0) = 3) :=
  ⟨⟨at5 (pk .s 0x1C00 ([7, 127])) (z.setFld F.HAP_CFG_ENABLE 1 7), 5, pk .s 0x1C00 ([7, 127]), romEffect 127, 0, by decide +kernel⟩,
   ⟨at5 (pk .med 0x1C00 ([7, 127])) ((z.setAct 7 { Act.blank with run := some ⟨1, .pin 0, true, [⟨128, 0, 20⟩, ⟨64, 1, 10⟩], 0, 1, false, 0, 0, 0, 0, 0⟩ }).setFld F.HAP_CFG_ENABLE 1 7), 5, pk .med 0x1C00 ([7, 127]), romEffect 127, 0, by decide +kernel⟩,
   ⟨at5 (pk .s 0x1C00 ([7, 127])), 5, pk .s 0x1C00 ([7, 127]), romEffect 127, 0, 2, by decide +kernel⟩,
   ⟨at5 (pk (.client 4095) 0x1C00 ([7])), 5, pk (.client 4095) 0x1C00 ([7]), by decide +kernel⟩,
   ⟨at5 (pk .med 0x1C01 ([23])), 5, pk .med 0x1C01 ([23]), ⟨by decide +kernel, by decide +kernel, none_all (by decide +kernel), by decide +kernel⟩⟩,
   ⟨at5 (pk .med 0x1C02 ([23])), 5, pk .med 0x1C02 ([23]), ⟨by decide +kernel, by decide +kernel, none_all (by decide +kernel), by decide +kernel⟩⟩,
   ⟨at5 (pk .s 0x1C03 ([7])), 5, pk .s 0x1C03 ([7]), by decide +kernel⟩,
   ⟨at5 (pk .s 0x1C04 ([7, 2])) (z.setFld F.HAP_STAT_STATE 3 7), 5, pk .s 0x1C04 ([7, 2]), by decide +kernel⟩⟩

theorem witness_HapticOperationsPlayAndLoad_2 :
    (∃ (s : State) (k : Nat) (q : Started), s.opAt k 0x1C04 = some q ∧ (q.ring = .med → s.flag F.HAP_CFG_CLAIMED (q.p8 0) = false) ∧ q.p8 1 = 2 ∧ s.fld F.HAP_STAT_STATE (q.p8 0) ≠ 3) ∧
    (∃ (s : State) (k : Nat) (q : Started), s.opAt k 0x1C04 = some q ∧ (q.ring = .med → s.flag F.HAP_CFG_CLAIMED (q.p8 0) = false) ∧ q.p8 1 ≠ 2 ∧ s.actRefuses (q.p8 0) (decide (q.ring = .s)) = none) :=
  ⟨⟨at5 (pk .s 0x1C04 ([7, 2])), 5, pk .s 0x1C04 ([7, 2]), by decide +kernel⟩,
   ⟨at5 (pk .s 0x1C04 ([7, 1])) (z.setFld F.HAP_CFG_ENABLE 1 7), 5, pk .s 0x1C04 ([7, 1]), by decide +kernel⟩⟩

theorem witness_AudioSetsPortsRoutesAndBuses :
    (∃ (s : State) (k : Nat) (q : Started), s.opAt k 0x2000 = some q ∧ (q.ring = .med → s.flag F.AUD_ALARM_ENABLE = true → q.p8 0 ≠ 6 ∧ q.p8 0 ≠ 7) ∧ s.portRouted (q.p8 0) = false) ∧
    (∃ (s : State) (k : Nat) (q : Started), s.opAt k 0x2000 = some q ∧ (q.ring = .med → s.flag F.AUD_ALARM_ENABLE = true → q.p8 0 ≠ 6 ∧ q.p8 0 ≠ 7) ∧ q.p8 0 < 8 ∧ s.portRouted (q.p8 0) = true ∧ bits (q.p8 1) 5 4 ≠ s.fld F.AUD_PORT_STAT_DOMAIN (q.p8 0)) ∧
    (∃ (s : State) (t : State) (k : Nat) (q : Started), s.opAt k 0x2001 = some q ∧ q.ring = .s ∧ s.routeAll q (q.p8 0) = (t, none) ∧ q.p8 1 = 0) ∧
    (∃ (s : State) (t : State) (k : Nat) (q : Started), s.opAt k 0x2001 = some q ∧ q.ring = .s ∧ s.routeAll q (q.p8 0) = (t, none) ∧ q.p8 1 ≠ 0 ∧ t.swapLoops (2 ^ q.p8 0) = false) ∧
    (∃ (s : State) (t : State) (k : Nat) (q : Started) (o : Nat), s.opAt k 0x2001 = some q ∧ q.ring = .s ∧ s.routeAll q (q.p8 0) = (t, some o)) ∧
    (∃ (s : State) (k : Nat) (q : Started), s.opAt k 0x2001 = some q ∧ q.ring ≠ .s ∧ q.p8 0 = 2) ∧
    (∃ (s : State) (k : Nat) (q : Started), s.opAt k 0x2002 = some q ∧ q.p8 0 ≠ 15 ∧ bit (q.p8 1) 0 = false ∧ (bit (q.p8 1) 1 = (s.bus (q.p8 0)).domV ∨ s.busRouted (q.p8 0) = false)) ∧
    (∃ (s : State) (k : Nat) (q : Started), s.opAt k 0x2003 = some q ∧ bit (q.p8 0) 2 = true ∧ q.ring ≠ .s) :=
  ⟨⟨at5 (pk .s 0x2000 ([7])), 5, pk .s 0x2000 ([7]), by decide +kernel⟩,
   ⟨at5 (pk .s 0x2000 ([7, 0x10])) (z.setFld F.AUD_ALARM_ENABLE 1), 5, pk .s 0x2000 ([7, 0x10]), by decide +kernel⟩,
   ⟨at5 (pk .s 0x2001 ([1])), ((at5 (pk .s 0x2001 ([1]))).routeAll (pk .s 0x2001 ([1])) ((pk .s 0x2001 ([1])).p8 0)).1, 5, pk .s 0x2001 ([1]), by decide +kernel⟩,
   ⟨at5 (pk .s 0x2001 ([1, 1])), ((at5 (pk .s 0x2001 ([1, 1]))).routeAll (pk .s 0x2001 ([1, 1])) ((pk .s 0x2001 ([1, 1])).p8 0)).1, 5, pk .s 0x2001 ([1, 1]), by decide +kernel⟩,
   ⟨at5 (pk .s 0x2001 ([0, 0, 1, 0, 0, 0, 0, 0, 0xFF, 0xFF])), ((at5 (pk .s 0x2001 ([0, 0, 1, 0, 0, 0, 0, 0, 0xFF, 0xFF]))).routeAll (pk .s 0x2001 ([0, 0, 1, 0, 0, 0, 0, 0, 0xFF, 0xFF])) ((pk .s 0x2001 ([0, 0, 1, 0, 0, 0, 0, 0, 0xFF, 0xFF])).p8 0)).1, 5, pk .s 0x2001 ([0, 0, 1, 0, 0, 0, 0, 0, 0xFF, 0xFF]), 8, by decide +kernel⟩,
   ⟨at5 (pk .med 0x2001 ([2])), 5, pk .med 0x2001 ([2]), by decide +kernel⟩,
   ⟨at5 (pk .s 0x2002 ([14])), 5, pk .s 0x2002 ([14]), by decide +kernel⟩,
   ⟨at5 (pk .med 0x2003 ([4])), 5, pk .med 0x2003 ([4]), by decide +kernel⟩⟩

theorem witness_AudioSetsPortsRoutesAndBuses_2 :
    (∃ (s : State) (k : Nat) (q : Started), s.opAt k 0x2003 = some q ∧ q.ring = .s ∧ q.p8 0 = 0) ∧
    (∃ (s : State) (k : Nat) (q : Started), s.opAt k 0x2003 = some q ∧ q.ring = .s ∧ q.p8 0 ≠ 0 ∧ s.swapLoops (q.p8 0) = true) ∧
    (∃ (s : State) (k : Nat) (q : Started), s.opAt k 0x2003 = some q ∧ q.ring = .s ∧ q.p8 0 ≠ 0 ∧ s.swapLoops (q.p8 0) = false) ∧
    (∃ (s : State) (k : Nat) (q : Started), s.opAt k 0x2004 = some q ∧ q.p8 0 = 1 ∧ (s.fld F.AUD_CTRL_STATE = 0 ∨ s.fld F.AUD_CTRL_STATE = 2 ∨ (s.fld F.AUD_CTRL_STATE = 3 ∧ q.ring = .s))) ∧
    (∃ (s : State) (k : Nat) (q : Started), s.opAt k 0x2004 = some q ∧ q.p8 0 = 2 ∧ s.fld F.AUD_CTRL_STATE = 1) ∧
    (∃ (s : State) (k : Nat) (q : Started), s.opAt k 0x2004 = some q ∧ q.p8 0 = 3 ∧ q.ring = .s) ∧
    (∃ (s : State) (k : Nat) (q : Started), s.opAt k 0x2004 = some q ∧ q.p8 0 = 3 ∧ q.ring ≠ .s) ∧
    (∃ (s : State) (k : Nat) (q : Started), s.opAt k 0x200B = some q ∧ q.ring = .s ∧ q.p8 0 = 0) :=
  ⟨⟨at5 (pk .s 0x2003 ([0])), 5, pk .s 0x2003 ([0]), by decide +kernel⟩,
   ⟨at5 (pk .s 0x2003 ([15])) (z.setMux 0 { Mux.blank with shd := ⟨0xE1, 0⟩ }), 5, pk .s 0x2003 ([15]), by decide +kernel⟩,
   ⟨at5 (pk .s 0x2003 ([15])), 5, pk .s 0x2003 ([15]), by decide +kernel⟩,
   ⟨at5 (pk .s 0x2004 ([1])) (z.setFld F.AUD_CTRL_STATE 3), 5, pk .s 0x2004 ([1]), by decide +kernel⟩,
   ⟨at5 (pk .s 0x2004 ([2])) (z.setFld F.AUD_CTRL_STATE 1), 5, pk .s 0x2004 ([2]), by decide +kernel⟩,
   ⟨at5 (pk .s 0x2004 ([3])), 5, pk .s 0x2004 ([3]), by decide +kernel⟩,
   ⟨at5 (pk .med 0x2004 ([3])), 5, pk .med 0x2004 ([3]), by decide +kernel⟩,
   ⟨at5 (pk .s 0x200B ([0])), 5, pk .s 0x200B ([0]), by decide +kernel⟩⟩

theorem witness_AudioSetsPortsRoutesAndBuses_3 :
    (∃ (s : State) (k : Nat) (q : Started), s.opAt k 0x200B = some q ∧ q.ring = .s ∧ q.p8 0 = 4) ∧
    (∃ (s : State) (k : Nat) (q : Started) (x : AStream), s.opAt k 0x200B = some q ∧ q.ring = .s ∧ q.p8 0 = 1 ∧ s.stream (q.p16 2) = some x) :=
  ⟨⟨at5 (pk .s 0x200B ([4])), 5, pk .s 0x200B ([4]), by decide +kernel⟩,
   ⟨at5 (pk .s 0x200B ([1, 0, 67])) (z.setStream 67 (some ⟨.s, List.replicate 16 0, true, false, 0, none, 0, [], 0, 0, 0, none⟩)), 5, pk .s 0x200B ([1, 0, 67]), ⟨.s, List.replicate 16 0, true, false, 0, none, 0, [], 0, 0, 0, none⟩, by decide +kernel⟩⟩

theorem witness_AudioSwapsRampsAndClocks :
    (∃ (s : State) (v : Bool) (w : Swap), s.aud.swaps = [w] ∧ (v = true ∨ bit w.banks 1 = false)) ∧
    (∃ (s : State), (∀ w, w ∈ s.aud.swaps → bit w.banks 1 = true)) ∧
    (∃ (i : Nat), i < 512) ∧
    (∃ (i : Nat), i < 16) ∧
    (∃ (s : State) (i : Nat) (x : AStream) (r : Ramp), i < 68 ∧ s.stream i = some x ∧ x.ramp = some r) ∧
    (∃ (s : State) (d : Nat) (f : Fade), (s.mux d).fade = some f) ∧
    (∃ (s : State) (p : Nat), s.flag F.AUD_PORT_STAT_CLOCKED p = true ∧ s.flag F.AUD_PORT_STAT_ENABLED p = true ∧ bit (leAt (s.port p) 1 1) 1 = false) ∧
    (∃ (s : State) (p : Nat) (rate : Nat), s.flag F.AUD_PORT_STAT_CLOCKED p = false ∧ s.flag F.AUD_PORT_STAT_ENABLED p = true ∧ s.rateFits p rate = true) :=
  ⟨⟨{ z with aud := { z.aud with swaps := [⟨1, .s, 5⟩] } }, false, ⟨1, .s, 5⟩, by decide +kernel⟩,
   ⟨{ z with aud := { z.aud with swaps := [⟨2, .s, 5⟩] } }, by decide +kernel⟩,
   ⟨511, by decide +kernel⟩,
   ⟨15, by decide +kernel⟩,
   ⟨z.setStream 67 (some ⟨.s, List.replicate 16 0, true, false, 0, (some ⟨0, 0, 0, 0, 0⟩), 0, [], 0, 0, 0, none⟩), 67, ⟨.s, List.replicate 16 0, true, false, 0, (some ⟨0, 0, 0, 0, 0⟩), 0, [], 0, 0, 0, none⟩, ⟨0, 0, 0, 0, 0⟩, by decide +kernel⟩,
   ⟨z.setMux 511 { Mux.blank with fade := some ⟨1, 0, 0⟩ }, 511, ⟨1, 0, 0⟩, by decide +kernel⟩,
   ⟨(z.setFld F.AUD_PORT_STAT_CLOCKED 1 7).setFld F.AUD_PORT_STAT_ENABLED 1 7, 7, by decide +kernel⟩,
   ⟨z.setFld F.AUD_PORT_STAT_ENABLED 1 7, 7, 48000, by decide +kernel⟩⟩

theorem witness_GeneratorsRunCadencesAndBeeps :
    (∃ (s : State) (k : Nat) (q : Started), s.opAt k 0x2005 = some q ∧ (if q.p8 1 = 0xFF then none else some (q.p8 1)) ≠ none) ∧
    (∃ (s : State) (k : Nat) (q : Started), s.opAt k 0x2005 = some q ∧ ((if q.p8 1 = 0xFF then none else some (q.p8 1)) = none ∨ ∀ w, w < 7 → w ≠ q.p8 0 → (s.pair w).bus ≠ (if q.p8 1 = 0xFF then none else some (q.p8 1))) ∧ (s.pair (q.p8 0)).bus = (if q.p8 1 = 0xFF then none else some (q.p8 1))) ∧
    (∃ (s : State) (k : Nat) (q : Started), s.opAt k 0x2005 = some q ∧ ((if q.p8 1 = 0xFF then none else some (q.p8 1)) = none ∨ ∀ w, w < 7 → w ≠ q.p8 0 → (s.pair w).bus ≠ (if q.p8 1 = 0xFF then none else some (q.p8 1))) ∧ (s.pair (q.p8 0)).bus ≠ (if q.p8 1 = 0xFF then none else some (q.p8 1)) ∧ (s.pair (q.p8 0)).tone = none) ∧
    (∃ (s : State) (k : Nat) (q : Started) (u : Nat), s.opAt k 0x2006 = some q ∧ (q.p8 0 = 15 → q.ring = .s) ∧ s.pairOf (q.p8 0) = some u ∧ bit (q.p8 1) 3 = true) ∧
    (∃ (s : State) (k : Nat) (q : Started) (u : Nat), s.opAt k 0x2006 = some q ∧ (q.p8 0 = 15 → q.ring = .s) ∧ s.pairOf (q.p8 0) = some u ∧ bit (q.p8 1) 3 = false ∧ bit (q.p8 1) 2 = true) ∧
    (∃ (s : State) (k : Nat) (q : Started) (u : Nat), s.opAt k 0x2006 = some q ∧ (q.p8 0 = 15 → q.ring = .s) ∧ s.pairOf (q.p8 0) = some u ∧ bit (q.p8 1) 3 = false ∧ bit (q.p8 1) 2 = false ∧ bit (q.p8 1) 0 = true ∧ ((s.bus (q.p8 0)).domV = true → toneTooHigh q = none)) ∧
    (∃ (s : State) (k : Nat) (q : Started), s.opAt k 0x2006 = some q ∧ q.p8 0 = 15 ∧ q.ring ≠ .s) ∧
    (∃ (s : State) (g : Nat) (u : Nat) (t : Tone), s.pairOf g = some u ∧ (s.pair u).tone = some t ∧ t.step + 1 < t.cad.steps.length) :=
  ⟨⟨at5 (pk .s 0x2005 ([6, 14])), 5, pk .s 0x2005 ([6, 14]), by decide +kernel⟩,
   ⟨at5 (pk .s 0x2005 ([6, 14])) (z.setPair 6 { GenPair.blank with bus := some 14 }), 5, pk .s 0x2005 ([6, 14]), by decide +kernel⟩,
   ⟨at5 (pk .s 0x2005 ([6, 14])), 5, pk .s 0x2005 ([6, 14]), by decide +kernel⟩,
   ⟨at5 (pk .s 0x2006 ([15, 8])), 5, pk .s 0x2006 ([15, 8]), 7, by decide +kernel⟩,
   ⟨at5 (pk .s 0x2006 ([15, 4])), 5, pk .s 0x2006 ([15, 4]), 7, by decide +kernel⟩,
   ⟨at5 (pk .s 0x2006 ([15, 1])), 5, pk .s 0x2006 ([15, 1]), 7, by decide +kernel⟩,
   ⟨at5 (pk .med 0x2006 ([15])), 5, pk .med 0x2006 ([15]), by decide +kernel⟩,
   ⟨z.setPair 6 { GenPair.blank with bus := some 14, tone := some ⟨⟨[⟨440, 1, 1⟩, ⟨880, 1, 1⟩], 1, false⟩, 0, 0, 0, none⟩ }, 14, 6, ⟨⟨[⟨440, 1, 1⟩, ⟨880, 1, 1⟩], 1, false⟩, 0, 0, 0, none⟩, by decide +kernel⟩⟩

theorem witness_GeneratorsRunCadencesAndBeeps_2 :
    (∃ (s : State) (g : Nat) (u : Nat) (t : Tone), s.pairOf g = some u ∧ (s.pair u).tone = some t ∧ t.cad.steps.length ≤ t.step + 1 ∧ t.cad.rep = 255) ∧
    (∃ (s : State) (g : Nat) (u : Nat) (t : Tone), s.pairOf g = some u ∧ (s.pair u).tone = some t ∧ t.cad.steps.length ≤ t.step + 1 ∧ t.cad.rep ≠ 255 ∧ 0 < t.left) ∧
    (∃ (s : State) (g : Nat) (u : Nat) (t : Tone), s.pairOf g = some u ∧ (s.pair u).tone = some t ∧ t.cad.steps.length ≤ t.step + 1 ∧ t.cad.rep ≠ 255 ∧ t.left = 0) ∧
    (∃ (s : State) (k : Nat) (q : Started), s.opAt k 0x2007 = some q ∧ (q.p8 0 = 15 → q.ring = .s)) ∧
    (∃ (s : State) (z : Nat) (h : ZoneAct), s.touch.beeps.find? (fun h => h.zone == z) = some h) ∧
    (∃ (s : State) (g : Nat) (b : Nat), (b = 0 ∨ 9 < b ∨ s.pairOf g = none)) ∧
    (∃ (s : State) (g : Nat) (b : Nat) (u : Nat), 0 < b ∧ b ≤ 9 ∧ s.pairOf g = some u) :=
  ⟨⟨z.setPair 6 { GenPair.blank with bus := some 14, tone := some ⟨⟨[⟨440, 1, 1⟩, ⟨880, 1, 1⟩], 255, false⟩, 255, 1, 0, none⟩ }, 14, 6, ⟨⟨[⟨440, 1, 1⟩, ⟨880, 1, 1⟩], 255, false⟩, 255, 1, 0, none⟩, by decide +kernel⟩,
   ⟨z.setPair 6 { GenPair.blank with bus := some 14, tone := some ⟨⟨[⟨440, 1, 1⟩, ⟨880, 1, 1⟩], 1, false⟩, 1, 1, 0, none⟩ }, 14, 6, ⟨⟨[⟨440, 1, 1⟩, ⟨880, 1, 1⟩], 1, false⟩, 1, 1, 0, none⟩, by decide +kernel⟩,
   ⟨z.setPair 6 { GenPair.blank with bus := some 14, tone := some ⟨⟨[⟨440, 1, 1⟩, ⟨880, 1, 1⟩], 1, false⟩, 0, 1, 0, none⟩ }, 14, 6, ⟨⟨[⟨440, 1, 1⟩, ⟨880, 1, 1⟩], 1, false⟩, 0, 1, 0, none⟩, by decide +kernel⟩,
   ⟨at5 (pk .s 0x2007 ([15])), 5, pk .s 0x2007 ([15]), by decide +kernel⟩,
   ⟨{ z with touch := { z.touch with beeps := [⟨255, 7, 1, false, .s⟩] } }, 255, ⟨255, 7, 1, false, .s⟩, by decide +kernel⟩,
   ⟨z, 14, 10, by decide +kernel⟩,
   ⟨z, 15, 9, 7, by decide +kernel⟩⟩

theorem witness_StreamsAreSetUpAndFetched :
    (∃ (s : State) (k : Nat) (q : Started) (x : AStream), s.opAt k 0x2008 = some q ∧ numTooHigh q.ring (q.p8 0) (bit (q.p8 1) 0) = false ∧ s.namesStream q.ring (q.p8 0) (bit (q.p8 1) 0) = true ∧ s.stream (streamKey (q.p8 0) (bit (q.p8 1) 0)) = some x ∧ x.started = true) ∧
    (∃ (s : State) (k : Nat) (q : Started), s.opAt k 0x2008 = some q ∧ numTooHigh q.ring (q.p8 0) (bit (q.p8 1) 0) = false ∧ s.namesStream q.ring (q.p8 0) (bit (q.p8 1) 0) = true ∧ ((s.stream (streamKey (q.p8 0) (bit (q.p8 1) 0))).map (·.started)).getD false = false ∧ q.p8 2 = 0) ∧
    (∃ (s : State) (k : Nat) (q : Started), s.opAt k 0x2008 = some q ∧ numTooHigh q.ring (q.p8 0) (bit (q.p8 1) 0) = false ∧ s.namesStream q.ring (q.p8 0) (bit (q.p8 1) 0) = true ∧ ((s.stream (streamKey (q.p8 0) (bit (q.p8 1) 0))).map (·.started)).getD false = false ∧ q.p8 2 ≠ 0 ∧ (bit (q.p8 1) 0 = true ∨ q.p8 0 < 64)) ∧
    (∃ (s : State) (k : Nat) (q : Started) (x : AStream), s.opAt k 0x2009 = some q ∧ numTooHigh q.ring (q.p8 0) (bit (q.p8 1) 0) = false ∧ s.namesStream q.ring (q.p8 0) (bit (q.p8 1) 0) = true ∧ s.stream (streamKey (q.p8 0) (bit (q.p8 1) 0)) = some x ∧ q.p8 2 = 0) ∧
    (∃ (s : State) (k : Nat) (q : Started) (x : AStream), s.opAt k 0x2009 = some q ∧ numTooHigh q.ring (q.p8 0) (bit (q.p8 1) 0) = false ∧ s.namesStream q.ring (q.p8 0) (bit (q.p8 1) 0) = true ∧ s.stream (streamKey (q.p8 0) (bit (q.p8 1) 0)) = some x ∧ q.p8 2 = 1 ∧ s.safe = false ∧ x.started = false) ∧
    (∃ (s : State) (k : Nat) (q : Started) (x : AStream), s.opAt k 0x2009 = some q ∧ numTooHigh q.ring (q.p8 0) (bit (q.p8 1) 0) = false ∧ s.namesStream q.ring (q.p8 0) (bit (q.p8 1) 0) = true ∧ s.stream (streamKey (q.p8 0) (bit (q.p8 1) 0)) = some x ∧ q.p8 2 = 2 ∧ x.started = false) ∧
    (∃ (s : State) (n : Nat) (x : AStream), s.stream n = some x ∧ x.started = true ∧ n < 128) ∧
    (∃ (s : State) (n : Nat) (x : AStream), s.stream n = some x ∧ x.started = true ∧ 128 ≤ n) :=
  ⟨⟨at5 (pk .s 0x2008 ([67, 0])) (z.setStream 67 (some ⟨.s, List.replicate 16 0, true, false, 0, none, 0, [], 0, 0, 0, none⟩)), 5, pk .s 0x2008 ([67, 0]), ⟨.s, List.replicate 16 0, true, false, 0, none, 0, [], 0, 0, 0, none⟩, by decide +kernel⟩,
   ⟨at5 (pk .s 0x2008 ([31, 1, 0])), 5, pk .s 0x2008 ([31, 1, 0]), by decide +kernel⟩,
   ⟨at5 (pk .s 0x2008 ([63, 0, 1])), 5, pk .s 0x2008 ([63, 0, 1]), by decide +kernel⟩,
   ⟨at5 (pk .s 0x2009 ([67, 0, 0])) (z.setStream 67 (some ⟨.s, List.replicate 16 0, true, false, 0, none, 0, [], 0, 0, 0, none⟩)), 5, pk .s 0x2009 ([67, 0, 0]), ⟨.s, List.replicate 16 0, true, false, 0, none, 0, [], 0, 0, 0, none⟩, by decide +kernel⟩,
   ⟨at5 (pk .s 0x2009 ([67, 0, 1])) (z.setStream 67 (some ⟨.s, List.replicate 16 0, false, false, 0, none, 0, [], 0, 0, 0, none⟩)), 5, pk .s 0x2009 ([67, 0, 1]), ⟨.s, List.replicate 16 0, false, false, 0, none, 0, [], 0, 0, 0, none⟩, by decide +kernel⟩,
   ⟨at5 (pk .s 0x2009 ([67, 0, 2])) (z.setStream 67 (some ⟨.s, List.replicate 16 0, false, false, 0, none, 0, [], 0, 0, 0, none⟩)), 5, pk .s 0x2009 ([67, 0, 2]), ⟨.s, List.replicate 16 0, false, false, 0, none, 0, [], 0, 0, 0, none⟩, by decide +kernel⟩,
   ⟨z.setStream 67 (some ⟨.s, List.replicate 16 0, true, false, 0, none, 0, [], 0, 0, 0, none⟩), 67, ⟨.s, List.replicate 16 0, true, false, 0, none, 0, [], 0, 0, 0, none⟩, by decide +kernel⟩,
   ⟨z.setStream 159 (some ⟨.s, List.replicate 16 0, true, false, 0, none, 0, [], 0, 0, 0, none⟩), 159, ⟨.s, List.replicate 16 0, true, false, 0, none, 0, [], 0, 0, 0, none⟩, by decide +kernel⟩⟩

theorem witness_StreamsAreSetUpAndFetched_2 :
    (∃ (s : State) (t : State) (k : Nat) (q : Started) (x : AStream), s.opAt k 0x200C = some q ∧ numTooHigh q.ring (q.p8 0) (bit (q.p8 1) 0) = false ∧ s.namesStream q.ring (q.p8 0) (bit (q.p8 1) 0) = true ∧ s.stream (streamKey (q.p8 0) (bit (q.p8 1) 0)) = some x ∧ s.unitWrite (ringWho q.ring) (q.p64 8) (s.sealContext q.ring 8 1 (x.params ++ leBytes 4 x.index ++ List.replicate 28 0)) = (none, t)) ∧
    (∃ (s : State) (t : State) (k : Nat) (q : Started) (l : List Byte), s.opAt k 0x200D = some q ∧ numTooHigh q.ring (q.p8 0) (bit (q.p8 1) 0) = false ∧ s.namesStream q.ring (q.p8 0) (bit (q.p8 1) 0) = true ∧ ((s.stream (streamKey (q.p8 0) (bit (q.p8 1) 0))).map (·.started)).getD false = false ∧ s.unitRead (ringWho q.ring) (q.p64 8) 64 = (.ok l, t) ∧ t.contextFault q.ring 8 1 l = none) :=
  ⟨⟨at5 (pk .s 0x200C ([67, 0, 0, 0, 0, 0, 0, 0] ++ leBytes 8 0x1000000)) (z.setStream 67 (some ⟨.s, List.replicate 16 0, true, false, 0, none, 0, [], 0, 0, 0, none⟩)), ((at5 (pk .s 0x200C ([67, 0, 0, 0, 0, 0, 0, 0] ++ leBytes 8 0x1000000)) (z.setStream 67 (some ⟨.s, List.replicate 16 0, true, false, 0, none, 0, [], 0, 0, 0, none⟩))).unitWrite (ringWho (pk .s 0x200C ([67, 0, 0, 0, 0, 0, 0, 0] ++ leBytes 8 0x1000000)).ring) ((pk .s 0x200C ([67, 0, 0, 0, 0, 0, 0, 0] ++ leBytes 8 0x1000000)).p64 8) ((at5 (pk .s 0x200C ([67, 0, 0, 0, 0, 0, 0, 0] ++ leBytes 8 0x1000000)) (z.setStream 67 (some ⟨.s, List.replicate 16 0, true, false, 0, none, 0, [], 0, 0, 0, none⟩))).sealContext (pk .s 0x200C ([67, 0, 0, 0, 0, 0, 0, 0] ++ leBytes 8 0x1000000)).ring 8 1 (((⟨.s, List.replicate 16 0, true, false, 0, none, 0, [], 0, 0, 0, none⟩ : AStream)).params ++ leBytes 4 ((⟨.s, List.replicate 16 0, true, false, 0, none, 0, [], 0, 0, 0, none⟩ : AStream)).index ++ List.replicate 28 0))).2, 5, pk .s 0x200C ([67, 0, 0, 0, 0, 0, 0, 0] ++ leBytes 8 0x1000000), ⟨.s, List.replicate 16 0, true, false, 0, none, 0, [], 0, 0, 0, none⟩, ⟨by decide +kernel, by decide +kernel, by decide +kernel, by decide +kernel, none_of (by decide +kernel)⟩⟩,
   ⟨at5 (pk .s 0x200D ([67, 0, 0, 0, 0, 0, 0, 0] ++ leBytes 8 0x1000000)) (z.putBytes 0x1000000 (z.sealContext .s 8 1 (List.replicate 48 0))), ((at5 (pk .s 0x200D ([67, 0, 0, 0, 0, 0, 0, 0] ++ leBytes 8 0x1000000)) (z.putBytes 0x1000000 (z.sealContext .s 8 1 (List.replicate 48 0)))).unitRead (ringWho (pk .s 0x200D ([67, 0, 0, 0, 0, 0, 0, 0] ++ leBytes 8 0x1000000)).ring) ((pk .s 0x200D ([67, 0, 0, 0, 0, 0, 0, 0] ++ leBytes 8 0x1000000)).p64 8) 64).2, 5, pk .s 0x200D ([67, 0, 0, 0, 0, 0, 0, 0] ++ leBytes 8 0x1000000), okVal ((at5 (pk .s 0x200D ([67, 0, 0, 0, 0, 0, 0, 0] ++ leBytes 8 0x1000000)) (z.putBytes 0x1000000 (z.sealContext .s 8 1 (List.replicate 48 0)))).unitRead (ringWho (pk .s 0x200D ([67, 0, 0, 0, 0, 0, 0, 0] ++ leBytes 8 0x1000000)).ring) ((pk .s 0x200D ([67, 0, 0, 0, 0, 0, 0, 0] ++ leBytes 8 0x1000000)).p64 8) 64).1, ⟨by decide +kernel, by decide +kernel, by decide +kernel, by decide +kernel, ok_val (by decide +kernel), by decide +kernel⟩⟩⟩

theorem witness_AlarmPairFailsOnceThenSafe :
    (∃ (s : State) (k : Nat) (q : Started), s.opAt k 0x200A = some q ∧ bit (q.p8 0) 0 = false ∧ s.safe = true) ∧
    (∃ (s : State) (k : Nat) (q : Started), s.opAt k 0x200A = some q ∧ bit (q.p8 0) 0 = false ∧ s.safe = false ∧ s.flag F.AUD_ALARM_ENABLE = false) ∧
    (∃ (s : State) (k : Nat) (q : Started), s.opAt k 0x200A = some q ∧ bit (q.p8 0) 0 = true ∧ q.p16 2 = 0) ∧
    (∃ (s : State), s.flag F.AUD_ALARM_ENABLE = true ∧ bits s.aud.spare 1 0 = 0) ∧
    (∃ (s : State), s.flag F.AUD_ALARM_ENABLE = true ∧ bits s.aud.spare 1 0 ≠ 0) ∧
    (∃ (s : State) (m : Nat), m < 2 ∧ s.flag F.AUD_ALARM_ENABLE = true ∧ bit s.aud.spare m = false) ∧
    (∃ (s : State) (k : Nat) (q : Started), s.opAt k 0x200A = some q ∧ bit (q.p8 0) 0 = true ∧ q.p16 2 ≠ 0 ∧ ((fun (p : Nat) => bits (leAt (s.port p) 1 1) 1 0 == 3 && bits (leAt (s.port p) 1 1) 5 4 == 0 && decide (q.p16 2 < 2 ^ leAt (s.port p) 2 1)) 6 = false ∨ (fun (p : Nat) => bits (leAt (s.port p) 1 1) 1 0 == 3 && bits (leAt (s.port p) 1 1) 5 4 == 0 && decide (q.p16 2 < 2 ^ leAt (s.port p) 2 1)) 7 = false)) ∧
    (∃ (s : State) (k : Nat) (q : Started), s.opAt k 0x200A = some q ∧ bit (q.p8 0) 0 = true ∧ q.p16 2 ≠ 0 ∧ (fun (p : Nat) => bits (leAt (s.port p) 1 1) 1 0 == 3 && bits (leAt (s.port p) 1 1) 5 4 == 0 && decide (q.p16 2 < 2 ^ leAt (s.port p) 2 1)) 6 = true ∧ (fun (p : Nat) => bits (leAt (s.port p) 1 1) 1 0 == 3 && bits (leAt (s.port p) 1 1) 5 4 == 0 && decide (q.p16 2 < 2 ^ leAt (s.port p) 2 1)) 7 = true) :=
  ⟨⟨at5 (pk .s 0x200A ([0])) (z.setFld F.DEV_FAULT_STAT_SAFE 1), 5, pk .s 0x200A ([0]), by decide +kernel⟩,
   ⟨at5 (pk .s 0x200A ([0])), 5, pk .s 0x200A ([0]), by decide +kernel⟩,
   ⟨at5 (pk .s 0x200A ([1])), 5, pk .s 0x200A ([1]), by decide +kernel⟩,
   ⟨z.setFld F.AUD_ALARM_ENABLE 1, by decide +kernel⟩,
   ⟨{ z.setFld F.AUD_ALARM_ENABLE 1 with aud := { z.aud with spare := 1 } }, by decide +kernel⟩,
   ⟨{ z.setFld F.AUD_ALARM_ENABLE 1 with aud := { z.aud with spare := 1 } }, 1, by decide +kernel⟩,
   ⟨at5 (pk .s 0x200A ([1, 0, 1, 0])), 5, pk .s 0x200A ([1, 0, 1, 0]), by decide +kernel⟩,
   ⟨at5 (pk .s 0x200A ([1, 0, 1, 0])) ({ z with aud := { z.aud with ports := [(6, [0, 3, 1, 0, 0, 0, 0, 0]), (7, [0, 3, 1, 0, 0, 0, 0, 0])] } }), 5, pk .s 0x200A ([1, 0, 1, 0]), by decide +kernel⟩⟩

theorem witness_FolioOperationsAskForRecords :
    (∃ (s : State) (k : Nat) (q : Started), s.opAt k 0x2C00 = some q) ∧
    (∃ (s : State) (k : Nat) (q : Started), s.opAt k 0x2C01 = some q ∧ q.progress = 0 ∧ s.folioOpen = false) ∧
    (∃ (s : State) (k : Nat) (q : Started), s.opAt k 0x2C01 = some q ∧ q.progress = 0 ∧ s.folioOpen = true) ∧
    (∃ (s : State) (t : State) (k : Nat) (q : Started) (l : List Byte), s.opAt k 0x2C02 = some q ∧ q.progress = 0 ∧ s.flag F.DEV_FW_STAT_UNREADABLE = false ∧ s.folioOpen = true ∧ s.unitRead (ringWho q.ring) (q.p64 8) (q.p32 4) = (.ok l, t)) ∧
    (∃ (s : State) (k : Nat) (q : Started), s.opAt k 0x2C02 = some q ∧ q.progress = 0 ∧ s.flag F.DEV_FW_STAT_UNREADABLE = true) ∧
    (∃ (s : State) (k : Nat) (q : Started), s.opAt k 0x2C03 = some q ∧ q.p16 2 ≠ 0 ∧ s.folioOpen = true ∧ s.record 1 (settingsKey q.ring (q.p8 0) (q.p16 2)) = none) ∧
    (∃ (s : State) (k : Nat) (q : Started) (r : FRec), s.opAt k 0x2C03 = some q ∧ q.p16 2 ≠ 0 ∧ s.folioOpen = true ∧ s.record 1 (settingsKey q.ring (q.p8 0) (q.p16 2)) = some r ∧ q.p32 4 < (r.body.drop 4).length) ∧
    (∃ (s : State) (k : Nat) (q : Started) (r : FRec) (t : State), s.opAt k 0x2C03 = some q ∧ q.p16 2 ≠ 0 ∧ s.folioOpen = true ∧ s.record 1 (settingsKey q.ring (q.p8 0) (q.p16 2)) = some r ∧ (r.body.drop 4).length ≤ q.p32 4 ∧ s.unitWrite (ringWho q.ring) (q.p64 8) (r.body.drop 4) = (none, t)) :=
  ⟨⟨at5 (pk .s 0x2C00 ([7])), 5, pk .s 0x2C00 ([7]), by decide +kernel⟩,
   ⟨at5 (pk .s 0x2C01 ([7])), 5, pk .s 0x2C01 ([7]), by decide +kernel⟩,
   ⟨at5 (pk .s 0x2C01 ([7])) (z.setFld F.FOL_STAT_STATE 1), 5, pk .s 0x2C01 ([7]), by decide +kernel⟩,
   ⟨at5 (pk .s 0x2C02 ([0, 0, 1, 0] ++ leBytes 4 16 ++ leBytes 8 0x1000000)) (z.setFld F.FOL_STAT_STATE 1), ((at5 (pk .s 0x2C02 ([0, 0, 1, 0] ++ leBytes 4 16 ++ leBytes 8 0x1000000)) (z.setFld F.FOL_STAT_STATE 1)).unitRead (ringWho (pk .s 0x2C02 ([0, 0, 1, 0] ++ leBytes 4 16 ++ leBytes 8 0x1000000)).ring) ((pk .s 0x2C02 ([0, 0, 1, 0] ++ leBytes 4 16 ++ leBytes 8 0x1000000)).p64 8) ((pk .s 0x2C02 ([0, 0, 1, 0] ++ leBytes 4 16 ++ leBytes 8 0x1000000)).p32 4)).2, 5, pk .s 0x2C02 ([0, 0, 1, 0] ++ leBytes 4 16 ++ leBytes 8 0x1000000), List.replicate 16 0, ⟨by decide +kernel, by decide +kernel, by decide +kernel, by decide +kernel, ok_of (by decide +kernel)⟩⟩,
   ⟨at5 (pk .s 0x2C02 ([7])) (z.setFld F.DEV_FW_STAT_UNREADABLE 1), 5, pk .s 0x2C02 ([7]), by decide +kernel⟩,
   ⟨at5 (pk .s 0x2C03 ([0, 0, 1, 0])) (z.setFld F.FOL_STAT_STATE 1), 5, pk .s 0x2C03 ([0, 0, 1, 0]), by decide +kernel⟩,
   ⟨at5 (pk .s 0x2C03 ([0, 0, 1, 0] ++ leBytes 4 0)) ({ z.setFld F.FOL_STAT_STATE 1 with fol := { z.fol with areaA := { FArea.erased with recs := [⟨1, 1, [1, 0, 0, 0, 9], true, true, true⟩] } } }), 5, pk .s 0x2C03 ([0, 0, 1, 0] ++ leBytes 4 0), ⟨1, 1, [1, 0, 0, 0, 9], true, true, true⟩, by decide +kernel⟩,
   ⟨at5 (pk .s 0x2C03 ([0, 0, 1, 0] ++ leBytes 4 1 ++ leBytes 8 0x1000000)) ({ z.setFld F.FOL_STAT_STATE 1 with fol := { z.fol with areaA := { FArea.erased with recs := [⟨1, 1, [1, 0, 0, 0, 9], true, true, true⟩] } } }), 5, pk .s 0x2C03 ([0, 0, 1, 0] ++ leBytes 4 1 ++ leBytes 8 0x1000000), ⟨1, 1, [1, 0, 0, 0, 9], true, true, true⟩, ((at5 (pk .s 0x2C03 ([0, 0, 1, 0] ++ leBytes 4 1 ++ leBytes 8 0x1000000)) ({ z.setFld F.FOL_STAT_STATE 1 with fol := { z.fol with areaA := { FArea.erased with recs := [⟨1, 1, [1, 0, 0, 0, 9], true, true, true⟩] } } })).unitWrite (ringWho (pk .s 0x2C03 ([0, 0, 1, 0] ++ leBytes 4 1 ++ leBytes 8 0x1000000)).ring) ((pk .s 0x2C03 ([0, 0, 1, 0] ++ leBytes 4 1 ++ leBytes 8 0x1000000)).p64 8) (((⟨1, 1, [1, 0, 0, 0, 9], true, true, true⟩ : FRec)).body.drop 4)).2, ⟨by decide +kernel, by decide +kernel, by decide +kernel, by decide +kernel, by decide +kernel, none_of (by decide +kernel)⟩⟩⟩

theorem witness_FolioOperationsAskForRecords_2 :
    (∃ (s : State) (k : Nat) (q : Started), s.opAt k 0x2C04 = some q ∧ s.folioOpen = true ∧ (s.activeArea.good.filter (fun r => r.typ == q.p16 0)).reverse[q.p32 4]? = none) ∧
    (∃ (s : State) (k : Nat) (q : Started) (r : FRec) (t : State), s.opAt k 0x2C04 = some q ∧ s.folioOpen = true ∧ (s.activeArea.good.filter (fun r => r.typ == q.p16 0)).reverse[q.p32 4]? = some r ∧ s.unitWrite (ringWho q.ring) (q.p64 8) r.body = (none, t)) ∧
    (∃ (s : State) (k : Nat) (q : Started), s.opAt k 0x2C05 = some q ∧ q.progress = 0 ∧ s.folioOpen = false) ∧
    (∃ (s : State) (k : Nat) (q : Started), s.opAt k 0x2C05 = some q ∧ q.progress = 0 ∧ s.folioOpen = true) ∧
    (∃ (s : State) (k : Nat) (q : Started), s.opAt k 0x2C06 = some q ∧ q.progress = 0 ∧ s.folioOpen = true ∧ s.calEntry (q.p32 0) = none) ∧
    (∃ (s : State) (k : Nat) (q : Started) (b : List Byte), s.opAt k 0x2C06 = some q ∧ q.progress = 0 ∧ s.folioOpen = true ∧ s.calEntry (q.p32 0) = some b) ∧
    (∃ (s : State) (k : Nat) (q : Started), s.opAt k 0x2C07 = some q ∧ (s.fol.adopt.isSome = true ∨ s.fld F.FOL_STAT_STATE = 0)) ∧
    (∃ (s : State) (k : Nat) (q : Started), s.opAt k 0x2C07 = some q ∧ s.fol.adopt = none ∧ s.fld F.FOL_STAT_STATE ≠ 0 ∧ s.fol.areaA.magic = false ∧ s.fol.areaB.magic = false) :=
  ⟨⟨at5 (pk .s 0x2C04 ([1])) (z.setFld F.FOL_STAT_STATE 1), 5, pk .s 0x2C04 ([1]), by decide +kernel⟩,
   ⟨at5 (pk .s 0x2C04 ([1, 0, 0, 0] ++ leBytes 4 0 ++ leBytes 8 0x1000000)) ({ z.setFld F.FOL_STAT_STATE 1 with fol := { z.fol with areaA := { FArea.erased with recs := [⟨1, 1, [1, 0, 0, 0, 9], true, true, true⟩] } } }), 5, pk .s 0x2C04 ([1, 0, 0, 0] ++ leBytes 4 0 ++ leBytes 8 0x1000000), ⟨1, 1, [1, 0, 0, 0, 9], true, true, true⟩, ((at5 (pk .s 0x2C04 ([1, 0, 0, 0] ++ leBytes 4 0 ++ leBytes 8 0x1000000)) ({ z.setFld F.FOL_STAT_STATE 1 with fol := { z.fol with areaA := { FArea.erased with recs := [⟨1, 1, [1, 0, 0, 0, 9], true, true, true⟩] } } })).unitWrite (ringWho (pk .s 0x2C04 ([1, 0, 0, 0] ++ leBytes 4 0 ++ leBytes 8 0x1000000)).ring) ((pk .s 0x2C04 ([1, 0, 0, 0] ++ leBytes 4 0 ++ leBytes 8 0x1000000)).p64 8) ((⟨1, 1, [1, 0, 0, 0, 9], true, true, true⟩ : FRec)).body).2, ⟨by decide +kernel, by decide +kernel, by decide +kernel, none_of (by decide +kernel)⟩⟩,
   ⟨at5 (pk .s 0x2C05 ([7])), 5, pk .s 0x2C05 ([7]), by decide +kernel⟩,
   ⟨at5 (pk .s 0x2C05 ([7])) (z.setFld F.FOL_STAT_STATE 1), 5, pk .s 0x2C05 ([7]), by decide +kernel⟩,
   ⟨at5 (pk .s 0x2C06 ([1])) (z.setFld F.FOL_STAT_STATE 1), 5, pk .s 0x2C06 ([1]), by decide +kernel⟩,
   ⟨at5 (pk .s 0x2C06 ([1])) ({ z.setFld F.FOL_STAT_STATE 1 with fol := { z.fol with areaA := { FArea.erased with recs := [⟨5, 1, [1, 0, 0, 0, 9], true, true, true⟩] } } }), 5, pk .s 0x2C06 ([1]), [1, 0, 0, 0, 9], by decide +kernel⟩,
   ⟨at5 (pk .s 0x2C07 ([7])), 5, pk .s 0x2C07 ([7]), by decide +kernel⟩,
   ⟨at5 (pk .s 0x2C07 ([7])) (z.setFld F.FOL_STAT_STATE 3), 5, pk .s 0x2C07 ([7]), by decide +kernel⟩⟩

theorem witness_FolioStepsCommitAndCompact :
    (∃ (s : State) (w : FWrite) (n : Nat), s.fol.pfLow = false ∧ s.fol.writing = some (w, false, n)) ∧
    (∃ (s : State) (w : FWrite) (n : Nat), s.fol.pfLow = false ∧ s.fol.writing = some (w, true, n)) ∧
    (∃ (s : State) (r : FRec) (l : List FRec) (n : Nat), s.fol.pfLow = false ∧ s.fol.writing = none ∧ s.fol.compact = some (.copy (r :: l) n)) ∧
    (∃ (s : State), s.fol.pfLow = true) ∧
    (∃ (s : State) (n : Nat), s.fol.pfLow = false ∧ s.fol.adopt = none ∧ s.fol.compact = some (.erase (n + 1))) ∧
    (∃ (s : State) (n : Nat), s.fol.pfLow = false ∧ s.fol.compact = some (.copy [] n)) ∧
    (∃ (s : State), (s.fol.flushed + 900 ≤ (s.rg Reg.AON_RTC).toNat ∨ (s.rg Reg.AON_RTC).toNat < s.fol.flushed) ∧ s.folioOpen = true) ∧
    (∃ (s : State), (s.rg Reg.AON_RTC).toNat / 86400 ≠ s.fol.day) :=
  ⟨⟨{ z with fol := { z.fol with writing := some (⟨1, [0, 0, 0, 0], true, .none⟩, false, 1) } }, ⟨1, [0, 0, 0, 0], true, .none⟩, 1, by decide +kernel⟩,
   ⟨{ z with fol := { z.fol with writing := some (⟨1, [0, 0, 0, 0], true, .none⟩, true, 1) } }, ⟨1, [0, 0, 0, 0], true, .none⟩, 1, by decide +kernel⟩,
   ⟨{ z with fol := { z.fol with compact := some (.copy [⟨1, 1, [1, 0, 0, 0, 9], true, true, true⟩] 0) } }, ⟨1, 1, [1, 0, 0, 0, 9], true, true, true⟩, [], 0, by decide +kernel⟩,
   ⟨{ z with fol := { z.fol with pfLow := true } }, by decide +kernel⟩,
   ⟨{ z with fol := { z.fol with compact := some (.erase 1) } }, 0, by decide +kernel⟩,
   ⟨{ z with fol := { z.fol with compact := some (.copy [] 0) } }, 0, by decide +kernel⟩,
   ⟨(z.setFld F.FOL_STAT_STATE 1).setRg Reg.AON_RTC 900, by decide +kernel⟩,
   ⟨z.setRg Reg.AON_RTC 86400, by decide +kernel⟩⟩

theorem witness_FolioStepsCommitAndCompact_2 :
    (∃ (s : State), s.flt.poresetHi = true) ∧
    (∃ (tj : Int), tj < -200) ∧
    (∃ (tj : Int), 1200 ≤ tj) ∧
    (∃ (tj : Int) (b : Nat), 1 ≤ b ∧ b ≤ 14 ∧ -300 + 100 * (b : Int) ≤ tj ∧ tj < -200 + 100 * (b : Int)) :=
  ⟨⟨{ z with flt := { z.flt with poresetHi := true } }, by decide +kernel⟩,
   ⟨-201, by decide +kernel⟩,
   ⟨1200, by decide +kernel⟩,
   ⟨1199, 14, by decide +kernel⟩⟩

theorem witness_PowerFailureHoldsTheFolio :
    (∃ (s : State), s.fol.pfLow = false ∧ s.pwr.vault = false ∧ s.flt.poresetHi = true) ∧
    (∃ (s : State), s.fol.pfLow = true) ∧
    (∃ (s : State) (c : Nat), s.fol.pfLow = true ∧ s.pwr.pfAt = some c) :=
  ⟨⟨{ z with flt := { z.flt with poresetHi := true } }, by decide +kernel⟩,
   ⟨{ z with fol := { z.fol with pfLow := true } }, by decide +kernel⟩,
   ⟨{ z with pwr := { z.pwr with pfAt := some 0 }, fol := { z.fol with pfLow := true } }, 0, by decide +kernel⟩⟩

theorem witness_BootsRunOrRecover :
    (∃ (s : State), s.flt.poresetHi = false ∧ s.pwr.hold = true) ∧
    (∃ (s : State), s.flt.poresetHi = true) ∧
    (∃ (s : State), s.fw.recovery = true) ∧
    (∃ (s : State), s.fw.recovery = false) :=
  ⟨⟨z, by decide +kernel⟩,
   ⟨{ z with flt := { z.flt with poresetHi := true } }, by decide +kernel⟩,
   ⟨{ z with fw := { z.fw with recovery := true } }, by decide +kernel⟩,
   ⟨z, by decide +kernel⟩⟩

theorem witness_StagingWritesTheInactiveSlot :
    (∃ (s : State) (k : Nat) (q : Started), s.opAt k 0x3000 = some q ∧ s.fw.window = none ∧ s.slotVerified 0 (s.inactiveSlot 0) = false) ∧
    (∃ (s : State) (k : Nat) (q : Started), s.opAt k 0x3001 = some q ∧ s.pairBusy (q.p8 0) = true) ∧
    (∃ (s : State) (k : Nat) (q : Started), s.opAt k 0x3001 = some q ∧ s.pairBusy (q.p8 0) = false) ∧
    (∃ (s : State) (k : Nat) (q : Started), s.opAt k 0x3002 = some q ∧ s.pairBusy (q.p8 0) = true) ∧
    (∃ (s : State) (t : State) (k : Nat) (u : Nat) (q : Started) (l : List Byte), s.opAt k 0x3002 = some q ∧ s.pairBusy (q.p8 0) = false ∧ s.holdsIn (.packet k) 2 = some u ∧ s.unitRead (ringWho q.ring) (q.p64 16 + 256 * q.progress) (min 256 (q.p32 8 - 256 * q.progress)) = (.ok l, t)) ∧
    (∃ (s : State) (k : Nat) (q : Started), s.opAt k 0x3003 = some q ∧ s.pairBusy (q.p8 0) = true) ∧
    (∃ (s : State) (k : Nat) (q : Started), s.opAt k 0x3003 = some q ∧ s.pairBusy (q.p8 0) = false) ∧
    (∃ (s : State) (j : SlotJob), s.fw.jobs.find? (fun j => j.verify) = some j) :=
  ⟨⟨at5 (pk .s 0x3000 ([7])), 5, pk .s 0x3000 ([7]), by decide +kernel⟩,
   ⟨at5 (pk .s 0x3001 ([1])) ({ z with fw := { z.fw with window := some (1, 0, 10) } }), 5, pk .s 0x3001 ([1]), by decide +kernel⟩,
   ⟨at5 (pk .s 0x3001 ([1])), 5, pk .s 0x3001 ([1]), by decide +kernel⟩,
   ⟨at5 (pk .s 0x3002 ([1])) ({ z with fw := { z.fw with window := some (1, 0, 10) } }), 5, pk .s 0x3002 ([1]), by decide +kernel⟩,
   ⟨at5 (pk .s 0x3002 ([1, 0, 0, 0, 0, 0, 0, 0] ++ leBytes 8 256 ++ leBytes 8 0x1000000)) (grants 12 (gr (.packet 5)) z), ((at5 (pk .s 0x3002 ([1, 0, 0, 0, 0, 0, 0, 0] ++ leBytes 8 256 ++ leBytes 8 0x1000000)) (grants 12 (gr (.packet 5)) z)).unitRead (ringWho (pk .s 0x3002 ([1, 0, 0, 0, 0, 0, 0, 0] ++ leBytes 8 256 ++ leBytes 8 0x1000000)).ring) ((pk .s 0x3002 ([1, 0, 0, 0, 0, 0, 0, 0] ++ leBytes 8 256 ++ leBytes 8 0x1000000)).p64 16 + 256 * (pk .s 0x3002 ([1, 0, 0, 0, 0, 0, 0, 0] ++ leBytes 8 256 ++ leBytes 8 0x1000000)).progress) (min 256 ((pk .s 0x3002 ([1, 0, 0, 0, 0, 0, 0, 0] ++ leBytes 8 256 ++ leBytes 8 0x1000000)).p32 8 - 256 * (pk .s 0x3002 ([1, 0, 0, 0, 0, 0, 0, 0] ++ leBytes 8 256 ++ leBytes 8 0x1000000)).progress))).2, 5, 12, pk .s 0x3002 ([1, 0, 0, 0, 0, 0, 0, 0] ++ leBytes 8 256 ++ leBytes 8 0x1000000), List.replicate 256 0, ⟨by decide +kernel, by decide +kernel, by decide +kernel, ok_of (by decide +kernel)⟩⟩,
   ⟨at5 (pk .s 0x3003 ([1])) ({ z with fw := { z.fw with window := some (1, 0, 10) } }), 5, pk .s 0x3003 ([1]), by decide +kernel⟩,
   ⟨at5 (pk .s 0x3003 ([1])), 5, pk .s 0x3003 ([1]), by decide +kernel⟩,
   ⟨{ z with fw := { z.fw with jobs := [⟨1, 1, true, 0, 0⟩] } }, ⟨1, 1, true, 0, 0⟩, by decide +kernel⟩⟩

theorem witness_StagingWritesTheInactiveSlot_2 :
    ∃ (s : State) (j : SlotJob) (l : Grant), s.fw.jobs.find? (fun j => !j.verify) = some j ∧ s.heldBy (slotTask j.rank) = some (12, l) :=
  ⟨{ grants 12 (gr (slotTask 0)) z with fw := { z.fw with jobs := [⟨1, 1, false, 1, 0⟩] } }, ⟨1, 1, false, 1, 0⟩, gr (slotTask 0), by decide +kernel⟩

theorem witness_ActivationsAreTriedAndConfirmed :
    (∃ (s : State) (k : Nat) (q : Started), s.opAt k 0x3004 = some q ∧ s.slotVerified (q.p8 0) (s.inactiveSlot (q.p8 0)) = false) ∧
    (∃ (s : State) (k : Nat) (q : Started), s.opAt k 0x3004 = some q ∧ s.slotVerified (q.p8 0) (s.inactiveSlot (q.p8 0)) = true ∧ (s.fw.window.isSome = true ∨ s.folioOpen = false ∨ s.safe = true ∨ s.paused = true)) ∧
    (∃ (s : State) (k : Nat) (q : Started), s.opAt k 0x3004 = some q ∧ s.slotVerified (q.p8 0) (s.inactiveSlot (q.p8 0)) = true ∧ s.fw.window = none ∧ s.folioOpen = true ∧ s.safe = false ∧ s.paused = false) ∧
    (∃ (s : State) (x : Pause), s.fw.pause = some x ∧ x.back = true) ∧
    (∃ (s : State) (x : Pause), s.fw.pause = some x ∧ x.back = false ∧ x.committed = false) ∧
    (∃ (s : State) (x : Pause), s.fw.pause = some x ∧ x.back = false ∧ x.committed = true ∧ x.pair = 1) ∧
    (∃ (s : State) (x : Pause), s.fw.pause = some x ∧ x.back = false ∧ x.committed = true ∧ x.pair = 0) ∧
    (∃ (s : State) (k : Nat) (q : Started), s.opAt k 0x3005 = some q ∧ q.progress = 0 ∧ s.onTrial (q.p8 0) = false) :=
  ⟨⟨at5 (pk .s 0x3004 ([1])), 5, pk .s 0x3004 ([1]), by decide +kernel⟩,
   ⟨at5 (pk .s 0x3004 ([1])) ({ z with fw := { z.fw with verified := 15 } }), 5, pk .s 0x3004 ([1]), by decide +kernel⟩,
   ⟨at5 (pk .s 0x3004 ([1])) ({ z.setFld F.FOL_STAT_STATE 1 with fw := { z.fw with verified := 15 } }), 5, pk .s 0x3004 ([1]), by decide +kernel⟩,
   ⟨{ z with fw := { z.fw with pause := some ⟨1, true, 0, 0, false, true, 10, false⟩ } }, ⟨1, true, 0, 0, false, true, 10, false⟩, by decide +kernel⟩,
   ⟨{ z with fw := { z.fw with pause := some ⟨1, false, 0, 0, false, true, 10, false⟩ } }, ⟨1, false, 0, 0, false, true, 10, false⟩, by decide +kernel⟩,
   ⟨{ z with fw := { z.fw with pause := some ⟨1, false, 0, 0, true, true, 10, false⟩ } }, ⟨1, false, 0, 0, true, true, 10, false⟩, by decide +kernel⟩,
   ⟨{ z with fw := { z.fw with pause := some ⟨0, false, 0, 0, true, true, 10, false⟩ } }, ⟨0, false, 0, 0, true, true, 10, false⟩, by decide +kernel⟩,
   ⟨at5 (pk .s 0x3005 ([1])), 5, pk .s 0x3005 ([1]), by decide +kernel⟩⟩

theorem witness_ActivationsAreTriedAndConfirmed_2 :
    (∃ (s : State) (k : Nat) (q : Started), s.opAt k 0x3005 = some q ∧ q.progress = 0 ∧ s.onTrial (q.p8 0) = true ∧ s.flag F.DEV_FW_STAT_UNREADABLE = true) ∧
    (∃ (s : State) (k : Nat) (q : Started), s.opAt k 0x3005 = some q ∧ q.progress = 0 ∧ s.onTrial (q.p8 0) = true ∧ s.flag F.DEV_FW_STAT_UNREADABLE = false ∧ s.safe = false ∧ s.paused = false ∧ q.ring = .s) ∧
    (∃ (s : State) (k : Nat) (q : Started), s.opAt k 0x3006 = some q ∧ s.onTrial (q.p8 0) = false) ∧
    (∃ (s : State) (k : Nat) (q : Started), s.opAt k 0x3006 = some q ∧ s.onTrial (q.p8 0) = true ∧ s.paused = true) ∧
    (∃ (s : State) (k : Nat) (q : Started), s.opAt k 0x3006 = some q ∧ s.onTrial (q.p8 0) = true ∧ s.paused = false) ∧
    (∃ (s : State) (pair : Nat) (c : Nat) (m : Nat), s.fw.window = some (pair, c, m) ∧ s.paused = false ∧ c + nsCycles (m * 60000000000) < s.cyc) :=
  ⟨⟨at5 (pk .s 0x3005 ([1])) ({ z.setFld F.DEV_FW_STAT_UNREADABLE 1 with fw := { z.fw with window := some (1, 0, 10) } }), 5, pk .s 0x3005 ([1]), by decide +kernel⟩,
   ⟨at5 (pk .s 0x3005 ([1])) ({ z with fw := { z.fw with window := some (1, 0, 10) } }), 5, pk .s 0x3005 ([1]), by decide +kernel⟩,
   ⟨at5 (pk .s 0x3006 ([1])), 5, pk .s 0x3006 ([1]), by decide +kernel⟩,
   ⟨at5 (pk .s 0x3006 ([1])) ({ z with fw := { z.fw with window := some (1, 0, 10), pause := some ⟨1, true, 0, 0, false, false, 10, false⟩ } }), 5, pk .s 0x3006 ([1]), by decide +kernel⟩,
   ⟨at5 (pk .s 0x3006 ([1])) ({ z with fw := { z.fw with window := some (1, 0, 10) } }), 5, pk .s 0x3006 ([1]), by decide +kernel⟩,
   ⟨{ z with cyc := nsCycles 600000000000 + 1, fw := { z.fw with window := some (1, 0, 10) } }, 1, 0, 10, by decide +kernel⟩⟩

theorem witness_DetectedFaultsAreRecorded :
    (∃ (s : State) (n : Nat), s.flag F.DTG_CTRL_ENABLE n = true ∧ bit s.flt.stalled n = false) ∧
    (∃ (arr : Nat), 3 ≤ arr) ∧
    (∃ (arr : Nat), arr < 3) ∧
    (∃ (s : State), s.flag F.DEV_SWDOG_ENABLE = true ∧ s.passed s.flt.kicked (s.dogMs * 1000000) = true) ∧
    (∃ (s : State), s.flag F.DEV_SWDOG_ENABLE = false) ∧
    (∃ (who : Who), who ≠ .s) :=
  ⟨⟨z.setFld F.DTG_CTRL_ENABLE 1 7, 7, by decide +kernel⟩,
   ⟨3, by decide +kernel⟩,
   ⟨2, by decide +kernel⟩,
   ⟨{ z.setFld F.DEV_SWDOG_ENABLE 1 with cyc := nsCycles (10000 * 1000000) }, by decide +kernel⟩,
   ⟨z.setFld F.DEV_SWDOG_ENABLE 0, by decide +kernel⟩,
   ⟨.med, by decide +kernel⟩⟩

theorem witness_FaultsKeepTheFirst :
    (∃ (cls : Nat) (inst : Nat) (i : Nat), 1 ≤ cls ∧ cls ≤ 15 ∧ inst < 65536 ∧ i < 15) ∧
    (∃ (cls : Nat) (inst : Nat), 1 ≤ cls ∧ cls ≤ 15 ∧ inst < 65536 ∧ cls ≠ 12) ∧
    (∃ (cls : Nat) (inst : Nat), 1 ≤ cls ∧ cls ≤ 15 ∧ inst < 65536 ∧ cls = 12) ∧
    (∃ (s : State) (cls : Nat) (inst : Nat), 1 ≤ cls ∧ cls ≤ 15 ∧ inst < 65536 ∧ s.fld F.DEV_FAULT_FIRST_CLASS = 0) ∧
    (∃ (s : State) (cls : Nat) (inst : Nat), 1 ≤ cls ∧ cls ≤ 15 ∧ inst < 65536 ∧ s.fld F.DEV_FAULT_FIRST_CLASS ≠ 0 ∧ s.flt.firstAt ≠ s.cyc) :=
  ⟨⟨15, 65535, 14, by decide +kernel⟩,
   ⟨15, 65535, by decide +kernel⟩,
   ⟨12, 65535, by decide +kernel⟩,
   ⟨z, 1, 0, by decide +kernel⟩,
   ⟨{ z.setFld F.DEV_FAULT_FIRST_CLASS 1 with cyc := 1 }, 1, 0, by decide +kernel⟩⟩

theorem witness_FaultOperationsQueryAndClear :
    (∃ (s : State) (k : Nat) (q : Started), s.opAt k 0x3400 = some q) ∧
    (∃ (s : State) (k : Nat) (q : Started), s.opAt k 0x3401 = some q ∧ s.safe = true) ∧
    (∃ (s : State) (k : Nat) (q : Started), s.opAt k 0x3401 = some q ∧ s.safe = false) ∧
    (∃ (s : State) (k : Nat) (q : Started), s.opAt k 0x3402 = some q) ∧
    (∃ (s : State) (k : Nat) (q : Started), s.opAt k 0x3402 = some q ∧ s.safe = true) ∧
    (∃ (s : State) (r : FaultRec), s.folioOpen = true ∧ s.flt.records.find? (fun r => s.recordDue r) = some r) :=
  ⟨⟨at5 (pk .s 0x3400 ([7])), 5, pk .s 0x3400 ([7]), by decide +kernel⟩,
   ⟨at5 (pk .s 0x3401 ([7])) (z.setFld F.DEV_FAULT_STAT_SAFE 1), 5, pk .s 0x3401 ([7]), by decide +kernel⟩,
   ⟨at5 (pk .s 0x3401 ([7])), 5, pk .s 0x3401 ([7]), by decide +kernel⟩,
   ⟨at5 (pk .s 0x3402 ([7])), 5, pk .s 0x3402 ([7]), by decide +kernel⟩,
   ⟨at5 (pk .s 0x3402 ([7])) (z.setFld F.DEV_FAULT_STAT_SAFE 1), 5, pk .s 0x3402 ([7]), by decide +kernel⟩,
   ⟨{ z.setFld F.FOL_STAT_STATE 1 with flt := { z.flt with records := [⟨1, 0, 0, 0, 0, 1⟩] } }, ⟨1, 0, 0, 0, 0, 1⟩, by decide +kernel⟩⟩

theorem witness_SnapshotsLatchAndAreReleased :
    (∃ (s : State) (k : Nat) (q : Started), s.opAt k 0x3403 = some q ∧ bit (q.p8 0) 0 = true ∧ q.ring ≠ .s) ∧
    (∃ (s : State) (k : Nat) (q : Started), s.opAt k 0x3403 = some q ∧ bit (q.p8 0) 0 = false ∧ s.flt.snapshot.isSome = true) ∧
    (∃ (s : State) (k : Nat) (q : Started), s.opAt k 0x3403 = some q ∧ bit (q.p8 0) 0 = false ∧ s.flt.snapshot = none) ∧
    (∃ (s : State) (k : Nat) (q : Started), s.opAt k 0x3403 = some q ∧ bit (q.p8 0) 0 = true ∧ q.ring = .s ∧ s.flt.snapshot = none) ∧
    (∃ (s : State), s.flag F.RUB_CFG_IN_EN = true) ∧
    (∃ (s : State), s.flag F.RUB_CFG_IN_EN = false) ∧
    (∃ (s : State) (c : Nat) (src : Nat) (late : Bool) (rest : List (Nat × Nat × Bool)), s.flt.triggers = (c, src, late) :: rest ∧ s.cyc < c + 64) ∧
    (∃ (s : State) (c : Nat) (src : Nat) (late : Bool) (rest : List (Nat × Nat × Bool)), s.flt.triggers = (c, src, late) :: rest ∧ c + 64 ≤ s.cyc ∧ s.flt.snapshot = none) :=
  ⟨⟨at5 (pk .med 0x3403 ([1])), 5, pk .med 0x3403 ([1]), by decide +kernel⟩,
   ⟨at5 (pk .s 0x3403 ([0])) ({ z with flt := { z.flt with snapshot := some [⟨0, 65535, 65535, [1, 2, 3, 4, 5, 6]⟩] } }), 5, pk .s 0x3403 ([0]), by decide +kernel⟩,
   ⟨at5 (pk .s 0x3403 ([0])), 5, pk .s 0x3403 ([0]), by decide +kernel⟩,
   ⟨at5 (pk .s 0x3403 ([1])), 5, pk .s 0x3403 ([1]), by decide +kernel⟩,
   ⟨z.setFld F.RUB_CFG_IN_EN 1, by decide +kernel⟩,
   ⟨z.setFld F.RUB_CFG_IN_EN 0, by decide +kernel⟩,
   ⟨{ z with cyc := 63, flt := { z.flt with triggers := [(0, 1, true)] } }, 0, 1, true, [], by decide +kernel⟩,
   ⟨{ z with cyc := 64, flt := { z.flt with triggers := [(0, 1, true)] } }, 0, 1, true, [], by decide +kernel⟩⟩

theorem witness_SnapshotsLatchAndAreReleased_2 :
    (∃ (s : State) (c : Nat) (src : Nat) (late : Bool) (rest : List (Nat × Nat × Bool)), s.flt.triggers = (c, src, late) :: rest ∧ c + 64 ≤ s.cyc ∧ s.flt.snapshot.isSome = true ∧ src ≠ 0) ∧
    (∃ (s : State), s.flt.snapshot.isSome = true ∧ s.fld F.RUB_CFG_AUTO_MS ≠ 0 ∧ s.passed s.flt.latchedAt (s.fld F.RUB_CFG_AUTO_MS * 1000000) = true) ∧
    (∃ (s : State) (k : Nat) (q : Started), s.opAt k 0x3404 = some q ∧ 0x3F < q.p16 0 ∧ q.p16 0 ≠ 0xFFFF) ∧
    (∃ (s : State) (k : Nat) (q : Started), s.opAt k 0x3404 = some q ∧ q.p16 0 = 0xFFFF ∧ s.flt.snapshot = none) ∧
    (∃ (s : State) (k : Nat) (q : Started) (l : List SnapRec) (n : Nat) (t : State), s.opAt k 0x3404 = some q ∧ q.p16 0 = 0xFFFF ∧ s.flt.snapshot = some l ∧ State.putRecords (ringWho q.ring) (s.fld F.RUB_STAT_SEQ) ((s.snapView q.ring l).take (q.p32 4 / 32)) (q.p64 8) 0 s = (none, n, t)) ∧
    (∃ (s : State) (k : Nat) (q : Started), s.opAt k 0x3405 = some q) ∧
    (∃ (s : State) (r : Nat) (l : List SnapRec) (x : SnapRec), x ∈ s.snapView (.client r) l) :=
  ⟨⟨{ z with cyc := 64, flt := { z.flt with triggers := [(0, 1, true)], snapshot := some [] } }, 0, 1, true, [], by decide +kernel⟩,
   ⟨{ z.setFld F.RUB_CFG_AUTO_MS 60000 with cyc := nsCycles (60000 * 1000000), flt := { z.flt with snapshot := some [] } }, by decide +kernel⟩,
   ⟨at5 (pk .s 0x3404 ([0x40, 0])), 5, pk .s 0x3404 ([0x40, 0]), by decide +kernel⟩,
   ⟨at5 (pk .s 0x3404 ([0xFF, 0xFF])), 5, pk .s 0x3404 ([0xFF, 0xFF]), by decide +kernel⟩,
   ⟨at5 (pk .s 0x3404 ([0xFF, 0xFF, 0, 0] ++ leBytes 4 32 ++ leBytes 8 0x1000000)) ({ z with flt := { z.flt with snapshot := some [⟨0, 65535, 65535, [1, 2, 3, 4, 5, 6]⟩] } }), 5, pk .s 0x3404 ([0xFF, 0xFF, 0, 0] ++ leBytes 4 32 ++ leBytes 8 0x1000000), [⟨0, 65535, 65535, [1, 2, 3, 4, 5, 6]⟩], 1, (State.putRecords (ringWho (pk .s 0x3404 ([0xFF, 0xFF, 0, 0] ++ leBytes 4 32 ++ leBytes 8 0x1000000)).ring) ((at5 (pk .s 0x3404 ([0xFF, 0xFF, 0, 0] ++ leBytes 4 32 ++ leBytes 8 0x1000000)) ({ z with flt := { z.flt with snapshot := some [⟨0, 65535, 65535, [1, 2, 3, 4, 5, 6]⟩] } })).fld F.RUB_STAT_SEQ) (((at5 (pk .s 0x3404 ([0xFF, 0xFF, 0, 0] ++ leBytes 4 32 ++ leBytes 8 0x1000000)) ({ z with flt := { z.flt with snapshot := some [⟨0, 65535, 65535, [1, 2, 3, 4, 5, 6]⟩] } })).snapView (pk .s 0x3404 ([0xFF, 0xFF, 0, 0] ++ leBytes 4 32 ++ leBytes 8 0x1000000)).ring ([⟨0, 65535, 65535, [1, 2, 3, 4, 5, 6]⟩])).take ((pk .s 0x3404 ([0xFF, 0xFF, 0, 0] ++ leBytes 4 32 ++ leBytes 8 0x1000000)).p32 4 / 32)) ((pk .s 0x3404 ([0xFF, 0xFF, 0, 0] ++ leBytes 4 32 ++ leBytes 8 0x1000000)).p64 8) 0 (at5 (pk .s 0x3404 ([0xFF, 0xFF, 0, 0] ++ leBytes 4 32 ++ leBytes 8 0x1000000)) ({ z with flt := { z.flt with snapshot := some [⟨0, 65535, 65535, [1, 2, 3, 4, 5, 6]⟩] } }))).2.2, ⟨by decide +kernel, by decide +kernel, by decide +kernel, by decide +kernel⟩⟩,
   ⟨at5 (pk .s 0x3405 ([7])), 5, pk .s 0x3405 ([7]), by decide +kernel⟩,
   ⟨z, 0, [⟨1, 0, 0, [1, 2, 3, 4, 5, 6]⟩], ⟨1, 0, 0, [1, 2, 3, 4, 5, 6]⟩, by decide +kernel⟩⟩

theorem witness_PortsTimeAndLockFollowTheNetwork :
    (∃ (s : State) (k : Nat) (q : Started), s.opAt k 0x3800 = some q ∧ q.p8 1 % 2 = 1 ∧ q.p8 2 = 2) ∧
    (∃ (s : State) (k : Nat) (q : Started), s.opAt k 0x3800 = some q ∧ q.p8 2 ≠ 2 ∧ bit (q.p8 3) 0 = true ∧ bit s.dziv.enabled (q.p8 0) = false) ∧
    (∃ (s : State) (port : Nat), bit s.dziv.enabled port = true) ∧
    (∃ (s : State) (port : Nat), bit s.dziv.enabled port = false) ∧
    (∃ (s : State) (k : Nat) (q : Started), s.opAt k 0x380A = some q) ∧
    (∃ (s : State) (k : Nat) (q : Started), s.opAt k 0x3801 = some q) ∧
    (∃ (s : State) (port : Nat) (off : Int), port < 2 ∧ s.portUp port = true ∧ s.dziv.synced = true ∧ -1000000 ≤ off ∧ off ≤ 1000000) ∧
    (∃ (s : State) (port : Nat) (off : Int), port < 2 ∧ s.portUp port = true ∧ (s.dziv.synced = false ∨ off < -1000000 ∨ 1000000 < off)) :=
  ⟨⟨at5 (pk .s 0x3800 ([1, 1, 2])), 5, pk .s 0x3800 ([1, 1, 2]), by decide +kernel⟩,
   ⟨at5 (pk .s 0x3800 ([1, 0, 1, 1])), 5, pk .s 0x3800 ([1, 0, 1, 1]), by decide +kernel⟩,
   ⟨{ z.setFld F.TTH_PORT_STAT_UP 1 1 with dziv := { z.dziv with enabled := 2 } }, 1, by decide +kernel⟩,
   ⟨z, 1, by decide +kernel⟩,
   ⟨at5 (pk .s 0x380A ([7])), 5, pk .s 0x380A ([7]), by decide +kernel⟩,
   ⟨at5 (pk .s 0x3801 ([7])), 5, pk .s 0x3801 ([7]), by decide +kernel⟩,
   ⟨{ z.setFld F.TTH_PORT_STAT_UP 1 1 with dziv := { z.dziv with enabled := 2, synced := true } }, 1, 1000000, by decide +kernel⟩,
   ⟨{ z.setFld F.TTH_PORT_STAT_UP 1 1 with dziv := { z.dziv with enabled := 2, synced := true } }, 1, 1000001, by decide +kernel⟩⟩

theorem witness_PortsTimeAndLockFollowTheNetwork_2 :
    (∃ (s : State), s.flag F.TTH_TIME_STAT_SYNC = true ∧ s.flag F.TTH_TIME_STAT_GM = false) ∧
    (∃ (s : State) (k : Nat) (q : Started), s.opAt k 0x3806 = some q ∧ bit (q.p8 1) 0 = false) ∧
    (∃ (s : State) (k : Nat) (q : Started), s.opAt k 0x3806 = some q ∧ bit (q.p8 1) 0 = true ∧ (s.out (q.p8 0)).live.periodFits (q.p64 16) = false) ∧
    (∃ (s : State) (k : Nat) (q : Started), s.opAt k 0x3806 = some q ∧ bit (q.p8 1) 0 = true ∧ (s.out (q.p8 0)).live.periodFits (q.p64 16) = true ∧ (s.out (q.p8 0)).live.vtotal ≤ 8192 ∧ 2 ≤ (s.out (q.p8 0)).live.vfp ∧ s.flag F.DTG_CTRL_ENABLE (q.p8 0) = true) :=
  ⟨⟨z.setFld F.TTH_TIME_STAT_SYNC 1, by decide +kernel⟩,
   ⟨at5 (pk .s 0x3806 ([7, 0])), 5, pk .s 0x3806 ([7, 0]), by decide +kernel⟩,
   ⟨at5 (pk .s 0x3806 ([7, 1])), 5, pk .s 0x3806 ([7, 1]), by decide +kernel⟩,
   ⟨at5 (pk .s 0x3806 ([7, 1] ++ List.replicate 14 0 ++ leBytes 8 (Output.idleOut.live.frameNs * 2 ^ 32))) ((z.setFld F.DTG_CTRL_ENABLE 1 7)), 5, pk .s 0x3806 ([7, 1] ++ List.replicate 14 0 ++ leBytes 8 (Output.idleOut.live.frameNs * 2 ^ 32)), by decide +kernel⟩⟩

theorem witness_GroupMembersAndFrames :
    (∃ (s : State) (t : State) (k : Nat) (q : Started) (key : List Byte), s.opAt k 0x3802 = some q ∧ s.unitRead .s (q.p64 8) 32 = (.ok key, t)) ∧
    (∃ (s : State) (k : Nat) (q : Started), s.opAt k 0x3803 = some q) ∧
    (∃ (s : State) (k : Nat) (q : Started), s.opAt k 0x3804 = some q ∧ (s.member (q.p16 0)).ident = none) ∧
    (∃ (s : State) (k : Nat) (q : Started) (h : List Byte), s.opAt k 0x3804 = some q ∧ (s.member (q.p16 0)).ident = some h ∧ ((s.member (q.p16 0)).state = 3 ∨ (s.member (q.p16 0)).state = 4)) ∧
    (∃ (s : State) (k : Nat) (q : Started) (h : List Byte), s.opAt k 0x3804 = some q ∧ (s.member (q.p16 0)).ident = some h ∧ (s.member (q.p16 0)).state < 3) ∧
    (∃ (s : State) (k : Nat) (q : Started), s.opAt k 0x3805 = some q ∧ s.groupPorts = []) ∧
    (∃ (s : State) (k : Nat) (q : Started), s.opAt k 0x3805 = some q ∧ s.groupPorts ≠ []) ∧
    (∃ (s : State), s.flag F.TTH_GROUP_VALID = true ∧ (s.dziv.hellos = 0 ∨ s.passed s.dziv.helloAt 100000000 = true)) :=
  ⟨⟨at5 (pk .s 0x3802 ([0, 0, 0, 0, 0, 0, 0, 0] ++ leBytes 8 0x1000000)), ((at5 (pk .s 0x3802 ([0, 0, 0, 0, 0, 0, 0, 0] ++ leBytes 8 0x1000000))).unitRead .s ((pk .s 0x3802 ([0, 0, 0, 0, 0, 0, 0, 0] ++ leBytes 8 0x1000000)).p64 8) 32).2, 5, pk .s 0x3802 ([0, 0, 0, 0, 0, 0, 0, 0] ++ leBytes 8 0x1000000), List.replicate 32 0, ⟨by decide +kernel, ok_of (by decide +kernel)⟩⟩,
   ⟨at5 (pk .s 0x3803 ([7])), 5, pk .s 0x3803 ([7]), by decide +kernel⟩,
   ⟨at5 (pk .s 0x3804 ([0xFF, 3])), 5, pk .s 0x3804 ([0xFF, 3]), by decide +kernel⟩,
   ⟨at5 (pk .s 0x3804 ([0xFF, 3])) (z.setMember 1023 { Member.blank with ident := some [1], state := 4 }), 5, pk .s 0x3804 ([0xFF, 3]), [1], by decide +kernel⟩,
   ⟨at5 (pk .s 0x3804 ([0xFF, 3])) (z.setMember 1023 { Member.blank with ident := some [1], state := 2 }), 5, pk .s 0x3804 ([0xFF, 3]), [1], by decide +kernel⟩,
   ⟨at5 (pk .s 0x3805 ([7])), 5, pk .s 0x3805 ([7]), by decide +kernel⟩,
   ⟨at5 (pk .s 0x3805 ([7])) (({ z.setFld F.TTH_PORT_STAT_UP 1 1 with dziv := { z.dziv with enabled := 2 } } : State).setFld F.TTH_GROUP_VALID 1), 5, pk .s 0x3805 ([7]), by decide +kernel⟩,
   ⟨z.setFld F.TTH_GROUP_VALID 1, by decide +kernel⟩⟩

theorem witness_GroupMembersAndFrames_2 :
    (∃ (s : State) (j : Nat), (s.member j).state = 1 ∧ s.helloFresh (s.member j) = false) ∧
    (∃ (s : State), (∃ t, t ∈ s.flt.groupTrig ∧ t ≤ s.devTime)) ∧
    (∃ (s : State) (port : Nat) (f : List Byte), s.portUp port = true ∧ beAt f 16 2 = s.fld F.TTH_GROUP_ETYPE ∧ s.flag F.TTH_GROUP_VALID = false) ∧
    (∃ (s : State) (port : Nat) (f : List Byte), s.portUp port = true ∧ beAt f 16 2 = s.fld F.TTH_GROUP_ETYPE ∧ hmacSha256 s.dziv.key ((f.drop 18).take ((f.drop 18).length - 32)) ≠ (f.drop 18).drop ((f.drop 18).length - 32)) ∧
    (∃ (s : State) (port : Nat) (f : List Byte) (l : Nat × Nat), s.portUp port = true ∧ beAt f 16 2 = s.fld F.TTH_GROUP_ETYPE ∧ s.flag F.TTH_GROUP_VALID = true ∧ 56 ≤ (f.drop 18).length ∧ hmacSha256 s.dziv.key ((f.drop 18).take ((f.drop 18).length - 32)) = (f.drop 18).drop ((f.drop 18).length - 32) ∧ leAt ((f.drop 18).take ((f.drop 18).length - 32)) 4 4 = s.dziv.group ∧ 1 ≤ leAt ((f.drop 18).take ((f.drop 18).length - 32)) 0 1 ∧ leAt ((f.drop 18).take ((f.drop 18).length - 32)) 0 1 ≤ 5 ∧ (leAt ((f.drop 18).take ((f.drop 18).length - 32)) 2 2) ≤ 1023 ∧ (SMap.get (fun _ => none) (s.member (leAt ((f.drop 18).take ((f.drop 18).length - 32)) 2 2)).seqs (leAt ((f.drop 18).take ((f.drop 18).length - 32)) 0 1)) = some l ∧ leAt ((f.drop 18).take ((f.drop 18).length - 32)) 8 8 ≤ max l.1 l.2 ∧ seenBy l port < leAt ((f.drop 18).take ((f.drop 18).length - 32)) 8 8) ∧
    (∃ (s : State) (port : Nat) (f : List Byte) (l : Nat × Nat), s.portUp port = true ∧ beAt f 16 2 = s.fld F.TTH_GROUP_ETYPE ∧ s.flag F.TTH_GROUP_VALID = true ∧ 56 ≤ (f.drop 18).length ∧ hmacSha256 s.dziv.key ((f.drop 18).take ((f.drop 18).length - 32)) = (f.drop 18).drop ((f.drop 18).length - 32) ∧ leAt ((f.drop 18).take ((f.drop 18).length - 32)) 4 4 = s.dziv.group ∧ 1 ≤ leAt ((f.drop 18).take ((f.drop 18).length - 32)) 0 1 ∧ leAt ((f.drop 18).take ((f.drop 18).length - 32)) 0 1 ≤ 5 ∧ (leAt ((f.drop 18).take ((f.drop 18).length - 32)) 2 2) ≤ 1023 ∧ (SMap.get (fun _ => none) (s.member (leAt ((f.drop 18).take ((f.drop 18).length - 32)) 2 2)).seqs (leAt ((f.drop 18).take ((f.drop 18).length - 32)) 0 1)) = some l ∧ leAt ((f.drop 18).take ((f.drop 18).length - 32)) 8 8 ≤ seenBy l port) ∧
    (∃ (s : State) (port : Nat) (f : List Byte), s.portUp port = true ∧ beAt f 16 2 = s.fld F.TTH_GROUP_ETYPE ∧ s.flag F.TTH_GROUP_VALID = true ∧ 56 ≤ (f.drop 18).length ∧ hmacSha256 s.dziv.key ((f.drop 18).take ((f.drop 18).length - 32)) = (f.drop 18).drop ((f.drop 18).length - 32) ∧ leAt ((f.drop 18).take ((f.drop 18).length - 32)) 4 4 = s.dziv.group ∧ 1 ≤ leAt ((f.drop 18).take ((f.drop 18).length - 32)) 0 1 ∧ leAt ((f.drop 18).take ((f.drop 18).length - 32)) 0 1 ≤ 5 ∧ (leAt ((f.drop 18).take ((f.drop 18).length - 32)) 2 2) ≤ 1023 ∧ (∀ l, (SMap.get (fun _ => none) (s.member (leAt ((f.drop 18).take ((f.drop 18).length - 32)) 2 2)).seqs (leAt ((f.drop 18).take ((f.drop 18).length - 32)) 0 1)) = some l → max l.1 l.2 < leAt ((f.drop 18).take ((f.drop 18).length - 32)) 8 8) ∧ s.timeNear (leAt ((f.drop 18).take ((f.drop 18).length - 32)) 16 8) = true) :=
  ⟨⟨z.setMember 1023 { Member.blank with state := 1 }, 1023, by decide +kernel⟩,
   ⟨{ z with flt := { z.flt with groupTrig := [0] } }, by decide +kernel⟩,
   ⟨groupUp.setFld F.TTH_GROUP_VALID 0, 1, groupFrame 0, by decide +kernel⟩,
   ⟨groupUp, 1, List.replicate 16 0 ++ [0x88, 0xB5], by decide +kernel⟩,
   ⟨groupUp.setMember 1023 { Member.blank with seqs := [(1, some (5, 4))] }, 1, groupFrame 5, (5, 4), by decide +kernel⟩,
   ⟨groupUp.setMember 1023 { Member.blank with seqs := [(1, some (0, 5))] }, 1, groupFrame 5, (0, 5), by decide +kernel⟩,
   ⟨groupUp, 1, groupFrame 5, ⟨by decide +kernel, by decide +kernel, by decide +kernel, by decide +kernel, by decide +kernel, by decide +kernel, by decide +kernel, by decide +kernel, by decide +kernel, none_all (by decide +kernel), by decide +kernel⟩⟩⟩

theorem witness_IntercomAndQueuePairsCarryFrames :
    (∃ (s : State) (k : Nat) (q : Started), s.opAt k 0x3807 = some q) ∧
    (∃ (s : State) (j : Nat) (l : List Nat), (s.intercom j).tx = true ∧ l.length = 32) ∧
    (∃ (s : State) (j : Nat), bit s.aud.rxOn j = true ∧ s.passed (s.intercom j).last (((s.intercom j).depth + 20) * 1000000) = true) ∧
    (∃ (s : State) (k : Nat) (q : Started), s.opAt k 0x3808 = some q ∧ s.namesQp q.ring (q.p8 0) = false) ∧
    (∃ (s : State) (k : Nat) (q : Started), s.opAt k 0x3808 = some q ∧ s.namesQp q.ring (q.p8 0) = true ∧ q.p8 2 = 0) ∧
    (∃ (s : State) (k : Nat) (q : Started) (c : Nat), s.opAt k 0x3808 = some q ∧ q.ring = .client c ∧ s.qpHolder (q.p8 0) = some c ∧ q.p8 2 ≠ 0) ∧
    (∃ (s : State) (k : Nat) (q : Started) (x : Qp), s.opAt k 0x3809 = some q ∧ s.namesQp q.ring (q.p8 0) = true ∧ s.qp (q.p8 0) = some x) ∧
    (∃ (s : State) (t : State) (n : Nat) (x : Qp) (d : List Byte), s.qp n = some x ∧ x.txIdle = false ∧ s.safe = false ∧ s.portUp x.port = true ∧ s.unitRead (ringWho x.owner) (x.txBase + 16 * (x.txIdx % 2 ^ x.log)) 16 = (.ok d, t) ∧ bit (leAt d 10 1) 0 = false) :=
  ⟨⟨at5 (pk .s 0x3807 ([7])), 5, pk .s 0x3807 ([7]), by decide +kernel⟩,
   ⟨{ z with dziv := { z.dziv with intercom := [(7, { Intercom.blank with tx := true })] } }, 7, List.replicate 32 0, by decide +kernel⟩,
   ⟨{ z with cyc := nsCycles ((6 + 20) * 1000000), aud := { z.aud with rxOn := 128 } }, 7, by decide +kernel⟩,
   ⟨at5 (pk (.client 4095) 0x3808 ([31])), 5, pk (.client 4095) 0x3808 ([31]), by decide +kernel⟩,
   ⟨at5 (pk .s 0x3808 ([31, 0, 0])), 5, pk .s 0x3808 ([31, 0, 0]), by decide +kernel⟩,
   ⟨at5 (pk (.client 4095) 0x3808 ([31, 0, 1])) ({ z with cl := { z.cl with holders := [(415, some 4095)] } }), 5, pk (.client 4095) 0x3808 ([31, 0, 1]), 4095, by decide +kernel⟩,
   ⟨at5 (pk .s 0x3809 ([31])) (z.setQp 31 (some ⟨.s, 1, 6, false, 0, [], 0x1000000, 0x1001000, 0, 0, false, true⟩)), 5, pk .s 0x3809 ([31]), ⟨.s, 1, 6, false, 0, [], 0x1000000, 0x1001000, 0, 0, false, true⟩, by decide +kernel⟩,
   ⟨(({ z.setFld F.TTH_PORT_STAT_UP 1 1 with dziv := { z.dziv with enabled := 2 } } : State).setQp 31 (some ⟨.s, 1, 6, false, 0, [], 0x1000000, 0x1001000, 0, 0, false, true⟩)), (((({ z.setFld F.TTH_PORT_STAT_UP 1 1 with dziv := { z.dziv with enabled := 2 } } : State).setQp 31 (some ⟨.s, 1, 6, false, 0, [], 0x1000000, 0x1001000, 0, 0, false, true⟩))).unitRead (ringWho ((⟨.s, 1, 6, false, 0, [], 0x1000000, 0x1001000, 0, 0, false, true⟩ : Qp)).owner) (((⟨.s, 1, 6, false, 0, [], 0x1000000, 0x1001000, 0, 0, false, true⟩ : Qp)).txBase + 16 * (((⟨.s, 1, 6, false, 0, [], 0x1000000, 0x1001000, 0, 0, false, true⟩ : Qp)).txIdx % 2 ^ ((⟨.s, 1, 6, false, 0, [], 0x1000000, 0x1001000, 0, 0, false, true⟩ : Qp)).log)) 16).2, 31, ⟨.s, 1, 6, false, 0, [], 0x1000000, 0x1001000, 0, 0, false, true⟩, List.replicate 16 0, ⟨by decide +kernel, by decide +kernel, by decide +kernel, by decide +kernel, ok_of (by decide +kernel), by decide +kernel⟩⟩⟩

theorem witness_IntercomAndQueuePairsCarryFrames_2 :
    (∃ (s : State) (t : State) (n : Nat) (x : Qp) (d : List Byte), s.qp n = some x ∧ x.txIdle = false ∧ s.safe = false ∧ s.portUp x.port = true ∧ s.unitRead (ringWho x.owner) (x.txBase + 16 * (x.txIdx % 2 ^ x.log)) 16 = (.ok d, t) ∧ bit (leAt d 10 1) 0 = true ∧ leAt d 8 2 < 60) ∧
    (∃ (s : State) (t : State) (u : State) (n : Nat) (x : Qp) (d : List Byte) (f : List Byte), s.qp n = some x ∧ x.txIdle = false ∧ s.safe = false ∧ s.portUp x.port = true ∧ s.unitRead (ringWho x.owner) (x.txBase + 16 * (x.txIdx % 2 ^ x.log)) 16 = (.ok d, t) ∧ bit (leAt d 10 1) 0 = true ∧ 60 ≤ leAt d 8 2 ∧ leAt d 8 2 ≤ 9212 ∧ (t.setQp n (some { x with txIdx := x.txIdx + 1 })).unitRead (ringWho x.owner) (leAt d 0 8) (leAt d 8 2) = (.ok f, u) ∧ u.deniedType (beAt f 12 2) = false) ∧
    (∃ (s : State) (port : Nat) (f : List Byte), s.safe = false ∧ s.portUp port = true ∧ beAt f 12 2 ≠ 0x8100 ∧ beAt f 12 2 ≠ s.fld F.TTH_GROUP_ETYPE ∧ beAt f 12 2 ≠ 0x88F7) :=
  ⟨⟨((({ z.setFld F.TTH_PORT_STAT_UP 1 1 with dziv := { z.dziv with enabled := 2 } } : State).setQp 31 (some ⟨.s, 1, 6, false, 0, [], 0x1000000, 0x1001000, 0, 0, false, true⟩))).putBytes 0x1000000 (leBytes 8 0 ++ leBytes 2 59 ++ [1, 0, 0, 0, 0, 0]), ((((({ z.setFld F.TTH_PORT_STAT_UP 1 1 with dziv := { z.dziv with enabled := 2 } } : State).setQp 31 (some ⟨.s, 1, 6, false, 0, [], 0x1000000, 0x1001000, 0, 0, false, true⟩))).putBytes 0x1000000 (leBytes 8 0 ++ leBytes 2 59 ++ [1, 0, 0, 0, 0, 0])).unitRead (ringWho ((⟨.s, 1, 6, false, 0, [], 0x1000000, 0x1001000, 0, 0, false, true⟩ : Qp)).owner) (((⟨.s, 1, 6, false, 0, [], 0x1000000, 0x1001000, 0, 0, false, true⟩ : Qp)).txBase + 16 * (((⟨.s, 1, 6, false, 0, [], 0x1000000, 0x1001000, 0, 0, false, true⟩ : Qp)).txIdx % 2 ^ ((⟨.s, 1, 6, false, 0, [], 0x1000000, 0x1001000, 0, 0, false, true⟩ : Qp)).log)) 16).2, 31, ⟨.s, 1, 6, false, 0, [], 0x1000000, 0x1001000, 0, 0, false, true⟩, leBytes 8 0 ++ leBytes 2 59 ++ [1, 0, 0, 0, 0, 0], ⟨by decide +kernel, by decide +kernel, by decide +kernel, by decide +kernel, ok_of (by decide +kernel), by decide +kernel, by decide +kernel⟩⟩,
   ⟨((({ z.setFld F.TTH_PORT_STAT_UP 1 1 with dziv := { z.dziv with enabled := 2 } } : State).setQp 31 (some ⟨.s, 1, 6, false, 0, [], 0x1000000, 0x1001000, 0, 0, false, true⟩))).putBytes 0x1000000 (leBytes 8 0x1002000 ++ leBytes 2 60 ++ [1, 0, 0, 0, 0, 0]), ((((({ z.setFld F.TTH_PORT_STAT_UP 1 1 with dziv := { z.dziv with enabled := 2 } } : State).setQp 31 (some ⟨.s, 1, 6, false, 0, [], 0x1000000, 0x1001000, 0, 0, false, true⟩))).putBytes 0x1000000 (leBytes 8 0x1002000 ++ leBytes 2 60 ++ [1, 0, 0, 0, 0, 0])).unitRead (ringWho ((⟨.s, 1, 6, false, 0, [], 0x1000000, 0x1001000, 0, 0, false, true⟩ : Qp)).owner) (((⟨.s, 1, 6, false, 0, [], 0x1000000, 0x1001000, 0, 0, false, true⟩ : Qp)).txBase + 16 * (((⟨.s, 1, 6, false, 0, [], 0x1000000, 0x1001000, 0, 0, false, true⟩ : Qp)).txIdx % 2 ^ ((⟨.s, 1, 6, false, 0, [], 0x1000000, 0x1001000, 0, 0, false, true⟩ : Qp)).log)) 16).2, (((((((({ z.setFld F.TTH_PORT_STAT_UP 1 1 with dziv := { z.dziv with enabled := 2 } } : State).setQp 31 (some ⟨.s, 1, 6, false, 0, [], 0x1000000, 0x1001000, 0, 0, false, true⟩))).putBytes 0x1000000 (leBytes 8 0x1002000 ++ leBytes 2 60 ++ [1, 0, 0, 0, 0, 0])).unitRead (ringWho ((⟨.s, 1, 6, false, 0, [], 0x1000000, 0x1001000, 0, 0, false, true⟩ : Qp)).owner) (((⟨.s, 1, 6, false, 0, [], 0x1000000, 0x1001000, 0, 0, false, true⟩ : Qp)).txBase + 16 * (((⟨.s, 1, 6, false, 0, [], 0x1000000, 0x1001000, 0, 0, false, true⟩ : Qp)).txIdx % 2 ^ ((⟨.s, 1, 6, false, 0, [], 0x1000000, 0x1001000, 0, 0, false, true⟩ : Qp)).log)) 16).2).setQp (31) (some { ((⟨.s, 1, 6, false, 0, [], 0x1000000, 0x1001000, 0, 0, false, true⟩ : Qp)) with txIdx := ((⟨.s, 1, 6, false, 0, [], 0x1000000, 0x1001000, 0, 0, false, true⟩ : Qp)).txIdx + 1 })).unitRead (ringWho ((⟨.s, 1, 6, false, 0, [], 0x1000000, 0x1001000, 0, 0, false, true⟩ : Qp)).owner) (leAt (leBytes 8 0x1002000 ++ leBytes 2 60 ++ [1, 0, 0, 0, 0, 0]) 0 8) (leAt (leBytes 8 0x1002000 ++ leBytes 2 60 ++ [1, 0, 0, 0, 0, 0]) 8 2)).2, 31, ⟨.s, 1, 6, false, 0, [], 0x1000000, 0x1001000, 0, 0, false, true⟩, leBytes 8 0x1002000 ++ leBytes 2 60 ++ [1, 0, 0, 0, 0, 0], List.replicate 60 0, ⟨by decide +kernel, by decide +kernel, by decide +kernel, by decide +kernel, ok_of (by decide +kernel), by decide +kernel, by decide +kernel, by decide +kernel, ok_of (by decide +kernel), by decide +kernel⟩⟩,
   ⟨{ z.setFld F.TTH_PORT_STAT_UP 1 1 with dziv := { z.dziv with enabled := 2 } }, 1, List.replicate 60 0, by decide +kernel⟩⟩

theorem witness_PowerStatesFollowTheirRules :
    (∃ (s : State) (k : Nat) (q : Started), s.opAt k 0x3C00 = some q ∧ q.progress = 0 ∧ q.p8 0 < 2 ∧ s.fld F.PWR_STATE_STATE < 2) ∧
    (∃ (s : State) (k : Nat) (q : Started), s.opAt k 0x3C00 = some q ∧ q.progress = 0 ∧ q.p8 0 = 2 ∧ s.fld F.PWR_STATE_STATE < 2 ∧ q.ring = .s) ∧
    (∃ (s : State) (k : Nat) (q : Started), s.opAt k 0x3C00 = some q ∧ q.progress = 0 ∧ q.p8 0 = 2 ∧ s.fld F.PWR_STATE_STATE < 2 ∧ q.ring ≠ .s ∧ s.safe = false ∧ s.cutVerdict s.sleepCuts = 0) ∧
    (∃ (s : State) (k : Nat) (q : Started), s.opAt k 0x3C00 = some q ∧ q.progress = 0 ∧ q.p8 0 = 2 ∧ s.fld F.PWR_STATE_STATE < 2 ∧ q.ring ≠ .s ∧ s.safe = false ∧ s.cutVerdict s.sleepCuts = 1) ∧
    (∃ (s : State) (k : Nat) (q : Started), s.opAt k 0x3C00 = some q ∧ q.progress = 0 ∧ q.p8 0 = 2 ∧ 2 ≤ s.fld F.PWR_STATE_STATE) ∧
    (∃ (s : State) (k : Nat) (q : Started), s.opAt k 0x3C00 = some q ∧ q.progress = 0 ∧ 2 < q.p8 0 ∧ q.ring = .s ∧ s.fld F.PWR_STATE_STATE ≠ 5) ∧
    (∃ (s : State) (k : Nat) (q : Started), s.opAt k 0x3C00 = some q ∧ q.progress = 0 ∧ 2 < q.p8 0 ∧ q.ring ≠ .s ∧ s.safe = false) ∧
    (∃ (s : State), s.fld F.PWR_STATE_STATE = 2 ∧ s.fw.pause = none ∧ s.copying = false ∧ s.fol.pfLow = false ∧ s.mc.retrain = none ∧ s.lockedWork = false ∧ s.pwr.wakeHeld = none) :=
  ⟨⟨at5 (pk .s 0x3C00 ([1])) ((z.setFld F.PWR_STATE_STATE 1)), 5, pk .s 0x3C00 ([1]), by decide +kernel⟩,
   ⟨at5 (pk .s 0x3C00 ([2])) ((z.setFld F.PWR_STATE_STATE 1)), 5, pk .s 0x3C00 ([2]), by decide +kernel⟩,
   ⟨at5 (pk .med 0x3C00 ([2])) ((z.setRg Reg.PWR_SPOLICY0 0xFFFFFFFF)), 5, pk .med 0x3C00 ([2]), by decide +kernel⟩,
   ⟨at5 (pk .med 0x3C00 ([2])) ((z.setRg Reg.PWR_SPOLICY0 0).setRg Reg.PWR_SCLAIM0 0xFFFFFFFF), 5, pk .med 0x3C00 ([2]), by decide +kernel⟩,
   ⟨at5 (pk .s 0x3C00 ([2])) ((z.setFld F.PWR_STATE_STATE 2)), 5, pk .s 0x3C00 ([2]), by decide +kernel⟩,
   ⟨at5 (pk .s 0x3C00 ([3])) ((z.setFld F.PWR_STATE_STATE 4)), 5, pk .s 0x3C00 ([3]), by decide +kernel⟩,
   ⟨at5 (pk .med 0x3C00 ([3])), 5, pk .med 0x3C00 ([3]), by decide +kernel⟩,
   ⟨(z.setFld F.PWR_STATE_STATE 2), by decide +kernel⟩⟩

theorem witness_PowerStatesFollowTheirRules_2 :
    (∃ (s : State), s.fld F.PWR_STATE_STATE ≠ 2) ∧
    (∃ (s : State) (cause : Nat) (pin : Nat), s.pwr.vault = false ∧ s.wakeFires (s.rg Reg.PWR_WAKE).toNat cause pin = true ∧ s.fld F.PWR_STATE_STATE = 3) ∧
    (∃ (s : State) (cause : Nat) (pin : Nat), s.pwr.vault = false ∧ s.wakeFires (s.rg Reg.PWR_WAKE).toNat cause pin = true ∧ s.fld F.PWR_STATE_STATE = 2 ∧ s.pwr.wakeHeld = none) ∧
    (∃ (s : State) (cause : Nat) (pin : Nat), s.pwr.vault = true ∧ (cause = 1 ∨ cause = 2) ∧ s.wakeFires s.pwr.wake cause pin = true) ∧
    (∃ (s : State), s.fld F.PWR_STATE_STATE = 4 ∧ s.pwr.railJob = none) ∧
    (∃ (s : State), s.fld F.PWR_STATE_STATE = 4 ∧ s.pwr.railJob.isSome = true) ∧
    (∃ (s : State), s.fld F.PWR_STATE_STATE = 5 ∧ s.fol.pfLow = false) ∧
    (∃ (s : State) (c : Nat), s.fld F.PWR_STATE_STATE = 1 ∧ s.flt.coresHeld = false ∧ s.powered (7 + c) = true ∧ bit s.pwr.gated c = false) :=
  ⟨⟨(z.setFld F.PWR_STATE_STATE 3), by decide +kernel⟩,
   ⟨((z.setRg Reg.PWR_WAKE 0x80).setFld F.PWR_STATE_STATE 3), 1, 7, by decide +kernel⟩,
   ⟨((z.setRg Reg.PWR_WAKE 0x80).setFld F.PWR_STATE_STATE 2), 1, 7, by decide +kernel⟩,
   ⟨{ z with pwr := { z.pwr with vault := true, wake := 0x80 } }, 1, 7, by decide +kernel⟩,
   ⟨(z.setFld F.PWR_STATE_STATE 4), by decide +kernel⟩,
   ⟨{ (z.setFld F.PWR_STATE_STATE 4) with pwr := { z.pwr with railJob := some ⟨true, [11], 0⟩ } }, by decide +kernel⟩,
   ⟨(z.setFld F.PWR_STATE_STATE 5), by decide +kernel⟩,
   ⟨{ (z.setFld F.PWR_STATE_STATE 1) with flt := { z.flt with coresHeld := false } }, 3, by decide +kernel⟩⟩

theorem witness_PowerStatesFollowTheirRules_3 :
    ∃ (s : State) (c : Nat), bit s.pwr.gated c = true :=
  ⟨{ z with pwr := { z.pwr with gated := 8 } }, 3, by decide +kernel⟩

theorem witness_DomainsAndClaimsFollowTheirRules :
    (∃ (s : State) (k : Nat) (q : Started), s.opAt k 0x3C01 = some q ∧ q.progress = 0 ∧ fixedDomain (q.p8 0) = true) ∧
    (∃ (s : State) (k : Nat) (q : Started), s.opAt k 0x3C01 = some q ∧ q.progress = 0 ∧ fixedDomain (q.p8 0) = false ∧ s.asleep = true) ∧
    (∃ (s : State) (k : Nat) (q : Started), s.opAt k 0x3C01 = some q ∧ q.progress = 0 ∧ fixedDomain (q.p8 0) = false ∧ s.asleep = false ∧ q.p8 1 = 1) ∧
    (∃ (s : State) (k : Nat) (q : Started), s.opAt k 0x3C01 = some q ∧ q.progress = 0 ∧ fixedDomain (q.p8 0) = false ∧ s.asleep = false ∧ q.p8 1 = 0 ∧ s.powered (q.p8 0) = false) ∧
    (∃ (s : State) (k : Nat) (q : Started), s.opAt k 0x3C01 = some q ∧ q.progress = 0 ∧ fixedDomain (q.p8 0) = false ∧ s.asleep = false ∧ q.p8 1 ≠ 1 ∧ s.powered (q.p8 0) = true) ∧
    (∃ (s : State) (d : Nat) (q : Started), q.ring ≠ .s ∧ s.cutVerdict [d] = 0) ∧
    (∃ (s : State) (d : Nat) (q : Started), q.ring ≠ .s ∧ s.cutVerdict [d] = 1) ∧
    (∃ (s : State) (k : Nat) (d : Nat) (q : Started), q.ring ≠ .s ∧ s.cutVerdict [d] = 2 ∧ bit (q.p8 2) 0 = false ∧ s.domainBusy d k = true) :=
  ⟨⟨at5 (pk .s 0x3C01 ([43])), 5, pk .s 0x3C01 ([43]), by decide +kernel⟩,
   ⟨at5 (pk .s 0x3C01 ([45])) ((z.setFld F.PWR_STATE_STATE 2)), 5, pk .s 0x3C01 ([45]), by decide +kernel⟩,
   ⟨at5 (pk .s 0x3C01 ([45, 1])), 5, pk .s 0x3C01 ([45, 1]), by decide +kernel⟩,
   ⟨at5 (pk .s 0x3C01 ([45, 0])) ({ z with pwr := { z.pwr with off := 2 ^ 45 } }), 5, pk .s 0x3C01 ([45, 0]), by decide +kernel⟩,
   ⟨at5 (pk .s 0x3C01 ([45, 2])), 5, pk .s 0x3C01 ([45, 2]), by decide +kernel⟩,
   ⟨z.setRg Reg.PWR_SPOLICY0 0xFFFFFFFF, 28, pk .med 0, by decide +kernel⟩,
   ⟨(z.setRg Reg.PWR_SPOLICY0 0).setRg Reg.PWR_SCLAIM0 0xFFFFFFFF, 28, pk .med 0, by decide +kernel⟩,
   ⟨grants 0 (gr (.task 1 0)) (z.setRg Reg.PWR_SPOLICY0 0), 5, 28, pk .med 0, by decide +kernel⟩⟩

theorem witness_DomainsAndClaimsFollowTheirRules_2 :
    (∃ (s : State) (d : Nat) (q : Started), q.ring ≠ .s ∧ s.cutVerdict [d] = 2 ∧ bit (q.p8 2) 0 = true) ∧
    (∃ (s : State) (d : Nat) (l : List (Nat × Option Nat)), s.pwr.restoring.filter (fun e => e.1 == d) = l ∧ l ≠ [] ∧ s.powered d = false ∧ s.pwr.cutting.any (fun e => e.1 == d) = false ∧ s.asleep = false) ∧
    (∃ (who : Who), who ≠ .s) ∧
    (∃ (s : State) (i : Nat) (d : Nat) (x : Deferred), s.wld.deferred[i]? = some x ∧ s.asleep = false ∧ x.kind ≠ 2 ∧ x.domains = [d] ∧ s.claimed d = false) ∧
    (∃ (s : State) (i : Nat) (x : Deferred), s.wld.deferred[i]? = some x ∧ s.asleep = false ∧ x.kind = 2 ∧ s.safe = false ∧ (∀ d, d ∈ x.domains → s.claimed d = false)) ∧
    (∃ (s : State) (i : Nat) (d : Nat) (x : Deferred), s.wld.deferred[i]? = some x ∧ d ∈ x.domains ∧ s.claimed d = true) :=
  ⟨⟨z.setRg Reg.PWR_SPOLICY0 0, 28, pk .med 0 [0, 0, 1], by decide +kernel⟩,
   ⟨{ z with pwr := { z.pwr with off := 2 ^ 45, restoring := [(45, none)] } }, 45, [(45, none)], by decide +kernel⟩,
   ⟨.med, by decide +kernel⟩,
   ⟨{ z with wld := { z.wld with deferred := [⟨0, [28], .med, 0⟩] } }, 0, 28, ⟨0, [28], .med, 0⟩, by decide +kernel⟩,
   ⟨{ z with wld := { z.wld with deferred := [⟨2, [28], .med, 0⟩] } }, 0, ⟨2, [28], .med, 0⟩, by decide +kernel⟩,
   ⟨{ (z.setRg Reg.PWR_SPOLICY0 0).setRg Reg.PWR_SCLAIM0 0xFFFFFFFF with wld := { z.wld with deferred := [⟨0, [28], .med, 0⟩] } }, 0, 28, ⟨0, [28], .med, 0⟩, by decide +kernel⟩⟩

theorem witness_ResetsRailsAndAlwaysOn :
    (∃ (s : State) (k : Nat) (q : Started), s.opAt k 0x3C02 = some q ∧ q.p8 0 = 1 ∧ q.ring = .s) ∧
    (∃ (s : State) (k : Nat) (q : Started), s.opAt k 0x3C02 = some q ∧ q.p8 0 = 1 ∧ q.ring ≠ .s) ∧
    (∃ (s : State) (k : Nat) (q : Started), s.opAt k 0x3C02 = some q ∧ q.p8 0 ≠ 1 ∧ q.progress = 0 ∧ s.safe = true) ∧
    (∃ (s : State) (k : Nat) (q : Started), s.opAt k 0x3C02 = some q ∧ q.p8 0 ≠ 1 ∧ q.progress = 0 ∧ s.safe = false) ∧
    (∃ (s : State), s.pwr.nReset = true ∧ s.nWorkLeft = false) ∧
    (∃ (s : State), s.flt.poresetHi = true ∧ s.pwr.resetLow = false) ∧
    (∃ (s : State), s.pwr.resetLow = true) ∧
    (∃ (s : State), s.flt.poresetHi = true) :=
  ⟨⟨at5 (pk .s 0x3C02 ([1])), 5, pk .s 0x3C02 ([1]), by decide +kernel⟩,
   ⟨at5 (pk .med 0x3C02 ([1])), 5, pk .med 0x3C02 ([1]), by decide +kernel⟩,
   ⟨at5 (pk .s 0x3C02 ([0])) (z.setFld F.DEV_FAULT_STAT_SAFE 1), 5, pk .s 0x3C02 ([0]), by decide +kernel⟩,
   ⟨at5 (pk .s 0x3C02 ([0])), 5, pk .s 0x3C02 ([0]), by decide +kernel⟩,
   ⟨{ z with pwr := { z.pwr with nReset := true } }, by decide +kernel⟩,
   ⟨{ z with flt := { z.flt with poresetHi := true } }, by decide +kernel⟩,
   ⟨{ z with pwr := { z.pwr with resetLow := true } }, by decide +kernel⟩,
   ⟨{ z with flt := { z.flt with poresetHi := true } }, by decide +kernel⟩⟩

theorem witness_ResetsRailsAndAlwaysOn_2 :
    (∃ (s : State), s.pwr.hold = false ∧ s.pwr.vault = false ∧ s.flt.poresetHi = false) ∧
    (∃ (s : State), s.flt.poresetHi = false) ∧
    (∃ (s : State) (k : Nat) (q : Started), s.opAt k 0x3C03 = some q ∧ bit (q.p8 0) 0 = true ∧ s.flag F.TTH_TIME_STAT_SYNC = false) ∧
    (∃ (s : State) (k : Nat) (q : Started), s.opAt k 0x3C03 = some q ∧ bit (q.p8 0) 0 = false) ∧
    (∃ (s : State) (k : Nat) (q : Started), s.opAt k 0x3C04 = some q) ∧
    (∃ (s : State) (r : Nat) (l : List Nat) (tries : Nat), s.pwr.railJob = some ⟨true, r :: l, tries⟩ ∧ bit s.pwr.railsOff r = true) ∧
    (∃ (s : State) (r : Nat) (l : List Nat) (tries : Nat), s.pwr.railJob = some ⟨true, r :: l, tries⟩ ∧ bit s.pwr.railsOff r = true ∧ tries = 0) ∧
    (∃ (s : State) (r : Nat) (l : List Nat) (tries : Nat), s.pwr.railJob = some ⟨true, r :: l, tries⟩ ∧ bit s.pwr.railsOff r = true ∧ tries ≠ 0) :=
  ⟨⟨{ z with pwr := { z.pwr with hold := false } }, by decide +kernel⟩,
   ⟨z, by decide +kernel⟩,
   ⟨at5 (pk .s 0x3C03 ([1])), 5, pk .s 0x3C03 ([1]), by decide +kernel⟩,
   ⟨at5 (pk .s 0x3C03 ([0])), 5, pk .s 0x3C03 ([0]), by decide +kernel⟩,
   ⟨at5 (pk .s 0x3C04 ([7])), 5, pk .s 0x3C04 ([7]), by decide +kernel⟩,
   ⟨{ z with pwr := { z.pwr with railsOff := 2 ^ 11, railJob := some ⟨true, [11], 0⟩ } }, 11, [], 0, by decide +kernel⟩,
   ⟨{ z with pwr := { z.pwr with railsOff := 2 ^ 11, railJob := some ⟨true, [11], 0⟩ } }, 11, [], 0, by decide +kernel⟩,
   ⟨{ z with pwr := { z.pwr with railsOff := 2 ^ 11, railJob := some ⟨true, [11], 1⟩ } }, 11, [], 1, by decide +kernel⟩⟩

theorem witness_ResetsRailsAndAlwaysOn_3 :
    ∃ (s : State), s.flag F.PWR_AVS_ENABLE = true ∧ s.avsRails.length = 1 ∧ s.fld F.PWR_AVS_VOUT_MV ≠ 0 :=
  ⟨(((z.setFld F.PWR_AVS_ENABLE 1).setFld F.PWR_RAIL_VALID 1 11).setFld F.PWR_RAIL_AVS 1 11).setFld F.PWR_AVS_VOUT_MV 800, by decide +kernel⟩

theorem witness_LowSpeedPortsAndPins :
    (∃ (s : State) (p : Nat), s.gatedAt (Reg.LSIO_CTRL p) = false) ∧
    (∃ (s : State) (p : Nat), s.gatedAt (Reg.LSIO_TX_PUSH p) = false ∧ 64 ≤ (s.txFifo p).length) ∧
    (∃ (s : State) (p : Nat), s.gatedAt (Reg.LSIO_TX_PUSH p) = false ∧ (s.txFifo p).length < 64 ∧ bit s.lsio.skip p = false) ∧
    (∃ (s : State) (p : Nat), s.gatedAt (Reg.LSIO_RX_POP p) = false) ∧
    (∃ (s : State) (p : Nat), s.sPort p = true ∧ s.gatedAt (Reg.LSIO_TX_PUSH p) = false) ∧
    (∃ (s : State) (p : Nat), s.sPort p = true ∧ s.gatedAt (Reg.LSIO_RX_POP p) = false) ∧
    (∃ (s : State) (p : Nat), s.sPort p = true ∧ s.gatedAt (Reg.LSIO_CTRL p) = false) ∧
    (∃ (s : State) (p : Nat) (l : List Nat), 8 ≤ p ∧ p < 12 ∧ s.flag F.LSIO_CTRL_ENABLE p = true ∧ s.flag F.LSIO_CTRL_LOOPBACK p = false ∧ l ≠ [] ∧ s.powered 44 = true ∧ (s.rxFifo p).length + l.length ≤ 64 ∧ (∀ e, e ∈ l → e < 256)) :=
  ⟨⟨z, 13, by decide +kernel⟩,
   ⟨{ z with lsio := { z.lsio with tx := [(13, List.replicate 64 0)] } }, 13, by decide +kernel⟩,
   ⟨{ z with lsio := { z.lsio with tx := [(13, List.replicate 63 0)] } }, 13, by decide +kernel⟩,
   ⟨z, 13, by decide +kernel⟩,
   ⟨z.setRg Reg.LSIO_SOWN 0x2000, 13, by decide +kernel⟩,
   ⟨z.setRg Reg.LSIO_SOWN 0x2000, 13, by decide +kernel⟩,
   ⟨z.setRg Reg.LSIO_SOWN 0x2000, 13, by decide +kernel⟩,
   ⟨z.setFld F.LSIO_CTRL_ENABLE 1 11, 11, List.replicate 64 255, by decide +kernel⟩⟩

theorem witness_LowSpeedPortsAndPins_2 :
    (∃ (s : State) (p : Nat), 8 ≤ p ∧ p < 12 ∧ s.flag F.LSIO_CTRL_ENABLE p = true ∧ s.txFifo p ≠ [] ∧ s.powered 44 = true) ∧
    (∃ (s : State) (p : Nat), 12 ≤ p ∧ s.flag F.LSIO_CTRL_ENABLE p = true ∧ s.powered 44 = true) ∧
    (∃ (s : State) (p : Nat) (st : Nat), 12 ≤ p ∧ st < 3 ∧ s.flag F.LSIO_CTRL_ENABLE p = true ∧ s.fld F.LSIO_STAT_STATE p ≠ st ∧ s.powered 44 = true) ∧
    (∃ (i : Nat), i < 64) ∧
    (∃ (s : State) (who : Who), s.gatedAt Reg.LSIO_SOWN = false ∧ who ≠ .s) :=
  ⟨⟨{ z.setFld F.LSIO_CTRL_ENABLE 1 11 with lsio := { z.lsio with tx := [(11, [1])] } }, 11, by decide +kernel⟩,
   ⟨z.setFld F.LSIO_CTRL_ENABLE 1 12, 12, by decide +kernel⟩,
   ⟨z.setFld F.LSIO_CTRL_ENABLE 1 12, 12, 2, by decide +kernel⟩,
   ⟨63, by decide +kernel⟩,
   ⟨z, .med, by decide +kernel⟩⟩

theorem witness_DebugAccessActsForTheCore :
    (∃ (s : State) (w : Bool) (r : Req), s.debugIn w = true ∧ (r.who == .s) = w) ∧
    (∃ (s : State) (w : Bool) (r : Req), (s.debugIn w = false ∨ (r.who == .s) ≠ w)) :=
  ⟨⟨(z.setFld F.DEV_DBG_NINV 1).setFld F.DEV_DBG_LOCK_NINV 0, false, ⟨.med, true, .rt⟩, by decide +kernel⟩,
   ⟨z, true, ⟨.s, true, .rt⟩, by decide +kernel⟩⟩

theorem witness_SharedUpdatesStayInTheirPlace :
    (∃ (f : Fld) (i : Nat), f.lo ≤ f.hi ∧ f.hi < 32 ∧ i < 32 ∧ (i < f.lo ∨ f.hi < i)) ∧
    (∃ (n : Nat), n < 512) ∧
    (∃ (s : State) (r : RingId) (code : Nat), ((s.ring r).enabled = false ∨ (s.ring r).draining = true ∨ bit (s.ring r).mask (code / 1024) = false)) ∧
    (∃ (s : State) (r : RingId) (code : Nat), (s.ring r).enabled = true ∧ (s.ring r).draining = false ∧ bit (s.ring r).mask (code / 1024) = true ∧ s.paused = false ∧ 2 ^ (s.ring r).eqLog ≤ (s.ring r).eqUsed + 2) ∧
    (∃ (s : State) (t : State) (r : RingId) (code : Nat) (inst : Nat) (d0 : Nat) (d1 : Nat) (d2 : Nat) (d3 : Nat), r = .s ∧ (s.ring r).enabled = true ∧ (s.ring r).draining = false ∧ bit (s.ring r).mask (code / 1024) = true ∧ s.paused = false ∧ (s.ring r).eqUsed + 2 < 2 ^ (s.ring r).eqLog ∧ s.dmaWrite .s ((s.ring r).eqBase + 32 * (s.ring r).eqTail) (eventBytes code inst (ringClient r) (if ringClient r = 0 then 0 else (s.client (ringClient r)).gen) (((s.ring r).eqPass + 1) % 2) s.devTime d0 d1 d2 d3) = (none, t)) :=
  ⟨⟨⟨0x10000000, 4, 30, 1⟩, 31, by decide +kernel⟩,
   ⟨511, by decide +kernel⟩,
   ⟨z, .med, 0, by decide +kernel⟩,
   ⟨z.setRing .s { ringOn with eqTail := 14 }, .s, 0, by decide +kernel⟩,
   ⟨z.setRing .s { ringOn with eqTail := 13 }, ((z.setRing .s { ringOn with eqTail := 13 }).dmaWrite .s (((z.setRing .s { ringOn with eqTail := 13 }).ring (.s)).eqBase + 32 * ((z.setRing .s { ringOn with eqTail := 13 }).ring (.s)).eqTail) (eventBytes (0) (0) (ringClient (.s)) (if ringClient (.s) = 0 then 0 else ((z.setRing .s { ringOn with eqTail := 13 }).client (ringClient (.s))).gen) ((((z.setRing .s { ringOn with eqTail := 13 }).ring (.s)).eqPass + 1) % 2) (z.setRing .s { ringOn with eqTail := 13 }).devTime (0) (0) (0) (0))).2, .s, 0, 0, 0, 0, 0, 0, ⟨by decide +kernel, by decide +kernel, by decide +kernel, by decide +kernel, by decide +kernel, by decide +kernel, none_of (by decide +kernel)⟩⟩⟩

end Sys2Proof.Tests
end

section
/-! PROOFS. Mailboxes (02 R69-R77): a doorbell's effect on the mailbox's fields, registers and interrupt source, and the statement about the owner's
doorbell. -/

namespace Sys2Proof.Machine

/-! Updates of registers, and of registers and interrupt sources. -/

/-- The second state is the first with other registers. -/
def RegsOnly (s t : State) : Prop := t = { s with regs := t.regs }

theorem RegsOnly.setFld (s : State) (f : Fld) (v n : Nat) : RegsOnly s (s.setFld f v n) := Eq.refl _

theorem RegsOnly.trans {s t u : State} (h : RegsOnly s t) (g : RegsOnly t u) : RegsOnly s u := by
  unfold RegsOnly at *
  rw [g, h]

/-- Raising a source after an update of registers touches registers and the pending sources alone. -/
theorem RegsOnly.raise_frame {s t : State} (h : RegsOnly s t) (n : Nat) :
    t.raise n = { s with regs := (t.raise n).regs, wld := { s.wld with pend := (t.raise n).wld.pend } } := by
  unfold RegsOnly at h
  rw [h]
  dsimp only [State.raise]

/-! An accepted message (R75, R768). -/

/-- The state once mailbox `m` holds a message: LEN and SEQ latched, N2S_FULL set and source 448 + m pending. -/
def State.postN2s (s : State) (m len seq : Nat) : State :=
  (((s.setFld F.INT_MBX_N2S_SEQ seq m).setFld F.INT_MBX_N2S_LEN len m).setFld F.INT_MBX_STAT_N2S_FULL 1 m).raise (448 + m)

theorem addr_INT_MBX_N2S_ne_STAT (m : Nat) : Reg.INT_MBX_N2S m ≠ Reg.INT_MBX_STAT m := by
  simp only [Reg.INT_MBX_N2S, Reg.INT_MBX_STAT]; omega

theorem State.flag_N2S_FULL_postN2s (s : State) (m len seq : Nat) : (s.postN2s m len seq).flag F.INT_MBX_STAT_N2S_FULL m = true := by
  rw [State.postN2s, State.flag_of_raise, State.flag, State.fld_setFld _ _ _ _ (by decide) (by decide)]
  decide

theorem State.fld_N2S_LEN_postN2s (s : State) {len : Nat} (m seq : Nat) (h : len < 2 ^ 9) : (s.postN2s m len seq).fld F.INT_MBX_N2S_LEN m = len := by
  rw [State.postN2s, State.fld_of_raise, State.fld_setFld_reg _ F.INT_MBX_STAT_N2S_FULL F.INT_MBX_N2S_LEN _ _ _ (addr_INT_MBX_N2S_ne_STAT m),
    State.fld_setFld _ _ _ _ (by decide) (by decide)]
  exact Nat.mod_eq_of_lt h

theorem State.fld_N2S_SEQ_postN2s (s : State) {seq : Nat} (m len : Nat) (h : seq < 2 ^ 16) : (s.postN2s m len seq).fld F.INT_MBX_N2S_SEQ m = seq := by
  rw [State.postN2s, State.fld_of_raise, State.fld_setFld_reg _ F.INT_MBX_STAT_N2S_FULL F.INT_MBX_N2S_SEQ _ _ _ (addr_INT_MBX_N2S_ne_STAT m),
    State.fld_setFld_field _ F.INT_MBX_N2S_LEN F.INT_MBX_N2S_SEQ _ _ _ rfl (by decide) (by decide) (by decide),
    State.fld_setFld _ _ _ _ (by decide) (by decide)]
  exact Nat.mod_eq_of_lt h

theorem State.isPend_postN2s (s : State) {m : Nat} (len seq : Nat) (h : m < 16) : (s.postN2s m len seq).isPend (448 + m) = true :=
  State.isPend_raise_same _ _ (by omega)

theorem State.samePendBut_postN2s (s : State) (m len seq : Nat) : SamePendBut [448 + m] s (s.postN2s m len seq) :=
  (SamePendBut.of_wld (by simp only [State.setFld_wld])).trans (SamePendBut.raise _ _ List.mem_cons_self)

theorem State.sameRegsBut_postN2s (s : State) (m len seq : Nat) :
    SameRegsBut [Reg.INT_MBX_STAT m, Reg.INT_MBX_N2S m] s (s.postN2s m len seq) := by
  have hstat : F.INT_MBX_STAT_N2S_FULL.addr m ∈ [Reg.INT_MBX_STAT m, Reg.INT_MBX_N2S m] := List.mem_cons_self
  have hn2s : Reg.INT_MBX_N2S m ∈ [Reg.INT_MBX_STAT m, Reg.INT_MBX_N2S m] := List.mem_cons_of_mem _ List.mem_cons_self
  exact (((SameRegsBut.setFld s _ _ m hn2s).trans (.setFld _ _ _ m hn2s)).trans (.setFld _ _ _ m hstat)).trans (.of_regs (State.raise_regs _ _))

/-- A posted message touches registers and the pending sources alone. -/
theorem State.postN2s_frame (s : State) (m len seq : Nat) :
    s.postN2s m len seq = { s with regs := (s.postN2s m len seq).regs, wld := { s.wld with pend := (s.postN2s m len seq).wld.pend } } :=
  ((RegsOnly.setFld s _ _ m).trans (.setFld _ _ _ m)).trans (.setFld _ _ _ m) |>.raise_frame (448 + m)

/-! The owner's two commands. -/

theorem exec_mbxDoorbell (who : Who) (m : Nat) (v : Word) (s : State) : exec (.mbxDoorbell who m v) s = execMbxDoorbell who m v s := rfl

theorem exec_mbxBufferWrite (who : Who) (m off : Nat) (v : Word) (s : State) :
    exec (.mbxBufferWrite who m off v) s = execMbxBufferWrite who m off v s := rfl

/-- The owner's doorbell posts the message exactly while the mailbox is enabled and empty and LEN is at most 256 (R75). -/
theorem exec_mbxDoorbell_of_owner {s : State} {who : Who} {m : Nat} (v : Word) (ho : s.mbxOwner who m = true) :
    exec (.mbxDoorbell who m v) s =
      if s.flag F.INT_MBX_SCTRL_ENABLE m = true ∧ s.flag F.INT_MBX_STAT_N2S_FULL m = false ∧ bitsOf v 8 0 ≤ 256 then
        .next (s.postN2s m (bitsOf v 8 0) (bitsOf v 31 16))
      else .next (s.setFld F.INT_MBX_STAT_REFUSED 1 m) := by
  simp only [exec_mbxDoorbell, execMbxDoorbell, ho, State.postN2s, Bool.not_true, Bool.false_eq_true, if_false, Bool.and_eq_true, Bool.not_eq_true',
    decide_eq_true_eq, and_assoc]

/-- A write to the N2S buffer of a mailbox that holds a message changes nothing, whoever writes (R72, R75). -/
theorem exec_mbxBufferWrite_of_full {s : State} {m off : Nat} (who : Who) (v : Word) (hf : s.flag F.INT_MBX_STAT_N2S_FULL m = true) (hoff : off < 256) :
    exec (.mbxBufferWrite who m off v) s = .next s := by
  simp only [exec_mbxBufferWrite, execMbxBufferWrite, hf, hoff, Bool.not_true, Bool.and_false, Bool.false_eq_true, if_true, if_false, ite_self]

/-- Settles O16: an accepted doorbell answers `postN2s`, whose fields, source and frame have a lemma each; the refusing conditions negate the
accepting ones. -/
theorem doorbellPostsOneMessage : Obligations.DoorbellPostsOneMessage := by
  refine ⟨fun s who m v hm ho he hf hlen => ?accepted, fun s who m v _ ho href => ?refused, fun s who m off v _ hf hoff => ?frozen⟩
  case accepted =>
    refine ⟨s.postN2s m (bitsOf v 8 0) (bitsOf v 31 16), ?_, s.flag_N2S_FULL_postN2s .., s.fld_N2S_LEN_postN2s _ _ (bitsOf_lt v 8 0),
      s.fld_N2S_SEQ_postN2s _ _ (bitsOf_lt v 31 16), s.isPend_postN2s _ _ hm, s.samePendBut_postN2s _ _ _, s.sameRegsBut_postN2s _ _ _, s.postN2s_frame ..⟩
    rw [exec_mbxDoorbell_of_owner v ho, if_pos ⟨he, hf, hlen⟩]
  case refused =>
    rw [exec_mbxDoorbell_of_owner v ho, if_neg]
    rintro ⟨he, hf, hlen⟩
    obtain hdis | hfull | hlong := href
    · exact Bool.false_ne_true (hdis.symm.trans he)
    · exact Bool.false_ne_true (hf.symm.trans hfull)
    · exact Nat.not_lt_of_le hlen hlong
  case frozen => exact exec_mbxBufferWrite_of_full who v hf hoff

end Sys2Proof.Machine
end

section
/-! PROOFS. Memory reads (13 R525, R530): what a read of a word that decodes as clean or corrected decides, how MEMORY_READ answers what was decided,
and the statement about ink and POISON. -/

namespace Sys2Proof.Machine

/-! A word's ink and POISON as a read takes them from its side bits (R530). -/

/-- The stored ink of the word at `a`, where `left` is what its decoding left damaged: symbol 32 carries the ink in its bits 2:0. -/
def State.inkRead (s : State) (a : Nat) (left : List (Nat × Byte)) : Nat := s.inkAt a ^^^ ((SMap.get (fun _ => 0) left 32).toNat % 8)

/-- POISON of the word at `a`, where `left` is what its decoding left damaged: symbol 32 carries it in its bit 3. -/
def State.poisonRead (s : State) (a : Nat) (left : List (Nat × Byte)) : Bool :=
  xor (s.poisonAt a) (bit (SMap.get (fun _ => 0) left 32).toNat 3)

/-! The decision about a word (R530). -/

theorem State.inkFault_of_carried {s : State} {w : Who} {a ink : Nat} (stored : Nat) (write : Bool) (hc : s.carried w a = some ink) :
    s.inkFault w a stored write = if ink = stored then none else some ⟨2, some (.ink w a write stored ink)⟩ := by
  simp only [State.inkFault, hc]

/-- A word that decodes is decided by the first of R530's tests that holds: the ink, then POISON. -/
theorem State.dramReadFault_of_decoded {s : State} {a : Nat} {d : Decode} {left : List (Nat × Byte)} {copy : Bool} (w : Who) (write : Bool)
    (ha : a / 32 * 32 = a) (hch : s.channelFault (s.channelOf (s.served a)) = none) (hd : s.decoded (s.served a) = (d, left, copy))
    (hdec : d ≠ .uncorrectable) :
    s.dramReadFault w a write =
      (s.inkFault w a (s.inkRead (s.served a) left) write).or (if s.poisonRead (s.served a) left = true then some ⟨3, none⟩ else none) := by
  simp only [State.dramReadFault, ha, hch, hd, State.inkRead, State.poisonRead]
  cases d with
  | uncorrectable => exact absurd rfl hdec
  | clean | corrected => cases s.inkFault w a _ write <;> rfl

/-- A read, or a write of part of a word, of DRAM that no mirror hides is decided by its word. -/
theorem State.physFault_of_dram {s : State} {a : Nat} (w : Who) (write : Bool) (hr : s.region a = .dram) (hs : s.inSecondary a = false) :
    s.physFault w a write false = s.dramReadFault w a write := by
  simp only [State.physFault, hr, hs, Bool.and_false, Bool.false_eq_true, if_false]

/-! The read of one aligned word. -/

theorem pieces_of_word {a : Nat} (fuel : Nat) (ha : a / 32 * 32 = a) : pieces (fuel + 2) a 32 = [(a, 32)] := by
  have hmod : a % 32 = 0 := by omega
  simp [pieces, hmod]

theorem State.physRead_word_error {s : State} {w : Who} {a : Nat} {f : XFault} (ha : a / 32 * 32 = a) (hf : s.physFault w a false false = some f) :
    s.physRead w a 32 = .error f := by
  simp only [State.physRead, pieces_of_word _ ha, List.foldr, hf]

theorem State.physRead_word_ok {s : State} {w : Who} {a : Nat} (ha : a / 32 * 32 = a) (hf : s.physFault w a false false = none) :
    ∃ l, s.physRead w a 32 = .ok l := by
  simp only [State.physRead, pieces_of_word _ ha, List.foldr, hf]
  split_ifs <;> exact ⟨_, rfl⟩

/-! How MEMORY_READ answers. -/

/-- An access refused for another reason than a stopped channel is answered at once. -/
theorem State.turnAway_resp {s : State} {f : XFault} (r : Req) (a : Nat) (write : Option (List Byte)) (hf : f.reason ≠ 4) :
    (s.turnAway r a write f).resp = denial r f.reason := by
  simp only [State.turnAway, hf, false_and, if_false, State.answer]

section
variable {s t : State} {r : Req} {addr a : Nat} {noise : List (Nat × Byte)} {act : Option RowAct}
  (ha : addr / 32 * 32 = a) (hb : s.bound r = true) (hw : s.inWindows a = false) (hcp : ¬ (r.who = .s ∧ inCheckpoint a = true))
  (ht : t = s.meet r a noise act)
include ha hb hw hcp ht

/-- MEMORY_READ of data answers them, under the buffered stores of the active pair where its core reads (R35). -/
theorem exec_memoryRead_of_ok {l : List Byte} (hl : t.physRead r.who a 32 = .ok l) :
    exec (.memoryRead r addr noise act) s =
      .next ((t.noteReads a 32).answer (.data (if r.who = .s ∧ r.core then overlay t.wld.commitBuf a l else l))) := by
  change Host.Outcome.next (s.memLoad r addr noise act) = _
  simp only [State.memLoad, ha, hb, hw, hcp, ← ht, hl, Bool.not_true, Bool.false_eq_true, if_false]

/-- MEMORY_READ of a word whose read fails turns the request away. -/
theorem exec_memoryRead_of_error {f : XFault} (hf : t.physRead r.who a 32 = .error f) :
    exec (.memoryRead r addr noise act) s = .next (t.turnAway r a none f) := by
  change Host.Outcome.next (s.memLoad r addr noise act) = _
  simp only [State.memLoad, ha, hb, hw, hcp, ← ht, hf, Bool.not_true, Bool.false_eq_true, if_false]

end

/-- Settles O5: `dramReadFault_of_decoded` gives R530's order of the tests; each of its three outcomes is answered as the fault it is, or with the
data. -/
theorem memoryReadDecidedByInkThenPoison : Obligations.MemoryReadDecidedByInkThenPoison := by
  intro s0 s r addr noise act d left copy ink a stored poisoned hb hw hcp hs hr hsec hch _ hd hdec hc
  have ha : a / 32 * 32 = a := by omega
  have hfault : s.physFault r.who a false false =
      (if ink = stored then none else some ⟨2, some (.ink r.who a false stored ink)⟩).or (if poisoned = true then some ⟨3, none⟩ else none) := by
    rw [State.physFault_of_dram r.who false hr hsec, State.dramReadFault_of_decoded r.who false ha hch hd hdec, State.inkFault_of_carried _ false hc]
    rfl
  by_cases hink : ink = stored
  · rw [if_pos hink, Option.none_or] at hfault
    by_cases hpoison : poisoned = true
    · rw [if_pos hpoison] at hfault
      exact ⟨_, exec_memoryRead_of_error rfl hb hw hcp hs (State.physRead_word_error ha hfault), fun h => absurd hink h,
        fun _ _ => State.turnAway_resp r a none (by decide), fun _ h => absurd hpoison (Bool.eq_false_iff.mp h)⟩
    · rw [if_neg hpoison] at hfault
      obtain ⟨l, hl⟩ := State.physRead_word_ok ha hfault
      exact ⟨_, exec_memoryRead_of_ok rfl hb hw hcp hs hl, fun h => absurd hink h, fun _ h => absurd h hpoison, fun _ _ => ⟨l, hl, rfl⟩⟩
  · rw [if_neg hink, Option.some_or] at hfault
    exact ⟨_, exec_memoryRead_of_error rfl hb hw hcp hs (State.physRead_word_error ha hfault), fun _ => State.turnAway_resp r a none (by simp),
      fun h => absurd h hink, fun h => absurd h hink⟩

end Sys2Proof.Machine
end

section
/-! The proofs are elaborated one after another: side by side, the stacks of their threads pass the memory limit of the check. -/

set_option Elab.async false

section
/-! PROOFS. Every command keeps the queue, and memory, registers and inks in their canonical forms: one lemma for each function of the model, in the
order of the model's files, and at their end one case for each command. `State.Keeps` names what is kept. -/

namespace Sys2Proof.Machine

/-- An update of parts that hold neither the queue nor memory, registers or inks. -/
theorem State.Keeps.of_rest {s t : State} (hp : t.pending = s.pending := by rfl) (hm : t.mem = s.mem := by rfl) (hr : t.regs = s.regs := by rfl)
    (hi : t.mc.inks = s.mc.inks := by rfl) : s.Keeps t := .of_eq hp hm hr hi

/-! One part of the state replaced. -/

theorem State.keeps_withResp (s : State) (x : Resp) : s.Keeps { s with resp := x } := .of_rest
theorem State.keeps_withCyc (s : State) (x : Nat) : s.Keeps { s with cyc := x } := .of_rest
theorem State.keeps_withDevOff (s : State) (x : Int) : s.Keeps { s with devOff := x } := .of_rest
theorem State.keeps_withFree (s : State) (x : Nat) : s.Keeps { s with free := x } := .of_rest
theorem State.keeps_withWld (s : State) (x : Wld) : s.Keeps { s with wld := x } := .of_rest
theorem State.keeps_withCp (s : State) (x : Cp) : s.Keeps { s with cp := x } := .of_rest
theorem State.keeps_withCl (s : State) (x : Cl) : s.Keeps { s with cl := x } := .of_rest
theorem State.keeps_withArb (s : State) (x : Arb) : s.Keeps { s with arb := x } := .of_rest
theorem State.keeps_withDisp (s : State) (x : Disp) : s.Keeps { s with disp := x } := .of_rest
theorem State.keeps_withEtch (s : State) (x : Etch) : s.Keeps { s with etch := x } := .of_rest
theorem State.keeps_withPrf (s : State) (x : Proof) : s.Keeps { s with prf := x } := .of_rest
theorem State.keeps_withGrv (s : State) (x : Grv) : s.Keeps { s with grv := x } := .of_rest
theorem State.keeps_withTouch (s : State) (x : Touch) : s.Keeps { s with touch := x } := .of_rest
theorem State.keeps_withHap (s : State) (x : Hap) : s.Keeps { s with hap := x } := .of_rest
theorem State.keeps_withFol (s : State) (x : Fol) : s.Keeps { s with fol := x } := .of_rest
theorem State.keeps_withAud (s : State) (x : Aud) : s.Keeps { s with aud := x } := .of_rest
theorem State.keeps_withFw (s : State) (x : Fw) : s.Keeps { s with fw := x } := .of_rest
theorem State.keeps_withPwr (s : State) (x : Pwr) : s.Keeps { s with pwr := x } := .of_rest
theorem State.keeps_withDziv (s : State) (x : Dziv) : s.Keeps { s with dziv := x } := .of_rest
theorem State.keeps_withLsio (s : State) (x : Lsio) : s.Keeps { s with lsio := x } := .of_rest

/-- What an operation that answers a value beside its state keeps, once its answer is named. -/
theorem State.Keeps.of_pair_fst {α : Type} {s t : State} {x : State × α} {a : α} (h : x = (t, a)) (k : s.Keeps x.1) : s.Keeps t := by subst h; exact k

theorem State.Keeps.of_triple {α β : Type} {s t : State} {x : α × β × State} {a : α} {b : β} (h : x = (a, b, t)) (k : s.Keeps x.2.2) : s.Keeps t := by
  subst h; exact k

/-- The outcome is a next state that keeps what the first state holds. -/
def State.Continues (s : State) (o : Host.Outcome State Fault Refusal) : Prop := ∃ t, o = .next t ∧ s.Keeps t

theorem State.Continues.next {s t : State} (h : s.Keeps t) : s.Continues (.next t) := ⟨t, rfl, h⟩

theorem State.Continues.ite {s : State} {o q : Host.Outcome State Fault Refusal} {p : Prop} [Decidable p] (h : s.Continues o) (g : s.Continues q) :
    s.Continues (if p then o else q) := by
  split
  · exact h
  · exact g

theorem State.Continues.after {s t : State} {o : Host.Outcome State Fault Refusal} (h : s.Keeps t) (g : t.Continues o) : s.Continues o := by
  obtain ⟨u, hu, k⟩ := g
  exact ⟨u, hu, h.trans k⟩

end Sys2Proof.Machine
end

section
/-! PROOFS. What the shared operations keep. -/

namespace Sys2Proof.Machine

theorem State.keeps_fresh (s : State) : s.Keeps s.fresh := s.keeps_withFree _

theorem State.keeps_clearSrc (s : State) (src : Nat) : s.Keeps (s.clearSrc src) := s.keeps_withWld _

theorem State.keeps_endOpHeld (s : State) (k status r0 r1 r2 r3 : Nat) : s.Keeps (s.endOpHeld k status r0 r1 r2 r3) := by
  unfold State.endOpHeld
  split
  · exact s.keeps_setPlace _ _
  · exact .rfl

theorem State.keeps_releaseOp (s : State) (k : Nat) : s.Keeps (s.releaseOp k) := by
  unfold State.releaseOp
  split
  · exact s.keeps_setPlace _ _
  · exact .rfl

theorem State.keeps_setProgress (s : State) (k n : Nat) : s.Keeps (s.setProgress k n) := by
  unfold State.setProgress
  split
  · exact s.keeps_setPlace _ _
  · exact .rfl

theorem State.keeps_setClient (s : State) (n : Nat) (c : Client) : s.Keeps (s.setClient n c) := s.keeps_withCl _

theorem State.keeps_answer (s : State) (r : Resp) : s.Keeps (s.answer r) := s.keeps_withResp _

theorem State.keeps_bumpEpoch (s : State) (c : Nat) : s.Keeps (s.bumpEpoch c) := s.keeps_setFld _ _ _

end Sys2Proof.Machine
end

section
/-! PROOFS. What the engines' accesses keep. -/

namespace Sys2Proof.Machine

theorem State.keeps_refuseGated (s : State) (w : Who) (a : Nat) : s.Keeps (s.refuseGated w a) :=
  (s.keeps_recordBus _ _ _ _).trans (State.keeps_answer _ _)

end Sys2Proof.Machine
end

section
/-! PROOFS. What rings and completions keep. -/

namespace Sys2Proof.Machine

theorem State.keeps_reserve (s : State) (r : RingId) : s.Keeps (s.reserve r) := by
  unfold State.reserve
  extract_lets _
  exact s.keeps_setRing _ _

theorem State.keeps_unreserve (s : State) (r : RingId) : s.Keeps (s.unreserve r) := by
  unfold State.unreserve
  extract_lets _
  exact s.keeps_setRing _ _

end Sys2Proof.Machine
end

section
/-! PROOFS. What the shared audio operations keep. -/

namespace Sys2Proof.Machine

theorem State.keeps_setAud (s : State) (a : Aud) : s.Keeps (s.setAud a) := s.keeps_withAud _

theorem State.keeps_setMux (s : State) (d : Nat) (m : Mux) : s.Keeps (s.setMux d m) := s.keeps_withAud _

theorem State.keeps_setBus (s : State) (k : Nat) (b : Bus) : s.Keeps (s.setBus k b) := s.keeps_withAud _

theorem State.keeps_setPair (s : State) (u : Nat) (g : GenPair) : s.Keeps (s.setPair u g) := s.keeps_withAud _

theorem State.keeps_setStream (s : State) (k : Nat) (x : Option AStream) : s.Keeps (s.setStream k x) := s.keeps_withAud _

theorem State.keeps_syncBus (s : State) (k : Nat) : s.Keeps (s.syncBus k) := by
  unfold State.syncBus
  extract_lets _ _
  exact .ite .rfl (s.keeps_setBus _ _)

theorem State.keeps_syncDuck (s : State) : s.Keeps s.syncDuck := by
  unfold State.syncDuck
  extract_lets _ t1 _ _ _ _
  have ht1 : s.Keeps t1 := s.keeps_setFlag _ _ _
  exact .ite ht1 (ht1.trans (t1.keeps_setAud _))

theorem State.keeps_audSync (s : State) : s.Keeps s.audSync := by
  unfold State.audSync
  exact (State.Keeps.foldl (fun t _ => t.keeps_syncBus _) _ _).trans (State.keeps_syncDuck _)

theorem State.keeps_applyMux (s : State) (d : Nat) : s.Keeps (s.applyMux d) := by
  unfold State.applyMux
  extract_lets _ _ _
  exact .ite .rfl (.ite (s.keeps_setMux _ _) (s.keeps_setMux _ _))

theorem State.keeps_forceMux (s : State) (d : Nat) (r : Route) : s.Keeps (s.forceMux d r) := s.keeps_setMux _ _

theorem State.keeps_dropAlarmRoutes (s : State) : s.Keeps s.dropAlarmRoutes := by
  unfold State.dropAlarmRoutes
  exact .foldl (fun t _ => t.keeps_forceMux _ _) _ _

theorem State.keeps_showStreams (s : State) : s.Keeps s.showStreams := by
  unfold State.showStreams
  extract_lets _
  exact (s.keeps_setFld _ _ _).trans (State.keeps_setFld _ _ _ _)

theorem State.keeps_haltStream (s : State) (k : Nat) : s.Keeps (s.haltStream k) := by
  unfold State.haltStream
  split
  · exact .rfl
  · exact (s.keeps_setStream _ _).trans (State.keeps_showStreams _)

theorem State.keeps_endRamps (s : State) : s.Keeps s.endRamps := by
  unfold State.endRamps
  extract_lets t1 t2
  have ht1 : s.Keeps t1 := by
    unfold t1
    refine State.Keeps.trans ?_ (.foldl (fun t a => ?_) _ _)
    · exact .rfl
    · extract_lets _
      exact t.keeps_setMux _ _
  clear_value t1
  have ht2 : s.Keeps t2 := by
    unfold t2
    refine State.Keeps.trans ?_ (.foldl (fun t a => ?_) _ _)
    · exact ht1
    · extract_lets _
      exact t.keeps_setBus _ _
  refine State.Keeps.trans ?_ (.foldl (fun t a => ?_) _ _)
  · exact ht2
  · split
    · exact .ite (t.keeps_haltStream _) (t.keeps_setStream _ _)
    · exact .rfl

theorem State.keeps_setRouter (s : State) (st : Nat) : s.Keeps (s.setRouter st) := by
  unfold State.setRouter
  extract_lets t1
  have ht1 : s.Keeps t1 := s.keeps_setFld _ _ _
  exact .ite ht1 (ht1.trans t1.keeps_endRamps)

theorem State.keeps_toneDone (s : State) (u : Nat) (t : Tone) (how : Nat) : s.Keeps (s.toneDone u t how) := by
  unfold State.toneDone
  extract_lets _
  split
  · exact (s.keeps_event _ _ _ _ _ _ _ _).trans (State.keeps_raise _ _)
  · exact s.keeps_raise _

theorem State.keeps_startTone (s : State) (u : Nat) (c : Cadence) (ring : Option RingId) : s.Keeps (s.startTone u c ring) := by
  unfold State.startTone
  extract_lets t1 _
  have ht1 : s.Keeps t1 := by
    unfold t1
    split
    · exact s.keeps_toneDone _ _ _
    · exact .rfl
  exact ht1.trans (t1.keeps_setPair _ _)

theorem State.keeps_stopTone (s : State) (u : Nat) : s.Keeps (s.stopTone u) := by
  unfold State.stopTone
  split
  · exact (s.keeps_toneDone _ _ _).trans (State.keeps_setPair _ _ _)
  · exact .rfl

theorem State.keeps_beep (s : State) (gen b : Nat) : s.Keeps (s.beep gen b) := by
  unfold State.beep
  refine .ite (s.keeps_satInc _ _ _) ?_
  split
  · exact s.keeps_satInc _ _ _
  · exact s.keeps_setPair _ _

theorem State.keeps_applyPort (s : State) (p : Nat) (l : List Byte) : s.Keeps (s.applyPort p l) := by
  unfold State.applyPort
  extract_lets _ t1 _ _ t2 t3
  have ht1 : s.Keeps t1 := s.keeps_setAud _
  have ht2 : s.Keeps t2 := (ht1.trans (t1.keeps_setFlag _ _ _)).trans (State.keeps_setFld _ _ _ _)
  have ht3 : s.Keeps t3 := ht2.trans (t2.keeps_setFlag _ _ _)
  exact .ite ht1 (ht3.trans (t3.keeps_setFld _ _ _))

theorem State.keeps_showAlarm (s : State) : s.Keeps s.showAlarm := by
  unfold State.showAlarm
  extract_lets _
  exact (s.keeps_setFlag _ _ _).trans (State.keeps_setFlag _ _ _ _)

theorem State.keeps_clearAlarmFails (s : State) : s.Keeps s.clearAlarmFails := by
  unfold State.clearAlarmFails
  extract_lets t1 _
  have ht1 : s.Keeps t1 := ((s.keeps_setFld _ _ _).trans (State.keeps_setFld _ _ _ _)).trans (State.keeps_setFld _ _ _ _)
  exact ht1.trans (t1.keeps_setAud _)

theorem State.keeps_enterRecovery (s : State) : s.Keeps s.enterRecovery := by
  unfold State.enterRecovery
  extract_lets t1 _ t2 t3 _ t4 l5 t6 t7 t8
  have ht1 : s.Keeps t1 := s.keeps_setRouter _
  have ht2 : s.Keeps t2 := ht1.trans (t1.keeps_setAud _)
  have ht3 : s.Keeps t3 := ht2.trans (.foldl (fun t _ => .ite .rfl (t.keeps_haltStream _)) _ _)
  have ht4 : s.Keeps t4 := .ite ((ht3.trans (t3.keeps_startTone _ _ _)).trans (State.keeps_event _ _ _ _ _ _ _ _ _)) ht3
  have ht6 : s.Keeps t6 := (ht4.trans (t4.keeps_applyPort _ _)).trans (State.keeps_applyPort _ _ _)
  have ht7 : s.Keeps t7 := (ht6.trans t6.keeps_dropAlarmRoutes).trans (State.keeps_clearAlarmFails _)
  have ht8 : s.Keeps t8 := .ite ht4 ((ht7.trans (t7.keeps_setRg _ _)).trans (State.keeps_showAlarm _))
  exact ((ht8.trans (t8.keeps_setFld _ _ _)).trans (State.keeps_raise _ _)).trans (State.keeps_audSync _)

end Sys2Proof.Machine
end

section
/-! PROOFS. What the pools of the engine arbiter keep. -/

namespace Sys2Proof.Machine

theorem State.keeps_enqueue (s : State) (pool : Nat) (x : Request) : s.Keeps (s.enqueue pool x) := by
  unfold State.enqueue
  extract_lets _ _
  refine .ite (s.keeps_setQueue _ _ _) ?_
  split
  · exact s.keeps_setQueue _ _ _
  · exact s.keeps_setQueue _ _ _

theorem State.keeps_countTake (s : State) (pool : Nat) (q : Requester) : s.Keeps (s.countTake pool q) := by
  unfold State.countTake
  extract_lets t1
  have ht1 : s.Keeps t1 := s.keeps_satInc _ _ _
  split
  · exact ht1
  · split
    · exact ht1.trans (t1.keeps_setPlace _ _)
    · exact ht1

theorem State.keeps_forgetPlace (s : State) (k : Nat) : s.Keeps (s.forgetPlace k) := .of_rest

theorem State.keeps_dropPlace (s : State) (k : Nat) : s.Keeps (s.dropPlace k) := by
  unfold State.dropPlace
  split
  · exact .rfl
  · extract_lets t1
    have ht1 : s.Keeps t1 := by
      unfold t1
      split
      · exact .ite (s.keeps_setGrant _ _) .rfl
      · exact .rfl
    exact (((ht1.trans (t1.keeps_withdraw _)).trans (State.keeps_setPlace _ _ _)).trans (State.keeps_unreserve _ _)).trans (State.keeps_forgetPlace _
        _)

theorem State.keeps_withdrawNWorld (s : State) : s.Keeps s.withdrawNWorld := by
  unfold State.withdrawNWorld
  extract_lets t1
  have ht1 : s.Keeps t1 := .foldl (fun t _ => t.keeps_setQueue _ _ _) _ _
  refine State.Keeps.trans ?_ (.foldl (fun t a => ?_) _ _)
  · exact ht1
  · split
    · exact .rfl
    · exact .ite .rfl (t.keeps_releaseUnit _)

end Sys2Proof.Machine
end

section
/-! PROOFS. What the shared haptic operations keep. -/

namespace Sys2Proof.Machine

theorem State.keeps_setAct (s : State) (a : Nat) (x : Act) : s.Keeps (s.setAct a x) := s.keeps_withHap _

theorem State.keeps_setWave (s : State) (k : Nat) (w : Option Wave) : s.Keeps (s.setWave k w) := s.keeps_withHap _

theorem State.keeps_actWear (s : State) (a : Nat) : s.Keeps (s.actWear a) := by
  unfold State.actWear
  extract_lets _ _ _
  split
  · exact s.keeps_setAct _ _
  · extract_lets _ t1
    have ht1 : s.Keeps t1 := s.keeps_setAct _ _
    exact (ht1.trans (t1.keeps_satInc _ _ _)).trans (State.keeps_satInc _ _ _ _)

theorem State.keeps_actDuty (s : State) (a : Nat) : s.Keeps (s.actDuty a) := by
  unfold State.actDuty
  extract_lets _
  split
  · exact s.keeps_setAct _ _
  · extract_lets _ t1
    have ht1 : s.Keeps t1 := s.keeps_setAct _ _
    exact .ite (ht1.trans (t1.keeps_setFld _ _ _)) ht1

theorem State.keeps_beginSeg (s : State) (a : Nat) (e : Effect) : s.Keeps (s.beginSeg a e) := by
  unfold State.beginSeg
  split
  · exact .rfl
  · extract_lets _ _ _ _ _ t1 t2 t3
    have ht1 : s.Keeps t1 := s.keeps_setAct _ _
    have ht2 : s.Keeps t2 := .ite (ht1.trans (t1.keeps_satInc _ _ _)) ht1
    have ht3 : s.Keeps t3 := (ht2.trans (t2.keeps_setFld _ _ _)).trans (State.keeps_setFld _ _ _ _)
    exact ((ht3.trans (t3.keeps_setFld _ _ _)).trans (State.keeps_setFlag _ _ _ _)).trans (State.keeps_actDuty _ _)

theorem State.keeps_doneEvent (s : State) (a : Nat) (e : Effect) (how : Nat) : s.Keeps (s.doneEvent a e how) := by
  unfold State.doneEvent
  extract_lets t1
  have ht1 : s.Keeps t1 := by
    unfold t1
    split
    · exact s.keeps_event _ _ _ _ _ _ _ _
    · exact .rfl
  exact ht1.trans (t1.keeps_raise _)

theorem State.keeps_actIdle (s : State) (a state : Nat) : s.Keeps (s.actIdle a state) := by
  unfold State.actIdle
  extract_lets _ t1 t2
  have ht1 : s.Keeps t1 := s.keeps_setAct _ _
  have ht2 : s.Keeps t2 := (ht1.trans (t1.keeps_setFld _ _ _)).trans (State.keeps_setFld _ _ _ _)
  exact (ht2.trans (t2.keeps_setFld _ _ _)).trans (State.keeps_setFld _ _ _ _)

theorem State.keeps_startEffect (s : State) (a number : Nat) (origin : Origin) (safety : Bool) (segs : List Seg) (rep how : Nat) :
    s.Keeps (s.startEffect a number origin safety segs rep how) := by
  unfold State.startEffect
  extract_lets t1 _ t2 _ t3
  have ht1 : s.Keeps t1 := s.keeps_actWear _
  clear_value t1
  have ht2 : s.Keeps t2 := by
    unfold t2
    split
    · exact ht1.trans (t1.keeps_doneEvent _ _ _)
    · exact ht1
  have ht3 : s.Keeps t3 := ht2.trans (t2.keeps_setAct _ _)
  exact ht3.trans (t3.keeps_beginSeg _ _)

theorem State.keeps_stopEffect (s : State) (a : Nat) (origin : Origin) (safety : Bool) : s.Keeps (s.stopEffect a origin safety) := by
  unfold State.stopEffect
  split
  · exact .rfl
  · exact .ite .rfl (s.keeps_startEffect _ _ _ _ _ _ _)

theorem State.keeps_trigger (s : State) (a e : Nat) (origin : Origin) (safety : Bool) : s.Keeps (s.trigger a e origin safety) := by
  unfold State.trigger
  refine .ite .rfl ?_
  split
  · exact .rfl
  · split
    · exact s.keeps_satInc _ _ _
    · exact .rfl
    · exact s.keeps_startEffect _ _ _ _ _ _ _

theorem State.keeps_actBrake (s : State) (a : Nat) : s.Keeps (s.actBrake a) := by
  unfold State.actBrake
  split
  · exact .ite .rfl (s.keeps_stopEffect _ _ _)
  · exact .rfl

theorem State.keeps_stopOrdinary (s : State) : s.Keeps s.stopOrdinary := by
  unfold State.stopOrdinary
  exact .foldl (fun t _ => t.keeps_actBrake _) _ _

theorem State.keeps_actRevoke (s : State) (a c : Nat) : s.Keeps (s.actRevoke a c) := by
  unfold State.actRevoke
  split
  · split
    · exact .ite (s.keeps_stopEffect _ _ _) .rfl
    · exact .rfl
  · exact .rfl

theorem State.keeps_freeWaves (s : State) (c : Nat) : s.Keeps (s.freeWaves c) := by
  unfold State.freeWaves
  exact .foldl (fun t _ => .ite (t.keeps_setWave _ _) .rfl) _ _

theorem State.keeps_hapClear (s : State) : s.Keeps s.hapClear := by
  unfold State.hapClear
  extract_lets _ t1 _
  have ht1 : s.Keeps t1 := by
    unfold t1
    refine State.Keeps.trans ?_ (.foldl (fun t a => ?_) _ _)
    · exact .rfl
    · extract_lets t2 _
      have ht2 : t.Keeps t2 := t.keeps_actWear _
      exact (ht2.trans (t2.keeps_setAct _ _)).trans (State.keeps_actIdle _ _ _)
  exact ht1.trans (t1.keeps_withHap _)

end Sys2Proof.Machine
end

section
/-! PROOFS. What the shared Folio operations keep. -/

namespace Sys2Proof.Machine

theorem State.keeps_setActive (s : State) (x : FArea) : s.Keeps (s.setActive x) := .ite (s.keeps_withFol _) (s.keeps_withFol _)

theorem State.keeps_setInactive (s : State) (x : FArea) : s.Keeps (s.setInactive x) := .ite (s.keeps_withFol _) (s.keeps_withFol _)

theorem State.keeps_appendRec (s : State) (r : FRec) : s.Keeps (s.appendRec r) := by
  unfold State.appendRec
  extract_lets _
  exact s.keeps_setActive _

theorem State.keeps_folioNext (s : State) : s.Keeps s.folioNext := by
  unfold State.folioNext
  refine .ite .rfl ?_
  split
  · exact .rfl
  · extract_lets _ _
    exact s.keeps_withFol _

theorem State.keeps_abandonWrite (s : State) : s.Keeps s.abandonWrite := by
  unfold State.abandonWrite
  split
  · exact .rfl
  · extract_lets t1 _ _
    have ht1 : s.Keeps t1 := s.keeps_appendRec _
    exact ht1.trans (t1.keeps_withFol _)

theorem State.keeps_folioWrite (s : State) (w : FWrite) : s.Keeps (s.folioWrite w) := by
  unfold State.folioWrite
  extract_lets t1 _ t2
  have ht1 : s.Keeps t1 := by
    unfold t1
    split
    · exact .ite s.keeps_abandonWrite .rfl
    · exact .rfl
  have ht2 : s.Keeps t2 := ht1.trans (t1.keeps_withFol _)
  exact ht2.trans t2.keeps_folioNext

theorem State.keeps_commitNow (s : State) (typ : Nat) (body : List Byte) : s.Keeps (s.commitNow typ body) := by
  unfold State.commitNow
  extract_lets _ _ t1
  have ht1 : s.Keeps t1 := s.keeps_withFol _
  exact ht1.trans (t1.keeps_appendRec _)

theorem State.keeps_compactIfFull (s : State) : s.Keeps s.compactIfFull := by
  unfold State.compactIfFull
  refine .ite ?_ .rfl
  extract_lets t1 _
  have ht1 : s.Keeps t1 := s.keeps_setFld _ _ _
  exact ht1.trans (t1.keeps_withFol _)

end Sys2Proof.Machine
end

section
/-! PROOFS. What recording faults and the safe state keep. -/

namespace Sys2Proof.Machine

theorem State.keeps_endPause (s : State) : s.Keeps s.endPause := by
  unfold State.endPause
  split
  · exact .rfl
  · extract_lets late1 _ t2 _
    have ht2 : s.Keeps t2 := s.keeps_withCp _
    exact (ht2.trans (t2.keeps_withFw _)).trans (State.keeps_flushHeld _)

theorem State.keeps_abandonActivation (s : State) : s.Keeps s.abandonActivation := by
  unfold State.abandonActivation
  split
  · exact .rfl
  · refine .ite .rfl ?_
    extract_lets t1 _ t2
    have ht1 : s.Keeps t1 := by
      unfold t1
      split
      · exact .ite s.keeps_abandonWrite .rfl
      · exact .rfl
    have ht2 : s.Keeps t2 := ht1.trans (t1.keeps_withFol _)
    exact ((ht2.trans (t2.keeps_setFld _ _ _)).trans (State.keeps_endPause _)).trans (State.keeps_folioNext _)

theorem State.keeps_stopNWorld (s : State) : s.Keeps s.stopNWorld := by
  unfold State.stopNWorld
  exact .foldl (fun t _ => .ite .rfl (t.keeps_dropPlace _)) _ _

theorem State.keeps_enterSafe (s : State) (cause cls : Nat) : s.Keeps (s.enterSafe cause cls) := by
  unfold State.enterSafe
  refine .ite .rfl ?_
  extract_lets t1 t2 t3 t4 _ t5 t6 t7 t8 t9 t10
  have ht1 : s.Keeps t1 := .ite (s.keeps_rubTrigger _ _ _) .rfl
  have ht2 : s.Keeps t2 := ht1.trans (t1.keeps_setFld _ _ _)
  have ht3 : s.Keeps t3 := ht2.trans (t2.keeps_setFld _ _ _)
  have ht4 : s.Keeps t4 := ht3.trans (t3.keeps_setFld _ _ _)
  have ht5 : s.Keeps t5 := ht4.trans (t4.keeps_withFlt _)
  have ht6 : s.Keeps t6 := ht5.trans (t5.keeps_raise _)
  have ht7 : s.Keeps t7 := ht6.trans (.foldl (fun t _ => t.keeps_setFld _ _ _) _ _)
  have ht8 : s.Keeps t8 := (ht7.trans t7.keeps_stopNWorld).trans (State.keeps_abandonActivation _)
  have ht9 : s.Keeps t9 := (ht8.trans t8.keeps_withdrawNWorld).trans (State.keeps_count _ _ _)
  have ht10 : s.Keeps t10 := .ite ht9 ((ht9.trans t9.keeps_stopOrdinary).trans (State.keeps_enterRecovery _))
  exact .ite ht10 (ht10.trans (t10.keeps_eventSM _ _ _ _ _ _))

end Sys2Proof.Machine
end

section
/-! PROOFS. What the Graver engines keep. -/

namespace Sys2Proof.Machine

theorem State.keeps_gread (s : State) (w : Who) (operand addr n : Nat) : s.Keeps (s.gread w operand addr n).2 := by
  unfold State.gread
  split
  · rename_i t1 heq2
    exact .of_pair heq2 (s.keeps_unitRead _ _ _)
  · rename_i t3 heq4
    exact .of_pair heq4 (s.keeps_unitRead _ _ _)

theorem State.keeps_readPix (s : State) (r : RingId) (f : Surf) (x y : Nat) : s.Keeps (s.readPix r f x y).2 := by
  unfold State.readPix
  extract_lets _ fin1 _
  split
  · rename_i t2 heq3
    exact .of_pair heq3 (s.keeps_gread _ _ _ _)
  · rename_i t4 heq5
    have ht4 : s.Keeps t4 := .of_pair heq5 (s.keeps_gread _ _ _ _)
    split
    · split
      · rename_i t6 heq7
        exact .of_pair heq7 (ht4.trans (t4.keeps_gread _ _ _ _))
      · rename_i t8 heq9
        have ht8 : s.Keeps t8 := .of_pair heq9 (ht4.trans (t4.keeps_gread _ _ _ _))
        extract_lets _
        exact ht8.trans t8.keeps_fresh
    · split
      · extract_lets _
        exact ht4
      · split
        · exact ht4.trans t4.keeps_fresh
        · exact ht4

theorem State.keeps_gboxes (w : Who) (atlas : Nat) (h codes : List Byte) (top : Int) (l : List Nat) (pen : Int) (acc : List GBox) (s : State) :
    s.Keeps (State.gboxes w atlas h codes top l pen acc s).2 := by
  induction l generalizing pen acc s with
  | nil => exact .rfl
  | cons i t ih =>
    simp only [State.gboxes]
    split
    · exact .rfl
    · split
      · rename_i heq
        exact .of_pair heq (s.keeps_unitRead _ _ _)
      · rename_i heq
        have h1 := State.Keeps.of_pair heq (s.keeps_unitRead _ _ _)
        split
        · exact h1
        · exact h1.trans (ih _ _ _)

theorem State.keeps_glyphRun (s : State) (w : Who) (l : List Byte) : s.Keeps (s.glyphRun w l).2 := by
  unfold State.glyphRun
  extract_lets _ _
  split
  · rename_i t1 heq2
    exact .of_pair heq2 (s.keeps_unitRead _ _ _)
  · rename_i t3 heq4
    have ht3 : s.Keeps t3 := .of_pair heq4 (s.keeps_unitRead _ _ _)
    split
    · exact ht3
    · split
      · rename_i t5 heq6
        exact .of_pair heq6 (ht3.trans (t3.keeps_unitRead _ _ _))
      · rename_i t7 heq8
        have ht7 : s.Keeps t7 := .of_pair heq8 (ht3.trans (t3.keeps_unitRead _ _ _))
        extract_lets _
        split
        · rename_i t9 heq10
          exact .of_pair heq10 (ht7.trans (t7.keeps_gboxes _ _ _ _ _ _ _ _))
        · rename_i t11 heq12
          exact .of_pair heq12 (ht7.trans (t7.keeps_gboxes _ _ _ _ _ _ _ _))
        · rename_i t13 heq14
          exact .of_pair heq14 (ht7.trans (t7.keeps_gboxes _ _ _ _ _ _ _ _))

theorem State.keeps_paintPix (s : State) (c : GCtx) (dst : Surf) (x y n d : Nat) : s.Keeps (s.paintPix c dst x y n d).2 := by
  unfold State.paintPix
  extract_lets _
  split
  · exact .rfl
  · split
    · exact .rfl
    · split
      · rename_i t1 heq2
        exact .of_pair heq2 (s.keeps_readPix _ _ _ _)
      · rename_i t3 heq4
        exact .of_pair heq4 (s.keeps_readPix _ _ _ _)

theorem State.keeps_glyphPix (c : GCtx) (g : GRun) (dst : Surf) (dx dy x y : Nat) (l : List GBox) (acc : Option Pix) (s : State) :
    s.Keeps (State.glyphPix c g dst dx dy x y l acc s).2 := by
  induction l generalizing acc s with
  | nil => exact .rfl
  | cons b t ih =>
    simp only [State.glyphPix]
    split
    · split
      · rename_i heq
        exact .of_pair heq (s.keeps_gread _ _ _ _)
      · rename_i heq
        have h1 := State.Keeps.of_pair heq (s.keeps_gread _ _ _ _)
        split
        · exact h1.trans (ih _ _)
        · split
          · rename_i heq'
            exact h1.trans (.of_pair heq' (State.keeps_paintPix _ _ _ _ _ _ _))
          · rename_i heq'
            exact h1.trans ((State.Keeps.of_pair heq' (State.keeps_paintPix _ _ _ _ _ _ _)).trans (ih _ _))
    · exact ih _ _

theorem State.keeps_drawPix (s : State) (c : GCtx) (x y : Nat) : s.Keeps (s.drawPix c x y).2 := by
  unfold State.drawPix
  extract_lets _ dst dr src sr wrap p br
  have hwrap : ∀ o, (wrap o).2 = o.2 := by
    rintro ⟨_ | _, _⟩ <;> rfl
  split
  · exact .rfl
  · exact .rfl
  · rw [hwrap]
    exact s.keeps_readPix _ _ _ _
  · split
    · rename_i heq
      exact .of_pair heq (s.keeps_readPix _ _ _ _)
    · rename_i heq
      have h1 := State.Keeps.of_pair heq (s.keeps_readPix _ _ _ _)
      split
      · rename_i heq'
        exact h1.trans (.of_pair heq' (State.keeps_readPix _ _ _ _ _))
      · rename_i heq'
        exact h1.trans (.of_pair heq' (State.keeps_readPix _ _ _ _ _))
  · split
    · rename_i heq
      exact .of_pair heq (s.keeps_readPix _ _ _ _)
    · rename_i heq
      exact (State.Keeps.of_pair heq (s.keeps_readPix _ _ _ _)).trans (State.keeps_fresh _)
  · rw [hwrap]
    exact s.keeps_readPix _ _ _ _
  · split
    · exact s.keeps_fresh.trans (State.keeps_paintPix _ _ _ _ _ _ _)
    · exact s.keeps_paintPix _ _ _ _ _ _
  · exact s.keeps_fresh.trans (State.keeps_paintPix _ _ _ _ _ _ _)
  · split
    · exact .rfl
    · exact State.keeps_glyphPix _ _ _ _ _ _ _ _ _ s

theorem State.keeps_drawCells (c : GCtx) (l : List (Nat × Nat)) (acc : List (Nat × List Byte)) (s : State) :
    s.Keeps (State.drawCells c l acc s).2 := by
  induction l generalizing acc s with
  | nil => exact .rfl
  | cons p t ih =>
    simp only [State.drawCells]
    split <;> rename_i heq
    · exact .of_pair heq (s.keeps_drawPix _ _ _)
    · exact (State.Keeps.of_pair heq (s.keeps_drawPix _ _ _)).trans (ih _ _)
    · exact (State.Keeps.of_pair heq (s.keeps_drawPix _ _ _)).trans (ih _ _)

theorem State.keeps_putCellsG (w : Who) (l : List (Nat × List Byte)) (n : Nat) (s : State) : s.Keeps (State.putCellsG w l n s).2.2 := by
  induction l generalizing n s with
  | nil => exact .rfl
  | cons e t ih =>
    simp only [State.putCellsG]
    split <;> rename_i heq
    · exact (State.Keeps.of_pair heq (s.keeps_unitWrite _ _ _)).trans (ih _ _)
    · exact .of_pair heq (s.keeps_unitWrite _ _ _)

theorem State.keeps_drawGroups (c : GCtx) (w : Nat) (l : List (List Nat)) (n : Nat) (s : State) : s.Keeps (State.drawGroups c w l n s).2.2 := by
  induction l generalizing n s with
  | nil => exact .rfl
  | cons g t ih =>
    simp only [State.drawGroups]
    split <;> rename_i heq
    · exact .of_pair heq (State.keeps_drawCells _ _ _ s)
    · have h1 := State.Keeps.of_pair heq (State.keeps_drawCells _ _ _ s)
      split <;> rename_i heq'
      · exact h1.trans (.of_triple heq' (State.keeps_putCellsG _ _ _ _))
      · exact h1.trans ((State.Keeps.of_triple heq' (State.keeps_putCellsG _ _ _ _)).trans (ih _ _))

theorem State.keeps_graverCtx (s : State) (p : Started) : s.Keeps (s.graverCtx p).2 := by
  unfold State.graverCtx
  extract_lets _ _ _
  split
  · split
    · rename_i t1 heq2
      exact .of_pair heq2 (s.keeps_unitRead _ _ _)
    · rename_i t3 heq4
      have ht3 : s.Keeps t3 := .of_pair heq4 (s.keeps_unitRead _ _ _)
      extract_lets _
      split
      · exact ht3
      · exact ht3
  · split
    · split
      · rename_i t5 heq6
        exact .of_pair heq6 (s.keeps_glyphRun _ _)
      · rename_i t7 heq8
        exact .of_pair heq8 (s.keeps_glyphRun _ _)
      · rename_i t9 heq10
        have ht9 : s.Keeps t9 := .of_pair heq10 (s.keeps_glyphRun _ _)
        split
        · exact ht9
        · exact ht9
    · exact .rfl

theorem State.keeps_countPixels (s : State) (u n : Nat) : s.Keeps (s.countPixels u n) := s.keeps_setRg _ _

theorem State.keeps_graverFault (s : State) (k : Nat) (e : GFault) : s.Keeps (s.graverFault k e) :=
  .ite (s.keeps_endOpFree _ _ _ _ _ _) (s.keeps_endOpFree _ _ _ _ _ _)

theorem State.keeps_graverRun (s : State) (k opcode : Nat) : s.Keeps (s.graverRun k opcode) := by
  unfold State.graverRun
  split
  · exact .rfl
  · split
    · exact .rfl
    · extract_lets l dr
      refine .ite (s.keeps_endOpFree _ _ _ _ _ _) (.ite .rfl ?_)
      split <;> rename_i heq
      · exact (State.Keeps.of_pair heq (s.keeps_graverCtx _)).trans (State.keeps_endOpFree _ _ _ _ _ _ _)
      · have h1 := State.Keeps.of_pair heq (s.keeps_graverCtx _)
        refine .ite ?_ ?_
        · split
          · exact h1
          · split <;> rename_i heq' <;> have h2 := h1.trans (.of_triple heq' (State.keeps_drawGroups _ _ _ _ _))
            · exact (h2.trans (State.keeps_countPixels _ _ _)).trans (State.keeps_graverFault _ _ _)
            · exact ((h2.trans (State.keeps_countPixels _ _ _)).trans (State.keeps_setRg _ _ _)).trans (State.keeps_setProgress _ _ _)
        · split <;> rename_i heq' <;> have h2 := h1.trans (.of_triple heq' (State.keeps_drawGroups _ _ _ _ _))
          · exact (h2.trans (State.keeps_countPixels _ _ _)).trans (State.keeps_graverFault _ _ _)
          · exact (h2.trans (State.keeps_countPixels _ _ _)).trans (State.keeps_endOpFree _ _ _ _ _ _ _)

theorem keeps_execGraverStripEnd (k : Nat) (s : State) : s.Continues (execGraverStripEnd k s) := by
  unfold execGraverStripEnd
  split
  · exact .next .rfl
  · split
    · exact .next .rfl
    · refine .ite (.next .rfl) ?_
      extract_lets _ t1 _ _ t2 _ t3
      have ht1 : s.Keeps t1 := s.keeps_setRg _ _
      have ht2 : s.Keeps t2 := (ht1.trans (t1.keeps_withdraw _)).trans (State.keeps_setProgress _ _ _)
      have ht3 : s.Keeps t3 := ht2.trans (t2.keeps_withArb _)
      refine .ite (.next (ht1.trans (t1.keeps_endOpFree _ _ _ _ _ _))) ?_
      exact .next ((ht3.trans (t3.keeps_enqueue _ _)).trans (State.keeps_decidePool _ _))

theorem keeps_execFill (k : Nat) (s : State) : s.Continues (execFill k s) := .next (s.keeps_graverRun _ _)

theorem keeps_execGradient (k : Nat) (s : State) : s.Continues (execGradient k s) := .next (s.keeps_graverRun _ _)

theorem keeps_execCopy (k : Nat) (s : State) : s.Continues (execCopy k s) := .next (s.keeps_graverRun _ _)

theorem keeps_execBlend (k : Nat) (s : State) : s.Continues (execBlend k s) := .next (s.keeps_graverRun _ _)

theorem keeps_execScale (k : Nat) (s : State) : s.Continues (execScale k s) := .next (s.keeps_graverRun _ _)

theorem keeps_execConvert (k : Nat) (s : State) : s.Continues (execConvert k s) := .next (s.keeps_graverRun _ _)

theorem keeps_execPathFill (k : Nat) (s : State) : s.Continues (execPathFill k s) := .next (s.keeps_graverRun _ _)

theorem keeps_execPathStroke (k : Nat) (s : State) : s.Continues (execPathStroke k s) := .next (s.keeps_graverRun _ _)

theorem keeps_execGrvGlyphs (k : Nat) (s : State) : s.Continues (execGrvGlyphs k s) := .next (s.keeps_graverRun _ _)

theorem State.keeps_setGrvPalette (s : State) (r : RingId) (l : List Byte) : s.Keeps (s.setGrvPalette r l) := s.keeps_withGrv _

theorem keeps_execGrvPaletteLoad (k : Nat) (s : State) : s.Continues (execGrvPaletteLoad k s) := by
  unfold execGrvPaletteLoad
  split
  · exact .next .rfl
  · refine .ite (.next .rfl) ?_
    split
    · rename_i t1 heq2
      have ht1 : s.Keeps t1 := .of_pair heq2 (s.keeps_unitRead _ _ _)
      exact .next (ht1.trans (t1.keeps_endOpFree _ _ _ _ _ _))
    · rename_i t3 heq4
      have ht3 : s.Keeps t3 := .of_pair heq4 (s.keeps_unitRead _ _ _)
      exact .next ((ht3.trans (t3.keeps_setGrvPalette _ _)).trans (State.keeps_endOpFree _ _ _ _ _ _ _))

theorem keeps_execGrvCtxSave (k : Nat) (s : State) : s.Continues (execGrvCtxSave k s) := by
  unfold execGrvCtxSave
  split
  · exact .next .rfl
  · refine .ite (.next .rfl) ?_
    refine .ite (.next (s.keeps_endOpFree _ _ _ _ _ _)) ?_
    extract_lets _
    split
    · rename_i t1 heq2
      have ht1 : s.Keeps t1 := .of_pair heq2 (s.keeps_unitWrite _ _ _)
      exact .next (ht1.trans (t1.keeps_endOpFree _ _ _ _ _ _))
    · rename_i t3 heq4
      have ht3 : s.Keeps t3 := .of_pair heq4 (s.keeps_unitWrite _ _ _)
      exact .next (ht3.trans (t3.keeps_endOpFree _ _ _ _ _ _))

theorem keeps_execGrvCtxRestore (k : Nat) (s : State) : s.Continues (execGrvCtxRestore k s) := by
  unfold execGrvCtxRestore
  split
  · exact .next .rfl
  · refine .ite (.next .rfl) ?_
    refine .ite (.next (s.keeps_endOpFree _ _ _ _ _ _)) ?_
    split
    · rename_i t1 heq2
      have ht1 : s.Keeps t1 := .of_pair heq2 (s.keeps_unitRead _ _ _)
      exact .next (ht1.trans (t1.keeps_endOpFree _ _ _ _ _ _))
    · rename_i t3 heq4
      have ht3 : s.Keeps t3 := .of_pair heq4 (s.keeps_unitRead _ _ _)
      split
      · exact .next (ht3.trans (t3.keeps_endOpFree _ _ _ _ _ _))
      · exact .next ((ht3.trans (t3.keeps_setGrvPalette _ _)).trans (State.keeps_endOpFree _ _ _ _ _ _ _))

theorem keeps_execGrvCtxbaseWrite (who : Who) (hi : Bool) (v : Word) (s : State) : s.Continues (execGrvCtxbaseWrite who hi v s) := by
  unfold execGrvCtxbaseWrite
  extract_lets _ t1
  have ht1 : s.Keeps t1 := .ite (s.keeps_setRg _ _) (s.keeps_setRg _ _)
  refine .ite (.next (s.keeps_refuseGated _ _)) ?_
  refine .ite (.next .rfl) ?_
  exact .next (ht1.trans (t1.keeps_bumpEpoch _))

end Sys2Proof.Machine
end

section
/-! PROOFS. What the engine arbiter keep. -/

namespace Sys2Proof.Machine

theorem State.keeps_refuseRequest (s : State) (q : Requester) (status : Nat) : s.Keeps (s.refuseRequest q status) := by
  unfold State.refuseRequest
  split
  · exact s.keeps_endOp _ _ _ _ _ _
  · exact .rfl

theorem keeps_execArbiterRequest (q : Requester) (pool : Nat) (lockNs : Option Nat) (s : State) :
    s.Continues (execArbiterRequest q pool lockNs s) := by
  unfold execArbiterRequest
  cases hq : s.heldBy q with
  | none =>
    refine .ite (.next .rfl) (.ite (.next (s.keeps_refuseRequest _ _)) (.ite (.next (s.keeps_refuseRequest _ _)) (.next ?_)))
    exact ((s.keeps_withArb _).trans (State.keeps_enqueue _ _ _)).trans (State.keeps_decidePool _ _)
  | some g =>
    refine .ite (.next .rfl) (.ite (.next (s.keeps_refuseRequest _ _)) (.ite (.next (s.keeps_refuseRequest _ _)) (.next ?_)))
    have h1 : s.Keeps ((s.setGrant g.1 none).countTake (poolOf g.1) q) := (s.keeps_setGrant _ _).trans (State.keeps_countTake _ _ _)
    exact (((h1.trans (State.keeps_withArb _ _)).trans (State.keeps_enqueue _ _ _)).trans (State.keeps_decidePool _ _)).trans (State.keeps_decidePool
        _ _)

theorem keeps_execTakeAwayStop (u : Nat) (s : State) : s.Continues (execTakeAwayStop u s) := by
  unfold execTakeAwayStop
  split
  · exact .next .rfl
  · refine .ite (.next .rfl) ?_
    extract_lets _ t1 t2 _ _ t3
    have ht1 : s.Keeps t1 := (s.keeps_setGrant _ _).trans (State.keeps_countTake _ _ _)
    have ht2 : s.Keeps t2 := ht1.trans (t1.keeps_decideOnce _)
    have ht3 : s.Keeps t3 := (ht2.trans (t2.keeps_withArb _)).trans (State.keeps_enqueue _ _ _)
    exact .next (ht3.trans (t3.keeps_decidePool _))

theorem keeps_execArbiterRelease (u : Nat) (s : State) : s.Continues (execArbiterRelease u s) := by
  unfold execArbiterRelease
  split
  · exact .next .rfl
  · extract_lets _
    refine .ite (.next (s.keeps_releaseUnit _)) ?_
    exact .next .rfl

theorem keeps_execLockOverrun (u : Nat) (s : State) : s.Continues (execLockOverrun u s) := by
  unfold execLockOverrun
  split
  · exact .next .rfl
  · extract_lets _ t1 t2
    have ht1 : s.Keeps t1 := s.keeps_setGrant _ _
    have ht2 : s.Keeps t2 := (ht1.trans (t1.keeps_satInc _ _ _)).trans (State.keeps_setFld _ _ _ _)
    refine .ite (.next .rfl) ?_
    exact .next (ht2.trans (t2.keeps_raise _))

end Sys2Proof.Machine
end

section
/-! PROOFS. What the audio router keep. -/

namespace Sys2Proof.Machine

theorem keeps_execPortSet (k : Nat) (s : State) : s.Continues (execPortSet k s) := by
  unfold execPortSet
  split
  · exact .next .rfl
  · extract_lets _
    refine .ite (.next (s.keeps_endOp _ _ _ _ _ _)) ?_
    refine .ite (.next (s.keeps_endOp _ _ _ _ _ _)) ?_
    exact .next (((s.keeps_applyPort _ _).trans (State.keeps_audSync _)).trans (State.keeps_endOp _ _ _ _ _ _ _))

theorem State.keeps_portEvent (s : State) (p what rate : Nat) : s.Keeps (s.portEvent p what rate) := by
  unfold State.portEvent
  extract_lets t1 t2
  have ht1 : s.Keeps t1 := s.keeps_event _ _ _ _ _ _ _ _
  have ht2 : s.Keeps t2 := .ite (ht1.trans (t1.keeps_event _ _ _ _ _ _ _ _)) ht1
  exact ht2.trans (t2.keeps_raise _)

theorem keeps_execPortClockLost (p rate : Nat) (s : State) : s.Continues (execPortClockLost p rate s) := by
  unfold execPortClockLost
  refine .ite ?_ ?_
  · extract_lets t1
    have ht1 : s.Keeps t1 := (s.keeps_setFld _ _ _).trans (State.keeps_setFld _ _ _ _)
    exact .next ((ht1.trans (t1.keeps_portEvent _ _ _)).trans (State.keeps_audSync _))
  · exact .next .rfl

theorem keeps_execPortClockBack (p rate : Nat) (s : State) : s.Continues (execPortClockBack p rate s) := by
  unfold execPortClockBack
  refine .ite ?_ ?_
  · extract_lets t1
    have ht1 : s.Keeps t1 := (s.keeps_setFld _ _ _).trans (State.keeps_setFld _ _ _ _)
    exact .next ((ht1.trans (t1.keeps_portEvent _ _ _)).trans (State.keeps_audSync _))
  · exact .next .rfl

/-- One route of ROUTE_SET: it is refused, or its multiplexer's shadow takes it. -/
theorem State.keeps_routeStep (q : Started) (bank i : Nat) (a : State × Option Nat) :
    a.1.Keeps (match a.2 with
      | some _ => a
      | none =>
        let s := a.1
        let e := routeEntry q i
        if s.muxBank e.1 ≠ bank ∨ !s.routeFits e.1 e.2.src then (s, some (8 + 8 * i))
        else
          let s := s.setMux e.1 { s.mux e.1 with shd := e.2 }
          if s.hasLoop (fun d => (s.mux d).shd.src) then (s, some (8 + 8 * i)) else (s, none)).1 := by
  obtain ⟨s, _ | r⟩ := a
  · extract_lets t e u
    dsimp only
    split
    · exact .rfl
    · split <;> exact s.keeps_setMux _ _
  · exact .rfl

theorem State.keeps_routeAll (s : State) (q : Started) (bank : Nat) : s.Keeps (s.routeAll q bank).1 := by
  unfold State.routeAll
  generalize List.range (q.p8 2) = l
  suffices h : ∀ a : State × Option Nat, s.Keeps a.1 → s.Keeps (l.foldl _ a).1 from h _ .rfl
  induction l with
  | nil => exact fun _ h => h
  | cons i t ih => exact fun a h => ih _ (h.trans (State.keeps_routeStep q bank i a))

theorem State.keeps_armBanks (s : State) (k banks : Nat) (ring : RingId) : s.Keeps (s.armBanks k banks ring) := s.keeps_setAud _

theorem keeps_execRouteSet (k : Nat) (s : State) : s.Continues (execRouteSet k s) := by
  unfold execRouteSet
  split
  · exact .next .rfl
  · extract_lets _ _
    refine .ite (.next (s.keeps_endOp _ _ _ _ _ _)) ?_
    split
    · rename_i t1 _ heq2
      have ht1 : s.Keeps t1 := .of_pair_fst heq2 (s.keeps_routeAll _ _)
      exact .next (s.keeps_endOp _ _ _ _ _ _)
    · rename_i t3 heq4
      have ht3 : s.Keeps t3 := .of_pair_fst heq4 (s.keeps_routeAll _ _)
      refine .ite (.next (ht3.trans (t3.keeps_endOp _ _ _ _ _ _))) ?_
      refine .ite (.next (s.keeps_endOp _ _ _ _ _ _)) ?_
      exact .next (ht3.trans (t3.keeps_armBanks _ _ _))

theorem keeps_execBusSet (k : Nat) (s : State) : s.Continues (execBusSet k s) := by
  unfold execBusSet
  split
  · exact .next .rfl
  · extract_lets _ _ _ t1
    have ht1 : s.Keeps t1 := s.keeps_setBus _ _
    refine .ite (.next (s.keeps_endOp _ _ _ _ _ _)) ?_
    refine .ite (.next (s.keeps_endOp _ _ _ _ _ _)) ?_
    refine .ite (.next (s.keeps_endOp _ _ _ _ _ _)) ?_
    refine .ite (.next (ht1.trans (t1.keeps_endOp _ _ _ _ _ _))) ?_
    refine .ite (.next (s.keeps_endOp _ _ _ _ _ _)) ?_
    exact .next (ht1.trans (t1.keeps_armBanks _ _ _))

theorem keeps_execSafeload (k : Nat) (s : State) : s.Continues (execSafeload k s) := by
  unfold execSafeload
  split
  · exact .next .rfl
  · refine .ite (.next (s.keeps_endOp _ _ _ _ _ _)) ?_
    refine .ite (.next (s.keeps_endOp _ _ _ _ _ _)) ?_
    refine .ite (.next (s.keeps_endOp _ _ _ _ _ _)) ?_
    exact .next (s.keeps_armBanks _ _ _)

theorem State.keeps_swapBus (s : State) (k : Nat) : s.Keeps (s.swapBus k) := by
  unfold State.swapBus
  extract_lets _ _
  exact s.keeps_setBus _ _

theorem State.keeps_swapBanks (s : State) (banks : Nat) : s.Keeps (s.swapBanks banks) := by
  unfold State.swapBanks
  extract_lets _ t1 _ t2
  have ht1 : s.Keeps t1 := by
    unfold t1
    refine State.Keeps.trans ?_ (.foldl (fun t a => ?_) _ _)
    · exact .rfl
    · extract_lets _
      exact t.keeps_setMux _ _
  have ht2 : s.Keeps t2 := ht1.trans (.foldl (fun t _ => t.keeps_swapBus _) _ _)
  exact ht2.trans (.foldl (fun t _ => t.keeps_applyMux _) _ _)

theorem keeps_execSafeloadSwap (v : Bool) (s : State) : s.Continues (execSafeloadSwap v s) := by
  unfold execSafeloadSwap
  extract_lets _ _ t1 t2 t3
  have ht1 : s.Keeps t1 := s.keeps_setAud _
  have ht2 : s.Keeps t2 := ht1.trans (t1.keeps_swapBanks _)
  have ht3 : s.Keeps t3 := ht2.trans (.foldl (fun t _ => ((t.keeps_endOp _ _ _ _ _ _).trans (State.keeps_event _ _ _ _ _ _ _ _ _)).trans
      (State.keeps_raise _ _)) _ _)
  exact .next (.ite ht3 (ht3.trans t3.keeps_audSync))

theorem keeps_execRouterState (k : Nat) (s : State) : s.Continues (execRouterState k s) := by
  unfold execRouterState
  split
  · exact .next .rfl
  · extract_lets _ _ _
    refine .ite (.next (((s.keeps_setRouter _).trans (State.keeps_audSync _)).trans (State.keeps_endOp _ _ _ _ _ _ _))) ?_
    exact .next (s.keeps_endOp _ _ _ _ _ _)

theorem keeps_execGainRampEnd (i : Nat) (s : State) : s.Continues (execGainRampEnd i s) := by
  unfold execGainRampEnd
  refine .ite (.next (s.keeps_setMux _ _)) ?_
  refine .ite (.next (s.keeps_setBus _ _)) ?_
  refine .ite (.next (s.keeps_setBus _ _)) ?_
  refine .ite ?_ ?_
  · split
    · exact .next .rfl
    · refine .ite (.next .rfl) ?_
      refine .ite (.next ((s.keeps_haltStream _).trans (State.keeps_audSync _))) ?_
      exact .next (s.keeps_setStream _ _)
  · refine .ite (.next (s.keeps_setAud _)) ?_
    exact .next .rfl

theorem keeps_execCrossfadeEnd (d : Nat) (s : State) : s.Continues (execCrossfadeEnd d s) := by
  unfold execCrossfadeEnd
  extract_lets _
  refine .ite (.next .rfl) ?_
  exact .next (((s.keeps_setMux _ _).trans (State.keeps_applyMux _ _)).trans (State.keeps_audSync _))

theorem keeps_execGenSet (k : Nat) (s : State) : s.Continues (execGenSet k s) := by
  unfold execGenSet
  split
  · exact .next .rfl
  · extract_lets _ _ _ t1 _ t2 _
    have ht1 : s.Keeps t1 := s.keeps_stopTone _
    have ht2 : s.Keeps t2 := .ite .rfl (ht1.trans (t1.keeps_setPair _ _))
    refine .ite (.next (s.keeps_endOp _ _ _ _ _ _)) ?_
    exact .next (((ht2.trans (t2.keeps_setPair _ _)).trans (State.keeps_audSync _)).trans (State.keeps_endOp _ _ _ _ _ _ _))

theorem keeps_execToneSet (k : Nat) (s : State) : s.Continues (execToneSet k s) := by
  unfold execToneSet
  split
  · exact .next .rfl
  · extract_lets _ _ _
    refine .ite (.next (s.keeps_endOp _ _ _ _ _ _)) ?_
    refine .ite ?_ ?_
    · split
      · exact .next (((s.keeps_stopTone _).trans (State.keeps_audSync _)).trans (State.keeps_endOp _ _ _ _ _ _ _))
      · exact .next ((s.keeps_satInc _ _ _).trans (State.keeps_endOp _ _ _ _ _ _ _))
    · refine .ite (.next ((s.keeps_setAud _).trans (State.keeps_endOp _ _ _ _ _ _ _))) ?_
      refine .ite (.next (s.keeps_endOp _ _ _ _ _ _)) ?_
      refine .ite (.next (s.keeps_endOp _ _ _ _ _ _)) ?_
      split
      · exact .next (((s.keeps_startTone _ _ _).trans (State.keeps_audSync _)).trans (State.keeps_endOp _ _ _ _ _ _ _))
      · exact .next ((s.keeps_satInc _ _ _).trans (State.keeps_endOp _ _ _ _ _ _ _))

theorem keeps_execCadenceStepEnd (g : Nat) (s : State) : s.Continues (execCadenceStepEnd g s) := by
  unfold execCadenceStepEnd
  split
  · exact .next .rfl
  · split
    · exact .next .rfl
    · refine .ite (.next (s.keeps_setPair _ _)) ?_
      refine .ite ?_ ?_
      · extract_lets _ _
        exact .next (s.keeps_setPair _ _)
      · exact .next (((s.keeps_toneDone _ _ _).trans (State.keeps_setPair _ _ _)).trans (State.keeps_audSync _))

theorem keeps_execBeepPlay (k : Nat) (s : State) : s.Continues (execBeepPlay k s) := by
  unfold execBeepPlay
  split
  · exact .next .rfl
  · refine .ite (.next (s.keeps_endOp _ _ _ _ _ _)) ?_
    exact .next ((s.keeps_beep _ _).trans (State.keeps_endOp _ _ _ _ _ _ _))

theorem keeps_execZoneBeepTrigger (z : Nat) (s : State) : s.Continues (execZoneBeepTrigger z s) := by
  unfold execZoneBeepTrigger
  split
  · exact .next .rfl
  · extract_lets _ t1
    have ht1 : s.Keeps t1 := s.keeps_withTouch _
    exact .next (ht1.trans (t1.keeps_beep _ _))

theorem keeps_execStreamSetup (k : Nat) (s : State) : s.Continues (execStreamSetup k s) := by
  unfold execStreamSetup
  split
  · exact .next .rfl
  · extract_lets _ _ _ _ _
    refine .ite (.next (s.keeps_endOp _ _ _ _ _ _)) ?_
    refine .ite (.next (s.keeps_endOp _ _ _ _ _ _)) ?_
    refine .ite (.next (s.keeps_endOp _ _ _ _ _ _)) ?_
    refine .ite (.next (((s.keeps_setStream _ _).trans (State.keeps_audSync _)).trans (State.keeps_endOp _ _ _ _ _ _ _))) ?_
    refine .ite (.next (s.keeps_endOp _ _ _ _ _ _)) ?_
    refine .ite (.next (s.keeps_endOp _ _ _ _ _ _)) ?_
    exact .next (((s.keeps_setStream _ _).trans (State.keeps_audSync _)).trans (State.keeps_endOp _ _ _ _ _ _ _))

theorem State.keeps_startStream (s : State) (key : Nat) (x : AStream) : s.Keeps (s.startStream key x) := by
  unfold State.startStream
  extract_lets _ _
  exact ((s.keeps_setStream _ _).trans (State.keeps_showStreams _)).trans (State.keeps_audSync _)

theorem State.keeps_stopStream (s : State) (key : Nat) : s.Keeps (s.stopStream key) := by
  unfold State.stopStream
  split
  · exact .rfl
  · refine .ite .rfl ?_
    refine .ite ?_ ((s.keeps_haltStream _).trans (State.keeps_audSync _))
    extract_lets _
    exact .ite ((s.keeps_haltStream _).trans (State.keeps_audSync _)) (s.keeps_setStream _ _)

theorem keeps_execStreamCtrl (k : Nat) (s : State) : s.Continues (execStreamCtrl k s) := by
  unfold execStreamCtrl
  split
  · exact .next .rfl
  · extract_lets _ _ _ _
    refine .ite (.next (s.keeps_endOp _ _ _ _ _ _)) ?_
    refine .ite (.next (s.keeps_endOp _ _ _ _ _ _)) ?_
    split
    · exact .next (s.keeps_endOp _ _ _ _ _ _)
    · split
      · exact .next ((s.keeps_stopStream _).trans (State.keeps_endOp _ _ _ _ _ _ _))
      · refine .ite (.next (s.keeps_endOp _ _ _ _ _ _)) ?_
        refine .ite (.next (s.keeps_endOp _ _ _ _ _ _)) ?_
        exact .next ((s.keeps_startStream _ _).trans (State.keeps_endOp _ _ _ _ _ _ _))
      · extract_lets _
        exact .next ((s.keeps_setStream _ _).trans (State.keeps_endOp _ _ _ _ _ _ _))

theorem State.keeps_noteMissing (s : State) (key n : Nat) : s.Keeps (s.noteMissing key n) := by
  unfold State.noteMissing
  split
  · exact .rfl
  · extract_lets _ _ _ t1 t2
    have ht1 : s.Keeps t1 := s.keeps_setStream _ _
    have ht2 : s.Keeps t2 := ht1.trans (t1.keeps_event _ _ _ _ _ _ _ _)
    exact .ite (ht2.trans (t2.keeps_raise _)) (s.keeps_setStream _ _)

theorem State.keeps_streamFault (s : State) (key reason frame : Nat) : s.Keeps (s.streamFault key reason frame) := by
  unfold State.streamFault
  split
  · exact .rfl
  · refine .ite .rfl ?_
    extract_lets _ t1
    have ht1 : s.Keeps t1 := (s.keeps_haltStream _).trans (State.keeps_event _ _ _ _ _ _ _ _ _)
    exact ht1.trans (t1.keeps_raise _)

theorem State.keeps_readFrames (x : AStream) (n f : Nat) (acc : List Nat) (s : State) : s.Keeps (State.readFrames x n f acc s).2 := by
  induction n generalizing f acc s with
  | zero => exact .rfl
  | succ n ih =>
    simp only [State.readFrames]
    split <;> rename_i heq
    · exact (State.Keeps.of_pair heq (s.keeps_unitRead _ _ _)).trans (ih _ _ _)
    · exact .of_pair heq (s.keeps_unitRead _ _ _)

theorem State.keeps_writeFrames (x : AStream) (l : List Nat) (f n : Nat) (s : State) : s.Keeps (State.writeFrames x l f n s).2 := by
  induction l generalizing f n s with
  | nil => exact .rfl
  | cons v t ih =>
    simp only [State.writeFrames]
    split <;> rename_i heq
    · exact (State.Keeps.of_pair heq (s.keeps_unitWrite _ _ _)).trans (ih _ _ _)
    · exact .of_pair heq (s.keeps_unitWrite _ _ _)

theorem State.keeps_writeHead (s : State) (key : Nat) : s.Keeps (s.writeHead key) := by
  unfold State.writeHead
  split
  · exact .rfl
  · split
    · rename_i t1 heq2
      have ht1 : s.Keeps t1 := .of_pair heq2 (s.keeps_unitWrite _ _ _)
      exact ht1.trans (t1.keeps_streamFault _ _ _)
    · rename_i t3 heq4
      have ht3 : s.Keeps t3 := .of_pair heq4 (s.keeps_unitWrite _ _ _)
      split
      · rename_i t5 heq6
        have ht5 : s.Keeps t5 := .of_pair heq6 (ht3.trans (t3.keeps_unitWrite _ _ _))
        exact ht5.trans (t5.keeps_streamFault _ _ _)
      · rename_i t7 heq8
        exact .of_pair heq8 (ht3.trans (t3.keeps_unitWrite _ _ _))

theorem State.keeps_playMs (s : State) (key : Nat) : s.Keeps (s.playMs key) := by
  unfold State.playMs
  split
  · exact .rfl
  · refine .ite .rfl ?_
    extract_lets _ t1
    have ht1 : s.Keeps t1 := s.keeps_setStream _ _
    exact .ite ht1 (ht1.trans (t1.keeps_noteMissing _ _))

/-- A case split on what a read answers, with the two continuations as variables: the kernel then evaluates neither. -/
theorem State.Keeps.of_answer {s : State} {e : Nat → State → State} {f : List Byte → State → State} {y : Except Nat (List Byte) × State}
    (hy : s.Keeps y.2) (he : ∀ r (t : State), t.Keeps (e r t)) (hf : ∀ l (t : State), t.Keeps (f l t)) :
    s.Keeps (match (generalizing := false) y with | (.error r, t) => e r t | (.ok l, t) => f l t) := by
  obtain ⟨r | l, t⟩ := y
  · exact hy.trans (he r t)
  · exact hy.trans (hf l t)

theorem State.keeps_fetchPlay (s : State) (key : Nat) (x : AStream) : s.Keeps (s.fetchPlay key x) := by
  unfold State.fetchPlay
  refine .of_answer (s.keeps_unitRead _ _ _) (fun r t => (t.keeps_streamFault _ _ _).trans (State.keeps_playMs _ _)) (fun h t => ?_)
  extract_lets avail n
  have hframes := State.keeps_readFrames x n x.index [] t
  clear_value n
  generalize State.readFrames _ _ _ _ _ = y at *
  obtain ⟨⟨l, e⟩, u⟩ := y
  dsimp only
  refine State.Keeps.trans hframes ?_
  have hset := u.keeps_setStream key
  cases e with
  | some e => exact ((hset _).trans (State.keeps_streamFault _ _ _ _)).trans (State.keeps_playMs _ _)
  | none => exact ((hset _).trans (State.keeps_playMs _ _)).trans (State.keeps_writeHead _ _)

theorem State.keeps_fetchCapture (s : State) (key : Nat) (x : AStream) (frames : List Nat) : s.Keeps (s.fetchCapture key x frames) := by
  unfold State.fetchCapture
  split
  · rename_i t1 heq2
    have ht1 : s.Keeps t1 := .of_pair heq2 (s.keeps_unitRead _ _ _)
    exact ht1.trans (t1.keeps_streamFault _ _ _)
  · rename_i t3 heq4
    have ht3 : s.Keeps t3 := .of_pair heq4 (s.keeps_unitRead _ _ _)
    extract_lets _
    split
    · rename_i t5 heq6
      have ht5 : s.Keeps t5 := .of_pair heq6 (ht3.trans (t3.keeps_writeFrames _ _ _ _))
      extract_lets _ t7 _
      have ht7 : s.Keeps t7 := ht5.trans (t5.keeps_setStream _ _)
      split
      · exact ht7.trans (t7.keeps_streamFault _ _ _)
      · exact (State.Keeps.ite (ht7.trans (t7.keeps_noteMissing _ _)) ht7).trans (State.keeps_writeHead _ _)

theorem keeps_execStreamFetch (st : Nat) (frames : List Nat) (s : State) : s.Continues (execStreamFetch st frames s) := by
  unfold execStreamFetch
  split
  · exact .next .rfl
  · refine .ite (.next .rfl) ?_
    refine .ite (.next (s.keeps_fetchPlay _ _)) ?_
    exact .next (s.keeps_fetchCapture _ _ _)

theorem keeps_execAudCtxSave (k : Nat) (s : State) : s.Continues (execAudCtxSave k s) := by
  unfold execAudCtxSave
  split
  · exact .next .rfl
  · extract_lets _ _
    refine .ite (.next (s.keeps_endOp _ _ _ _ _ _)) ?_
    refine .ite (.next (s.keeps_endOp _ _ _ _ _ _)) ?_
    split
    · exact .next (s.keeps_endOp _ _ _ _ _ _)
    · extract_lets _
      split
      · rename_i t1 heq2
        have ht1 : s.Keeps t1 := .of_pair heq2 (s.keeps_unitWrite _ _ _)
        exact .next (ht1.trans (t1.keeps_endOp _ _ _ _ _ _))
      · rename_i t3 heq4
        have ht3 : s.Keeps t3 := .of_pair heq4 (s.keeps_unitWrite _ _ _)
        exact .next (ht3.trans (t3.keeps_endOp _ _ _ _ _ _))

theorem keeps_execAudCtxRestore (k : Nat) (s : State) : s.Continues (execAudCtxRestore k s) := by
  unfold execAudCtxRestore
  split
  · exact .next .rfl
  · extract_lets _ _ _
    refine .ite (.next (s.keeps_endOp _ _ _ _ _ _)) ?_
    refine .ite (.next (s.keeps_endOp _ _ _ _ _ _)) ?_
    refine .ite (.next (s.keeps_endOp _ _ _ _ _ _)) ?_
    split
    · rename_i t1 heq2
      have ht1 : s.Keeps t1 := .of_pair heq2 (s.keeps_unitRead _ _ _)
      exact .next (ht1.trans (t1.keeps_endOp _ _ _ _ _ _))
    · rename_i t3 heq4
      have ht3 : s.Keeps t3 := .of_pair heq4 (s.keeps_unitRead _ _ _)
      split
      · exact .next (ht3.trans (t3.keeps_endOp _ _ _ _ _ _))
      · extract_lets _
        exact .next (((ht3.trans (t3.keeps_setStream _ _)).trans (State.keeps_audSync _)).trans (State.keeps_endOp _ _ _ _ _ _ _))

theorem State.keeps_audioReset (s : State) (c : Nat) : s.Keeps (s.audioReset c) := by
  unfold State.audioReset
  exact (State.Keeps.foldl (fun t _ => .ite (t.keeps_haltStream _) .rfl) _ _).trans (State.keeps_audSync _)

theorem keeps_execAlarmSet (k : Nat) (s : State) : s.Continues (execAlarmSet k s) := by
  unfold execAlarmSet
  split
  · exact .next .rfl
  · extract_lets _ _ _ ready1 t2 t3 t4 t5 t6
    have ht2 : s.Keeps t2 := s.keeps_setFld _ _ _
    have ht3 : s.Keeps t3 := ((ht2.trans (t2.keeps_setFlag _ _ _)).trans (State.keeps_setFlag _ _ _ _)).trans (State.keeps_setFld _ _ _ _)
    have ht4 : s.Keeps t4 := ht3.trans (t3.keeps_setFld _ _ _)
    have ht5 : s.Keeps t5 := .ite (ht4.trans t4.keeps_dropAlarmRoutes) ht4
    have ht6 : s.Keeps t6 := .ite (ht5.trans t5.keeps_clearAlarmFails) ht5
    refine .ite (.next (s.keeps_endOp _ _ _ _ _ _)) ?_
    refine .ite (.next (s.keeps_endOp _ _ _ _ _ _)) ?_
    refine .ite (.next (s.keeps_endOp _ _ _ _ _ _)) ?_
    exact .next (((ht6.trans t6.keeps_showAlarm).trans (State.keeps_audSync _)).trans (State.keeps_endOp _ _ _ _ _ _ _))

theorem State.keeps_alarmEvent (s : State) (what : Nat) : s.Keeps (s.alarmEvent what) := s.keeps_event _ _ _ _ _ _ _ _

theorem keeps_execAlarmLaneMismatch (s : State) : s.Continues (execAlarmLaneMismatch s) := by
  unfold execAlarmLaneMismatch
  refine .ite (.next .rfl) ?_
  extract_lets _ t1 _ t2 t3
  have ht1 : s.Keeps t1 := (s.keeps_setFld _ _ _).trans (State.keeps_satInc _ _ _ _)
  have ht2 : s.Keeps t2 := ((ht1.trans (t1.keeps_setAud _)).trans (State.keeps_raise _ _)).trans (State.keeps_alarmEvent _ _)
  have ht3 : s.Keeps t3 := ht2.trans (t2.keeps_fault _ _ _)
  exact .next (.ite (ht3.trans (t3.keeps_enterSafe _ _)) ht3)

theorem keeps_execAlarmMemberFail (m : Nat) (s : State) : s.Continues (execAlarmMemberFail m s) := by
  unfold execAlarmMemberFail
  refine .ite (.next .rfl) ?_
  extract_lets _ t1 _ t2 t3
  have ht1 : s.Keeps t1 := s.keeps_setFld _ _ _
  have ht2 : s.Keeps t2 := ((ht1.trans (t1.keeps_setAud _)).trans (State.keeps_raise _ _)).trans (State.keeps_alarmEvent _ _)
  have ht3 : s.Keeps t3 := ht2.trans (t2.keeps_fault _ _ _)
  exact .next (.ite (ht3.trans (t3.keeps_enterSafe _ _)) ht3)

theorem keeps_execAudioQuery (k : Nat) (s : State) : s.Continues (execAudioQuery k s) := by
  have hend : ∀ st r0 r1 r2 r3, s.Continues (.next (s.endOp k st r0 r1 r2 r3)) := fun _ _ _ _ _ => .next (s.keeps_endOp _ _ _ _ _ _)
  unfold execAudioQuery
  split
  · exact .next .rfl
  · refine .ite (hend _ _ _ _ _) (.ite (hend _ _ _ _ _) ?_)
    generalize Started.p8 _ 0 = kind
    split
    · exact hend _ _ _ _ _
    · exact hend _ _ _ _ _
    · exact hend _ _ _ _ _
    · split <;> exact hend _ _ _ _ _

end Sys2Proof.Machine
end

section
/-! PROOFS. What the S-world claims keep. -/

namespace Sys2Proof.Machine

theorem State.keeps_setDomBit (s : State) (base d : Nat) (b : Bool) : s.Keeps (s.setDomBit base d b) := by
  unfold State.setDomBit
  extract_lets _
  exact s.keeps_setRg _ _

theorem State.keeps_keepPins (s old : State) : s.Keeps (s.keepPins old) := by
  unfold State.keepPins
  extract_lets whole1 top2 t3
  have ht3 : s.Keeps t3 := (s.keeps_setRg _ _).trans (State.keeps_setRg _ _ _)
  exact ((ht3.trans (t3.keeps_setRg _ _)).trans (State.keeps_setRg _ _ _)).trans (State.keeps_setRg _ _ _)

end Sys2Proof.Machine
end

section
/-! PROOFS. What the memory controller keep. -/

namespace Sys2Proof.Machine

theorem State.keeps_setMcQueue (s : State) (c : Nat) (q : List Queued) : s.Keeps (s.setMcQueue c q) := s.keeps_withMc _ (Eq.refl _)

theorem State.keeps_serve (s : State) (q : Queued) : s.Keeps (s.serve q) := by
  unfold State.serve
  split
  · split
    · exact (s.keeps_noteReads _ _).trans (State.keeps_answer _ _)
    · exact (s.keeps_noteFault _).trans (State.keeps_answer _ _)
  · split
    · rename_i t1 heq2
      have ht1 : s.Keeps t1 := .of_pair heq2 (s.keeps_physWrite _ _ _)
      exact ht1.trans (t1.keeps_answer _)
    · rename_i t3 heq4
      have ht3 : s.Keeps t3 := .of_pair heq4 (s.keeps_physWrite _ _ _)
      exact (ht3.trans (t3.keeps_noteFault _)).trans (State.keeps_answer _ _)

theorem State.keeps_serveQueue (s : State) (c : Nat) : s.Keeps (s.serveQueue c) := by
  unfold State.serveQueue
  exact (s.keeps_setMcQueue _ _).trans (.foldl (fun t _ => t.keeps_serve _) _ _)

theorem State.keeps_throttle (s : State) (ch : Nat) (a : RowAct) (w : Who) : s.Keeps (s.throttle ch a w) := by
  unfold State.throttle
  extract_lets _ s1 s2 s3 s4
  have h1 : s.Keeps s1 := s.keeps_withMc _ (Eq.refl _)
  have h2 : s.Keeps s2 := by
    unfold s2
    split <;> rename_i heq <;> have h := h1.trans (.of_pair heq (s1.keeps_firstOrOver _ _))
    · exact h
    · exact ((((h.trans (State.keeps_setFld _ _ _ _)).trans (State.keeps_setFld _ _ _ _)).trans (State.keeps_setFld _ _ _ _)).trans
        (State.keeps_setFld _ _ _ _)).trans (State.keeps_setFld _ _ _ _)
  have h4 : s.Keeps s4 := (h2.trans (s2.keeps_raise _)).trans (State.keeps_event _ _ _ _ _ _ _ _ _)
  split
  · exact h4.trans (s4.keeps_event _ _ _ _ _ _ _ _)
  · exact h4

theorem State.keeps_activate (s : State) (addr : Nat) (w : Who) (act : Option RowAct) : s.Keeps (s.activate addr w act) := by
  unfold State.activate
  split
  · exact .rfl
  · extract_lets _ _
    split
    · extract_lets t1
      have ht1 : s.Keeps t1 := s.keeps_withMc _ (Eq.refl _)
      exact .ite (ht1.trans (t1.keeps_throttle _ _ _)) ht1

theorem keeps_execHeavyRowWindowClear (s : State) : s.Continues (execHeavyRowWindowClear s) := .next (s.keeps_withMc _ (Eq.refl _))

theorem State.keeps_rewriteDecoded (s : State) (a : Nat) : s.Keeps (s.rewriteDecoded a) :=
  ⟨(s.keeps_storeDram a 0 _).1, fun h => h.rewriteDecoded a⟩

theorem keeps_execCorrectionWriteback (addr : Nat) (s : State) : s.Continues (execCorrectionWriteback addr s) := by
  unfold execCorrectionWriteback
  extract_lets _ t1 _
  have ht1 : s.Keeps t1 := s.keeps_rewriteDecoded _
  refine .ite (.next (ht1.trans (t1.keeps_withMc _ (Eq.refl _)))) ?_
  exact .next .rfl

theorem State.keeps_poisonWord (s : State) (a ink : Nat) : s.Keeps (s.poisonWord a ink) :=
  ⟨(s.keeps_storeDram a 0 _).1, fun h => h.poisonWord a ink⟩

theorem State.keeps_upset (s : State) (a : Nat) (noise : List (Nat × Byte)) : s.Keeps (s.upset a noise) := by
  unfold State.upset
  split
  · exact .rfl
  · extract_lets _ _
    exact s.keeps_withMc _ (Eq.refl _)

theorem keeps_execPatrolRead (addr : Nat) (noise : List (Nat × Byte)) (s : State) : s.Continues (execPatrolRead addr noise s) := by
  unfold execPatrolRead
  extract_lets _ t1 t2 _
  have ht1 : s.Keeps t1 := s.keeps_upset _ _
  clear_value t1
  have ht2 : s.Keeps t2 := by
    unfold t2
    split
    · exact ht1.trans (t1.keeps_poisonWord _ _)
    · exact ht1.trans (t1.keeps_noteRead _)
  refine .ite (.next (ht2.trans (t2.keeps_withMc _ (Eq.refl _)))) ?_
  exact .next .rfl

theorem keeps_execRequestAgePromotion (c i : Nat) (s : State) : s.Continues (execRequestAgePromotion c i s) := by
  unfold execRequestAgePromotion
  split
  · exact .next .rfl
  · split
    · exact .next .rfl
    · refine .ite (.next (s.keeps_setMcQueue _ _)) ?_
      exact .next .rfl

theorem keeps_execRefreshBatch (c : Nat) (s : State) : s.Continues (execRefreshBatch c s) := by
  unfold execRefreshBatch
  extract_lets _ _ _ setAhead1
  refine .ite (.next .rfl) ?_
  refine .ite (.next ((s.keeps_setFld _ _ _).trans (State.keeps_withMc _ _ (Eq.refl _)))) ?_
  refine .ite (.next (s.keeps_withMc _ (Eq.refl _))) ?_
  refine .ite (.next .rfl) ?_
  exact .next (s.keeps_setFld _ _ _)

theorem keeps_execMr4Poll (c ind : Nat) (s : State) : s.Continues (execMr4Poll c ind s) := by
  unfold execMr4Poll
  extract_lets _ t1 t2
  have ht1 : s.Keeps t1 := s.keeps_setFld _ _ _
  have ht2 : s.Keeps t2 := .ite (ht1.trans (t1.keeps_setFld _ _ _)) ht1
  exact .next (.ite (ht2.trans (t2.keeps_raise _)) ht2)

theorem keeps_execModeRegisterReadback (c : Nat) (mismatch : Option Nat) (s : State) : s.Continues (execModeRegisterReadback c mismatch s) := by
  unfold execModeRegisterReadback
  split
  · exact .next .rfl
  · extract_lets _ t1
    have ht1 : s.Keeps t1 := s.keeps_withMc _ (Eq.refl _)
    exact .next (ht1.trans (t1.keeps_freeze _ _ _ _ _ _))

theorem keeps_execCommandPathParityError (c : Nat) (s : State) : s.Continues (execCommandPathParityError c s) := .next (s.keeps_freeze _ _ _ _ _ _)

theorem State.keeps_breakMirrors (s : State) (g : Nat) : s.Keeps (s.breakMirrors g) := by
  unfold State.breakMirrors
  refine State.Keeps.trans ?_ (.foldl (fun t a => ?_) _ _)
  · exact .rfl
  · extract_lets _ _ t1 t2
    have ht1 : t.Keeps t1 := t.keeps_setFld _ _ _
    have ht2 : t.Keeps t2 := ht1.trans (t1.keeps_setFlag _ _ _)
    exact .ite ((ht2.trans (t2.keeps_raise _)).trans (State.keeps_event _ _ _ _ _ _ _ _ _)) .rfl

theorem State.keeps_fenceGroup (s : State) (g ch : Nat) : s.Keeps (s.fenceGroup g ch) := by
  unfold State.fenceGroup
  refine .ite .rfl ?_
  extract_lets t1 t2 t3 t4 _ t5
  have ht1 : s.Keeps t1 := (s.keeps_setFld _ _ _).trans (State.keeps_count _ _ _)
  clear_value t1
  have ht2 : s.Keeps t2 := by
    unfold t2
    refine State.Keeps.trans ?_ (.foldl (fun t a => ?_) _ _)
    · exact ht1
    · extract_lets t6 _
      have ht6 : t.Keeps t6 := (t.keeps_setFld _ _ _).trans (State.keeps_setMcQueue _ _ _)
      exact ht6.trans (t6.keeps_withMc _ (Eq.refl _))
  have ht3 : s.Keeps t3 := ht2.trans (t2.keeps_breakMirrors _)
  have ht4 : s.Keeps t4 := ht3.trans (t3.keeps_raise _)
  have ht5 : s.Keeps t5 := .ite (ht4.trans (t4.keeps_withMc _ (Eq.refl _))) (ht4.trans (t4.keeps_fault _ _ _))
  exact ht5.trans (t5.keeps_eventSM _ _ _ _ _ _)

theorem State.keeps_retrainOver (s : State) : s.Keeps s.retrainOver := by
  unfold State.retrainOver
  exact (s.keeps_withMc _ (Eq.refl _)).trans (.foldl (fun t _ => t.keeps_fault _ _ _) _ _)

theorem State.keeps_startRetrain (s : State) : s.Keeps s.startRetrain := by
  unfold State.startRetrain
  split
  · exact .rfl
  · extract_lets t1 _
    have ht1 : s.Keeps t1 := by
      unfold t1
      refine State.Keeps.trans ?_ (.foldl (fun t a => ?_) _ _)
      · exact .rfl
      · extract_lets t2
        have ht2 : t.Keeps t2 := (t.keeps_setFld _ _ _).trans (State.keeps_setFld _ _ _ _)
        exact ht2.trans (t2.keeps_setMcQueue _ _)
    exact ht1.trans (t1.keeps_withMc _ (Eq.refl _))

theorem State.keeps_rebuildSlots (s : State) (g : Nat) : s.Keeps (s.rebuildSlots g) := by
  unfold State.rebuildSlots
  extract_lets t1 _ _
  have ht1 : s.Keeps t1 := s.keeps_setFld _ _ _
  exact ht1.trans (t1.keeps_withMc _ (Eq.refl _))

theorem State.keeps_setIsoDisp (s : State) (g n : Nat) : s.Keeps (s.setIsoDisp g n) := by
  unfold State.setIsoDisp
  extract_lets _ t1
  have ht1 : s.Keeps t1 := .ite .rfl ((s.keeps_setFld _ _ _).trans (State.keeps_rebuildSlots _ _))
  exact ht1.trans (t1.keeps_setFlag _ _ _)

theorem State.keeps_syncIso (s : State) : s.Keeps s.syncIso := by
  unfold State.syncIso
  exact .foldl (fun t _ => t.keeps_setIsoDisp _ _) _ _

theorem State.keeps_retrainPassed (s : State) (attempts : Nat) : s.Keeps (s.retrainPassed attempts) := by
  unfold State.retrainPassed
  extract_lets _ t1 t2 t3 t4
  have ht1 : s.Keeps t1 := by
    unfold t1
    refine State.Keeps.trans ?_ (.foldl (fun t a => ?_) _ _)
    · exact .rfl
    · extract_lets t5 _
      have ht5 : t.Keeps t5 := t.keeps_setFld _ _ _
      exact ht5.trans (t5.keeps_withMc _ (Eq.refl _))
  have ht2 : s.Keeps t2 := (ht1.trans t1.keeps_retrainOver).trans (State.keeps_syncIso _)
  have ht3 : s.Keeps t3 := ht2.trans (t2.keeps_raise _)
  have ht4 : s.Keeps t4 := ht3.trans (t3.keeps_eventSM _ _ _ _ _ _)
  exact ht4.trans (.foldl (fun t _ => t.keeps_serveQueue _) _ _)

theorem keeps_execRetrainAttemptEnd (failed : Nat) (s : State) : s.Continues (execRetrainAttemptEnd failed s) := by
  unfold execRetrainAttemptEnd
  split
  · exact .next .rfl
  · extract_lets _ _ t1 t2
    have ht1 : s.Keeps t1 := s.keeps_withMc _ (Eq.refl _)
    have ht2 : s.Keeps t2 := ht1.trans (.foldl (fun t _ => t.keeps_fenceGroup _ _) _ _)
    refine .ite (.next (ht1.trans (t1.keeps_retrainPassed _))) ?_
    refine .ite (.next (ht1.trans (t1.keeps_setFld _ _ _))) ?_
    refine .ite (.next (ht2.trans t2.keeps_retrainOver)) ?_
    exact .next (ht2.trans (t2.keeps_setFld _ _ _))

theorem keeps_execWckDrift (s : State) : s.Continues (execWckDrift s) := .next s.keeps_startRetrain

theorem State.keeps_thawed (s : State) (c action : Nat) (self : Bool) (f : Freeze) : s.Keeps (s.thawed c action self f) := by
  unfold State.thawed
  extract_lets _ t1 t2 t3 _ t4
  have ht1 : s.Keeps t1 := s.keeps_setFld _ _ _
  have ht2 : s.Keeps t2 := ht1.trans (t1.keeps_setFlag _ _ _)
  have ht3 : s.Keeps t3 := ht2.trans (t2.keeps_setFld _ _ _)
  have ht4 : s.Keeps t4 := ht3.trans (t3.keeps_withMc _ (Eq.refl _))
  exact ht4.trans (t4.keeps_eventSM _ _ _ _ _ _)

theorem State.keeps_resume (s : State) (c : Nat) : s.Keeps (s.resume c) := (s.keeps_setFld _ _ _).trans (State.keeps_serveQueue _ _)

theorem State.keeps_poisonFailing (s : State) (f : Freeze) : s.Keeps (s.poisonFailing f) := by
  unfold State.poisonFailing
  refine .ite ?_ (s.keeps_poisonWord _ _)
  extract_lets words t
  have h1 : s.Keeps t := .foldl (fun t _ => t.keeps_poisonWord _ _) _ _
  suffices h2 : ∀ t : State, s.Keeps t →
      s.Keeps { t with mc := { t.mc with sideBad := SMap.set (fun _ => false) t.mc.sideBad (t.sideKey f.addr) false } } from h2 t h1
  intro t h1
  exact h1.trans (t.keeps_withMc _ (Eq.refl _))

theorem State.keeps_thaw (s : State) (c action : Nat) (self : Bool) : s.Keeps (s.thaw c action self) := by
  unfold State.thaw
  split
  · exact .rfl
  · refine .ite .rfl ?_
    split
    · exact ((State.Keeps.ite (s.keeps_poisonFailing _) .rfl).trans (State.keeps_thawed _ _ _ _ _)).trans (State.keeps_resume _ _)
    · refine .ite (((s.keeps_poisonFailing _).trans (State.keeps_thawed _ _ _ _ _)).trans (State.keeps_resume _ _)) ?_
      extract_lets _ t1
      have ht1 : s.Keeps t1 := s.keeps_withMc _ (Eq.refl _)
      exact (ht1.trans (t1.keeps_thawed _ _ _ _)).trans (State.keeps_resume _ _)
    · exact (s.keeps_thawed _ _ _ _).trans (State.keeps_startRetrain _)
    · extract_lets t2
      have ht2 : s.Keeps t2 := s.keeps_setFld _ _ _
      exact ht2.trans (t2.keeps_fenceGroup _ _)
    · exact .rfl

theorem keeps_execThawPoison (who : Who) (c : Nat) (s : State) : s.Continues (execThawPoison who c s) := .next (.ite (s.keeps_thaw _ _ _) .rfl)

theorem keeps_execThawRewriteMr (who : Who) (c : Nat) (s : State) : s.Continues (execThawRewriteMr who c s) := .next (.ite (s.keeps_thaw _ _ _) .rfl)

theorem keeps_execThawRetrain (who : Who) (c : Nat) (s : State) : s.Continues (execThawRetrain who c s) := .next (.ite (s.keeps_thaw _ _ _) .rfl)

theorem keeps_execThawFence (who : Who) (c : Nat) (s : State) : s.Continues (execThawFence who c s) := .next (.ite (s.keeps_thaw _ _ _) .rfl)

theorem keeps_execSelfThaw (c : Nat) (s : State) : s.Continues (execSelfThaw c s) := by
  unfold execSelfThaw
  split
  · exact .next .rfl
  · refine .ite (.next (s.keeps_thaw _ _ _)) ?_
    exact .next .rfl

theorem State.keeps_wipe (s : State) (lo hi ink : Nat) : s.Keeps (s.wipe lo hi ink) := by
  refine ⟨?_, fun h => h.wipe lo hi ink⟩
  unfold State.wipe
  refine (foldl_keeps State.pending (fun t e => ?_) _ _).trans rfl
  dsimp only
  split <;> rfl

theorem State.keeps_scrubOn (s : State) (k : Nat) (p : Started) (at_ goal : Nat) : s.Keeps (s.scrubOn k p at_ goal) := by
  unfold State.scrubOn
  extract_lets _ _ t1
  have ht1 : s.Keeps t1 := s.keeps_wipe _ _ _
  exact .ite (ht1.trans (t1.keeps_endOp _ _ _ _ _ _)) (.ite (ht1.trans (t1.keeps_endOp _ _ _ _ _ _)) (ht1.trans (t1.keeps_setProgress _ _)))

theorem keeps_execScrub (k : Nat) (upto : Option Nat) (s : State) : s.Continues (execScrub k upto s) := by
  unfold execScrub
  split
  · exact .next .rfl
  · extract_lets _ _ _ _ _ _
    refine .ite (.next (s.keeps_scrubOn _ _ _ _)) ?_
    refine .ite (.next (s.keeps_endOp _ _ _ _ _ _)) ?_
    refine .ite (.next (s.keeps_endOp _ _ _ _ _ _)) ?_
    refine .ite (.next (s.keeps_endOp _ _ _ _ _ _)) ?_
    refine .ite (.next (s.keeps_endOp _ _ _ _ _ _)) ?_
    split
    · exact .next ((s.keeps_freeze _ _ _ _ _ _).trans (State.keeps_endOp _ _ _ _ _ _ _))
    · refine .ite (.next (s.keeps_scrubOn _ _ _ _)) ?_
      exact .next (s.keeps_endOp _ _ _ _ _ _)

theorem keeps_execSlotSet (k : Nat) (s : State) : s.Continues (execSlotSet k s) := by
  unfold execSlotSet
  split
  · exact .next .rfl
  · extract_lets _ t1 t2 t3 _ _ t4
    have ht1 : s.Keeps t1 := s.keeps_setFld _ _ _
    have ht2 : s.Keeps t2 := (ht1.trans (t1.keeps_setFld _ _ _)).trans (State.keeps_setFld _ _ _ _)
    have ht3 : s.Keeps t3 := ht2.trans (t2.keeps_rebuildSlots _)
    have ht4 : s.Keeps t4 := ht3.trans (t3.keeps_withMc _ (Eq.refl _))
    refine .ite (.next (s.keeps_endOp _ _ _ _ _ _)) ?_
    exact .next (ht4.trans (t4.keeps_endOpHeld _ _ _ _ _ _))

theorem keeps_execSlotTableSwap (g : Nat) (s : State) : s.Continues (execSlotTableSwap g s) := by
  unfold execSlotTableSwap
  split
  · exact .next .rfl
  · extract_lets _ _ t1 t2
    have ht1 : s.Keeps t1 := s.keeps_withMc _ (Eq.refl _)
    have ht2 : s.Keeps t2 := ht1.trans (t1.keeps_setFld _ _ _)
    exact .next (ht2.trans (.foldl (fun t _ => t.keeps_releaseOp _) _ _))

theorem State.keeps_setMirror (s : State) (m : Nat) (x : Option Mirror) : s.Keeps (s.setMirror m x) := s.keeps_withMc _ (Eq.refl _)

theorem State.keeps_mirrorEvent (s : State) (m : Nat) : s.Keeps (s.mirrorEvent m) := (s.keeps_raise _).trans (State.keeps_event _ _ _ _ _ _ _ _ _)

theorem keeps_execMirrorSet (k : Nat) (s : State) : s.Continues (execMirrorSet k s) := by
  unfold execMirrorSet
  split
  · exact .next .rfl
  · extract_lets _ _ _ _ _ t1 t2
    have ht1 : s.Keeps t1 := s.keeps_setMirror _ _
    have ht2 : s.Keeps t2 := ht1.trans (t1.keeps_setRg _ _)
    refine .ite ?_ ?_
    · split
      · exact .next (s.keeps_endOp _ _ _ _ _ _)
      · exact .next ((s.keeps_setMirror _ _).trans (State.keeps_endOp _ _ _ _ _ _ _))
    · refine .ite (.next (s.keeps_endOp _ _ _ _ _ _)) ?_
      refine .ite (.next (s.keeps_endOp _ _ _ _ _ _)) ?_
      refine .ite (.next (s.keeps_endOp _ _ _ _ _ _)) ?_
      refine .ite (.next (s.keeps_endOp _ _ _ _ _ _)) ?_
      refine .ite (.next (s.keeps_endOp _ _ _ _ _ _)) ?_
      exact .next (ht2.trans (t2.keeps_endOp _ _ _ _ _ _))

theorem State.keeps_copyWords (s : State) (src dst n : Nat) : s.Keeps (s.copyWords src dst n) := ⟨rfl, fun h => h.copyWords src dst n⟩

theorem keeps_execMirrorCopyDone (m : Nat) (s : State) : s.Continues (execMirrorCopyDone m s) := by
  unfold execMirrorCopyDone
  split
  · exact .next .rfl
  · refine .ite (.next (((s.keeps_copyWords _ _ _).trans (State.keeps_setFld _ _ _ _)).trans (State.keeps_mirrorEvent _ _))) ?_
    exact .next .rfl

theorem keeps_execMirrorReleaseDone (m : Nat) (s : State) : s.Continues (execMirrorReleaseDone m s) := by
  unfold execMirrorReleaseDone
  split
  · exact .next .rfl
  · refine .ite ?_ ?_
    · extract_lets t1
      have ht1 : s.Keeps t1 := (s.keeps_setMirror _ _).trans (State.keeps_wipe _ _ _ _)
      exact .next ((ht1.trans (t1.keeps_setFld _ _ _)).trans (State.keeps_mirrorEvent _ _))
    · exact .next .rfl

theorem keeps_execRetrain (k : Nat) (s : State) : s.Continues (execRetrain k s) := by
  unfold execRetrain
  split
  · exact .next .rfl
  · exact .next (s.keeps_startRetrain.trans (State.keeps_endOp _ _ _ _ _ _ _))

theorem keeps_execMemQuery (k : Nat) (s : State) : s.Continues (execMemQuery k s) := by
  unfold execMemQuery
  split
  · exact .next .rfl
  · extract_lets _
    split
    · exact .next (s.keeps_endOp _ _ _ _ _ _)
    · exact .next (s.keeps_endOp _ _ _ _ _ _)
    · exact .next (s.keeps_endOp _ _ _ _ _ _)

end Sys2Proof.Machine
end

section
/-! PROOFS. What the shared Proof operations keep. -/

namespace Sys2Proof.Machine

theorem State.keeps_setReady (s : State) (n : Nat) (r : Option Bool) : s.Keeps (s.setReady n r) := s.keeps_withPrf _

theorem State.keeps_showQueue (s : State) : s.Keeps s.showQueue := by
  unfold State.showQueue
  extract_lets _ _ t1
  have ht1 : s.Keeps t1 := s.keeps_setFld _ _ _
  exact ht1.trans (.foldl (fun t _ => t.keeps_setFlag _ _ _) _ _)

theorem State.keeps_queuePass (s : State) (n : Nat) : s.Keeps (s.queuePass n) := by
  unfold State.queuePass
  refine .ite .rfl ?_
  extract_lets t1 _ t2
  have ht1 : s.Keeps t1 := .ite (s.keeps_setFld _ _ _) .rfl
  have ht2 : s.Keeps t2 := .ite ht1 (ht1.trans (t1.keeps_withPrf _))
  exact (ht2.trans (t2.keeps_setReady _ _)).trans (State.keeps_showQueue _)

theorem State.keeps_unqueuePass (s : State) (n : Nat) : s.Keeps (s.unqueuePass n) := by
  unfold State.unqueuePass
  extract_lets t1 _
  have ht1 : s.Keeps t1 := .ite (s.keeps_setFld _ _ _) .rfl
  exact ((ht1.trans (t1.keeps_withPrf _)).trans (State.keeps_setReady _ _ _)).trans (State.keeps_showQueue _)

theorem State.keeps_putPlate (s : State) (off : Nat) (l : List Byte) : s.Keeps (s.putPlate off l) := s.keeps_putBytes _ _

theorem State.keeps_activateBank (s : State) (n : Nat) : s.Keeps (s.activateBank n) := by
  unfold State.activateBank
  extract_lets _ t1 t2 t3 t4
  have ht1 : s.Keeps t1 := s.keeps_setFld _ _ _
  have ht2 : s.Keeps t2 := ht1.trans (t1.keeps_setFld _ _ _)
  have ht3 : s.Keeps t3 := ht2.trans (t2.keeps_setFld _ _ _)
  have ht4 : s.Keeps t4 := ht3.trans (t3.keeps_setFld _ _ _)
  exact ht4.trans (t4.keeps_setReady _ _)

theorem State.keeps_proofSwap (s : State) (n : Nat) : s.Keeps (s.proofSwap n) := by
  unfold State.proofSwap
  extract_lets t1
  have ht1 : s.Keeps t1 := s.keeps_setFlag _ _ _
  refine .ite ht1 ?_
  split
  · exact ht1.trans (t1.keeps_activateBank _)
  · exact ht1
  · exact .ite (ht1.trans (t1.keeps_setFld _ _ _)) ht1

theorem State.keeps_proofBoundary (s : State) (n : Nat) : s.Keeps (s.proofBoundary n) := by
  unfold State.proofBoundary
  extract_lets _ t1
  have ht1 : s.Keeps t1 := s.keeps_withPrf _
  split
  · exact ht1.trans (t1.keeps_activateBank _)
  · exact .ite (ht1.trans (t1.keeps_activateBank _)) ht1
  · exact ht1

end Sys2Proof.Machine
end

section
/-! PROOFS. What the display keep. -/

namespace Sys2Proof.Machine

theorem State.keeps_setOut (s : State) (n : Nat) (o : Output) : s.Keeps (s.setOut n o) := s.keeps_withDisp _

theorem State.keeps_setSlot (s : State) (l : Nat) (x : SlotSt) : s.Keeps (s.setSlot l x) := s.keeps_withDisp _

theorem State.keeps_outEvent (s : State) (n code d0 d1 d2 d3 : Nat) : s.Keeps (s.outEvent n code d0 d1 d2 d3) := by
  unfold State.outEvent
  exact (s.keeps_event _ _ _ _ _ _ _ _).trans (.foldl (fun t _ => t.keeps_event _ _ _ _ _ _ _ _) _ _)

theorem State.keeps_linkEvent (s : State) (n kind : Nat) : s.Keeps (s.linkEvent n kind) :=
  (s.keeps_raise _).trans (State.keeps_outEvent _ _ _ _ _ _ _)

theorem State.keeps_noteChange (s : State) (n : Nat) : s.Keeps (s.noteChange n) := s.keeps_setOut _ _

theorem State.keeps_putTiming (s : State) (n : Nat) (t : Timing) : s.Keeps (s.putTiming n t) := by
  unfold State.putTiming
  extract_lets t1 t2 t3 t4 t5
  have ht1 : s.Keeps t1 := (s.keeps_setFld _ _ _).trans (State.keeps_setFld _ _ _ _)
  have ht2 : s.Keeps t2 := (ht1.trans (t1.keeps_setFld _ _ _)).trans (State.keeps_setFld _ _ _ _)
  have ht3 : s.Keeps t3 := (ht2.trans (t2.keeps_setFld _ _ _)).trans (State.keeps_setFld _ _ _ _)
  have ht4 : s.Keeps t4 := (ht3.trans (t3.keeps_setFld _ _ _)).trans (State.keeps_setFld _ _ _ _)
  have ht5 : s.Keeps t5 := (ht4.trans (t4.keeps_setFld _ _ _)).trans (State.keeps_setFld _ _ _ _)
  exact (ht5.trans (t5.keeps_setFld _ _ _)).trans (State.keeps_setFld _ _ _ _)

theorem State.keeps_chargeSlot (s : State) (l : Nat) (t : Timing) : s.Keeps (s.chargeSlot l t) := by
  unfold State.chargeSlot
  extract_lets _ _
  exact s.keeps_setSlot _ _

theorem State.keeps_rebuffer (s : State) (l : Nat) (t : Timing) : s.Keeps (s.rebuffer l t) := s.keeps_setRg _ _

theorem State.keeps_layerFaultEvent (s : State) (l reason line : Nat) : s.Keeps (s.layerFaultEvent l reason line) := by
  unfold State.layerFaultEvent
  extract_lets _ _ t1
  have ht1 : s.Keeps t1 := s.keeps_raise _
  exact .ite ht1 ((ht1.trans (t1.keeps_setSlot _ _)).trans (State.keeps_event _ _ _ _ _ _ _ _ _))

theorem State.keeps_applySlot (s : State) (l : Nat) : s.Keeps (s.applySlot l) := by
  unfold State.applySlot
  extract_lets _ _ _ _ t1 t2 _ t3 t4 t5 _ t6 t7
  have ht1 : s.Keeps t1 := .ite (s.keeps_chargeSlot _ _) .rfl
  have ht2 : s.Keeps t2 := ht1
  clear_value t1 t2
  have ht3 : s.Keeps t3 := by
    unfold t3
    split
    · exact ((ht2.trans (t2.keeps_setFld _ _ _)).trans (State.keeps_setRg _ _ _)).trans (State.keeps_setRg _ _ _)
    · exact ht2
  have ht4 : s.Keeps t4 := ht3.trans (t3.keeps_setFld _ _ _)
  have ht5 : s.Keeps t5 := ht4.trans (t4.keeps_setFld _ _ _)
  have ht6 : s.Keeps t6 := ht5.trans (t5.keeps_setSlot _ _)
  have ht7 : s.Keeps t7 := ht6.trans t6.keeps_syncIso
  refine .ite (((s.keeps_setFld _ _ _).trans (State.keeps_setFld _ _ _ _)).trans (State.keeps_layerFaultEvent _ _ _ _)) ?_
  split
  · exact ht7.trans (t7.keeps_event _ _ _ _ _ _ _ _)
  · exact (ht7.trans t7.keeps_fresh).trans (State.keeps_event _ _ _ _ _ _ _ _ _)

theorem State.keeps_rechargeOutput (s : State) (n : Nat) (t : Timing) : s.Keeps (s.rechargeOutput n t) := by
  unfold State.rechargeOutput
  refine State.Keeps.trans ?_ (State.keeps_syncIso _)
  refine State.Keeps.trans ?_ (.foldl (fun t a => ?_) _ _)
  · exact .rfl
  · extract_lets _ _ _ t1
    have ht1 : t.Keeps t1 := t.keeps_setSlot _ _
    exact ht1.trans (t1.keeps_rebuffer _ _)

theorem State.keeps_setFrameLock (s : State) (n : Nat) (x : Option Lock) : s.Keeps (s.setFrameLock n x) := s.keeps_withDziv _

theorem State.keeps_lockEvent (s : State) (n what : Nat) (err : ℤ) : s.Keeps (s.lockEvent n what err) :=
  (s.keeps_raise _).trans (State.keeps_eventSM _ _ _ _ _ _ _)

theorem State.keeps_endLock (s : State) (n : Nat) : s.Keeps (s.endLock n) := by
  unfold State.endLock
  split
  · exact .rfl
  · exact ((s.keeps_setFrameLock _ _).trans (State.keeps_setFld _ _ _ _)).trans (State.keeps_lockEvent _ _ _ _)

theorem State.keeps_useTiming (s : State) (n : Nat) (t : Timing) : s.Keeps (s.useTiming n t) := by
  unfold State.useTiming
  extract_lets t1 _
  have ht1 : s.Keeps t1 := .ite .rfl (s.keeps_endLock _)
  exact (ht1.trans (t1.keeps_setOut _ _)).trans (State.keeps_rechargeOutput _ _ _)

theorem State.keeps_applyOutput (s : State) (n : Nat) (atBoundary : Bool) : s.Keeps (s.applyOutput n atBoundary) := by
  unfold State.applyOutput
  extract_lets _ _ t1 t2 _
  have ht1 : s.Keeps t1 := s.keeps_setFld _ _ _
  have ht2 : s.Keeps t2 := ht1.trans (t1.keeps_setOut _ _)
  exact .ite (ht2.trans (t2.keeps_setOut _ _)) (.ite (.ite (ht2.trans (t2.keeps_useTiming _ _)) (ht2.trans (t2.keeps_setOut _ _))) (ht2.trans
      (t2.keeps_outEvent _ _ _ _ _ _)))

theorem State.keeps_applyAll (s : State) (n : Nat) (atBoundary : Bool) : s.Keeps (s.applyAll n atBoundary) := by
  unfold State.applyAll
  extract_lets _ _ t1 t2
  have ht1 : s.Keeps t1 := .foldl (fun t _ => t.keeps_applySlot _) _ _
  have ht2 : s.Keeps t2 := .ite (ht1.trans (t1.keeps_applyOutput _ _)) ht1
  exact .ite .rfl ((ht2.trans (t2.keeps_noteChange _)).trans (State.keeps_raise _ _))

theorem keeps_execApplyArm (who : Who) (n : Nat) (v : Word) (s : State) : s.Continues (execApplyArm who n v s) := by
  unfold execApplyArm
  refine .ite (.next (s.keeps_refuseGated _ _)) ?_
  refine .ite ?_ ?_
  · extract_lets t1
    have ht1 : s.Keeps t1 := s.keeps_setFld _ _ _
    exact .next (.ite (ht1.trans (t1.keeps_setFld _ _ _)) ht1)
  · exact .next .rfl

theorem keeps_execLayerArm (who : Who) (l : Nat) (v : Word) (s : State) : s.Continues (execLayerArm who l v s) := by
  unfold execLayerArm
  refine .ite (.next (s.keeps_refuseGated _ _)) ?_
  refine .ite ?_ ?_
  · extract_lets _ _ t1 _ _
    have ht1 : s.Keeps t1 := s.keeps_setRg _ _
    refine .ite (.next ((ht1.trans (t1.keeps_setFld _ _ _)).trans (State.keeps_setSlot _ _ _))) ?_
    exact .next (ht1.trans (t1.keeps_setSlot _ _))
  · exact .next .rfl

theorem State.keeps_noteLayerWrite (s : State) (who : Who) (l : Nat) : s.Keeps (s.noteLayerWrite who l) := .ite (s.keeps_setSlot _ _) .rfl

theorem State.keeps_freeSlot (s : State) (l : Nat) (tell : Bool) : s.Keeps (s.freeSlot l tell) := by
  unfold State.freeSlot
  extract_lets _ _ t1 t2
  have ht1 : s.Keeps t1 := .foldl (fun t _ => t.keeps_setRg _ _) _ _
  have ht2 : s.Keeps t2 := (ht1.trans (t1.keeps_setSlot _ _)).trans (State.keeps_syncIso _)
  exact .ite (ht2.trans (t2.keeps_event _ _ _ _ _ _ _ _)) ht2

theorem keeps_execLayerAssign (k : Nat) (s : State) : s.Continues (execLayerAssign k s) := by
  unfold execLayerAssign
  split
  · exact .next .rfl
  · extract_lets _ _ _ _ _ _ _ _ _
    refine .ite (.next (s.keeps_endOp _ _ _ _ _ _)) ?_
    refine .ite (.next (s.keeps_endOp _ _ _ _ _ _)) ?_
    refine .ite (.next (s.keeps_endOp _ _ _ _ _ _)) ?_
    refine .ite (.next (s.keeps_endOp _ _ _ _ _ _)) ?_
    refine .ite (.next (s.keeps_endOp _ _ _ _ _ _)) ?_
    refine .ite (.next (s.keeps_endOp _ _ _ _ _ _)) ?_
    refine .ite (.next ((s.keeps_setSlot _ _).trans (State.keeps_endOp _ _ _ _ _ _ _))) ?_
    split
    · exact .next (s.keeps_endOp _ _ _ _ _ _)
    · extract_lets t1 t2 t3 t4
      have ht1 : s.Keeps t1 := s.keeps_setRg _ _
      have ht2 : s.Keeps t2 := (ht1.trans (t1.keeps_setFld _ _ _)).trans (State.keeps_setFld _ _ _ _)
      have ht3 : s.Keeps t3 := (ht2.trans (t2.keeps_setRg _ _)).trans (State.keeps_setRg _ _ _)
      have ht4 : s.Keeps t4 := ht3.trans (t3.keeps_setSlot _ _)
      exact .next ((ht4.trans (t4.keeps_setFld _ _ _)).trans (State.keeps_endOp _ _ _ _ _ _ _))

theorem keeps_execLayerUnassign (k : Nat) (s : State) : s.Continues (execLayerUnassign k s) := by
  unfold execLayerUnassign
  split
  · exact .next .rfl
  · extract_lets _ _
    refine .ite (.next (s.keeps_endOp _ _ _ _ _ _)) ?_
    refine .ite (.next ((s.keeps_freeSlot _ _).trans (State.keeps_endOp _ _ _ _ _ _ _))) ?_
    exact .next ((s.keeps_setSlot _ _).trans (State.keeps_endOp _ _ _ _ _ _ _))

theorem State.keeps_armBy (s : State) (l tag : Nat) : s.Keeps (s.armBy l tag) := by
  unfold State.armBy
  extract_lets _ _
  exact (s.keeps_setFld _ _ _).trans (State.keeps_setSlot _ _ _)

theorem State.keeps_put32 (s : State) (a v : Nat) : s.Keeps (s.put32 a v) := s.keeps_setRg _ _

theorem State.keeps_writeLayer (s : State) (p : Started) (l : Nat) : s.Keeps (s.writeLayer p l) := by
  unfold State.writeLayer
  extract_lets _ _ _ _ t1 t2 t3 t4 t5 t6 t7 _ t8
  have ht1 : s.Keeps t1 := s.keeps_put32 _ _
  have ht2 : s.Keeps t2 := (ht1.trans (t1.keeps_put32 _ _)).trans (State.keeps_put32 _ _ _)
  have ht3 : s.Keeps t3 := (ht2.trans (t2.keeps_put32 _ _)).trans (State.keeps_put32 _ _ _)
  have ht4 : s.Keeps t4 := ht3.trans (t3.keeps_put32 _ _)
  have ht5 : s.Keeps t5 := (ht4.trans (t4.keeps_put32 _ _)).trans (State.keeps_put32 _ _ _)
  have ht6 : s.Keeps t6 := (ht5.trans (t5.keeps_put32 _ _)).trans (State.keeps_put32 _ _ _)
  have ht7 : s.Keeps t7 := ht6.trans (t6.keeps_put32 _ _)
  have ht8 : s.Keeps t8 := ht7.trans (t7.keeps_setSlot _ _)
  exact ((ht8.trans (t8.keeps_rebuffer _ _)).trans (State.keeps_armBy _ _ _)).trans (State.keeps_chargeSlot _ _ _)

theorem keeps_execLayerSet (k : Nat) (s : State) : s.Continues (execLayerSet k s) := by
  unfold execLayerSet
  split
  · exact .next .rfl
  · extract_lets _ _ _ t1 _
    have ht1 : s.Keeps t1 := s.keeps_writeLayer _ _
    split
    · exact .next (s.keeps_endOp _ _ _ _ _ _)
    · refine .ite (.next (s.keeps_endOp _ _ _ _ _ _)) ?_
      refine .ite (.next (s.keeps_endOp _ _ _ _ _ _)) ?_
      refine .ite (.next (s.keeps_endOp _ _ _ _ _ _)) ?_
      exact .next ((ht1.trans t1.keeps_syncIso).trans (State.keeps_endOp _ _ _ _ _ _ _))

theorem State.keeps_writeFlip (s : State) (p : Started) (ents : List Nat) : s.Keeps (s.writeFlip p ents) := by
  unfold State.writeFlip
  refine State.Keeps.trans ?_ (.foldl (fun t a => ?_) _ _)
  · exact .rfl
  · extract_lets _ t1 t2
    have ht1 : t.Keeps t1 := (t.keeps_put32 _ _).trans (State.keeps_put32 _ _ _)
    have ht2 : t.Keeps t2 := (ht1.trans (t1.keeps_put32 _ _)).trans (State.keeps_put32 _ _ _)
    exact (ht2.trans (t2.keeps_armBy _ _)).trans (State.keeps_chargeSlot _ _ _)

theorem keeps_execFlip (k : Nat) (s : State) : s.Continues (execFlip k s) := by
  unfold execFlip
  split
  · exact .next .rfl
  · extract_lets _ t1
    have ht1 : s.Keeps t1 := s.keeps_writeFlip _ _
    split
    · exact .next (s.keeps_endOp _ _ _ _ _ _)
    · split
      · exact .next (s.keeps_endOp _ _ _ _ _ _)
      · refine .ite (.next ((ht1.trans t1.keeps_syncIso).trans (State.keeps_endOp _ _ _ _ _ _ _))) ?_
        exact .next (s.keeps_endOp _ _ _ _ _ _)

theorem keeps_execPaletteSet (k : Nat) (s : State) : s.Continues (execPaletteSet k s) := by
  unfold execPaletteSet
  split
  · exact .next .rfl
  · extract_lets _
    split
    · exact .next (s.keeps_endOp _ _ _ _ _ _)
    · split
      · rename_i t1 heq2
        have ht1 : s.Keeps t1 := .of_pair heq2 (s.keeps_unitRead _ _ _)
        exact .next (ht1.trans (t1.keeps_endOp _ _ _ _ _ _))
      · rename_i t3 heq4
        have ht3 : s.Keeps t3 := .of_pair heq4 (s.keeps_unitRead _ _ _)
        exact .next (ht3.trans (t3.keeps_endOp _ _ _ _ _ _))
      · rename_i t5 _ _ heq6
        have ht5 : s.Keeps t5 := .of_pair heq6 (s.keeps_unitRead _ _ _)
        exact .next (ht5.trans (t5.keeps_endOp _ _ _ _ _ _))
      · rename_i t7 heq8
        have ht7 : s.Keeps t7 := .of_pair heq8 (s.keeps_unitRead _ _ _)
        extract_lets _ t9
        have ht9 : s.Keeps t9 := ht7.trans (t7.keeps_setSlot _ _)
        exact .next ((ht9.trans (t9.keeps_armBy _ _)).trans (State.keeps_endOp _ _ _ _ _ _ _))

theorem keeps_execLayerFetchFault (l reason line : Nat) (s : State) : s.Continues (execLayerFetchFault l reason line s) := by
  unfold execLayerFetchFault
  refine .ite ?_ ?_
  · extract_lets t1 t2 _ t3
    have ht1 : s.Keeps t1 := s.keeps_setFld _ _ _
    have ht2 : s.Keeps t2 := .ite (ht1.trans (t1.keeps_setFld _ _ _)) ht1
    have ht3 : s.Keeps t3 := .ite ((ht2.trans (t2.keeps_setSlot _ _)).trans (State.keeps_syncIso _)) ht2
    exact .next (ht3.trans (t3.keeps_layerFaultEvent _ _ _))
  · exact .next .rfl

theorem keeps_execLayerUnderrun (l line : Nat) (s : State) : s.Continues (execLayerUnderrun l line s) := by
  unfold execLayerUnderrun
  refine .ite ?_ ?_
  · extract_lets _ t1 t2
    have ht1 : s.Keeps t1 := s.keeps_satInc _ _ _
    have ht2 : s.Keeps t2 := ht1.trans (t1.keeps_setSlot _ _)
    exact .next (ht2.trans (t2.keeps_raise _))
  · exact .next .rfl

theorem State.keeps_startTraining (s : State) (n : Nat) : s.Keeps (s.startTraining n) := by
  unfold State.startTraining
  extract_lets t1 _ _
  have ht1 : s.Keeps t1 := s.keeps_setFld _ _ _
  exact .ite ((ht1.trans (t1.keeps_setFld _ _ _)).trans (State.keeps_setOut _ _ _)) (ht1.trans (t1.keeps_setOut _ _))

theorem keeps_execDptxTrain (who : Who) (n : Nat) (v : Word) (s : State) : s.Continues (execDptxTrain who n v s) := by
  unfold execDptxTrain
  refine .ite (.next (s.keeps_refuseGated _ _)) ?_
  refine .ite (.next .rfl) ?_
  refine .ite (.next (.ite (s.keeps_setFld _ _ _) .rfl)) ?_
  extract_lets t1
  have ht1 : s.Keeps t1 := .ite (s.keeps_setRg _ _) .rfl
  exact .next (.ite (ht1.trans (t1.keeps_startTraining _)) ht1)

theorem State.keeps_linkTrained (s : State) (n : Nat) : s.Keeps (s.linkTrained n) := by
  unfold State.linkTrained
  extract_lets _ _ t1 t2 _
  have ht1 : s.Keeps t1 := (s.keeps_setFld _ _ _).trans (State.keeps_setFld _ _ _ _)
  have ht2 : s.Keeps t2 := (ht1.trans (t1.keeps_setFld _ _ _)).trans (State.keeps_setFld _ _ _ _)
  exact ht2.trans (t2.keeps_setOut _ _)

theorem keeps_execTrainingAttemptEnd (n : Nat) (ok : Bool) (s : State) : s.Continues (execTrainingAttemptEnd n ok s) := by
  unfold execTrainingAttemptEnd
  extract_lets _
  split
  · exact .next .rfl
  · refine .ite (.next ((s.keeps_linkTrained _).trans (State.keeps_linkEvent _ _ _))) ?_
    extract_lets t1
    have ht1 : s.Keeps t1 := s.keeps_setFld _ _ _
    refine .ite (.next ((ht1.trans (t1.keeps_setOut _ _)).trans (State.keeps_linkEvent _ _ _))) ?_
    exact .next (ht1.trans (t1.keeps_setOut _ _))

theorem keeps_execHpdUnplug (n : Nat) (s : State) : s.Continues (execHpdUnplug n s) := by
  unfold execHpdUnplug
  refine .ite ?_ ?_
  · extract_lets t1 _
    have ht1 : s.Keeps t1 := ((s.keeps_setFld _ _ _).trans (State.keeps_setFld _ _ _ _)).trans (State.keeps_setFld _ _ _ _)
    exact .next ((ht1.trans (t1.keeps_setOut _ _)).trans (State.keeps_linkEvent _ _ _))
  · exact .next .rfl

theorem keeps_execHpdPlug (n : Nat) (s : State) : s.Continues (execHpdPlug n s) := by
  unfold execHpdPlug
  refine .ite (.next .rfl) ?_
  exact .next (((s.keeps_setFld _ _ _).trans (State.keeps_linkEvent _ _ _)).trans (State.keeps_startTraining _ _))

theorem keeps_execIrqHpd (n : Nat) (lost : Bool) (s : State) : s.Continues (execIrqHpd n lost s) := by
  unfold execIrqHpd
  refine .ite ?_ ?_
  · extract_lets t1
    have ht1 : s.Keeps t1 := (s.keeps_setFld _ _ _).trans (State.keeps_linkEvent _ _ _)
    refine .ite (.next ((((ht1.trans (t1.keeps_setFld _ _ _)).trans (State.keeps_setFld _ _ _ _)).trans (State.keeps_linkEvent _ _ _)).trans
        (State.keeps_startTraining _ _))) ?_
    exact .next ht1
  · exact .next .rfl

theorem State.keeps_unstall (s : State) (n : Nat) : s.Keeps (s.unstall n) := .ite (s.keeps_withFlt _) .rfl

theorem State.keeps_startOutput (s : State) (n : Nat) : s.Keeps (s.startOutput n) := by
  unfold State.startOutput
  extract_lets t1 t2 t3 _
  have ht1 : s.Keeps t1 := s.keeps_setFld _ _ _
  have ht2 : s.Keeps t2 := (ht1.trans (t1.keeps_setFld _ _ _)).trans (State.keeps_setFld _ _ _ _)
  have ht3 : s.Keeps t3 := (ht2.trans (t2.keeps_setFld _ _ _)).trans (State.keeps_unstall _ _)
  exact ht3.trans (t3.keeps_setOut _ _)

theorem State.keeps_modePass (s : State) (n : Nat) (m : Mode) (old : State) : s.Keeps (s.modePass n m old) := by
  unfold State.modePass
  extract_lets _
  exact .ite (s.keeps_queuePass _) .rfl

theorem State.keeps_enterMode (s : State) (n : Nat) (m : Mode) : s.Keeps (s.enterMode n m) := by
  unfold State.enterMode
  extract_lets _ _ t1 t2 t3 _ t4 _
  have ht1 : s.Keeps t1 := .rfl
  have ht2 : s.Keeps t2 := (s.keeps_putTiming _ _).trans (State.keeps_setRg _ _ _)
  have ht3 : s.Keeps t3 := (ht2.trans (t2.keeps_useTiming _ _)).trans (State.keeps_modePass _ _ _ _)
  have ht4 : s.Keeps t4 := (ht3.trans (t3.keeps_setOut _ _)).trans (State.keeps_noteChange _ _)
  exact .ite ((ht4.trans (t4.keeps_setOut _ _)).trans (State.keeps_outEvent _ _ _ _ _ _ _)) ((ht4.trans (t4.keeps_setOut _ _)).trans
      (State.keeps_startTraining _ _))

theorem State.keeps_acceptMode (s : State) (n : Nat) (m : Mode) : s.Keeps (s.acceptMode n m) := by
  unfold State.acceptMode
  refine .ite (.ite (s.keeps_setOut _ _) .rfl) ?_
  refine .ite (s.keeps_setOut _ _) ?_
  extract_lets _ _ t1 t2 t3 _
  have ht1 : s.Keeps t1 := .rfl
  have ht2 : s.Keeps t2 := (s.keeps_putTiming _ _).trans (State.keeps_setRg _ _ _)
  have ht3 : s.Keeps t3 := ((ht2.trans (t2.keeps_useTiming _ _)).trans (State.keeps_modePass _ _ _ _)).trans (State.keeps_startOutput _ _)
  exact .ite (ht3.trans (t3.keeps_setOut _ _)) ((ht3.trans (t3.keeps_setOut _ _)).trans (State.keeps_startTraining _ _))

theorem State.keeps_refuseHeld (s : State) (n why : Nat) : s.Keeps (s.refuseHeld n why) := by
  unfold State.refuseHeld
  split
  · exact .rfl
  · exact (s.keeps_setOut _ _).trans (State.keeps_outEvent _ _ _ _ _ _ _)

theorem State.keeps_holdMode (s : State) (n : Nat) (p : Started) (m : Mode) : s.Keeps (s.holdMode n p m) := by
  unfold State.holdMode
  extract_lets _ t1 _ t2 _ t3 _
  have ht1 : s.Keeps t1 := (s.keeps_setOut _ _).trans (State.keeps_raise _ _)
  have ht2 : s.Keeps t2 := ht1.trans t1.keeps_fresh
  have ht3 : s.Keeps t3 := ht2.trans t2.keeps_fresh
  exact .ite ((ht3.trans t3.keeps_fresh).trans (State.keeps_event _ _ _ _ _ _ _ _ _)) (ht1.trans (t1.keeps_event _ _ _ _ _ _ _ _))

theorem keeps_execModeSet (k : Nat) (s : State) : s.Continues (execModeSet k s) := by
  have hend : ∀ st r0 r1 r2 r3, s.Continues (.next (s.endOp k st r0 r1 r2 r3)) := fun _ _ _ _ _ => .next (s.keeps_endOp _ _ _ _ _ _)
  unfold execModeSet
  split
  · exact .next .rfl
  · extract_lets n m bad
    refine .ite (hend _ _ _ _ _) ?_
    cases bad with
    | some o => exact hend _ _ _ _ _
    | none =>
      refine .ite (hend _ _ _ _ _) (.ite (hend _ _ _ _ _) (.ite (hend _ _ _ _ _) (.ite (.next ?_) (.next ?_))))
      · exact ((s.keeps_refuseHeld _ _).trans (State.keeps_holdMode _ _ _ _)).trans (State.keeps_endOp _ _ _ _ _ _ _)
      · exact ((s.keeps_refuseHeld _ _).trans (State.keeps_acceptMode _ _ _)).trans (State.keeps_endOp _ _ _ _ _ _ _)

theorem keeps_execOutputQuery (k : Nat) (s : State) : s.Continues (execOutputQuery k s) := by
  unfold execOutputQuery
  split
  · exact .next .rfl
  · extract_lets _ _ _
    refine .ite (.next (s.keeps_endOp _ _ _ _ _ _)) ?_
    exact .next (s.keeps_endOp _ _ _ _ _ _)

theorem keeps_execAuxXfer (k : Nat) (reply : AuxReply) (s : State) : s.Continues (execAuxXfer k reply s) := by
  unfold execAuxXfer
  split
  · exact .next .rfl
  · refine .ite (.next .rfl) ?_
    split
    · extract_lets _
      exact .next (s.keeps_endOp _ _ _ _ _ _)
    · exact .next (s.keeps_endOp _ _ _ _ _ _)
    · exact .next (s.keeps_endOp _ _ _ _ _ _)
    · exact .next (s.keeps_endOp _ _ _ _ _ _)

theorem State.keeps_endFrameSlots (s : State) (n : Nat) : s.Keeps (s.endFrameSlots n) := by
  unfold State.endFrameSlots
  refine State.Keeps.trans ?_ (.foldl (fun t a => ?_) _ _)
  · exact .rfl
  · extract_lets _ t1 _
    have ht1 : t.Keeps t1 := .ite (t.keeps_event _ _ _ _ _ _ _ _) .rfl
    exact ht1.trans (t1.keeps_setSlot _ _)

theorem State.keeps_releaseSlots (s : State) (n : Nat) : s.Keeps (s.releaseSlots n) := by
  unfold State.releaseSlots
  exact .foldl (fun t _ => .ite (t.keeps_freeSlot _ _) .rfl) _ _

theorem State.keeps_boundarySettings (s : State) (n : Nat) : s.Keeps (s.boundarySettings n) := by
  unfold State.boundarySettings
  extract_lets _ t1 _ _ _ t2 t3 _ _ t4
  have ht1 : s.Keeps t1 := by
    unfold t1
    split
    · exact s.keeps_useTiming _ _
    · exact .rfl
  have ht2 : s.Keeps t2 := .ite ((ht1.trans (t1.keeps_setOut _ _)).trans (State.keeps_noteChange _ _)) ht1
  have ht3 : s.Keeps t3 := ht2.trans (t2.keeps_setFld _ _ _)
  have ht4 : s.Keeps t4 := ht2.trans (t2.keeps_setOut _ _)
  split
  · exact .ite (ht3.trans (t3.keeps_setOut _ _)) (ht2.trans (t2.keeps_enterMode _ _))
  · refine .ite ?_ ht2
    split
    · exact ht4.trans (t4.keeps_outEvent _ _ _ _ _ _)
    · exact ht4

theorem State.keeps_countIdle (s : State) (n : Nat) : s.Keeps (s.countIdle n) := by
  unfold State.countIdle
  extract_lets _
  exact s.keeps_setOut _ _

theorem State.keeps_chooseStretch (s : State) (n : Nat) : s.Keeps (s.chooseStretch n) := by
  unfold State.chooseStretch
  extract_lets _ _
  exact s.keeps_setFlag _ _ _

end Sys2Proof.Machine
end

section
/-! PROOFS. What the etched layers keep. -/

namespace Sys2Proof.Machine

theorem State.keeps_lockPages (s : State) (pages : List Nat) (up : Bool) : s.Keeps (s.lockPages pages up) := by
  unfold State.lockPages
  refine State.Keeps.trans ?_ (.foldl (fun t a => ?_) _ _)
  · exact .rfl
  · extract_lets _ _
    exact t.keeps_withEtch _

theorem State.keeps_releaseList (s : State) (j : Nat) (x : EtchList) : s.Keeps (s.releaseList j x) :=
  (s.keeps_lockPages _ _).trans (State.keeps_event _ _ _ _ _ _ _ _ _)

theorem keeps_execListRelease (i : Nat) (s : State) : s.Continues (execListRelease i s) := by
  unfold execListRelease
  split
  · exact .next .rfl
  · exact .next ((s.keeps_withEtch _).trans (State.keeps_releaseList _ _ _))

theorem State.keeps_setLive (s : State) (j : Nat) (x : Option EtchList) : s.Keeps (s.setLive j x) := by
  unfold State.setLive
  extract_lets _ t1 t2 _
  have ht1 : s.Keeps t1 := s.keeps_withEtch _
  have ht2 : s.Keeps t2 := ht1.trans (t1.keeps_setRg _ _)
  exact ht2.trans (t2.keeps_setFld _ _ _)

theorem State.keeps_setPend (s : State) (j : Nat) (held : Bool) (x : Option EtchList) : s.Keeps (s.setPend j held x) := by
  unfold State.setPend
  extract_lets _ t1 t2 _
  have ht1 : s.Keeps t1 := s.keeps_withEtch _
  have ht2 : s.Keeps t2 := ht1.trans (t1.keeps_setRg _ _)
  exact ht2.trans (t2.keeps_setFld _ _ _)

theorem State.keeps_showPeaks (s : State) (n : Nat) : s.Keeps (s.showPeaks n) := by
  unfold State.showPeaks
  extract_lets _
  exact ((s.keeps_setFld _ _ _).trans (State.keeps_setFld _ _ _ _)).trans (State.keeps_setFld _ _ _ _)

theorem State.keeps_makePending (s : State) (j : Nat) (x : Option EtchList) : s.Keeps (s.makePending j x) := by
  unfold State.makePending
  extract_lets old t
  have h1 : s.Keeps t := s.keeps_setPend _ _ _
  clear_value old t
  cases old with
  | some l => exact h1.trans (t.keeps_releaseList _ _)
  | none => exact h1

theorem State.keeps_armSwap (s : State) (n tag : Nat) : s.Keeps (s.armSwap n tag) := by
  unfold State.armSwap
  refine .ite .rfl ?_
  extract_lets t1 _
  have ht1 : s.Keeps t1 := s.keeps_setFld _ _ _
  exact ht1.trans (t1.keeps_withEtch _)

theorem State.keeps_retireLive (s : State) (j : Nat) : s.Keeps (s.retireLive j) := by
  unfold State.retireLive
  split
  · exact .rfl
  · extract_lets t1 _
    have ht1 : s.Keeps t1 := s.keeps_setLive _ _
    exact ht1.trans (t1.keeps_withEtch _)

theorem State.keeps_swapLayer (s : State) (j : Nat) : s.Keeps (s.swapLayer j) := by
  unfold State.swapLayer
  extract_lets _ t1 _
  have ht1 : s.Keeps t1 := .ite (s.keeps_withEtch _) .rfl
  refine .ite (((ht1.trans (t1.keeps_retireLive _)).trans (State.keeps_setLive _ _ _)).trans (State.keeps_setPend _ _ _ _)) ?_
  split
  · exact .ite (ht1.trans (t1.keeps_retireLive _)) ht1
  · exact ht1

theorem State.keeps_swapOutput (s : State) (n : Nat) : s.Keeps (s.swapOutput n) := by
  unfold State.swapOutput
  extract_lets _ _ t1 t2 _ t3 t4 t5 t6
  have ht1 : s.Keeps t1 := .foldl (fun t _ => t.keeps_swapLayer _) _ _
  have ht2 : s.Keeps t2 := (ht1.trans (t1.keeps_setFld _ _ _)).trans (State.keeps_setFld _ _ _ _)
  have ht3 : s.Keeps t3 := ht2.trans (t2.keeps_withEtch _)
  have ht4 : s.Keeps t4 := ht3.trans (t3.keeps_setFld _ _ _)
  have ht5 : s.Keeps t5 := .ite (ht4.trans (t4.keeps_showPeaks _)) ht4
  have ht6 : s.Keeps t6 := ((ht5.trans (t5.keeps_proofSwap _)).trans (State.keeps_noteChange _ _)).trans (State.keeps_raise _ _)
  exact ht6.trans (t6.keeps_event _ _ _ _ _ _ _ _)

theorem State.keeps_swapIfArmed (s : State) (n : Nat) : s.Keeps (s.swapIfArmed n) := .ite (s.keeps_swapOutput _) .rfl

theorem keeps_execApplyLine (n : Nat) (s : State) : s.Continues (execApplyLine n s) := by
  unfold execApplyLine
  refine .ite (.next .rfl) ?_
  extract_lets _ _ t1 _
  have ht1 : s.Keeps t1 := (s.keeps_applyAll _ _).trans (State.keeps_swapIfArmed _ _)
  refine .ite (.next (ht1.trans (t1.keeps_setOut _ _))) ?_
  refine .ite (.next .rfl) ?_
  exact .next (s.keeps_applyAll _ _)

theorem keeps_execListLoad (k : Nat) (s : State) : s.Continues (execListLoad k s) := by
  unfold execListLoad
  split
  · exact .next .rfl
  · refine .ite (.next .rfl) ?_
    exact .next (s.keeps_withEtch _)

theorem keeps_execListUnload (k : Nat) (s : State) : s.Continues (execListUnload k s) := by
  unfold execListUnload
  split
  · exact .next .rfl
  · refine .ite (.next (s.keeps_endOp _ _ _ _ _ _)) ?_
    refine .ite (.next .rfl) ?_
    exact .next (s.keeps_withEtch _)

theorem State.keeps_listAccepted (s : State) (k n : Nat) (p : Started) : s.Keeps (s.listAccepted k n p) := by
  unfold State.listAccepted
  extract_lets t1 _
  have ht1 : s.Keeps t1 := (s.keeps_showPeaks _).trans (State.keeps_queuePass _ _)
  exact .ite ((ht1.trans (t1.keeps_armSwap _ _)).trans (State.keeps_endOp _ _ _ _ _ _ _)) (ht1.trans (t1.keeps_endOp _ _ _ _ _ _))

theorem State.keeps_checkLoad (s : State) (k : Nat) (p : Started) : s.Keeps (s.checkLoad k p) := by
  unfold State.checkLoad
  extract_lets _ _ _ _ _
  split
  · exact s.keeps_endOp _ _ _ _ _ _
  · exact ((s.keeps_lockPages _ _).trans (State.keeps_makePending _ _ _)).trans (State.keeps_listAccepted _ _ _ _)

theorem keeps_execListCheckDone (s : State) : s.Continues (execListCheckDone s) := by
  unfold execListCheckDone
  split
  · exact .next .rfl
  · extract_lets _ t1
    have ht1 : s.Keeps t1 := s.keeps_withEtch _
    split
    · exact .next (ht1.trans (t1.keeps_checkLoad _ _))
    · split
      · extract_lets _ t2
        have ht2 : s.Keeps t2 := ht1.trans (.foldl (fun t _ => .ite (t.keeps_makePending _ _) .rfl) _ _)
        exact .next (ht2.trans (t2.keeps_listAccepted _ _ _))
      · exact .next ht1

theorem keeps_execSwap (k : Nat) (s : State) : s.Continues (execSwap k s) := by
  unfold execSwap
  split
  · exact .next .rfl
  · extract_lets _ t1
    have ht1 : s.Keeps t1 := .foldl (fun t _ => t.keeps_armSwap _ _) _ _
    exact .next (ht1.trans (t1.keeps_endOp _ _ _ _ _ _))

theorem keeps_execBlinkSet (k : Nat) (s : State) : s.Continues (execBlinkSet k s) := by
  unfold execBlinkSet
  split
  · exact .next .rfl
  · extract_lets _ _ t1
    have ht1 : s.Keeps t1 := .foldl (fun t _ => .ite (t.keeps_withEtch _) .rfl) _ _
    exact .next (ht1.trans (t1.keeps_endOp _ _ _ _ _ _))

theorem keeps_execModeDecide (k : Nat) (s : State) : s.Continues (execModeDecide k s) := by
  unfold execModeDecide
  split
  · exact .next .rfl
  · extract_lets _ _
    split
    · exact .next (s.keeps_endOp _ _ _ _ _ _)
    · refine .ite (.next (((s.keeps_setOut _ _).trans (State.keeps_acceptMode _ _ _)).trans (State.keeps_endOp _ _ _ _ _ _ _))) ?_
      exact .next ((s.keeps_refuseHeld _ _).trans (State.keeps_endOp _ _ _ _ _ _ _))

theorem keeps_execEtchQuery (k : Nat) (s : State) : s.Continues (execEtchQuery k s) := by
  unfold execEtchQuery
  split
  · exact .next .rfl
  · extract_lets _ _
    exact .next (s.keeps_endOp _ _ _ _ _ _)

theorem keeps_execPlateLockedWrite (who : Who) (addr : Nat) (s : State) : s.Continues (execPlateLockedWrite who addr s) := by
  unfold execPlateLockedWrite
  refine .ite (.next .rfl) ?_
  refine .ite (.next ((s.keeps_recordBus _ _ _ _).trans (State.keeps_answer _ _))) ?_
  refine .ite (.next (((s.keeps_refusePlate _ _).trans (State.keeps_flushPlate _)).trans (State.keeps_answer _ _))) ?_
  exact .next .rfl

theorem State.keeps_latchBlink (s : State) (n : Nat) : s.Keeps (s.latchBlink n) := by
  unfold State.latchBlink
  extract_lets t1 _
  have ht1 : s.Keeps t1 := by
    unfold t1
    refine State.Keeps.trans ?_ (.foldl (fun t a => ?_) _ _)
    · exact .rfl
    · split
      · exact .rfl
      · extract_lets _ t2
        have ht2 : t.Keeps t2 := t.keeps_withEtch _
        exact ht2.trans (t2.keeps_setFld _ _ _)
  exact ht1.trans (t1.keeps_setFld _ _ _)

theorem keeps_execBlinkPhaseChange (n c : Nat) (s : State) : s.Continues (execBlinkPhaseChange n c s) := by
  unfold execBlinkPhaseChange
  refine .ite ?_ ?_
  · extract_lets t1 _
    have ht1 : s.Keeps t1 := s.keeps_noteChange _
    exact .next (.ite (ht1.trans (t1.keeps_setOut _ _)) ht1)
  · exact .next .rfl

end Sys2Proof.Machine
end

section
/-! PROOFS. What the haptic bridges keep. -/

namespace Sys2Proof.Machine

theorem State.keeps_actEvent (s : State) (a code d0 d1 d2 : Nat) : s.Keeps (s.actEvent a code d0 d1 d2) := by
  unfold State.actEvent
  extract_lets t1 t2
  have ht1 : s.Keeps t1 := s.keeps_event _ _ _ _ _ _ _ _
  clear_value t1
  have ht2 : s.Keeps t2 := by
    unfold t2
    split
    · exact ht1.trans (t1.keeps_event _ _ _ _ _ _ _ _)
    · exact ht1
  exact .ite (ht2.trans (t2.keeps_event _ _ _ _ _ _ _ _)) ht2

theorem State.keeps_actFault (s : State) (a kind value : Nat) : s.Keeps (s.actFault a kind value) := by
  unfold State.actFault
  extract_lets t1 t2 _ t3 t4
  have ht1 : s.Keeps t1 := s.keeps_actWear _
  clear_value t1
  have ht2 : s.Keeps t2 := by
    unfold t2
    split
    · exact (ht1.trans (t1.keeps_doneEvent _ _ _)).trans (State.keeps_actEvent _ _ _ _ _ _)
    · exact ht1.trans (t1.keeps_actEvent _ _ _ _ _)
  have ht3 : s.Keeps t3 := ht2.trans (t2.keeps_setAct _ _)
  have ht4 : s.Keeps t4 := (ht3.trans (t3.keeps_setFld _ _ _)).trans (State.keeps_actIdle _ _ _)
  exact (ht4.trans (t4.keeps_raise _)).trans (State.keeps_fault _ _ _ _)

theorem keeps_execHapTrigEdge (j : Nat) (rising : Bool) (s : State) : s.Continues (execHapTrigEdge j rising s) := by
  unfold execHapTrigEdge
  extract_lets _ _ _
  refine .ite (.next (s.keeps_trigger _ _ _ _)) ?_
  exact .next .rfl

theorem keeps_execHapticZoneTrigger (z : Nat) (s : State) : s.Continues (execHapticZoneTrigger z s) := by
  unfold execHapticZoneTrigger
  split
  · exact .next .rfl
  · extract_lets _ t1
    have ht1 : s.Keeps t1 := s.keeps_withTouch _
    exact .next (.ite (ht1.trans (t1.keeps_trigger _ _ _ _)) ht1)

theorem State.keeps_learned (s : State) (a : Nat) (l : Learn) : s.Keeps (s.learned a l) := by
  unfold State.learned
  extract_lets _ t1 t2
  have ht1 : s.Keeps t1 := .ite s.keeps_fresh .rfl
  have ht2 : s.Keeps t2 := ((ht1.trans (t1.keeps_setFld _ _ _)).trans (State.keeps_setFld _ _ _ _)).trans (State.keeps_setFld _ _ _ _)
  exact .ite (ht1.trans (t1.keeps_folioWrite _)) (ht2.trans (t2.keeps_actEvent _ _ _ _ _))

theorem State.keeps_wearReset (s : State) (a r b seq : Nat) : s.Keeps (s.wearReset a r b seq) := by
  unfold State.wearReset
  extract_lets t1 _ _ t2 _ t3 t4
  have ht1 : s.Keeps t1 := s.keeps_actWear _
  have ht2 : s.Keeps t2 := ((ht1.trans (t1.keeps_setFld _ _ _)).trans (State.keeps_setFld _ _ _ _)).trans (State.keeps_setFld _ _ _ _)
  have ht3 : s.Keeps t3 := ht2.trans (t2.keeps_setAct _ _)
  have ht4 : s.Keeps t4 := ((ht3.trans (t3.keeps_setFld _ _ _)).trans (State.keeps_setFld _ _ _ _)).trans (State.keeps_setFld _ _ _ _)
  exact (ht4.trans (t4.keeps_actEvent _ _ _ _ _)).trans (State.keeps_actEvent _ _ _ _ _ _)

theorem keeps_execSegmentEnd (a : Nat) (s : State) : s.Continues (execSegmentEnd a s) := by
  unfold execSegmentEnd
  split
  · exact .next .rfl
  · extract_lets t l _ t2 t3
    have h1 : s.Keeps t := s.keeps_actWear _
    have h3 : s.Keeps t3 := ((h1.trans (t.keeps_doneEvent _ _ _)).trans (State.keeps_setAct _ _ _)).trans (State.keeps_actIdle _ _ _)
    refine .ite (.next (h1.trans (t.keeps_beginSeg _ _))) (.ite (.next (h1.trans (t.keeps_beginSeg _ _))) ?_)
    cases l with
    | some l => exact .next (h3.trans (t3.keeps_learned _ _))
    | none => exact .next h3

theorem keeps_execCoastWindow (a bemf : Nat) (s : State) : s.Continues (execCoastWindow a bemf s) := by
  unfold execCoastWindow
  split
  · exact .next .rfl
  · split
    · exact .next .rfl
    · refine .ite (.next .rfl) ?_
      extract_lets t1 _ _ t2
      have ht1 : s.Keeps t1 := (s.keeps_actWear _).trans (State.keeps_setFld _ _ _ _)
      have ht2 : s.Keeps t2 := ht1.trans (t1.keeps_setAct _ _)
      refine .ite (.next (ht2.trans (t2.keeps_actFault _ _ _))) ?_
      exact .next ht2

theorem keeps_execOpenCheck (a ma : Nat) (s : State) : s.Continues (execOpenCheck a ma s) := by
  unfold execOpenCheck
  extract_lets _
  split
  · extract_lets _ t1 _ _ _ t2 t3
    have ht1 : s.Keeps t1 := (State.Keeps.ite s.keeps_fresh .rfl).trans (State.keeps_setFld _ _ _ _)
    have ht2 : s.Keeps t2 := ht1.trans (t1.keeps_setAct _ _)
    have ht3 : s.Keeps t3 := .ite ((ht2.trans (t2.keeps_setFld _ _ _)).trans (State.keeps_actEvent _ _ _ _ _ _)) ht2
    refine .ite (.next (ht3.trans (t3.keeps_actFault _ _ _))) ?_
    exact .next ht3
  · exact .next .rfl

theorem keeps_execOvercurrent (a ma : Nat) (s : State) : s.Continues (execOvercurrent a ma s) := by
  unfold execOvercurrent
  refine .ite (.next (s.keeps_actFault _ _ _)) ?_
  exact .next .rfl

theorem keeps_execVhapMeasure (mv : Nat) (s : State) : s.Continues (execVhapMeasure mv s) := by
  unfold execVhapMeasure
  exact .next ((s.keeps_setFld _ _ _).trans (.foldl (fun t _ => t.keeps_actDuty _) _ _))

theorem keeps_execPlay (k : Nat) (s : State) : s.Continues (execPlay k s) := by
  unfold execPlay
  split
  · exact .next .rfl
  · extract_lets _ _ _
    refine .ite (.next (s.keeps_endOp _ _ _ _ _ _)) ?_
    refine .ite (.next (s.keeps_endOp _ _ _ _ _ _)) ?_
    refine .ite (.next (s.keeps_endOp _ _ _ _ _ _)) ?_
    split
    · exact .next ((State.Keeps.ite (s.keeps_satInc _ _ _) .rfl).trans (State.keeps_endOp _ _ _ _ _ _ _))
    · refine .ite (.next ((s.keeps_stopEffect _ _ _).trans (State.keeps_endOp _ _ _ _ _ _ _))) ?_
      split
      · exact .next (s.keeps_endOp _ _ _ _ _ _)
      · exact .next ((s.keeps_startEffect _ _ _ _ _ _ _).trans (State.keeps_endOp _ _ _ _ _ _ _))

theorem keeps_execWaveLoad (k : Nat) (s : State) : s.Continues (execWaveLoad k s) := by
  unfold execWaveLoad
  split
  · exact .next .rfl
  · extract_lets _ _
    refine .ite (.next (s.keeps_endOp _ _ _ _ _ _)) ?_
    refine .ite (.next (s.keeps_endOp _ _ _ _ _ _)) ?_
    exact .next ((s.keeps_setWave _ _).trans (State.keeps_endOp _ _ _ _ _ _ _))

theorem keeps_execWaveFree (k : Nat) (s : State) : s.Continues (execWaveFree k s) := by
  unfold execWaveFree
  split
  · exact .next .rfl
  · extract_lets _ _
    refine .ite (.next (s.keeps_endOp _ _ _ _ _ _)) ?_
    refine .ite (.next (s.keeps_endOp _ _ _ _ _ _)) ?_
    exact .next ((s.keeps_setWave _ _).trans (State.keeps_endOp _ _ _ _ _ _ _))

theorem keeps_execActQuery (k : Nat) (s : State) : s.Continues (execActQuery k s) := by
  unfold execActQuery
  split
  · exact .next .rfl
  · extract_lets _ t1
    have ht1 : s.Keeps t1 := s.keeps_actWear _
    refine .ite (.next (s.keeps_endOp _ _ _ _ _ _)) ?_
    exact .next (ht1.trans (t1.keeps_endOp _ _ _ _ _ _))

theorem keeps_execMaint (k : Nat) (s : State) : s.Continues (execMaint k s) := by
  unfold execMaint
  split
  · exact .next .rfl
  · extract_lets _ t1 t2 _ t3
    have ht1 : s.Keeps t1 := s.keeps_setFld _ _ _
    have ht2 : s.Keeps t2 := s.keeps_startEffect _ _ _ _ _ _ _
    have ht3 : s.Keeps t3 := ht2.trans (t2.keeps_setAct _ _)
    refine .ite (.next (s.keeps_endOp _ _ _ _ _ _)) ?_
    refine .ite ?_ ?_
    · refine .ite (.next ((ht1.trans (t1.keeps_setFld _ _ _)).trans (State.keeps_endOp _ _ _ _ _ _ _))) ?_
      exact .next (s.keeps_endOp _ _ _ _ _ _)
    · split
      · exact .next ((State.Keeps.ite (s.keeps_satInc _ _ _) .rfl).trans (State.keeps_endOp _ _ _ _ _ _ _))
      · exact .next (ht3.trans (t3.keeps_endOp _ _ _ _ _ _))

end Sys2Proof.Machine
end

section
/-! PROOFS. What touch keep. -/

namespace Sys2Proof.Machine

theorem State.keeps_setPanel (s : State) (p : Nat) (x : Panel) : s.Keeps (s.setPanel p x) := s.keeps_withTouch _

theorem State.keeps_panelEvent (s : State) (p code d0 d1 d2 d3 : Nat) (other : Option RingId) : s.Keeps (s.panelEvent p code d0 d1 d2 d3 other) := by
  unfold State.panelEvent
  extract_lets h t u
  have h1 : s.Keeps t := by
    unfold t
    cases h with
    | some r => exact s.keeps_event _ _ _ _ _ _ _ _
    | none => exact .rfl
  have h2 : s.Keeps u := .ite (h1.trans (t.keeps_event _ _ _ _ _ _ _ _)) h1
  cases other with
  | some r => exact .ite h2 (h2.trans (u.keeps_event _ _ _ _ _ _ _ _))
  | none => exact h2

theorem State.keeps_panelSource (s : State) (p : Nat) : s.Keeps (s.panelSource p) := s.keeps_raise _

theorem State.keeps_showPanel (s : State) (p : Nat) : s.Keeps (s.showPanel p) := by
  unfold State.showPanel
  extract_lets _ _ t1 t2 t3 t4 t5
  have ht1 : s.Keeps t1 := s.keeps_setFlag _ _ _
  have ht2 : s.Keeps t2 := (ht1.trans (t1.keeps_setFlag _ _ _)).trans (State.keeps_setFlag _ _ _ _)
  have ht3 : s.Keeps t3 := (ht2.trans (t2.keeps_setFlag _ _ _)).trans (State.keeps_setFlag _ _ _ _)
  have ht4 : s.Keeps t4 := (ht3.trans (t3.keeps_setFld _ _ _)).trans (State.keeps_setFld _ _ _ _)
  have ht5 : s.Keeps t5 := (ht4.trans (t4.keeps_setFld _ _ _)).trans (State.keeps_setFld _ _ _ _)
  exact ht5.trans (t5.keeps_setFld _ _ _)

theorem State.keeps_showZones (s : State) : s.Keeps s.showZones := by
  unfold State.showZones
  extract_lets _
  exact .foldl (fun t _ => (t.keeps_setFlag _ _ _).trans (State.keeps_setFlag _ _ _ _)) _ _

theorem State.keeps_setZone (s : State) (z : Nat) (x : Option Zone) : s.Keeps (s.setZone z x) := (s.keeps_withTouch _).trans (State.keeps_showZones _)

theorem State.keeps_showTones (s : State) (p : Nat) : s.Keeps (s.showTones p) := by
  unfold State.showTones
  extract_lets _
  exact .foldl (fun t _ => t.keeps_setRg _ _) _ _

theorem keeps_execScanStart (p : Nat) (s : State) : s.Continues (execScanStart p s) := by
  unfold execScanStart
  extract_lets _ _ t1 t2
  have ht1 : s.Keeps t1 := s.keeps_setFlag _ _ _
  have ht2 : s.Keeps t2 := ht1.trans (t1.keeps_setFlag _ _ _)
  refine .ite (.next .rfl) ?_
  split
  · refine .ite (.next (ht1.trans (t1.keeps_setPanel _ _))) ?_
    exact .next (ht1.trans (t1.keeps_setPanel _ _))
  · refine .ite (.next ht1) ?_
    refine .ite (.next (ht1.trans (t1.keeps_setPanel _ _))) ?_
    refine .ite (.next ht2) ?_
    exact .next (ht2.trans (t2.keeps_setPanel _ _))

theorem keeps_execDriveWindowEnd (p : Nat) (win : List (Bool × List Nat)) (s : State) : s.Continues (execDriveWindowEnd p win s) := by
  unfold execDriveWindowEnd
  extract_lets _
  split
  · exact .next .rfl
  · refine .ite (.next .rfl) ?_
    extract_lets _ _ _
    exact .next (s.keeps_setPanel _ _)

theorem keeps_execSurveyEnd (p : Nat) (win : List (Bool × List Nat)) (s : State) : s.Continues (execSurveyEnd p win s) := by
  unfold execSurveyEnd
  extract_lets _ _ _ _ _ t1 nz2 _
  have ht1 : s.Keeps t1 := s.keeps_setPanel _ _
  refine .ite (.next .rfl) ?_
  exact .next ((ht1.trans (t1.keeps_setFld _ _ _)).trans (State.keeps_showTones _ _))

theorem keeps_execSurveyDue (p : Nat) (s : State) : s.Continues (execSurveyDue p s) := by
  unfold execSurveyDue
  refine .ite (.next (s.keeps_setPanel _ _)) ?_
  exact .next .rfl

theorem keeps_execSurveySkipped (p : Nat) (s : State) : s.Continues (execSurveySkipped p s) := by
  unfold execSurveySkipped
  extract_lets _
  refine .ite (.next ((s.keeps_setPanel _ _).trans (State.keeps_satInc _ _ _ _))) ?_
  exact .next .rfl

theorem State.keeps_zoneActs (s : State) (z : Nat) (x : Zone) (eff beep : Nat) : s.Keeps (s.zoneActs z x eff beep) := by
  unfold State.zoneActs
  refine .ite .rfl ?_
  extract_lets _ _ _
  exact s.keeps_withTouch _

theorem State.keeps_zoneEvent (s : State) (p z : Nat) (x : Zone) (code c d2 d3 : Nat) : s.Keeps (s.zoneEvent p z x code c d2 d3) := by
  unfold State.zoneEvent
  extract_lets t1
  have ht1 : s.Keeps t1 := .ite (s.keeps_event _ _ _ _ _ _ _ _) .rfl
  exact .ite (ht1.trans (t1.keeps_raise _)) (.ite (ht1.trans (t1.keeps_raise _)) ht1)

theorem State.keeps_fireZone (s : State) (p : Nat) (c : Contact) (z : Nat) (x : Zone) : s.Keeps (s.fireZone p c z x) := by
  unfold State.fireZone
  extract_lets t1
  have ht1 : s.Keeps t1 := .ite (s.keeps_zoneActs _ _ _ _) .rfl
  exact ht1.trans (t1.keeps_zoneEvent _ _ _ _ _ _ _)

theorem State.keeps_endZone (s : State) (p : Nat) (c : Contact) (absorbed : Bool) : s.Keeps (s.endZone p c absorbed) := by
  unfold State.endZone
  split
  · exact .rfl
  · extract_lets _ t1
    have ht1 : s.Keeps t1 := .ite (s.keeps_zoneActs _ _ _ _) .rfl
    exact .ite (s.keeps_zoneEvent _ _ _ _ _ _ _) (.ite (s.keeps_zoneEvent _ _ _ _ _ _ _) (.ite (ht1.trans (t1.keeps_zoneEvent _ _ _ _ _ _ _))
        (s.keeps_zoneEvent _ _ _ _ _ _ _)))

theorem State.keeps_fireNew (s : State) (p : Nat) : s.Keeps (s.fireNew p) := by
  unfold State.fireNew
  extract_lets _
  refine State.Keeps.trans ?_ (.foldl (fun t a => ?_) _ _)
  · exact .rfl
  · split
    · exact .rfl
    · extract_lets _ t1
      have ht1 : t.Keeps t1 := t.keeps_setPanel _ _
      exact ht1.trans (t1.keeps_fireZone _ _ _ _)

theorem State.keeps_checkLines (s : State) (p : Nat) : s.Keeps (s.checkLines p) := by
  unfold State.checkLines
  extract_lets _ bad1 _
  refine State.Keeps.trans ?_ (.foldl (fun t a => ?_) _ _)
  · exact .rfl
  · extract_lets _ _ _ t2
    have ht2 : t.Keeps t2 := t.keeps_setPanel _ _
    exact .ite (ht2.trans (t2.keeps_fault _ _ _)) ht2

theorem State.keeps_absorbAll (s : State) (p : Nat) : s.Keeps (s.absorbAll p) := by
  unfold State.absorbAll
  extract_lets _ _ t1
  have ht1 : s.Keeps t1 := s.keeps_setPanel _ _
  refine State.Keeps.trans ?_ (.foldl (fun t a => ?_) _ _)
  · exact ht1
  · extract_lets _
    split
    · exact (t.keeps_panelEvent _ _ _ _ _ _ _).trans (State.keeps_panelSource _ _)
    · extract_lets _ _ _ t2
      have ht2 : t.Keeps t2 := (t.keeps_setPanel _ _).trans (State.keeps_endZone _ _ _ _)
      exact (ht2.trans (t2.keeps_panelEvent _ _ _ _ _ _ _)).trans (State.keeps_panelSource _ _)

theorem State.keeps_secondCopy (s : State) (p : Nat) (copy2 : Option (List Nat)) : s.Keeps (s.secondCopy p copy2) := by
  unfold State.secondCopy
  split
  · exact .rfl
  · extract_lets t1
    have ht1 : s.Keeps t1 := by
      unfold t1
      refine State.Keeps.trans ?_ (.foldl (fun t a => ?_) _ _)
      · exact .rfl
      · split
        · exact .ite (t.keeps_zoneActs _ _ _ _) .rfl
        · exact .rfl
    exact ht1.trans (t1.keeps_fault _ _ _)

theorem State.keeps_endHop (s : State) (p : Nat) (hop : Option (Nat × Nat × Nat)) : s.Keeps (s.endHop p hop) := by
  unfold State.endHop
  split
  · exact .rfl
  · extract_lets _ t1 t2
    have ht1 : s.Keeps t1 := (s.keeps_setPanel _ _).trans (State.keeps_showTones _ _)
    have ht2 : s.Keeps t2 := ht1.trans (t1.keeps_satInc _ _ _)
    exact (ht2.trans (t2.keeps_panelEvent _ _ _ _ _ _ _)).trans (State.keeps_panelSource _ _)

theorem State.keeps_scanActions (s : State) (p : Nat) (wake : Bool) (copy2 : Option (List Nat)) : s.Keeps (s.scanActions p wake copy2) := by
  unfold State.scanActions
  extract_lets t1 t2 _ t3
  have ht1 : s.Keeps t1 := s.keeps_count _ _
  have ht2 : s.Keeps t2 := .ite ht1 ((ht1.trans (t1.keeps_fireNew _)).trans (State.keeps_secondCopy _ _ _))
  have ht3 : s.Keeps t3 := .ite ht2 (ht2.trans (.foldl (fun t _ => t.keeps_endZone _ _ _) _ _))
  exact ht3.trans (t3.keeps_absorbAll _)

theorem State.keeps_scanBaselines (s : State) (p : Nat) (hop : Option (Nat × Nat × Nat)) : s.Keeps (s.scanBaselines p hop).1 := by
  unfold State.scanBaselines
  extract_lets f t u
  have h1 : s.Keeps t := (s.keeps_setPanel _ _).trans (State.keeps_endHop _ _ _)
  have h2 : s.Keeps u := .ite ((h1.trans (t.keeps_panelEvent _ _ _ _ _ _ _)).trans (State.keeps_panelSource _ _)) h1
  clear_value u
  exact h2.trans (u.keeps_checkLines _)

theorem State.keeps_scanEnd (s : State) (p : Nat) (sc : Scan) (wake ovf recal : Bool) : s.Keeps (s.scanEnd p sc wake ovf recal) := by
  unfold State.scanEnd
  extract_lets _ _ _ _ t1 t2 t3 _ _ t4 _ _
  have ht1 : s.Keeps t1 := .ite ((s.keeps_setPanel _ _).trans (State.keeps_setFld _ _ _ _)) .rfl
  have ht2 : s.Keeps t2 := ht1.trans (t1.keeps_setFld _ _ _)
  have ht3 : s.Keeps t3 := .ite (ht2.trans (t2.keeps_setFld _ _ _)) ht2
  have ht4 : s.Keeps t4 := ht3.trans (t3.keeps_setFld _ _ _)
  exact ht4.trans (t4.keeps_setPanel _ _)

theorem State.keeps_decideScan (s : State) (p : Nat) (sc : Scan) (wake : Bool) (copy2 : Option (List Nat)) :
    s.Keeps (s.decideScan p sc wake copy2) := by
  unfold State.decideScan
  extract_lets _ t1 _ t2 x3
  have ht1 : s.Keeps t1 := .ite s.keeps_fresh .rfl
  have ht2 : s.Keeps t2 := (ht1.trans (t1.keeps_setPanel _ _)).trans (State.keeps_scanActions _ _ _ _)
  have hx3 : s.Keeps x3.1 := ht2.trans (t2.keeps_scanBaselines _ _)
  exact hx3.trans (State.keeps_scanEnd _ _ _ _ _ _)

theorem keeps_execScanDecision (p : Nat) (copy2 : Option (List Nat)) (s : State) : s.Continues (execScanDecision p copy2 s) := by
  unfold execScanDecision
  extract_lets _ _ t1 t2
  have ht1 : s.Keeps t1 := s.keeps_setFld _ _ _
  have ht2 : s.Keeps t2 := (ht1.trans (t1.keeps_setPanel _ _)).trans (State.keeps_setFld _ _ _ _)
  split
  · exact .next .rfl
  · refine .ite (.next .rfl) ?_
    refine .ite ?_ ?_
    · refine .ite (.next (ht1.trans (t1.keeps_setPanel _ _))) ?_
      exact .next ((ht2.trans (t2.keeps_panelEvent _ _ _ _ _ _ _)).trans (State.keeps_panelSource _ _))
    · refine .ite (.next (s.keeps_decideScan _ _ _ _)) ?_
      exact .next .rfl

theorem State.keeps_writeReport (s : State) (p : Nat) (client : Bool) (who : RingId) (r : RepRing) (body : List Byte) :
    s.Keeps (s.writeReport p client who r body) := by
  unfold State.writeReport
  extract_lets out next
  have hout : s.Keeps out.2 := s.keeps_unitWrite _ _ _
  clear_value out
  obtain ⟨_ | e, t⟩ := out <;> dsimp only
  · refine hout.trans ?_
    have hset := t.keeps_setPanel p
    exact .ite ((hset _).trans (State.keeps_raise _ _)) (hset _)
  · refine hout.trans ?_
    have hset := t.keeps_setPanel p
    refine .ite (hset _) ((((hset _).trans (State.keeps_setPanel _ _ _)).trans (State.keeps_event _ _ _ _ _ _ _ _ _)).trans (State.keeps_raise _ _))

theorem State.keeps_writeReports (s : State) (p : Nat) : s.Keeps (s.writeReports p) := by
  unfold State.writeReports
  extract_lets _ t1
  have ht1 : s.Keeps t1 := s.keeps_setPanel _ _
  split
  · exact .rfl
  · extract_lets t2
    have ht2 : s.Keeps t2 := by
      unfold t2
      split
      · exact ht1.trans (t1.keeps_writeReport _ _ _ _ _)
      · exact ht1
    split
    · exact .ite ht2 (ht2.trans (t2.keeps_writeReport _ _ _ _ _))
    · exact ht2

theorem keeps_execReportWrite (p : Nat) (s : State) : s.Continues (execReportWrite p s) := by
  unfold execReportWrite
  refine .ite (.next .rfl) ?_
  exact .next (s.keeps_writeReports _)

theorem keeps_execPersistTimer (p id : Nat) (s : State) : s.Continues (execPersistTimer p id s) := by
  unfold execPersistTimer
  extract_lets _ t1
  have ht1 : s.Keeps t1 := s.keeps_setPanel _ _
  split
  · exact .next .rfl
  · refine .ite (.next .rfl) ?_
    extract_lets t2
    have ht2 : s.Keeps t2 := ht1.trans (t1.keeps_panelEvent _ _ _ _ _ _ _)
    exact .next (.ite (ht2.trans (t2.keeps_raise _)) ht2)

theorem keeps_execIdleLevelTimer (p : Nat) (s : State) : s.Continues (execIdleLevelTimer p s) := by
  unfold execIdleLevelTimer
  extract_lets _ _
  refine .ite (.next .rfl) ?_
  refine .ite (.next (s.keeps_setFld _ _ _)) ?_
  exact .next .rfl

theorem State.keeps_startAcquire (s : State) (p : Nat) (pick : Bool) : s.Keeps (s.startAcquire p pick) := by
  unfold State.startAcquire
  extract_lets _ t1
  have ht1 : s.Keeps t1 := s.keeps_setPanel _ _
  exact ((ht1.trans (t1.keeps_setFld _ _ _)).trans (State.keeps_setFld _ _ _ _)).trans (State.keeps_setFld _ _ _ _)

theorem State.keeps_lineEpoch (s : State) (p : Nat) (l : List Byte) : s.Keeps (s.lineEpoch p l) := .ite (s.keeps_bumpEpoch _) .rfl

theorem State.keeps_applyPanel (s : State) (p : Nat) (l : List Byte) : s.Keeps (s.applyPanel p l) := by
  unfold State.applyPanel
  extract_lets _ t1 t2 _ t3
  have ht1 : s.Keeps t1 := (s.keeps_setPanel _ _).trans (State.keeps_showPanel _ _)
  have ht2 : s.Keeps t2 := ht1.trans (t1.keeps_setFld _ _ _)
  have ht3 : s.Keeps t3 := ht1.trans (t1.keeps_setPanel _ _)
  exact .ite ((ht2.trans (t2.keeps_startAcquire _ _)).trans (State.keeps_setFlag _ _ _ _)) (((ht3.trans (t3.keeps_setFld _ _ _)).trans
      (State.keeps_setFld _ _ _ _)).trans (State.keeps_setFld _ _ _ _))

theorem keeps_execPanelSet (k : Nat) (s : State) : s.Continues (execPanelSet k s) := by
  unfold execPanelSet
  split
  · exact .next .rfl
  · extract_lets _ _ _ _
    refine .ite (.next (s.keeps_endOp _ _ _ _ _ _)) ?_
    refine .ite (.next (s.keeps_endOp _ _ _ _ _ _)) ?_
    refine .ite (.next (s.keeps_endOp _ _ _ _ _ _)) ?_
    exact .next (((s.keeps_lineEpoch _ _).trans (State.keeps_applyPanel _ _ _)).trans (State.keeps_endOp _ _ _ _ _ _ _))

theorem keeps_execPanelTune (k : Nat) (s : State) : s.Continues (execPanelTune k s) := by
  unfold execPanelTune
  split
  · exact .next .rfl
  · extract_lets _ _
    refine .ite (.next (s.keeps_endOp _ _ _ _ _ _)) ?_
    exact .next ((s.keeps_setPanel _ _).trans (State.keeps_endOp _ _ _ _ _ _ _))

theorem keeps_execReportSetup (k : Nat) (s : State) : s.Continues (execReportSetup k s) := by
  unfold execReportSetup
  split
  · exact .next .rfl
  · extract_lets _ _ _
    refine .ite (.next (s.keeps_endOp _ _ _ _ _ _)) ?_
    exact .next ((s.keeps_setPanel _ _).trans (State.keeps_endOp _ _ _ _ _ _ _))

theorem keeps_execZoneSet (k : Nat) (s : State) : s.Continues (execZoneSet k s) := by
  unfold execZoneSet
  split
  · exact .next .rfl
  · extract_lets n old _ _ t u
    have h1 : s.Keeps t := s.keeps_withTouch _
    have h2 : s.Keeps u := by
      unfold u
      cases old with
      | some z => exact .ite (h1.trans (t.keeps_event _ _ _ _ _ _ _ _)) h1
      | none => exact h1
    exact .ite (.next (s.keeps_endOp _ _ _ _ _ _)) (.next ((h2.trans (u.keeps_setZone _ _)).trans (State.keeps_endOp _ _ _ _ _ _ _)))

theorem keeps_execAbsorb (k : Nat) (s : State) : s.Continues (execAbsorb k s) := by
  unfold execAbsorb
  split
  · exact .next .rfl
  · extract_lets _ _
    refine .ite (.next (s.keeps_endOp _ _ _ _ _ _)) ?_
    split
    · exact .next (s.keeps_endOp _ _ _ _ _ _)
    · extract_lets _
      refine .ite (.next (s.keeps_endOp _ _ _ _ _ _)) ?_
      refine .ite (.next (s.keeps_endOp _ _ _ _ _ _)) ?_
      exact .next ((s.keeps_setPanel _ _).trans (State.keeps_endOp _ _ _ _ _ _ _))

theorem keeps_execRecalibrate (k : Nat) (s : State) : s.Continues (execRecalibrate k s) := by
  unfold execRecalibrate
  split
  · exact .next .rfl
  · extract_lets _
    refine .ite (.next (s.keeps_endOp _ _ _ _ _ _)) ?_
    refine .ite (.next (s.keeps_endOp _ _ _ _ _ _)) ?_
    exact .next ((s.keeps_startAcquire _ _).trans (State.keeps_endOp _ _ _ _ _ _ _))

theorem keeps_execPanelQuery (k : Nat) (s : State) : s.Continues (execPanelQuery k s) := by
  unfold execPanelQuery
  split
  · exact .next .rfl
  · extract_lets _ _ _
    refine .ite (.next (s.keeps_endOp _ _ _ _ _ _)) ?_
    exact .next (s.keeps_endOp _ _ _ _ _ _)

theorem keeps_execTchCtxSave (k : Nat) (s : State) : s.Continues (execTchCtxSave k s) := by
  unfold execTchCtxSave
  split
  · exact .next .rfl
  · extract_lets _ _
    split
    · rename_i t1 heq2
      have ht1 : s.Keeps t1 := .of_pair heq2 (s.keeps_unitWrite _ _ _)
      exact .next (ht1.trans (t1.keeps_endOp _ _ _ _ _ _))
    · rename_i t3 heq4
      have ht3 : s.Keeps t3 := .of_pair heq4 (s.keeps_unitWrite _ _ _)
      exact .next (ht3.trans (t3.keeps_endOp _ _ _ _ _ _))

theorem keeps_execTchCtxRestore (k : Nat) (s : State) : s.Continues (execTchCtxRestore k s) := by
  unfold execTchCtxRestore
  split
  · exact .next .rfl
  · extract_lets _
    refine .ite (.next (s.keeps_endOp _ _ _ _ _ _)) ?_
    refine .ite (.next (s.keeps_endOp _ _ _ _ _ _)) ?_
    split
    · rename_i t1 heq2
      have ht1 : s.Keeps t1 := .of_pair heq2 (s.keeps_unitRead _ _ _)
      exact .next (ht1.trans (t1.keeps_endOp _ _ _ _ _ _))
    · rename_i t3 heq4
      have ht3 : s.Keeps t3 := .of_pair heq4 (s.keeps_unitRead _ _ _)
      split
      · exact .next (ht3.trans (t3.keeps_endOp _ _ _ _ _ _))
      · extract_lets _ _ t5
        have ht5 : s.Keeps t5 := ht3.trans (t3.keeps_setPanel _ _)
        refine .ite (.next (ht3.trans (t3.keeps_endOp _ _ _ _ _ _))) ?_
        exact .next ((ht5.trans (t5.keeps_applyPanel _ _)).trans (State.keeps_endOp _ _ _ _ _ _ _))

theorem State.keeps_touchRevoke (s : State) (p c : Nat) : s.Keeps (s.touchRevoke p c) := by
  unfold State.touchRevoke
  extract_lets _ t1
  have ht1 : s.Keeps t1 := s.keeps_setPanel _ _
  exact ht1.trans (.foldl (fun t _ => t.keeps_setZone _ _) _ _)

end Sys2Proof.Machine
end

section
/-! PROOFS. What the shared boot operations keep. -/

namespace Sys2Proof.Machine

theorem State.keeps_showSlot (s : State) (pair slot : Nat) : s.Keeps (s.showSlot pair slot) := .ite (s.keeps_setFld _ _ _) (s.keeps_setFld _ _ _)

theorem State.keeps_markSlot (s : State) (pair slot : Nat) (v : Bool) : s.Keeps (s.markSlot pair slot v) := by
  unfold State.markSlot
  extract_lets _ _ _
  exact s.keeps_withFw _

theorem State.keeps_writeBlock (s : State) (b : BootBlock) : s.Keeps (s.writeBlock b) := by
  unfold State.writeBlock
  extract_lets _ _
  exact .ite (s.keeps_withFw _) (s.keeps_withFw _)

theorem State.keeps_firmwareRecord (s : State) (key pair outcome oldSlot newSlot : Nat) (after : After) :
    s.Keeps (s.firmwareRecord key pair outcome oldSlot newSlot after) := s.keeps_folioWrite _

theorem State.keeps_loadBytes (s : State) (a : Nat) (l : List Byte) : s.Keeps (s.loadBytes a l) := s.keeps_putBytes _ _

/-- Forgetting the bytes of a range. -/
theorem State.keeps_clearMem (s : State) (lo hi : Nat) : s.Keeps { s with mem := SMap.clear s.mem lo hi } :=
  ⟨rfl, fun h => ⟨Memory.wf_clear _ _ _ h.1, h.2.1, h.2.2⟩⟩

theorem State.keeps_loadSlot (s : State) (pair slot : Nat) : s.Keeps (s.loadSlot pair slot) :=
  .ite ((s.keeps_setRg _ _).trans (State.keeps_loadBytes _ _ _))
    (((s.keeps_clearMem 0x1080000 0x11C0000).trans (State.keeps_withFw _ _)).trans (State.keeps_loadBytes _ _ _))

theorem State.keeps_checkSettings (s : State) (pair : Nat) : s.Keeps (s.checkSettings pair) := by
  unfold State.checkSettings
  split
  · exact (s.keeps_setFld _ _ _).trans (State.keeps_eventSM _ _ _ _ _ _ _)
  · exact s.keeps_setFld _ _ _

theorem State.keeps_beginPause (s : State) (pair : Nat) (back : Bool) (cause window : Nat) (vote : Bool) :
    s.Keeps (s.beginPause pair back cause window vote) := by
  unfold State.beginPause
  extract_lets _ t1
  have ht1 : s.Keeps t1 := s.keeps_withFw _
  exact ht1.trans (t1.keeps_setFld _ _ _)

theorem State.keeps_stopPacket (s : State) (k : Nat) (p : Started) : s.Keeps (s.stopPacket k p) := by
  unfold State.stopPacket
  refine .ite .rfl ?_
  extract_lets t1
  have ht1 : s.Keeps t1 := by
    unfold t1
    split
    · extract_lets _ t2 _
      have ht2 : s.Keeps t2 := s.keeps_setGrant _ _
      exact (ht2.trans (t2.keeps_withArb _)).trans (State.keeps_enqueue _ _ _)
    · exact .rfl
  exact ht1.trans (t1.keeps_setPlace _ _)

theorem State.keeps_stopPackets (s : State) : s.Keeps s.stopPackets := by
  unfold State.stopPackets
  exact .foldl (fun t _ => t.keeps_stopPacket _ _) _ _

theorem State.keeps_commitPoint (s : State) (n : Nat) : s.Keeps (s.commitPoint n) := by
  unfold State.commitPoint
  split
  · exact .rfl
  · extract_lets _ t1 t2 _
    have ht1 : s.Keeps t1 := .ite s.keeps_stopPackets .rfl
    have ht2 : s.Keeps t2 := (ht1.trans (t1.keeps_writeBlock _)).trans (State.keeps_showSlot _ _ _)
    exact ht2.trans (t2.keeps_withFw _)

theorem State.keeps_resumeService (s : State) : s.Keeps s.resumeService := by
  unfold State.resumeService
  extract_lets t1 t2
  have ht1 : s.Keeps t1 := s.keeps_endPause
  have ht2 : s.Keeps t2 := ht1.trans (.foldl (fun t _ => t.keeps_writeReports _) _ _)
  exact ht2.trans (.foldl (fun t _ => t.keeps_decidePool _) _ _)

theorem State.keeps_afterCommit (s : State) (a : After) (n : Nat) : s.Keeps (s.afterCommit a n) := by
  unfold State.afterCommit
  split
  · exact .rfl
  · exact s.keeps_endOp _ _ _ _ _ _
  · exact s.keeps_wearReset _ _ _ _
  · exact s.keeps_commitPoint _

end Sys2Proof.Machine
end

section
/-! PROOFS. What the Folio keep. -/

namespace Sys2Proof.Machine

theorem State.keeps_flashError (s : State) (kind addr : Nat) : s.Keeps (s.flashError kind addr) :=
  (s.keeps_raise _).trans (State.keeps_eventSM _ _ _ _ _ _ _)

theorem State.keeps_beginCopy (s : State) : s.Keeps s.beginCopy := by
  unfold State.beginCopy
  extract_lets _ t1 _ t2
  have ht1 : s.Keeps t1 := s.keeps_setInactive _
  have ht2 : s.Keeps t2 := ht1.trans (t1.keeps_withFol _)
  exact .ite ht2 (ht2.trans (t2.keeps_eventSM _ _ _ _ _ _))

theorem State.keeps_copyIfErased (s : State) : s.Keeps s.copyIfErased := by
  unfold State.copyIfErased
  split
  · exact .ite s.keeps_beginCopy .rfl
  · exact .rfl

theorem State.keeps_copyRecord (s : State) (r : FRec) (left : List FRec) (n : Nat) : s.Keeps (s.copyRecord r left n) := by
  unfold State.copyRecord
  extract_lets _ t1 _
  have ht1 : s.Keeps t1 := s.keeps_setInactive _
  exact ht1.trans (t1.keeps_withFol _)

theorem State.keeps_programFailed (s : State) : s.Keeps s.programFailed := by
  unfold State.programFailed
  extract_lets t1
  have ht1 : s.Keeps t1 := s.keeps_flashError _ _
  split
  · exact ((ht1.trans t1.keeps_abandonWrite).trans (State.keeps_copyIfErased _)).trans (State.keeps_folioNext _)
  · exact ht1

theorem keeps_execFlashProgramDone (ok : Bool) (s : State) : s.Continues (execFlashProgramDone ok s) := by
  unfold execFlashProgramDone
  refine .ite (.next .rfl) ?_
  split
  · refine .ite (.next s.keeps_programFailed) ?_
    refine .ite (.next (s.keeps_withFol _)) ?_
    extract_lets _ t1
    have ht1 : s.Keeps t1 := (s.keeps_withFol _).trans (State.keeps_appendRec _ _)
    exact .next ((((ht1.trans (t1.keeps_afterCommit _ _)).trans (State.keeps_compactIfFull _)).trans (State.keeps_copyIfErased _)).trans
        (State.keeps_folioNext _))
  · split
    · refine .ite (.next (s.keeps_copyRecord _ _ _)) ?_
      exact .next s.keeps_programFailed
    · exact .next .rfl

theorem keeps_execCompactionCommit (s : State) : s.Continues (execCompactionCommit s) := by
  unfold execCompactionCommit
  split
  · refine .ite (.next .rfl) ?_
    extract_lets _ t1 t2 t3 _ t4
    have ht1 : s.Keeps t1 := s.keeps_setInactive _
    have ht2 : s.Keeps t2 := ht1.trans (t1.keeps_setFlag _ _ _)
    have ht3 : s.Keeps t3 := ht2.trans (t2.keeps_setFld _ _ _)
    have ht4 : s.Keeps t4 := ht3.trans (t3.keeps_withFol _)
    exact .next (((ht4.trans (t4.keeps_eventSM _ _ _ _ _ _)).trans (State.keeps_compactIfFull _)).trans (State.keeps_folioNext _))
  · exact .next .rfl

theorem State.keeps_newFolio (s : State) : s.Keeps s.newFolio := by
  unfold State.newFolio
  extract_lets t1 _ _ t2 t3
  have ht1 : s.Keeps t1 := s.keeps_setFld _ _ _
  have ht2 : s.Keeps t2 := ht1.trans (t1.keeps_withFol _)
  have ht3 : s.Keeps t3 := ht2.trans (t2.keeps_setFld _ _ _)
  exact ht3.trans (t3.keeps_commitNow _ _)

theorem State.keeps_adopted (s : State) (old device : Nat) : s.Keeps (s.adopted old device) := by
  unfold State.adopted
  extract_lets _ t1 t2
  have ht1 : s.Keeps t1 := (s.keeps_withFol _).trans (State.keeps_newFolio _)
  have ht2 : s.Keeps t2 := ht1.trans (t1.keeps_folioWrite _)
  exact (ht2.trans (t2.keeps_raise _)).trans (State.keeps_eventSM _ _ _ _ _ _ _)

theorem State.keeps_blockErased (s : State) (left : Nat) : s.Keeps (s.blockErased left) := by
  unfold State.blockErased
  extract_lets _ _ t1 _
  have ht1 : s.Keeps t1 := s.keeps_setInactive _
  exact (ht1.trans (t1.keeps_withFol _)).trans (State.keeps_copyIfErased _)

theorem State.keeps_folioErased (s : State) (ok : Bool) : s.Keeps (s.folioErased ok) := by
  unfold State.folioErased
  refine .ite .rfl ?_
  split
  · refine .ite (s.keeps_flashError _ _) ?_
    refine .ite (s.keeps_adopted _ _) ?_
    extract_lets _ _ _
    exact s.keeps_withFol _
  · split
    · exact .ite (s.keeps_blockErased _) (s.keeps_flashError _ _)
    · exact .rfl

theorem keeps_execFolioQuery (k : Nat) (s : State) : s.Continues (execFolioQuery k s) := by
  unfold execFolioQuery
  split
  · exact .next .rfl
  · exact .next (s.keeps_endOp _ _ _ _ _ _)

theorem keeps_execFolioFlush (k : Nat) (s : State) : s.Continues (execFolioFlush k s) := by
  unfold execFolioFlush
  split
  · exact .next .rfl
  · refine .ite (.next .rfl) ?_
    refine .ite (.next (s.keeps_endOp _ _ _ _ _ _)) ?_
    extract_lets t1
    have ht1 : s.Keeps t1 := s.keeps_setProgress _ _
    exact .next (ht1.trans (.foldl (fun t _ => t.keeps_folioWrite _) _ _))

theorem keeps_execSettingsWrite (k : Nat) (s : State) : s.Continues (execSettingsWrite k s) := by
  unfold execSettingsWrite
  split
  · exact .next .rfl
  · refine .ite (.next .rfl) ?_
    refine .ite (.next (s.keeps_endOp _ _ _ _ _ _)) ?_
    refine .ite (.next (s.keeps_endOp _ _ _ _ _ _)) ?_
    split
    · rename_i t1 heq2
      have ht1 : s.Keeps t1 := .of_pair heq2 (s.keeps_unitRead _ _ _)
      refine .ite (.next (ht1.trans (t1.keeps_endOp _ _ _ _ _ _))) ?_
      exact .next (ht1.trans (t1.keeps_endOp _ _ _ _ _ _))
    · rename_i t3 heq4
      have ht3 : s.Keeps t3 := .of_pair heq4 (s.keeps_unitRead _ _ _)
      exact .next ((ht3.trans (t3.keeps_setProgress _ _)).trans (State.keeps_folioWrite _ _))

theorem State.keeps_replyBytes (s : State) (k : Nat) (p : Started) (off : Nat) (l : List Byte) (r0 r1 : Nat) :
    s.Keeps (s.replyBytes k p off l r0 r1) := by
  unfold State.replyBytes
  split
  · rename_i t1 heq2
    have ht1 : s.Keeps t1 := .of_pair heq2 (s.keeps_unitWrite _ _ _)
    exact ht1.trans (t1.keeps_endOp _ _ _ _ _ _)
  · rename_i t3 heq4
    have ht3 : s.Keeps t3 := .of_pair heq4 (s.keeps_unitWrite _ _ _)
    exact .ite (ht3.trans (t3.keeps_endOp _ _ _ _ _ _)) (ht3.trans (t3.keeps_endOp _ _ _ _ _ _))

theorem keeps_execSettingsRead (k : Nat) (s : State) : s.Continues (execSettingsRead k s) := by
  unfold execSettingsRead
  split
  · exact .next .rfl
  · extract_lets _ _
    split
    · exact .next (s.keeps_endOp _ _ _ _ _ _)
    · extract_lets _
      refine .ite (.next (s.keeps_endOp _ _ _ _ _ _)) ?_
      exact .next (s.keeps_replyBytes _ _ _ _ _ _)

theorem keeps_execLogRead (k : Nat) (s : State) : s.Continues (execLogRead k s) := by
  unfold execLogRead
  split
  · exact .next .rfl
  · extract_lets _
    split
    · exact .next (s.keeps_endOp _ _ _ _ _ _)
    · exact .next (s.keeps_replyBytes _ _ _ _ _ _)

theorem keeps_execFolioAdopt (k : Nat) (s : State) : s.Continues (execFolioAdopt k s) := by
  unfold execFolioAdopt
  split
  · exact .next .rfl
  · refine .ite (.next (s.keeps_endOp _ _ _ _ _ _)) ?_
    extract_lets foreign1 _ t2 _ t3
    have ht2 : s.Keeps t2 := s.keeps_abandonWrite.trans (State.keeps_setFld _ _ _ _)
    have ht3 : s.Keeps t3 := ht2.trans (t2.keeps_withFol _)
    exact .next (ht3.trans (t3.keeps_endOp _ _ _ _ _ _))

theorem State.keeps_calEvent (s : State) (code e due kind : Nat) : s.Keeps (s.calEvent code e due kind) := by
  unfold State.calEvent
  extract_lets t1
  have ht1 : s.Keeps t1 := (s.keeps_raise _).trans (State.keeps_event _ _ _ _ _ _ _ _ _)
  exact .ite ht1 (ht1.trans (t1.keeps_event _ _ _ _ _ _ _ _))

theorem State.keeps_evalEntry (s : State) (e : Nat) : s.Keeps (s.evalEntry e) := by
  unfold State.evalEntry
  split
  · exact .rfl
  · extract_lets _ _ _ _ _ _ t1 t2
    have ht1 : s.Keeps t1 := s.keeps_withFol _
    have ht2 : s.Keeps t2 := .ite (ht1.trans (t1.keeps_calEvent _ _ _ _)) ht1
    exact .ite .rfl (.ite (ht2.trans (t2.keeps_calEvent _ _ _ _)) ht2)

theorem State.keeps_evalCalendar (s : State) : s.Keeps s.evalCalendar := by
  unfold State.evalCalendar
  exact (s.keeps_withFol _).trans (.foldl (fun t _ => t.keeps_evalEntry _) _ _)

theorem keeps_execCalSet (k : Nat) (s : State) : s.Continues (execCalSet k s) := by
  unfold execCalSet
  split
  · exact .next .rfl
  · refine .ite (.next .rfl) ?_
    refine .ite (.next (s.keeps_endOp _ _ _ _ _ _)) ?_
    extract_lets _
    exact .next ((s.keeps_setProgress _ _).trans (State.keeps_folioWrite _ _))

theorem keeps_execCalDone (k : Nat) (s : State) : s.Continues (execCalDone k s) := by
  unfold execCalDone
  split
  · exact .next .rfl
  · refine .ite (.next .rfl) ?_
    refine .ite (.next (s.keeps_endOp _ _ _ _ _ _)) ?_
    split
    · exact .next (s.keeps_endOp _ _ _ _ _ _)
    · extract_lets _ t1
      have ht1 : s.Keeps t1 := (s.keeps_setProgress _ _).trans (State.keeps_folioWrite _ _)
      exact .next (ht1.trans (t1.keeps_folioWrite _))

theorem keeps_execDayChange (s : State) : s.Continues (execDayChange s) := by
  unfold execDayChange
  refine .ite (.next .rfl) ?_
  exact .next s.keeps_evalCalendar

theorem keeps_execFlushTimer (s : State) : s.Continues (execFlushTimer s) := by
  unfold execFlushTimer
  extract_lets _ _ t1
  have ht1 : s.Keeps t1 := s.keeps_withFol _
  refine .ite (.next .rfl) ?_
  refine .ite (.next (ht1.trans (.foldl (fun t _ => t.keeps_folioWrite _) _ _))) ?_
  exact .next ht1

theorem keeps_execHistogramMinute (tj : ℤ) (s : State) : s.Continues (execHistogramMinute tj s) := by
  unfold execHistogramMinute
  refine .ite (.next .rfl) ?_
  extract_lets _ _ _ _
  exact .next (s.keeps_withFol _)

theorem keeps_execPwrFailFall (s : State) : s.Continues (execPwrFailFall s) := by
  unfold execPwrFailFall
  refine .ite (.next .rfl) ?_
  extract_lets t1 _ t2 t3 _ t4
  have ht1 : s.Keeps t1 := (s.keeps_raise _).trans (State.keeps_count _ _ _)
  have ht2 : s.Keeps t2 := ht1.trans (t1.keeps_withPwr _)
  have ht3 : s.Keeps t3 := (ht2.trans t2.keeps_abandonActivation).trans (State.keeps_abandonWrite _)
  have ht4 : s.Keeps t4 := ht3.trans (t3.keeps_withFol _)
  refine .ite (.next ((ht4.trans (t4.keeps_commitNow _ _)).trans (State.keeps_setFld _ _ _ _))) ?_
  exact .next ht4

theorem keeps_execPwrFailRise (ok : Bool) (s : State) : s.Continues (execPwrFailRise ok s) := by
  unfold execPwrFailRise
  refine .ite (.next .rfl) ?_
  extract_lets _ _ _ t1
  have ht1 : s.Keeps t1 := .of_rest
  exact .next ((((ht1.trans (t1.keeps_eventSM _ _ _ _ _ _)).trans (State.keeps_compactIfFull _)).trans (State.keeps_copyIfErased _)).trans
      (State.keeps_folioNext _))

end Sys2Proof.Machine
end

section
/-! PROOFS. What firmware update keep. -/

namespace Sys2Proof.Machine

theorem keeps_execFwQuery (k : Nat) (s : State) : s.Continues (execFwQuery k s) := by
  unfold execFwQuery
  split
  · exact .next .rfl
  · extract_lets _ _ _
    exact .next (s.keeps_endOp _ _ _ _ _ _)

theorem keeps_execFwErase (k : Nat) (s : State) : s.Continues (execFwErase k s) := by
  unfold execFwErase
  split
  · exact .next .rfl
  · extract_lets _ _ t1 _ _
    have ht1 : s.Keeps t1 := s.keeps_markSlot _ _ _
    refine .ite (.next (s.keeps_endOp _ _ _ _ _ _)) ?_
    exact .next ((ht1.trans (t1.keeps_withFw _)).trans (State.keeps_endOp _ _ _ _ _ _ _))

theorem State.keeps_slotErased (s : State) (ok : Bool) : s.Keeps (s.slotErased ok) := by
  unfold State.slotErased
  split
  · exact .rfl
  · split
    · extract_lets _ t1 _ t2 _ _ t3
      have ht1 : s.Keeps t1 := s.keeps_releaseUnit _
      have ht2 : s.Keeps t2 := ht1.trans (t1.keeps_withFw _)
      have ht3 : s.Keeps t3 := ht2.trans (t2.keeps_withFw _)
      exact .ite (ht1.trans (t1.keeps_flashError _ _)) (.ite (ht3.trans (t3.keeps_eventSM _ _ _ _ _ _)) ht3)
    · exact .rfl

theorem keeps_execFlashEraseDone (port : Nat) (ok : Bool) (s : State) : s.Continues (execFlashEraseDone port ok s) :=
  .next (.ite (s.keeps_slotErased _) (s.keeps_folioErased _))

theorem keeps_execFwWrite (k : Nat) (s : State) : s.Continues (execFwWrite k s) := by
  unfold execFwWrite
  split
  · exact .next .rfl
  · extract_lets _ _ _ _
    refine .ite (.next (s.keeps_endOpFree _ _ _ _ _ _)) ?_
    split
    · exact .next .rfl
    · split
      · rename_i t1 heq2
        have ht1 : s.Keeps t1 := .of_pair heq2 (s.keeps_unitRead _ _ _)
        refine .ite (.next (ht1.trans (t1.keeps_endOpFree _ _ _ _ _ _))) ?_
        exact .next (ht1.trans (t1.keeps_endOpFree _ _ _ _ _ _))
      · rename_i t3 heq4
        have ht3 : s.Keeps t3 := .of_pair heq4 (s.keeps_unitRead _ _ _)
        extract_lets t5 _ t6
        have ht5 : s.Keeps t5 := ht3.trans (t3.keeps_markSlot _ _ _)
        have ht6 : s.Keeps t6 := ht5.trans (t5.keeps_withFw _)
        refine .ite (.next (ht6.trans (t6.keeps_endOpFree _ _ _ _ _ _))) ?_
        exact .next ((ht6.trans (t6.keeps_setProgress _ _)).trans (State.keeps_withdraw _ _))

theorem keeps_execFwVerify (k : Nat) (s : State) : s.Continues (execFwVerify k s) := by
  unfold execFwVerify
  split
  · exact .next .rfl
  · extract_lets _ _ _
    refine .ite (.next (s.keeps_endOp _ _ _ _ _ _)) ?_
    exact .next ((s.keeps_withFw _).trans (State.keeps_endOp _ _ _ _ _ _ _))

theorem keeps_execFwVerifyDone (s : State) : s.Continues (execFwVerifyDone s) := by
  unfold execFwVerifyDone
  split
  · exact .next .rfl
  · extract_lets bad _ _ t u
    have h1 : s.Keeps u := (s.keeps_withFw _).trans (t.keeps_markSlot _ _ _)
    cases bad with
    | none => exact .next (h1.trans (u.keeps_eventSM _ _ _ _ _ _))
    | some c => exact .next (h1.trans (u.keeps_eventSM _ _ _ _ _ _))

theorem keeps_execFwActivate (k : Nat) (s : State) : s.Continues (execFwActivate k s) := by
  unfold execFwActivate
  split
  · exact .next .rfl
  · extract_lets _ t1
    have ht1 : s.Keeps t1 := (s.keeps_endOp _ _ _ _ _ _).trans (State.keeps_beginPause _ _ _ _ _ _)
    refine .ite (.next (s.keeps_endOp _ _ _ _ _ _)) ?_
    refine .ite (.next (s.keeps_endOp _ _ _ _ _ _)) ?_
    exact .next (ht1.trans (t1.keeps_firmwareRecord _ _ _ _ _ _))

theorem State.keeps_abortActivation (s : State) (x : Pause) : s.Keeps (s.abortActivation x) := by
  unfold State.abortActivation
  extract_lets _ _ _ _ t1 t2 _
  have ht1 : s.Keeps t1 := (s.keeps_writeBlock _).trans (State.keeps_showSlot _ _ _)
  have ht2 : s.Keeps t2 := (ht1.trans (t1.keeps_setFld _ _ _)).trans (State.keeps_firmwareRecord _ _ _ _ _ _ _)
  exact (ht2.trans t2.keeps_resumeService).trans (State.keeps_eventSM _ _ _ _ _ _ _)

theorem State.keeps_takeOverImage (s : State) (x : Pause) : s.Keeps (s.takeOverImage x) := by
  unfold State.takeOverImage
  extract_lets _ t1 _ t2 t3 _ t4 t5
  have ht1 : s.Keeps t1 := s.keeps_loadSlot _ _
  have ht2 : s.Keeps t2 := (ht1.trans (t1.keeps_setFld _ _ _)).trans (State.keeps_setFlag _ _ _ _)
  have ht3 : s.Keeps t3 := (ht2.trans (t2.keeps_setFlag _ _ _)).trans (State.keeps_setFld _ _ _ _)
  have ht4 : s.Keeps t4 := ht3.trans (t3.keeps_withFw _)
  have ht5 : s.Keeps t5 := (((ht4.trans (t4.keeps_count _ _)).trans (State.keeps_bumpEpoch _ _)).trans (State.keeps_resumeService _)).trans
      (State.keeps_eventSM _ _ _ _ _ _ _)
  exact ht5.trans (t5.keeps_checkSettings _)

theorem State.keeps_fallBack (s : State) (x : Pause) : s.Keeps (s.fallBack x) := by
  unfold State.fallBack
  extract_lets _ _ _ t1 t2 t3 t4 t5 _ t6 t7 _ t8
  have ht1 : s.Keeps t1 := .ite s.keeps_stopPackets .rfl
  have ht2 : s.Keeps t2 := (ht1.trans (t1.keeps_writeBlock _)).trans (State.keeps_showSlot _ _ _)
  have ht3 : s.Keeps t3 := ht2.trans (t2.keeps_loadSlot _ _)
  have ht4 : s.Keeps t4 := ((ht3.trans (t3.keeps_setFld _ _ _)).trans (State.keeps_setFld _ _ _ _)).trans (State.keeps_setFld _ _ _ _)
  have ht5 : s.Keeps t5 := ht4.trans (t4.keeps_setFld _ _ _)
  have ht6 : s.Keeps t6 := ht5.trans (t5.keeps_withFw _)
  have ht7 : s.Keeps t7 := ht6.trans (t6.keeps_firmwareRecord _ _ _ _ _ _)
  have ht8 : s.Keeps t8 := (((ht7.trans (t7.keeps_count _ _)).trans (State.keeps_bumpEpoch _ _)).trans (State.keeps_resumeService _)).trans
      (State.keeps_eventSM _ _ _ _ _ _ _)
  exact ht8.trans (t8.keeps_checkSettings _)

theorem keeps_execActivationResume (s : State) : s.Continues (execActivationResume s) := by
  unfold execActivationResume
  split
  · exact .next .rfl
  · refine .ite (.next (s.keeps_fallBack _)) ?_
    refine .ite (.next .rfl) ?_
    refine .ite (.next (s.keeps_abortActivation _)) ?_
    exact .next (s.keeps_takeOverImage _)

theorem State.keeps_confirm (s : State) (k pair : Nat) : s.Keeps (s.confirm k pair) := by
  unfold State.confirm
  extract_lets _ _ _ t1 _ _ t2 t3 _ t4 t5
  have ht1 : s.Keeps t1 := s.keeps_writeBlock _
  have ht2 : s.Keeps t2 := .ite ((ht1.trans (t1.keeps_withFw _)).trans (State.keeps_setFld _ _ _ _)) ht1
  have ht3 : s.Keeps t3 := (ht2.trans (t2.keeps_setFld _ _ _)).trans (State.keeps_setFld _ _ _ _)
  have ht4 : s.Keeps t4 := ht3.trans (t3.keeps_withFw _)
  have ht5 : s.Keeps t5 := ht4.trans (t4.keeps_eventSM _ _ _ _ _ _)
  exact (ht5.trans (t5.keeps_setProgress _ _)).trans (State.keeps_firmwareRecord _ _ _ _ _ _ _)

theorem keeps_execFwConfirm (k : Nat) (s : State) : s.Continues (execFwConfirm k s) := by
  unfold execFwConfirm
  split
  · exact .next .rfl
  · extract_lets _ _ t1
    have ht1 : s.Keeps t1 := .ite (s.keeps_withFw _) (s.keeps_setFld _ _ _)
    refine .ite (.next .rfl) ?_
    refine .ite (.next (s.keeps_endOp _ _ _ _ _ _)) ?_
    refine .ite (.next (s.keeps_endOp _ _ _ _ _ _)) ?_
    refine .ite (.next (s.keeps_endOp _ _ _ _ _ _)) ?_
    refine .ite (.next (ht1.trans (t1.keeps_confirm _ _))) ?_
    exact .next (ht1.trans (t1.keeps_endOp _ _ _ _ _ _))

theorem keeps_execFwAbandon (k : Nat) (s : State) : s.Continues (execFwAbandon k s) := by
  unfold execFwAbandon
  split
  · exact .next .rfl
  · extract_lets _
    refine .ite (.next (s.keeps_endOp _ _ _ _ _ _)) ?_
    refine .ite (.next (s.keeps_endOp _ _ _ _ _ _)) ?_
    exact .next ((s.keeps_endOp _ _ _ _ _ _).trans (State.keeps_beginPause _ _ _ _ _ _))

theorem keeps_execHealthWindowExpiry (s : State) : s.Continues (execHealthWindowExpiry s) := by
  unfold execHealthWindowExpiry
  split
  · exact .next .rfl
  · refine .ite (.next .rfl) ?_
    exact .next (s.keeps_beginPause _ _ _ _ _)

end Sys2Proof.Machine
end

section
/-! PROOFS. What boot keep. -/

namespace Sys2Proof.Machine

theorem State.keeps_copyField (s old : State) (f : Fld × Nat) : s.Keeps (s.copyField old f) := by
  unfold State.copyField
  exact .foldl (fun t _ => t.keeps_setFld _ _ _) _ _

/-- Memory and registers of which some entries are forgotten, with no inks, stay canonical. -/
theorem State.Canonical.filtered {s t : State} (h : s.Canonical) (p : Host.Cell → Bool) (q : Nat × Word → Bool)
    (hm : t.mem = s.mem.filter p) (hr : t.regs = s.regs.filter q) (hi : t.mc.inks = []) : t.Canonical := by
  refine ⟨?_, ?_, ?_⟩
  · rw [hm]; exact Memory.wf_filter _ _ h.1
  · rw [hr]; exact SMap.wf_filter _ _ _ h.2.1
  · rw [hi]; rfl

theorem State.keeps_afterReset (s : State) (warm : Bool) : s.Keeps (s.afterReset warm) := by
  unfold State.afterReset
  extract_lets _ _ _ _ _ t0 t1 t2 t3 t4
  have h0 : s.Keeps t0 := ⟨rfl, fun h => h.filtered _ _ rfl rfl rfl⟩
  have h1 : s.Keeps t1 := (h0.trans (State.keeps_keepPins _ _)).trans (State.keeps_setFld _ _ _ _)
  refine .ite h1 ?_
  have h2 : s.Keeps t2 := h1.trans (.foldl (fun t _ => t.keeps_copyField _ _) _ _)
  have h3 : s.Keeps t3 := h2.trans (.foldl (fun t _ => t.keeps_setAct _ _) _ _)
  have h4 : s.Keeps t4 := h3.trans (.foldl (fun t _ => .ite (t.keeps_setFld _ _ _) .rfl) _ _)
  exact (h4.trans (.foldl (fun t _ => t.keeps_bumpEpoch _) _ _)).trans (State.keeps_count _ _ _)

theorem State.keeps_bootSwap (s : State) (n : Nat) : s.Keeps (s.bootSwap n) := (s.keeps_swapOutput _).trans (State.keeps_setFld _ _ _ _)

theorem State.keeps_bootMode {s t : State} {n : Nat} {l : List Byte} (h : s.bootMode n l = some t) : s.Keeps t := by
  simp only [State.bootMode] at h
  split at h
  · cases h
  · cases h
    exact s.keeps_acceptMode _ _

theorem State.keeps_bootModes {l : List (Nat × List Byte)} {s t : State} (h : State.bootModes l s = some t) : s.Keeps t := by
  induction l generalizing s with
  | nil => cases h; exact .rfl
  | cons e l ih =>
    simp only [State.bootModes] at h
    split at h
    · cases h
    · rename_i heq
      exact (State.keeps_bootMode heq).trans (ih h)

theorem State.keeps_bootList {s t : State} {n layer off : Nat} (h : s.bootList n layer off = some t) : s.Keeps t := by
  simp only [State.bootList] at h
  split at h
  · cases h
  · split at h
    · cases h
    · cases h
      exact ((s.keeps_lockPages _ _).trans (State.keeps_makePending _ _ _)).trans (State.keeps_showPeaks _ _)

theorem State.keeps_bootLists {l : List (Nat × Nat × Nat)} {s t : State} (h : State.bootLists l s = some t) : s.Keeps t := by
  induction l generalizing s with
  | nil => cases h; exact .rfl
  | cons e l ih =>
    simp only [State.bootLists] at h
    split at h
    · cases h
    · rename_i heq
      exact (State.keeps_bootList heq).trans (ih h)

theorem State.keeps_bootPlate {s t : State} {plate : List Byte} {lists : List (Nat × Nat × Nat)} {modes : List (Nat × List Byte)}
    (h : s.bootPlate plate lists modes = some t) : s.Keeps t := by
  simp only [State.bootPlate] at h
  split at h
  · cases h
  · rename_i hm
    split at h
    · cases h
    · rename_i hl
      cases h
      exact (((s.keeps_putBytes _ _).trans (State.keeps_bootModes hm)).trans (State.keeps_bootLists hl)).trans (.foldl (fun t _ => t.keeps_bootSwap
          _) _ _)

theorem State.keeps_defaultPlate (s : State) : s.Keeps s.defaultPlate := by
  unfold State.defaultPlate
  extract_lets outs
  cases h : s.bootPlate Config.defaultPlate (outs.map (fun n => (n, 3, 0))) (outs.map (fun n => (n, defaultMode n))) with
  | none => exact .rfl
  | some t => exact State.keeps_bootPlate h

theorem State.keeps_startupPlate (s : State) (bundle : Option (List Byte)) : s.Keeps (s.startupPlate bundle) := by
  unfold State.startupPlate
  split
  · exact s.keeps_defaultPlate
  · split
    · rename_i heq
      exact State.keeps_bootPlate heq
    · exact s.keeps_defaultPlate

theorem State.keeps_chooseSlot (s : State) (pair : Nat) : s.Keeps (s.chooseSlot pair).2 := by
  unfold State.chooseSlot
  extract_lets _ _ _ _ t1 _ t2
  have ht1 : s.Keeps t1 := .ite (s.keeps_writeBlock _) .rfl
  have ht2 : s.Keeps t2 := ht1.trans (t1.keeps_writeBlock _)
  split
  · exact (ht1.trans (t1.keeps_showSlot _ _)).trans (State.keeps_markSlot _ _ _ _)
  · split
    · exact ht1.trans (t1.keeps_showSlot _ _)
    · exact (ht2.trans (t2.keeps_showSlot _ _)).trans (State.keeps_markSlot _ _ _ _)

theorem State.keeps_reportChoice (s : State) (pair : Nat) (c : Chosen) : s.Keeps (s.reportChoice pair c) := by
  unfold State.reportChoice
  extract_lets t1
  have ht1 : s.Keeps t1 := by
    unfold t1
    split
    · exact .rfl
    · extract_lets _ t2
      have ht2 : s.Keeps t2 := ((s.keeps_count _ _).trans (State.keeps_firmwareRecord _ _ _ _ _ _ _)).trans (State.keeps_bumpEpoch _ _)
      exact ht2.trans (t2.keeps_eventSM _ _ _ _ _ _)
  split
  · exact ht1.trans (t1.keeps_eventSM _ _ _ _ _ _)
  · exact ht1

theorem State.keeps_folioBad (s : State) (code device : Nat) : s.Keeps (s.folioBad code device) :=
  ((s.keeps_setFld _ _ _).trans (State.keeps_raise _ _)).trans (State.keeps_eventSM _ _ _ _ _ _ _)

theorem State.keeps_replayFolio (s : State) : s.Keeps s.replayFolio := by
  unfold State.replayFolio
  extract_lets _ _ _ _ t1 _ _ t2 t3 _
  have ht1 : s.Keeps t1 := ((s.keeps_setFlag _ _ _).trans (State.keeps_setFld _ _ _ _)).trans (State.keeps_setFld _ _ _ _)
  have ht2 : s.Keeps t2 := ht1.trans (t1.keeps_withFol _)
  have ht3 : s.Keeps t3 := ht2.trans (t2.keeps_setFld _ _ _)
  exact .ite (s.keeps_folioBad _ _) (.ite (.ite (ht3.trans (t3.keeps_withFol _)) (ht2.trans t2.keeps_compactIfFull)) (.ite s.keeps_newFolio (.ite
      (s.keeps_folioBad _ _) (s.keeps_folioBad _ _))))

theorem State.keeps_loadWear (s : State) (a : Nat) : s.Keeps (s.loadWear a) := by
  unfold State.loadWear
  split
  · exact .rfl
  · extract_lets w1 t2 t3 _
    have ht2 : s.Keeps t2 := ((s.keeps_setRg _ _).trans (State.keeps_setRg _ _ _)).trans (State.keeps_setRg _ _ _)
    have ht3 : s.Keeps t3 := (ht2.trans (t2.keeps_setRg _ _)).trans (State.keeps_setFlag _ _ _ _)
    exact ht3.trans (t3.keeps_setAct _ _)

theorem State.keeps_recount (s : State) : s.Keeps s.recount := by
  unfold State.recount
  extract_lets body1 _ _ _ _ _ _ _
  exact .of_rest

theorem State.keeps_checkSeal (s : State) : s.Keeps s.checkSeal := by
  unfold State.checkSeal
  split
  · exact .rfl
  · extract_lets _ _ _ t1 t2 t3
    have ht1 : s.Keeps t1 := s.keeps_withPwr _
    have ht2 : s.Keeps t2 := ht1.trans (.foldl (fun t _ => t.keeps_setRg _ _) _ _)
    have ht3 : s.Keeps t3 := (ht2.trans (t2.keeps_setFld _ _ _)).trans (State.keeps_setFld _ _ _ _)
    exact .ite (ht3.trans (t3.keeps_event _ _ _ _ _ _ _ _)) ((ht1.trans (t1.keeps_count _ _)).trans (State.keeps_event _ _ _ _ _ _ _ _ _))

theorem State.keeps_countBoot (s : State) : s.Keeps s.countBoot := by
  unfold State.countBoot
  refine .ite ?_ (s.keeps_setRg _ _)
  extract_lets t1 t2 _ t3
  have ht1 : s.Keeps t1 := (s.keeps_setFld _ _ _).trans (State.keeps_setFld _ _ _ _)
  have ht2 : s.Keeps t2 := ht1.trans (t1.keeps_setRg _ _)
  have ht3 : s.Keeps t3 := ht2.trans (t2.keeps_withPwr _)
  exact ht3.trans (t3.keeps_event _ _ _ _ _ _ _ _)

theorem State.keeps_recordOpenings (s : State) : s.Keeps s.recordOpenings := by
  unfold State.recordOpenings
  refine .ite .rfl ?_
  extract_lets _ _
  exact (s.keeps_withPwr _).trans (.foldl (fun t _ => t.keeps_folioWrite _) _ _)

theorem State.keeps_bootAlwaysOn (s : State) (warm : Bool) : s.Keeps (s.bootAlwaysOn warm) := by
  unfold State.bootAlwaysOn
  refine .ite .rfl ?_
  extract_lets t1 t2 t3
  have ht1 : s.Keeps t1 := .ite s.keeps_recount .rfl
  have ht2 : s.Keeps t2 := ((ht1.trans t1.keeps_checkSeal).trans (State.keeps_countBoot _)).trans (State.keeps_count _ _ _)
  have ht3 : s.Keeps t3 := ht2.trans (.foldl (fun t _ => t.keeps_setFld _ _ _) _ _)
  exact ht3.trans (.foldl (fun t _ => t.keeps_loadWear _) _ _)

theorem State.keeps_recordDebug (s : State) : s.Keeps s.recordDebug := .ite (s.keeps_folioWrite _) .rfl

theorem State.keeps_releaseCores (s : State) : s.Keeps s.releaseCores := by
  unfold State.releaseCores
  split
  · exact (s.keeps_withFlt _).trans (State.keeps_eventSM _ _ _ _ _ _ _)
  · exact s.keeps_withFlt _

theorem State.keeps_recoveryBoot (s : State) : s.Keeps s.recoveryBoot := by
  unfold State.recoveryBoot
  extract_lets t1 _ _
  have ht1 : s.Keeps t1 := s.keeps_defaultPlate
  exact ht1.trans State.Keeps.of_rest

theorem State.keeps_releasePins (s : State) (held : Bool) : s.Keeps (s.releasePins held) := by
  unfold State.releasePins
  extract_lets _ _
  exact (s.keeps_withFlt _).trans (State.keeps_setFlag _ _ _ _)

theorem State.keeps_clearDram (s : State) : s.Keeps s.clearDram := ⟨rfl, fun h => ⟨Memory.wf_filter _ _ h.1, h.2.1, rfl⟩⟩

theorem State.keeps_trainDram (s : State) (warm : Bool) : s.Keeps (s.trainDram warm) := by
  unfold State.trainDram
  extract_lets _ _ t1 _ t2
  have ht1 : s.Keeps t1 := .ite .rfl (((s.keeps_setFld _ _ _).trans (State.keeps_setFld _ _ _ _)).trans (State.keeps_setFld _ _ _ _))
  have ht2 : s.Keeps t2 := ht1.trans (t1.keeps_withMc _ (Eq.refl _))
  exact ht2.trans (.foldl (fun t _ => .ite .rfl (t.keeps_setFld _ _ _)) _ _)

theorem State.keeps_allReady (s : State) : s.Keeps s.allReady := ((s.keeps_withPwr _).trans (State.keeps_setRg _ _ _)).trans (State.keeps_setRg _ _ _)

theorem State.keeps_bootFrom (s : State) (warm : Bool) (c0 : Chosen) (slot : Nat) : s.Keeps (s.bootFrom warm c0 slot) := by
  unfold State.bootFrom
  extract_lets x1 t2 t3 t4 t5 t6 t7 _ t8
  have hx1 : s.Keeps x1.2 := s.keeps_chooseSlot _
  have ht2 : s.Keeps t2 := (hx1.trans (State.keeps_loadSlot _ _ _)).trans (State.keeps_releasePins _ _)
  have ht3 : s.Keeps t3 := ((ht2.trans t2.keeps_replayFolio).trans (State.keeps_bootAlwaysOn _ _)).trans (State.keeps_recordOpenings _)
  have ht4 : s.Keeps t4 := ((ht3.trans (t3.keeps_reportChoice _ _)).trans (State.keeps_reportChoice _ _ _)).trans (State.keeps_recordDebug _)
  have ht5 : s.Keeps t5 := ht4.trans (t4.keeps_checkSettings _)
  clear_value t2 t3 t4 t5
  have ht6 : s.Keeps t6 := by
    unfold t6
    split
    · exact (ht5.trans (t5.keeps_startupPlate _)).trans (State.keeps_loadSlot _ _ _)
    · exact ht5.trans (t5.keeps_startupPlate _)
  have ht7 : s.Keeps t7 := ht6.trans (t6.keeps_trainDram _)
  have ht8 : s.Keeps t8 := ht7.trans (t7.keeps_withFw _)
  exact (((ht8.trans t8.keeps_clearDram).trans (State.keeps_allReady _)).trans (State.keeps_releaseCores _)).trans (State.keeps_evalCalendar _)

theorem State.keeps_boot (s : State) (warm : Bool) : s.Keeps (s.boot warm) := by
  unfold State.boot
  extract_lets _ _ t1
  have ht1 : s.Keeps t1 := .of_rest
  split
  · rename_i t2 heq3
    have ht2 : s.Keeps t2 := .of_pair heq3 (ht1.trans (t1.keeps_chooseSlot _))
    split
    · exact ht2.trans t2.keeps_recoveryBoot
    · exact ht2.trans (t2.keeps_bootFrom _ _ _)

theorem keeps_execColdBoot (s : State) : s.Continues (execColdBoot s) := by
  unfold execColdBoot
  refine .ite (.next .rfl) ?_
  extract_lets t1 _
  have ht1 : s.Keeps t1 := s.keeps_afterReset _
  exact .next ((ht1.trans (t1.keeps_withWld _)).trans (State.keeps_boot _ _))

theorem State.keeps_writeSlotA (s : State) (image : List Byte) : s.Keeps (s.writeSlotA image) := by
  unfold State.writeSlotA
  extract_lets _ _
  exact s.keeps_withFw _

theorem keeps_execUartRecoveryImage (image : List Byte) (s : State) : s.Continues (execUartRecoveryImage image s) := by
  unfold execUartRecoveryImage
  refine .ite (.next .rfl) ?_
  extract_lets _ _ t1 t2
  have ht1 : s.Keeps t1 := s.keeps_writeSlotA _
  have ht2 : s.Keeps t2 := ht1.trans (t1.keeps_writeBlock _)
  split
  · exact .next .rfl
  · exact .next ((ht2.trans (t2.keeps_afterReset _)).trans (State.keeps_boot _ _))

end Sys2Proof.Machine
end

section
/-! PROOFS. What the command interface keep. -/

namespace Sys2Proof.Machine

theorem State.keeps_makeResident (s : State) (n : Nat) : s.Keeps (s.makeResident n) := s.keeps_withCp _

theorem State.keeps_evict (s : State) (n : Nat) : s.Keeps (s.evict n) := s.keeps_withCp _

theorem State.keeps_wantResident (s : State) (r : RingId) : s.Keeps (s.wantResident r) := by
  unfold State.wantResident
  split
  · extract_lets _ _
    exact .ite .rfl (.ite (s.keeps_makeResident _) (s.keeps_withCp _))
  · exact .rfl

theorem keeps_execContextResident (s : State) : s.Continues (execContextResident s) := by
  unfold execContextResident
  refine .ite (.next .rfl) ?_
  extract_lets best
  cases best with
  | none => exact .next .rfl
  | some n => exact .next (s.keeps_makeResident _)

theorem State.keeps_readEntries (r : RingId) (x : RingSet) (n i : Nat) (acc : List Byte) (s : State) :
    s.Keeps (State.readEntries r x n i acc s).2 := by
  induction n generalizing i acc s with
  | zero => exact .rfl
  | succ n ih =>
    simp only [State.readEntries]
    split <;> rename_i heq
    · exact .of_pair heq (s.keeps_dmaRead _ _ _)
    · exact (State.Keeps.of_pair heq (s.keeps_dmaRead _ _ _)).trans (ih _ _ _)

theorem State.keeps_passHead (s : State) (r : RingId) (entries : Nat) : s.Keeps (s.passHead r entries) := by
  unfold State.passHead
  extract_lets _
  exact s.keeps_setRing _ _

theorem State.keeps_refuse (s : State) (r : RingId) (p : Packet) (status r0 : Nat) : s.Keeps (s.refuse r p status r0) := s.keeps_complete _ _ _

theorem State.keeps_start (s : State) (r : RingId) (p : Packet) : s.Keeps (s.start r p) := by
  unfold State.start
  extract_lets t1 t2
  have ht1 : s.Keeps t1 := s.keeps_setPlace _ _
  have ht2 : s.Keeps t2 := ht1.trans (t1.keeps_passHead _ _)
  split
  · extract_lets _
    exact ht2.trans (t2.keeps_setClient _ _)
  · exact ht2

theorem State.keeps_haltRing (s : State) (r : RingId) (why : Nat) : s.Keeps (s.haltRing r why) := by
  unfold State.haltRing
  extract_lets _ t1 t2
  have ht1 : s.Keeps t1 := s.keeps_setRing _ _
  clear_value t1
  have ht2 : s.Keeps t2 := by
    unfold t2
    split
    · exact ht1.trans (t1.keeps_raise _)
    · exact ht1
  exact ht2.trans (t2.keeps_event _ _ _ _ _ _ _ _)

theorem State.keeps_waitHolds (s : State) (r : RingId) (p : Packet) : s.Keeps (s.waitHolds r p).2 := by
  unfold State.waitHolds
  split
  · exact .rfl
  · split
    · exact .rfl
    · split
      · rename_i t1 heq2
        exact .of_pair heq2 (s.keeps_dmaRead _ _ _)
      · rename_i t3 heq4
        exact .of_pair heq4 (s.keeps_dmaRead _ _ _)

theorem State.keeps_startOrWait (s : State) (r : RingId) (p : Packet) (since : Nat) : s.Keeps (s.startOrWait r p since) := by
  unfold State.startOrWait
  split
  · rename_i t1 heq2
    have ht1 : s.Keeps t1 := .of_pair heq2 (s.keeps_waitHolds _ _)
    exact ((ht1.trans (t1.keeps_noteFault _)).trans (State.keeps_passHead _ _ _)).trans (State.keeps_refuse _ _ _ _ _)
  · rename_i t3 heq4
    have ht3 : s.Keeps t3 := .of_pair heq4 (s.keeps_waitHolds _ _)
    refine .ite (ht3.trans (t3.keeps_start _ _)) ?_
    extract_lets _
    exact ht3.trans (t3.keeps_setRing _ _)
  · rename_i t5 heq6
    have ht5 : s.Keeps t5 := .of_pair heq6 (s.keeps_waitHolds _ _)
    extract_lets _
    exact ht5.trans (t5.keeps_setRing _ _)

theorem keeps_execPacketStart (ring : RingId) (s : State) : s.Continues (execPacketStart ring s) := by
  unfold execPacketStart
  extract_lets _
  refine .ite (.next .rfl) ?_
  split
  · rename_i t1 heq2
    have ht1 : s.Keeps t1 := .of_pair heq2 (s.keeps_dmaRead _ _ _)
    exact .next ((ht1.trans (t1.keeps_noteFault _)).trans (State.keeps_haltRing _ _ _))
  · rename_i t3 heq4
    have ht3 : s.Keeps t3 := .of_pair heq4 (s.keeps_dmaRead _ _ _)
    extract_lets _ _ _ t5 _
    have ht5 : s.Keeps t5 := ht3.trans (t3.keeps_haltRing _ _)
    refine .ite ?_ ?_
    · refine .ite (.next ((ht5.trans (t5.keeps_reserve _)).trans (State.keeps_refuse _ _ _ _ _))) ?_
      exact .next (ht5.trans (t5.keeps_setRing _ _))
    · refine .ite (.next ht3) ?_
      split
      · rename_i t6 heq7
        have ht6 : s.Keeps t6 := .of_pair heq7 (ht3.trans (t3.keeps_readEntries _ _ _ _ _))
        exact .next ((ht6.trans (t6.keeps_noteFault _)).trans (State.keeps_haltRing _ _ _))
      · rename_i t8 heq9
        have ht8 : s.Keeps t8 := .of_pair heq9 (ht3.trans (t3.keeps_readEntries _ _ _ _ _))
        extract_lets _ t10
        have ht10 : s.Keeps t10 := ht8.trans (t8.keeps_reserve _)
        split
        · exact .next ((ht10.trans (t10.keeps_passHead _ _)).trans (State.keeps_refuse _ _ _ _ _))
        · exact .next (ht10.trans (t10.keeps_startOrWait _ _ _))

theorem keeps_execFenceEvaluate (ring : RingId) (s : State) : s.Continues (execFenceEvaluate ring s) := by
  unfold execFenceEvaluate
  split
  · exact .next .rfl
  · exact .next (s.keeps_startOrWait _ _ _)

theorem keeps_execFenceTimeout (ring : RingId) (s : State) : s.Continues (execFenceTimeout ring s) := by
  unfold execFenceTimeout
  extract_lets _ _
  split
  · exact .next .rfl
  · refine .ite (.next .rfl) ?_
    split
    · rename_i t1 heq2
      have ht1 : s.Keeps t1 := .of_pair heq2 (s.keeps_waitHolds _ _)
      exact .next ((ht1.trans (t1.keeps_passHead _ _)).trans (State.keeps_refuse _ _ _ _ _))
    · exact .next (s.keeps_startOrWait _ _ _)

theorem keeps_execPacketComplete (k : Nat) (s : State) : s.Continues (execPacketComplete k s) := by
  unfold execPacketComplete
  split
  · exact .next .rfl
  · split
    · exact .next .rfl
    · refine .ite (.next .rfl) ?_
      extract_lets r t signals out
      have h1 : s.Keeps t := s.keeps_setPlace _ _
      have h2 : s.Keeps out.2 := by
        unfold out
        split
        · exact h1.trans (t.keeps_dmaWrite _ _ _)
        · exact h1
      clear_value out
      obtain ⟨_ | f, u⟩ := out
      · exact .ite (.next (h2.trans (u.keeps_unreserve _))) (.next (h2.trans (u.keeps_complete _ _ _)))
      · exact .next ((h2.trans (u.keeps_noteFault _)).trans (State.keeps_complete _ _ _ _))

theorem State.keeps_doorBad (s : State) (r : RingId) (off : Nat) (v : Word) : s.Keeps (s.doorBad r off v) := by
  unfold State.doorBad
  extract_lets _ t1 t2
  have ht1 : s.Keeps t1 := s.keeps_setRing _ _
  clear_value t1
  have ht2 : s.Keeps t2 := by
    unfold t2
    split
    · exact ht1.trans (t1.keeps_raise _)
    · exact ht1
  exact ht2.trans (t2.keeps_event _ _ _ _ _ _ _ _)

theorem keeps_execSqTailDoorbell (who : Who) (ring : RingId) (v : Word) (s : State) : s.Continues (execSqTailDoorbell who ring v s) := by
  unfold execSqTailDoorbell
  extract_lets _
  refine .ite (.next .rfl) ?_
  refine .ite (.next (s.keeps_doorBad _ _ _)) ?_
  refine .ite (.next .rfl) ?_
  exact .next ((s.keeps_setRing _ _).trans (State.keeps_wantResident _ _))

theorem State.keeps_retryStalled (r : RingId) (l : List (Packet × Result)) (s : State) : s.Keeps (State.retryStalled r l s) := by
  induction l generalizing s with
  | nil => exact s.keeps_setRing _ _
  | cons e t ih =>
    simp only [State.retryStalled]
    split <;> rename_i heq
    · exact (State.Keeps.of_pair heq (s.keeps_putCompletion _ _ _)).trans (ih _)
    · exact (State.Keeps.of_pair heq (s.keeps_putCompletion _ _ _)).trans (State.keeps_setRing _ _ _)

theorem State.keeps_payHalt (s : State) (r : RingId) : s.Keeps (s.payHalt r) := by
  unfold State.payHalt
  extract_lets _
  split
  · exact .rfl
  · exact .ite (((s.keeps_setRing _ _).trans (State.keeps_reserve _ _)).trans (State.keeps_refuse _ _ _ _ _)) .rfl

theorem keeps_execCqHeadDoorbell (who : Who) (ring : RingId) (v : Word) (s : State) : s.Continues (execCqHeadDoorbell who ring v s) := by
  unfold execCqHeadDoorbell
  extract_lets _ t1
  have ht1 : s.Keeps t1 := s.keeps_setRing _ _
  refine .ite (.next .rfl) ?_
  refine .ite (.next (s.keeps_doorBad _ _ _)) ?_
  exact .next ((ht1.trans (t1.keeps_retryStalled _ _)).trans (State.keeps_payHalt _ _))

theorem State.keeps_payLost (s : State) (r : RingId) : s.Keeps (s.payLost r) := by
  unfold State.payLost
  extract_lets _ t1 _
  have ht1 : s.Keeps t1 := s.keeps_putEvent _ _ _ _ _ _ _ _ _
  exact .ite .rfl (.ite (ht1.trans (t1.keeps_setRing _ _)) (ht1.trans (t1.keeps_setRing _ _)))

theorem keeps_execEqHeadDoorbell (who : Who) (ring : RingId) (v : Word) (s : State) : s.Continues (execEqHeadDoorbell who ring v s) := by
  unfold execEqHeadDoorbell
  extract_lets _ t1
  have ht1 : s.Keeps t1 := s.keeps_setRing _ _
  refine .ite (.next .rfl) ?_
  refine .ite (.next (s.keeps_doorBad _ _ _)) ?_
  exact .next (.ite ht1 (ht1.trans (t1.keeps_payLost _)))

theorem keeps_execSqResume (who : Who) (ring : RingId) (v : Word) (s : State) : s.Continues (execSqResume who ring v s) := by
  unfold execSqResume
  extract_lets _
  refine .ite (.next .rfl) ?_
  refine .ite (.next (s.keeps_doorBad _ _ _)) ?_
  exact .next ((s.keeps_setRing _ _).trans (State.keeps_wantResident _ _))

theorem keeps_execNop (k : Nat) (s : State) : s.Continues (execNop k s) := by
  unfold execNop
  split
  · exact .next .rfl
  · exact .next (s.keeps_endOp _ _ _ _ _ _)

theorem keeps_execRingSetup (k : Nat) (s : State) : s.Continues (execRingSetup k s) := by
  unfold execRingSetup
  split
  · exact .next .rfl
  · extract_lets _ _ t1 _
    have ht1 : s.Keeps t1 := s.keeps_setRing _ _
    refine .ite (.next (s.keeps_endOp _ _ _ _ _ _)) ?_
    refine .ite (.next (s.keeps_endOp _ _ _ _ _ _)) ?_
    exact .next ((ht1.trans (t1.keeps_setClient _ _)).trans (State.keeps_endOp _ _ _ _ _ _ _))

theorem State.keeps_beginDrain (s : State) (r : RingId) (by_ : Option Nat) : s.Keeps (s.beginDrain r by_) := by
  unfold State.beginDrain
  extract_lets _ _
  exact s.keeps_setRing _ _

theorem keeps_execRingDisable (k : Nat) (s : State) : s.Continues (execRingDisable k s) := by
  unfold execRingDisable
  split
  · exact .next .rfl
  · extract_lets _ _
    refine .ite (.next .rfl) ?_
    refine .ite (.next (s.keeps_endOp _ _ _ _ _ _)) ?_
    refine .ite (.next (s.keeps_endOp _ _ _ _ _ _)) ?_
    exact .next ((s.keeps_beginDrain _ _).trans (State.keeps_setProgress _ _ _))

theorem keeps_execRingSetDrained (ring : RingId) (s : State) : s.Continues (execRingSetDrained ring s) := by
  unfold execRingSetDrained
  extract_lets _ t1 _ t2
  have ht1 : s.Keeps t1 := s.keeps_setRing _ _
  clear_value t1
  have ht2 : s.Keeps t2 := by
    unfold t2
    split
    · exact ht1.trans (t1.keeps_withCp _)
    · exact ht1
  refine .ite ?_ ?_
  · split
    · exact .next (ht2.trans (t2.keeps_endOp _ _ _ _ _ _))
    · exact .next ht2
  · exact .next .rfl

theorem keeps_execRingQuery (k : Nat) (s : State) : s.Continues (execRingQuery k s) := by
  unfold execRingQuery
  split
  · exact .next .rfl
  · extract_lets _ _
    exact .next (s.keeps_endOp _ _ _ _ _ _)

theorem keeps_execEventMask (k : Nat) (s : State) : s.Continues (execEventMask k s) := by
  unfold execEventMask
  split
  · exact .next .rfl
  · extract_lets _
    exact .next ((s.keeps_setRing _ _).trans (State.keeps_endOp _ _ _ _ _ _ _))

theorem keeps_execTimeRead (k : Nat) (s : State) : s.Continues (execTimeRead k s) := by
  unfold execTimeRead
  split
  · exact .next .rfl
  · exact .next (s.keeps_endOp _ _ _ _ _ _)

theorem keeps_execPringEnable (who : Who) (p : Nat) (v : Word) (s : State) : s.Continues (execPringEnable who p v s) := by
  unfold execPringEnable
  extract_lets _ _ t1 _
  have ht1 : s.Keeps t1 := s.keeps_setRg _ _
  refine .ite (.next .rfl) ?_
  refine .ite (.next (s.keeps_setRg _ _)) ?_
  exact .next (ht1.trans (t1.keeps_setRing _ _))

theorem keeps_execPringDisable (who : Who) (p : Nat) (v : Word) (s : State) : s.Continues (execPringDisable who p v s) := by
  unfold execPringDisable
  extract_lets _
  refine .ite (.next .rfl) ?_
  exact .next ((s.keeps_setRg _ _).trans (State.keeps_beginDrain _ _ _))

end Sys2Proof.Machine
end

section
/-! PROOFS. What Dzivlink keep. -/

namespace Sys2Proof.Machine

theorem keeps_execLinkSet (k : Nat) (s : State) : s.Continues (execLinkSet k s) := by
  unfold execLinkSet
  split
  · exact .next .rfl
  · extract_lets _ _ _ t1 t2 _ _
    have ht1 : s.Keeps t1 := .ite .rfl (s.keeps_setFld _ _ _)
    have ht2 : s.Keeps t2 := (ht1.trans (t1.keeps_setFld _ _ _)).trans (State.keeps_setFld _ _ _ _)
    refine .ite (.next (s.keeps_endOp _ _ _ _ _ _)) ?_
    exact .next ((ht2.trans (t2.keeps_withDziv _)).trans (State.keeps_endOp _ _ _ _ _ _ _))

theorem keeps_execEthLinkChange (port : Nat) (up : Bool) (s : State) : s.Continues (execEthLinkChange port up s) := by
  unfold execEthLinkChange
  refine .ite (.next .rfl) ?_
  exact .next (s.keeps_setFlag _ _ _)

theorem keeps_execLinkQuery (k : Nat) (s : State) : s.Continues (execLinkQuery k s) := by
  unfold execLinkQuery
  split
  · exact .next .rfl
  · exact .next (s.keeps_endOp _ _ _ _ _ _)

theorem keeps_execTimeSet (k : Nat) (s : State) : s.Continues (execTimeSet k s) := by
  unfold execTimeSet
  split
  · exact .next .rfl
  · exact .next ((s.keeps_withDziv _).trans (State.keeps_endOp _ _ _ _ _ _ _))

theorem State.keeps_unlock (s : State) (n : Nat) : s.Keeps (s.unlock n) := by
  unfold State.unlock
  split
  · exact .rfl
  · extract_lets _ t1
    have ht1 : s.Keeps t1 := (s.keeps_setFrameLock _ _).trans (State.keeps_setFld _ _ _ _)
    exact .ite (ht1.trans (t1.keeps_lockEvent _ _ _)) ht1

theorem State.keeps_unlockAll (s : State) : s.Keeps s.unlockAll := by
  unfold State.unlockAll
  exact .foldl (fun t _ => t.keeps_unlock _) _ _

theorem State.keeps_stepTime (s : State) (d : ℤ) : s.Keeps (s.stepTime d) := by
  unfold State.stepTime
  extract_lets _ t1 _
  have ht1 : s.Keeps t1 := .of_rest
  exact ((ht1.trans (t1.keeps_raise _)).trans (State.keeps_eventSM _ _ _ _ _ _ _)).trans (State.keeps_unlockAll _)

theorem keeps_execPtpMessage (port : Nat) (off : ℤ) (gm : Bool) (s : State) : s.Continues (execPtpMessage port off gm s) := by
  unfold execPtpMessage
  refine .ite (.next .rfl) ?_
  refine .ite ?_ ?_
  · refine .ite (.next .rfl) ?_
    extract_lets t1 t2 _
    have ht1 : s.Keeps t1 := (s.keeps_setFld _ _ _).trans (State.keeps_setFld _ _ _ _)
    have ht2 : s.Keeps t2 := ((ht1.trans (t1.keeps_setFld _ _ _)).trans (State.keeps_setFld _ _ _ _)).trans (State.keeps_setFld _ _ _ _)
    exact .next (ht2.trans (t2.keeps_withDziv _))
  · extract_lets _ t3 t4 _ t5
    have ht3 : s.Keeps t3 := (s.keeps_setFld _ _ _).trans (State.keeps_setFld _ _ _ _)
    have ht4 : s.Keeps t4 := ((ht3.trans (t3.keeps_setFld _ _ _)).trans (State.keeps_setFld _ _ _ _)).trans (State.keeps_setFld _ _ _ _)
    have ht5 : s.Keeps t5 := ht4.trans (t4.keeps_withDziv _)
    refine .ite (.next (ht5.trans (t5.keeps_stepTime _))) ?_
    exact .next (ht5.trans (t5.keeps_withDevOff _))

theorem keeps_execSyncTimeout (other : Bool) (s : State) : s.Continues (execSyncTimeout other s) := by
  unfold execSyncTimeout
  refine .ite (.next .rfl) ?_
  extract_lets _ t1
  have ht1 : s.Keeps t1 := s.keeps_setFld _ _ _
  refine .ite (.next (ht1.trans (t1.keeps_setFld _ _ _))) ?_
  exact .next ((((ht1.trans (t1.keeps_setFld _ _ _)).trans (State.keeps_raise _ _)).trans (State.keeps_eventSM _ _ _ _ _ _ _)).trans
      (State.keeps_unlockAll _))

theorem keeps_execLockSet (k : Nat) (s : State) : s.Continues (execLockSet k s) := by
  unfold execLockSet
  split
  · exact .next .rfl
  · extract_lets _ _
    refine .ite (.next (((s.keeps_unlock _).trans (State.keeps_setFrameLock _ _ _)).trans (State.keeps_endOp _ _ _ _ _ _ _))) ?_
    refine .ite (.next (s.keeps_endOp _ _ _ _ _ _)) ?_
    refine .ite (.next (s.keeps_endOp _ _ _ _ _ _)) ?_
    exact .next (((s.keeps_unlock _).trans (State.keeps_setFrameLock _ _ _)).trans (State.keeps_endOp _ _ _ _ _ _ _))

theorem State.keeps_trackLock (s : State) (n : Nat) : s.Keeps (s.trackLock n) := by
  unfold State.trackLock
  split
  · exact .rfl
  · extract_lets _ _ _ t1
    have ht1 : s.Keeps t1 := s.keeps_setFrameLock _ _
    exact .ite (ht1.trans (t1.keeps_unlock _)) (.ite ((ht1.trans (t1.keeps_setFld _ _ _)).trans (State.keeps_lockEvent _ _ _ _)) ht1)

theorem State.keeps_sendFrame (s : State) (port : Nat) (f : List Byte) : s.Keeps (s.sendFrame port f) := s.keeps_withDziv _

theorem State.keeps_sendGroup (s : State) (typ : Nat) (body : List Byte) : s.Keeps (s.sendGroup typ body) := by
  unfold State.sendGroup
  extract_lets _ t1 _
  have ht1 : s.Keeps t1 := .foldl (fun t _ => t.keeps_sendFrame _ _) _ _
  exact .ite .rfl (ht1.trans (t1.keeps_withDziv _))

theorem State.keeps_putMember (s : State) (m : Nat) (x : Member) : s.Keeps (s.putMember m x) := s.keeps_withDziv _

theorem State.keeps_setMember (s : State) (m : Nat) (x : Member) : s.Keeps (s.setMember m x) := by
  unfold State.setMember
  extract_lets _ t1 _ t2 t3
  have ht1 : s.Keeps t1 := s.keeps_putMember _ _
  have ht2 : s.Keeps t2 := ht1.trans (t1.keeps_setRg _ _)
  have ht3 : s.Keeps t3 := ht2.trans (t2.keeps_setFld _ _ _)
  exact .ite ht1 ((ht3.trans (t3.keeps_raise _)).trans (State.keeps_eventSM _ _ _ _ _ _ _))

theorem State.keeps_refuseFrame (s : State) : s.Keeps s.refuseFrame := s.keeps_satInc _ _ _

theorem State.keeps_refuseMember (s : State) (m code : Nat) : s.Keeps (s.refuseMember m code) :=
  (s.keeps_refuseFrame.trans (State.keeps_raise _ _)).trans (State.keeps_event _ _ _ _ _ _ _ _ _)

theorem State.keeps_takeTrigger (s : State) (time : Nat) : s.Keeps (s.takeTrigger time) :=
  .ite .rfl (.ite (s.keeps_rubTrigger _ _ _) (s.keeps_withFlt _))

theorem State.keeps_setIntercom (s : State) (i : Nat) (x : Intercom) : s.Keeps (s.setIntercom i x) := s.keeps_withDziv _

theorem State.keeps_setRx (s : State) (i : Nat) (on : Bool) : s.Keeps (s.setRx i on) := by
  unfold State.setRx
  extract_lets _ _
  exact .ite .rfl ((s.keeps_withAud _).trans (State.keeps_audSync _))

theorem State.keeps_takeIntercom (s : State) (m chan : Nat) (samples : List Byte) (i : Nat) : s.Keeps (s.takeIntercom m chan samples i) := by
  unfold State.takeIntercom
  extract_lets _ _
  exact .ite ((s.keeps_setIntercom _ _).trans (State.keeps_setRx _ _ _)) .rfl

theorem State.keeps_takeFrame (s : State) (m typ : Nat) (p body : List Byte) : s.Keeps (s.takeFrame m typ p body) := by
  unfold State.takeFrame
  extract_lets _ t1
  have ht1 : s.Keeps t1 := s.keeps_setMember _ _
  split
  · exact s.keeps_setMember _ _
  · split
    · exact s.keeps_setMember _ _
    · exact s.keeps_setMember _ _
  · exact .ite ((ht1.trans (t1.keeps_raise _)).trans (State.keeps_event _ _ _ _ _ _ _ _ _)) (ht1.trans (t1.keeps_refuseMember _ _))
  · exact .ite (ht1.trans (t1.keeps_takeTrigger _)) (ht1.trans (t1.keeps_refuseMember _ _))
  · exact .ite (ht1.trans (.foldl (fun t _ => t.keeps_takeIntercom _ _ _ _) _ _)) ht1
  · exact .rfl

theorem keeps_execGroupFrameReceived (port : Nat) (frame : List Byte) (s : State) : s.Continues (execGroupFrameReceived port frame s) := by
  unfold execGroupFrameReceived
  refine .ite (.next .rfl) ?_
  extract_lets _ _ _ _ _ _ _ t1
  have ht1 : s.Keeps t1 := s.keeps_putMember _ _
  refine .ite (.next s.keeps_refuseFrame) ?_
  refine .ite (.next (.ite (s.keeps_putMember _ _) s.keeps_refuseFrame)) ?_
  refine .ite (.next s.keeps_refuseFrame) ?_
  exact .next (ht1.trans (t1.keeps_takeFrame _ _ _ _))

theorem keeps_execGroupSet (k : Nat) (s : State) : s.Continues (execGroupSet k s) := by
  unfold execGroupSet
  split
  · exact .next .rfl
  · split
    · rename_i t1 heq2
      have ht1 : s.Keeps t1 := .of_pair heq2 (s.keeps_unitRead _ _ _)
      exact .next (ht1.trans (t1.keeps_endOp _ _ _ _ _ _))
    · rename_i t3 heq4
      have ht3 : s.Keeps t3 := .of_pair heq4 (s.keeps_unitRead _ _ _)
      extract_lets _ t5 t6
      have ht5 : s.Keeps t5 := ht3.trans (t3.keeps_withDziv _)
      have ht6 : s.Keeps t6 := (ht5.trans (t5.keeps_setFld _ _ _)).trans (State.keeps_setFld _ _ _ _)
      exact .next ((ht6.trans (t6.keeps_setFld _ _ _)).trans (State.keeps_endOp _ _ _ _ _ _ _))

theorem State.keeps_setRoster (s : State) (m : Nat) (h : List Byte) : s.Keeps (s.setRoster m h) := by
  unfold State.setRoster
  extract_lets _ _
  exact .ite (s.keeps_setMember _ _) (s.keeps_setMember _ _)

theorem keeps_execRosterSet (k : Nat) (s : State) : s.Continues (execRosterSet k s) := by
  unfold execRosterSet
  split
  · exact .next .rfl
  · extract_lets t1
    have ht1 : s.Keeps t1 := .foldl (fun t _ => t.keeps_setRoster _ _) _ _
    exact .next (ht1.trans (t1.keeps_endOp _ _ _ _ _ _))

theorem keeps_execAdmitMember (k : Nat) (s : State) : s.Continues (execAdmitMember k s) := by
  unfold execAdmitMember
  split
  · exact .next .rfl
  · extract_lets _ _
    split
    · exact .next (s.keeps_endOp _ _ _ _ _ _)
    · refine .ite (.next (s.keeps_endOp _ _ _ _ _ _)) ?_
      exact .next ((s.keeps_setMember _ _).trans (State.keeps_endOp _ _ _ _ _ _ _))

theorem keeps_execAlarmSend (k : Nat) (s : State) : s.Continues (execAlarmSend k s) := by
  unfold execAlarmSend
  split
  · exact .next .rfl
  · extract_lets _
    refine .ite (.next (s.keeps_endOp _ _ _ _ _ _)) ?_
    exact .next ((s.keeps_sendGroup _ _).trans (State.keeps_endOp _ _ _ _ _ _ _))

theorem keeps_execHelloTimer (s : State) : s.Continues (execHelloTimer s) := by
  unfold execHelloTimer
  refine .ite (.next .rfl) ?_
  extract_lets _ _ t1 t2
  have ht1 : s.Keeps t1 := s.keeps_withDziv _
  have ht2 : s.Keeps t2 := ht1.trans (t1.keeps_sendGroup _ _)
  exact .next (.ite (ht2.trans (t2.keeps_sendGroup _ _)) ht2)

theorem keeps_execMemberTimeout (j : Nat) (s : State) : s.Continues (execMemberTimeout j s) := by
  unfold execMemberTimeout
  extract_lets _
  refine .ite (.next (s.keeps_setMember _ _)) ?_
  exact .next .rfl

theorem keeps_execGroupTriggerTime (s : State) : s.Continues (execGroupTriggerTime s) := by
  unfold execGroupTriggerTime
  extract_lets _ _ t1
  have ht1 : s.Keeps t1 := s.keeps_withFlt _
  refine .ite (.next .rfl) ?_
  exact .next (.ite (ht1.trans (t1.keeps_rubTrigger _ _ _)) ht1)

theorem keeps_execIntercomSet (k : Nat) (s : State) : s.Continues (execIntercomSet k s) := by
  unfold execIntercomSet
  split
  · exact .next .rfl
  · extract_lets _ _ t1
    have ht1 : s.Keeps t1 := s.keeps_setIntercom _ _
    exact .next ((ht1.trans (t1.keeps_setRx _ _)).trans (State.keeps_endOp _ _ _ _ _ _ _))

theorem keeps_execIntercomFrameSend (j : Nat) (samples : List Nat) (s : State) : s.Continues (execIntercomFrameSend j samples s) := by
  unfold execIntercomFrameSend
  refine .ite (.next (s.keeps_sendGroup _ _)) ?_
  exact .next .rfl

theorem keeps_execIntercomIdle (j : Nat) (s : State) : s.Continues (execIntercomIdle j s) := by
  unfold execIntercomIdle
  extract_lets _
  refine .ite (.next ((s.keeps_setIntercom _ _).trans (State.keeps_setRx _ _ _))) ?_
  exact .next .rfl

theorem State.keeps_setQp (s : State) (q : Nat) (x : Option Qp) : s.Keeps (s.setQp q x) := s.keeps_withDziv _

theorem keeps_execQpSetup (k : Nat) (s : State) : s.Continues (execQpSetup k s) := by
  unfold execQpSetup
  split
  · exact .next .rfl
  · extract_lets _ _ _
    refine .ite (.next (s.keeps_endOp _ _ _ _ _ _)) ?_
    refine .ite (.next ((s.keeps_setQp _ _).trans (State.keeps_endOp _ _ _ _ _ _ _))) ?_
    exact .next ((s.keeps_setQp _ _).trans (State.keeps_endOp _ _ _ _ _ _ _))

theorem keeps_execQpKick (k : Nat) (s : State) : s.Continues (execQpKick k s) := by
  unfold execQpKick
  split
  · exact .next .rfl
  · extract_lets _
    refine .ite (.next (s.keeps_endOp _ _ _ _ _ _)) ?_
    split
    · exact .next (s.keeps_endOp _ _ _ _ _ _)
    · exact .next ((s.keeps_setQp _ _).trans (State.keeps_endOp _ _ _ _ _ _ _))

theorem State.keeps_stopQp (s : State) (q : Nat) : s.Keeps (s.stopQp q) := s.keeps_setQp _ _

theorem State.keeps_endDescriptor (s : State) (q : Nat) (x : Qp) (a flags status len : Nat) : s.Keeps (s.endDescriptor q x a flags status len) := by
  unfold State.endDescriptor
  extract_lets t1
  have ht1 : s.Keeps t1 := s.keeps_unitWrite _ _ _
  exact ht1.trans (t1.keeps_raise _)

theorem keeps_execQpTransmit (q : Nat) (s : State) : s.Continues (execQpTransmit q s) := by
  unfold execQpTransmit
  split
  · exact .next .rfl
  · refine .ite (.next .rfl) ?_
    extract_lets _
    split
    · rename_i t1 heq2
      have ht1 : s.Keeps t1 := .of_pair heq2 (s.keeps_unitRead _ _ _)
      exact .next (ht1.trans (t1.keeps_setQp _ _))
    · rename_i t3 heq4
      have ht3 : s.Keeps t3 := .of_pair heq4 (s.keeps_unitRead _ _ _)
      extract_lets _ _ t5
      have ht5 : s.Keeps t5 := ht3.trans (t3.keeps_setQp _ _)
      refine .ite (.next (ht3.trans (t3.keeps_setQp _ _))) ?_
      refine .ite (.next (ht5.trans (t5.keeps_endDescriptor _ _ _ _ _ _))) ?_
      split
      · rename_i t6 heq7
        have ht6 : s.Keeps t6 := .of_pair heq7 (ht5.trans (t5.keeps_unitRead _ _ _))
        exact .next (ht6.trans (t6.keeps_endDescriptor _ _ _ _ _ _))
      · rename_i t8 heq9
        have ht8 : s.Keeps t8 := .of_pair heq9 (ht5.trans (t5.keeps_unitRead _ _ _))
        refine .ite (.next (ht8.trans (t8.keeps_endDescriptor _ _ _ _ _ _))) ?_
        exact .next ((ht8.trans (t8.keeps_sendFrame _ _)).trans (State.keeps_endDescriptor _ _ _ _ _ _ _))

theorem State.keeps_deliver (s : State) (q : Nat) (x : Qp) (f : List Byte) : s.Keeps (s.deliver q x f) := by
  unfold State.deliver
  refine .ite .rfl ?_
  extract_lets _
  split
  · rename_i t1 heq2
    have ht1 : s.Keeps t1 := .of_pair heq2 (s.keeps_unitRead _ _ _)
    exact ht1.trans (t1.keeps_setQp _ _)
  · rename_i t3 heq4
    have ht3 : s.Keeps t3 := .of_pair heq4 (s.keeps_unitRead _ _ _)
    extract_lets _ _ t5
    have ht5 : s.Keeps t5 := ht3.trans (t3.keeps_setQp _ _)
    refine .ite (ht3.trans (t3.keeps_setQp _ _)) ?_
    refine .ite (ht5.trans (t5.keeps_endDescriptor _ _ _ _ _ _)) ?_
    refine .ite (ht5.trans (t5.keeps_endDescriptor _ _ _ _ _ _)) ?_
    split
    · rename_i t6 heq7
      have ht6 : s.Keeps t6 := .of_pair heq7 (ht5.trans (t5.keeps_unitWrite _ _ _))
      exact ht6.trans (t6.keeps_endDescriptor _ _ _ _ _ _)
    · rename_i t8 heq9
      have ht8 : s.Keeps t8 := .of_pair heq9 (ht5.trans (t5.keeps_unitWrite _ _ _))
      exact ht8.trans (t8.keeps_endDescriptor _ _ _ _ _ _)

theorem keeps_execQpFrameReceived (port : Nat) (frame : List Byte) (s : State) : s.Continues (execQpFrameReceived port frame s) := by
  unfold execQpFrameReceived
  extract_lets _ _ _ _
  refine .ite (.next .rfl) ?_
  refine .next ?_
  refine State.Keeps.trans ?_ (.foldl (fun t a => ?_) _ _)
  · exact .rfl
  · split
    · exact .ite (t.keeps_deliver _ _ _) .rfl
    · exact .rfl

end Sys2Proof.Machine
end

section
/-! PROOFS. What clients and their sharing keep. -/

namespace Sys2Proof.Machine

theorem keeps_execInstanceQuery (k : Nat) (s : State) : s.Continues (execInstanceQuery k s) := by
  unfold execInstanceQuery
  split
  · exact .next .rfl
  · extract_lets _ _ _ n1
    exact .next (s.keeps_endOp _ _ _ _ _ _)

theorem State.keeps_give (s : State) (type inst c : Nat) (ring : RingId) : s.Keeps (s.give type inst c ring) := by
  unfold State.give
  extract_lets _ t1
  have ht1 : s.Keeps t1 := .ite (s.keeps_withCl _) (s.keeps_withCl _)
  exact ht1.trans (t1.keeps_eventCopy _ _ _ _ _ _ _ _)

theorem State.keeps_shareApplied (s : State) (c : Nat) (ring : RingId) : s.Keeps (s.shareApplied c ring) := by
  unfold State.shareApplied
  extract_lets _
  exact s.keeps_eventCopy _ _ _ _ _ _ _ _

theorem State.keeps_countShrink (s : State) (c : Nat) : s.Keeps (s.countShrink c) := by
  unfold State.countShrink
  extract_lets _
  split
  · exact (s.keeps_setClient _ _).trans (State.keeps_shareApplied _ _ _)
  · exact s.keeps_setClient _ _
  · exact .rfl

theorem State.keeps_freeSlotsOf (s : State) (c n : Nat) : s.Keeps (s.freeSlotsOf c n) := by
  unfold State.freeSlotsOf
  exact .foldl (fun t _ => .ite (t.keeps_freeSlot _ _) .rfl) _ _

theorem State.keeps_unitLoses (s : State) (type inst c : Nat) : s.Keeps (s.unitLoses type inst c) := by
  unfold State.unitLoses
  split
  · extract_lets t1 _
    have ht1 : s.Keeps t1 := s.keeps_freeSlotsOf _ _
    exact ht1.trans (t1.keeps_withCl _)
  · exact s.keeps_touchRevoke _ _
  · exact .ite .rfl (s.keeps_freeWaves _)
  · exact ((s.keeps_haltStream _).trans (State.keeps_setStream _ _ _)).trans (State.keeps_audSync _)
  · exact ((s.keeps_haltStream _).trans (State.keeps_setStream _ _ _)).trans (State.keeps_audSync _)
  · exact s.keeps_stopQp _

theorem State.keeps_dropGrant (s : State) (type inst c : Nat) : s.Keeps (s.dropGrant type inst c) := by
  unfold State.dropGrant
  extract_lets t1 _
  have ht1 : s.Keeps t1 := s.keeps_unitLoses _ _ _
  exact .ite ht1 (.ite (ht1.trans (t1.keeps_withCl _)) ht1)

theorem State.keeps_removalEffect (s : State) (r : Removal) : s.Keeps (s.removalEffect r) := by
  unfold State.removalEffect
  refine .ite ?_ ?_
  · extract_lets t1
    have ht1 : s.Keeps t1 := .ite (s.keeps_freeSlot _ _) .rfl
    exact (ht1.trans (t1.keeps_eventCopy _ _ _ _ _ _ _ _)).trans (State.keeps_countShrink _ _)
  · extract_lets t2 t3
    have ht2 : s.Keeps t2 := s.keeps_dropGrant _ _ _
    have ht3 : s.Keeps t3 := .ite (ht2.trans (t2.keeps_eventCopy _ _ _ _ _ _ _ _)) ((ht2.trans (t2.keeps_eventCopy _ _ _ _ _ _ _ _)).trans
        (State.keeps_countShrink _ _))
    split
    · exact ht3.trans (t3.keeps_give _ _ _ _)
    · exact ht3

theorem State.keeps_doRemoval (s : State) (i : Nat) : s.Keeps (s.doRemoval i) := by
  unfold State.doRemoval
  split
  · exact .rfl
  · exact (s.keeps_withCl _).trans (State.keeps_removalEffect _ _)

theorem keeps_execResourceRemoval (i : Nat) (s : State) : s.Continues (execResourceRemoval i s) := by
  unfold execResourceRemoval
  split
  · exact .next .rfl
  · refine .ite (.next (s.keeps_doRemoval _)) ?_
    exact .next .rfl

theorem State.keeps_removeAtBoundary (s : State) (n : Nat) : s.Keeps (s.removeAtBoundary n) := by
  unfold State.removeAtBoundary
  extract_lets _ _ t1
  have ht1 : s.Keeps t1 := s.keeps_withCl _
  exact ht1.trans (.foldl (fun t _ => t.keeps_removalEffect _) _ _)

theorem State.keeps_beginRemoval (s : State) (r : Removal) : s.Keeps (s.beginRemoval r) := by
  unfold State.beginRemoval
  extract_lets _ t1 t2
  have ht1 : s.Keeps t1 := s.keeps_withCl _
  clear_value t1
  have ht2 : s.Keeps t2 := by
    unfold t2
    split
    · exact ht1.trans (t1.keeps_actBrake _)
    · exact ht1.trans (t1.keeps_stopStream _)
    · exact ht1
  exact .ite (ht2.trans (t2.keeps_doRemoval _)) ht2

theorem State.keeps_takeFrom (s : State) (type inst c : Nat) (ring : RingId) (next : Option Nat) : s.Keeps (s.takeFrom type inst c ring next) := by
  unfold State.takeFrom
  extract_lets same1 _
  exact .ite (s.keeps_withCl _) (s.keeps_beginRemoval _)

theorem keeps_execGrant (k : Nat) (s : State) : s.Continues (execGrant k s) := by
  unfold execGrant
  split
  · exact .next .rfl
  · extract_lets _ _ _
    refine .ite ?_ ?_
    · refine .ite (.next (s.keeps_endOp _ _ _ _ _ _)) ?_
      exact .next ((s.keeps_endOp _ _ _ _ _ _).trans (State.keeps_takeFrom _ _ _ _ _ _))
    · refine .ite (.next (s.keeps_endOp _ _ _ _ _ _)) ?_
      refine .ite (.next (s.keeps_endOp _ _ _ _ _ _)) ?_
      split
      · exact .next ((s.keeps_endOp _ _ _ _ _ _).trans (State.keeps_give _ _ _ _ _))
      · refine .ite (.next (s.keeps_endOp _ _ _ _ _ _)) ?_
        exact .next ((s.keeps_endOp _ _ _ _ _ _).trans (State.keeps_takeFrom _ _ _ _ _ _))

theorem keeps_execShareSet (k : Nat) (s : State) : s.Continues (execShareSet k s) := by
  unfold execShareSet
  split
  · exact .next .rfl
  · extract_lets _ _ _ _
    refine .ite (.next .rfl) ?_
    split
    · exact .next (s.keeps_endOp _ _ _ _ _ _)
    · split
      · exact .next (s.keeps_endOp _ _ _ _ _ _)
      · exact .next ((s.keeps_setClient _ _).trans (State.keeps_setProgress _ _ _))

theorem State.keeps_applyShares (s : State) (c : Nat) : s.Keeps (s.applyShares c) := by
  unfold State.applyShares
  extract_lets _ _ _
  split
  · exact .rfl
  · extract_lets t1 t2 _ _ t3
    have ht1 : s.Keeps t1 := s.keeps_setClient _ _
    have ht2 : s.Keeps t2 := ht1.trans (.foldl (fun t _ => t.keeps_endOp _ _ _ _ _ _) _ _)
    have ht3 : s.Keeps t3 := (ht2.trans (t2.keeps_endOp _ _ _ _ _ _)).trans (State.keeps_setClient _ _ _)
    exact .ite (ht2.trans (t2.keeps_endOp _ _ _ _ _ _)) (ht3.trans (.foldl (fun t _ => t.keeps_beginRemoval _) _ _))

theorem State.keeps_evictFor (spent : List Nat) (n : Nat) (s : State) : s.Keeps (State.evictFor spent n s) := by
  induction n generalizing s with
  | zero => exact .rfl
  | succ n ih =>
    simp only [State.evictFor]
    split
    · exact .rfl
    · exact ((s.keeps_evict _).trans (State.keeps_wantResident _ _)).trans (ih _)

theorem keeps_execQuantumBoundary (s : State) : s.Continues (execQuantumBoundary s) := by
  unfold execQuantumBoundary
  extract_lets _ t1 _ t2 _
  have ht1 : s.Keeps t1 := .foldl (fun t _ => t.keeps_applyShares _) _ _
  have ht2 : s.Keeps t2 := .ite ht1 (ht1.trans (t1.keeps_evictFor _ _))
  refine .next ?_
  refine State.Keeps.trans ?_ (.foldl (fun t a => ?_) _ _)
  · exact ht2
  · extract_lets _
    exact t.keeps_setClient _ _

theorem State.keeps_putLayer (s : State) (l : Nat) (x : Layer) : s.Keeps (s.putLayer l x) := by
  unfold State.putLayer
  extract_lets w1 t2 t3 t4 t5 t6
  have ht2 : s.Keeps t2 := s.keeps_setRg _ _
  have ht3 : s.Keeps t3 := (ht2.trans (t2.keeps_setRg _ _)).trans (State.keeps_setRg _ _ _)
  have ht4 : s.Keeps t4 := (ht3.trans (t3.keeps_setRg _ _)).trans (State.keeps_setRg _ _ _)
  have ht5 : s.Keeps t5 := ((ht4.trans (t4.keeps_setRg _ _)).trans (State.keeps_setRg _ _ _)).trans (State.keeps_setRg _ _ _)
  have ht6 : s.Keeps t6 := (ht5.trans (t5.keeps_setRg _ _)).trans (State.keeps_setRg _ _ _)
  exact (ht6.trans (t6.keeps_setRg _ _)).trans (State.keeps_setRg _ _ _)

theorem State.keeps_disarmSlots (s : State) (c : Nat) : s.Keeps (s.disarmSlots c) := by
  unfold State.disarmSlots
  refine State.Keeps.trans ?_ (State.keeps_syncIso _)
  refine State.Keeps.trans ?_ (.foldl (fun t a => ?_) _ _)
  · exact .rfl
  · extract_lets _ _
    exact (t.keeps_putLayer _ _).trans (State.keeps_setSlot _ _ _)

theorem State.keeps_resetSlices (s : State) (c : Nat) : s.Keeps (s.resetSlices c) := by
  unfold State.resetSlices
  extract_lets t1 _ t2 t3 t4 t5
  have ht1 : s.Keeps t1 := s.keeps_disarmSlots _
  have ht2 : s.Keeps t2 := ht1.trans (t1.keeps_withGrv _)
  have ht3 : s.Keeps t3 := ht2.trans (.foldl (fun t _ => t.keeps_touchRevoke _ _) _ _)
  have ht4 : s.Keeps t4 := ht3.trans (.foldl (fun t _ => t.keeps_actRevoke _ _) _ _)
  have ht5 : s.Keeps t5 := (ht4.trans (t4.keeps_freeWaves _)).trans (State.keeps_audioReset _ _)
  exact ht5.trans (.foldl (fun t _ => .ite (t.keeps_stopQp _) .rfl) _ _)

theorem State.keeps_staleWait (s : State) (r : RingId) : s.Keeps (s.staleWait r) := by
  unfold State.staleWait
  split
  · exact .rfl
  · exact (s.keeps_passHead _ _).trans (State.keeps_refuse _ _ _ _ _)

theorem State.keeps_abandonOps (s : State) (r : RingId) : s.Keeps (s.abandonOps r).2 := by
  unfold State.abandonOps
  extract_lets _
  exact .foldl (fun t _ => t.keeps_dropPlace _) _ _

theorem State.keeps_startReset (s : State) (c : Nat) (by_ : Option Nat) : s.Keeps (s.startReset c by_) := by
  unfold State.startReset
  extract_lets _ t1
  have ht1 : s.Keeps t1 := s.keeps_setClient _ _
  split
  · rename_i t2 heq3
    have ht2 : s.Keeps t2 := .of_pair heq3 (ht1.trans (t1.keeps_abandonOps _))
    extract_lets _
    exact ((ht2.trans (t2.keeps_setClient _ _)).trans (State.keeps_staleWait _ _)).trans (State.keeps_resetSlices _ _)

theorem keeps_execInstanceReset (k : Nat) (s : State) : s.Continues (execInstanceReset k s) := by
  unfold execInstanceReset
  split
  · exact .next .rfl
  · extract_lets _
    refine .ite (.next .rfl) ?_
    refine .ite (.next (s.keeps_endOp _ _ _ _ _ _)) ?_
    exact .next ((s.keeps_setProgress _ _).trans (State.keeps_startReset _ _ _))

theorem State.keeps_finishFlr (s : State) : s.Keeps s.finishFlr := by
  unfold State.finishFlr
  extract_lets busy1 _ _ t2
  have ht2 : s.Keeps t2 := s.keeps_withCl _
  refine State.Keeps.trans ?_ (.foldl (fun t a => ?_) _ _)
  · exact ht2
  · extract_lets _
    exact ((t.keeps_setRg _ _).trans (State.keeps_raise _ _)).trans (State.keeps_event _ _ _ _ _ _ _ _ _)

theorem keeps_execInstanceResetDone (c : Nat) (s : State) : s.Continues (execInstanceResetDone c s) := by
  unfold execInstanceResetDone
  extract_lets _ t1 t2
  have ht1 : s.Keeps t1 := s.keeps_setClient _ _
  clear_value t1
  have ht2 : s.Keeps t2 := by
    unfold t2
    split
    · exact ht1.trans (t1.keeps_event _ _ _ _ _ _ _ _)
    · extract_lets _
      exact (ht1.trans (t1.keeps_endOp _ _ _ _ _ _)).trans (State.keeps_eventCopy _ _ _ _ _ _ _ _ _)
  refine .ite (.next .rfl) ?_
  exact .next ((ht2.trans (t2.keeps_wantResident _)).trans (State.keeps_finishFlr _))

theorem keeps_execDevctxSet (k : Nat) (s : State) : s.Continues (execDevctxSet k s) := by
  unfold execDevctxSet
  split
  · exact .next .rfl
  · extract_lets _ _ t1
    have ht1 : s.Keeps t1 := s.keeps_withCl _
    exact .next (ht1.trans (t1.keeps_endOp _ _ _ _ _ _))

theorem keeps_execClientBind (k : Nat) (s : State) : s.Continues (execClientBind k s) := by
  unfold execClientBind
  split
  · exact .next .rfl
  · extract_lets _ _ t1 _ t2
    have ht1 : s.Keeps t1 := s.keeps_setClient _ _
    have ht2 : s.Keeps t2 := ht1.trans (t1.keeps_withCl _)
    refine .ite (.next (s.keeps_endOp _ _ _ _ _ _)) ?_
    exact .next (ht2.trans (t2.keeps_endOp _ _ _ _ _ _))

theorem keeps_execIotlbInval (k : Nat) (s : State) : s.Continues (execIotlbInval k s) := by
  unfold execIotlbInval
  split
  · exact .next .rfl
  · extract_lets _ t1
    have ht1 : s.Keeps t1 := s.keeps_withCl _
    exact .next (ht1.trans (t1.keeps_endOp _ _ _ _ _ _))

theorem keeps_execPasidMap (k : Nat) (s : State) : s.Continues (execPasidMap k s) := by
  unfold execPasidMap
  split
  · exact .next .rfl
  · extract_lets _ _ _ _ t1 t2
    have ht1 : s.Keeps t1 := s.keeps_withCl _
    have ht2 : s.Keeps t2 := s.keeps_withCl _
    refine .ite (.next (ht1.trans (t1.keeps_endOp _ _ _ _ _ _))) ?_
    refine .ite (.next (s.keeps_endOp _ _ _ _ _ _)) ?_
    exact .next (ht2.trans (t2.keeps_endOp _ _ _ _ _ _))

theorem State.keeps_pcieDoorbell (s : State) (c off : Nat) (v : Word) : s.Continues (s.pcieDoorbell c off v) := by
  unfold State.pcieDoorbell
  extract_lets _ t1
  have ht1 : s.Keeps t1 := s.keeps_answer _
  refine .ite (.next (ht1.trans (t1.keeps_recordBus _ _ _ _))) ?_
  split
  · exact .after ht1 (keeps_execSqTailDoorbell _ _ _ _)
  · exact .after ht1 (keeps_execCqHeadDoorbell _ _ _ _)
  · exact .after ht1 (keeps_execEqHeadDoorbell _ _ _ _)
  · exact .after ht1 (keeps_execSqResume _ _ _ _)
  · exact .next ht1

theorem keeps_execPcieInboundRequest (fn : Nat) (pasid : Option Nat) (q : PcieReq) (s : State) :
    s.Continues (execPcieInboundRequest fn pasid q s) := by
  unfold execPcieInboundRequest
  refine .ite (.next (s.keeps_answer _)) ?_
  split
  · exact .next (s.keeps_answer _)
  · split
    · exact .next (s.keeps_answer _)
    · exact s.keeps_pcieDoorbell _ _ _
    · split
      · rename_i t1 heq2
        have ht1 : s.Keeps t1 := .of_pair heq2 (s.keeps_unitRead _ _ _)
        exact .next (ht1.trans (t1.keeps_answer _))
      · rename_i t3 heq4
        have ht3 : s.Keeps t3 := .of_pair heq4 (s.keeps_unitRead _ _ _)
        exact .next (ht3.trans (t3.keeps_answer _))
    · split
      · rename_i t5 heq6
        have ht5 : s.Keeps t5 := .of_pair heq6 (s.keeps_unitWrite _ _ _)
        exact .next (ht5.trans (t5.keeps_answer _))
      · rename_i t7 heq8
        have ht7 : s.Keeps t7 := .of_pair heq8 (s.keeps_unitWrite _ _ _)
        exact .next (ht7.trans (t7.keeps_answer _))

theorem State.keeps_startFlr (s : State) (fn : Nat) : s.Keeps (s.startFlr fn) := by
  unfold State.startFlr
  refine .ite .rfl ?_
  extract_lets _ _ t1
  have ht1 : s.Keeps t1 := s.keeps_withCl _
  exact ht1.trans (.foldl (fun t _ => .ite .rfl (t.keeps_startReset _ _)) _ _)

theorem keeps_execPcieFlr (fn : Nat) (s : State) : s.Continues (execPcieFlr fn s) := by
  unfold execPcieFlr
  refine .ite (.next .rfl) ?_
  exact .next ((s.keeps_startFlr _).trans (State.keeps_finishFlr _))

theorem State.keeps_pcieDown (s : State) : s.Keeps s.pcieDown :=
  ((s.keeps_setFld _ _ _).trans (State.keeps_setFld _ _ _ _)).trans (State.keeps_setFld _ _ _ _)

theorem keeps_execPciePerst (low : Bool) (s : State) : s.Continues (execPciePerst low s) := by
  unfold execPciePerst
  refine .ite (.next .rfl) ?_
  refine .ite (.next (s.keeps_setFld _ _ _)) ?_
  refine .ite (.next .rfl) ?_
  extract_lets _ t1 t2
  have ht1 : s.Keeps t1 := ((s.keeps_setFld _ _ _).trans (State.keeps_pcieDown _)).trans (State.keeps_raise _ _)
  have ht2 : s.Keeps t2 := .ite (ht1.trans (t1.keeps_raise _)) ht1
  exact .next ((ht2.trans (.foldl (fun t _ => t.keeps_startFlr _) _ _)).trans (State.keeps_finishFlr _))

theorem keeps_execPcieLinkChange (up : Bool) (speed width vfs : Nat) (s : State) : s.Continues (execPcieLinkChange up speed width vfs s) := by
  unfold execPcieLinkChange
  refine .ite (.next .rfl) ?_
  extract_lets t1 t2
  have ht1 : s.Keeps t1 := .ite (((s.keeps_setFld _ _ _).trans (State.keeps_setFld _ _ _ _)).trans (State.keeps_setFld _ _ _ _)) s.keeps_pcieDown
  have ht2 : s.Keeps t2 := .ite ht1 (ht1.trans (t1.keeps_raise _))
  exact .next (ht2.trans (t2.keeps_setFld _ _ _))

theorem keeps_execPcieError (uncorr : Bool) (s : State) : s.Continues (execPcieError uncorr s) := by
  unfold execPcieError
  refine .ite (.next .rfl) ?_
  extract_lets t1
  have ht1 : s.Keeps t1 := (s.keeps_setFld _ _ _).trans (State.keeps_setFlag _ _ _ _)
  refine .ite (.next (ht1.trans (t1.keeps_raise _))) ?_
  exact .next ((ht1.trans (t1.keeps_satInc _ _ _)).trans (State.keeps_raise _ _))

end Sys2Proof.Machine
end

section
/-! PROOFS. What the check units keep. -/

namespace Sys2Proof.Machine

theorem State.keeps_hallFail (s : State) (h : Nat) : s.Keeps (s.hallFail h) := s.keeps_satInc _ _ _

theorem State.keeps_hallEnd (s : State) (k h mode : Nat) (p : Started) (m : HallModel) (dst : Option Nat) (r : HallRun) :
    s.Keeps (s.hallEnd k h mode p m dst r) := by
  unfold State.hallEnd
  extract_lets _ _ _ _
  split
  · exact s.keeps_endOpFree _ _ _ _ _ _
  · split
    · rename_i t1 heq2
      have ht1 : s.Keeps t1 := .of_pair heq2 (s.keeps_unitWrite _ _ _)
      exact .ite (ht1.trans (t1.keeps_endOpFree _ _ _ _ _ _)) (ht1.trans (t1.keeps_endOpFree _ _ _ _ _ _))
    · rename_i t3 heq4
      have ht3 : s.Keeps t3 := .of_pair heq4 (s.keeps_unitWrite _ _ _)
      exact ht3.trans (t3.keeps_endOpFree _ _ _ _ _ _)
  · exact .ite (s.keeps_endOpFree _ _ _ _ _ _) ((s.keeps_hallFail _).trans (State.keeps_endOpFree _ _ _ _ _ _ _))

theorem State.keeps_hallPass (s : State) (m : HallModel) (w : Who) (dst : Option Nat) (keep : Nat) (r : HallRun) (chunk : List Byte) :
    s.Keeps (s.hallPass m w dst keep r chunk).2.2 := by
  unfold State.hallPass
  split
  · exact .rfl
  · extract_lets all out r' x
    split
    · exact .rfl
    · exact s.keeps_unitWrite _ _ _

theorem keeps_hallSegment (m : HallModel) (w : Who) (dst : Option Nat) (keep off fuel addr len : Nat) (r : HallRun) (s : State) :
    s.Keeps (hallSegment m w dst keep off fuel addr len r s).2.2 := by
  induction fuel generalizing addr len r s with
  | zero => exact .rfl
  | succ fuel ih =>
    simp only [hallSegment]
    split
    · exact .rfl
    · split <;> rename_i heq
      · exact .of_pair heq (s.keeps_unitRead _ _ _)
      · have h1 := State.Keeps.of_pair heq (s.keeps_unitRead _ _ _)
        split <;> rename_i heq'
        · exact h1.trans (.of_triple heq' (State.keeps_hallPass _ _ _ _ _ _ _))
        · exact h1.trans ((State.Keeps.of_triple heq' (State.keeps_hallPass _ _ _ _ _ _ _)).trans (ih _ _ _ _))

theorem keeps_hallInput (m : HallModel) (w : Who) (dst : Option Nat) (keep : Nat) (l : List (Nat × Nat × Nat)) (r : HallRun) (s : State) :
    s.Keeps (hallInput m w dst keep l r s).2.2 := by
  induction l generalizing r s with
  | nil => exact .rfl
  | cons e t ih =>
    simp only [hallInput]
    split <;> rename_i heq
    · exact .of_triple heq (keeps_hallSegment _ _ _ _ _ _ _ _ _ _)
    · exact (State.Keeps.of_triple heq (keeps_hallSegment _ _ _ _ _ _ _ _ _ _)).trans (ih _ _)

theorem keeps_execHallRun (k : Nat) (s : State) : s.Continues (execHallRun k s) := by
  unfold execHallRun
  split
  · rename_i p u _ _
    extract_lets h l mode m dst keep v
    refine .ite (.next ((s.keeps_hallFail h).trans (State.keeps_endOpFree _ _ _ _ _ _ _))) ?_
    have hinput := keeps_hallInput m (ringWho p.ring) dst keep (hallSegments l) ⟨p.p64 16, [], 0, 0⟩ s
    generalize hallInput _ _ _ _ _ _ _ = x at *
    obtain ⟨e, r, t⟩ := x
    refine .after hinput ?_
    have hcount := t.keeps_setFld F.HALL_BYTES_COUNT ((t.fld F.HALL_BYTES_COUNT h + r.nread) % 2 ^ 32) h
    dsimp only
    generalize t.setFld _ _ _ = t at *
    refine .after hcount ?_
    cases e with
    | some e => exact .ite (.next (t.keeps_endOpFree _ _ _ _ _ _)) (.next (t.keeps_endOpFree _ _ _ _ _ _))
    | none => exact .next (t.keeps_hallEnd _ _ _ _ _ _ _)
  · exact .next .rfl

theorem keeps_execHallQuery (k : Nat) (s : State) : s.Continues (execHallQuery k s) := by
  unfold execHallQuery
  split
  · exact .next .rfl
  · extract_lets _
    exact .next (s.keeps_endOp _ _ _ _ _ _)

end Sys2Proof.Machine
end

section
/-! PROOFS. What Proof keep. -/

namespace Sys2Proof.Machine

theorem State.keeps_writeWindow (s : State) (n b w : Nat) (lists : List Nat) (t : Timing) (bpc10 : Bool) :
    s.Keeps (s.writeWindow n b w lists t bpc10) := by
  unfold State.writeWindow
  extract_lets _ _ _ _ _ t1
  have ht1 : s.Keeps t1 := s.keeps_putPlate _ _
  exact .ite (ht1.trans (.foldl (fun t _ => t.keeps_putPlate _ _) _ _)) ht1

theorem keeps_execProofPassStart (s : State) : s.Continues (execProofPassStart s) := by
  unfold execProofPassStart
  split
  · exact .next .rfl
  · refine .ite (.next .rfl) ?_
    extract_lets t1 _
    have ht1 : s.Keeps t1 := (s.keeps_setFld _ _ _).trans (State.keeps_setFld _ _ _ _)
    exact .next ((ht1.trans (t1.keeps_withPrf _)).trans (State.keeps_showQueue _))

theorem keeps_execProofPassEnd (s : State) : s.Continues (execProofPassEnd s) := by
  unfold execProofPassEnd
  split
  · exact .next .rfl
  · refine .ite (.next .rfl) ?_
    extract_lets _ _ _ _ t1 _ _ t2 t3 t4 t5
    have ht1 : s.Keeps t1 := .foldl (fun t _ => t.keeps_writeWindow _ _ _ _ _ _) _ _
    have ht2 : s.Keeps t2 := ht1.trans (t1.keeps_withPrf _)
    have ht3 : s.Keeps t3 := ((ht2.trans (t2.keeps_setFld _ _ _)).trans (State.keeps_setFld _ _ _ _)).trans (State.keeps_showQueue _)
    have ht4 : s.Keeps t4 := ht3.trans (t3.keeps_setReady _ _)
    have ht5 : s.Keeps t5 := ht4.trans (t4.keeps_raise _)
    exact .next (ht5.trans (t5.keeps_event _ _ _ _ _ _ _ _))

theorem State.keeps_startTakeover (s : State) (n line : Nat) (forced : Bool) : s.Keeps (s.startTakeover n line forced) := by
  unfold State.startTakeover
  extract_lets t1 t2 _
  have ht1 : s.Keeps t1 := (s.keeps_setFld _ _ _).trans (State.keeps_setFld _ _ _ _)
  have ht2 : s.Keeps t2 := ht1.trans (t1.keeps_count _ _)
  exact (ht2.trans (t2.keeps_withPrf _)).trans (State.keeps_showQueue _)

theorem State.keeps_noteMismatch (s : State) (n w line : Nat) : s.Keeps (s.noteMismatch n w line) := by
  unfold State.noteMismatch
  extract_lets t1
  have ht1 : s.Keeps t1 := (s.keeps_setFld _ _ _).trans (State.keeps_raise _ _)
  exact .ite (ht1.trans (t1.keeps_setFld _ _ _)) (((ht1.trans (t1.keeps_setFld _ _ _)).trans (State.keeps_setFld _ _ _ _)).trans (State.keeps_setFld
      _ _ _ _))

theorem State.keeps_mismatch (s : State) (n w line : Nat) : s.Keeps (s.mismatch n w line) := by
  unfold State.mismatch
  extract_lets t1 ev2
  have ht1 : s.Keeps t1 := s.keeps_noteMismatch _ _ _
  exact .ite ((ht1.trans (t1.keeps_event _ _ _ _ _ _ _ _)).trans (State.keeps_fault _ _ _ _)) (.ite (((ht1.trans (t1.keeps_event _ _ _ _ _ _ _
      _)).trans (State.keeps_startTakeover _ _ _ _)).trans (State.keeps_fault _ _ _ _)) (.ite (ht1.trans (t1.keeps_event _ _ _ _ _ _ _ _))
          (((ht1.trans (t1.keeps_event _ _ _ _ _ _ _ _)).trans (State.keeps_fault _ _ _ _)).trans (State.keeps_enterSafe _ _ _))))

theorem keeps_execProofVerdict (n w line crc : Nat) (s : State) : s.Continues (execProofVerdict n w line crc s) := by
  unfold execProofVerdict
  refine .ite (.next .rfl) ?_
  extract_lets t1 _ _ t2
  have ht1 : s.Keeps t1 := s.keeps_setRg _ _
  have ht2 : s.Keeps t2 := ht1.trans (t1.keeps_withPrf _)
  refine .ite (.next (ht2.trans (t2.keeps_mismatch _ _ _))) ?_
  refine .ite (.next (ht2.trans (t2.keeps_startTakeover _ _ _))) ?_
  exact .next ht2

theorem keeps_execTakeoverSwitch (n line : Nat) (s : State) : s.Continues (execTakeoverSwitch n line s) := by
  unfold execTakeoverSwitch
  split
  · exact .next .rfl
  · refine .ite (.next .rfl) ?_
    extract_lets _ _ _ t1 t2
    have ht1 : s.Keeps t1 := s.keeps_withPrf _
    have ht2 : s.Keeps t2 := ((ht1.trans (t1.keeps_setFld _ _ _)).trans (State.keeps_satInc _ _ _ _)).trans (State.keeps_raise _ _)
    exact .next (ht2.trans (t2.keeps_eventSM _ _ _ _ _ _))

theorem keeps_execReturnCheckEnd (n : Nat) (bad : Option Nat) (s : State) : s.Continues (execReturnCheckEnd n bad s) := by
  unfold execReturnCheckEnd
  refine .ite (.next .rfl) ?_
  split
  · extract_lets t1
    have ht1 : s.Keeps t1 := ((s.keeps_raise _).trans (State.keeps_setFld _ _ _ _)).trans (State.keeps_setFld _ _ _ _)
    exact .next ((ht1.trans t1.keeps_showQueue).trans (State.keeps_eventSM _ _ _ _ _ _ _))
  · extract_lets _ t2
    have ht2 : s.Keeps t2 := (s.keeps_fresh.trans (State.keeps_noteMismatch _ _ _ _)).trans (State.keeps_setFld _ _ _ _)
    exact .next (((ht2.trans (t2.keeps_event _ _ _ _ _ _ _ _)).trans (State.keeps_fault _ _ _ _)).trans (State.keeps_enterSafe _ _ _))

theorem keeps_execSinkCrcRead (n : Nat) (crc : Option (Nat × List Nat × List Nat)) (s : State) : s.Continues (execSinkCrcRead n crc s) := by
  unfold execSinkCrcRead
  refine .ite (.next .rfl) ?_
  split
  · exact .next (s.keeps_setFld _ _ _)
  · extract_lets _ t1
    have ht1 : s.Keeps t1 := (s.keeps_setFld _ _ _).trans (State.keeps_setFld _ _ _ _)
    refine .ite (.next ht1) ?_
    exact .next ((((ht1.trans (t1.keeps_satInc _ _ _)).trans (State.keeps_setFld _ _ _ _)).trans (State.keeps_raise _ _)).trans (State.keeps_event _
        _ _ _ _ _ _ _ _))

theorem State.keeps_clearProofArea (s : State) (n : Nat) : s.Keeps (s.clearProofArea n) := by
  unfold State.clearProofArea
  extract_lets t1 t2
  have ht1 : s.Keeps t1 := s.keeps_putPlate _ _
  have ht2 : s.Keeps t2 := ht1.trans (t1.keeps_putPlate _ _)
  exact ht2.trans (t2.keeps_putPlate _ _)

theorem keeps_execGuardSet (k : Nat) (s : State) : s.Continues (execGuardSet k s) := by
  unfold execGuardSet
  split
  · exact .next .rfl
  · extract_lets _ _ _ _ _ _ _ t1 t2 t3 t4 t5 t6 t7 t8 t9 _ t10
    have ht1 : s.Keeps t1 := (s.keeps_setFlag _ _ _).trans (State.keeps_setFlag _ _ _ _)
    have ht2 : s.Keeps t2 := ht1.trans (t1.keeps_setFlag _ _ _)
    have ht3 : s.Keeps t3 := (ht2.trans (t2.keeps_setFld _ _ _)).trans (State.keeps_setFld _ _ _ _)
    have ht4 : s.Keeps t4 := .ite ht3 (ht3.trans (t3.keeps_setFld _ _ _))
    have ht5 : s.Keeps t5 := (ht4.trans (t4.keeps_clearProofArea _)).trans (State.keeps_setFld _ _ _ _)
    have ht6 : s.Keeps t6 := (ht5.trans (t5.keeps_setFld _ _ _)).trans (State.keeps_setFld _ _ _ _)
    have ht7 : s.Keeps t7 := (ht6.trans (t6.keeps_setRg _ _)).trans (State.keeps_setFld _ _ _ _)
    have ht8 : s.Keeps t8 := (ht4.trans (t4.keeps_setFld _ _ _)).trans (State.keeps_setFld _ _ _ _)
    have ht9 : s.Keeps t9 := ht8.trans (t8.keeps_setRg _ _)
    have ht10 : s.Keeps t10 := ht9.trans (t9.keeps_withPrf _)
    refine .ite (.next (s.keeps_endOp _ _ _ _ _ _)) ?_
    refine .ite (.next (s.keeps_endOp _ _ _ _ _ _)) ?_
    refine .ite (.next (s.keeps_endOp _ _ _ _ _ _)) ?_
    refine .ite (.next ((ht7.trans (t7.keeps_queuePass _)).trans (State.keeps_endOp _ _ _ _ _ _ _))) ?_
    refine .ite (.next ((ht10.trans (t10.keeps_unqueuePass _)).trans (State.keeps_endOp _ _ _ _ _ _ _))) ?_
    exact .next (ht4.trans (t4.keeps_endOp _ _ _ _ _ _))

theorem keeps_execWindowSet (k : Nat) (s : State) : s.Continues (execWindowSet k s) := by
  unfold execWindowSet
  split
  · exact .next .rfl
  · extract_lets _ t1 _
    have ht1 : s.Keeps t1 := .foldl (fun t _ => t.keeps_putPlate _ _) _ _
    refine .ite (.next (s.keeps_endOp _ _ _ _ _ _)) ?_
    refine .ite (.next (s.keeps_endOp _ _ _ _ _ _)) ?_
    exact .next ((ht1.trans (t1.keeps_queuePass _)).trans (State.keeps_endOp _ _ _ _ _ _ _))

theorem keeps_execProofReturn (k : Nat) (s : State) : s.Continues (execProofReturn k s) := by
  unfold execProofReturn
  split
  · exact .next .rfl
  · extract_lets _
    refine .ite (.next (s.keeps_endOp _ _ _ _ _ _)) ?_
    exact .next ((s.keeps_setFld _ _ _).trans (State.keeps_endOp _ _ _ _ _ _ _))

theorem keeps_execProofForce (k : Nat) (s : State) : s.Continues (execProofForce k s) := by
  unfold execProofForce
  split
  · exact .next .rfl
  · extract_lets _ _
    refine .ite (.next (s.keeps_endOp _ _ _ _ _ _)) ?_
    exact .next ((s.keeps_withPrf _).trans (State.keeps_endOp _ _ _ _ _ _ _))

theorem keeps_execProofQuery (k : Nat) (s : State) : s.Continues (execProofQuery k s) := by
  unfold execProofQuery
  split
  · exact .next .rfl
  · extract_lets _ r1
    refine .ite (.next (s.keeps_endOp _ _ _ _ _ _)) ?_
    exact .next (s.keeps_endOp _ _ _ _ _ _)

end Sys2Proof.Machine
end

section
/-! PROOFS. What fault and Rubbing commands keep. -/

namespace Sys2Proof.Machine

theorem keeps_execTimingStall (n : Nat) (s : State) : s.Continues (execTimingStall n s) := by
  unfold execTimingStall
  refine .ite (.next .rfl) ?_
  exact .next ((s.keeps_withFlt _).trans (State.keeps_fault _ _ _ _))

theorem keeps_execClockFault (s : State) : s.Continues (execClockFault s) := .next ((s.keeps_fault _ _ _).trans (State.keeps_enterSafe _ _ _))

theorem keeps_execSramUncorrectable (arr : Nat) (layer : Option Nat) (s : State) : s.Continues (execSramUncorrectable arr layer s) := by
  unfold execSramUncorrectable
  extract_lets t1 _ t2
  have ht1 : s.Keeps t1 := s.keeps_fault _ _ _
  clear_value t1
  have ht2 : s.Keeps t2 := by
    unfold t2
    split
    · exact .ite ht1 (ht1.trans (t1.keeps_withEtch _))
    · exact ht1
  refine .ite (.next (ht1.trans (t1.keeps_answer _))) ?_
  exact .next (ht2.trans (t2.keeps_enterSafe _ _))

theorem keeps_execSramCe (s : State) : s.Continues (execSramCe s) := .next (s.keeps_fault _ _ _)

theorem keeps_execSwdogKick (who : Who) (v : Word) (s : State) : s.Continues (execSwdogKick who v s) := by
  unfold execSwdogKick
  refine .ite ?_ ?_
  · extract_lets _ t1 t2 _
    have ht1 : s.Keeps t1 := s.keeps_setFld _ _ _
    have ht2 : s.Keeps t2 := .ite (ht1.trans (t1.keeps_setFld _ _ _)) ht1
    exact .next (.ite (ht2.trans (t2.keeps_withFlt _)) ht2)
  · exact .next .rfl

theorem keeps_execWatchdogExpiry (s : State) : s.Continues (execWatchdogExpiry s) := by
  unfold execWatchdogExpiry
  refine .ite (.next (((s.keeps_withFlt _).trans (State.keeps_fault _ _ _ _)).trans (State.keeps_enterSafe _ _ _))) ?_
  exact .next .rfl

theorem keeps_execFaultRecord (s : State) : s.Continues (execFaultRecord s) := by
  unfold execFaultRecord
  split
  · exact .next .rfl
  · extract_lets _ t1
    have ht1 : s.Keeps t1 := s.keeps_withFlt _
    exact .next (ht1.trans (t1.keeps_folioWrite _))

theorem keeps_execFaultQuery (k : Nat) (s : State) : s.Continues (execFaultQuery k s) := by
  unfold execFaultQuery
  split
  · exact .next .rfl
  · exact .next (s.keeps_endOp _ _ _ _ _ _)

theorem keeps_execFaultClear (k : Nat) (s : State) : s.Continues (execFaultClear k s) := by
  unfold execFaultClear
  split
  · exact .next .rfl
  · refine .ite (.next (s.keeps_endOp _ _ _ _ _ _)) ?_
    extract_lets _ t1 t2 t3
    have ht1 : s.Keeps t1 := s.keeps_withFlt _
    have ht2 : s.Keeps t2 := (ht1.trans (t1.keeps_setFld _ _ _)).trans (State.keeps_setFld _ _ _ _)
    have ht3 : s.Keeps t3 := ((ht2.trans (t2.keeps_setRg _ _)).trans (State.keeps_setRg _ _ _)).trans (State.keeps_setRg _ _ _)
    exact .next (ht3.trans (t3.keeps_endOp _ _ _ _ _ _))

theorem keeps_execSafeEnter (k : Nat) (s : State) : s.Continues (execSafeEnter k s) := by
  unfold execSafeEnter
  split
  · exact .next .rfl
  · exact .next ((s.keeps_enterSafe _ _).trans (State.keeps_endOp _ _ _ _ _ _ _))

theorem State.keeps_latch (s : State) (sources : Nat) (late : Bool) : s.Keeps (s.latch sources late) := by
  unfold State.latch
  extract_lets _ _ t1 t2 t3 _ t4 t5 t6 t7
  have ht1 : s.Keeps t1 := ((s.keeps_setFld _ _ _).trans (State.keeps_setFld _ _ _ _)).trans (State.keeps_setFlag _ _ _ _)
  have ht2 : s.Keeps t2 := ht1.trans (t1.keeps_setFld _ _ _)
  have ht3 : s.Keeps t3 := (ht2.trans (t2.keeps_setRg _ _)).trans (State.keeps_setRg _ _ _)
  clear_value t1 t2 t3
  have ht4 : s.Keeps t4 := ht3.trans State.Keeps.of_rest
  have ht5 : s.Keeps t5 := ht4.trans (t4.keeps_raise _)
  have ht6 : s.Keeps t6 := ht5.trans (t5.keeps_event _ _ _ _ _ _ _ _)
  have ht7 : s.Keeps t7 := ht6.trans (t6.keeps_event _ _ _ _ _ _ _ _)
  exact ht7.trans (.foldl (fun t _ => t.keeps_event _ _ _ _ _ _ _ _) _ _)

theorem keeps_execRubbingLatch (s : State) : s.Continues (execRubbingLatch s) := by
  unfold execRubbingLatch
  split
  · exact .next .rfl
  · refine .ite (.next .rfl) ?_
    extract_lets _ t1
    have ht1 : s.Keeps t1 := s.keeps_withFlt _
    refine .ite (.next (.ite ht1 (ht1.trans (t1.keeps_rubMissed _)))) ?_
    exact .next (ht1.trans (t1.keeps_latch _ _))

theorem State.keeps_rubFree (s : State) : s.Keeps s.rubFree := (s.keeps_withFlt _).trans (State.keeps_setFld _ _ _ _)

theorem keeps_execRubAutoRelease (s : State) : s.Continues (execRubAutoRelease s) := by
  unfold execRubAutoRelease
  extract_lets _
  refine .ite (.next s.keeps_rubFree) ?_
  exact .next .rfl

theorem keeps_execRubInEdge (s : State) : s.Continues (execRubInEdge s) := by
  unfold execRubInEdge
  refine .ite (.next (s.keeps_rubTrigger _ _ _)) ?_
  exact .next .rfl

theorem keeps_execRubFire (k : Nat) (s : State) : s.Continues (execRubFire k s) := by
  unfold execRubFire
  split
  · exact .next .rfl
  · extract_lets _ _
    refine .ite (.next (s.keeps_endOp _ _ _ _ _ _)) ?_
    refine .ite (.next (s.keeps_endOp _ _ _ _ _ _)) ?_
    refine .ite (.next (((s.keeps_sendGroup _ _).trans (State.keeps_takeTrigger _ _)).trans (State.keeps_endOp _ _ _ _ _ _ _))) ?_
    exact .next ((s.keeps_rubTrigger _ _ _).trans (State.keeps_endOp _ _ _ _ _ _ _))

theorem State.keeps_putRecords (w : Who) (seq : Nat) (l : List SnapRec) (a n : Nat) (s : State) : s.Keeps (State.putRecords w seq l a n s).2.2 := by
  induction l generalizing a n s with
  | nil => exact .rfl
  | cons x t ih =>
    simp only [State.putRecords]
    split <;> rename_i heq
    · exact .of_pair heq (s.keeps_unitWrite _ _ _)
    · exact (State.Keeps.of_pair heq (s.keeps_unitWrite _ _ _)).trans (ih _ _ _)

theorem keeps_execRubRead (k : Nat) (s : State) : s.Continues (execRubRead k s) := by
  unfold execRubRead
  split
  · exact .next .rfl
  · refine .ite (.next (s.keeps_endOp _ _ _ _ _ _)) ?_
    split
    · exact .next (s.keeps_endOp _ _ _ _ _ _)
    · extract_lets view seq
      split <;> rename_i heq <;> have h1 := State.Keeps.of_triple heq (State.keeps_putRecords _ _ _ _ _ s)
      · exact .next (h1.trans (State.keeps_endOp _ _ _ _ _ _ _))
      · exact .ite (.next (h1.trans (State.keeps_endOp _ _ _ _ _ _ _))) (.next (h1.trans (State.keeps_endOp _ _ _ _ _ _ _)))

theorem keeps_execRubRelease (k : Nat) (s : State) : s.Continues (execRubRelease k s) := by
  unfold execRubRelease
  split
  · exact .next .rfl
  · exact .next ((s.keeps_rubFree.trans (State.keeps_setRg _ _ _)).trans (State.keeps_endOp _ _ _ _ _ _ _))

end Sys2Proof.Machine
end

section
/-! PROOFS. What frame boundaries keep. -/

namespace Sys2Proof.Machine

theorem keeps_execFrameBoundary (n : Nat) (s : State) : s.Continues (execFrameBoundary n s) := by
  unfold execFrameBoundary
  refine .ite (.next .rfl) ?_
  extract_lets t1 t2 t3 t4 t5 t6
  have ht1 : s.Keeps t1 := ((s.keeps_unstall _).trans (State.keeps_endFrameSlots _ _)).trans (State.keeps_countIdle _ _)
  have ht2 : s.Keeps t2 := ht1.trans (t1.keeps_setFld _ _ _)
  have ht3 : s.Keeps t3 := (ht2.trans (t2.keeps_setFld _ _ _)).trans (State.keeps_setFld _ _ _ _)
  have ht4 : s.Keeps t4 := ((ht3.trans (t3.keeps_raise _)).trans (State.keeps_releaseSlots _ _)).trans (State.keeps_removeAtBoundary _ _)
  have ht5 : s.Keeps t5 := ht4.trans (t4.keeps_swapIfArmed _)
  have ht6 : s.Keeps t6 := .ite (ht5.trans (t5.keeps_applyAll _ _)) ht5
  exact .next (((ht6.trans (t6.keeps_boundarySettings _)).trans (State.keeps_proofBoundary _ _)).trans (State.keeps_chooseStretch _ _))

theorem keeps_execVerticalStart (n : Nat) (s : State) : s.Continues (execVerticalStart n s) := by
  unfold execVerticalStart
  refine .ite (.next .rfl) ?_
  extract_lets _ t1
  have ht1 : s.Keeps t1 := (s.keeps_unstall _).trans (State.keeps_setFld _ _ _ _)
  exact .next ((ht1.trans (t1.keeps_latchBlink _)).trans (State.keeps_trackLock _ _))

theorem keeps_execDtgEnable (who : Who) (n : Nat) (v : Word) (s : State) : s.Continues (execDtgEnable who n v s) := by
  unfold execDtgEnable
  refine .ite (.next (s.keeps_refuseGated _ _)) ?_
  refine .ite (.next .rfl) ?_
  extract_lets t1 _ _ t2 _ t3 t4 t5 _ t6 t7 t8 _
  have ht1 : s.Keeps t1 := (s.keeps_setFld _ _ _).trans (State.keeps_setFld _ _ _ _)
  have ht2 : s.Keeps t2 := (ht1.trans (t1.keeps_setFld _ _ _)).trans (State.keeps_setOut _ _ _)
  have ht3 : s.Keeps t3 := ht1.trans (t1.keeps_setOut _ _)
  have ht4 : s.Keeps t4 := ht3.trans (t3.keeps_rechargeOutput _ _)
  have ht5 : s.Keeps t5 := ht4.trans (t4.keeps_setFld _ _ _)
  have ht6 : s.Keeps t6 := ht5.trans (.foldl (fun t _ => t.keeps_applySlot _) _ _)
  have ht7 : s.Keeps t7 := .ite ht6 (ht6.trans (t6.keeps_raise _))
  have ht8 : s.Keeps t8 := ht7.trans (t7.keeps_startOutput _)
  refine .ite ?_ ?_
  · refine .ite (.next ((ht2.trans (t2.keeps_releaseSlots _)).trans (State.keeps_removeAtBoundary _ _))) ?_
    exact .next ht1
  · refine .ite (.next ht1) ?_
    refine .ite (.next ht1) ?_
    exact .next (ht8.trans (t8.keeps_setOut _ _))

end Sys2Proof.Machine
end

section
/-! PROOFS. What low-speed I/O keep. -/

namespace Sys2Proof.Machine

theorem State.keeps_setTx (s : State) (p : Nat) (l : List Nat) : s.Keeps (s.setTx p l) := s.keeps_withLsio _

theorem State.keeps_setRxFifo (s : State) (p : Nat) (l : List Nat) : s.Keeps (s.setRxFifo p l) := s.keeps_withLsio _

theorem State.keeps_setSkip (s : State) (p : Nat) (on : Bool) : s.Keeps (s.setSkip p on) := s.keeps_withLsio _

theorem State.keeps_portSource (s : State) (p old : Nat) : s.Keeps (s.portSource p old) := by
  unfold State.portSource
  extract_lets _
  exact .ite (s.keeps_clearSrc _) (.ite .rfl (s.keeps_raise _))

theorem State.keeps_portSync (s : State) (p old : Nat) : s.Keeps (s.portSync p old) := by
  unfold State.portSync
  extract_lets _ _ t1 t2 t3
  have ht1 : s.Keeps t1 := (s.keeps_setFld _ _ _).trans (State.keeps_setFld _ _ _ _)
  have ht2 : s.Keeps t2 := (ht1.trans (t1.keeps_setFlag _ _ _)).trans (State.keeps_setRg _ _ _)
  have ht3 : s.Keeps t3 := (ht2.trans (t2.keeps_setFlag _ _ _)).trans (State.keeps_setFlag _ _ _ _)
  exact ht3.trans (t3.keeps_portSource _ _)

theorem State.keeps_portEventBit (s : State) (p : Nat) (f : Fld) : s.Keeps (s.portEventBit p f) := by
  unfold State.portEventBit
  extract_lets _
  exact (s.keeps_setFld _ _ _).trans (State.keeps_portSource _ _ _)

theorem State.keeps_emptyPort (s : State) (p : Nat) : s.Keeps (s.emptyPort p) :=
  ((s.keeps_setTx _ _).trans (State.keeps_setRxFifo _ _ _)).trans (State.keeps_setSkip _ _ _)

theorem keeps_execLsioCtrlWrite (who : Who) (p : Nat) (v : Word) (s : State) : s.Continues (execLsioCtrlWrite who p v s) := by
  unfold execLsioCtrlWrite
  refine .ite (.next (s.keeps_refuseGated _ _)) ?_
  refine .ite (.next .rfl) ?_
  extract_lets _ t1 t2
  have ht1 : s.Keeps t1 := (s.keeps_setFld _ _ _).trans (State.keeps_setFld _ _ _ _)
  have ht2 : s.Keeps t2 := ht1.trans (t1.keeps_setFld _ _ _)
  exact .next ((State.Keeps.ite ht2 (ht2.trans (t2.keeps_emptyPort _))).trans (State.keeps_portSync _ _ _))

theorem keeps_execLsioTxPush (who : Who) (p : Nat) (v : Word) (s : State) : s.Continues (execLsioTxPush who p v s) := by
  unfold execLsioTxPush
  refine .ite (.next (s.keeps_refuseGated _ _)) ?_
  refine .ite (.next .rfl) ?_
  refine .ite (.next (s.keeps_portEventBit _ _)) ?_
  refine .ite (.next .rfl) ?_
  extract_lets _
  exact .next (((s.keeps_setSkip _ _).trans (State.keeps_setTx _ _ _)).trans (State.keeps_portSync _ _ _))

theorem keeps_execLsioRxPop (who : Who) (p : Nat) (_v : Word) (s : State) : s.Continues (execLsioRxPop who p _v s) := by
  unfold execLsioRxPop
  refine .ite (.next (s.keeps_refuseGated _ _)) ?_
  refine .ite (.next .rfl) ?_
  extract_lets _
  exact .next ((s.keeps_setRxFifo _ _).trans (State.keeps_portSync _ _ _))

theorem State.keeps_takeEntries (s : State) (p : Nat) (entries : List Nat) : s.Keeps (s.takeEntries p entries) := by
  unfold State.takeEntries
  refine .ite .rfl ?_
  extract_lets _ _ t1 t2 t3
  have ht1 : s.Keeps t1 := .ite s.keeps_fresh .rfl
  have ht2 : s.Keeps t2 := ht1.trans (t1.keeps_setRxFifo _ _)
  have ht3 : s.Keeps t3 := .ite (ht2.trans (t2.keeps_setFld _ _ _)) ht2
  exact .ite (ht3.trans (t3.keeps_setFld _ _ _)) ht3

theorem keeps_execLsioRxEntry (p : Nat) (entries : List Nat) (s : State) : s.Continues (execLsioRxEntry p entries s) := by
  unfold execLsioRxEntry
  refine .ite (.next .rfl) ?_
  exact .next ((s.keeps_takeEntries _ _).trans (State.keeps_portSync _ _ _))

theorem keeps_execLsioTxDone (p : Nat) (s : State) : s.Continues (execLsioTxDone p s) := by
  unfold execLsioTxDone
  extract_lets _ _ t1
  have ht1 : s.Keeps t1 := (s.keeps_setTx _ _).trans (State.keeps_setFld _ _ _ _)
  refine .ite (.next .rfl) ?_
  exact .next ((State.Keeps.ite (ht1.trans (t1.keeps_takeEntries _ _)) ht1).trans (State.keeps_portSync _ _ _))

theorem keeps_execLsioBusError (p tec rec : Nat) (s : State) : s.Continues (execLsioBusError p tec rec s) := by
  unfold execLsioBusError
  refine .ite (.next .rfl) ?_
  extract_lets _ t1 _ t2
  have ht1 : s.Keeps t1 := s.keeps_setFld _ _ _
  have ht2 : s.Keeps t2 := .ite (((ht1.trans (t1.keeps_setTx _ _)).trans (State.keeps_setSkip _ _ _)).trans (State.keeps_setFld _ _ _ _)) (.ite
      (ht1.trans (t1.keeps_setRg _ _)) ht1)
  exact .next (ht2.trans (t2.keeps_portSync _ _))

theorem keeps_execCanStateChange (p st : Nat) (s : State) : s.Continues (execCanStateChange p st s) := by
  unfold execCanStateChange
  refine .ite (.next .rfl) ?_
  exact .next ((s.keeps_setFld _ _ _).trans (State.keeps_portEventBit _ _ _))

theorem State.keeps_setPin (s : State) (reg : Nat → Nat) (i : Nat) (b : Bool) : s.Keeps (s.setPin reg i b) := s.keeps_setRg _ _

theorem State.keeps_groupSync (s : State) (g : Nat) : s.Keeps (s.groupSync g) := by
  unfold State.groupSync
  extract_lets _ t1
  have ht1 : s.Keeps t1 := .ite .rfl (s.keeps_clearSrc _)
  exact .ite ht1 (ht1.trans (t1.keeps_clearSrc _))

theorem State.keeps_pinMoves (s : State) (i : Nat) (level : Bool) : s.Keeps (s.pinMoves i level) := by
  unfold State.pinMoves
  extract_lets t1 _
  have ht1 : s.Keeps t1 := s.keeps_setPin _ _ _
  exact .ite ((ht1.trans (t1.keeps_setPin _ _ _)).trans (State.keeps_raise _ _)) ht1

theorem keeps_execGpioEdge (i : Nat) (level : Bool) (s : State) : s.Continues (execGpioEdge i level s) := .next (s.keeps_pinMoves _ _)

theorem State.keeps_drivePins (s : State) (w : Nat) : s.Keeps (s.drivePins w) := by
  unfold State.drivePins
  refine State.Keeps.trans ?_ (.foldl (fun t a => ?_) _ _)
  · exact .rfl
  · extract_lets _
    exact .ite (t.keeps_pinMoves _ _) .rfl

/-- Forgetting the registers of a range: they read as at reset. -/
theorem State.keeps_clearRange (s : State) (lo hi : Nat) : s.Keeps { s with regs := SMap.clear s.regs lo hi } :=
  ⟨rfl, fun h => ⟨h.1, SMap.wf_clear _ _ _ _ h.2.1, h.2.2⟩⟩

theorem State.keeps_resetPort (s : State) (p : Nat) : s.Keeps (s.resetPort p) :=
  ((s.keeps_clearRange _ _).trans (State.keeps_emptyPort _ _)).trans (State.keeps_clearSrc _ _)

theorem State.keeps_resetPin (s : State) (i : Nat) : s.Keeps (s.resetPin i) := by
  unfold State.resetPin
  extract_lets t1 _
  have ht1 : s.Keeps t1 := (s.keeps_setPin _ _ _).trans (State.keeps_setPin _ _ _ _)
  exact ht1.trans (t1.keeps_setRg _ _)

theorem State.keeps_setSown (s : State) (v : Word) : s.Keeps (s.setSown v) := by
  unfold State.setSown
  extract_lets _ t1
  have ht1 : s.Keeps t1 := .foldl (fun t _ => t.keeps_resetPort _) _ _
  exact ht1.trans (t1.keeps_setRg _ _)

theorem State.keeps_setSgpio (s : State) (w : Nat) (v : Word) : s.Keeps (s.setSgpio w v) := by
  unfold State.setSgpio
  extract_lets _ _ t1 t2 _ t3
  have ht1 : s.Keeps t1 := .foldl (fun t _ => t.keeps_resetPin _) _ _
  have ht2 : s.Keeps t2 := ht1.trans (t1.keeps_setRg _ _)
  have ht3 : s.Keeps t3 := ht2.trans (.foldl (fun t _ => .ite (t.keeps_raise _) .rfl) _ _)
  exact ht3.trans (.foldl (fun t _ => t.keeps_groupSync _) _ _)

theorem keeps_execLsioSownWrite (who : Who) (addr : Nat) (v : Word) (s : State) : s.Continues (execLsioSownWrite who addr v s) := by
  unfold execLsioSownWrite
  refine .ite (.next (s.keeps_refuseGated _ _)) ?_
  refine .ite (.next .rfl) ?_
  refine .ite (.next (s.keeps_setSown _)) ?_
  refine .ite (.next (s.keeps_setSgpio _ _)) ?_
  refine .ite (.next (s.keeps_setSgpio _ _)) ?_
  exact .next .rfl

end Sys2Proof.Machine
end

section
/-! PROOFS. What the worlds keep. -/

namespace Sys2Proof.Machine

theorem keeps_execLockstepMismatch (s : State) : s.Continues (execLockstepMismatch s) := by
  unfold execLockstepMismatch
  refine .ite (.next .rfl) ?_
  suffices h : ∀ t : State, s.Keeps t → s.Continues (match t.noStandby with
      | some cause => .next (t.enterSafe cause 1)
      | none => .next (({ t with wld := { t.wld with switching := some t.cyc } } : State).setFld F.DEV_SPAIR_STAT_STANDBY 0)) from
    h _ (((s.keeps_withWld _).trans (State.keeps_raise _ _)).trans (State.keeps_fault _ _ _ _))
  intro t ht
  split
  · exact .next (ht.trans (t.keeps_enterSafe _ _))
  · exact .next ((ht.trans (t.keeps_withWld _)).trans (State.keeps_setFld _ _ _ _))

theorem keeps_execPairBResume (s : State) : s.Continues (execPairBResume s) := by
  unfold execPairBResume
  split
  · exact .next .rfl
  · extract_lets t1 t2 _ t3
    have ht1 : s.Keeps t1 := (s.keeps_setFld _ _ _).trans (State.keeps_setFld _ _ _ _)
    have ht2 : s.Keeps t2 := (ht1.trans (t1.keeps_setFld _ _ _)).trans (State.keeps_setFld _ _ _ _)
    have ht3 : s.Keeps t3 := ht2.trans (t2.keeps_withWld _)
    exact .next (ht3.trans (t3.keeps_raise _))

theorem State.keeps_standbyCopied (s : State) : s.Keeps s.standbyCopied := .ite (s.keeps_setFld _ _ _) .rfl

theorem keeps_execIntBandWrite (who : Who) (j : Nat) (v : Word) (s : State) : s.Continues (execIntBandWrite who j v s) := by
  unfold execIntBandWrite
  refine .ite (.next .rfl) ?_
  extract_lets t1 _
  have ht1 : s.Keeps t1 := s.keeps_setRg _ _
  split
  · refine .ite (.next ht1) ?_
    exact .next (ht1.trans (t1.keeps_withWld _))
  · exact .next ht1

theorem keeps_execIntSack (who : Who) (v : Word) (s : State) : s.Continues (execIntSack who v s) := by
  unfold execIntSack
  extract_lets _ t1 _
  have ht1 : s.Keeps t1 := s.keeps_clearSrc _
  refine .ite (.next .rfl) ?_
  exact .next (ht1.trans (t1.keeps_withWld _))

theorem keeps_execSecureInterruptSignal (s : State) : s.Continues (execSecureInterruptSignal s) := by
  unfold execSecureInterruptSignal
  split
  · exact .next .rfl
  · exact .next (s.keeps_withWld _)

theorem keeps_execAplicMessageSend (src : Nat) (s : State) : s.Continues (execAplicMessageSend src s) := by
  unfold execAplicMessageSend
  refine .ite (.next .rfl) ?_
  extract_lets t1 _
  have ht1 : s.Keeps t1 := s.keeps_clearSrc _
  exact .next (ht1.trans (t1.keeps_withWld _))

theorem State.keeps_putMbx (s : State) (m off : Nat) (v : Word) : s.Keeps (s.putMbx m off v) := by
  unfold State.putMbx
  exact .foldl (fun t _ => t.keeps_withWld _) _ _

theorem State.keeps_clearMbx (s : State) (m : Nat) : s.Keeps (s.clearMbx m) := by
  unfold State.clearMbx
  extract_lets _ t1
  have ht1 : s.Keeps t1 := s.keeps_withWld _
  exact ((ht1.trans (t1.keeps_setFld _ _ _)).trans (State.keeps_setFld _ _ _ _)).trans (State.keeps_setRg _ _ _)

theorem keeps_execIntMbxOwnerWrite (who : Who) (m : Nat) (v : Word) (s : State) : s.Continues (execIntMbxOwnerWrite who m v s) := by
  unfold execIntMbxOwnerWrite
  refine .ite (.next .rfl) ?_
  extract_lets t1
  have ht1 : s.Keeps t1 := (s.keeps_setFld _ _ _).trans (State.keeps_setFld _ _ _ _)
  exact .next (((ht1.trans (t1.keeps_clearMbx _)).trans (State.keeps_setFld _ _ _ _)).trans (State.keeps_raise _ _))

theorem State.keeps_writeSctrl (s : State) (m : Nat) (v : Word) : s.Keeps (s.writeSctrl m v) := by
  unfold State.writeSctrl
  extract_lets t1 t2 t3 t4
  have ht1 : s.Keeps t1 := (s.keeps_setFld _ _ _).trans (State.keeps_setFld _ _ _ _)
  have ht2 : s.Keeps t2 := (ht1.trans (t1.keeps_setFld _ _ _)).trans (State.keeps_setFld _ _ _ _)
  have ht3 : s.Keeps t3 := .ite ((ht2.trans (t2.keeps_setFld _ _ _)).trans (State.keeps_setFld _ _ _ _)) ht2
  have ht4 : s.Keeps t4 := (ht3.trans (t3.keeps_setFld _ _ _)).trans (State.keeps_setFld _ _ _ _)
  exact .ite ((ht4.trans (t4.keeps_setFld _ _ _)).trans (State.keeps_raise _ _)) ht3

theorem keeps_execMbxTake (who : Who) (m : Nat) (v : Word) (s : State) : s.Continues (execMbxTake who m v s) := by
  unfold execMbxTake
  refine .ite (.next .rfl) ?_
  exact .next (s.keeps_writeSctrl _ _)

theorem keeps_execMbxSend (who : Who) (m : Nat) (v : Word) (s : State) : s.Continues (execMbxSend who m v s) := by
  unfold execMbxSend
  refine .ite (.next .rfl) ?_
  exact .next (s.keeps_writeSctrl _ _)

theorem keeps_execMbxDoorbell (who : Who) (m : Nat) (v : Word) (s : State) : s.Continues (execMbxDoorbell who m v s) := by
  unfold execMbxDoorbell
  extract_lets _ t1
  have ht1 : s.Keeps t1 := (s.keeps_setFld _ _ _).trans (State.keeps_setFld _ _ _ _)
  refine .ite (.next .rfl) ?_
  refine .ite (.next ((ht1.trans (t1.keeps_setFld _ _ _)).trans (State.keeps_raise _ _))) ?_
  exact .next (s.keeps_setFld _ _ _)

theorem keeps_execMbxBufferWrite (who : Who) (m off : Nat) (v : Word) (s : State) : s.Continues (execMbxBufferWrite who m off v s) := by
  unfold execMbxBufferWrite
  refine .ite (.next .rfl) ?_
  refine .ite ?_ ?_
  · refine .ite (.next (s.keeps_putMbx _ _ _)) ?_
    exact .next .rfl
  · refine .ite (.next (s.keeps_putMbx _ _ _)) ?_
    exact .next .rfl

end Sys2Proof.Machine
end

section
/-! PROOFS. What the shared power operations keep. -/

namespace Sys2Proof.Machine

theorem State.keeps_setOff (s : State) (d : Nat) (off : Bool) : s.Keeps (s.setOff d off) := by
  unfold State.setOff
  extract_lets _ _ _
  exact (s.keeps_withPwr _).trans (State.keeps_setDomBit _ _ _ _)

theorem State.keeps_takeUnit (s : State) (u : Nat) : s.Keeps (s.takeUnit u) := by
  unfold State.takeUnit
  split
  · exact .rfl
  · refine .ite .rfl ?_
    extract_lets _ t1 _ _
    have ht1 : s.Keeps t1 := (s.keeps_setGrant _ _).trans (State.keeps_countTake _ _ _)
    exact (ht1.trans (t1.keeps_withArb _)).trans (State.keeps_enqueue _ _ _)

theorem State.keeps_clearRegs (s : State) (lo hi : Nat) : s.Keeps (s.clearRegs lo hi) := s.keeps_clearRange lo hi

theorem State.keeps_outputLoses (s : State) (n : Nat) (unit : Bool) : s.Keeps (s.outputLoses n unit) := by
  unfold State.outputLoses
  extract_lets _ t1 t2 t3 t4 _
  have ht1 : s.Keeps t1 := (s.keeps_unlock _).trans (State.keeps_setFrameLock _ _ _)
  have ht2 : s.Keeps t2 := (ht1.trans (t1.keeps_clearRegs _ _)).trans (State.keeps_clearRegs _ _ _)
  have ht3 : s.Keeps t3 := ((ht2.trans (t2.keeps_setFld _ _ _)).trans (State.keeps_setOut _ _ _)).trans (State.keeps_unstall _ _)
  have ht4 : s.Keeps t4 := (ht3.trans (t3.keeps_unqueuePass _)).trans (State.keeps_clearRegs _ _ _)
  exact .ite ht3 (ht4.trans (t4.keeps_withPrf _))

theorem State.keeps_reserveLoses (s : State) : s.Keeps s.reserveLoses :=
  ((s.keeps_withPrf _).trans (State.keeps_clearRegs _ _ _)).trans (State.keeps_showQueue _)

theorem State.keeps_panelStops (s : State) (p : Nat) : s.Keeps (s.panelStops p) := by
  unfold State.panelStops
  refine .ite .rfl ?_
  extract_lets _ t1
  have ht1 : s.Keeps t1 := s.keeps_setPanel _ _
  exact ((ht1.trans (t1.keeps_setFld _ _ _)).trans (State.keeps_setFld _ _ _ _)).trans (State.keeps_setFld _ _ _ _)

theorem State.keeps_lsioLoses (s : State) : s.Keeps s.lsioLoses := by
  unfold State.lsioLoses
  extract_lets t1 t2
  have ht1 : s.Keeps t1 := s.keeps_clearRegs _ _
  have ht2 : s.Keeps t2 := (ht1.trans (t1.keeps_withLsio _)).trans (State.keeps_keepPins _ _)
  exact ht2.trans (.foldl (fun t _ => t.keeps_clearSrc _) _ _)

theorem State.keeps_linkLoses (s : State) : s.Keeps s.linkLoses := by
  unfold State.linkLoses
  extract_lets t1 _ _ t2 t3 _
  have ht1 : s.Keeps t1 := .foldl (fun t _ => (t.keeps_unlock _).trans (State.keeps_setFrameLock _ _ _)) _ _
  have ht2 : s.Keeps t2 := ht1.trans (t1.keeps_withDziv _)
  have ht3 : s.Keeps t3 := ht2.trans (t2.keeps_clearRegs _ _)
  exact (ht3.trans (t3.keeps_withAud _)).trans (State.keeps_audSync _)

theorem State.keeps_losePower (s : State) (d : Nat) (unit : Bool) : s.Keeps (s.losePower d unit) := by
  unfold State.losePower
  refine .ite (s.keeps_outputLoses _ _) ?_
  refine .ite (.foldl (fun t _ => t.keeps_freeSlot _ _) _ _) ?_
  refine .ite (.ite .rfl s.keeps_reserveLoses) ?_
  refine .ite ?_ ?_
  · extract_lets t1
    have ht1 : s.Keeps t1 := s.keeps_clearRegs _ _
    exact ht1.trans (t1.keeps_withGrv _)
  · refine .ite (s.keeps_clearRegs _ _) ?_
    refine .ite ?_ ?_
    · refine State.Keeps.trans ?_ (State.keeps_showZones _)
      extract_lets t2
      have ht2 : s.Keeps t2 := s.keeps_clearRegs _ _
      exact ht2.trans (t2.keeps_withTouch _)
    · refine .ite (.foldl (fun t _ => .ite (t.keeps_panelStops _) .rfl) _ _) ?_
      refine .ite ?_ ?_
      · extract_lets t3 _
        have ht3 : s.Keeps t3 := s.keeps_hapClear
        exact ((ht3.trans (t3.keeps_clearRegs _ _)).trans (.foldl (fun t _ => t.keeps_copyField _ _) _ _)).trans (State.keeps_showZones _)
      · refine .ite ?_ ?_
        · extract_lets t4
          have ht4 : s.Keeps t4 := s.keeps_clearRegs _ _
          exact ht4.trans (t4.keeps_withAud _)
        · refine .ite s.keeps_linkLoses ?_
          refine .ite ?_ (.ite s.keeps_lsioLoses .rfl)
          extract_lets _
          exact (s.keeps_pcieDown.trans (State.keeps_clearRegs _ _ _)).trans (State.keeps_setFld _ _ _ _)

theorem State.keeps_cutDomain (s : State) (d : Nat) (unit : Bool) : s.Keeps (s.cutDomain d unit) := by
  unfold State.cutDomain
  extract_lets t1
  have ht1 : s.Keeps t1 := s.keeps_setOff _ _
  exact (ht1.trans (.foldl (fun t _ => t.keeps_takeUnit _) _ _)).trans (State.keeps_losePower _ _ _)

theorem State.keeps_panelsReturn (s : State) (q : Nat) : s.Keeps (s.panelsReturn q) := by
  unfold State.panelsReturn
  exact .foldl (fun t _ => .ite (t.keeps_startAcquire _ _) .rfl) _ _

theorem State.keeps_restoreDomain (s : State) (d : Nat) : s.Keeps (s.restoreDomain d) := by
  unfold State.restoreDomain
  extract_lets t1 t2 t3 t4
  have ht1 : s.Keeps t1 := s.keeps_setOff _ _
  clear_value t1
  have ht2 : s.Keeps t2 := by
    unfold t2
    split
    · exact ht1.trans (t1.keeps_bumpEpoch _)
    · exact ht1
  have ht3 : s.Keeps t3 := .ite (ht2.trans (t2.keeps_panelsReturn _)) ht2
  have ht4 : s.Keeps t4 := (ht3.trans (t3.keeps_raise _)).trans (State.keeps_eventSM _ _ _ _ _ _ _)
  exact .ite (ht4.trans (t4.keeps_decidePool _)) (.ite (ht4.trans (t4.keeps_decidePool _)) ht4)

theorem State.keeps_afterCut (s : State) (d k : Nat) : s.Keeps (s.afterCut d k) := by
  unfold State.afterCut
  refine .ite (s.keeps_withPwr _) ?_
  extract_lets _ t1
  have ht1 : s.Keeps t1 := s.keeps_withPwr _
  exact ht1.trans (t1.keeps_endOp _ _ _ _ _ _)

theorem State.keeps_finishCuts (s : State) : s.Keeps s.finishCuts := by
  unfold State.finishCuts
  refine State.Keeps.trans ?_ (.foldl (fun t a => ?_) _ _)
  · exact .rfl
  · refine .ite .rfl ?_
    extract_lets _ t1
    have ht1 : t.Keeps t1 := t.keeps_withPwr _
    exact (State.Keeps.ite (ht1.trans (t1.keeps_cutDomain _ _)) ht1).trans (State.keeps_afterCut _ _ _)

theorem State.keeps_startCut (s : State) (d k : Nat) : s.Keeps (s.startCut d k) := by
  unfold State.startCut
  extract_lets t1 _
  have ht1 : s.Keeps t1 := .foldl (fun t _ => t.keeps_takeUnit _) _ _
  exact (ht1.trans (t1.keeps_withPwr _)).trans (State.keeps_finishCuts _)

theorem State.keeps_askRestore (s : State) (d : Nat) (k : Option Nat) : s.Keeps (s.askRestore d k) := by
  unfold State.askRestore
  extract_lets _ t1 _
  have ht1 : s.Keeps t1 := s.keeps_withPwr _
  exact ht1.trans (t1.keeps_withPwr _)

theorem State.keeps_restoreClaimed (s : State) : s.Keeps s.restoreClaimed := by
  unfold State.restoreClaimed
  exact .foldl (fun t _ => .ite (t.keeps_askRestore _ _) .rfl) _ _

theorem State.keeps_setDeferred (s : State) (l : List Deferred) : s.Keeps (s.setDeferred l) := (s.keeps_withWld _).trans (State.keeps_setFld _ _ _ _)

theorem State.keeps_cancelHeld (s : State) (ds : List Nat) (tag : Nat) : s.Keeps (s.cancelHeld ds tag) := by
  unfold State.cancelHeld
  extract_lets hit1 _ t2
  have ht2 : s.Keeps t2 := .ite .rfl (s.keeps_setDeferred _)
  exact ht2.trans (.foldl (fun t _ => t.keeps_event _ _ _ _ _ _ _ _) _ _)

theorem State.keeps_holdRequest (s : State) (k : Nat) (x : Deferred) : s.Keeps (s.holdRequest k x) := by
  unfold State.holdRequest
  extract_lets t1
  have ht1 : s.Keeps t1 := s.keeps_cancelHeld _ _
  exact ((ht1.trans (t1.keeps_setDeferred _)).trans (State.keeps_raise _ _)).trans (State.keeps_endOp _ _ _ _ _ _ _)

theorem State.keeps_flushNow (s : State) : s.Keeps s.flushNow := by
  unfold State.flushNow
  refine .ite .rfl ?_
  extract_lets _ _ _ t1 t2 t3 t4 _
  have ht1 : s.Keeps t1 := s.keeps_withFol _
  have ht2 : s.Keeps t2 := ht1.trans (.foldl (fun t _ => (t.keeps_appendRec _).trans (State.keeps_afterCommit _ _ _)) _ _)
  clear_value t1 t2
  have ht3 : s.Keeps t3 := by
    unfold t3
    refine State.Keeps.trans ?_ (.foldl (fun t a => ?_) _ _)
    · exact ht2
    · extract_lets _
      exact (t.keeps_commitNow _ _).trans (State.keeps_afterCommit _ _ _)
  have ht4 : s.Keeps t4 := ht3.trans (.foldl (fun t _ => t.keeps_commitNow _ _) _ _)
  exact (ht4.trans (t4.keeps_withFol _)).trans (State.keeps_compactIfFull _)

theorem State.keeps_resetRwm (s : State) : s.Keeps s.resetRwm := by
  unfold State.resetRwm
  extract_lets t1
  have ht1 : s.Keeps t1 := .rfl
  refine State.Keeps.trans ?_ (.foldl (fun t a => ?_) _ _)
  · exact .rfl
  · split
    · exact .rfl
    · exact .ite .rfl (t.keeps_setRg _ _)

theorem State.keeps_settleRwm (s old : State) : s.Keeps (s.settleRwm old) := by
  unfold State.settleRwm
  extract_lets t1 t2
  have ht1 : s.Keeps t1 := .foldl (fun t _ => .ite (t.keeps_setOut _ _) .rfl) _ _
  have ht2 : s.Keeps t2 := ht1.trans (.foldl (fun t _ => .ite (t.keeps_setFld _ _ _) .rfl) _ _)
  exact ht2.trans (.foldl (fun t _ => .ite (t.keeps_portSource _ _) ((t.keeps_emptyPort _).trans (State.keeps_portSync _ _ _))) _ _)

theorem State.keeps_resetOwners (s : State) : s.Keeps s.resetOwners := by
  unfold State.resetOwners
  exact .foldl (fun t _ => .ite .rfl ((((t.keeps_setRg _ _).trans (State.keeps_clearMbx _ _)).trans (State.keeps_setFld _ _ _ _)).trans
      (State.keeps_raise _ _))) _ _

theorem State.keeps_disableNRings (s : State) : s.Keeps s.disableNRings := by
  unfold State.disableNRings
  extract_lets one1 _ _
  exact .of_rest

theorem State.keeps_resetAllSlices (s : State) : s.Keeps s.resetAllSlices := by
  unfold State.resetAllSlices
  extract_lets _
  exact .foldl (fun t _ => t.keeps_resetSlices _) _ _

theorem State.keeps_beginNReset (s : State) : s.Keeps s.beginNReset := by
  unfold State.beginNReset
  extract_lets _ _ t1 t2 t3 t4 t5 t6
  have ht1 : s.Keeps t1 := .of_rest
  have ht2 : s.Keeps t2 := ((ht1.trans t1.keeps_stopNWorld).trans (State.keeps_withdrawNWorld _)).trans (State.keeps_resetAllSlices _)
  have ht3 : s.Keeps t3 := (ht2.trans t2.keeps_disableNRings).trans (State.keeps_setFld _ _ _ _)
  have ht4 : s.Keeps t4 := ((ht3.trans (t3.keeps_clearRegs _ _)).trans (State.keeps_clearRegs _ _ _)).trans (State.keeps_clearRegs _ _ _)
  have ht5 : s.Keeps t5 := ht4.trans t4.keeps_resetOwners
  have ht6 : s.Keeps t6 := (ht5.trans t5.keeps_resetRwm).trans (State.keeps_settleRwm _ _)
  exact (((ht6.trans (t6.keeps_bumpEpoch _)).trans (State.keeps_bumpEpoch _ _)).trans (State.keeps_bumpEpoch _ _)).trans (State.keeps_finishFlr _)

/-- Rewriting the values of a map of runs leaves its keys in order. -/
theorem Runs.wf_map (f : Nat → Nat) (m : RunMap) (h : Runs.wf m = true) : Runs.wf (m.map (fun e => (e.1, f e.2))) = true := by
  rw [Runs.wf_iff] at *
  exact List.pairwise_map.mpr h

theorem State.keeps_clearNDram (s : State) : s.Keeps s.clearNDram :=
  ⟨rfl, fun h => ⟨Memory.wf_filter _ _ h.1, h.2.1, Runs.wf_join _ _ (Runs.wf_map (fun v => if v = 1 ∨ v = 3 then v else 0) _ h.2.2)⟩⟩

end Sys2Proof.Machine
end

section
/-! PROOFS. What power keep. -/

namespace Sys2Proof.Machine

theorem State.keeps_runOrDim (s : State) (st : Nat) : s.Keeps (s.runOrDim st) := by
  unfold State.runOrDim
  extract_lets _ t1
  have ht1 : s.Keeps t1 := .ite (s.keeps_withPwr _) .rfl
  exact .ite ht1 (((ht1.trans (t1.keeps_setFld _ _ _)).trans (State.keeps_raise _ _)).trans (State.keeps_eventSM _ _ _ _ _ _ _))

theorem State.keeps_startWake (s : State) (cause : Nat) : s.Keeps (s.startWake cause) := by
  unfold State.startWake
  extract_lets t1 _ _
  have ht1 : s.Keeps t1 := (s.keeps_setFld _ _ _).trans (State.keeps_setFld _ _ _ _)
  exact ht1.trans (t1.keeps_withPwr _)

theorem State.keeps_wake (s : State) (cause : Nat) : s.Keeps (s.wake cause) := by
  unfold State.wake
  split
  · exact .ite .rfl (s.keeps_withPwr _)
  · exact s.keeps_startWake _
  · exact .rfl

theorem keeps_execPowerState (k : Nat) (s : State) : s.Continues (execPowerState k s) := by
  unfold execPowerState
  split
  · exact .next .rfl
  · extract_lets _ _ _ _
    refine .ite (.next .rfl) ?_
    refine .ite ?_ ?_
    · refine .ite (.next (((s.keeps_cancelHeld _ _).trans (State.keeps_runOrDim _ _)).trans (State.keeps_endOp _ _ _ _ _ _ _))) ?_
      refine .ite (.next ((s.keeps_setProgress _ _).trans (State.keeps_wake _ _))) ?_
      exact .next (s.keeps_endOp _ _ _ _ _ _)
    · refine .ite ?_ ?_
      · refine .ite (.next (s.keeps_endOp _ _ _ _ _ _)) ?_
        refine .ite (.next (s.keeps_endOp _ _ _ _ _ _)) ?_
        refine .ite (.next (s.keeps_holdRequest _ _)) ?_
        exact .next (((s.keeps_cancelHeld _ _).trans (State.keeps_setFld _ _ _ _)).trans (State.keeps_endOp _ _ _ _ _ _ _))
      · refine .ite (.next (s.keeps_endOp _ _ _ _ _ _)) ?_
        refine .ite (.next (s.keeps_endOp _ _ _ _ _ _)) ?_
        exact .next (((s.keeps_cancelHeld _ _).trans (State.keeps_setFld _ _ _ _)).trans (State.keeps_endOp _ _ _ _ _ _ _))

theorem State.keeps_sleepPacket (s : State) (k : Nat) (p : Started) : s.Keeps (s.sleepPacket k p) := by
  unfold State.sleepPacket
  refine .ite .rfl ?_
  split
  · exact s.keeps_takeUnit _
  · exact (s.keeps_forgetPlace _).trans (State.keeps_setPlace _ _ _)

theorem State.keeps_stopStreams (s : State) : s.Keeps s.stopStreams := by
  unfold State.stopStreams
  exact .foldl (fun t _ => t.keeps_setOut _ _) _ _

theorem State.keeps_selfRefresh (s : State) : s.Keeps s.selfRefresh := by
  unfold State.selfRefresh
  exact .foldl (fun t _ => .ite ((t.keeps_setFld _ _ _).trans (State.keeps_setFld _ _ _ _)) .rfl) _ _

theorem State.keeps_sleepDomains (s : State) : s.Keeps s.sleepDomains := by
  unfold State.sleepDomains
  extract_lets _ t1 t2 _
  have ht1 : s.Keeps t1 := .foldl (fun t _ => .ite (t.keeps_cutDomain _ _) .rfl) _ _
  have ht2 : s.Keeps t2 := ht1.trans (.foldl (fun t _ => t.keeps_setDomBit _ _ _) _ _)
  exact ht2.trans (t2.keeps_withPwr _)

theorem State.keeps_sleepPanels (s : State) : s.Keeps s.sleepPanels := by
  unfold State.sleepPanels
  exact .foldl (fun t _ => .ite ((t.keeps_setPanel _ _).trans (State.keeps_setFld _ _ _ _)) (t.keeps_panelStops _)) _ _

theorem keeps_execSleepEntry (s : State) : s.Continues (execSleepEntry s) := by
  unfold execSleepEntry
  refine .ite (.next .rfl) ?_
  extract_lets t1 _ t2 t3 _ t4 t5
  have ht1 : s.Keeps t1 := .foldl (fun t _ => t.keeps_sleepPacket _ _) _ _
  have ht2 : s.Keeps t2 := ht1.trans (t1.keeps_withFlt _)
  have ht3 : s.Keeps t3 := ((((ht2.trans t2.keeps_flushNow).trans (State.keeps_stopStreams _)).trans (State.keeps_selfRefresh _)).trans
      (State.keeps_sleepDomains _)).trans (State.keeps_sleepPanels _)
  have ht4 : s.Keeps t4 := ht3.trans (t3.keeps_withPwr _)
  have ht5 : s.Keeps t5 := ((ht4.trans (t4.keeps_setFld _ _ _)).trans (State.keeps_raise _ _)).trans (State.keeps_event _ _ _ _ _ _ _ _ _)
  refine .next ?_
  split
  · exact ht5.trans (t5.keeps_startWake _)
  · exact ht5

theorem keeps_execWakeSource (cause pin : Nat) (s : State) : s.Continues (execWakeSource cause pin s) := by
  unfold execWakeSource
  refine .ite ?_ ?_
  · refine .ite (.next (s.keeps_withPwr _)) ?_
    exact .next .rfl
  · refine .ite (.next (s.keeps_wake _)) ?_
    exact .next .rfl

theorem keeps_execWakeScan (wins : List (List (Bool × List Nat))) (s : State) : s.Continues (execWakeScan wins s) := by
  unfold execWakeScan
  extract_lets _ _ _ _ t1
  have ht1 : s.Keeps t1 := (s.keeps_setPanel _ _).trans (State.keeps_decideScan _ _ _ _ _)
  refine .ite (.next .rfl) ?_
  exact .next (.ite ht1 (ht1.trans (t1.keeps_wake _)))

theorem State.keeps_wakeDomains (s : State) : s.Keeps s.wakeDomains := by
  unfold State.wakeDomains
  extract_lets _ t1 t2
  have ht1 : s.Keeps t1 := (s.keeps_withPwr _).trans (.foldl (fun t _ => t.keeps_setOff _ _) _ _)
  have ht2 : s.Keeps t2 := ht1.trans (.foldl (fun t _ => t.keeps_bumpEpoch _) _ _)
  exact ht2.trans (.foldl (fun t _ => .ite (t.keeps_setFld _ _ _) .rfl) _ _)

theorem State.keeps_wakePanels (s : State) : s.Keeps s.wakePanels := by
  unfold State.wakePanels
  exact .foldl (fun t _ => .ite .rfl (.ite (t.keeps_setFld _ _ _) (.ite (t.keeps_startAcquire _ _) .rfl))) _ _

/-- The cores and the gated clusters at the end of Sleep. -/
def State.coresAfterSleep (s : State) : State :=
  { s with flt := { s.flt with coresHeld := s.safe || s.pwr.nReset }, pwr := { s.pwr with gated := 0 } }

/-- What the end of Sleep does once the cores may run again. -/
def State.serviceAfterSleep (s : State) : State :=
  let s := (List.range 8).foldl (fun (s : State) n => if s.flag F.DTG_CTRL_ENABLE n then s.startTraining n else s) s
  let s := ((s.setFld F.PWR_STATE_STATE 0).raise 17).eventSM 0x3C03 noInst 0 0xFF
  let s := s.busyPlaces.foldl (fun (s : State) e =>
    if e.2.ring = .s ∧ e.2.pkt.opcode = 0x3C00 ∧ e.2.result.isNone ∧ e.2.progress = 1 then s.endOp e.1 St.ok else s) s
  [0, 1, 2, 3].foldl (fun (s : State) pool => s.decidePool pool) s

theorem execSleepExit_eq (s : State) :
    execSleepExit s = if s.fld F.PWR_STATE_STATE ≠ 4 ∨ s.pwr.railJob.isSome then .next s
      else .next s.wakeDomains.wakePanels.coresAfterSleep.serviceAfterSleep := rfl

theorem State.keeps_coresAfterSleep (s : State) : s.Keeps s.coresAfterSleep := .of_rest

theorem State.keeps_serviceAfterSleep (s : State) : s.Keeps s.serviceAfterSleep := by
  unfold State.serviceAfterSleep
  extract_lets t3 t4 t5
  have h3 : s.Keeps t3 := .foldl (fun t _ => .ite (t.keeps_startTraining _) .rfl) _ _
  have h4 : t3.Keeps t4 := ((t3.keeps_setFld _ _ _).trans (State.keeps_raise _ _)).trans (State.keeps_eventSM _ _ _ _ _ _ _)
  have h5 : t4.Keeps t5 := .foldl (fun t _ => .ite (t.keeps_endOp _ _ _ _ _ _) .rfl) _ _
  exact ((h3.trans h4).trans h5).trans (.foldl (fun t _ => t.keeps_decidePool _) _ _)

theorem keeps_execSleepExit (s : State) : s.Continues (execSleepExit s) := by
  rw [execSleepExit_eq]
  have hwake := s.keeps_wakeDomains.trans (State.keeps_wakePanels _)
  exact .ite (.next .rfl) (.next ((hwake.trans (State.keeps_coresAfterSleep _)).trans (State.keeps_serviceAfterSleep _)))

theorem keeps_execVaultEntry (s : State) : s.Continues (execVaultEntry s) := by
  unfold execVaultEntry
  refine .ite (.next .rfl) ?_
  extract_lets t1 _ _ _ t2 _
  have ht1 : s.Keeps t1 := s.keeps_flushNow
  have ht2 : s.Keeps t2 := ht1.trans (t1.keeps_afterReset _)
  exact .next (ht2.trans (t2.keeps_withPwr _))

theorem keeps_execClusterIdleGate (c : Nat) (s : State) : s.Continues (execClusterIdleGate c s) := by
  unfold execClusterIdleGate
  refine .ite (.next .rfl) ?_
  exact .next (s.keeps_withPwr _)

theorem keeps_execClusterWake (c : Nat) (s : State) : s.Continues (execClusterWake c s) := by
  unfold execClusterWake
  refine .ite (.next (s.keeps_withPwr _)) ?_
  exact .next .rfl

theorem State.keeps_domainOn (s : State) (k d tag : Nat) : s.Keeps (s.domainOn k d tag) := by
  unfold State.domainOn
  extract_lets t1
  have ht1 : s.Keeps t1 := s.keeps_cancelHeld _ _
  exact .ite (ht1.trans (t1.keeps_endOp _ _ _ _ _ _)) ((ht1.trans (t1.keeps_askRestore _ _)).trans (State.keeps_setProgress _ _ _))

theorem State.keeps_domainCut (s : State) (k d : Nat) (p : Started) : s.Keeps (s.domainCut k d p) := by
  unfold State.domainCut
  extract_lets _ _
  exact .ite (s.keeps_endOp _ _ _ _ _ _) (.ite (s.keeps_holdRequest _ _) (.ite (s.keeps_endOp _ _ _ _ _ _) (((s.keeps_cancelHeld _ _).trans
      (State.keeps_setProgress _ _ _)).trans (State.keeps_startCut _ _ _))))

theorem keeps_execDomainSet (k : Nat) (s : State) : s.Continues (execDomainSet k s) := by
  unfold execDomainSet
  split
  · exact .next .rfl
  · extract_lets _ _
    refine .ite (.next s.keeps_finishCuts) ?_
    refine .ite (.next (s.keeps_endOp _ _ _ _ _ _)) ?_
    refine .ite (.next (s.keeps_endOp _ _ _ _ _ _)) ?_
    refine .ite (.next (s.keeps_domainOn _ _ _)) ?_
    refine .ite (.next (s.keeps_domainCut _ _ _)) ?_
    refine .ite (.next (s.keeps_endOp _ _ _ _ _ _)) ?_
    exact .next (s.keeps_domainOn _ _ _)

theorem keeps_execDomainRestored (d : Nat) (s : State) : s.Continues (execDomainRestored d s) := by
  unfold execDomainRestored
  extract_lets _ _ t1
  have ht1 : s.Keeps t1 := s.keeps_withPwr _
  refine .ite (.next .rfl) ?_
  refine .next ?_
  refine State.Keeps.trans ?_ (.foldl (fun t a => ?_) _ _)
  · exact ht1.trans (t1.keeps_restoreDomain _)
  · split
    · exact t.keeps_endOp _ _ _ _ _ _
    · exact .rfl

theorem keeps_execPwrSclaimWrite (who : Who) (j : Nat) (v : Word) (s : State) : s.Continues (execPwrSclaimWrite who j v s) := by
  unfold execPwrSclaimWrite
  refine .ite (.next .rfl) ?_
  extract_lets t1
  have ht1 : s.Keeps t1 := s.keeps_setRg _ _
  exact .next (.ite ht1 (ht1.trans t1.keeps_restoreClaimed))

theorem keeps_execDeferredApply (i : Nat) (s : State) : s.Continues (execDeferredApply i s) := by
  unfold execDeferredApply
  split
  · exact .next .rfl
  · refine .ite (.next .rfl) ?_
    extract_lets t1 t2
    have ht1 : s.Keeps t1 := s.keeps_setDeferred _
    clear_value t1
    have ht2 : s.Keeps t2 := by
      unfold t2
      refine .ite (ht1.trans (t1.keeps_setFld _ _ _)) ?_
      split
      · exact .ite (ht1.trans (t1.keeps_startCut _ _)) ht1
      · exact ht1
    exact .next (ht2.trans (t2.keeps_event _ _ _ _ _ _ _ _))

theorem keeps_execReset (k : Nat) (s : State) : s.Continues (execReset k s) := by
  unfold execReset
  split
  · exact .next .rfl
  · refine .ite ?_ ?_
    · refine .ite (.next ((s.keeps_afterReset _).trans (State.keeps_boot _ _))) ?_
      exact .next (s.keeps_endOp _ _ _ _ _ _)
    · refine .ite (.next .rfl) ?_
      refine .ite (.next (s.keeps_endOp _ _ _ _ _ _)) ?_
      exact .next ((s.keeps_setProgress _ _).trans (State.keeps_beginNReset _))

theorem keeps_execNworldResetDone (s : State) : s.Continues (execNworldResetDone s) := by
  unfold execNworldResetDone
  refine .ite (.next .rfl) ?_
  extract_lets _ t1 t2
  have ht1 : s.Keeps t1 := s.keeps_withPwr _
  have ht2 : s.Keeps t2 := ((ht1.trans t1.keeps_clearNDram).trans (State.keeps_releaseCores _)).trans (State.keeps_event _ _ _ _ _ _ _ _ _)
  exact .next (ht2.trans (.foldl (fun t _ => .ite (t.keeps_endOp _ _ _ _ _ _) .rfl) _ _))

theorem keeps_execResetNLow (s : State) : s.Continues (execResetNLow s) := by
  unfold execResetNLow
  refine .ite (.next .rfl) ?_
  extract_lets t1 _
  have ht1 : s.Keeps t1 := s.keeps_afterReset _
  exact .next (ht1.trans (t1.keeps_withPwr _))

theorem keeps_execWarmResetRelease (s : State) : s.Continues (execWarmResetRelease s) := by
  unfold execWarmResetRelease
  refine .ite (.next (s.keeps_boot _)) ?_
  exact .next .rfl

theorem keeps_execPoresetLow (s : State) : s.Continues (execPoresetLow s) := by
  unfold execPoresetLow
  refine .ite (.next (s.keeps_afterReset _)) ?_
  exact .next .rfl

theorem keeps_execAonPowerUp (s : State) : s.Continues (execAonPowerUp s) := by
  unfold execAonPowerUp
  refine .ite (.next .rfl) ?_
  exact .next (s.keeps_withPwr _)

theorem keeps_execVbatLoss (s : State) : s.Continues (execVbatLoss s) := by
  unfold execVbatLoss
  refine .ite (.next .rfl) ?_
  extract_lets t1 t2 _ _
  have ht1 : s.Keeps t1 := s.keeps_clearRegs _ _
  have ht2 : s.Keeps t2 := (ht1.trans (t1.keeps_clearRegs _ _)).trans (State.keeps_clearRegs _ _ _)
  exact .next (ht2.trans State.Keeps.of_rest)

theorem keeps_execCaseOpen (s : State) : s.Continues (execCaseOpen s) := by
  unfold execCaseOpen
  extract_lets _ t1 _ t2
  have ht1 : s.Keeps t1 := ((s.keeps_satInc _ _ _).trans (State.keeps_setRg _ _ _)).trans (State.keeps_setFld _ _ _ _)
  have ht2 : s.Keeps t2 := ht1.trans (t1.keeps_withPwr _)
  refine .ite (.next ht2) ?_
  exact .next (((ht2.trans (t2.keeps_raise _)).trans (State.keeps_event _ _ _ _ _ _ _ _ _)).trans (State.keeps_recordOpenings _))

theorem keeps_execRtcSet (k : Nat) (s : State) : s.Continues (execRtcSet k s) := by
  unfold execRtcSet
  split
  · exact .next .rfl
  · extract_lets _ _ _ t1
    have ht1 : s.Keeps t1 := (s.keeps_setRg _ _).trans (State.keeps_setFld _ _ _ _)
    refine .ite (.next (s.keeps_endOp _ _ _ _ _ _)) ?_
    exact .next ((ht1.trans t1.keeps_evalCalendar).trans (State.keeps_endOp _ _ _ _ _ _ _))

theorem keeps_execPowerQuery (k : Nat) (s : State) : s.Continues (execPowerQuery k s) := by
  unfold execPowerQuery
  split
  · exact .next .rfl
  · exact .next (s.keeps_endOp _ _ _ _ _ _)

theorem keeps_execRailPowerGood (r : Nat) (s : State) : s.Continues (execRailPowerGood r s) := by
  unfold execRailPowerGood
  split
  · exact .next .rfl
  · refine .ite (.next .rfl) ?_
    extract_lets _ _ _
    exact .next (s.keeps_withPwr _)

theorem keeps_execRailTimeout (r status : Nat) (s : State) : s.Continues (execRailTimeout r status s) := by
  unfold execRailTimeout
  split
  · exact .next .rfl
  · refine .ite (.next .rfl) ?_
    refine .ite (.next (s.keeps_withPwr _)) ?_
    extract_lets _ t1
    have ht1 : s.Keeps t1 := s.keeps_withPwr _
    exact .next (((ht1.trans (t1.keeps_setFld _ _ _)).trans (State.keeps_raise _ _)).trans (State.keeps_event _ _ _ _ _ _ _ _ _))

theorem keeps_execAvsAdjust (dir : Nat) (s : State) : s.Continues (execAvsAdjust dir s) := by
  unfold execAvsAdjust
  refine .ite (.next .rfl) ?_
  extract_lets _ _ t1
  have ht1 : s.Keeps t1 := .ite s.keeps_fresh .rfl
  exact .next (ht1.trans (t1.keeps_setFld _ _ _))

theorem keeps_execTjLimit (s : State) : s.Continues (execTjLimit s) := .next (s.keeps_raise _)

end Sys2Proof.Machine
end

section
/-! PROOFS. What register writes keep. -/

namespace Sys2Proof.Machine

theorem keeps_landed {s : State} {o : Host.Outcome State Fault Refusal} (h : s.Continues o) : s.Keeps (landed s o) := by
  obtain ⟨t, rfl, k⟩ := h
  exact k

theorem State.keeps_plainWrite (s : State) (who : Who) (a : Nat) (v : Word) : s.Keeps (s.plainWrite who a v) := by
  unfold State.plainWrite
  split
  · exact .rfl
  · exact .ite (s.keeps_setRg _ _) .rfl

theorem State.keeps_doorWrite (s : State) (who : Who) (r : RingId) (off : Nat) (v : Word) : s.Keeps (s.doorWrite who r off v) := by
  unfold State.doorWrite
  split
  · exact keeps_landed (keeps_execSqTailDoorbell _ _ _ _)
  · exact keeps_landed (keeps_execCqHeadDoorbell _ _ _ _)
  · exact keeps_landed (keeps_execEqHeadDoorbell _ _ _ _)
  · exact keeps_landed (keeps_execSqResume _ _ _ _)
  · exact .ite (s.keeps_setRing _ _) .rfl
  · exact .rfl

theorem State.keeps_pringWrite (s : State) (who : Who) (p off : Nat) (v : Word) : s.Keeps (s.pringWrite who p off v) := by
  unfold State.pringWrite
  refine .ite (s.keeps_doorWrite _ _ _ _) ?_
  extract_lets _
  exact .ite (keeps_landed (keeps_execPringEnable _ _ _ _)) (.ite (keeps_landed (keeps_execPringDisable _ _ _ _)) (.ite .rfl (s.keeps_plainWrite _ _
      _)))

theorem State.keeps_cpWrite (s : State) (who : Who) (a : Nat) (v : Word) : s.Keeps (s.cpWrite who a v) :=
  .ite (s.keeps_pringWrite _ _ _ _) (.ite .rfl (s.keeps_plainWrite _ _ _))

theorem State.keeps_devWrite (s : State) (who : Who) (a : Nat) (v : Word) : s.Keeps (s.devWrite who a v) := by
  unfold State.devWrite
  refine .ite ?_ (.ite (s.keeps_plainWrite _ _ _) (.ite (keeps_landed (keeps_execSwdogKick _ _ _)) (.ite (s.keeps_plainWrite _ _ _)
      (s.keeps_plainWrite _ _ _))))
  extract_lets t1 t2
  have ht1 : s.Keeps t1 := s.keeps_plainWrite _ _ _
  have ht2 : s.Keeps t2 := ht1.trans (t1.keeps_setFld _ _ _)
  exact .ite ht2 (ht2.trans (t2.keeps_setFld _ _ _))

theorem State.keeps_mbxWrite (s : State) (who : Who) (m off : Nat) (v : Word) : s.Keeps (s.mbxWrite who m off v) := by
  unfold State.mbxWrite
  refine .ite (keeps_landed (keeps_execMbxBufferWrite _ _ _ _ _)) ?_
  refine .ite (keeps_landed (keeps_execMbxDoorbell _ _ _ _)) ?_
  refine .ite ?_ .rfl
  extract_lets t1
  have ht1 : s.Keeps t1 := .ite (s.keeps_setFld _ _ _) .rfl
  exact .ite (ht1.trans (t1.keeps_setFld _ _ _)) ht1

theorem State.keeps_intWrite (s : State) (who : Who) (a : Nat) (v : Word) : s.Keeps (s.intWrite who a v) :=
  .ite (keeps_landed (keeps_execIntBandWrite _ _ _ _)) (.ite (keeps_landed (keeps_execIntSack _ _ _)) (.ite (keeps_landed (keeps_execIntMbxOwnerWrite
      _ _ _ _)) (.ite (.ite (s.keeps_writeSctrl _ _) .rfl) (.ite (s.keeps_mbxWrite _ _ _ _) (s.keeps_plainWrite _ _ _)))))

theorem State.keeps_dispWrite (s : State) (who : Who) (a : Nat) (v : Word) : s.Keeps (s.dispWrite who a v) :=
  .ite (.ite (keeps_landed (keeps_execDtgEnable _ _ _ _)) (.ite (keeps_landed (keeps_execApplyArm _ _ _ _)) (s.keeps_plainWrite _ _ _))) (.ite
      (keeps_landed (keeps_execLayerArm _ _ _ _)) (.ite ((s.keeps_plainWrite _ _ _).trans (State.keeps_noteLayerWrite _ _ _)) (.ite (keeps_landed
          (keeps_execDptxTrain _ _ _ _)) (s.keeps_plainWrite _ _ _))))

theorem State.keeps_hapWrite (s : State) (who : Who) (a : Nat) (v : Word) : s.Keeps (s.hapWrite who a v) := by
  unfold State.hapWrite
  refine .ite ?_ (.ite .rfl (s.keeps_plainWrite _ _ _))
  extract_lets _ t1
  have ht1 : s.Keeps t1 := s.keeps_plainWrite _ _ _
  exact .ite .rfl (.ite (ht1.trans (t1.keeps_setFld _ _ _)) ht1)

theorem State.keeps_mcWrite (s : State) (who : Who) (a : Nat) (v : Word) : s.Keeps (s.mcWrite who a v) := by
  unfold State.mcWrite
  refine .ite ?_ ?_
  · refine .ite .rfl ?_
    extract_lets t1
    have ht1 : s.Keeps t1 := s.keeps_plainWrite _ _ _
    exact ht1.trans (t1.keeps_setFld _ _ _)
  · refine .ite (.ite (s.keeps_plainWrite _ _ _) .rfl) ?_
    refine .ite (.ite (s.keeps_plainWrite _ _ _) .rfl) ?_
    refine .ite ?_ (s.keeps_plainWrite _ _ _)
    extract_lets _
    split
    · exact keeps_landed (keeps_execThawPoison _ _ _)
    · exact keeps_landed (keeps_execThawRewriteMr _ _ _)
    · exact keeps_landed (keeps_execThawRetrain _ _ _)
    · exact keeps_landed (keeps_execThawFence _ _ _)
    · exact .rfl

theorem State.keeps_folWrite (s : State) (who : Who) (a : Nat) (v : Word) : s.Keeps (s.folWrite who a v) := by
  unfold State.folWrite
  extract_lets t1
  have ht1 : s.Keeps t1 := s.keeps_plainWrite _ _ _
  exact .ite (ht1.trans (t1.keeps_folioBad _ _)) ht1

theorem State.keeps_pwrWrite (s : State) (who : Who) (a : Nat) (v : Word) : s.Keeps (s.pwrWrite who a v) := by
  unfold State.pwrWrite
  refine .ite (keeps_landed (keeps_execPwrSclaimWrite _ _ _ _)) ?_
  refine .ite (keeps_landed (keeps_execPwrSclaimWrite _ _ _ _)) ?_
  extract_lets t1
  have ht1 : s.Keeps t1 := s.keeps_plainWrite _ _ _
  exact .ite (ht1.trans (t1.keeps_setFld _ _ _)) ht1

theorem State.keeps_aonWrite (s : State) (who : Who) (a : Nat) (v : Word) : s.Keeps (s.aonWrite who a v) := .ite .rfl (s.keeps_plainWrite _ _ _)

theorem State.keeps_gpioWrite (s : State) (who : Who) (a : Nat) (v : Word) : s.Keeps (s.gpioWrite who a v) := by
  unfold State.gpioWrite
  extract_lets _ t1 t2
  have ht1 : s.Keeps t1 := s.keeps_plainWrite _ _ _
  have ht2 : s.Keeps t2 := s.keeps_plainWrite _ _ _
  exact .ite (ht1.trans (.foldl (fun t _ => t.keeps_groupSync _) _ _)) (.ite (ht2.trans (t2.keeps_drivePins _)) ht2)

theorem State.keeps_portWrite (s : State) (who : Who) (p off : Nat) (v : Word) : s.Keeps (s.portWrite who p off v) := by
  unfold State.portWrite
  extract_lets _
  refine .ite .rfl ?_
  split
  · exact keeps_landed (keeps_execLsioCtrlWrite _ _ _ _)
  · exact keeps_landed (keeps_execLsioTxPush _ _ _ _)
  · exact keeps_landed (keeps_execLsioRxPop _ _ _ _)
  · exact .ite .rfl (s.keeps_plainWrite _ _ _)
  · exact .ite .rfl (s.keeps_plainWrite _ _ _)
  · exact (s.keeps_plainWrite _ _ _).trans (State.keeps_portSync _ _ _)

theorem State.keeps_lsioWrite (s : State) (who : Who) (a : Nat) (v : Word) : s.Keeps (s.lsioWrite who a v) :=
  .ite (keeps_landed (keeps_execLsioSownWrite _ _ _ _)) (.ite (s.keeps_portWrite _ _ _ _) (.ite (s.keeps_gpioWrite _ _ _) .rfl))

theorem State.keeps_windowWrite (s : State) (who : Who) (a : Nat) (v : Word) : s.Keeps (s.windowWrite who a v) := by
  unfold State.windowWrite
  split
  · exact s.keeps_devWrite _ _ _
  · exact s.keeps_intWrite _ _ _
  · exact s.keeps_cpWrite _ _ _
  · exact s.keeps_dispWrite _ _ _
  · exact .ite (keeps_landed (keeps_execGrvCtxbaseWrite _ _ _ _)) (.ite (keeps_landed (keeps_execGrvCtxbaseWrite _ _ _ _)) (s.keeps_plainWrite _ _ _))
  · exact s.keeps_hapWrite _ _ _
  · exact s.keeps_mcWrite _ _ _
  · exact s.keeps_folWrite _ _ _
  · exact s.keeps_pwrWrite _ _ _
  · exact s.keeps_aonWrite _ _ _
  · exact s.keeps_lsioWrite _ _ _
  · exact s.keeps_plainWrite _ _ _

theorem State.keeps_regWrite (s : State) (who : Who) (a : Nat) (v : Word) : s.Keeps (s.regWrite who a v) :=
  .ite .rfl (.ite ((s.keeps_recordBus _ _ _ _).trans (State.keeps_answer _ _)) (.ite ((s.keeps_doorWrite _ _ _ _).trans (State.keeps_answer _ _))
      (.ite (s.keeps_refuseGated _ _) ((s.keeps_windowWrite _ _ _).trans (State.keeps_answer _ _)))))

end Sys2Proof.Machine
end

section
/-! PROOFS. What the fabric keep. -/

namespace Sys2Proof.Machine

theorem State.keeps_hold (s : State) (b : Buffered) : s.Keeps (s.hold b) := .ite .rfl (.ite (s.keeps_answer _) .of_rest)

theorem State.keeps_turnAway (s : State) (r : Req) (a : Nat) (write : Option (List Byte)) (f : XFault) : s.Keeps (s.turnAway r a write f) := by
  unfold State.turnAway
  refine .ite ?_ ((s.keeps_noteFault _).trans (State.keeps_answer _ _))
  refine .ite (s.keeps_answer _) ?_
  extract_lets _
  exact (s.keeps_setMcQueue _ _).trans (State.keeps_answer _ _)

theorem State.keeps_meet (s : State) (r : Req) (a : Nat) (noise : List (Nat × Byte)) (act : Option RowAct) : s.Keeps (s.meet r a noise act) :=
  .ite ((s.keeps_upset _ _).trans (State.keeps_activate _ _ _ _)) .rfl

theorem State.keeps_memLoad (s : State) (r : Req) (addr : Nat) (noise : List (Nat × Byte)) (act : Option RowAct) :
    s.Keeps (s.memLoad r addr noise act) := by
  unfold State.memLoad
  extract_lets _ t1
  have ht1 : s.Keeps t1 := s.keeps_meet _ _ _ _
  refine .ite (s.keeps_answer _) ?_
  refine .ite ((s.keeps_recordBus _ _ _ _).trans (State.keeps_answer _ _)) ?_
  refine .ite (s.keeps_fresh.trans (State.keeps_answer _ _)) ?_
  split
  · exact (ht1.trans (t1.keeps_noteReads _ _)).trans (State.keeps_answer _ _)
  · exact ht1.trans (t1.keeps_turnAway _ _ _ _)

theorem State.keeps_memStore (s : State) (r : Req) (a : Nat) (data : List Byte) (noise : List (Nat × Byte)) (act : Option RowAct) :
    s.Keeps (s.memStore r a data noise act) := by
  unfold State.memStore
  refine .ite (s.keeps_answer _) ?_
  refine .ite (.ite (s.keeps_regWrite _ _ _) ((s.keeps_recordBus _ _ _ _).trans (State.keeps_answer _ _))) ?_
  refine .ite (s.keeps_answer _) ?_
  extract_lets t1
  have ht1 : s.Keeps t1 := s.keeps_meet _ _ _ _
  split
  · rename_i t2 heq3
    have ht2 : s.Keeps t2 := .of_pair heq3 (ht1.trans (t1.keeps_physWrite _ _ _))
    exact (ht2.trans t2.keeps_flushPlate).trans (State.keeps_answer _ _)
  · rename_i t4 heq5
    have ht4 : s.Keeps t4 := .of_pair heq5 (ht1.trans (t1.keeps_physWrite _ _ _))
    exact (ht4.trans t4.keeps_flushPlate).trans (State.keeps_turnAway _ _ _ _ _)

theorem keeps_execMemoryRead (r : Req) (addr : Nat) (noise : List (Nat × Byte)) (act : Option RowAct) (s : State) :
    s.Continues (execMemoryRead r addr noise act s) := .next (s.keeps_memLoad _ _ _ _)

theorem State.keeps_discardWrite (s : State) (r : Req) : s.Keeps (s.discardWrite r) := by
  unfold State.discardWrite
  split
  · extract_lets _
    exact (s.keeps_setClient _ _).trans (State.keeps_answer _ _)
  · exact .rfl

theorem keeps_execMemoryWrite (buffered : Bool) (gen : Nat) (r : Req) (addr : Nat) (data : List Byte) (act : Option RowAct) (s : State) :
    s.Continues (execMemoryWrite buffered gen r addr data act s) := by
  unfold execMemoryWrite
  extract_lets _
  exact .next (.ite (s.keeps_discardWrite _) (.ite (s.keeps_hold _) (s.keeps_memStore _ _ _ _ _)))

theorem keeps_execPartialWrite (buffered : Bool) (gen : Nat) (r : Req) (addr : Nat) (data : List Byte) (noise : List (Nat × Byte)) (act : Option
    RowAct) (s : State) : s.Continues (execPartialWrite buffered gen r addr data noise act s) := .next (.ite (s.keeps_discardWrite _) (.ite
        (s.keeps_hold _) (s.keeps_memStore _ _ _ _ _)))

theorem keeps_execRegisterWrite (buffered : Bool) (who : Who) (addr : Nat) (v : Word) (s : State) :
    s.Continues (execRegisterWrite buffered who addr v s) := .next (.ite (s.keeps_hold _) (s.keeps_regWrite _ _ _))

theorem keeps_execMisalignedWindowAccess (who : Who) (write : Bool) (addr : Nat) (s : State) :
    s.Continues (execMisalignedWindowAccess who write addr s) := .next (.ite ((s.keeps_recordBus _ _ _ _).trans (State.keeps_answer _ _)) .rfl)

theorem keeps_execUnmappedAccess (who : Who) (core write : Bool) (addr : Nat) (s : State) :
    s.Continues (execUnmappedAccess who core write addr s) := by
  unfold execUnmappedAccess
  split
  · exact .next ((s.keeps_recordBus _ _ _ _).trans (State.keeps_answer _ _))
  · exact .next .rfl

theorem keeps_execGatedWindowAccess (who : Who) (write : Bool) (addr : Nat) (s : State) : s.Continues (execGatedWindowAccess who write addr s) :=
  .next (.ite ((s.keeps_recordBus _ _ _ _).trans (State.keeps_answer _ _)) .rfl)

theorem State.keeps_release (s : State) (b : Buffered) : s.Keeps (s.release b) := by
  unfold State.release
  split
  · exact s.keeps_regWrite _ _ _
  · exact s.keeps_memStore _ _ _ _ _

theorem keeps_execCheckpointCommit (s : State) : s.Continues (execCheckpointCommit s) := by
  unfold execCheckpointCommit
  refine .ite (.next .rfl) ?_
  extract_lets _ t1 _
  have ht1 : s.Keeps t1 := (s.keeps_withWld _).trans (.foldl (fun t _ => t.keeps_release _) _ _)
  exact .next ((ht1.trans (t1.keeps_withWld _)).trans (State.keeps_standbyCopied _))

theorem State.keeps_debugRead (s : State) (r : Req) (a : Nat) : s.Keeps (s.debugRead r a) :=
  .ite (s.keeps_memLoad _ _ _ _) (.ite ((s.keeps_recordBus _ _ _ _).trans (State.keeps_answer _ _)) (.ite ((s.keeps_recordBus _ _ _ _).trans
      (State.keeps_answer _ _)) (s.keeps_answer _)))

theorem keeps_execDebugAccess (sWorld : Bool) (r : Req) (write : Bool) (addr : Nat) (data : List Byte) (s : State) :
    s.Continues (execDebugAccess sWorld r write addr data s) := by
  unfold execDebugAccess
  extract_lets _
  refine .ite (.next (s.keeps_answer _)) ?_
  exact .next (.ite (s.keeps_memStore _ _ _ _ _) (s.keeps_debugRead _ _))

end Sys2Proof.Machine
end

section
/-! PROOFS. Every step keeps the canonical forms, and every command answers and leaves the queue alone. -/

namespace Sys2Proof.Machine

/-- Every command answers a next state that keeps the queue and the canonical forms. -/
theorem keeps_exec (i : Instr) (s : State) : s.Continues (exec i s) := by
  cases i with
  | registerWrite buffered who addr v => exact keeps_execRegisterWrite buffered who addr v s
  | misalignedWindowAccess who write addr => exact keeps_execMisalignedWindowAccess who write addr s
  | unmappedAccess who core write addr => exact keeps_execUnmappedAccess who core write addr s
  | gatedWindowAccess who write addr => exact keeps_execGatedWindowAccess who write addr s
  | memoryRead r addr noise act => exact keeps_execMemoryRead r addr noise act s
  | memoryWrite buffered gen r addr data act => exact keeps_execMemoryWrite buffered gen r addr data act s
  | partialWrite buffered gen r addr data noise act => exact keeps_execPartialWrite buffered gen r addr data noise act s
  | correctionWriteback addr => exact keeps_execCorrectionWriteback addr s
  | patrolRead addr noise => exact keeps_execPatrolRead addr noise s
  | requestAgePromotion c ix => exact keeps_execRequestAgePromotion c ix s
  | refreshBatch c => exact keeps_execRefreshBatch c s
  | mr4Poll c ind => exact keeps_execMr4Poll c ind s
  | modeRegisterReadback c mismatch => exact keeps_execModeRegisterReadback c mismatch s
  | commandPathParityError c => exact keeps_execCommandPathParityError c s
  | heavyRowWindowClear => exact keeps_execHeavyRowWindowClear s
  | slotTableSwap g => exact keeps_execSlotTableSwap g s
  | thawPoison who c => exact keeps_execThawPoison who c s
  | thawRewriteMr who c => exact keeps_execThawRewriteMr who c s
  | thawRetrain who c => exact keeps_execThawRetrain who c s
  | thawFence who c => exact keeps_execThawFence who c s
  | selfThaw c => exact keeps_execSelfThaw c s
  | wckDrift => exact keeps_execWckDrift s
  | retrainAttemptEnd failed => exact keeps_execRetrainAttemptEnd failed s
  | mirrorCopyDone m => exact keeps_execMirrorCopyDone m s
  | scrub k upto => exact keeps_execScrub k upto s
  | slotSet k => exact keeps_execSlotSet k s
  | mirrorSet k => exact keeps_execMirrorSet k s
  | retrain k => exact keeps_execRetrain k s
  | memQuery k => exact keeps_execMemQuery k s
  | checkpointCommit => exact keeps_execCheckpointCommit s
  | lockstepMismatch => exact keeps_execLockstepMismatch s
  | pairBResume => exact keeps_execPairBResume s
  | intBandWrite who j v => exact keeps_execIntBandWrite who j v s
  | intSack who v => exact keeps_execIntSack who v s
  | secureInterruptSignal => exact keeps_execSecureInterruptSignal s
  | aplicMessageSend src => exact keeps_execAplicMessageSend src s
  | intMbxOwnerWrite who m v => exact keeps_execIntMbxOwnerWrite who m v s
  | mbxTake who m v => exact keeps_execMbxTake who m v s
  | mbxSend who m v => exact keeps_execMbxSend who m v s
  | mbxDoorbell who m v => exact keeps_execMbxDoorbell who m v s
  | mbxBufferWrite who m off v => exact keeps_execMbxBufferWrite who m off v s
  | debugAccess sWorld r write addr data => exact keeps_execDebugAccess sWorld r write addr data s
  | pwrSclaimWrite who j v => exact keeps_execPwrSclaimWrite who j v s
  | deferredApply ix => exact keeps_execDeferredApply ix s
  | sqTailDoorbell who ring v => exact keeps_execSqTailDoorbell who ring v s
  | cqHeadDoorbell who ring v => exact keeps_execCqHeadDoorbell who ring v s
  | eqHeadDoorbell who ring v => exact keeps_execEqHeadDoorbell who ring v s
  | sqResume who ring v => exact keeps_execSqResume who ring v s
  | packetStart ring => exact keeps_execPacketStart ring s
  | fenceEvaluate ring => exact keeps_execFenceEvaluate ring s
  | fenceTimeout ring => exact keeps_execFenceTimeout ring s
  | packetComplete k => exact keeps_execPacketComplete k s
  | quantumBoundary => exact keeps_execQuantumBoundary s
  | contextResident => exact keeps_execContextResident s
  | nop k => exact keeps_execNop k s
  | ringSetup k => exact keeps_execRingSetup k s
  | ringDisable k => exact keeps_execRingDisable k s
  | ringSetDrained ring => exact keeps_execRingSetDrained ring s
  | ringQuery k => exact keeps_execRingQuery k s
  | eventMask k => exact keeps_execEventMask k s
  | timeRead k => exact keeps_execTimeRead k s
  | pringEnable who p v => exact keeps_execPringEnable who p v s
  | pringDisable who p v => exact keeps_execPringDisable who p v s
  | instanceQuery k => exact keeps_execInstanceQuery k s
  | instanceReset k => exact keeps_execInstanceReset k s
  | instanceResetDone c => exact keeps_execInstanceResetDone c s
  | shareSet k => exact keeps_execShareSet k s
  | grant k => exact keeps_execGrant k s
  | resourceRemoval ix => exact keeps_execResourceRemoval ix s
  | devctxSet k => exact keeps_execDevctxSet k s
  | clientBind k => exact keeps_execClientBind k s
  | iotlbInval k => exact keeps_execIotlbInval k s
  | pasidMap k => exact keeps_execPasidMap k s
  | pcieInboundRequest fn pasid q => exact keeps_execPcieInboundRequest fn pasid q s
  | pcieFlr fn => exact keeps_execPcieFlr fn s
  | pciePerst low => exact keeps_execPciePerst low s
  | pcieLinkChange up speed width vfs => exact keeps_execPcieLinkChange up speed width vfs s
  | pcieError uncorr => exact keeps_execPcieError uncorr s
  | dptxTrain who n v => exact keeps_execDptxTrain who n v s
  | trainingAttemptEnd n ok => exact keeps_execTrainingAttemptEnd n ok s
  | hpdUnplug n => exact keeps_execHpdUnplug n s
  | hpdPlug n => exact keeps_execHpdPlug n s
  | irqHpd n lost => exact keeps_execIrqHpd n lost s
  | dtgEnable who n v => exact keeps_execDtgEnable who n v s
  | applyArm who n v => exact keeps_execApplyArm who n v s
  | layerArm who l v => exact keeps_execLayerArm who l v s
  | applyLine n => exact keeps_execApplyLine n s
  | frameBoundary n => exact keeps_execFrameBoundary n s
  | verticalStart n => exact keeps_execVerticalStart n s
  | layerFetchFault l reason line => exact keeps_execLayerFetchFault l reason line s
  | layerUnderrun l line => exact keeps_execLayerUnderrun l line s
  | outputQuery k => exact keeps_execOutputQuery k s
  | modeSet k => exact keeps_execModeSet k s
  | auxXfer k reply => exact keeps_execAuxXfer k reply s
  | layerAssign k => exact keeps_execLayerAssign k s
  | layerUnassign k => exact keeps_execLayerUnassign k s
  | layerSet k => exact keeps_execLayerSet k s
  | flip k => exact keeps_execFlip k s
  | paletteSet k => exact keeps_execPaletteSet k s
  | plateLockedWrite who addr => exact keeps_execPlateLockedWrite who addr s
  | listLoad k => exact keeps_execListLoad k s
  | listUnload k => exact keeps_execListUnload k s
  | listCheckDone => exact keeps_execListCheckDone s
  | swap k => exact keeps_execSwap k s
  | listRelease ix => exact keeps_execListRelease ix s
  | blinkSet k => exact keeps_execBlinkSet k s
  | blinkPhaseChange n c => exact keeps_execBlinkPhaseChange n c s
  | modeDecide k => exact keeps_execModeDecide k s
  | etchQuery k => exact keeps_execEtchQuery k s
  | proofVerdict n w line crc => exact keeps_execProofVerdict n w line crc s
  | takeoverSwitch n line => exact keeps_execTakeoverSwitch n line s
  | proofPassStart => exact keeps_execProofPassStart s
  | proofPassEnd => exact keeps_execProofPassEnd s
  | returnCheckEnd n bad => exact keeps_execReturnCheckEnd n bad s
  | sinkCrcRead n crc => exact keeps_execSinkCrcRead n crc s
  | guardSet k => exact keeps_execGuardSet k s
  | windowSet k => exact keeps_execWindowSet k s
  | proofReturn k => exact keeps_execProofReturn k s
  | proofForce k => exact keeps_execProofForce k s
  | proofQuery k => exact keeps_execProofQuery k s
  | fill k => exact keeps_execFill k s
  | gradient k => exact keeps_execGradient k s
  | copy k => exact keeps_execCopy k s
  | blend k => exact keeps_execBlend k s
  | scale k => exact keeps_execScale k s
  | convert k => exact keeps_execConvert k s
  | pathFill k => exact keeps_execPathFill k s
  | pathStroke k => exact keeps_execPathStroke k s
  | grvGlyphs k => exact keeps_execGrvGlyphs k s
  | grvPaletteLoad k => exact keeps_execGrvPaletteLoad k s
  | grvCtxSave k => exact keeps_execGrvCtxSave k s
  | grvCtxRestore k => exact keeps_execGrvCtxRestore k s
  | graverStripEnd k => exact keeps_execGraverStripEnd k s
  | grvCtxbaseWrite who hi v => exact keeps_execGrvCtxbaseWrite who hi v s
  | arbiterRequest q pool lockNs => exact keeps_execArbiterRequest q pool lockNs s
  | takeAwayStop u => exact keeps_execTakeAwayStop u s
  | arbiterRelease u => exact keeps_execArbiterRelease u s
  | lockOverrun u => exact keeps_execLockOverrun u s
  | hallRun k => exact keeps_execHallRun k s
  | hallQuery k => exact keeps_execHallQuery k s
  | scanStart p => exact keeps_execScanStart p s
  | driveWindowEnd p win => exact keeps_execDriveWindowEnd p win s
  | surveyEnd p win => exact keeps_execSurveyEnd p win s
  | surveySkipped p => exact keeps_execSurveySkipped p s
  | scanDecision p copy2 => exact keeps_execScanDecision p copy2 s
  | reportWrite p => exact keeps_execReportWrite p s
  | persistTimer p id => exact keeps_execPersistTimer p id s
  | idleLevelTimer p => exact keeps_execIdleLevelTimer p s
  | surveyDue p => exact keeps_execSurveyDue p s
  | wakeScan wins => exact keeps_execWakeScan wins s
  | panelSet k => exact keeps_execPanelSet k s
  | panelTune k => exact keeps_execPanelTune k s
  | reportSetup k => exact keeps_execReportSetup k s
  | zoneSet k => exact keeps_execZoneSet k s
  | absorb k => exact keeps_execAbsorb k s
  | recalibrate k => exact keeps_execRecalibrate k s
  | panelQuery k => exact keeps_execPanelQuery k s
  | tchCtxSave k => exact keeps_execTchCtxSave k s
  | tchCtxRestore k => exact keeps_execTchCtxRestore k s
  | hapTrigEdge j rising => exact keeps_execHapTrigEdge j rising s
  | hapticZoneTrigger z => exact keeps_execHapticZoneTrigger z s
  | segmentEnd a => exact keeps_execSegmentEnd a s
  | coastWindow a bemf => exact keeps_execCoastWindow a bemf s
  | openCheck a ma => exact keeps_execOpenCheck a ma s
  | overcurrent a ma => exact keeps_execOvercurrent a ma s
  | vhapMeasure mv => exact keeps_execVhapMeasure mv s
  | play k => exact keeps_execPlay k s
  | waveLoad k => exact keeps_execWaveLoad k s
  | waveFree k => exact keeps_execWaveFree k s
  | actQuery k => exact keeps_execActQuery k s
  | maint k => exact keeps_execMaint k s
  | portSet k => exact keeps_execPortSet k s
  | routeSet k => exact keeps_execRouteSet k s
  | busSet k => exact keeps_execBusSet k s
  | safeload k => exact keeps_execSafeload k s
  | safeloadSwap v => exact keeps_execSafeloadSwap v s
  | routerState k => exact keeps_execRouterState k s
  | genSet k => exact keeps_execGenSet k s
  | toneSet k => exact keeps_execToneSet k s
  | cadenceStepEnd g => exact keeps_execCadenceStepEnd g s
  | beepPlay k => exact keeps_execBeepPlay k s
  | zoneBeepTrigger z => exact keeps_execZoneBeepTrigger z s
  | crossfadeEnd d => exact keeps_execCrossfadeEnd d s
  | streamSetup k => exact keeps_execStreamSetup k s
  | streamCtrl k => exact keeps_execStreamCtrl k s
  | streamFetch st frames => exact keeps_execStreamFetch st frames s
  | alarmSet k => exact keeps_execAlarmSet k s
  | audioQuery k => exact keeps_execAudioQuery k s
  | audCtxSave k => exact keeps_execAudCtxSave k s
  | audCtxRestore k => exact keeps_execAudCtxRestore k s
  | portClockLost p rate => exact keeps_execPortClockLost p rate s
  | portClockBack p rate => exact keeps_execPortClockBack p rate s
  | alarmLaneMismatch => exact keeps_execAlarmLaneMismatch s
  | alarmMemberFail m => exact keeps_execAlarmMemberFail m s
  | folioQuery k => exact keeps_execFolioQuery k s
  | folioFlush k => exact keeps_execFolioFlush k s
  | settingsWrite k => exact keeps_execSettingsWrite k s
  | settingsRead k => exact keeps_execSettingsRead k s
  | logRead k => exact keeps_execLogRead k s
  | calSet k => exact keeps_execCalSet k s
  | calDone k => exact keeps_execCalDone k s
  | folioAdopt k => exact keeps_execFolioAdopt k s
  | flushTimer => exact keeps_execFlushTimer s
  | flashProgramDone ok => exact keeps_execFlashProgramDone ok s
  | compactionCommit => exact keeps_execCompactionCommit s
  | dayChange => exact keeps_execDayChange s
  | histogramMinute tj => exact keeps_execHistogramMinute tj s
  | pwrFailFall => exact keeps_execPwrFailFall s
  | pwrFailRise ok => exact keeps_execPwrFailRise ok s
  | coldBoot => exact keeps_execColdBoot s
  | uartRecoveryImage image => exact keeps_execUartRecoveryImage image s
  | fwQuery k => exact keeps_execFwQuery k s
  | fwErase k => exact keeps_execFwErase k s
  | fwWrite k => exact keeps_execFwWrite k s
  | fwVerify k => exact keeps_execFwVerify k s
  | fwActivate k => exact keeps_execFwActivate k s
  | activationResume => exact keeps_execActivationResume s
  | fwConfirm k => exact keeps_execFwConfirm k s
  | fwAbandon k => exact keeps_execFwAbandon k s
  | healthWindowExpiry => exact keeps_execHealthWindowExpiry s
  | faultQuery k => exact keeps_execFaultQuery k s
  | faultClear k => exact keeps_execFaultClear k s
  | safeEnter k => exact keeps_execSafeEnter k s
  | faultRecord => exact keeps_execFaultRecord s
  | timingStall n => exact keeps_execTimingStall n s
  | clockFault => exact keeps_execClockFault s
  | sramUncorrectable arr layer => exact keeps_execSramUncorrectable arr layer s
  | swdogKick who v => exact keeps_execSwdogKick who v s
  | watchdogExpiry => exact keeps_execWatchdogExpiry s
  | rubFire k => exact keeps_execRubFire k s
  | rubInEdge => exact keeps_execRubInEdge s
  | rubbingLatch => exact keeps_execRubbingLatch s
  | rubAutoRelease => exact keeps_execRubAutoRelease s
  | rubRead k => exact keeps_execRubRead k s
  | rubRelease k => exact keeps_execRubRelease k s
  | linkSet k => exact keeps_execLinkSet k s
  | timeSet k => exact keeps_execTimeSet k s
  | groupSet k => exact keeps_execGroupSet k s
  | rosterSet k => exact keeps_execRosterSet k s
  | admitMember k => exact keeps_execAdmitMember k s
  | alarmSend k => exact keeps_execAlarmSend k s
  | lockSet k => exact keeps_execLockSet k s
  | intercomSet k => exact keeps_execIntercomSet k s
  | qpSetup k => exact keeps_execQpSetup k s
  | qpKick k => exact keeps_execQpKick k s
  | linkQuery k => exact keeps_execLinkQuery k s
  | groupFrameReceived port frame => exact keeps_execGroupFrameReceived port frame s
  | ptpMessage port off gm => exact keeps_execPtpMessage port off gm s
  | syncTimeout other => exact keeps_execSyncTimeout other s
  | helloTimer => exact keeps_execHelloTimer s
  | memberTimeout j => exact keeps_execMemberTimeout j s
  | groupTriggerTime => exact keeps_execGroupTriggerTime s
  | intercomFrameSend j samples => exact keeps_execIntercomFrameSend j samples s
  | intercomIdle j => exact keeps_execIntercomIdle j s
  | qpFrameReceived port frame => exact keeps_execQpFrameReceived port frame s
  | qpTransmit q => exact keeps_execQpTransmit q s
  | ethLinkChange port up => exact keeps_execEthLinkChange port up s
  | powerState k => exact keeps_execPowerState k s
  | sleepEntry => exact keeps_execSleepEntry s
  | vaultEntry => exact keeps_execVaultEntry s
  | wakeSource cause pin => exact keeps_execWakeSource cause pin s
  | sleepExit => exact keeps_execSleepExit s
  | clusterIdleGate c => exact keeps_execClusterIdleGate c s
  | clusterWake c => exact keeps_execClusterWake c s
  | domainSet k => exact keeps_execDomainSet k s
  | domainRestored d => exact keeps_execDomainRestored d s
  | reset k => exact keeps_execReset k s
  | nworldResetDone => exact keeps_execNworldResetDone s
  | resetNLow => exact keeps_execResetNLow s
  | poresetLow => exact keeps_execPoresetLow s
  | rtcSet k => exact keeps_execRtcSet k s
  | powerQuery k => exact keeps_execPowerQuery k s
  | railPowerGood r => exact keeps_execRailPowerGood r s
  | railTimeout r status => exact keeps_execRailTimeout r status s
  | avsAdjust dir => exact keeps_execAvsAdjust dir s
  | tjLimit => exact keeps_execTjLimit s
  | caseOpen => exact keeps_execCaseOpen s
  | vbatLoss => exact keeps_execVbatLoss s
  | lsioSownWrite who addr v => exact keeps_execLsioSownWrite who addr v s
  | lsioCtrlWrite who p v => exact keeps_execLsioCtrlWrite who p v s
  | lsioTxPush who p v => exact keeps_execLsioTxPush who p v s
  | lsioRxPop who p v => exact keeps_execLsioRxPop who p v s
  | lsioRxEntry p entries => exact keeps_execLsioRxEntry p entries s
  | lsioTxDone p => exact keeps_execLsioTxDone p s
  | lsioBusError p tec rec => exact keeps_execLsioBusError p tec rec s
  | canStateChange p st => exact keeps_execCanStateChange p st s
  | gpioEdge ix level => exact keeps_execGpioEdge ix level s
  | flashEraseDone port ok => exact keeps_execFlashEraseDone port ok s
  | fwVerifyDone => exact keeps_execFwVerifyDone s
  | mirrorReleaseDone m => exact keeps_execMirrorReleaseDone m s
  | sramCe => exact keeps_execSramCe s
  | gainRampEnd ix => exact keeps_execGainRampEnd ix s
  | aonPowerUp => exact keeps_execAonPowerUp s
  | warmResetRelease => exact keeps_execWarmResetRelease s

theorem State.keeps_countSecond (s : State) : s.Keeps s.countSecond := by
  unfold State.countSecond
  refine .ite .rfl ?_
  extract_lets st t u
  have ht : s.Keeps t := (s.keeps_count _ _).trans (State.keeps_count _ _ _)
  have hu : t.Keeps u := .foldl (fun t _ => .ite (t.keeps_count _ _) .rfl) _ _
  exact .ite ((ht.trans hu).trans (State.keeps_count _ _ _)) (ht.trans hu)

theorem State.keeps_second (s : State) : s.Keeps s.second := (s.keeps_setRg _ _).trans (State.keeps_countSecond _)

theorem State.keeps_tick (s : State) : s.Keeps s.tick := by
  unfold State.tick
  extract_lets t u
  have ht : s.Keeps t := s.keeps_withCyc _
  have hu : t.Keeps u := .ite t.keeps_second .rfl
  exact (ht.trans hu).trans (.ite .rfl (u.keeps_finishCuts.trans (State.keeps_restoreClaimed _)))

/-- Settles O3, by the lemma of each command and of the tick. -/
theorem everyStepKeepsCanonicalForm : Obligations.EveryStepKeepsCanonicalForm := by
  intro s t hs hstep
  unfold step at hstep
  split at hstep
  · cases hstep
    exact s.keeps_tick.2 hs
  · rename_i i rest _
    obtain ⟨u, hu, hkeeps⟩ := keeps_exec i { s with pending := rest }
    rw [hu] at hstep
    cases hstep
    exact hkeeps.2 (hs.withPending rest)

theorem noCommandStopsTheBlock : Rules.NoCommandStopsTheBlock := fun i s =>
  have ⟨t, ht, _⟩ := keeps_exec i s
  ⟨t, ht⟩

theorem noCommandTouchesTheQueue : Rules.NoCommandTouchesTheQueue := by
  intro i s t ht
  obtain ⟨u, hu, hkeeps⟩ := keeps_exec i s
  cases hu.symm.trans ht
  exact hkeeps.1

/-- Settles O7. -/
theorem everyCommandAnswersAndKeepsTheQueue : Obligations.EveryCommandAnswersAndKeepsTheQueue :=
  ⟨noCommandStopsTheBlock, noCommandTouchesTheQueue⟩

end Sys2Proof.Machine
end

section
/-! PROOFS. Fields of registers: a field written is read back, and a field apart from it, at the same index, stays. `simp (disch := decide)` with
these lemmas reads any field after a chain of field writes. -/

namespace Sys2Proof.Machine

/-- A write of `f` leaves `g` at the same index: they lie in different registers, or share no bit. -/
abbrev Fld.Apart (f g : Fld) : Prop :=
  f.lo ≤ f.hi ∧ f.hi < 32 ∧ ((f.base < g.base ∧ f.stride ≤ g.stride) ∨ (g.base < f.base ∧ g.stride ≤ f.stride) ∨
    (f.base = g.base ∧ f.stride = g.stride ∧ (g.hi < f.lo ∨ f.hi < g.lo)))

/-- The field lies in its 32 bits. -/
abbrev Fld.Fits (f : Fld) : Prop := f.lo ≤ f.hi ∧ f.hi < 32

/-- Two fields lie in different registers at the same index. -/
abbrev Fld.OtherReg (f g : Fld) : Prop := (f.base < g.base ∧ f.stride ≤ g.stride) ∨ (g.base < f.base ∧ g.stride ≤ f.stride)

theorem Fld.OtherReg.addr_ne {f g : Fld} (h : f.OtherReg g) (n : Nat) : g.addr n ≠ f.addr n := by
  rcases h with h | h
  · have := Nat.mul_le_mul_left n h.2
    simp only [Fld.addr]; omega
  · have := Nat.mul_le_mul_left n h.2
    simp only [Fld.addr]; omega

theorem State.fld_setRg_ne (s : State) {f : Fld} {a n : Nat} (v : Word) (h : f.addr n ≠ a) : (s.setRg a v).fld f n = s.fld f n := by
  simp only [State.fld, s.rg_setRg_ne v h]

theorem State.fld_setFld_apart {f g : Fld} (s : State) (v n : Nat) (h : f.Apart g) : (s.setFld f v n).fld g n = s.fld g n := by
  obtain ⟨hlo, hhi, hreg | hreg | ⟨hb, hs, hd⟩⟩ := h
  · have := Nat.mul_le_mul_left n hreg.2
    exact s.fld_setFld_reg f g v n n (by simp only [Fld.addr]; omega)
  · have := Nat.mul_le_mul_left n hreg.2
    exact s.fld_setFld_reg f g v n n (by simp only [Fld.addr]; omega)
  · exact s.fld_setFld_field f g v n n (by simp only [Fld.addr, hs, hb]) hlo hhi hd

theorem State.fld_setFld_same {f : Fld} (s : State) (v n : Nat) (h : f.Fits) : (s.setFld f v n).fld f n = v % 2 ^ f.width :=
  s.fld_setFld f v n h.1 h.2

/-- A field reads as what was written, if that fits its `w` bits. -/
theorem State.fld_setFld_of_lt {f : Fld} {v w : Nat} (s : State) (n : Nat) (h : f.Fits ∧ f.width = w) (hv : v < 2 ^ w) :
    (s.setFld f v n).fld f n = v := by
  rw [s.fld_setFld_same v n h.1, h.2, Nat.mod_eq_of_lt hv]

theorem State.flag_setFld_apart {f g : Fld} (s : State) (v n : Nat) (h : f.Apart g) : (s.setFld f v n).flag g n = s.flag g n := by
  simp only [State.flag, s.fld_setFld_apart v n h]

theorem State.flag_setFld_same {f : Fld} (s : State) (v n : Nat) (h : f.Fits) :
    (s.setFld f v n).flag f n = decide (v % 2 ^ f.width ≠ 0) := by
  simp only [State.flag, s.fld_setFld_same v n h]

/-- A flag reads as true after a write of 1, as false after one of 0. -/
theorem State.flag_setFld_one {f : Fld} (s : State) (n : Nat) (h : f.Fits ∧ f.width = 1) : (s.setFld f 1 n).flag f n = true := by
  rw [s.flag_setFld_same 1 n h.1, h.2]; decide

theorem State.flag_setFld_zero {f : Fld} (s : State) (n : Nat) (h : f.Fits) : (s.setFld f 0 n).flag f n = false := by
  rw [s.flag_setFld_same 0 n h, Nat.zero_mod]; decide

theorem State.flag_setRg_apart {f g : Fld} (s : State) (v : Word) (n : Nat) (h : f.OtherReg g) :
    (s.setRg (f.addr n) v).flag g n = s.flag g n := by
  simp only [State.flag, State.fld_setRg_ne s v (h.addr_ne n)]

theorem State.fld_setFlag_apart {f g : Fld} (s : State) (b : Bool) (n : Nat) (h : f.Apart g) : (s.setFlag f b n).fld g n = s.fld g n :=
  s.fld_setFld_apart _ n h

theorem State.flag_setFlag_apart {f g : Fld} (s : State) (b : Bool) (n : Nat) (h : f.Apart g) : (s.setFlag f b n).flag g n = s.flag g n :=
  s.flag_setFld_apart _ n h

theorem State.flag_setFlag_same {f : Fld} (s : State) (b : Bool) (n : Nat) (h : f.lo = f.hi ∧ f.hi < 32) : (s.setFlag f b n).flag f n = b :=
  s.flag_setFlag f b n h.1 h.2

theorem State.fld_setRg_apart {f g : Fld} (s : State) (v : Word) (n : Nat) (h : f.OtherReg g) : (s.setRg (f.addr n) v).fld g n = s.fld g n :=
  s.fld_setRg_ne v (h.addr_ne n)

theorem State.rg_setFld_apart {f g : Fld} (s : State) (v n : Nat) (h : f.OtherReg g) : (s.setFld f v n).rg (g.addr n) = s.rg (g.addr n) :=
  s.rg_setRg_ne _ (h.addr_ne n)

theorem State.fld_of_regs {s t : State} (h : t.regs = s.regs) (f : Fld) (n : Nat) : t.fld f n = s.fld f n := by
  simp only [State.fld, State.rg, h]

theorem State.rg_setFld_ne (s : State) {f : Fld} {a : Nat} (v n : Nat) (h : a ≠ f.addr n) : (s.setFld f v n).rg a = s.rg a :=
  s.rg_setRg_ne _ h

/-- Two states with the same parts are one: a frame is proved part by part. -/
theorem State.eq_of_parts {s t : State} (pending : s.pending = t.pending := by simp) (resp : s.resp = t.resp := by simp)
    (regs : s.regs = t.regs := by simp) (mem : s.mem = t.mem := by simp) (cyc : s.cyc = t.cyc := by simp)
    (devOff : s.devOff = t.devOff := by simp) (free : s.free = t.free := by simp) (wld : s.wld = t.wld := by simp)
    (cp : s.cp = t.cp := by simp) (cl : s.cl = t.cl := by simp) (mc : s.mc = t.mc := by simp) (arb : s.arb = t.arb := by simp)
    (flt : s.flt = t.flt := by simp) (disp : s.disp = t.disp := by simp) (etch : s.etch = t.etch := by simp)
    (prf : s.prf = t.prf := by simp) (grv : s.grv = t.grv := by simp) (touch : s.touch = t.touch := by simp)
    (hap : s.hap = t.hap := by simp) (fol : s.fol = t.fol := by simp) (aud : s.aud = t.aud := by simp)
    (fw : s.fw = t.fw := by simp) (pwr : s.pwr = t.pwr := by simp) (dziv : s.dziv = t.dziv := by simp)
    (lsio : s.lsio = t.lsio := by simp) : s = t := by
  cases s
  cases t
  simp_all

end Sys2Proof.Machine
end

section
/-! PROOFS. Ending an operation changes the places alone: what every other part and reader of the state shows after it. -/

namespace Sys2Proof.Machine

@[simp] theorem State.endOp_pending (s : State) (k st r0 r1 r2 r3 : Nat) : (s.endOp k st r0 r1 r2 r3).pending = s.pending := by rw [State.endOp_rest]
@[simp] theorem State.endOp_resp (s : State) (k st r0 r1 r2 r3 : Nat) : (s.endOp k st r0 r1 r2 r3).resp = s.resp := by rw [State.endOp_rest]
@[simp] theorem State.endOp_regs (s : State) (k st r0 r1 r2 r3 : Nat) : (s.endOp k st r0 r1 r2 r3).regs = s.regs := by rw [State.endOp_rest]
@[simp] theorem State.endOp_mem (s : State) (k st r0 r1 r2 r3 : Nat) : (s.endOp k st r0 r1 r2 r3).mem = s.mem := by rw [State.endOp_rest]
@[simp] theorem State.endOp_cyc (s : State) (k st r0 r1 r2 r3 : Nat) : (s.endOp k st r0 r1 r2 r3).cyc = s.cyc := by rw [State.endOp_rest]
@[simp] theorem State.endOp_devOff (s : State) (k st r0 r1 r2 r3 : Nat) : (s.endOp k st r0 r1 r2 r3).devOff = s.devOff := by rw [State.endOp_rest]
@[simp] theorem State.endOp_free (s : State) (k st r0 r1 r2 r3 : Nat) : (s.endOp k st r0 r1 r2 r3).free = s.free := by rw [State.endOp_rest]
@[simp] theorem State.endOp_wld (s : State) (k st r0 r1 r2 r3 : Nat) : (s.endOp k st r0 r1 r2 r3).wld = s.wld := by rw [State.endOp_rest]
@[simp] theorem State.endOp_cl (s : State) (k st r0 r1 r2 r3 : Nat) : (s.endOp k st r0 r1 r2 r3).cl = s.cl := by rw [State.endOp_rest]
@[simp] theorem State.endOp_mc (s : State) (k st r0 r1 r2 r3 : Nat) : (s.endOp k st r0 r1 r2 r3).mc = s.mc := by rw [State.endOp_rest]
@[simp] theorem State.endOp_arb (s : State) (k st r0 r1 r2 r3 : Nat) : (s.endOp k st r0 r1 r2 r3).arb = s.arb := by rw [State.endOp_rest]
@[simp] theorem State.endOp_flt (s : State) (k st r0 r1 r2 r3 : Nat) : (s.endOp k st r0 r1 r2 r3).flt = s.flt := by rw [State.endOp_rest]
@[simp] theorem State.endOp_disp (s : State) (k st r0 r1 r2 r3 : Nat) : (s.endOp k st r0 r1 r2 r3).disp = s.disp := by rw [State.endOp_rest]
@[simp] theorem State.endOp_etch (s : State) (k st r0 r1 r2 r3 : Nat) : (s.endOp k st r0 r1 r2 r3).etch = s.etch := by rw [State.endOp_rest]
@[simp] theorem State.endOp_prf (s : State) (k st r0 r1 r2 r3 : Nat) : (s.endOp k st r0 r1 r2 r3).prf = s.prf := by rw [State.endOp_rest]
@[simp] theorem State.endOp_grv (s : State) (k st r0 r1 r2 r3 : Nat) : (s.endOp k st r0 r1 r2 r3).grv = s.grv := by rw [State.endOp_rest]
@[simp] theorem State.endOp_touch (s : State) (k st r0 r1 r2 r3 : Nat) : (s.endOp k st r0 r1 r2 r3).touch = s.touch := by rw [State.endOp_rest]
@[simp] theorem State.endOp_hap (s : State) (k st r0 r1 r2 r3 : Nat) : (s.endOp k st r0 r1 r2 r3).hap = s.hap := by rw [State.endOp_rest]
@[simp] theorem State.endOp_fol (s : State) (k st r0 r1 r2 r3 : Nat) : (s.endOp k st r0 r1 r2 r3).fol = s.fol := by rw [State.endOp_rest]
@[simp] theorem State.endOp_aud (s : State) (k st r0 r1 r2 r3 : Nat) : (s.endOp k st r0 r1 r2 r3).aud = s.aud := by rw [State.endOp_rest]
@[simp] theorem State.endOp_fw (s : State) (k st r0 r1 r2 r3 : Nat) : (s.endOp k st r0 r1 r2 r3).fw = s.fw := by rw [State.endOp_rest]
@[simp] theorem State.endOp_pwr (s : State) (k st r0 r1 r2 r3 : Nat) : (s.endOp k st r0 r1 r2 r3).pwr = s.pwr := by rw [State.endOp_rest]
@[simp] theorem State.endOp_dziv (s : State) (k st r0 r1 r2 r3 : Nat) : (s.endOp k st r0 r1 r2 r3).dziv = s.dziv := by rw [State.endOp_rest]
@[simp] theorem State.endOp_lsio (s : State) (k st r0 r1 r2 r3 : Nat) : (s.endOp k st r0 r1 r2 r3).lsio = s.lsio := by rw [State.endOp_rest]

@[simp] theorem State.rg_of_endOp (s : State) (k st r0 r1 r2 r3 a : Nat) : (s.endOp k st r0 r1 r2 r3).rg a = s.rg a := by
  simp only [State.rg, State.endOp_regs]

@[simp] theorem State.fld_of_endOp (s : State) (k st r0 r1 r2 r3 : Nat) (f : Fld) (n : Nat) : (s.endOp k st r0 r1 r2 r3).fld f n = s.fld f n := by
  simp only [State.fld, State.rg_of_endOp]

@[simp] theorem State.flag_of_endOp (s : State) (k st r0 r1 r2 r3 : Nat) (f : Fld) (n : Nat) : (s.endOp k st r0 r1 r2 r3).flag f n = s.flag f n := by
  simp only [State.flag, State.fld_of_endOp]

@[simp] theorem State.isPend_of_endOp (s : State) (k st r0 r1 r2 r3 n : Nat) : (s.endOp k st r0 r1 r2 r3).isPend n = s.isPend n := by
  simp only [State.isPend, State.endOp_wld]

@[simp] theorem State.client_of_endOp (s : State) (k st r0 r1 r2 r3 n : Nat) : (s.endOp k st r0 r1 r2 r3).client n = s.client n := by
  simp only [State.client, State.endOp_cl]

@[simp] theorem State.byte_of_endOp (s : State) (k st r0 r1 r2 r3 a : Nat) : (s.endOp k st r0 r1 r2 r3).byte a = s.byte a := by
  simp only [State.byte, State.endOp_mem]

@[simp] theorem State.ring_of_setPlace (s : State) (k : Nat) (p : Option Started) (r : RingId) : (s.setPlace k p).ring r = s.ring r := by
  dsimp only [State.ring, State.setPlace]

@[simp] theorem State.place_of_setRing (s : State) (r : RingId) (x : RingSet) (k : Nat) : (s.setRing r x).place k = s.place k := by
  dsimp only [State.place, State.setRing]

@[simp] theorem State.ring_of_endOp (s : State) (k st r0 r1 r2 r3 : Nat) (r : RingId) : (s.endOp k st r0 r1 r2 r3).ring r = s.ring r := by
  simp only [State.endOp]
  split
  · exact State.ring_of_setPlace _ _ _ _
  · rfl

/-- The places alone among the parts of the command processor change. -/
theorem State.endOp_cp (s : State) (k st r0 r1 r2 r3 : Nat) :
    (s.endOp k st r0 r1 r2 r3).cp = { s.cp with places := (s.endOp k st r0 r1 r2 r3).cp.places } := by
  conv_lhs => rw [State.endOp_rest]

/-- Ending an operation leaves the registers. -/
theorem SameRegsBut.endOp {l : List Nat} (s : State) (k st r0 r1 r2 r3 : Nat) : SameRegsBut l s (s.endOp k st r0 r1 r2 r3) :=
  .of_regs (s.endOp_regs k st r0 r1 r2 r3)

/-- An operation that acts has its packet in its place. -/
theorem State.place_of_opAt {s : State} {k o : Nat} {p : Started} (h : s.opAt k o = some p) : s.place k = some p := (State.opAt_some h).1

end Sys2Proof.Machine
end

section
/-! PROOFS. The queue, an idle step, and the state after reset. -/

namespace Sys2Proof.Machine

/-- Settles O1. -/
theorem stepRunsTheFrontCommand : Obligations.StepRunsTheFrontCommand := by
  intro s c rest h
  simp only [step, h]

/-- Settles O2: asleep, only the cycle count and, once a second, the RTC move. -/
theorem idleStepPassesOneCycle : Obligations.IdleStepPassesOneCycle := by
  intro s h
  refine ⟨by simp only [step, h], fun hc ha => ?_⟩
  have ha' : ({ s with cyc := s.cyc + 1 } : State).asleep = true := ha
  simp only [State.tick, if_neg hc, ha', if_true]

theorem resetValuesOfTheSpec : Rules.ResetValuesOfTheSpec :=
  ⟨by decide +kernel, by decide +kernel, by decide +kernel, by decide +kernel⟩

theorem resetIsCanonical : Rules.ResetIsCanonical := by
  refine ⟨⟨by decide +kernel, by decide +kernel, by decide +kernel⟩, rfl, rfl, rfl, fun k => ?_, fun r => ?_⟩
  · rfl
  · cases r <;> rfl

/-- Settles O6. -/
theorem resetLeavesTheSpecsValues : Obligations.ResetLeavesTheSpecsValues := ⟨resetIsCanonical, resetValuesOfTheSpec⟩

end Sys2Proof.Machine
end

section
/-! PROOFS. Register writes (00 R3): a register's fields share no bit, so each holds what its own access type leaves. -/

namespace Sys2Proof.Machine

/-- Two fields share no bit. -/
def FieldDesc.apart (f g : FieldDesc) : Bool := decide (f.hi < g.lo) || decide (g.hi < f.lo)

/-- A register's fields lie in its 32 bits and share none. -/
def RegDesc.fieldsApart (d : RegDesc) : Bool :=
  d.fields.all (fun f => decide (f.lo ≤ f.hi) && decide (f.hi < 32)) && decide (d.fields.Pairwise (fun f g => f.apart g = true))

theorem regWindow_fieldsApart (j : Nat) : (regWindow j).all RegDesc.fieldsApart = true := by
  unfold regWindow
  split <;> decide +kernel

theorem findReg_fieldsApart {a : Nat} {d : RegDesc} (h : findReg a = some d) :
    (∀ f ∈ d.fields, f.lo ≤ f.hi ∧ f.hi < 32) ∧ d.fields.Pairwise (fun f g => f.apart g = true) := by
  have hd := List.all_eq_true.mp (regWindow_fieldsApart _) d (List.mem_of_find?_eq_some h)
  simpa [RegDesc.fieldsApart] using hd

/-- A field's write leaves the bits of a field apart from it. -/
theorem FieldDesc.bitsOf_write_apart {f g : FieldDesc} (h : f.apart g = true) (hf : f.lo ≤ f.hi ∧ f.hi < 32) (safe : Bool) (who : Who)
    (old new acc : Word) : bitsOf (f.write safe who old new acc) g.hi g.lo = bitsOf acc g.hi g.lo := by
  have hd : g.hi < f.lo ∨ f.hi < g.lo := by simpa [FieldDesc.apart, or_comm] using h
  unfold FieldDesc.write
  split
  · split
    · exact bitsOf_putBits_ne _ _ _ _ _ _ hf.1 hf.2 hd
    · exact bitsOf_putBits_ne _ _ _ _ _ _ hf.1 hf.2 hd
  · rfl

theorem bitsOf_foldl_write_apart {g : FieldDesc} (safe : Bool) (who : Who) (old new : Word) (l : List FieldDesc) (acc : Word)
    (h : ∀ f ∈ l, f.apart g = true ∧ f.lo ≤ f.hi ∧ f.hi < 32) :
    bitsOf (l.foldl (fun acc f => f.write safe who old new acc) acc) g.hi g.lo = bitsOf acc g.hi g.lo := by
  induction l generalizing acc with
  | nil => rfl
  | cons f t ih =>
    obtain ⟨ha, hf⟩ := h f List.mem_cons_self
    rw [List.foldl_cons, ih _ (fun e he => h e (List.mem_cons_of_mem _ he)), FieldDesc.bitsOf_write_apart ha hf]

/-- What a field's own write leaves in it. -/
theorem FieldDesc.bitsOf_write_same (f : FieldDesc) (hf : f.lo ≤ f.hi ∧ f.hi < 32) (safe : Bool) (who : Who) (old new acc : Word) :
    bitsOf (f.write safe who old new acc) f.hi f.lo =
      if f.acc.takes safe who then (if f.acc = .w1c then bitsOf (old &&& ~~~ new) f.hi f.lo else bitsOf new f.hi f.lo)
      else bitsOf acc f.hi f.lo := by
  have hput (w : Word) : bitsOf (putBits acc f.hi f.lo (bitsOf w f.hi f.lo)) f.hi f.lo = bitsOf w f.hi f.lo := by
    rw [bitsOf_putBits_same _ _ _ _ hf.1 hf.2, Nat.mod_eq_of_lt (bitsOf_lt _ _ _)]
  unfold FieldDesc.write
  split
  · split
    · exact hput _
    · exact hput _
  · rfl

/-- A register's write leaves in each field what that field's own write leaves there. -/
theorem bitsOf_foldl_write {f : FieldDesc} (safe : Bool) (who : Who) (old new : Word) (l : List FieldDesc) (acc : Word)
    (hw : ∀ f ∈ l, f.lo ≤ f.hi ∧ f.hi < 32) (hl : l.Pairwise (fun f g => f.apart g = true)) (hf : f ∈ l) :
    bitsOf (l.foldl (fun acc f => f.write safe who old new acc) acc) f.hi f.lo =
      if f.acc.takes safe who then (if f.acc = .w1c then bitsOf (old &&& ~~~ new) f.hi f.lo else bitsOf new f.hi f.lo)
      else bitsOf acc f.hi f.lo := by
  induction l generalizing acc with
  | nil => cases hf
  | cons g t ih =>
    obtain ⟨hg, ht⟩ := List.pairwise_cons.mp hl
    have hwt : ∀ f ∈ t, f.lo ≤ f.hi ∧ f.hi < 32 := fun e he => hw e (List.mem_cons_of_mem _ he)
    have hwg := hw g List.mem_cons_self
    rw [List.foldl_cons]
    rcases List.mem_cons.mp hf with rfl | hm
    · rw [bitsOf_foldl_write_apart, FieldDesc.bitsOf_write_same f hwg]
      intro e he
      have hfe := hg e he
      exact ⟨by simpa [FieldDesc.apart, or_comm] using hfe, hwt e he⟩
    · rw [ih _ hwt ht hm, FieldDesc.bitsOf_write_apart (hg f hm) hwg]

/-- Settles O4, by the fields of every register being apart. -/
theorem fieldWritesFollowAccessTypes : Obligations.FieldWritesFollowAccessTypes := by
  intro a d ha f hf safe who old new
  obtain ⟨hw, hl⟩ := findReg_fieldsApart ha
  dsimp only
  rw [RegDesc.write, bitsOf_foldl_write safe who old new d.fields old hw hl hf]
  cases f.acc <;> simp [Acc.takes]

end Sys2Proof.Machine
end

section
/-! PROOFS. Register writes through the windows, debug accesses, and the three shared updates. -/

namespace Sys2Proof.Machine

/-- Outside the windows whose units add to the access types, a register's write is the plain one. -/
theorem State.windowWrite_plain (s : State) (who : Who) (a : Nat) (v : Word) (h : a / 0x100000 ∈ plainUnits) :
    s.windowWrite who a v = s.plainWrite who a v := by
  simp only [plainUnits, List.mem_cons, List.not_mem_nil, or_false] at h
  unfold State.windowWrite
  rcases h with h | h | h | h | h | h | h | h <;> simp only [h]

theorem State.region_of_plainUnit (s : State) (a : Nat) (h : a / 0x100000 ∈ plainUnits) : s.region a = .window := by
  simp only [plainUnits, List.mem_cons, List.not_mem_nil, or_false] at h
  have h1 : 0x10000000 ≤ a := by omega
  have h2 : a < 0x11400000 := by omega
  unfold State.region
  rw [if_neg (by omega), if_neg (by omega), if_neg (by omega), if_pos ⟨h1, h2⟩]

theorem registerWriteWritesItsRegister : Rules.RegisterWriteWritesItsRegister := by
  refine ⟨fun s who a v d hu ha hg hf hl => ?_, fun s a v hp hr => ?_⟩
  · have hw := s.region_of_plainUnit a hu
    have hp : s.plainWrite who a v = s.setRg a (d.write s.safe who (s.rg a) v) := by
      unfold State.plainWrite
      rw [hf]
      exact if_pos hl
    have h4 : ¬ a % 4 ≠ 0 := by simp [ha]
    have hrw : s.regWrite who a v = (s.plainWrite who a v).answer .done := by
      rw [State.regWrite, State.inWindows, hw, if_neg (by decide), if_neg h4, if_neg (by decide), hg, if_neg (by decide),
        State.windowWrite_plain s who a v hu]
    simp only [exec, execRegisterWrite, Bool.false_and, Bool.false_eq_true, if_false, hrw, hp]
  · have hroom : ¬ commitRoom ≤ s.wld.commitBuf.length := by simp only [commitRoom]; omega
    simp [exec, execRegisterWrite, State.hold, hp, hroom]

theorem debugAccessActsForTheCore : Rules.DebugAccessActsForTheCore := by
  intro s w r addr data
  refine ⟨fun hd hw => ?_, fun h write => ?_⟩
  · simp [exec, execDebugAccess, hd, hw]
  · have hc : !s.debugIn w ∨ (r.who == .s) ≠ w := h.imp (by simp) id
    simp only [exec, execDebugAccess, if_pos hc]

/-- Settles O58. -/
theorem registerWritesAndDebugAccesses : Obligations.RegisterWritesAndDebugAccesses :=
  ⟨registerWriteWritesItsRegister, debugAccessActsForTheCore⟩

/-- Settles O59, an update at a time. -/
theorem sharedUpdatesStayInTheirPlace : Obligations.SharedUpdatesStayInTheirPlace := by
  refine ⟨fun s f n v hlo hhi => ?_, fun s n hn => ?_, fun s r code inst d0 d1 d2 d3 h => ?_, fun s r code inst d0 d1 d2 d3 he hd hm hp hroom => ?_,
    fun s t r code inst d0 d1 d2 d3 hr he hd hm hp hroom hw => ?_⟩
  · refine ⟨s.fld_setFld f v n hlo hhi, fun i hi hout => ?_, .setFld s f v n (by simp), rfl⟩
    simp only [State.setFld, State.rg_setRg]
    exact getLsbD_putBits_ne _ _ _ _ _ hlo hhi hout
  · exact ⟨s.isPend_raise_same n hn, .raise s n (by simp), rfl⟩
  · unfold State.event
    rcases h with h | h | h <;> simp [h]
  · simp [State.event, he, hd, hm, hp, State.writeEvent, State.loseEvent, hroom]
  · subst hr
    simp [State.event, he, hd, hm, hp, State.writeEvent, Nat.not_le.mpr hroom]
    simp only [State.putEvent, ringWho, ringClient, if_true] at hw ⊢
    rw [hw]
    rfl

end Sys2Proof.Machine
end

section
/-! PROOFS. The safety-core pairs (02 R35-R44): checkpoints, a mismatch, and the switch to pair B. -/

namespace Sys2Proof.Machine

/-- `DEV_SPAIR_STAT` once pair B is active, `n` cycles after the switch began. -/
def State.pairSwitched (s : State) (n : Nat) : State :=
  (((s.setFld F.DEV_SPAIR_STAT_ACTIVE 1).setFld F.DEV_SPAIR_STAT_SWITCHED 1).setFld F.DEV_SPAIR_STAT_STANDBY 0).setFld
    F.DEV_SPAIR_STAT_SWITCH_TIME n

theorem RegsOnly.pairSwitched (s : State) (n : Nat) : RegsOnly s (s.pairSwitched n) :=
  (((RegsOnly.setFld s _ _ _).trans (.setFld _ _ _ _)).trans (.setFld _ _ _ _)).trans (.setFld _ _ _ _)

theorem SameRegsBut.pairSwitched (s : State) (c : Nat) : SameRegsBut [Reg.DEV_SPAIR_STAT] s (s.pairSwitched c) :=
  (((SameRegsBut.setFld s _ _ _ (by decide)).trans (.setFld _ _ _ _ (by decide))).trans (.setFld _ _ _ _ (by decide))).trans
    (.setFld _ _ _ _ (by decide))

/-- The interrupts that pair A had taken become pending again. -/
def State.retaken (s : State) : State :=
  { s with wld := { s.wld with switching := none, pairAHeld := true, signalled := none, pend := s.wld.pend ||| s.wld.taken } }

theorem exec_pairBResume {s : State} {c : Nat} (h : s.wld.switching = some c) :
    exec .pairBResume s = .next ((s.pairSwitched (min (s.cyc - c) 0xFFFF)).retaken.raise 2) := by
  simp only [exec, execPairBResume, h, State.pairSwitched, State.retaken, State.setFld_cyc]

@[simp] theorem State.fld_retaken (s : State) (f : Fld) (n : Nat) : s.retaken.fld f n = s.fld f n := by
  dsimp only [State.fld, State.rg, State.retaken]

@[simp] theorem State.retaken_regs (s : State) : s.retaken.regs = s.regs := by dsimp only [State.retaken]

/-- The frame of a switch. -/
theorem State.raise_retaken_frame {s t : State} (h : RegsOnly s t) (n : Nat) :
    t.retaken.raise n = { s with regs := (t.retaken.raise n).regs, wld := { s.wld with
      switching := none, pairAHeld := true, signalled := none, pend := (t.retaken.raise n).wld.pend } } := by
  unfold RegsOnly at h
  rw [h]
  dsimp only [State.raise, State.retaken]

theorem State.isPend_retaken (s : State) (n : Nat) : s.retaken.isPend n = (s.isPend n || s.wld.taken.getLsbD n) := by
  simp [State.isPend, State.retaken]

theorem noStandby_next (t : State) :
    (match t.noStandby with
      | some cause => Host.Outcome.next (t.enterSafe cause 1)
      | none => .next (({ t with wld := { t.wld with switching := some t.cyc } } : State).setFld F.DEV_SPAIR_STAT_STANDBY 0) :
        Host.Outcome State Fault Refusal) =
      .next (match t.noStandby with
        | some cause => t.enterSafe cause 1
        | none => ({ t with wld := { t.wld with switching := some t.cyc } } : State).setFld F.DEV_SPAIR_STAT_STANDBY 0) := by
  cases t.noStandby with
  | some cause => rfl
  | none => rfl

/-- Settles O15. -/
theorem pairsCommitDiscardAndTakeOver : Obligations.PairsCommitDiscardAndTakeOver := by
  refine ⟨fun s h => ?_, fun s h => ?_, fun s c hc h16 => ?_⟩
  · simp [exec, execCheckpointCommit, h]
  · rw [exec, execLockstepMismatch, if_neg (by simp [h])]
    exact noStandby_next _
  · have hmin : min (s.cyc - c) 0xFFFF = s.cyc - c := by omega
    have hexec := exec_pairBResume hc
    rw [hmin] at hexec
    refine ⟨_, hexec, ?_⟩
    generalize s.cyc - c = time at *
    refine ⟨rfl, rfl, ?_, ?_, ?_, ?_, fun n hn => ?_, ?_, ?_⟩
    · rw [State.fld_of_raise, State.fld_retaken]
      simp (disch := decide) [State.pairSwitched, State.fld_setFld_apart, State.fld_setFld_same]
    · rw [State.fld_of_raise, State.fld_retaken]
      simp (disch := decide) [State.pairSwitched, State.fld_setFld_apart, State.fld_setFld_same]
    · rw [State.fld_of_raise, State.fld_retaken]
      simp (disch := decide) [State.pairSwitched, State.fld_setFld_apart, State.fld_setFld_same]
    · rw [State.fld_of_raise, State.fld_retaken, State.pairSwitched, State.fld_setFld_same _ _ _ (by decide)]
      exact Nat.mod_eq_of_lt h16
    · rw [State.isPend_raise _ _ _ hn, State.isPend_retaken]
      simp only [State.pairSwitched, State.isPend_of_setFld, State.setFld_wld]
    · exact (SameRegsBut.pairSwitched s time).trans (.of_regs (by rw [State.raise_regs, State.retaken_regs]))
    · exact State.raise_retaken_frame (RegsOnly.pairSwitched s time) 2

end Sys2Proof.Machine
end

section
/-! PROOFS. Interrupt bands and priority (02 R61-R67). -/

namespace Sys2Proof.Machine

/-! The bits of a band register that a write reaches. -/

theorem getLsbD_foldl_unset (p : Nat → Bool) (n i : Nat) (hi : i < 32) :
    ((List.range n).foldl (fun (w : Word) i => if p i then w else w ||| (1#32 <<< i)) 0).getLsbD i = (decide (i < n) && !p i) := by
  induction n with
  | zero => simp
  | succ n ih =>
    rw [List.range_succ, List.foldl_append, List.foldl_cons, List.foldl_nil]
    by_cases hp : p n
    · rw [if_pos hp, ih]
      by_cases h : i = n
      · simp [h, hp]
      · have : i < n ↔ i < n + 1 := by omega
        simp [this]
    · rw [if_neg hp, BitVec.getLsbD_or, ih]
      have hbit : (1#32 <<< n).getLsbD i = decide (i = n) := by
        rw [BitVec.getLsbD_shiftLeft, BitVec.getLsbD_one]
        by_cases h : i = n
        · simp [h, show n < 32 by omega]
        · by_cases hl : i < n
          · simp [hl, h]
          · have : ¬ i - n = 0 := by omega
            simp [h, this]
      rw [hbit]
      by_cases h : i = n
      · simp [h, hp]
      · have : i < n ↔ i < n + 1 := by omega
        simp [this, h]

theorem getLsbD_bandMask (j i : Nat) (hi : i < 32) :
    (bandMask j).getLsbD i = !(srcFixedS (32 * j + i) || srcFixedN (32 * j + i) || srcReserved (32 * j + i)) := by
  rw [bandMask, getLsbD_foldl_unset (fun i => srcFixedS (32 * j + i) || srcFixedN (32 * j + i) || srcReserved (32 * j + i)) 32 i hi]
  simp [hi]

theorem State.getLsbD_bandWrite (s : State) (j i : Nat) (v : Word) (hi : i < 32) :
    (s.bandWrite j v).getLsbD i =
      if srcFixedS (32 * j + i) || srcFixedN (32 * j + i) || srcReserved (32 * j + i) || (s.portBand j).getLsbD i
      then (s.rg (Reg.INT_BAND j)).getLsbD i else v.getLsbD i := by
  simp only [State.bandWrite, BitVec.getLsbD_or, BitVec.getLsbD_and, BitVec.getLsbD_not, getLsbD_bandMask j i hi, hi, decide_true, Bool.true_and]
  generalize (srcFixedS (32 * j + i) || srcFixedN (32 * j + i) || srcReserved (32 * j + i)) = fixed
  cases fixed <;> cases (s.portBand j).getLsbD i <;> simp

/-- A register write that may take back the signalled interrupt changes registers and that signal alone. -/
theorem exec_intBandWrite (s : State) (j : Nat) (v : Word) (h : j < 16) :
    ∃ x, exec (.intBandWrite .s j v) s =
      .next { s.setRg (Reg.INT_BAND j) (s.bandWrite j v) with wld := { s.wld with signalled := x } } := by
  have hc : ¬ ((Who.s != .s) = true ∨ 16 ≤ j) := by simp; omega
  rw [exec, execIntBandWrite, if_neg hc]
  generalize s.bandWrite j v = b
  dsimp only
  split
  · split
    · exact ⟨s.wld.signalled, rfl⟩
    · exact ⟨none, rfl⟩
  · exact ⟨s.wld.signalled, rfl⟩

/-! The pending source that `INT_STOP` shows. -/

/-- The source a fold over sources holds so far: the first of highest priority. -/
theorem topOf_spec (prio : Nat → Nat) (l : List Nat) (hl : l.Pairwise (· < ·)) (b : Option Nat) (hb : ∀ m, b = some m → ∀ k ∈ l, m < k) (n : Nat)
    (h : l.foldl (fun (b : Option Nat) n => match b with | none => some n | some m => if prio m < prio n then some n else b) b = some n) :
    (n ∈ l ∨ b = some n) ∧ (∀ m, m ∈ l ∨ b = some m → prio m ≤ prio n ∧ (m < n → prio m < prio n)) := by
  induction l generalizing b with
  | nil =>
    simp only [List.foldl_nil] at h
    subst h
    refine ⟨.inr rfl, fun m hm => ?_⟩
    rcases hm with hm | hm
    · cases hm
    · cases hm; exact ⟨le_refl _, fun hlt => absurd hlt (lt_irrefl _)⟩
  | cons k t ih =>
    obtain ⟨hk, ht⟩ := List.pairwise_cons.mp hl
    rw [List.foldl_cons] at h
    have key : ∀ c : Option Nat, (∀ m, c = some m → m = k ∨ b = some m) → (∀ m, c = some m → ∀ j ∈ t, m < j) := fun c hc m hm j hj =>
      (hc m hm).elim (fun e => e ▸ hk j hj) (fun e => hb m e j (List.mem_cons_of_mem _ hj))
    cases b with
    | none =>
      obtain ⟨hn, hmax⟩ := ih ht (some k) (key _ (fun m hm => .inl (Option.some.inj hm).symm)) h
      refine ⟨.inl (List.mem_cons.mpr (hn.elim .inr (fun e => .inl (Option.some.inj e).symm))), fun m hm => hmax m ?_⟩
      rcases hm with hm | hm
      · exact (List.mem_cons.mp hm).elim (fun e => .inr (by rw [e])) .inl
      · cases hm
    | some p =>
      have hpk : p < k := hb p rfl k List.mem_cons_self
      dsimp only at h
      by_cases hlt : prio p < prio k
      · rw [if_pos hlt] at h
        obtain ⟨hn, hmax⟩ := ih ht (some k) (key _ (fun m hm => .inl (Option.some.inj hm).symm)) h
        refine ⟨.inl (List.mem_cons.mpr (hn.elim .inr (fun e => .inl (Option.some.inj e).symm))), fun m hm => ?_⟩
        have hkn := hmax k (.inr rfl)
        rcases hm with hm | hm
        · exact hmax m ((List.mem_cons.mp hm).elim (fun e => .inr (by rw [e])) .inl)
        · cases hm; exact ⟨by omega, fun _ => by omega⟩
      · rw [if_neg hlt] at h
        obtain ⟨hn, hmax⟩ := ih ht (some p) (key _ (fun m hm => .inr hm)) h
        have hpn := hmax p (.inr rfl)
        refine ⟨hn.elim (fun e => .inl (List.mem_cons_of_mem _ e)) .inr, fun m hm => ?_⟩
        rcases hm with hm | hm
        · rcases List.mem_cons.mp hm with rfl | hm
          · exact ⟨by omega, fun hmn => by have := hpn.2 (by omega); omega⟩
          · exact hmax m (.inl hm)
        · exact hmax m (.inr hm)

theorem stopShowsTheHighestPrioritySource : Rules.StopShowsTheHighestPrioritySource := by
  intro s n h
  have hsorted : ((List.range 512).filter (fun n => s.isPend n && s.bandS n && decide (0 < s.prio n))).Pairwise (· < ·) :=
    List.Pairwise.filter _ List.pairwise_lt_range
  have hmem (m : Nat) : m ∈ (List.range 512).filter (fun n => s.isPend n && s.bandS n && decide (0 < s.prio n)) ↔
      m < 512 ∧ (s.isPend m = true ∧ s.bandS m = true) ∧ 0 < s.prio m := by simp
  have hstop : s.intStop = 2 ^ 31 + s.prio n * 2 ^ 12 + n := by
    unfold State.intStop
    rw [h]
  unfold State.topSource at h
  generalize (List.range 512).filter _ = l at *
  obtain ⟨hn, hmax⟩ := topOf_spec s.prio l hsorted none (by simp) n h
  have hn' := (hmem n).mp (hn.resolve_right (by simp))
  obtain ⟨hlt, ⟨hpend, hband⟩, hprio⟩ := hn'
  refine ⟨hlt, hpend, hband, hprio, fun m hm hp hb => ?_, hstop⟩
  by_cases h0 : 0 < s.prio m
  · exact hmax m (.inl ((hmem m).mpr ⟨hm, ⟨hp, hb⟩, h0⟩))
  · exact ⟨by omega, fun _ => by omega⟩

theorem interruptsStayInTheirBands : Rules.InterruptsStayInTheirBands := by
  refine ⟨fun s j v hj => ?_, fun s who j v hw => ?_, fun s v hb hl => ?_, fun s n hp ht => ?_, fun s src hlt hp hb => ?_⟩
  · obtain ⟨x, hx⟩ := exec_intBandWrite s j v hj
    refine ⟨_, hx, fun i hi => ?_, fun _ _ => rfl, SameRegsBut.setRg s _ _ (by simp), rfl⟩
    rw [← s.getLsbD_bandWrite j i v hi]
    exact congrArg (BitVec.getLsbD · i) (s.rg_setRg _ _)
  · have hw' : (who != .s) = true := by simpa using hw
    simp [exec, execIntBandWrite, execIntSack, hw']
  · have hc : ¬ ((Who.s != .s) = true ∨ (!s.bandS (bitsOf v 8 0)) = true ∨ s.levelHolds (bitsOf v 8 0) = true) := by simp [hb, hl]
    rw [exec, execIntSack]
    generalize bitsOf v 8 0 = src at *
    rw [if_neg hc]
    exact ⟨_, rfl, s.isPend_clearSrc_same src, fun m hm => s.isPend_clearSrc_ne (by simpa using hm), rfl⟩
  · simp [exec, execSecureInterruptSignal, hp, ht]
  · rw [exec, execAplicMessageSend, if_neg (by simp [hp, hb])]
    exact ⟨_, rfl, s.isPend_clearSrc_same src, rfl, fun m hm => s.isPend_clearSrc_ne (by simpa using hm), rfl⟩

/-- Settles O17: the bits a band write reaches, and the fold that finds the top source. -/
theorem interruptsFollowBandsAndPriority : Obligations.InterruptsFollowBandsAndPriority :=
  ⟨interruptsStayInTheirBands, stopShowsTheHighestPrioritySource⟩

end Sys2Proof.Machine
end

section
/-! PROOFS. Mailboxes (02 R69-R77): the owner register, the buffers and the replies. -/

namespace Sys2Proof.Machine

/-! The owner register (R70). -/

/-- Both buffers of mailbox `m` set to zero. -/
def State.mbxWiped (s : State) (m : Nat) : State :=
  { s with wld := { s.wld with mbx := SMap.clear s.wld.mbx (512 * m) (512 * m + 512) } }

@[simp] theorem State.mbxWiped_regs (s : State) (m : Nat) : (s.mbxWiped m).regs = s.regs := by dsimp only [State.mbxWiped]
@[simp] theorem State.isPend_mbxWiped (s : State) (m n : Nat) : (s.mbxWiped m).isPend n = s.isPend n := by
  dsimp only [State.isPend, State.mbxWiped]
@[simp] theorem State.fld_mbxWiped (s : State) (m : Nat) (f : Fld) (n : Nat) : (s.mbxWiped m).fld f n = s.fld f n := by
  dsimp only [State.fld, State.rg, State.mbxWiped]

theorem State.mbxByte_mbxWiped (s : State) (m j off : Nat) (h : off < 512) :
    (s.mbxWiped m).mbxByte j off = if j = m then 0 else s.mbxByte j off := by
  simp only [State.mbxByte, State.mbxWiped, SMap.get_clear]
  by_cases hj : j = m
  · rw [if_pos hj, if_pos (by omega)]
  · rw [if_neg hj, if_neg (by omega)]

/-- Mailbox `m` with a new owner. -/
def State.mbxOwned (s : State) (m owned client : Nat) : State :=
  ((((((s.setFld F.INT_MBX_OWNER_CLIENT_OWNED owned m).setFld F.INT_MBX_OWNER_CLIENT client m).mbxWiped m).setFld F.INT_MBX_STAT_N2S_FULL 0 m).setFld
    F.INT_MBX_STAT_S2N_FULL 0 m).setRg (F.INT_MBX_N2S_LEN.addr m) 0).setFld F.INT_MBX_STAT_OWNER_CHANGED 1 m

theorem exec_intMbxOwnerWrite {s : State} {who : Who} (m : Nat) (v : Word) (h : s.mayRwm who = true) :
    exec (.intMbxOwnerWrite who m v) s = .next ((s.mbxOwned m (bitsOf v 31 31) (bitsOf v 11 0)).raise (448 + m)) := by
  rw [exec, execIntMbxOwnerWrite, if_neg (by simp [h])]
  rfl

theorem SameRegsBut.mbxOwned (s : State) (m owned client : Nat) :
    SameRegsBut [Reg.INT_MBX_OWNER m, Reg.INT_MBX_STAT m, Reg.INT_MBX_N2S m] s (s.mbxOwned m owned client) := by
  have ho : Reg.INT_MBX_OWNER m ∈ [Reg.INT_MBX_OWNER m, Reg.INT_MBX_STAT m, Reg.INT_MBX_N2S m] := by simp
  have hs : Reg.INT_MBX_STAT m ∈ [Reg.INT_MBX_OWNER m, Reg.INT_MBX_STAT m, Reg.INT_MBX_N2S m] := by simp
  have hn : Reg.INT_MBX_N2S m ∈ [Reg.INT_MBX_OWNER m, Reg.INT_MBX_STAT m, Reg.INT_MBX_N2S m] := by simp
  exact ((((((SameRegsBut.setFld s _ _ m ho).trans (.setFld _ _ _ m ho)).trans (.of_regs (State.mbxWiped_regs _ m))).trans
    (.setFld _ _ _ m hs)).trans (.setFld _ _ _ m hs)).trans (.setRg _ _ _ hn)).trans (.setFld _ _ _ m hs)

theorem State.mbxOwned_frame (s : State) (m owned client n : Nat) :
    (s.mbxOwned m owned client).raise n = { s with regs := ((s.mbxOwned m owned client).raise n).regs, wld := { s.wld with
      mbx := ((s.mbxOwned m owned client).raise n).wld.mbx, pend := ((s.mbxOwned m owned client).raise n).wld.pend } } := by
  unfold State.mbxOwned
  apply State.eq_of_parts <;> simp [State.mbxWiped]
  simp [State.raise]

@[simp] theorem State.isPend_mbxOwned (s : State) (m owned client n : Nat) : (s.mbxOwned m owned client).isPend n = s.isPend n := by
  simp [State.mbxOwned]

theorem ownerWriteEmptiesTheMailbox : Rules.OwnerWriteEmptiesTheMailbox := by
  intro s who m v hm hw
  refine ⟨_, exec_intMbxOwnerWrite m v hw, ?_⟩
  have howned : bitsOf v 31 31 < 2 := bitsOf_lt v 31 31
  have hclient : bitsOf v 11 0 < 4096 := bitsOf_lt v 11 0
  generalize bitsOf v 31 31 = owned at *
  generalize bitsOf v 11 0 = client at *
  have hbyte (j off : Nat) (ho : off < 512) :
      ((s.mbxOwned m owned client).raise (448 + m)).mbxByte j off = if j = m then 0 else s.mbxByte j off := by
    rw [← State.mbxByte_mbxWiped s m j off ho]
    simp [State.mbxByte, State.mbxOwned, State.raise, State.mbxWiped]
  refine ⟨fun off ho => ?_, fun j off hj ho => ?_, ?_, ?_, ?_, ?_, ?_, ?_, ?_, ?_, ?_, s.mbxOwned_frame m owned client _⟩
  · rw [hbyte m off ho, if_pos rfl]
  · rw [hbyte j off ho, if_neg hj]
  · simp (disch := decide) [State.mbxOwned, State.flag, State.fld_setFld_apart, State.fld_setFld_same, State.fld_setRg_apart]
  · simp (disch := decide) [State.mbxOwned, State.flag, State.fld_setFld_apart, State.fld_setFld_same, State.fld_setRg_apart]
  · change ((s.mbxOwned m owned client).raise (448 + m)).rg (F.INT_MBX_N2S_LEN.addr m) = 0
    rw [State.rg_of_raise, State.mbxOwned, State.rg_setFld_apart _ _ _ (by decide), State.rg_setRg]
  · simp (disch := decide) [State.mbxOwned, State.flag, State.fld_setFld_same]
  · exact State.isPend_raise_same _ _ (by omega)
  · simp (disch := decide) only [State.fld_of_raise, State.mbxOwned, State.fld_setFld_apart, State.fld_setRg_apart, State.fld_mbxWiped]
    exact State.fld_setFld_of_lt (w := 1) _ m (by decide) howned
  · simp (disch := decide) only [State.fld_of_raise, State.mbxOwned, State.fld_setFld_apart, State.fld_setRg_apart, State.fld_mbxWiped]
    exact State.fld_setFld_of_lt (w := 12) _ m (by decide) hclient
  · exact fun n hn => by rw [State.isPend_raise_ne _ (by simpa using hn), State.isPend_mbxOwned]
  · exact (SameRegsBut.mbxOwned s m owned client).trans (.of_regs (State.raise_regs _ _))
/-! Buffers and replies (R71-R73, R77). -/

theorem State.putMbx_eq (s : State) (m off : Nat) (v : Word) :
    s.putMbx m off v = { s with wld := { s.wld with mbx := (s.putMbx m off v).wld.mbx } } := by
  simp only [State.putMbx, List.range, List.range.loop, List.foldl]

/-- A word lands in four bytes of its buffer, low byte first. -/
theorem State.mbxByte_putMbx (s : State) (m off : Nat) (v : Word) (j o : Nat) :
    (s.putMbx m off v).mbxByte j o =
      if 512 * m + off ≤ 512 * j + o ∧ 512 * j + o < 512 * m + off + 4 then
        BitVec.ofNat 8 (v.toNat / 2 ^ (8 * (512 * j + o - (512 * m + off)))) else s.mbxByte j o := by
  simp only [State.mbxByte, State.putMbx, List.range, List.range.loop, List.foldl, SMap.get_set]
  generalize 512 * j + o = x
  generalize 512 * m + off = y
  by_cases h : y ≤ x ∧ x < y + 4
  · rw [if_pos h]
    obtain ⟨d, hd⟩ := Nat.exists_eq_add_of_le h.1
    have hlt : d < 4 := by omega
    subst hd
    have hsub : y + d - y = d := by omega
    rw [hsub]
    interval_cases d <;> simp
  · rw [if_neg h, if_neg (by omega), if_neg (by omega), if_neg (by omega), if_neg (by omega)]

theorem exec_mbxBufferWrite_of {s : State} {who : Who} {m off : Nat} (v : Word) (h4 : off % 4 = 0)
    (h : (off < 256 ∧ s.mbxOwner who m = true ∧ s.flag F.INT_MBX_STAT_N2S_FULL m = false) ∨ (256 ≤ off ∧ off < 512 ∧ who = .s)) :
    exec (.mbxBufferWrite who m off v) s = .next (s.putMbx m off v) := by
  rw [exec_mbxBufferWrite, execMbxBufferWrite, if_neg (by simp [h4])]
  rcases h with ⟨hoff, ho, hf⟩ | ⟨hlo, hhi, hw⟩
  · rw [if_pos hoff, if_pos (by simp [ho, hf])]
  · rw [if_neg (by omega), if_pos ⟨hhi, hw⟩]

/-- The fields of the S-world's control register, as its write leaves them. -/
def State.sctrlFields (s : State) (m enable len seq : Nat) : State :=
  (((s.setFld F.INT_MBX_SCTRL_ENABLE enable m).setFld F.INT_MBX_STAT_ENABLED enable m).setFld F.INT_MBX_SCTRL_LEN len m).setFld F.INT_MBX_SCTRL_SEQ seq m

/-- The N2S buffer freed. -/
def State.n2sFreed (s : State) (m : Nat) : State := (s.setFld F.INT_MBX_STAT_N2S_FULL 0 m).setFld F.INT_MBX_STAT_OWNER_CHANGED 0 m

/-- A reply posted. -/
def State.s2nPosted (s : State) (m len seq : Nat) : State :=
  (((s.setFld F.INT_MBX_STAT_S2N_LEN len m).setFld F.INT_MBX_STAT_S2N_SEQ seq m).setFld F.INT_MBX_STAT_S2N_FULL 1 m).raise (464 + m)

theorem State.flag_S2N_FULL_sctrlFields (s : State) (m enable len seq : Nat) :
    (s.sctrlFields m enable len seq).flag F.INT_MBX_STAT_S2N_FULL m = s.flag F.INT_MBX_STAT_S2N_FULL m := by
  simp (disch := decide) only [State.sctrlFields, State.flag_setFld_apart]

theorem State.flag_S2N_FULL_n2sFreed (s : State) (m : Nat) :
    (s.n2sFreed m).flag F.INT_MBX_STAT_S2N_FULL m = s.flag F.INT_MBX_STAT_S2N_FULL m := by
  simp (disch := decide) only [State.n2sFreed, State.flag_setFld_apart]

theorem State.writeSctrl_take (s : State) (m : Nat) (v : Word) (ht : v.getLsbD 30 = true) (hs : v.getLsbD 29 = false) :
    s.writeSctrl m v = (s.sctrlFields m (bitsOf v 31 31) (bitsOf v 24 16) (bitsOf v 15 0)).n2sFreed m := by
  simp only [State.writeSctrl, ht, hs, if_true, Bool.false_and, Bool.false_eq_true, if_false, State.sctrlFields, State.n2sFreed]

/-- A SEND while no reply waits posts it, whether or not it also takes. -/
theorem State.writeSctrl_send (s : State) (m : Nat) (v : Word) (hs : v.getLsbD 29 = true) (hf : s.flag F.INT_MBX_STAT_S2N_FULL m = false)
    (hl : bitsOf v 24 16 ≤ 256) :
    ∃ t, (t = s.sctrlFields m (bitsOf v 31 31) (bitsOf v 24 16) (bitsOf v 15 0) ∨
        t = (s.sctrlFields m (bitsOf v 31 31) (bitsOf v 24 16) (bitsOf v 15 0)).n2sFreed m) ∧
      s.writeSctrl m v = t.s2nPosted m (bitsOf v 24 16) (bitsOf v 15 0) := by
  have h1 := s.flag_S2N_FULL_sctrlFields m (bitsOf v 31 31) (bitsOf v 24 16) (bitsOf v 15 0)
  have h2 := (s.sctrlFields m (bitsOf v 31 31) (bitsOf v 24 16) (bitsOf v 15 0)).flag_S2N_FULL_n2sFreed m
  unfold State.writeSctrl
  simp only [← State.sctrlFields.eq_1, ← State.n2sFreed.eq_1]
  generalize s.sctrlFields m (bitsOf v 31 31) (bitsOf v 24 16) (bitsOf v 15 0) = u at *
  cases v.getLsbD 30 with
  | true => exact ⟨_, .inr rfl, by simp only [if_true, hs, h2, h1, hf, hl, decide_true, Bool.not_false, Bool.and_self, State.s2nPosted]⟩
  | false => exact ⟨_, .inl rfl, by simp only [Bool.false_eq_true, if_false, if_true, hs, h1, hf, hl, decide_true, Bool.not_false, Bool.and_self, State.s2nPosted]⟩

theorem RegsOnly.sctrlFields (s : State) (m enable len seq : Nat) : RegsOnly s (s.sctrlFields m enable len seq) :=
  (((RegsOnly.setFld s _ _ m).trans (.setFld _ _ _ m)).trans (.setFld _ _ _ m)).trans (.setFld _ _ _ m)

theorem RegsOnly.n2sFreed (s : State) (m : Nat) : RegsOnly s (s.n2sFreed m) := (RegsOnly.setFld s _ _ m).trans (.setFld _ _ _ m)

theorem SameRegsBut.sctrlFields (s : State) (m enable len seq : Nat) :
    SameRegsBut [Reg.INT_MBX_SCTRL m, Reg.INT_MBX_STAT m] s (s.sctrlFields m enable len seq) := by
  have hc : Reg.INT_MBX_SCTRL m ∈ [Reg.INT_MBX_SCTRL m, Reg.INT_MBX_STAT m] := by simp
  have hs : Reg.INT_MBX_STAT m ∈ [Reg.INT_MBX_SCTRL m, Reg.INT_MBX_STAT m] := by simp
  exact (((SameRegsBut.setFld s _ _ m hc).trans (.setFld _ _ _ m hs)).trans (.setFld _ _ _ m hc)).trans (.setFld _ _ _ m hc)

theorem SameRegsBut.n2sFreed (s : State) (m : Nat) : SameRegsBut [Reg.INT_MBX_SCTRL m, Reg.INT_MBX_STAT m] s (s.n2sFreed m) := by
  have hs : Reg.INT_MBX_STAT m ∈ [Reg.INT_MBX_SCTRL m, Reg.INT_MBX_STAT m] := by simp
  exact (SameRegsBut.setFld s _ _ m hs).trans (.setFld _ _ _ m hs)

theorem SameRegsBut.s2nPosted (s : State) (m len seq : Nat) : SameRegsBut [Reg.INT_MBX_SCTRL m, Reg.INT_MBX_STAT m] s (s.s2nPosted m len seq) := by
  have hs : Reg.INT_MBX_STAT m ∈ [Reg.INT_MBX_SCTRL m, Reg.INT_MBX_STAT m] := by simp
  exact (((SameRegsBut.setFld s _ _ m hs).trans (.setFld _ _ _ m hs)).trans (.setFld _ _ _ m hs)).trans (.of_regs (State.raise_regs _ _))

/-- The state after a posted reply, whatever registers were written before it. -/
theorem RegsOnly.s2nPosted {s t : State} (h : RegsOnly s t) (m len seq : Nat) :
    t.s2nPosted m len seq = { s with regs := (t.s2nPosted m len seq).regs, wld := { s.wld with pend := (t.s2nPosted m len seq).wld.pend } } :=
  ((h.trans (.setFld _ _ _ m)).trans (.setFld _ _ _ m)).trans (.setFld _ _ _ m) |>.raise_frame (464 + m)

theorem SamePendBut.s2nPosted {s t : State} (h : RegsOnly s t) (m len seq : Nat) : SamePendBut [464 + m] s (t.s2nPosted m len seq) := by
  intro n hn
  rw [State.s2nPosted, State.isPend_raise_ne _ (by simpa using hn), State.isPend_of_setFld, State.isPend_of_setFld, State.isPend_of_setFld]
  unfold RegsOnly at h
  rw [h]
  rfl

theorem mailboxesCarryMessagesAndReplies : Rules.MailboxesCarryMessagesAndReplies := by
  refine ⟨fun s who m off v hm h4 h => ?_, fun s m v hm ht hs => ?_, fun s m v hm hs hf hl => ?_, fun s who m v hw => ?_⟩
  · have hend : off + 4 ≤ 512 := by
      rcases h with h | h <;> omega
    refine ⟨_, exec_mbxBufferWrite_of v h4 h, fun i hi => ?_, fun j o ho hout => ?_, s.putMbx_eq m off v⟩
    · rw [State.mbxByte_putMbx, if_pos (by omega)]
      congr 4
      omega
    · rw [State.mbxByte_putMbx, if_neg (by omega)]
  · have hen := bitsOf_lt v 31 31
    refine ⟨_, by rw [exec, execMbxTake, if_neg (by simp), s.writeSctrl_take m v ht hs], ?_⟩
    generalize bitsOf v 31 31 = enable at *
    generalize bitsOf v 24 16 = len
    generalize bitsOf v 15 0 = seq
    refine ⟨?_, ?_, ?_, ?_, (SameRegsBut.sctrlFields s m enable len seq).trans (.n2sFreed _ m),
      (RegsOnly.sctrlFields s m enable len seq).trans (.n2sFreed _ m)⟩
    · rw [State.n2sFreed, State.flag_setFld_apart _ _ _ (by decide), State.flag_setFld_zero _ _ (by decide)]
    · rw [State.n2sFreed, State.flag_setFld_zero _ _ (by decide)]
    · simp (disch := decide) only [State.n2sFreed, State.sctrlFields, State.fld_setFld_apart]
      exact State.fld_setFld_of_lt (w := 1) _ m (by decide) hen
    · simp (disch := decide) only [State.n2sFreed, State.sctrlFields, State.fld_setFld_apart]
      exact State.fld_setFld_of_lt (w := 1) _ m (by decide) hen
  · obtain ⟨t, ht, heq⟩ := s.writeSctrl_send m v hs hf hl
    have hregs : RegsOnly s t ∧ SameRegsBut [Reg.INT_MBX_SCTRL m, Reg.INT_MBX_STAT m] s t := by
      rcases ht with rfl | rfl
      · exact ⟨.sctrlFields s m _ _ _, .sctrlFields s m _ _ _⟩
      · exact ⟨(RegsOnly.sctrlFields s m _ _ _).trans (.n2sFreed _ m), (SameRegsBut.sctrlFields s m _ _ _).trans (.n2sFreed _ m)⟩
    refine ⟨_, by rw [exec, execMbxSend, if_neg (by simp), heq], ?_⟩
    have hlen := bitsOf_lt v 24 16
    have hseq := bitsOf_lt v 15 0
    clear ht heq hl
    generalize bitsOf v 24 16 = len at *
    generalize bitsOf v 15 0 = seq at *
    refine ⟨?_, ?_, ?_, State.isPend_raise_same _ _ (by omega), .s2nPosted hregs.1 m len seq, hregs.2.trans (.s2nPosted t m len seq),
      hregs.1.s2nPosted m len seq⟩
    · rw [State.s2nPosted, State.flag_of_raise, State.flag_setFld_one _ _ (by decide)]
    · simp (disch := decide) only [State.s2nPosted, State.fld_of_raise, State.fld_setFld_apart]
      exact State.fld_setFld_of_lt (w := 9) _ m (by decide) hlen
    · simp (disch := decide) only [State.s2nPosted, State.fld_of_raise, State.fld_setFld_apart]
      exact State.fld_setFld_of_lt (w := 16) _ m (by decide) hseq
  · have hw' : (who != .s) = true := by simpa using hw
    simp [exec, execMbxTake, execMbxSend, hw']

/-- Settles O18. -/
theorem mailboxesCarryMessages : Obligations.MailboxesCarryMessages := ⟨ownerWriteEmptiesTheMailbox, mailboxesCarryMessagesAndReplies⟩

end Sys2Proof.Machine
end

section
/-! PROOFS. The ends of packets (03 R123-R131): the signal, the completion entry and its bytes. -/

namespace Sys2Proof.Machine

/-! Ends of packets. -/

theorem completionFollowsTheSignal : Rules.CompletionFollowsTheSignal := by
  refine ⟨fun s k p x hp hx hh h1 h2 => ?_, fun s s1 k p x hp hx hh h1 h2 hst hw => ?_, fun s k p x hp hx hh h1 h2 hst => ?_⟩
  · simp [exec, execPacketComplete, hp, hx, hh, h1, h2]
  · have hsig : ((p.finalResult x).status == St.ok || (p.finalResult x).status == St.restarted || (p.finalResult x).status == St.deferred) = true := by
      rcases hst with h | h | h <;> rw [h] <;> rfl
    simp only [exec, execPacketComplete, hp, hx, hh, h1, h2, hsig, hw, Bool.false_eq_true, if_false, Bool.and_self, if_true, Bool.false_and]
  · have hst' : ((p.finalResult x).status == St.ok || (p.finalResult x).status == St.restarted) = true := by
      rcases hst with h | h <;> rw [h] <;> rfl
    simp only [exec, execPacketComplete, hp, hx, hh, h1, h2, hst', Bool.false_eq_true, if_false, Bool.false_and, Bool.and_self, if_true]

/-- The notice of an entry leaves rings, memory and registers. -/
theorem State.noticeEntry_frame (s : State) (r : RingId) (sS sM : Nat) (q : RingId) :
    (s.noticeEntry r sS sM).ring q = s.ring q ∧ (s.noticeEntry r sS sM).mem = s.mem ∧ (s.noticeEntry r sS sM).regs = s.regs := by
  cases r with
  | s => exact ⟨rfl, rfl, rfl⟩
  | med => exact ⟨rfl, rfl, rfl⟩
  | client c =>
    simp only [State.noticeEntry, State.msix]
    split
    · exact ⟨rfl, rfl, rfl⟩
    · split <;> exact ⟨rfl, rfl, rfl⟩

theorem completionEntryAdvancesTheTail : Rules.CompletionEntryAdvancesTheTail := by
  intro s s1 r p x hst hw
  have hc : s.complete r p x = ((s1.setRing r { s1.ring r with
      cqTail := ((s1.ring r).cqTail + 1) % 2 ^ (s1.ring r).cqLog
      cqPass := if (s1.ring r).cqTail + 1 = 2 ^ (s1.ring r).cqLog then (s1.ring r).cqPass + 1 else (s1.ring r).cqPass
      reserved := (s1.ring r).reserved - 1 }).noticeEntry r 8 288) := by
    simp only [State.complete, State.putCompletion, hst, hw, List.isEmpty_nil, Bool.not_true, Bool.false_eq_true, if_false]
  refine ⟨_, hc, ?_⟩
  generalize (if (s1.ring r).cqTail + 1 = 2 ^ (s1.ring r).cqLog then (s1.ring r).cqPass + 1 else (s1.ring r).cqPass) = pass
  obtain ⟨hring, hmem, hregs⟩ := State.noticeEntry_frame (s1.setRing r { s1.ring r with
      cqTail := ((s1.ring r).cqTail + 1) % 2 ^ (s1.ring r).cqLog, cqPass := pass, reserved := (s1.ring r).reserved - 1 }) r 8 288 r
  rw [hring, hmem, hregs, State.ring_setRing]
  refine ⟨rfl, rfl, rfl, rfl, fun h => ?_, fun h => ?_⟩
  · subst h; exact State.isPend_raise_same _ 8 (by decide)
  · subst h; exact State.isPend_raise_same _ 288 (by decide)

/-! The bytes of an entry. -/

theorem length_leBytes (n v : Nat) : (leBytes n v).length = n := by
  induction n generalizing v with
  | zero => rfl
  | succ n ih => simp only [leBytes, List.length_cons, ih]

/-- A number behind `k` bytes is read at its offset less `k`. -/
theorem leAt_leBytes_append (k w : Nat) (l : List Byte) (off n : Nat) (h : k ≤ off) : leAt (leBytes k w ++ l) off n = leAt l (off - k) n := by
  simp only [leAt]
  rw [List.drop_append, length_leBytes, List.drop_eq_nil_of_le (by rw [length_leBytes]; exact h), List.nil_append]

/-- A stored number is read back from the front of a list. -/
theorem leAt_leBytes_zero (n v : Nat) (l : List Byte) (h : v < 256 ^ n) : leAt (leBytes n v ++ l) 0 n = v := by
  have htake : (leBytes n v ++ l).take n = leBytes n v := by
    rw [List.take_append_of_le_length (by rw [length_leBytes]), List.take_of_length_le (by rw [length_leBytes])]
  simp only [leAt, List.drop_zero, htake]
  clear htake
  induction n generalizing v with
  | zero => simp only [leBytes, List.foldr_nil]; omega
  | succ n ih =>
    simp only [leBytes, List.foldr_cons, BitVec.toNat_ofNat]
    rw [ih (v / 256) (by rw [Nat.div_lt_iff_lt_mul (by decide)]; omega)]
    omega

theorem completionEntryHoldsItsFields : Rules.CompletionEntryHoldsItsFields := by
  intro p x phase htag hst hcl hph hgen hop h0 h1 h2 h3
  have hph' : p.client % 4096 + 0x8000 * phase < 256 ^ 2 := by omega
  have hcl' : p.client % 4096 = p.client := Nat.mod_eq_of_lt hcl
  refine ⟨?_, ?_, ?_, ?_, ?_, ?_, ?_, ?_, ?_, ?_⟩
  · simp [completionBytes, length_leBytes]
  all_goals simp (disch := decide) only [completionBytes, List.append_assoc, leAt_leBytes_append, Nat.reduceSub, Nat.sub_self]
  · exact leAt_leBytes_zero 4 _ _ htag
  · exact leAt_leBytes_zero 2 _ _ hst
  · rw [leAt_leBytes_zero 2 _ _ hph', hcl']
  · exact leAt_leBytes_zero 2 _ _ hgen
  · exact leAt_leBytes_zero 2 _ _ hop
  · exact leAt_leBytes_zero 4 _ _ h0
  · exact leAt_leBytes_zero 4 _ _ h1
  · exact leAt_leBytes_zero 4 _ _ h2
  · have := leAt_leBytes_zero 4 x.r3 [] h3
    rwa [List.append_nil] at this

/-- Settles O19. -/
theorem completionsFollowTheirSignals : Obligations.CompletionsFollowTheirSignals :=
  ⟨completionFollowsTheSignal, completionEntryAdvancesTheTail, completionEntryHoldsItsFields⟩

end Sys2Proof.Machine
end

section
/-! PROOFS. Checks, fences and the device operations (03 R116-R141). -/

namespace Sys2Proof.Machine

/-! What becomes of a packet whose checks have passed. -/

theorem State.startOrWait_of_true {s t : State} {r : RingId} {p : Packet} (since : Nat) (h : s.waitHolds r p = (.ok true, t))
    (hm : t.mayStart r = true) : s.startOrWait r p since = t.start r p := by
  simp only [State.startOrWait, h, hm, if_true]

theorem State.startOrWait_of_false {s t : State} {r : RingId} {p : Packet} (since : Nat) (h : s.waitHolds r p = (.ok false, t)) :
    s.startOrWait r p since = t.setRing r { t.ring r with wait := some (p, since) } := by
  simp only [State.startOrWait, h]

/-- PACKET_START of a head that may be looked at, whose entries are all there and which no other ring outranks. -/
theorem exec_packetStart_of_entries {s s1 s2 : State} {r : RingId} {head raw : List Byte} (hready : s.headReady r = true)
    (hhead : s.dmaRead (ringWho r) ((s.ring r).sqAddr (s.ring r).sqHead) 64 = (.ok head, s1)) (h1 : 1 ≤ leAt head 2 1) (h64 : leAt head 2 1 ≤ 64)
    (hcount : leAt head 2 1 ≤ (s.ring r).sqCount) (hres : (s.ring r).canReserve = true) (hmay : s1.mayStart r = true) (hout : s1.outranked r = false)
    (hraw : State.readEntries r (s.ring r) (leAt head 2 1) (s.ring r).sqHead [] s1 = (.ok raw, s2)) :
    exec (.packetStart r) s =
      match (s2.reserve r).refusal r raw (parsePacket raw (s.ring r).sqHead) with
      | some (st, r0) => .next (((s2.reserve r).passHead r (leAt head 2 1)).refuse r (parsePacket raw (s.ring r).sqHead) st r0)
      | none => .next ((s2.reserve r).startOrWait r (parsePacket raw (s.ring r).sqHead) (s2.reserve r).cyc) := by
  have hlen : ¬ (leAt head 2 1 = 0 ∨ 64 < leAt head 2 1) := by omega
  have hgo : ¬ ((s.ring r).sqCount < leAt head 2 1 ∨ (!(s.ring r).canReserve) = true ∨ (!s1.mayStart r) = true ∨ s1.outranked r = true) := by
    simp [hres, hmay, hout, hcount]
  rw [exec, execPacketStart]
  dsimp only
  rw [hready, if_neg (by decide), hhead]
  dsimp only
  rw [if_neg hlen, if_neg hgo, hraw] <;> dsimp only <;>
    cases (s2.reserve r).refusal r raw (parsePacket raw (s.ring r).sqHead) <;> rfl

theorem packetsStartWaitOrAreRefused : Rules.PacketsStartWaitOrAreRefused := by
  refine ⟨fun s s1 s2 r head raw => ?_, fun s s1 r head => ?_⟩
  · intro x n p hready hhead h1 h64 hcount hres hmay hout hraw
    rw [exec_packetStart_of_entries hready hhead h1 h64 hcount hres hmay hout hraw]
    refine ⟨fun st r0 href => ?_, fun href s3 hw hm => ?_, fun href s3 hw => ?_⟩
    · simp only [p, x] at href
      rw [href]
    · simp only [p, x] at href hw
      rw [href]
      simp only [State.startOrWait_of_true _ hw hm]
      rfl
    · simp only [p, x] at href hw
      rw [href]
      simp only [State.startOrWait_of_false _ hw]
      rfl
  · intro x hready hhead hlen hres
    rw [exec, execPacketStart]
    dsimp only
    rw [hready, if_neg (by decide), hhead]
    dsimp only
    rw [if_pos hlen, if_pos hres]

/-! The checks (R116), from the third on: each refuses once those before it have passed. -/

theorem checksRefuseInTheirOrder : Rules.ChecksRefuseInTheirOrder := by
  intro s r raw p
  refine ⟨fun h4 hcrc => ?_, fun h4 hfl => ?_, fun h4 hfl ho => ?_, fun o h4 hfl ho => ⟨fun h3 hlock => ?_, fun hlock => ?_⟩⟩
  · unfold State.refusal
    rw [if_pos (by simp [h4, hcrc])]
  · unfold State.refusal
    rw [if_neg (by simp [h4]), if_pos hfl]
    rfl
  · unfold State.refusal
    rw [if_neg (by simp [h4]), if_neg (by omega), ho]
    rfl
  · unfold State.refusal
    rw [if_neg (by simp [h4]), if_neg (by omega), ho]
    dsimp only
    rw [if_pos (by simp [h3, hlock])]
    rfl
  · have hnolock : ¬ (bit p.flags 3 && !o.lock) = true := by
      rcases hlock with h | h <;> simp [h]
    have hrest : s.refusal r raw p = if p.client ≠ ringClient r then some (St.badClient, 0)
        else if p.gen ≠ (match r with | .client n => (s.client n).gen | _ => 0) then some (St.staleContext, 0)
        else if !s.maySubmit r o p then some (St.noPermission, 0)
        else if p.entries * 64 < paramsAt p.flags + o.need p.params then some (St.badLength, 0)
        else if bit p.flags 0 && p.waitAddr % 8 != 0 then some (St.range, beforeP 16)
        else if bit p.flags 1 && p.sigAddr % 8 != 0 then some (St.range, beforeP 32)
        else checkParams o p.params := by
      unfold State.refusal
      rw [if_neg (by simp [h4]), if_neg (by omega), ho]
      dsimp only
      rw [if_neg hnolock] <;> rfl
    rw [hrest]
    refine ⟨fun hc => if_pos hc, fun n hr hc hg => ?_, fun n hr hc hg hm => ?_⟩
    · subst hr
      rw [if_neg (by simp [ringClient, hc]), if_pos hg]
    · subst hr
      rw [if_neg (by simp [ringClient, hc]), if_neg (by simpa using hg), if_pos (by simp [hm])]

theorem fencesReleaseOrTimeOut : Rules.FencesReleaseOrTimeOut := by
  refine ⟨fun s s1 r p since hw hh hm => ?_, fun s s1 r p since hw => ⟨fun hh ht => ?_, fun ht => ?_⟩⟩
  · simp only [exec, execFenceEvaluate, hw, State.startOrWait_of_true _ hh hm]
  · simp only [exec, execFenceTimeout, hw, ht, hh, Bool.not_true, Bool.false_eq_true, if_false]
  · simp only [exec, execFenceTimeout, hw, ht, Bool.not_false, if_true]

/-- Settles O20. -/
theorem packetsAreCheckedAndStarted : Obligations.PacketsAreCheckedAndStarted :=
  ⟨packetsStartWaitOrAreRefused, checksRefuseInTheirOrder, fencesReleaseOrTimeOut⟩

theorem deviceOperationsAnswer : Rules.DeviceOperationsAnswer := by
  refine ⟨fun s k p h => ?_, fun s k p h => ?_, fun s k p h => ?_, fun s k p h => ?_, fun s n hw hr => ?_⟩
  · simp only [exec, execNop, h]
  · simp only [exec, execTimeRead, h]
  · simp only [exec, execRingQuery, h]
  · simp only [exec, execEventMask, h]
  · rw [exec, execContextResident, if_neg (by omega)]
    simp [hw, State.makeResident]

theorem endedOperationHoldsItsCompletion : Rules.EndedOperationHoldsItsCompletion := by
  intro s k st r0 r1 r2 r3 p hp
  refine ⟨?_, fun j hj => s.place_endOp_ne st r0 r1 r2 r3 hj, s.endOp_rest k st r0 r1 r2 r3⟩
  rw [s.endOp_eq k st r0 r1 r2 r3 hp, State.place_setPlace]

/-- Settles O21. -/
theorem operationsEndWithTheirCompletion : Obligations.OperationsEndWithTheirCompletion :=
  ⟨deviceOperationsAnswer, endedOperationHoldsItsCompletion⟩

end Sys2Proof.Machine
end

section
/-! PROOFS. Doorbells and ring sets (03 R103-R108, R134-R140). -/

namespace Sys2Proof.Machine

/-! A map written twice with one value. -/

theorem SMap.ins_ins {α : Type} (m : List (Nat × α)) (k : Nat) (v : α) : SMap.ins (SMap.ins m k v) k v = SMap.ins m k v := by
  induction m with
  | nil => simp [SMap.ins]
  | cons e t ih =>
    simp only [SMap.ins]
    split
    · simp [SMap.ins]
    · split
      · simp [SMap.ins]
      · rename_i h1 h2
        simp only [SMap.ins, h1, h2, if_false, ih]

theorem SMap.set_set {α : Type} [DecidableEq α] (d : Nat → α) (m : List (Nat × α)) (k : Nat) (v : α) :
    SMap.set d (SMap.set d m k v) k v = SMap.set d m k v := by
  simp only [SMap.set]
  split
  · simp only [SMap.del, List.filter_filter, Bool.and_self]
  · exact SMap.ins_ins m k v

theorem State.setRing_setRing (s : State) (r : RingId) (x : RingSet) : (s.setRing r x).setRing r x = s.setRing r x := by
  simp only [State.setRing, SMap.set_set]

/-! Doorbells. -/

/-- A head that moves with no completion stalled and no halt owed is all that a doorbell leaves. -/
theorem State.retryStalled_payHalt {s : State} {r : RingId} {x : RingSet} {l : List (Packet × Result)} (hl : l = []) (hs : x.stalled = [])
    (hh : x.haltOwed = none) : (State.retryStalled r l (s.setRing r x)).payHalt r = s.setRing r x := by
  have hx : { x with stalled := [] } = x := by rw [← hs]
  have hretry : State.retryStalled r l (s.setRing r x) = s.setRing r x := by
    rw [hl, State.retryStalled, State.ring_setRing, hx, State.setRing_setRing]
  simp only [hretry, State.payHalt, State.ring_setRing, hh]

theorem State.payLost_setRing {s : State} {r : RingId} {x : RingSet} (h : x.lost = 0) : (s.setRing r x).payLost r = s.setRing r x := by
  simp only [State.payLost, State.ring_setRing, h, true_or, if_true]

theorem doorbellsMoveTheirIndexes : Rules.DoorbellsMoveTheirIndexes := by
  refine ⟨fun s who r v ho he hd hi => ?_, fun s who r v ho he hr hs hh => ?_, fun s who r v ho he hr hl => ?_, fun s who r v ho he hh hi => ?_,
    fun s who r v ho => ?_, fun s who r v ho hbad => ?_⟩
  · simp [exec, execSqTailDoorbell, ho, he, hd, Nat.not_le.mpr hi]
  · rw [exec, execCqHeadDoorbell, if_neg (by simp [ho]), if_neg (by simp [he, hr])]
    exact congrArg Host.Outcome.next (State.retryStalled_payHalt hs hs hh)
  · rw [exec, execEqHeadDoorbell, if_neg (by simp [ho]), if_neg (by simp [he, hr])]
    refine congrArg Host.Outcome.next ?_
    split
    · rfl
    · exact State.payLost_setRing hl
  · simp [exec, execSqResume, ho, he, hh, Nat.not_le.mpr hi]
  · simp [exec, execSqTailDoorbell, execCqHeadDoorbell, execEqHeadDoorbell, execSqResume, ho]
  · have h1 : (!(s.ring r).enabled) = true ∨ 2 ^ (s.ring r).sqLog ≤ doorIndex v := hbad.imp (by simp) id
    have h2 : (!(s.ring r).enabled) = true ∨ (!(s.ring r).halted) = true ∨ 2 ^ (s.ring r).sqLog ≤ doorIndex v := h1.imp id .inr
    simp only [exec, execSqTailDoorbell, execSqResume, ho, Bool.not_true, Bool.false_eq_true, if_false, if_pos h1, if_pos h2, and_self]

/-! Ring sets (R134-R137, R140). -/

/-- A ring set in service, as RING_SETUP's parameters give it. -/
def ringOfSetup (p : Started) : RingSet :=
  { RingSet.off with
    enabled := true, sqLog := p.p8 2, cqLog := p.p8 3, eqLog := p.p8 4, rank := p.p8 5, fenceTmo := p.p16 6
    sqBase := p.p64 8, cqBase := p.p64 16, eqBase := p.p64 24, classMask := p.p16 32 }

theorem exec_ringSetup {s : State} {k : Nat} {p : Started} (h : s.opAt k 0x0001 = some p) (hg : ¬ (p.ring = .med ∧ s.isSGuest (p.p16 0) = true))
    (he : (s.ring (.client (p.p16 0))).enabled = false) :
    exec (.ringSetup k) s =
      .next (((s.setRing (.client (p.p16 0)) (ringOfSetup p)).setClient (p.p16 0) { s.client (p.p16 0) with credit := 0 }).endOp k St.ok) := by
  rw [exec, execRingSetup, h]
  dsimp only
  rw [if_neg hg, if_neg (by simp [he])]
  rfl

/-- RING_SET_DRAINED of a client's set that a packet disabled. -/
theorem exec_ringSetDrained {s : State} {n k : Nat} (he : (s.ring (.client n)).enabled = true) (hd : (s.ring (.client n)).draining = true)
    (hs : (s.ring (.client n)).stalled = []) (hx : s.inExec (.client n) = 0) (hb : (s.ring (.client n)).disableBy = some k) :
    exec (.ringSetDrained (.client n)) s = .next (({ s.setRing (.client n) RingSet.off with cp := { (s.setRing (.client n) RingSet.off).cp with
      resident := s.cp.resident.filter (fun c => c != n), waiting := s.cp.waiting.filter (fun c => c != n) } } : State).endOp k St.ok
        (s.ring (.client n)).dropped) := by
  rw [exec, execRingSetDrained]
  dsimp only
  rw [if_pos (by simp [he, hd, hs, hx]), hb]
  rfl

/-- A ring set of the S-world or the mediator in service, as `CP_PRING_CFG` gives it. -/
def ringOfPring (s : State) (p : Nat) (v : Word) : RingSet :=
  { RingSet.off with
      enabled := true, eqLog := bitsOf v 30 27, cqLog := bitsOf v 26 22, sqLog := bitsOf v 21 17, fenceTmo := bitsOf v 15 0
      sqBase := s.pringBase p 4, cqBase := s.pringBase p 0xC, eqBase := s.pringBase p 0x14, classMask := 0xFFFF }

theorem exec_pringEnable {s : State} {who : Who} {p : Nat} {v : Word} (hrec : s.fw.recovery = false) (hw : s.pringWriter who p = true)
    (ha : (s.rg (pringReg p 0)).getLsbD 31 = false) (he : (s.ring (pringId p)).enabled = false) (hv : v.getLsbD 31 = true)
    (hval : pringValid v = true) :
    exec (.pringEnable who p v) s = .next ((s.setRg (pringReg p 0) (putBits v 16 16 0)).setRing (pringId p)
      (ringOfPring (s.setRg (pringReg p 0) (putBits v 16 16 0)) p v)) := by
  rw [exec, execPringEnable]
  dsimp only
  rw [if_neg (by simp only [hrec, hw, ha, he, hv]; decide), if_neg (by simp [hval])]
  rfl

theorem ringSetsComeAndGo : Rules.RingSetsComeAndGo := by
  refine ⟨fun s k p h hn hg he => ?_, fun s k p h hp hc hd => ⟨fun he => ?_, fun he => ?_⟩, fun s n k p => ?_, fun s who p v hp hrec hw ha he hv hval => ?_,
    fun s who p v hw ha hv => ?_⟩
  · have hplace : ((s.setRing (.client (p.p16 0)) (ringOfSetup p)).setClient (p.p16 0) { s.client (p.p16 0) with credit := 0 }).place k = some p := by
      simpa using State.place_of_opAt h
    have hkey : ∀ r, r ≠ RingId.client (p.p16 0) → ringKey r ≠ ringKey (.client (p.p16 0)) := by
      intro r hr
      cases r with
      | client n => exact fun e => hr (congrArg _ e)
      | s => exact fun e => absurd e (by simp only [ringKey]; omega)
      | med => exact fun e => absurd e (by simp only [ringKey]; omega)
    refine ⟨_, exec_ringSetup h hg he, State.result_endOp _ _ _ _ _ _ _ hplace, ?_, ?_, fun r hr => ?_, ?_⟩
    · simp only [State.ring_of_endOp, State.ring_of_setClient, State.ring_setRing]
      exact ⟨rfl, rfl, rfl, rfl, rfl, rfl, rfl, rfl, rfl, rfl, rfl, rfl, rfl, rfl, rfl, rfl⟩
    · simp
    · simp only [State.ring_of_endOp, State.ring_of_setClient, State.ring_setRing_ne _ _ (hkey r hr)]
    · apply State.eq_of_parts <;> simp
  · simp [exec, execRingDisable, h, hp, hc, hd, he]
  · simp [exec, execRingDisable, h, hp, hc, hd, he]
  · intro x he hd hs hx hb hk
    refine ⟨_, exec_ringSetDrained he hd hs hx hb, ?_, ?_, ?_, ?_, ?_⟩
    · rw [State.ring_of_endOp]
      exact State.ring_setRing s (.client n) RingSet.off
    · rw [State.endOp_cp]
      simp
    · rw [State.endOp_cp]
      simp
    · exact State.result_endOp _ _ _ _ _ _ _ hk
    · apply State.eq_of_parts <;> simp
  · refine ⟨_, exec_pringEnable hrec hw ha he hv hval, ?_, ?_, ?_, ?_, ?_, ?_, ?_⟩
    · simp only [State.ring_setRing]; rfl
    · rw [State.rg_of_setRing, State.rg_setRg, getLsbD_putBits_ne v 16 16 0 31 (by decide) (by decide) (by decide)]
      exact hv
    · simp only [State.ring_setRing]; rfl
    · simp only [State.ring_setRing]; rfl
    · simp only [State.ring_setRing]; rfl
    · exact (SameRegsBut.setRg s (pringReg p 0) (putBits v 16 16 0) (by simp)).trans (.of_regs (State.setRing_regs _ _ _))
    · rfl
  · rw [exec, execPringDisable]
    rw [if_neg (by simp only [hw, ha, hv]; decide)]

/-- Settles O22. -/
theorem doorbellsAndRingSets : Obligations.DoorbellsAndRingSets := ⟨doorbellsMoveTheirIndexes, ringSetsComeAndGo⟩

end Sys2Proof.Machine
end

section
/-! PROOFS. The slot tables of a channel (13 R540-R542). -/

namespace Sys2Proof.Machine

/-! The slots of a table (R540). -/

/-- One step of spreading `c` entries over `n` places adds the entry that `spread` says. -/
theorem spread_step (i : Nat) {c n : Nat} (hn : 0 < n) (h : c ≤ n) :
    (i + 1) * c / n = i * c / n + if spread i c n then 1 else 0 := by
  have hlo : i * c / n ≤ (i + 1) * c / n := Nat.div_le_div_right (by rw [Nat.add_mul]; omega)
  have hhi : (i + 1) * c / n ≤ i * c / n + 1 := by
    rw [← Nat.add_div_right _ hn]
    exact Nat.div_le_div_right (by rw [Nat.add_mul, Nat.one_mul]; omega)
  by_cases hs : spread i c n
  · rw [if_pos hs]
    simp only [spread, decide_eq_true_eq] at hs
    omega
  · rw [if_neg hs]
    simp only [spread, decide_eq_true_eq, not_not] at hs
    omega

/-- One step of building a table: the list so far, and the places left to ISO so far. -/
def slotStep (safe iso : Nat) (acc : List Slot × Nat) (i : Nat) : List Slot × Nat :=
  if spread i safe 64 then (acc.1 ++ [.safe], acc.2)
  else (acc.1 ++ [if spread acc.2 iso (64 - safe) then .iso else .free], acc.2 + 1)

/-- The table's counts after its first `m` entries. -/
theorem slotStep_counts {safe iso : Nat} (hs : safe ≤ 16) (hi : iso ≤ 32) (m : Nat) :
    let acc := (List.range m).foldl (slotStep safe iso) ([], 0)
    acc.1.length = m ∧ acc.1.count .safe = m * safe / 64 ∧ acc.1.count .iso = acc.2 * iso / (64 - safe) ∧ acc.2 + m * safe / 64 = m := by
  induction m with
  | zero => simp
  | succ m ih =>
    dsimp only at ih ⊢
    rw [List.range_succ, List.foldl_append, List.foldl_cons, List.foldl_nil]
    generalize (List.range m).foldl (slotStep safe iso) ([], 0) = acc at *
    obtain ⟨hlen, hsafe, hiso, hleft⟩ := ih
    have hstep := spread_step m (show 0 < 64 by decide) (show safe ≤ 64 by omega)
    unfold slotStep
    by_cases hsp : spread m safe 64
    · rw [if_pos hsp] at hstep ⊢
      refine ⟨by simp [hlen], by simp [hsafe, hstep], by simp [hiso], ?_⟩
      simp only [hstep]; omega
    · rw [if_neg hsp] at hstep ⊢
      have hstep2 := spread_step acc.2 (show 0 < 64 - safe by omega) (show iso ≤ 64 - safe by omega)
      by_cases hsi : spread acc.2 iso (64 - safe)
      · rw [if_pos hsi] at hstep2 ⊢
        refine ⟨by simp [hlen], by simp [hsafe, hstep], by simp [hiso, hstep2], ?_⟩
        simp only [hstep]; omega
      · rw [if_neg hsi] at hstep2 ⊢
        refine ⟨by simp [hlen], by simp [hsafe, hstep], by simp [hiso, hstep2], ?_⟩
        simp only [hstep]; omega

theorem slotTableHasItsCounts : Rules.SlotTableHasItsCounts := by
  intro safe iso hs hi
  obtain ⟨hlen, hsafe, hiso, hleft⟩ := slotStep_counts hs hi 64
  have hall : 64 * safe / 64 = safe := Nat.mul_div_cancel_left safe (by decide)
  rw [hall] at hsafe hleft
  refine ⟨hlen, hsafe, hiso.trans ?_⟩
  rw [show ((List.range 64).foldl (slotStep safe iso) ([], 0)).2 = 64 - safe by omega, Nat.mul_div_cancel_left iso (by omega)]

/-! Updates of the places alone, one after another. -/

theorem foldl_cp_rest {α : Type} {f : State → α → State} (h : ∀ t a, f t a = { t with cp := (f t a).cp }) (l : List α) (s : State) :
    l.foldl f s = { s with cp := (l.foldl f s).cp } := by
  induction l generalizing s with
  | nil => rfl
  | cons a t ih =>
    rw [List.foldl_cons]
    have hstep := h s a
    generalize f s a = u at *
    refine (ih u).trans ?_
    generalize (t.foldl f u).cp = c
    rw [hstep]

theorem State.releaseOp_rest (s : State) (k : Nat) : s.releaseOp k = { s with cp := (s.releaseOp k).cp } := by
  unfold State.releaseOp
  split
  · rfl
  · rfl

/-! SLOT_SET, SLOT_TABLE_SWAP, MEM_QUERY. -/

/-- `MC_SLOT_CFG[g]` once a rebuild with these counts has begun. -/
def State.slotCfg (s : State) (g safe rsv : Nat) : State :=
  (((s.setFld F.MC_SLOT_CFG_SAFE_SLOTS safe g).setFld F.MC_SLOT_CFG_ISO_RSV rsv g).setFld F.MC_SLOT_CFG_OVER 0 g).setFld F.MC_SLOT_CFG_PENDING 1 g

theorem SameRegsBut.slotCfg (s : State) (g safe rsv : Nat) : SameRegsBut [Reg.MC_SLOT_CFG g] s (s.slotCfg g safe rsv) := by
  have h : Reg.MC_SLOT_CFG g ∈ [Reg.MC_SLOT_CFG g] := by simp
  exact (((SameRegsBut.setFld s _ _ g h).trans (.setFld _ _ _ g h)).trans (.setFld _ _ _ g h)).trans (.setFld _ _ _ g h)

/-- What a legal `SLOT_SET` leaves in the fields of `MC_SLOT_CFG[g]`. -/
theorem State.slotCfg_fields (s : State) (g : Nat) {safe rsv : Nat} (hs : safe ≤ 16) (hr : rsv ≤ 32) :
    (s.slotCfg g safe rsv).fld F.MC_SLOT_CFG_SAFE_SLOTS g = safe ∧ (s.slotCfg g safe rsv).fld F.MC_SLOT_CFG_ISO_RSV g = rsv ∧
    (s.slotCfg g safe rsv).fld F.MC_SLOT_CFG_PENDING g = 1 ∧
    (s.slotCfg g safe rsv).fld F.MC_SLOT_CFG_ISO_DISP g = s.fld F.MC_SLOT_CFG_ISO_DISP g := by
  unfold State.slotCfg
  refine ⟨?_, ?_, ?_, ?_⟩
  · simp (disch := decide) only [State.fld_setFld_apart]
    exact State.fld_setFld_of_lt (w := 5) s g (by decide) (by omega)
  · simp (disch := decide) only [State.fld_setFld_apart]
    exact State.fld_setFld_of_lt (w := 6) _ g (by decide) (by omega)
  · exact State.fld_setFld_of_lt (w := 1) _ g (by decide) (by decide)
  · simp (disch := decide) only [State.fld_setFld_apart]

/-- The memory controller after a rebuild whose table is `x`, with packet `k` waiting for its swap. -/
def Mc.rebuilding (mc : Mc) (g k : Nat) (x : Nat × Nat) : Mc :=
  { mc with
    shadow := SMap.set (fun _ => none) mc.shadow g (some x)
    slotWait := SMap.set (fun _ => []) mc.slotWait g (SMap.get (fun _ => []) mc.slotWait g ++ [k]) }

theorem State.slotCfg_mc (s : State) (g safe rsv : Nat) : (s.slotCfg g safe rsv).mc = s.mc := by simp [State.slotCfg]

theorem State.rebuildSlots_waiting (u : State) (g k : Nat) :
    ({ u.rebuildSlots g with mc := { (u.rebuildSlots g).mc with
      slotWait := SMap.set (fun _ => []) (u.rebuildSlots g).mc.slotWait g (SMap.get (fun _ => []) (u.rebuildSlots g).mc.slotWait g ++ [k]) } } : State) =
    { u.setFld F.MC_SLOT_CFG_PENDING 1 g with
      mc := (u.setFld F.MC_SLOT_CFG_PENDING 1 g).mc.rebuilding g k
        ((u.setFld F.MC_SLOT_CFG_PENDING 1 g).fld F.MC_SLOT_CFG_SAFE_SLOTS g,
          (u.setFld F.MC_SLOT_CFG_PENDING 1 g).fld F.MC_SLOT_CFG_ISO_DISP g + (u.setFld F.MC_SLOT_CFG_PENDING 1 g).fld F.MC_SLOT_CFG_ISO_RSV g) } := by
  unfold State.rebuildSlots
  generalize u.setFld F.MC_SLOT_CFG_PENDING 1 g = v
  rfl

theorem exec_slotSet {s : State} {k : Nat} {p : Started} (h : s.opAt k 0x2401 = some p) (hs : p.p8 1 ≤ 16) (hr : p.p8 2 ≤ 32)
    (hiso : s.fld F.MC_SLOT_CFG_ISO_DISP (p.p8 0) + p.p8 2 ≤ 32) :
    exec (.slotSet k) s = .next (({ s.slotCfg (p.p8 0) (p.p8 1) (p.p8 2) with
      mc := s.mc.rebuilding (p.p8 0) k (p.p8 1, s.fld F.MC_SLOT_CFG_ISO_DISP (p.p8 0) + p.p8 2) } : State).endOpHeld k St.ok) := by
  obtain ⟨hsafe, hrsv, -, hdisp⟩ := s.slotCfg_fields (p.p8 0) hs hr
  have hmc := s.slotCfg_mc (p.p8 0) (p.p8 1) (p.p8 2)
  rw [exec, execSlotSet, h]
  dsimp only
  rw [if_neg (by omega), State.rebuildSlots_waiting]
  unfold State.slotCfg at hsafe hrsv hdisp hmc ⊢
  rw [hsafe, hrsv, hdisp, hmc]

theorem State.place_of_cp {s t : State} (h : t.cp = s.cp) (k : Nat) : t.place k = s.place k := by
  rw [State.place, h]
  rfl

theorem State.endOpHeld_rest (s : State) (k st r0 r1 r2 r3 : Nat) :
    s.endOpHeld k st r0 r1 r2 r3 = { s with cp := (s.endOpHeld k st r0 r1 r2 r3).cp } := by
  unfold State.endOpHeld
  split
  · rfl
  · rfl

theorem State.result_endOpHeld {s : State} {k : Nat} {p : Started} (h : s.place k = some p) (st r0 r1 r2 r3 : Nat) :
    (s.endOpHeld k st r0 r1 r2 r3).result k = some ⟨st, r0, r1, r2, r3⟩ := by
  simp only [State.result, s.endOpHeld_eq k st r0 r1 r2 r3 h, State.place_setPlace]

theorem State.held_endOpHeld {s : State} {k : Nat} {p : Started} (h : s.place k = some p) (st r0 r1 r2 r3 : Nat) :
    ∃ q, (s.endOpHeld k st r0 r1 r2 r3).place k = some q ∧ q.held = true := by
  rw [s.endOpHeld_eq k st r0 r1 r2 r3 h]
  exact ⟨_, State.place_setPlace _ _ _, rfl⟩

/-- An operation of `s` that ends in `u`, held, whose memory controller is `mc`. -/
theorem State.endOpHeld_withMc {u : State} (mc : Mc) {k : Nat} {p : Started} (h : u.place k = some p) :
    ∃ t, ({ u with mc := mc } : State).endOpHeld k St.ok = t ∧ t.result k = some ⟨St.ok, 0, 0, 0, 0⟩ ∧ (∃ q, t.place k = some q ∧ q.held = true) ∧
      t = { u with cp := t.cp, mc := mc } := by
  have hp : ({ u with mc := mc } : State).place k = some p := h
  exact ⟨_, rfl, State.result_endOpHeld hp .., State.held_endOpHeld hp .., State.endOpHeld_rest ..⟩

theorem slotSet_rebuilds {s : State} {k : Nat} {p : Started} (h : s.opAt k 0x2401 = some p) (hs : p.p8 1 ≤ 16) (hr : p.p8 2 ≤ 32)
    (hiso : s.fld F.MC_SLOT_CFG_ISO_DISP (p.p8 0) + p.p8 2 ≤ 32) :
    ∃ t, exec (.slotSet k) s = .next t ∧ t.result k = some ⟨St.ok, 0, 0, 0, 0⟩ ∧ (∃ q, t.place k = some q ∧ q.held = true) ∧
      t.fld F.MC_SLOT_CFG_SAFE_SLOTS (p.p8 0) = p.p8 1 ∧ t.fld F.MC_SLOT_CFG_ISO_RSV (p.p8 0) = p.p8 2 ∧ t.fld F.MC_SLOT_CFG_PENDING (p.p8 0) = 1 ∧
      t.fld F.MC_SLOT_CFG_ISO_DISP (p.p8 0) = s.fld F.MC_SLOT_CFG_ISO_DISP (p.p8 0) ∧
      SMap.get (fun _ => none) t.mc.shadow (p.p8 0) = some (p.p8 1, s.fld F.MC_SLOT_CFG_ISO_DISP (p.p8 0) + p.p8 2) ∧
      SameRegsBut [Reg.MC_SLOT_CFG (p.p8 0)] s t ∧ t = { s with regs := t.regs, cp := t.cp, mc := t.mc } := by
  obtain ⟨hsafe, hrsv, hpend, hdisp⟩ := s.slotCfg_fields (p.p8 0) hs hr
  have hregs := SameRegsBut.slotCfg s (p.p8 0) (p.p8 1) (p.p8 2)
  have hrest : s.slotCfg (p.p8 0) (p.p8 1) (p.p8 2) = { s with regs := (s.slotCfg (p.p8 0) (p.p8 1) (p.p8 2)).regs } := by
    apply State.eq_of_parts <;> simp [State.slotCfg]
  have hplace : (s.slotCfg (p.p8 0) (p.p8 1) (p.p8 2)).place k = some p := by
    rw [State.place_of_cp (s := s) (by simp [State.slotCfg])]
    exact State.place_of_opAt h
  rw [exec_slotSet h hs hr hiso]
  generalize s.slotCfg (p.p8 0) (p.p8 1) (p.p8 2) = u at *
  obtain ⟨t, ht, hres, hheld, hfr⟩ := State.endOpHeld_withMc
    (s.mc.rebuilding (p.p8 0) k (p.p8 1, s.fld F.MC_SLOT_CFG_ISO_DISP (p.p8 0) + p.p8 2)) hplace
  have hrg : t.regs = u.regs := by rw [hfr]
  refine ⟨t, congrArg _ ht, hres, hheld, ?_, ?_, ?_, ?_, ?_, ?_, ?_⟩
  · exact (State.fld_of_regs hrg _ _).trans hsafe
  · exact (State.fld_of_regs hrg _ _).trans hrsv
  · exact (State.fld_of_regs hrg _ _).trans hpend
  · exact (State.fld_of_regs hrg _ _).trans hdisp
  · rw [hfr]
    simp [Mc.rebuilding]
  · exact hregs.trans (.of_regs hrg)
  · rw [hfr, hrest]

theorem slotTableSwap_activates {s : State} {g : Nat} {x : Nat × Nat} (h : SMap.get (fun _ => none) s.mc.shadow g = some x) :
    ∃ t, exec (.slotTableSwap g) s = .next t ∧ SMap.get (fun _ => (0, 0)) t.mc.active g = x ∧ SMap.get (fun _ => none) t.mc.shadow g = none ∧
      t.fld F.MC_SLOT_CFG_PENDING g = 0 ∧ SMap.get (fun _ => []) t.mc.slotWait g = [] ∧
      SameRegsBut [Reg.MC_SLOT_CFG g] s t ∧ t = { s with regs := t.regs, cp := t.cp, mc := t.mc } := by
  rw [exec, execSlotTableSwap, h]
  refine ⟨_, rfl, ?_⟩
  rw [foldl_cp_rest State.releaseOp_rest]
  refine ⟨?_, ?_, ?_, ?_, ?_, ?_⟩
  · simp
  · simp
  · exact State.fld_setFld_of_lt (w := 1) _ g (by decide) (by decide)
  · simp
  · exact ((SameRegsBut.of_regs rfl).trans (.setFld _ F.MC_SLOT_CFG_PENDING 0 g (by simp [Reg.MC_SLOT_CFG, Fld.addr, F.MC_SLOT_CFG_PENDING]))).trans (.of_regs rfl)
  · apply State.eq_of_parts <;> simp

theorem slotTablesSwapAfterTheRebuild : Rules.SlotTablesSwapAfterTheRebuild := by
  refine ⟨fun s k p h _ hs hr hiso => slotSet_rebuilds h hs hr hiso, fun s k p h hiso => ?_, fun s g x _ h => slotTableSwap_activates h,
    fun s k p h => ⟨fun h0 => ?_, fun h1 => ?_, fun h2 => ?_⟩⟩
  · rw [exec, execSlotSet, h]
    dsimp only
    rw [if_pos hiso]
  · rw [exec, execMemQuery, h]
    simp only [h0]
  · rw [exec, execMemQuery, h]
    simp only [h1]
  · rw [exec, execMemQuery, h]
    simp only [h2]

/-- Settles O13: the counts of a table go with its place, entry by entry, as `spread_step` says. -/
theorem slotTablesAreRebuilt : Obligations.SlotTablesAreRebuilt :=
  ⟨slotTablesSwapAfterTheRebuild, slotTableHasItsCounts⟩

end Sys2Proof.Machine
end

section
/-! PROOFS. Mirrors (13 R559-R563). -/

namespace Sys2Proof.Machine

/-! The copy of a range (R560): its cells move by one distance, one after another. -/

theorem SMap.get_of_notKey {α : Type} (d : Nat → α) {l : List (Nat × α)} {k : Nat} (h : ∀ e ∈ l, e.1 ≠ k) : SMap.get d l k = d k := by
  induction l with
  | nil => rfl
  | cons e t ih => rw [SMap.get, if_neg (h e (by simp))]; exact ih fun x hx => h x (List.mem_cons_of_mem _ hx)

/-- What a key reads as after the entries of `l` were stored, moved by `f`: the entry that moves to it, or what stood there. -/
theorem SMap.get_foldl_moved {α : Type} [DecidableEq α] (d : Nat → α) (f : Nat → Nat) {l : List (Nat × α)} (hl : l.Pairwise (fun a b => a.1 < b.1))
    (j : Nat) (hf : ∀ e ∈ l, f e.1 = f j → e.1 = j) (m : List (Nat × α)) :
    SMap.get d (l.foldl (fun m c => SMap.set d m (f c.1) c.2) m) (f j) = SMap.get (fun _ => SMap.get d m (f j)) l j := by
  induction l generalizing m with
  | nil => rfl
  | cons c t ih =>
    have ht := List.pairwise_cons.mp hl
    rw [List.foldl_cons, ih ht.2 (fun e he => hf e (List.mem_cons_of_mem _ he)), SMap.get]
    by_cases hc : c.1 = j
    · rw [if_pos hc, SMap.get_of_notKey _ (fun e he => by have := ht.1 e he; omega), ← hc, SMap.get_set_same]
    · rw [if_neg hc, SMap.get_set_ne _ _ _ (fun h => hc (hf c (by simp) h.symm))]

theorem SMap.get_foldl_moved_ne {α : Type} [DecidableEq α] (d : Nat → α) (f : Nat → Nat) {l : List (Nat × α)} {k : Nat} (h : ∀ e ∈ l, f e.1 ≠ k)
    (m : List (Nat × α)) : SMap.get d (l.foldl (fun m c => SMap.set d m (f c.1) c.2) m) k = SMap.get d m k := by
  induction l generalizing m with
  | nil => rfl
  | cons c t ih =>
    rw [List.foldl_cons, ih (fun e he => h e (List.mem_cons_of_mem _ he)), SMap.get_set_ne _ _ _ (Ne.symm (h c (by simp)))]

/-- The cells of a range. -/
def cellsIn (m : List Host.Cell) (src n : Nat) : List Host.Cell := m.filter (fun c => decide (src ≤ c.1) && decide (c.1 < src + n))

theorem mem_cellsIn {m : List Host.Cell} {src n : Nat} {c : Host.Cell} (h : c ∈ cellsIn m src n) : src ≤ c.1 ∧ c.1 < src + n := by
  simpa [cellsIn] using (List.mem_filter.mp h).2

theorem State.byte_copyWords (s : State) (src dst n b : Nat) :
    (s.copyWords src dst n).byte b = SMap.get (fun _ => 0)
      ((cellsIn s.mem src n).foldl (fun m c => SMap.set (fun _ => 0) m (c.1 - src + dst) c.2) (SMap.clear s.mem dst (dst + n))) b := rfl

theorem mirrorCopyEqualsItsPrimary : Rules.MirrorCopyEqualsItsPrimary := by
  intro s src dst n _ _ _ _ _ hs
  have hsorted : (cellsIn s.mem src n).Pairwise (fun a b => a.1 < b.1) := ((SMap.wf_iff _ _).mp hs.1).1.filter _
  refine ⟨fun i hi => ?_, fun a ha => ?_⟩
  · have hmove := SMap.get_foldl_moved (fun _ => (0 : Byte)) (fun a => a - src + dst) hsorted (src + i)
      (fun e he h => by have := mem_cellsIn he; omega) (SMap.clear s.mem dst (dst + n))
    have hto : src + i - src + dst = dst + i := by omega
    rw [hto, SMap.get_clear, if_pos (by omega)] at hmove
    rw [State.byte_copyWords, hmove, cellsIn, SMap.get_filter _ (fun a => decide (src ≤ a) && decide (a < src + n)),
      if_pos (by simp; omega)]
    rfl
  · rw [State.byte_copyWords, SMap.get_foldl_moved_ne _ (fun a => a - src + dst) (fun e he => by have := mem_cellsIn he; omega),
      SMap.get_clear, if_neg (by omega)]
    rfl

/-! MIRROR_SET, MIRROR_COPY_DONE, MIRROR_RELEASE_DONE. -/

theorem mirrorsEstablishCopyAndRelease : Rules.MirrorsEstablishCopyAndRelease := by
  refine ⟨?_, ?_, ?_, ?_⟩
  · intro s k p prim size sec h h1 _ _ hlo hhi hfit hgroup hlist hnone hink
    rw [exec, execMirrorSet, h]
    dsimp only
    rw [if_neg (by omega), if_neg (by omega), if_neg (Nat.not_lt.mpr hfit), if_neg hgroup, if_neg (by simp [hlist]),
      if_neg (by simp only [hnone]; rw [hink]; decide)]
    rfl
  · intro s k p x h h1 hx
    rw [exec, execMirrorSet, h]
    dsimp only
    rw [if_pos h1, hx]
  · intro s m x hx hst hrel
    rw [exec, execMirrorCopyDone, hx]
    dsimp only
    rw [if_pos ⟨hst, by rw [hrel]; rfl⟩]
  · intro s m x hx hrel
    rw [exec, execMirrorReleaseDone, hx]
    dsimp only
    rw [if_pos hrel]

/-- Settles O14: every cell of the primary moves by one distance, so no two meet, and the secondary was cleared before. -/
theorem mirrorsCopyTheirPrimary : Obligations.MirrorsCopyTheirPrimary :=
  ⟨mirrorsEstablishCopyAndRelease, mirrorCopyEqualsItsPrimary⟩

end Sys2Proof.Machine
end

section
/-! PROOFS. SCRUB (13 R534, R535; 02 R57, R58). -/

namespace Sys2Proof.Machine

/-! Wiping a range (R535). -/

theorem State.wipe_unmirrored {s : State} (h : s.mirrorList = []) (lo hi ink : Nat) :
    s.wipe lo hi ink = { s with
      mem := SMap.clear s.mem lo hi
      mc := { s.mc with
        inks := RunMap.setRange s.mc.inks (wordNo lo) (wordNo hi) ink
        poison := SMap.clear s.mc.poison (wordNo lo) (wordNo hi)
        damage := SMap.clear s.mc.damage (wordNo lo) (wordNo hi)
        writeback := s.mc.writeback.filter (fun a => decide (a < lo) || decide (hi ≤ a)) } } := by
  rw [State.wipe, h]
  rfl

/-- What a wiped range of whole words holds. -/
theorem State.wipe_inside {s : State} (hs : s.Canonical) (hm : s.mirrorList = []) {lo hi a : Nat} (ink : Nat) (hlo : lo % 32 = 0) (hhi : hi % 32 = 0)
    (h1 : lo ≤ a) (h2 : a < hi) :
    (s.wipe lo hi ink).byte a = 0 ∧ (s.wipe lo hi ink).inkAt a = ink ∧ (s.wipe lo hi ink).poisonAt a = false ∧ (s.wipe lo hi ink).damageAt a = [] := by
  have hw : wordNo lo ≤ wordNo a ∧ wordNo a < wordNo hi := by simp only [wordNo]; omega
  rw [State.wipe_unmirrored hm]
  refine ⟨?_, ?_, ?_, ?_⟩
  · exact (SMap.get_clear _ _ _ _ _).trans (if_pos ⟨h1, h2⟩)
  · exact (RunMap.get_setRange _ _ _ _ _ hs.2.2).trans (if_pos hw)
  · exact (SMap.get_clear _ _ _ _ _).trans (if_pos hw)
  · exact (SMap.get_clear _ _ _ _ _).trans (if_pos hw)

/-- What stays outside a wiped range of whole words. -/
theorem State.wipe_outside {s : State} (hs : s.Canonical) (hm : s.mirrorList = []) {lo hi a : Nat} (ink : Nat) (hlo : lo % 32 = 0) (hhi : hi % 32 = 0)
    (h : a < lo ∨ hi ≤ a) :
    (s.wipe lo hi ink).byte a = s.byte a ∧ (s.wipe lo hi ink).inkAt a = s.inkAt a ∧ (s.wipe lo hi ink).poisonAt a = s.poisonAt a := by
  have hw : ¬ (wordNo lo ≤ wordNo a ∧ wordNo a < wordNo hi) := by simp only [wordNo]; omega
  rw [State.wipe_unmirrored hm]
  refine ⟨?_, ?_, ?_⟩
  · exact (SMap.get_clear _ _ _ _ _).trans (if_neg (by omega))
  · exact (RunMap.get_setRange _ _ _ _ _ hs.2.2).trans (if_neg hw)
  · exact (SMap.get_clear _ _ _ _ _).trans (if_neg hw)

/-! SCRUB. -/

/-- A scrub's range that is in DRAM, without mirrors, all channels running and all side words sound. -/
structure State.ScrubFree (s : State) (lo pages : Nat) : Prop where
  nonempty : pages ≠ 0
  low : dramBase ≤ lo
  high : lo + 4096 * pages ≤ dramBase + s.usable
  unmirrored : s.mirrorList = []
  running : s.scrubStop lo (lo + 4096 * pages) = lo + 4096 * pages
  sound : s.sideBadIn lo (lo + 4096 * pages) = none

/-- Such a scrub turns on the inks of its range alone. -/
theorem State.ScrubFree.exec {s : State} {k : Nat} {p : Started} (hf : s.ScrubFree (p.p64 0) (p.p32 8)) (h : s.opAt k 0x2400 = some p)
    (h0 : p.progress = 0) :
    exec (.scrub k none) s =
      if RunMap.allIn s.mc.inks (wordNo (p.p64 0)) (wordNo (p.p64 0 + 4096 * p.p32 8)) (fun old => scrubAllowed p.ring old (p.p8 12)) then
        .next (s.scrubOn k p (p.p64 0) (p.p64 0 + 4096 * p.p32 8))
      else .next (s.endOp k St.noPermission) := by
  obtain ⟨hpages, hlo, hhi, hm, hrun, hside⟩ := hf
  rw [Machine.exec, execScrub, h]
  dsimp only
  rw [if_neg (by omega), if_neg hpages, if_neg (by omega), if_neg (by simp [hm]), if_neg (by omega), hside]

theorem State.scrubOn_done {s : State} {k : Nat} {p : Started} (hf : s.ScrubFree (p.p64 0) (p.p32 8)) :
    s.scrubOn k p (p.p64 0) (p.p64 0 + 4096 * p.p32 8) =
      (s.wipe (p.p64 0) (p.p64 0 + 4096 * p.p32 8) (p.p8 12)).endOp k St.ok (p.p32 8) := by
  rw [State.scrubOn, hf.running]
  rw [if_neg (by omega), if_pos (by omega)]

theorem scrubGivesZeroDataAndTheNewInk : Rules.ScrubGivesZeroDataAndTheNewInk := by
  refine ⟨?_, ?_⟩
  · intro s k p lo hi hs h h0 hpages hal hlo hhi hm hrun hside hink
    have hf : s.ScrubFree (p.p64 0) (p.p32 8) := ⟨hpages, hlo, hhi, hm, hrun, hside⟩
    have hlo32 : lo % 32 = 0 := by omega
    have hhi32 : hi % 32 = 0 := by omega
    have hplace : (s.wipe lo hi (p.p8 12)).place k = some p := by
      rw [State.wipe_unmirrored hm]
      exact State.place_of_opAt h
    refine ⟨_, (hf.exec h h0).trans ((if_pos hink).trans (congrArg _ (State.scrubOn_done hf))), State.result_endOp _ _ _ _ _ _ _ hplace, ?_, ?_, ?_⟩
    · intro a h1 h2
      obtain ⟨hb, hi', hp, hd⟩ := s.wipe_inside hs hm (p.p8 12) hlo32 hhi32 h1 h2
      simp only [State.byte_of_endOp, State.inkAt, State.poisonAt, State.damageAt, State.endOp_mc] at *
      exact ⟨hb, hi', hp, hd⟩
    · intro a ha
      obtain ⟨hb, hi', hp⟩ := s.wipe_outside hs hm (p.p8 12) hlo32 hhi32 ha
      simp only [State.byte_of_endOp, State.inkAt, State.poisonAt, State.endOp_mc] at *
      exact ⟨hb, hi', hp⟩
    · rw [State.endOp_rest, State.wipe_unmirrored hm]
  · intro s k p lo hi h h0 hpages hlo hhi hm hrun hside hink
    have hf : s.ScrubFree (p.p64 0) (p.p32 8) := ⟨hpages, hlo, hhi, hm, hrun, hside⟩
    exact (hf.exec h h0).trans (if_neg (by rw [hink]; decide))

theorem scrubIssuersFollowTheInkTable : Rules.ScrubIssuersFollowTheInkTable := by
  intro old new hold hnew
  have htable : ∀ o < 8, ∀ n < 8, scrubAllowed .med o n = decide (o ≠ 1 ∧ o ≠ 3 ∧ n ≠ 1) := by decide
  exact ⟨rfl, htable old hold new hnew, fun n => rfl⟩

/-- Settles O12. -/
theorem scrubFollowsTheInkTable : Obligations.ScrubFollowsTheInkTable :=
  ⟨scrubGivesZeroDataAndTheNewInk, scrubIssuersFollowTheInkTable⟩

end Sys2Proof.Machine
end

section
/-! PROOFS. Memory writes (13 R531, R532; 02 R35; 04 R179). -/

namespace Sys2Proof.Machine

/-! The store of a word or a part of one (R531). -/

theorem pieces_oneWord (fuel : Nat) {a n : Nat} (hn : 0 < n) (h : a % 32 + n ≤ 32) : pieces (fuel + 2) a n = [(a, n)] := by
  rw [pieces, if_neg (by omega)]
  have hk : min n (32 - a % 32) = n := by omega
  dsimp only
  rw [hk, Nat.sub_self, pieces, if_pos rfl]

/-- A write that stays in one word is the store of its word. -/
theorem State.physWrite_oneWord (s : State) (w : Who) {a : Nat} {l : List Byte} (hn : 0 < l.length) (h : a % 32 + l.length ≤ 32) :
    s.physWrite w a l = s.storeWord w a l := by
  rw [State.physWrite, pieces_oneWord _ hn h, State.physWriteGo, List.take_length]
  split
  · rename_i hst
    exact hst.symm
  · rename_i hst
    exact hst.symm

/-- A store that no window and no checkpoint area takes, and whose checks pass, leaves what the store of its word leaves. -/
theorem State.memStore_oneWord {s t u : State} {r : Req} {a : Nat} {data : List Byte} {noise : List (Nat × Byte)} {act : Option RowAct}
    (hb : s.bound r = true) (hw : s.inWindows a = false) (hc : ¬ (r.who = .s ∧ inCheckpoint a = true)) (hn : 0 < data.length)
    (h : a % 32 + data.length ≤ 32) (ht : t = s.meet r a noise act) (hu : t.storeWord r.who a data = (none, u)) :
    s.memStore r a data noise act = u.flushPlate.answer .done := by
  rw [State.memStore, if_neg (by rw [hb]; decide), if_neg (by rw [hw]; decide), if_neg hc]
  dsimp only
  rw [← ht, State.physWrite_oneWord _ _ hn h, hu]

theorem exec_memoryWrite_fresh {s : State} {gen : Nat} {r : Req} (h : s.stale r gen = false) (addr : Nat) (data : List Byte) (act : Option RowAct) :
    exec (.memoryWrite false gen r addr data act) s = .next (s.memStore r (addr / 32 * 32) data [] act) := by
  rw [exec, execMemoryWrite, if_neg (by rw [h]; decide), Bool.false_and, if_neg Bool.false_ne_true]

theorem exec_partialWrite_fresh {s : State} {gen : Nat} {r : Req} (h : s.stale r gen = false) (a : Nat) (data : List Byte) (noise : List (Nat × Byte))
    (act : Option RowAct) : exec (.partialWrite false gen r a data noise act) s = .next (s.memStore r a data noise act) := by
  rw [exec, execPartialWrite, if_neg (by rw [h]; decide), Bool.false_and, if_neg Bool.false_ne_true]

theorem State.storeWord_whole {s : State} {w : Who} {a : Nat} {data : List Byte} (ha : a % 32 = 0) (hl : data.length = 32) (hr : s.region a = .dram)
    (hf : s.physFault w a true true = none) : s.storeWord w a data = (none, s.storeDram a 0 data) := by
  rw [State.storeWord]
  dsimp only
  rw [hl, decide_eq_true rfl, hf]
  dsimp only
  rw [if_pos hr, if_pos rfl, show a / 32 * 32 = a by omega]

theorem State.storeWord_part {s : State} {w : Who} {a : Nat} {data : List Byte} (hl : data.length ≠ 32) (hr : s.region a = .dram)
    (hf : s.physFault w a true false = none) : s.storeWord w a data = (none, (s.noteRead (a / 32 * 32)).storeDram (a / 32 * 32) 0
      ((s.dramBytes (a / 32 * 32) 0 32).take (a % 32) ++ data ++ (s.dramBytes (a / 32 * 32) 0 32).drop (a % 32 + data.length))) := by
  rw [State.storeWord]
  dsimp only
  rw [decide_eq_false hl, hf]
  dsimp only
  rw [if_pos hr, if_neg hl]

theorem State.storeWord_safetySram {s : State} {a : Nat} (data : List Byte) (hr : s.region a = .safetySram) :
    s.storeWord .s a data = (none, s.putBytes a data) := by
  have hf : ∀ whole, s.physFault .s a true whole = none := fun whole => by rw [State.physFault, hr]; rfl
  rw [State.storeWord]
  dsimp only
  rw [hf]
  dsimp only
  rw [hr, if_neg (by decide), if_neg (by decide), if_neg (by rintro ⟨h, -⟩; exact absurd h (by decide))]

theorem State.meet_of_notDram {s : State} {a : Nat} (h : s.region a ≠ .dram) (r : Req) (noise : List (Nat × Byte)) (act : Option RowAct) :
    s.meet r a noise act = s := by
  rw [State.meet, if_neg (fun hd => h hd.1)]

theorem State.discardWrite_client {s : State} {r : Req} {n : Nat} (h : r.who = .client n) :
    ∃ x, s.discardWrite r = (s.setClient n x).answer .none ∧ x.discarded = min ((s.client n).discarded + 1) 0xFFFFFFFF ∧ x.gen = (s.client n).gen := by
  rw [State.discardWrite, h]
  exact ⟨_, rfl, rfl, rfl⟩

theorem staleWrite_isDiscarded {s : State} {r : Req} {n : Nat} (h : r.who = .client n) :
    ∃ t, s.discardWrite r = t ∧ t = { s with cl := t.cl, resp := .none } ∧
      (t.client n).discarded = min ((s.client n).discarded + 1) 0xFFFFFFFF ∧ (t.client n).gen = (s.client n).gen ∧
      ∀ m, m ≠ n → t.client m = s.client m := by
  obtain ⟨x, hx, hd, hg⟩ := State.discardWrite_client (s := s) h
  have hc : ((s.setClient n x).answer .none).client n = x := SMap.get_set_same _ _ _ _
  refine ⟨_, hx, rfl, ?_, ?_, fun m hm => SMap.get_set_ne _ _ _ hm⟩
  · rw [hc, hd]
  · rw [hc, hg]

theorem memoryWritesStoreTheirBytes : Rules.MemoryWritesStoreTheirBytes := by
  refine ⟨?_, ?_, ?_, ?_, ?_⟩
  · intro s0 s gen r addr data act a hst hb hw hc hs hl hr hf
    have ha : a % 32 = 0 := Nat.mul_mod_left _ _
    rw [exec_memoryWrite_fresh hst, State.memStore_oneWord hb hw hc (by omega) (by omega) hs (State.storeWord_whole ha hl hr hf)]
  · intro s0 s gen r a data noise act base old hst hb hw hc hs hn hin hl hr hf
    rw [exec_partialWrite_fresh hst, State.memStore_oneWord hb hw hc hn hin hs (State.storeWord_part hl hr hf)]
  · intro s gen r a data act hwho hr hcp hn hin
    have hst : s.stale r gen = false := by rw [State.stale, hwho]
    have hb : s.bound r = true := by rw [State.bound, hwho]
    have hw : s.inWindows a = false := by rw [State.inWindows, hr]; rfl
    have hm := State.meet_of_notDram (s := s) (a := a) (by rw [hr]; decide) r [] act
    rw [exec_partialWrite_fresh hst, State.memStore_oneWord hb hw (by rw [hcp]; simp) hn hin hm.symm
      (by rw [hwho]; exact State.storeWord_safetySram data hr)]
  · intro s gen r a data noise act hwho hrun hroom
    have hst : s.stale r gen = false := by rw [State.stale, hwho]
    rw [exec, execPartialWrite, if_neg (by rw [hst]; decide), hwho, if_pos (by decide), State.hold, if_neg (by rw [hrun]; decide),
      if_neg (by rw [commitRoom]; omega)]
  · intro s buffered gen n r a data noise act hwho h0 hgen
    have hst : s.stale r gen = true := by
      rw [State.stale, hwho]
      simp [h0, hgen]
    obtain ⟨t, ht, hrest⟩ := staleWrite_isDiscarded (s := s) hwho
    refine ⟨t, ?_, ?_, hrest⟩
    · rw [exec, execMemoryWrite, if_pos hst, ht]
    · rw [exec, execPartialWrite, if_pos hst, ht]

theorem State.inks_storeDram (s : State) (a0 off : Nat) (l : List Byte) : (s.storeDram a0 off l).mc.inks = s.mc.inks := by
  rw [State.storeDram_rest]

theorem State.poisonAt_storeDram {s : State} {a0 : Nat} (h : s.copyOf a0 = none) (off : Nat) (l : List Byte) (b : Nat) :
    (s.storeDram a0 off l).poisonAt b = if b / 32 = s.served a0 / 32 then false else s.poisonAt b := by
  have hp : (s.storeDram a0 off l).mc.poison = SMap.set (fun _ => false) s.mc.poison (wordNo (s.served a0)) false := by rw [s.storeDram_one a0 off l h]
  rw [State.poisonAt, hp, SMap.get_set]
  rfl

theorem State.damageAt_storeDram {s : State} {a0 : Nat} (h : s.copyOf a0 = none) (off : Nat) (l : List Byte) (b : Nat) :
    (s.storeDram a0 off l).damageAt b = if b / 32 = s.served a0 / 32 then [] else s.damageAt b := by
  have hd : (s.storeDram a0 off l).mc.damage = SMap.set (fun _ => []) s.mc.damage (wordNo (s.served a0)) [] := by rw [s.storeDram_one a0 off l h]
  rw [State.damageAt, hd, SMap.get_set]
  rfl

theorem State.byte_storeDram {s : State} {a0 : Nat} (h : s.copyOf a0 = none) (l : List Byte) (b : Nat) :
    (s.storeDram a0 0 l).byte b = (s.putBytes (s.served a0) l).byte b := by
  have hm : (s.storeDram a0 0 l).mem = (s.putBytes (s.served a0) l).mem := by rw [s.storeDram_one a0 0 l h, Nat.add_zero]
  rw [State.byte, State.byte, hm]

theorem storeChangesItsWordAlone : Rules.StoreChangesItsWordAlone := by
  intro s a data hcopy hl hal t
  refine ⟨fun i hi h' => ?_, fun b hb => ?_, ?_, ?_, fun b hb => ⟨?_, ?_⟩, ?_, s.storeDram_rest a 0 data⟩
  · exact (State.byte_storeDram hcopy data _).trans (s.byte_putBytes_in _ data h')
  · exact (State.byte_storeDram hcopy data _).trans (s.byte_putBytes_ne data (by omega))
  · exact (State.poisonAt_storeDram hcopy 0 data _).trans (if_pos rfl)
  · exact (State.damageAt_storeDram hcopy 0 data _).trans (if_pos rfl)
  · exact (State.poisonAt_storeDram hcopy 0 data _).trans (if_neg hb)
  · exact (State.damageAt_storeDram hcopy 0 data _).trans (if_neg hb)
  · exact s.inks_storeDram a 0 data

/-- Settles O9. -/
theorem writesStoreTheirBytesAlone : Obligations.WritesStoreTheirBytesAlone :=
  ⟨memoryWritesStoreTheirBytes, storeChangesItsWordAlone⟩

end Sys2Proof.Machine
end

section
/-! PROOFS. Rows, refresh, the patrol, poisoned words and the code (13 R525-R548). -/

namespace Sys2Proof.Machine

/-! The code on one damaged symbol (R525): multiplication by α has an inverse, and no symbol comes back to itself within 35 multiplications. -/

theorem gfAlpha_eq_iterate (n a : Nat) : gfAlpha n a = gfDouble^[n] a := by
  induction n generalizing a with
  | zero => rfl
  | succ n ih => exact ih (gfDouble a)

/-- Division by α. -/
def gfHalve (b : Nat) : Nat := if b % 2 = 0 then b / 2 else (b ^^^ 0x11D) / 2

theorem gfHalve_gfDouble : Function.LeftInverse gfHalve gfDouble := by
  intro a
  unfold gfDouble gfHalve
  by_cases h : 2 * a < 256
  · rw [if_pos h, if_pos (by omega)]
    omega
  · have hodd : (2 * a ^^^ 0x11D) % 2 = 1 := Nat.xor_mod_two_eq_one.mpr (by omega)
    rw [if_neg h, if_neg (by omega), Nat.xor_assoc, Nat.xor_self, Nat.xor_zero]
    omega

theorem gfDouble_injective : Function.Injective gfDouble := gfHalve_gfDouble.injective

theorem not_mem_iterate_gfDouble : ∀ e < 256, e ≠ 0 → e ∉ List.iterate gfDouble (gfDouble e) 35 := by decide +kernel

/-- Up to 35 multiplications tell apart: the exponent of a damaged symbol is the only one. -/
theorem gfAlpha_inj {e j k : Nat} (he : e < 256) (h0 : e ≠ 0) (hk : k ≤ 35) (hjk : j < k) : gfAlpha j e ≠ gfAlpha k e := by
  intro h
  rw [gfAlpha_eq_iterate, gfAlpha_eq_iterate, show k = j + (k - j - 1 + 1) by omega, Function.iterate_add_apply, Function.iterate_succ_apply] at h
  exact not_mem_iterate_gfDouble e he h0 (List.mem_iterate.mpr ⟨k - j - 1, by omega, gfDouble_injective.iterate j h⟩)

theorem locate_oneSymbol {e k : Nat} (he : e < 256) (h0 : e ≠ 0) (hk : k ≤ 35) : locate e (gfAlpha k e) (gfAlpha (2 * k) e) = some k := by
  have htwice : gfAlpha k (gfAlpha k e) = gfAlpha (2 * k) e := by
    simp only [gfAlpha_eq_iterate, ← Function.iterate_add_apply, Nat.two_mul]
  rw [locate, List.find?_range_eq_some]
  refine ⟨by simp [htwice], by simp; omega, fun j hj => ?_⟩
  simp [gfAlpha_inj he h0 hk hj]

theorem syndrome_oneSymbol (j i : Nat) (e : Byte) : syndrome j [(i, e)] = gfAlpha (j * (35 - i)) e.toNat := by
  simp [syndrome]

theorem codeMendsOneDamagedSymbol : Rules.CodeMendsOneDamagedSymbol := by
  refine ⟨by decide, fun i e hi he => ?_⟩
  have h0 : e.toNat ≠ 0 := fun h => he (BitVec.eq_of_toNat_eq h)
  have hloc := locate_oneSymbol e.isLt h0 (show 35 - i ≤ 35 by omega)
  have hleft : addErr [(i, e)] i e = [] := by simp [addErr, SMap.get, SMap.set, SMap.del]
  rw [decodeWord]
  simp only [syndrome_oneSymbol, Nat.zero_mul, Nat.one_mul, gfAlpha, hloc, h0, false_and, if_false,
    show 35 - (35 - i) = i by omega, BitVec.ofNat_toNat, BitVec.setWidth_eq, hleft]
  rfl

/-! Rows, ages and refresh (R538, R544-R548). -/

/-- The batches that channel `c` is ahead of its refresh. -/
def State.setAhead (s : State) (c n : Nat) : State := { s with mc := { s.mc with ahead := SMap.set (fun _ => 0) s.mc.ahead c n } }

theorem State.setAhead_regs (s : State) (c n : Nat) : (s.setAhead c n).regs = s.regs := by
  rw [State.setAhead]

theorem State.get_setAhead (s : State) (c n : Nat) : SMap.get (fun _ => 0) (s.setAhead c n).mc.ahead c = n := SMap.get_set_same _ _ _ _

/-- Work on the registers alone, then on the batches ahead. -/
theorem State.setAhead_rest {s u : State} (h : u = { s with regs := u.regs }) (c n : Nat) :
    u.setAhead c n = { s with regs := (u.setAhead c n).regs, mc := { s.mc with ahead := (u.setAhead c n).mc.ahead } } := by
  rw [h]
  rfl

theorem exec_refreshBatch_idle {s : State} {c : Nat} (hst : s.fld F.MC_CH_STAT_STATE c < 2) (hq : (s.mcQueue c).isEmpty = true) :
    exec (.refreshBatch c) s = .next ((s.setFld F.MC_CH_STAT_OWED 0 c).setAhead c (min 8 (SMap.get (fun _ => 0) s.mc.ahead c + 1))) := by
  rw [exec, execRefreshBatch]
  dsimp only
  rw [if_neg (by omega), if_pos hq, State.setAhead]

theorem refreshBatch_idle {s : State} {c : Nat} (hst : s.fld F.MC_CH_STAT_STATE c < 2) (hq : (s.mcQueue c).isEmpty = true) :
    ∃ t, exec (.refreshBatch c) s = .next t ∧ t.fld F.MC_CH_STAT_OWED c = 0 ∧
      SMap.get (fun _ => 0) t.mc.ahead c = min 8 (SMap.get (fun _ => 0) s.mc.ahead c + 1) ∧
      SameRegsBut [Reg.MC_CH_STAT c] s t ∧ t = { s with regs := t.regs, mc := { s.mc with ahead := t.mc.ahead } } := by
  have hregs : SameRegsBut [Reg.MC_CH_STAT c] s (s.setFld F.MC_CH_STAT_OWED 0 c) := .setFld s _ 0 c (by simp [Reg.MC_CH_STAT, Fld.addr, F.MC_CH_STAT_OWED])
  refine ⟨_, exec_refreshBatch_idle hst hq, ?_, State.get_setAhead _ _ _, hregs.trans (.of_regs (State.setAhead_regs _ _ _)), State.setAhead_rest ?_ _ _⟩
  · rw [State.fld_of_regs (State.setAhead_regs _ _ _)]
    exact State.fld_setFld_of_lt (w := 4) s c (by decide) (by decide)
  · apply State.eq_of_parts <;> simp

theorem refreshBatch_owes {s : State} {c : Nat} (hst : s.fld F.MC_CH_STAT_STATE c < 2) (hq : (s.mcQueue c).isEmpty = false)
    (ha : SMap.get (fun _ => 0) s.mc.ahead c = 0) (hr : s.fld F.MC_CH_STAT_REFRESH c = 0) (ho : s.fld F.MC_CH_STAT_OWED c < 8) :
    ∃ t, exec (.refreshBatch c) s = .next t ∧ t.fld F.MC_CH_STAT_OWED c = s.fld F.MC_CH_STAT_OWED c + 1 ∧
      SameRegsBut [Reg.MC_CH_STAT c] s t ∧ t = { s with regs := t.regs } := by
  rw [exec, execRefreshBatch]
  dsimp only
  rw [if_neg (by omega), if_neg (by rw [hq]; decide), if_neg (by omega), if_neg (by omega)]
  refine ⟨_, rfl, State.fld_setFld_of_lt (w := 4) s c (by decide) (by omega),
    .setFld s _ _ c (by simp [Reg.MC_CH_STAT, Fld.addr, F.MC_CH_STAT_OWED]), ?_⟩
  apply State.eq_of_parts <;> simp

/-- `MC_CH_STAT[c]` after a poll that reads the refresh indication `ind`. -/
def State.polled (s : State) (c ind : Nat) : State :=
  if 0 < ind then (s.setFld F.MC_CH_STAT_REFRESH ind c).setFld F.MC_CH_STAT_OWED 0 c else s.setFld F.MC_CH_STAT_REFRESH ind c

theorem State.polled_fields (s : State) (c : Nat) {ind : Nat} (h : ind < 4) :
    (s.polled c ind).fld F.MC_CH_STAT_REFRESH c = ind ∧ (0 < ind → (s.polled c ind).fld F.MC_CH_STAT_OWED c = 0) ∧
    (ind = 0 → (s.polled c ind).fld F.MC_CH_STAT_OWED c = s.fld F.MC_CH_STAT_OWED c) := by
  have hset : (s.setFld F.MC_CH_STAT_REFRESH ind c).fld F.MC_CH_STAT_REFRESH c = ind :=
    State.fld_setFld_of_lt (w := 2) s c (by decide) (by omega)
  unfold State.polled
  by_cases h0 : 0 < ind
  · rw [if_pos h0]
    refine ⟨?_, fun _ => State.fld_setFld_of_lt (w := 4) _ c (by decide) (by decide), by omega⟩
    simp (disch := decide) only [State.fld_setFld_apart]
    exact hset
  · rw [if_neg h0]
    refine ⟨hset, fun h => absurd h h0, fun _ => ?_⟩
    simp (disch := decide) only [State.fld_setFld_apart]

theorem SameRegsBut.polled (s : State) (c ind : Nat) : SameRegsBut [Reg.MC_CH_STAT c] s (s.polled c ind) := by
  unfold State.polled
  have h : Reg.MC_CH_STAT c ∈ [Reg.MC_CH_STAT c] := by simp
  split
  · exact (SameRegsBut.setFld s F.MC_CH_STAT_REFRESH ind c h).trans (.setFld _ F.MC_CH_STAT_OWED 0 c h)
  · exact .setFld s F.MC_CH_STAT_REFRESH ind c h

theorem State.polled_rest (s : State) (c ind : Nat) : s.polled c ind = { s with regs := (s.polled c ind).regs } := by
  unfold State.polled
  split
  · apply State.eq_of_parts <;> simp
  · apply State.eq_of_parts <;> simp

theorem exec_mr4Poll (s : State) (c ind : Nat) :
    exec (.mr4Poll c ind) s =
      .next (if s.fld F.MC_CH_STAT_REFRESH c ≠ ind ∨ ind = 3 then (s.polled c ind).raise 53 else s.polled c ind) := by
  rw [exec, execMr4Poll, State.polled]

theorem mr4Poll_updates (s : State) (c : Nat) {ind : Nat} (h : ind < 4) :
    ∃ t, exec (.mr4Poll c ind) s = .next t ∧ t.fld F.MC_CH_STAT_REFRESH c = ind ∧ (0 < ind → t.fld F.MC_CH_STAT_OWED c = 0) ∧
      (ind = 0 → t.fld F.MC_CH_STAT_OWED c = s.fld F.MC_CH_STAT_OWED c) ∧
      t.isPend 53 = (s.isPend 53 || decide (s.fld F.MC_CH_STAT_REFRESH c ≠ ind) || decide (ind = 3)) ∧
      SamePendBut [53] s t ∧ SameRegsBut [Reg.MC_CH_STAT c] s t ∧ t = { s with regs := t.regs, wld := t.wld } := by
  obtain ⟨href, howed, hkept⟩ := s.polled_fields c h
  have hregs := SameRegsBut.polled s c ind
  have hrest := s.polled_rest c ind
  rw [exec_mr4Poll]
  generalize s.polled c ind = u at *
  have hwld : u.wld = s.wld := by rw [hrest]
  have hpend : ∀ n, u.isPend n = s.isPend n := fun n => by simp only [State.isPend, hwld]
  by_cases hc : s.fld F.MC_CH_STAT_REFRESH c ≠ ind ∨ ind = 3
  · rw [if_pos hc]
    have hor : (s.isPend 53 || decide (s.fld F.MC_CH_STAT_REFRESH c ≠ ind) || decide (ind = 3)) = true := by
      rcases hc with h1 | h1 <;> simp [h1]
    refine ⟨_, rfl, (State.fld_of_regs (State.raise_regs _ _) _ _).trans href, fun h => (State.fld_of_regs (State.raise_regs _ _) _ _).trans (howed h),
      fun h => (State.fld_of_regs (State.raise_regs _ _) _ _).trans (hkept h), ?_,
      (SamePendBut.of_wld hwld).trans (.raise _ _ (by simp)), hregs.trans (.of_regs (State.raise_regs _ _)), ?_⟩
    · rw [hor]
      exact State.isPend_raise_same _ _ (by decide)
    · rw [hrest]
      apply State.eq_of_parts <;> simp
  · rw [if_neg hc]
    rw [not_or, not_not] at hc
    refine ⟨_, rfl, href, howed, hkept, ?_, .of_wld hwld, hregs, ?_⟩
    · simp [hpend, hc]
    · rw [hrest]

theorem rowsAgesAndRefreshFollowTheirRules : Rules.RowsAgesAndRefreshFollowTheirRules := by
  refine ⟨fun s => rfl, fun s c i q up limit hq hp hpass => ?_, fun s c hst hq => refreshBatch_idle hst hq,
    fun s c hst hq ha hr ho => refreshBatch_owes hst hq ha hr ho, fun s c ind h => mr4Poll_updates s c h⟩
  rw [exec, execRequestAgePromotion, hq]
  dsimp only
  rw [hp]
  dsimp only
  rw [if_pos hpass]

/-! The patrol, the writeback and poisoned words (R526, R527). -/

theorem State.rewriteDecoded_rest (s : State) (a : Nat) :
    s.rewriteDecoded a = { s with mem := (s.rewriteDecoded a).mem, mc := { s.mc with
      inks := (s.rewriteDecoded a).mc.inks, poison := (s.rewriteDecoded a).mc.poison, damage := (s.rewriteDecoded a).mc.damage, writeback := (s.rewriteDecoded a).mc.writeback } } := by
  unfold State.rewriteDecoded
  dsimp only
  rw [State.storeDram_rest]

theorem State.mem_writeback_rewriteDecoded {s : State} {a b : Nat} (h : b ∈ (s.rewriteDecoded a).mc.writeback) : b ∈ s.mc.writeback := by
  unfold State.rewriteDecoded at h
  dsimp only at h
  unfold State.storeDram at h
  split at h
  · exact (List.mem_filter.mp (List.mem_filter.mp h).1).1
  · exact (List.mem_filter.mp h).1

theorem patrolAndWritebackMendMemory : Rules.PatrolAndWritebackMendMemory := by
  refine ⟨?_, ?_, ?_⟩
  · intro s a ha hmem
    have hword : a / 32 * 32 = a := by omega
    have hold := fun b => State.mem_writeback_rewriteDecoded (s := s) (a := a) (b := b)
    have hrest := s.rewriteDecoded_rest a
    rw [exec, execCorrectionWriteback]
    dsimp only
    rw [hword, if_pos (by simpa using hmem)]
    generalize s.rewriteDecoded a = u at *
    refine ⟨_, rfl, by simp, fun b _ hb => hold b (List.mem_filter.mp hb).1, ?_⟩
    rw [hrest]
  · intro s0 s a noise left copy ha hr hst hs hd
    have hword : a / 32 * 32 = a := by omega
    rw [exec, execPatrolRead]
    dsimp only
    rw [hword, if_pos ⟨hr, hst⟩, ← hs, hd]
  · intro s0 s a noise d left copy ha hr hst hs hd hne
    have hword : a / 32 * 32 = a := by omega
    rw [exec, execPatrolRead]
    dsimp only
    rw [hword, if_pos ⟨hr, hst⟩, ← hs, hd]
    cases d with
    | clean => rfl
    | corrected sym => rfl
    | uncorrectable => exact absurd rfl hne

theorem State.served_unmirrored {s : State} (h : s.mirrorList = []) (a : Nat) : s.served a = a := by
  rw [State.served, State.mirrorOf, h]
  rfl

theorem State.copyOf_unmirrored {s : State} (h : s.mirrorList = []) (a : Nat) : s.copyOf a = none := by
  rw [State.copyOf, State.mirrorOf, h]
  rfl

theorem poisonedWordHoldsZeroAndItsInk : Rules.PoisonedWordHoldsZeroAndItsInk := by
  intro s a ink hs ha hm t
  have hcopy := State.copyOf_unmirrored hm a
  have hserved := State.served_unmirrored hm a
  have hword : ∀ b, wordNo a ≤ wordNo b ∧ wordNo b < wordNo a + 1 ↔ b / 32 = a / 32 := fun b => by simp only [wordNo]; omega
  have hbyte : ∀ b, t.byte b = (s.putBytes a (List.replicate 32 0)).byte b := fun b => by
    rw [← hserved]
    exact (State.byte_storeDram hcopy _ b)
  have hink : ∀ b, t.inkAt b = if b / 32 = a / 32 then ink else s.inkAt b := fun b => by
    refine (RunMap.get_setRange _ _ _ _ _ (hs.storeDram a 0 _).2.2).trans ?_
    rw [State.inks_storeDram]
    simp only [hword, State.inkAt]
  have hpoison : ∀ b, t.poisonAt b = if b / 32 = a / 32 then true else s.poisonAt b := fun b => by
    have hset : t.mc.poison = SMap.set (fun _ => false) (s.storeDram a 0 (List.replicate 32 0)).mc.poison (wordNo a) true := rfl
    rw [State.poisonAt, hset, SMap.get_set]
    have hst := State.poisonAt_storeDram hcopy 0 (List.replicate 32 0) b
    rw [hserved] at hst
    by_cases hb : b / 32 = a / 32
    · rw [if_pos hb]
      exact if_pos hb
    · rw [if_neg hb] at hst ⊢
      exact (if_neg hb).trans hst
  have hdamage := State.damageAt_storeDram hcopy 0 (List.replicate 32 0) a
  rw [hserved, if_pos rfl] at hdamage
  refine ⟨fun i hi => ?_, (hpoison a).trans (if_pos rfl), (hink a).trans (if_pos rfl), hdamage, fun b hb => ?_,
    fun b hb => ⟨(hpoison b).trans (if_neg hb), (hink b).trans (if_neg hb)⟩⟩
  · rw [hbyte, State.byte_putBytes_in _ _ _ (by simpa using hi), List.getElem_replicate]
  · rw [hbyte, State.byte_putBytes_ne _ _ (by simpa using hb)]

/-- Settles O10: the code's clause rests on `gfAlpha_inj`, that the exponents of the 36 symbols tell one damaged symbol apart. -/
theorem memoryAgesIsPatrolledAndMended : Obligations.MemoryAgesIsPatrolledAndMended :=
  ⟨rowsAgesAndRefreshFollowTheirRules, patrolAndWritebackMendMemory, poisonedWordHoldsZeroAndItsInk, codeMendsOneDamagedSymbol⟩

end Sys2Proof.Machine
end

section
/-! PROOFS. The engine arbiter (12). -/

namespace Sys2Proof.Machine

/-! The order of the pending queues (R504). -/

theorem Request.before_iff (a b : Request) :
    a.before b = true ↔ a.rank < b.rank ∨ a.rank = b.rank ∧ (a.taken = true ∧ b.taken = false ∨ a.taken = b.taken ∧ a.seq < b.seq) := by
  unfold Request.before
  by_cases hr : a.rank = b.rank
  · by_cases ht : a.taken = b.taken
    · simp [hr, ht]
    · cases ha : a.taken <;> cases hb : b.taken <;> simp_all
  · simp [hr]

theorem Request.before_trans {a b c : Request} (h : a.before b = true) (g : b.before c = true) : a.before c = true := by
  rw [Request.before_iff] at *
  rcases h with h | ⟨hr, h⟩ <;> rcases g with g | ⟨gr, g⟩
  · exact .inl (by omega)
  · exact .inl (by omega)
  · exact .inl (by omega)
  · refine .inr ⟨hr.trans gr, ?_⟩
    rcases h with ⟨h1, h2⟩ | ⟨h1, h2⟩ <;> rcases g with ⟨g1, g2⟩ | ⟨g1, g2⟩
    · exact .inl ⟨h1, g2⟩
    · exact .inl ⟨h1, g1 ▸ h2⟩
    · exact .inl ⟨h1.trans g1, g2⟩
    · exact .inr ⟨h1.trans g1, h2.trans g2⟩

theorem Request.not_before_self (a : Request) : ¬ a.before a = true := by
  rw [Request.before_iff]
  simp

theorem insertRequest_perm (x : Request) (q : List Request) : (insertRequest x q).Perm (x :: q) := by
  induction q with
  | nil => exact .refl _
  | cons y t ih =>
    rw [insertRequest]
    split
    · exact .refl _
    · exact (ih.cons y).trans (.swap x y t)

theorem queuesKeepTheirOrder : Rules.QueuesKeepTheirOrder := by
  refine fun x q hq => ⟨?_, insertRequest_perm x q⟩
  induction q with
  | nil => simp [insertRequest]
  | cons y t ih =>
    obtain ⟨hy, ht⟩ := List.pairwise_cons.mp hq
    rw [insertRequest]
    by_cases hb : x.before y = true
    · rw [if_pos hb]
      refine List.pairwise_cons.mpr ⟨fun z hz hzx => ?_, hq⟩
      rcases List.mem_cons.mp hz with rfl | hz
      · exact Request.not_before_self x (Request.before_trans hb hzx)
      · exact hy z hz (Request.before_trans hzx hb)
    · rw [if_neg hb]
      refine List.pairwise_cons.mpr ⟨fun z hz => ?_, ih ht⟩
      rcases List.mem_cons.mp ((insertRequest_perm x t).mem_iff.mp hz) with rfl | hz
      · exact hb
      · exact hy z hz

/-! ARBITER_REQUEST, TAKE_AWAY_STOP, ARBITER_RELEASE, LOCK_OVERRUN (R501-R517). -/

/-- Unit `u` overran its lock: `ARB_OVERRUN` of its pool counts and shows it. -/
def State.overrun (s : State) (u pool : Nat) (g : Grant) : State :=
  (((s.setGrant u (some { g with overran := true })).satInc F.ARB_OVERRUN_COUNT pool).setFld F.ARB_OVERRUN_VALID 1 pool).raise (304 + pool)

theorem State.grant_of_arb {s t : State} (h : t.arb = s.arb) (u : Nat) : t.grant u = s.grant u := by
  simp only [State.grant, h]

theorem poolOf_lt (u : Nat) : poolOf u < 4 := by
  unfold poolOf
  split_ifs <;> decide

theorem lockOverrun_isShown {s : State} {u : Nat} {g : Grant} (hg : s.grant u = some g) (hl : g.locked = true) (ho : g.overran = false)
    (hp : s.passed g.since (s.lockMaxNs (poolOf u)) = true) :
    ∃ t, exec (.lockOverrun u) s = .next t ∧ t.grant u = some { g with overran := true } ∧ t.flag F.ARB_OVERRUN_VALID (poolOf u) = true ∧
      t.isPend (304 + poolOf u) = true ∧ SamePendBut [304 + poolOf u] s t ∧ SameRegsBut [Reg.ARB_OVERRUN (poolOf u)] s t ∧
      (∀ v, v ≠ u → t.grant v = s.grant v) ∧
      t = { s with regs := t.regs, wld := { s.wld with pend := t.wld.pend }, arb := { s.arb with units := t.arb.units } } := by
  have hlt := poolOf_lt u
  have hexec : exec (.lockOverrun u) s = .next (s.overrun u (poolOf u) g) := by
    rw [exec, execLockOverrun, hg]
    dsimp only
    rw [if_neg (by simp [hl, ho, hp])]
    rfl
  have hgrant : ∀ v, (s.overrun u (poolOf u) g).grant v = (s.setGrant u (some { g with overran := true })).grant v :=
    State.grant_of_arb (by simp [State.overrun])
  have hreg : Reg.ARB_OVERRUN (poolOf u) ∈ [Reg.ARB_OVERRUN (poolOf u)] := by simp
  refine ⟨_, hexec, (hgrant u).trans (State.grant_setGrant _ _ _), ?_, State.isPend_raise_same _ _ (by omega), ?_, ?_,
    fun v hv => (hgrant v).trans (State.grant_setGrant_ne _ _ hv), ?_⟩
  · rw [State.overrun, State.flag_of_raise, State.flag_setFld_one _ _ (by decide)]
  · exact (SamePendBut.of_wld (by simp)).trans (.raise _ _ (by simp))
  · exact ((SameRegsBut.of_regs rfl).trans ((SameRegsBut.satInc _ F.ARB_OVERRUN_COUNT _ _ hreg).trans (.setFld _ F.ARB_OVERRUN_VALID 1 _ hreg))).trans
      (.of_regs (State.raise_regs _ _))
  · rw [State.overrun]
    apply State.eq_of_parts <;> simp [State.raise, State.setGrant]

/-- How often a requester has been taken away from before. -/
def State.takesOf (s : State) : Requester → Nat
  | .packet k => ((s.place k).map (·.restarts)).getD 0
  | .task _ _ => 0

theorem arbiterGrantsTakesAndReleases : Rules.ArbiterGrantsTakesAndReleases := by
  refine ⟨?_, ?_, ?_, ?_, fun s u g _ hg hl ho hp => lockOverrun_isShown hg hl ho hp⟩
  · intro s q pool lockNs hmay hwait
    have hgo : ¬ ((!s.mayRequest q pool) = true ∨ (s.queue pool ++ s.outside pool).any (fun x => x.holder == q) = true) := by
      rw [hmay, hwait]
      decide
    refine ⟨fun u g hh hl => ?_, fun hh hl => ?_, fun hh hl => ?_⟩
    · rw [exec, execArbiterRequest]
      dsimp only
      rw [if_neg hgo, hh, if_pos (by exact hl)]
    · rw [exec, execArbiterRequest]
      dsimp only
      rw [if_neg hgo, hh, if_neg (by decide), if_pos hl]
    · let x : Request := ⟨q, s.rankOf q, (s.lockAsked q pool lockNs).1, s.takesOf q, false, s.arb.seq⟩
      refine ⟨x, rfl, rfl, rfl, rfl, rfl, ?_⟩
      rw [exec, execArbiterRequest]
      dsimp only
      rw [if_neg hgo, hh, if_neg (by decide), if_neg (by rw [hl]; decide)]
      rfl
  · intro s u g hg hstop
    rw [exec, execTakeAwayStop, hg]
    dsimp only
    rw [if_neg (by rw [hstop]; decide)]
  · intro s u r id g hg hh
    rw [exec, execArbiterRelease, hg]
    dsimp only
    rw [hh, if_pos rfl]
  · intro s u k g p hg hh hpl hres
    rw [exec, execArbiterRelease, hg]
    dsimp only
    simp only [hh, hpl]
    rw [if_pos (Option.isSome_iff_ne_none.mpr hres)]

/-- Settles O34: a queue stays ordered since `Request.before` is transitive and no request is before itself. -/
theorem arbiterKeepsOrderAndGrants : Obligations.ArbiterKeepsOrderAndGrants :=
  ⟨arbiterGrantsTakesAndReleases, queuesKeepTheirOrder⟩

end Sys2Proof.Machine
end

section
/-! PROOFS. Check-unit runs (14). -/

namespace Sys2Proof.Machine

/-! Check values (R569). -/

theorem reverseBits_lt (w v : Nat) : reverseBits w v < 2 ^ w := by
  induction w generalizing v with
  | zero => simp [reverseBits]
  | succ w ih =>
    have h1 := ih (v / 2)
    have h2 : v % 2 ≤ 1 := by omega
    have h3 : v % 2 * 2 ^ w ≤ 2 ^ w := by simpa using Nat.mul_le_mul_right (2 ^ w) h2
    rw [reverseBits, Nat.pow_succ]
    omega

theorem testBit_reverseBits (w v i : Nat) : (reverseBits w v).testBit i = (decide (i < w) && v.testBit (w - 1 - i)) := by
  induction w generalizing v with
  | zero => simp [reverseBits]
  | succ w ih =>
    rw [reverseBits, Nat.mul_comm, Nat.testBit_two_pow_mul_add _ (reverseBits_lt w _)]
    by_cases hi : i < w
    · rw [if_pos hi, ih, Nat.testBit_div_two]
      simp [hi, show i < w + 1 by omega, show w - 1 - i + 1 = w - i by omega]
    · rw [if_neg hi]
      by_cases he : i = w
      · subst he
        simp [Nat.testBit_zero]
      · have h1 : i - w = (i - w - 1) + 1 := by omega
        rw [h1, Nat.testBit_succ, show v % 2 / 2 = 0 by omega]
        simp [show ¬ i < w + 1 by omega]

theorem reverseBits_reverseBits {w v : Nat} (h : v < 2 ^ w) : reverseBits w (reverseBits w v) = v := by
  refine Nat.eq_of_testBit_eq fun i => ?_
  rw [testBit_reverseBits, testBit_reverseBits]
  by_cases hi : i < w
  · simp [hi, show w - 1 - i < w by omega, show w - 1 - (w - 1 - i) = i by omega]
  · have hv : v < 2 ^ i := Nat.lt_of_lt_of_le h (Nat.pow_le_pow_right (by decide) (by omega))
    simp [hi, Nat.testBit_lt_two_pow hv]

theorem HallModel.read_bytes (m : HallModel) {v : Nat} (h : v < 2 ^ m.w) : m.read (m.bytes v) = v := by
  have hk : v < 256 ^ m.k := by
    refine Nat.lt_of_lt_of_le h ?_
    rw [show (256 : Nat) = 2 ^ 8 by decide, ← Nat.pow_mul, HallModel.k]
    exact Nat.pow_le_pow_right (by decide) (by omega)
  have hle : leAt (leBytes m.k v) 0 m.k = v := by
    simpa using leAt_leBytes_zero m.k v [] hk
  unfold HallModel.read HallModel.bytes
  cases m.big
  · simp [hle, Nat.mod_eq_of_lt h]
  · simp [hle, Nat.mod_eq_of_lt h]

theorem HallModel.length_bytes (m : HallModel) (v : Nat) : (m.bytes v).length = m.k := by
  unfold HallModel.bytes
  cases m.big
  · exact length_leBytes _ _
  · exact List.length_reverse.trans (length_leBytes _ _)

theorem checkValuesComposeAndReverse : Rules.CheckValuesComposeAndReverse :=
  ⟨fun _ _ _ _ => List.foldl_append, fun w v h => ⟨reverseBits_reverseBits h, reverseBits_lt w v⟩,
    fun m v _ _ h => ⟨m.length_bytes v, m.read_bytes h⟩⟩

/-! HALL_RUN and HALL_QUERY. -/

theorem hallmarkRunsEndWithTheirValue : Rules.HallmarkRunsEndWithTheirValue := by
  refine ⟨?_, ?_, ?_⟩
  · intro s s1 k u p r m h hu hmode hin
    rw [exec, execHallRun, h, hu]
    dsimp only
    rw [hmode, if_neg (by omega), if_pos (.inl rfl), if_neg (by decide), hin]
    rfl
  · intro s k u p m h hu hmode hshort
    rw [exec, execHallRun, h, hu]
    dsimp only
    rw [if_pos ⟨hmode, hshort⟩]
  · intro s k p h
    rw [exec, execHallQuery, h]

/-- Settles O35. -/
theorem hallmarkRunsAndComposes : Obligations.HallmarkRunsAndComposes :=
  ⟨hallmarkRunsEndWithTheirValue, checkValuesComposeAndReverse⟩

end Sys2Proof.Machine
end

section
/-! PROOFS. The graver's drawing operations (08). -/

namespace Sys2Proof.Machine

/-! A FILL with an empty rectangle that was taken away once: it reports the restart, which the statement leaves out. -/

/-- A FILL of the S-world whose rectangle is empty, restarted once. -/
def emptyFill : Started :=
  { ring := .s, restarts := 1, progress := 0, result := none, held := false
    pkt := { opcode := 0x1400, entries := 1, flags := 0, client := 0, gen := 0, tag := 0, waitAddr := 0, waitValue := 0, sigAddr := 0, sigValue := 0
             params := [], index := 0 } }

/-- The reset state with `emptyFill` in place 0, holding engine 0. -/
def emptyFillState : State :=
  { State.reset with
    cp := { Cp.reset with places := [(0, some emptyFill)] }
    arb := { Arb.reset with units := [(0, some ⟨.packet 0, 0, false, false, 0, 0, 0, false, false⟩)] } }

theorem emptyFillState_runs : emptyFillState.opAt 0 0x1400 = some emptyFill ∧ emptyFillState.holdsIn (.packet 0) 0 = some 0 := by decide +kernel

theorem exec_fill_emptyFillState : exec (.fill 0) emptyFillState = .next (emptyFillState.endOpFree 0 St.ok 0 1 0 1) := by
  obtain ⟨hop, hu⟩ := emptyFillState_runs
  rw [exec, execFill, State.graverRun, hop]
  dsimp only
  rw [hu]
  rfl

/-- What the empty FILL reports of its restarts. -/
theorem emptyFillState_result : (emptyFillState.endOpFree 0 St.ok 0 1 0 0).result 0 = some ⟨St.ok, 0, 1, 0, 0⟩ ∧
    (emptyFillState.endOpFree 0 St.ok 0 1 0 1).result 0 = some ⟨St.ok, 0, 1, 0, 1⟩ := by decide +kernel

/-- Refutes O33: an empty FILL that is not in place and was taken away once ends with RESULT3 1, its restarts, and not 0. -/
theorem not_graverDrawsAndKeepsItsContexts : ¬ Obligations.GraverDrawsAndKeepsItsContexts := by
  intro h
  obtain ⟨hop, hu⟩ := emptyFillState_runs
  have hclaim := (h.1 .fill 0x1400 (by simp [drawOps]) emptyFillState 0 0 emptyFill hop hu).1 (by decide)
  rw [exec_fill_emptyFillState] at hclaim
  have hres := congrArg (fun o : Host.Outcome State Fault Refusal => match o with | .next t => t.result 0 | _ => none) hclaim
  dsimp only at hres
  rw [emptyFillState_result.1, emptyFillState_result.2] at hres
  exact absurd hres (by decide)

end Sys2Proof.Machine
end

section
/-! PROOFS. Proof checks and takeovers (07). -/

namespace Sys2Proof.Machine

/-! A checked window line (R325). -/

theorem State.plate_of_mem {s t : State} (h : t.mem = s.mem) (off k : Nat) : t.plate off k = s.plate off k := by
  simp only [State.plate, State.plateBytes, State.bytesAt, State.byte, h]

theorem State.checkCrc_congr {s t : State} {n : Nat} (hm : t.mem = s.mem) (harea : t.fld F.PROOF_CTRL_AREA n = s.fld F.PROOF_CTRL_AREA n)
    (hbank : t.fld F.PROOF_STAT_BANK n = s.fld F.PROOF_STAT_BANK n) (hphase : t.fld F.ETCH_BLINK_STAT_PHASE n = s.fld F.ETCH_BLINK_STAT_PHASE n)
    (w line : Nat) : t.checkCrc n w line = s.checkCrc n w line := by
  have hplate : t.plate = s.plate := funext fun off => funext fun k => State.plate_of_mem hm off k
  unfold State.checkCrc State.proofBank State.proofArea
  rw [hplate, harea, hbank, hphase]

/-- `PROOF_CHECKED[n]` counts one more line. -/
def State.countChecked (s : State) (n : Nat) : State := s.setRg (Reg.PROOF_CHECKED n) (s.rg (Reg.PROOF_CHECKED n) + 1)

/-- What a verdict leaves in the Proof state: no forced mismatch, and the CRCs it compared. -/
def State.verdictNoted (s : State) (n crc ref : Nat) : State :=
  { s with prf := { s.prf with forced := SMap.set (fun _ => false) s.prf.forced n false
                               lastCrc := SMap.set (fun _ => (0, 0)) s.prf.lastCrc n (crc, ref) } }

theorem State.checkCrc_countChecked (s : State) (n w line : Nat) : (s.countChecked n).checkCrc n w line = s.checkCrc n w line := by
  unfold State.countChecked
  refine State.checkCrc_congr (by simp) ?_ ?_ ?_ w line
  · exact State.fld_setRg_ne _ _ (by simp only [Fld.addr, F.PROOF_CTRL_AREA, Reg.PROOF_CHECKED]; omega)
  · exact State.fld_setRg_ne _ _ (by simp only [Fld.addr, F.PROOF_STAT_BANK, Reg.PROOF_CHECKED]; omega)
  · exact State.fld_setRg_ne _ _ (by simp only [Fld.addr, F.ETCH_BLINK_STAT_PHASE, Reg.PROOF_CHECKED]; omega)

theorem State.checkCrc_verdictNoted (s : State) (n crc ref w line : Nat) : (s.verdictNoted n crc ref).checkCrc n w line = s.checkCrc n w line :=
  State.checkCrc_congr rfl (State.fld_of_regs rfl _ _) (State.fld_of_regs rfl _ _) (State.fld_of_regs rfl _ _) w line

/-- A verdict on a line that is checked. -/
theorem exec_proofVerdict {s : State} {n w line crc : Nat} (h : s.checks n w line = true) :
    exec (.proofVerdict n w line crc) s =
      let u := (s.countChecked n).verdictNoted n crc ((s.countChecked n).checkCrc n w line)
      if crc ≠ u.checkCrc n w line then .next (u.mismatch n w line)
      else if SMap.get (fun _ => false) s.prf.forced n && !u.spareUsed && u.flag F.PROOF_CTRL_GUARD n then .next (u.startTakeover n line true)
      else .next u := by
  have hprf : (s.countChecked n).prf = s.prf := by simp [State.countChecked]
  rw [exec, execProofVerdict, if_neg (by rw [h]; decide), ← hprf]
  rfl

theorem proofVerdict_matches {s : State} {n w line : Nat} (h : s.checks n w line = true)
    (hforced : SMap.get (fun _ => false) s.prf.forced n = false) :
    ∃ t, exec (.proofVerdict n w line (s.checkCrc n w line)) s = .next t ∧
      t.rg (Reg.PROOF_CHECKED n) = s.rg (Reg.PROOF_CHECKED n) + 1 ∧ SameRegsBut [Reg.PROOF_CHECKED n] s t ∧
      t = { s with regs := t.regs, prf := { s.prf with forced := t.prf.forced, lastCrc := t.prf.lastCrc } } := by
  have hregs : SameRegsBut [Reg.PROOF_CHECKED n] s (s.countChecked n) := .setRg s _ _ (by simp)
  have hrg : (s.countChecked n).rg (Reg.PROOF_CHECKED n) = s.rg (Reg.PROOF_CHECKED n) + 1 := by simp [State.countChecked]
  have hrest : s.countChecked n = { s with regs := (s.countChecked n).regs } := by
    apply State.eq_of_parts <;> simp [State.countChecked]
  rw [exec_proofVerdict h]
  dsimp only
  rw [State.checkCrc_verdictNoted, State.checkCrc_countChecked, if_neg (by simp), hforced, Bool.false_and, Bool.false_and, if_neg (by decide)]
  generalize s.countChecked n = u at *
  refine ⟨_, rfl, hrg, hregs.trans (.of_regs rfl), ?_⟩
  rw [hrest]
  rfl

/-! What a mismatch leaves in the registers (R325). -/

/-- Where no failure is held, a mismatch is latched with its window and its line. -/
theorem State.noteMismatch_first {s : State} {n : Nat} (h : s.flag F.PROOF_FAIL_VALID n = false) (w line : Nat) :
    s.noteMismatch n w line = (((((s.setFld F.PROOF_STAT_MISMATCH 1 n).raise (176 + n)).setFld F.PROOF_FAIL_VALID 1 n).setFld F.PROOF_FAIL_WINDOW w n).setFld
      F.PROOF_FAIL_LINE line n) := by
  have hv : ((s.setFld F.PROOF_STAT_MISMATCH 1 n).raise (176 + n)).flag F.PROOF_FAIL_VALID n = false := by
    rw [State.flag_of_raise]
    simp (disch := decide) only [State.flag_setFld_apart]
    exact h
  unfold State.noteMismatch
  dsimp only
  rw [if_neg (by rw [hv]; decide)]

theorem noteMismatch_latches {s : State} {n w line : Nat} (hn : n < 8) (hw : w < 16) (hl : line < 2 ^ 13) (h : s.flag F.PROOF_FAIL_VALID n = false) :
    (s.noteMismatch n w line).flag F.PROOF_STAT_MISMATCH n = true ∧ (s.noteMismatch n w line).flag F.PROOF_FAIL_VALID n = true ∧
    (s.noteMismatch n w line).fld F.PROOF_FAIL_WINDOW n = w ∧ (s.noteMismatch n w line).fld F.PROOF_FAIL_LINE n = line ∧
    (s.noteMismatch n w line).isPend (176 + n) = true ∧ SameRegsBut [Reg.PROOF_STAT n, Reg.PROOF_FAIL n] s (s.noteMismatch n w line) := by
  rw [State.noteMismatch_first h]
  have hstat : Reg.PROOF_STAT n ∈ [Reg.PROOF_STAT n, Reg.PROOF_FAIL n] := by simp
  have hfail : Reg.PROOF_FAIL n ∈ [Reg.PROOF_STAT n, Reg.PROOF_FAIL n] := by simp
  refine ⟨?_, ?_, ?_, ?_, ?_, ?_⟩
  · simp (disch := decide) only [State.flag_setFld_apart, State.flag_of_raise]
    exact State.flag_setFld_one _ _ (by decide)
  · simp (disch := decide) only [State.flag_setFld_apart]
    exact State.flag_setFld_one _ _ (by decide)
  · simp (disch := decide) only [State.fld_setFld_apart]
    exact State.fld_setFld_of_lt (w := 4) _ n (by decide) (by omega)
  · exact State.fld_setFld_of_lt (w := 13) _ n (by decide) hl
  · simp only [State.isPend_of_setFld]
    exact State.isPend_raise_same _ _ (by omega)
  · exact ((((SameRegsBut.setFld s F.PROOF_STAT_MISMATCH 1 n hstat).trans (.of_regs (State.raise_regs _ _))).trans
      (.setFld _ F.PROOF_FAIL_VALID 1 n hfail)).trans (.setFld _ F.PROOF_FAIL_WINDOW w n hfail)).trans (.setFld _ F.PROOF_FAIL_LINE line n hfail)

theorem mismatchTakesOverOrIsASecondFault : Rules.MismatchTakesOverOrIsASecondFault := by
  refine ⟨fun s n w line crc h hne => ?_, fun s n w line => ⟨fun hg => ?_, fun hg hs => ?_, fun hg hs hk => ?_⟩,
    fun s n w line hn hw hl h => noteMismatch_latches hn hw hl h⟩
  · rw [exec_proofVerdict h]
    exact if_pos hne
  · unfold State.mismatch
    dsimp only
    rw [if_pos (by rw [hg]; rfl)]
  · unfold State.mismatch
    dsimp only
    rw [if_neg (by rw [hg]; decide), if_pos (by rw [hs]; rfl)]
  · unfold State.mismatch
    dsimp only
    rw [if_neg (by rw [hg]; decide), if_neg (by rw [hs]; decide), if_neg hk]

/-! Passes, the switch to the reserve pipe, the return and the sink's CRC. -/

/-- `PROOF_SINK[n]` after a CRC of the sink for this frame was read. -/
def State.sinkRead (s : State) (n : Nat) : State :=
  (s.setFld F.PROOF_SINK_VALID 1 n).setFld F.PROOF_SINK_LAST_FRAME (s.fld F.DTG_FRAME_COUNT n % 0x10000) n

theorem sinkCrcRead_matches {s : State} {n : Nat} (count : Nat) (crc : List Nat) (hen : s.flag F.PROOF_CTRL_SINK_EN n = true) (hst : (s.out n).stream = true) :
    ∃ t, exec (.sinkCrcRead n (some (count, crc, crc))) s = .next t ∧ t.flag F.PROOF_SINK_VALID n = true ∧
      t.fld F.PROOF_SINK_LAST_FRAME n = s.fld F.DTG_FRAME_COUNT n % 0x10000 ∧ t.fld F.PROOF_SINK_FAILS n = s.fld F.PROOF_SINK_FAILS n ∧
      SameRegsBut [Reg.PROOF_SINK n] s t ∧ t = { s with regs := t.regs } := by
  have hexec : exec (.sinkCrcRead n (some (count, crc, crc))) s = .next (s.sinkRead n) := by
    rw [exec, execSinkCrcRead, if_neg (by simp [hen, hst])]
    exact if_pos rfl
  have hreg : Reg.PROOF_SINK n ∈ [Reg.PROOF_SINK n] := by simp
  refine ⟨_, hexec, ?_, ?_, ?_, ?_, ?_⟩
  · unfold State.sinkRead
    simp (disch := decide) only [State.flag_setFld_apart]
    exact State.flag_setFld_one _ _ (by decide)
  · exact State.fld_setFld_of_lt (w := 16) _ n (by decide) (Nat.mod_lt _ (by decide))
  · unfold State.sinkRead
    simp (disch := decide) only [State.fld_setFld_apart]
  · exact (SameRegsBut.setFld s F.PROOF_SINK_VALID 1 n hreg).trans (.setFld _ F.PROOF_SINK_LAST_FRAME _ n hreg)
  · apply State.eq_of_parts <;> simp [State.sinkRead]

theorem proofChecksAndTakesOver : Rules.ProofChecksAndTakesOver := by
  refine ⟨?_, ?_, fun s n w line _ h hf => proofVerdict_matches h hf, ?_, ?_, fun s n line h => ⟨s.freeBelow 16, ?_⟩,
    fun s n count crc _ hen hst => sinkCrcRead_matches count crc hen hst⟩
  · intro s n rest hq hst
    rw [exec, execProofPassStart, hq]
    dsimp only
    rw [if_neg (by omega)]
  · intro s n rest hq hrun
    rw [exec, execProofPassEnd, hq]
    dsimp only
    rw [if_neg (by rw [hrun]; decide)]
  · intro s n line k hk hout
    rw [exec, execTakeoverSwitch, hk]
    dsimp only
    rw [if_neg (by simp [hout])]
  · intro s n h
    rw [exec, execReturnCheckEnd, if_neg (by omega)]
  · rw [exec, execReturnCheckEnd, if_neg (by omega)]

/-- Settles O31: a verdict compares with the CRC that `State.checkCrc` gives before it, as `State.checkCrc_congr` says. -/
theorem proofTakesOverOrFails : Obligations.ProofTakesOverOrFails :=
  ⟨proofChecksAndTakesOver, mismatchTakesOverOrIsASecondFault⟩

end Sys2Proof.Machine
end

section
/-! PROOFS. Etched lists, locks, swaps and blink (06). -/

namespace Sys2Proof.Machine

theorem State.flag_of_regs {s t : State} (h : t.regs = s.regs) (f : Fld) (n : Nat) : t.flag f n = s.flag f n := by
  simp only [State.flag, State.fld_of_regs h]

/-! The plate checker (R288-R291, R297-R299). -/

theorem listsPassTheChecker : Rules.ListsPassTheChecker := by
  refine ⟨?_, fun s k p h => ⟨fun h0 => ?_, fun h0 hc => ?_⟩, ?_, fun s i j x h => ?_⟩
  · intro s k p h hc
    rw [exec, execListLoad, h]
    dsimp only
    rw [if_neg (by rw [hc]; decide)]
  · rw [exec, execListUnload, h]
    dsimp only
    rw [if_pos h0]
  · rw [exec, execListUnload, h]
    dsimp only
    rw [if_neg h0, if_neg (by rw [hc]; decide)]
  · intro s u k rest p others hq hu h
    have hexec : exec .listCheckDone s = .next (u.checkLoad k p) := by
      rw [exec, execListCheckDone, hq]
      dsimp only
      rw [← hu, h]
    rw [hexec]
    unfold State.checkLoad
    dsimp only
    refine ⟨fun hn => ?_, fun r hr => ?_⟩
    · rw [hn]
    · rw [hr]
  · rw [exec, execListRelease, h]

/-! The locked pages (R267). -/

theorem State.lockCount_lockPages (s : State) (pages : List Nat) (up : Bool) (g : Nat) :
    (s.lockPages pages up).lockCount g = if up then s.lockCount g + pages.count g else s.lockCount g - pages.count g := by
  induction pages generalizing s with
  | nil => cases up <;> rfl
  | cons p t ih =>
    rw [State.lockPages, List.foldl_cons, ← State.lockPages, ih]
    have hset : ∀ c, ({ s with etch := { s.etch with locks := SMap.set (fun _ => 0) s.etch.locks p c } } : State).lockCount g =
        if g = p then c else s.lockCount g := fun c => SMap.get_set _ _ _ _ _
    rw [hset, List.count_cons]
    by_cases hg : g = p
    · subst hg
      cases up
      · simp
        omega
      · simp
        omega
    · simp [hg, Ne.symm hg]

theorem lockCountsFollowTheLists : Rules.LockCountsFollowTheLists := by
  intro s pages g
  refine ⟨s.lockCount_lockPages pages true g, s.lockCount_lockPages pages false g, ?_⟩
  rw [State.lockCount_lockPages, State.lockCount_lockPages]
  simp

/-! Swaps (R300-R303). -/

theorem State.armSwap_armed {s : State} {n : Nat} (h : s.flag F.ETCH_OUT_STAT_SWAP_ARMED n = true) (tag : Nat) : s.armSwap n tag = s := by
  rw [State.armSwap, if_pos h]

/-- The register half of arming a swap. -/
theorem State.armSwap_regs {s : State} {n : Nat} (h : s.flag F.ETCH_OUT_STAT_SWAP_ARMED n = false) (tag : Nat) :
    (s.armSwap n tag).regs = (s.setFld F.ETCH_OUT_STAT_SWAP_ARMED 1 n).regs := by
  rw [State.armSwap, if_neg (by rw [h]; decide)]

theorem armSwap_arms {s : State} {n tag : Nat} (h : s.flag F.ETCH_OUT_STAT_SWAP_ARMED n = false) :
    (s.armSwap n tag).flag F.ETCH_OUT_STAT_SWAP_ARMED n = true ∧ SameRegsBut [Reg.ETCH_OUT_STAT n] s (s.armSwap n tag) ∧
    (s.armSwap n tag).armSwap n (tag + 1) = s.armSwap n tag := by
  have harmed : (s.armSwap n tag).flag F.ETCH_OUT_STAT_SWAP_ARMED n = true := by
    rw [State.flag, State.fld_of_regs (State.armSwap_regs h tag), ← State.flag]
    exact State.flag_setFld_one _ _ (by decide)
  have hregs : SameRegsBut [Reg.ETCH_OUT_STAT n] s (s.setFld F.ETCH_OUT_STAT_SWAP_ARMED 1 n) :=
    .setFld s _ _ n (by simp [Reg.ETCH_OUT_STAT, Fld.addr, F.ETCH_OUT_STAT_SWAP_ARMED])
  exact ⟨harmed, hregs.trans (.of_regs (State.armSwap_regs h tag)), State.armSwap_armed harmed _⟩

/-! Blinking (R282-R285). -/

/-- The waiting blink setting of phase `c` on output `n`. -/
def State.putBlinkNext (s : State) (n c : Nat) (b : Blink) : State :=
  { s with etch := { s.etch with blinkNext := SMap.set (fun _ => none) s.etch.blinkNext (4 * n + c) (some b) } }

/-- The waiting blink settings after `BLINK_SET` has gone through the outputs of `l`. -/
theorem foldl_putBlinkNext (c mask : Nat) (b : Blink) (l : List Nat) (s : State) :
    let t := l.foldl (fun u n => if bit mask n then u.putBlinkNext n c b else u) s
    (∀ n, SMap.get (fun _ => none) t.etch.blinkNext (4 * n + c) =
      if n ∈ l ∧ bit mask n = true then some b else SMap.get (fun _ => none) s.etch.blinkNext (4 * n + c)) ∧
    t = { s with etch := { s.etch with blinkNext := t.etch.blinkNext } } := by
  induction l generalizing s with
  | nil => simp
  | cons a t ih =>
    dsimp only at ih ⊢
    rw [List.foldl_cons]
    by_cases ha : bit mask a = true
    · rw [if_pos ha]
      obtain ⟨hget, hrest⟩ := ih (s.putBlinkNext a c b)
      refine ⟨fun n => ?_, ?_⟩
      · rw [hget, State.putBlinkNext]
        dsimp only
        rw [SMap.get_set]
        by_cases hn : n = a
        · subst hn
          simp [ha]
        · simp [hn]
      · rw [hrest]
        rfl
    · rw [if_neg ha]
      obtain ⟨hget, hrest⟩ := ih s
      refine ⟨fun n => ?_, hrest⟩
      rw [hget]
      by_cases hn : n = a
      · subst hn
        simp [ha]
      · simp [hn]

theorem blinkSet_waits {s : State} {k : Nat} {p : Started} (h : s.opAt k 0x0C03 = some p) :
    ∃ t, exec (.blinkSet k) s = .next t ∧ t.result k = some ⟨St.ok, 0, 0, 0, 0⟩ ∧
      (∀ n, n < 8 → SMap.get (fun _ => none) t.etch.blinkNext (4 * n + p.p8 1) =
        if bit (p.p8 0) n then some ⟨p.p16 2, p.p16 4, if p.p64 8 = 0 then s.devTime / 1000000 + 1 else p.p64 8 / 1000000⟩
        else SMap.get (fun _ => none) s.etch.blinkNext (4 * n + p.p8 1)) ∧
      t = { s with cp := t.cp, etch := { s.etch with blinkNext := t.etch.blinkNext } } := by
  have hfold := foldl_putBlinkNext (p.p8 1) (p.p8 0) ⟨p.p16 2, p.p16 4, if p.p64 8 = 0 then s.devTime / 1000000 + 1 else p.p64 8 / 1000000⟩ (List.range 8) s
  dsimp only at hfold
  rw [exec, execBlinkSet, h]
  dsimp only [State.putBlinkNext] at hfold ⊢
  generalize (List.range 8).foldl _ s = u at *
  obtain ⟨hget, hrest⟩ := hfold
  have hplace : u.place k = some p := by
    rw [State.place_of_cp (s := s) (by rw [hrest])]
    exact State.place_of_opAt h
  refine ⟨_, rfl, State.result_endOp _ _ _ _ _ _ _ hplace, fun n hn => ?_, ?_⟩
  · rw [State.endOp_etch, hget]
    simp [hn]
  · rw [State.endOp_rest, hrest]

theorem swapsBlinkAndModesAreDecided : Rules.SwapsBlinkAndModesAreDecided := by
  refine ⟨?_, fun s n tag _ h => armSwap_arms h, fun s k p h _ => blinkSet_waits h, ?_, fun s k p m h hm => ⟨fun h0 => ?_, fun h1 => ?_⟩, ?_, ?_⟩
  · intro s k p h
    rw [exec, execSwap, h]
  · intro s n c hb hp hu
    rw [exec, execBlinkPhaseChange, if_pos (by simp [hb, hp, hu])]
  · rw [exec, execModeDecide, h]
    dsimp only
    rw [hm]
    dsimp only
    rw [if_pos h0]
  · rw [exec, execModeDecide, h]
    dsimp only
    rw [hm]
    dsimp only
    rw [if_neg (by omega)]
  · intro s k p h hm
    rw [exec, execModeDecide, h]
    dsimp only
    rw [hm]
  · intro s k p h
    rw [exec, execEtchQuery, h]
    exact ⟨_, _, rfl, rfl, rfl⟩

/-! The locked plate (R268). -/

/-- `ETCH_WPROT` after the first refused write since its last read. -/
def State.wprotFirst (s : State) (a : Nat) : State := ((s.setFld F.ETCH_WPROT_VALID 1).setFld F.ETCH_WPROT_OFFSET (a - plateBase)).raise 168

/-- The refused writes whose events are still to be written. -/
def State.noteRefused (s : State) (x : Who × Nat) : State := { s with etch := { s.etch with refused := s.etch.refused ++ [x] } }

theorem State.noteRefused_regs (s : State) (x : Who × Nat) : (s.noteRefused x).regs = s.regs := by dsimp only [State.noteRefused]
theorem State.noteRefused_wld (s : State) (x : Who × Nat) : (s.noteRefused x).wld = s.wld := by dsimp only [State.noteRefused]
theorem State.noteRefused_mem (s : State) (x : Who × Nat) : (s.noteRefused x).mem = s.mem := by dsimp only [State.noteRefused]

theorem State.refusePlate_first {s : State} (h : s.flag F.ETCH_WPROT_VALID = false) (w : Who) (a : Nat) :
    s.refusePlate w a = (s.wprotFirst a).noteRefused (w, a - plateBase) := by
  have hfirst : s.firstOrOver F.ETCH_WPROT_VALID F.ETCH_WPROT_OVERFLOW = (true, s.setFld F.ETCH_WPROT_VALID 1) := by
    rw [State.firstOrOver, if_neg (by rw [h]; decide)]
  unfold State.refusePlate State.wprotFirst State.noteRefused
  rw [hfirst]

theorem SameRegsBut.wprotFirst (s : State) (a : Nat) : SameRegsBut [Reg.ETCH_WPROT] s (s.wprotFirst a) := by
  have hvalid : F.ETCH_WPROT_VALID.addr 0 ∈ [Reg.ETCH_WPROT] := by simp [Fld.addr, F.ETCH_WPROT_VALID, Reg.ETCH_WPROT]
  have hoffset : F.ETCH_WPROT_OFFSET.addr 0 ∈ [Reg.ETCH_WPROT] := by simp [Fld.addr, F.ETCH_WPROT_OFFSET, Reg.ETCH_WPROT]
  exact ((SameRegsBut.setFld s F.ETCH_WPROT_VALID 1 0 hvalid).trans (.setFld _ F.ETCH_WPROT_OFFSET _ 0 hoffset)).trans (.of_regs (State.raise_regs _ _))

theorem State.flag_wprotFirst (s : State) (a : Nat) : (s.wprotFirst a).flag F.ETCH_WPROT_VALID = true := by
  unfold State.wprotFirst
  simp (disch := decide) only [State.flag_of_raise, State.flag_setFld_apart]
  exact State.flag_setFld_one _ _ (by decide)

theorem refusePlate_records {s : State} (a : Nat) (h : s.flag F.ETCH_WPROT_VALID = false) :
    SameMemory s (s.refusePlate .s a) ∧ (s.refusePlate .s a).flag F.ETCH_WPROT_VALID = true ∧ (s.refusePlate .s a).isPend 168 = true ∧
      SamePendBut [168] s (s.refusePlate .s a) ∧ SameRegsBut [Reg.ETCH_WPROT] s (s.refusePlate .s a) := by
  have hmem : (s.wprotFirst a).mem = s.mem := by simp [State.wprotFirst]
  have hsame : SamePendBut [168] s (s.wprotFirst a) := (SamePendBut.of_wld (by simp)).trans (.raise _ _ (by simp))
  rw [State.refusePlate_first h]
  refine ⟨fun b => ?_, ?_, ?_, hsame.trans (.of_wld (State.noteRefused_wld _ _)), (SameRegsBut.wprotFirst s a).trans (.of_regs (State.noteRefused_regs _ _))⟩
  · simp only [State.byte, State.noteRefused_mem, hmem]
  · rw [State.flag_of_regs (State.noteRefused_regs _ _), State.flag_wprotFirst]
  · simp only [State.isPend, State.noteRefused_wld]
    exact State.isPend_raise_same _ _ (by decide)

theorem lockedPlateRefusesWrites : Rules.LockedPlateRefusesWrites := by
  refine ⟨fun s a hr hl => ?_, fun s a _ h => refusePlate_records a h, fun s who a hw hr => ?_⟩
  · rw [exec, execPlateLockedWrite, if_neg (by simp [hr]), if_neg (by simp), if_pos hl]
  · rw [exec, execPlateLockedWrite, if_neg (by simp [hr]), if_pos hw]

/-- Settles O29. -/
theorem etchedListsLockAndSwap : Obligations.EtchedListsLockAndSwap :=
  ⟨listsPassTheChecker, lockCountsFollowTheLists, swapsBlinkAndModesAreDecided, lockedPlateRefusesWrites⟩

end Sys2Proof.Machine
end

section
/-! PROOFS. Frame boundaries, vertical starts and apply lines (05 R212, R253-R258). -/

namespace Sys2Proof.Machine

/-! Frame boundaries, vertical starts and apply lines (R212, R253-R258). -/

theorem exec_applyLine (s : State) (n : Nat) (h : s.flag F.DTG_STAT_STRETCH n = false) :
    exec (.applyLine n) s = .next (if s.outputRuns n && !s.appliesAtBoundary n then s.applyAll n false else s) := by
  rw [exec, execApplyLine]
  dsimp only
  rw [h]
  unfold State.outputRuns
  cases s.flag F.DTG_CTRL_ENABLE n <;> cases s.pwr.retained <;> cases s.appliesAtBoundary n <;> rfl

theorem framesCloseCountAndApply : Rules.FramesCloseCountAndApply := by
  refine ⟨fun s n h => ?_, fun s n h => ?_, fun s n h hs => ?_, fun s n h => ⟨?_, ?_, ?_⟩⟩
  · rw [exec, execFrameBoundary, if_neg (by rw [h]; decide)]
  · rw [exec, execVerticalStart, if_neg (by rw [h]; decide)]
  · rw [exec_applyLine s n hs, h]
    cases s.appliesAtBoundary n <;> rfl
  · rw [exec, execFrameBoundary, if_pos (by rw [h]; decide)]
  · rw [exec, execVerticalStart, if_pos (by rw [h]; decide)]
  · have hoff : (!s.flag F.DTG_CTRL_ENABLE n || s.pwr.retained) = true := by
      rw [State.outputRuns, Bool.and_eq_false_iff] at h
      rcases h with h | h <;> simp_all
    rw [exec, execApplyLine, if_pos hoff]

theorem applyTakesEveryArmedSet : Rules.ApplyTakesEveryArmedSet := by
  intro s n b
  refine ⟨fun hl hm => ?_, fun hl hm => ?_⟩
  · rw [State.applyAll]
    dsimp only
    rw [hl, hm, if_pos (by rfl)]
  · rw [State.applyAll]
    dsimp only
    rw [if_neg (by simp [hl]), if_neg (by rw [hm]; decide)]

/-- Settles O26. -/
theorem framesApplyEveryArmedSet : Obligations.FramesApplyEveryArmedSet :=
  ⟨framesCloseCountAndApply, applyTakesEveryArmedSet⟩

end Sys2Proof.Machine
end

section
/-! PROOFS. What an event leaves of a unit that it does not reach. -/

namespace Sys2Proof.Machine

/-! What an event leaves: its access may record a refused access or count a correction, and no register of another unit changes. -/

/-- The registers from `lo` to `hi`, and the state of every unit that no event reaches, are the same. -/
def State.EventKept (lo hi : Nat) (s t : State) : Prop := (∀ a, lo ≤ a → a ≤ hi → t.rg a = s.rg a) ∧
  t = { s with regs := t.regs, mem := t.mem, wld := t.wld, cp := t.cp, cl := t.cl, mc := t.mc, etch := t.etch, fw := t.fw }

/-- No register that an access may change on its way lies from `lo` to `hi`. -/
structure QuietRange (lo hi : Nat) : Prop where
  bus : 0x10000018 < lo
  wprot : 0x10400800 < lo ∨ hi < 0x10400800
  mc : hi < 0x10b00000

theorem QuietRange.of_mc {lo hi b : Nat} (h : QuietRange lo hi) (hb : 0x10b00000 ≤ b) : hi < b := Nat.lt_of_lt_of_le h.mc hb

theorem QuietRange.of_bus {lo hi b : Nat} (h : QuietRange lo hi) (hb : b ≤ 0x10000018) : b < lo := Nat.lt_of_le_of_lt hb h.bus

section
variable {lo hi : Nat}

theorem State.EventKept.refl (s : State) : s.EventKept lo hi s := ⟨fun _ _ _ => Eq.refl _, Eq.refl _⟩

theorem State.EventKept.trans {s t u : State} (h : s.EventKept lo hi t) (g : t.EventKept lo hi u) : s.EventKept lo hi u := by
  refine ⟨fun a h1 h2 => (g.1 a h1 h2).trans (h.1 a h1 h2), g.2.trans ?_⟩
  rw [h.2]

theorem State.EventKept.of_regs {s t : State} (hr : t.regs = s.regs)
    (hrest : t = { s with regs := t.regs, mem := t.mem, wld := t.wld, cp := t.cp, cl := t.cl, mc := t.mc, etch := t.etch, fw := t.fw }) :
    s.EventKept lo hi t := ⟨fun a _ _ => by simp only [State.rg, hr], hrest⟩

theorem State.EventKept.setRg (s : State) {a : Nat} (v : Word) (h : a < lo ∨ hi < a) : s.EventKept lo hi (s.setRg a v) :=
  ⟨fun b h1 h2 => State.rg_setRg_ne _ _ (by omega), by apply State.eq_of_parts <;> simp⟩

/-- A field of another register: each index lies below the range, or all lie above. -/
theorem State.EventKept.setFld (s : State) {f : Fld} (v n : Nat) (h : f.addr n < lo ∨ hi < f.base) : s.EventKept lo hi (s.setFld f v n) :=
  .setRg s _ (by simp only [Fld.addr] at *; omega)

theorem State.EventKept.satInc (s : State) {f : Fld} (n k : Nat) (h : f.addr n < lo ∨ hi < f.base) : s.EventKept lo hi (s.satInc f n k) :=
  .setFld s _ n h

theorem State.EventKept.setFlag (s : State) {f : Fld} (b : Bool) (n : Nat) (h : f.addr n < lo ∨ hi < f.base) :
    s.EventKept lo hi (s.setFlag f b n) := .setFld s _ n h

theorem State.EventKept.raise (s : State) (n : Nat) : s.EventKept lo hi (s.raise n) := .of_regs (State.raise_regs _ _) (by apply State.eq_of_parts <;> simp)

theorem State.EventKept.firstOrOver (s : State) {v o : Fld} (hv : v.addr 0 < lo ∨ hi < v.base)
    (ho : o.addr 0 < lo ∨ hi < o.base) : s.EventKept lo hi (s.firstOrOver v o).2 := by
  unfold State.firstOrOver
  split
  · exact .setFld s _ _ ho
  · exact .setFld s _ _ hv

theorem State.EventKept.storeDram (s : State) (a0 off : Nat) (l : List Byte) : s.EventKept lo hi (s.storeDram a0 off l) := by
  rw [State.storeDram_rest]
  exact .of_regs rfl rfl

theorem State.EventKept.putBytes (s : State) (a : Nat) (l : List Byte) : s.EventKept lo hi (s.putBytes a l) := .of_regs rfl rfl

theorem State.EventKept.noteRefused (s : State) (x : Who × Nat) : s.EventKept lo hi (s.noteRefused x) :=
  .of_regs (State.noteRefused_regs s x) (by dsimp only [State.noteRefused])

theorem State.EventKept.cache (s : State) (w : Who) (va pa : Nat) (write : Bool) : s.EventKept lo hi (s.cache w va pa write) := by
  unfold State.cache
  split
  · split
    · exact .refl s
    · exact .of_regs rfl rfl
  · exact .refl s

theorem State.EventKept.loseEvent (s : State) (r : RingId) (code : Nat) : s.EventKept lo hi (s.loseEvent r code) := .of_regs rfl rfl

theorem State.EventKept.msix (s : State) (c : Nat) : s.EventKept lo hi (s.msix c) := by
  unfold State.msix
  split
  · exact .refl s
  · split
    · exact .of_regs rfl rfl
    · exact .refl s

theorem State.EventKept.noticeEntry (s : State) (r : RingId) (sS sM : Nat) : s.EventKept lo hi (s.noticeEntry r sS sM) := by
  cases r with
  | s => exact .raise s _
  | med => exact .raise s _
  | client c => exact .msix s c

theorem State.EventKept.holdEvent (s : State) (e : HeldEvent) : s.EventKept lo hi (s.holdEvent e) := by
  unfold State.holdEvent
  split
  · exact .loseEvent s _ _
  · exact .of_regs rfl rfl

variable (hq : QuietRange lo hi)
include hq

theorem State.EventKept.countCorrection (s : State) (c sym : Nat) : s.EventKept lo hi (s.countCorrection c sym) := by
  have hcount : s.EventKept lo hi (if sym < 32 then s.satInc F.MC_CE_DATA_DATA c else if sym = 32 then s.satInc F.MC_CE_META_TAG c
      else s.satInc F.MC_CE_META_CHECK c) := by
    split
    · exact .satInc s _ _ (.inr (hq.of_mc (by decide)))
    · split
      · exact .satInc s _ _ (.inr (hq.of_mc (by decide)))
      · exact .satInc s _ _ (.inr (hq.of_mc (by decide)))
  unfold State.countCorrection
  generalize (if sym < 32 then s.satInc F.MC_CE_DATA_DATA c else if sym = 32 then s.satInc F.MC_CE_META_TAG c
      else s.satInc F.MC_CE_META_CHECK c) = u at *
  dsimp only
  split
  · exact hcount.trans (.raise _ _)
  · exact hcount

theorem State.EventKept.noteRead (s : State) (a0 : Nat) : s.EventKept lo hi (s.noteRead a0) := by
  unfold State.noteRead
  dsimp only
  split
  · exact .refl s
  · split
    · exact .refl s
    · exact .refl s
    · exact (State.EventKept.countCorrection hq s _ _).trans (.of_regs rfl rfl)
    · split
      · exact (State.EventKept.satInc s _ _ (.inr (hq.of_mc (by decide)))).trans (.storeDram _ _ _ _)
      · exact .storeDram _ _ _ _

theorem State.EventKept.refusePlate (s : State) (w : Who) (a : Nat) : s.EventKept lo hi (s.refusePlate w a) := by
  have hfirst := State.EventKept.firstOrOver (lo := lo) (hi := hi) s (v := F.ETCH_WPROT_VALID) (o := F.ETCH_WPROT_OVERFLOW) hq.wprot hq.wprot
  unfold State.refusePlate
  generalize s.firstOrOver F.ETCH_WPROT_VALID F.ETCH_WPROT_OVERFLOW = x at *
  obtain ⟨first, u⟩ := x
  cases first
  · exact (hfirst.trans (.raise u 168)).trans (.noteRefused _ _)
  · exact ((hfirst.trans (.setFld u (f := F.ETCH_WPROT_OFFSET) _ 0 hq.wprot)).trans (.raise _ 168)).trans (.noteRefused _ _)

theorem State.EventKept.storeWord (s : State) (w : Who) (a : Nat) (l : List Byte) : s.EventKept lo hi (s.storeWord w a l).2 := by
  unfold State.storeWord
  dsimp only
  split
  · exact .refl s
  · split_ifs
    · exact .storeDram _ _ _ _
    · exact (State.EventKept.noteRead hq s _).trans (.storeDram _ _ _ _)
    · exact .refl s
    · exact .refusePlate hq s w a
    · exact .putBytes s a l

theorem State.EventKept.physWriteGo (w : Who) (ps : List (Nat × Nat)) (l : List Byte) (s : State) : s.EventKept lo hi (State.physWriteGo w ps l s).2 := by
  induction ps generalizing l s with
  | nil => exact .refl s
  | cons p t ih =>
    have hword := State.EventKept.storeWord hq s w p.1 (l.take p.2)
    unfold State.physWriteGo
    split
    · rename_i heq
      rw [heq] at hword
      exact hword
    · rename_i heq
      rw [heq] at hword
      exact hword.trans (ih _ _)

theorem State.EventKept.dmaWriteGo (w : Who) (ps : List (Nat × Nat)) (l : List Byte) (s : State) : s.EventKept lo hi (State.dmaWriteGo w ps l s).2 := by
  induction ps generalizing l s with
  | nil => exact .refl s
  | cons p t ih =>
    unfold State.dmaWriteGo
    split
    · exact .refl s
    · rename_i pa _
      have hwrite : s.EventKept lo hi ((s.cache w p.1 pa true).physWrite w pa (l.take p.2)).2 :=
        (State.EventKept.cache s w p.1 pa true).trans (.physWriteGo hq w _ _ _)
      split
      · rename_i heq
        rw [heq] at hwrite
        exact hwrite
      · rename_i heq
        rw [heq] at hwrite
        exact hwrite.trans (ih _ _)

theorem State.EventKept.of_dmaWrite {s u : State} {w : Who} {va : Nat} {l : List Byte} {f : Option XFault} (h : s.dmaWrite w va l = (f, u)) :
    s.EventKept lo hi u := by
  have hwrite : s.EventKept lo hi (s.dmaWrite w va l).2 := .dmaWriteGo hq w _ l s
  rw [h] at hwrite
  exact hwrite

theorem State.EventKept.recordInk (s : State) (w : Who) (a : Nat) (write : Bool) (stored carried : Nat) :
    s.EventKept lo hi (s.recordInk w a write stored carried) := by
  have hfirst := State.EventKept.firstOrOver (lo := lo) (hi := hi) s (v := F.MC_INKF_VALID)
    (o := F.MC_INKF_OVERFLOW) (.inr (hq.of_mc (by decide))) (.inr (hq.of_mc (by decide)))
  unfold State.recordInk
  generalize s.firstOrOver F.MC_INKF_VALID F.MC_INKF_OVERFLOW = x at *
  obtain ⟨first, u⟩ := x
  cases first
  · exact hfirst
  · exact ((((((((hfirst.trans (.setFld _ _ _ (.inr (hq.of_mc (by decide))))).trans (.setFld _ _ _ (.inr (hq.of_mc (by decide))))).trans
      (.setFlag _ _ _ (.inr (hq.of_mc (by decide))))).trans
      (.setFld _ _ _ (.inr (hq.of_mc (by decide))))).trans (.setFlag _ _ _ (.inr (hq.of_mc (by decide))))).trans
      (.setFld _ _ _ (.inr (hq.of_mc (by decide))))).trans
      (.setFld _ _ _ (.inr (hq.of_mc (by decide))))).trans ((State.EventKept.setRg _ _ (.inr (hq.of_mc (by decide)))).trans
      (.setRg _ _ (.inr (hq.of_mc (by decide)))))).trans (.raise _ _)

theorem State.EventKept.recordBus (s : State) (w : Who) (a : Nat) (write : Bool) (kind : Nat) : s.EventKept lo hi (s.recordBus w a write kind) := by
  have hfirst := State.EventKept.firstOrOver (lo := lo) (hi := hi) s (v := F.DEV_BUSERR_VALID)
    (o := F.DEV_BUSERR_OVERFLOW) (.inl (hq.of_bus (by decide))) (.inl (hq.of_bus (by decide)))
  unfold State.recordBus
  generalize s.firstOrOver F.DEV_BUSERR_VALID F.DEV_BUSERR_OVERFLOW = x at *
  obtain ⟨first, u⟩ := x
  cases first
  · exact hfirst
  · exact (((((((hfirst.trans (.setFld _ _ _ (.inl (hq.of_bus (by decide))))).trans
      (.setFlag _ _ _ (.inl (hq.of_bus (by decide))))).trans (.setFld _ _ _ (.inl (hq.of_bus (by decide))))).trans
      (.setFlag _ _ _ (.inl (hq.of_bus (by decide))))).trans (.setFld _ _ _ (.inl (hq.of_bus (by decide))))).trans
      (.setRg _ _ (.inl (hq.of_bus (by decide))))).trans
      (.setRg _ _ (.inl (hq.of_bus (by decide))))).trans (.raise _ _)

theorem State.EventKept.noteQuiet (s : State) (f : XFault) : s.EventKept lo hi (s.noteQuiet f) := by
  unfold State.noteQuiet
  split
  · exact .recordInk hq s _ _ _ _ _
  · exact .recordBus hq s _ _ _ _
  · exact .refl s

theorem State.EventKept.putEvent (s : State) (r : RingId) (code inst client d0 d1 d2 d3 time : Nat) :
    s.EventKept lo hi (s.putEvent r code inst client d0 d1 d2 d3 time) := by
  unfold State.putEvent
  dsimp only
  split
  · rename_i f u heq
    exact (State.EventKept.of_dmaWrite hq heq).trans ((State.EventKept.noteQuiet hq u f).trans (.loseEvent _ _ _))
  · rename_i u heq
    exact (State.EventKept.of_dmaWrite hq heq).trans ((State.EventKept.of_regs rfl rfl).trans (.noticeEntry _ _ _ _))

theorem State.EventKept.writeEvent (s : State) (e : HeldEvent) : s.EventKept lo hi (s.writeEvent e) := by
  unfold State.writeEvent
  dsimp only
  split_ifs
  · exact .refl s
  · exact .loseEvent s _ _
  · exact .putEvent hq s _ _ _ _ _ _ _ _ _

theorem State.EventKept.event (s : State) (r : RingId) (code inst d0 d1 d2 d3 client : Nat) :
    s.EventKept lo hi (s.event r code inst d0 d1 d2 d3 client) := by
  unfold State.event
  dsimp only
  split_ifs
  · exact .refl s
  · exact .holdEvent s _
  · exact .writeEvent hq s _

theorem State.EventKept.eventSM (s : State) (code inst d0 d1 d2 d3 : Nat) : s.EventKept lo hi (s.eventSM code inst d0 d1 d2 d3) :=
  (State.EventKept.event hq s .s _ _ _ _ _ _ _).trans (.event hq _ .med _ _ _ _ _ _ _)

end

end Sys2Proof.Machine
end

section
/-! PROOFS. Detected faults and the fault operations (17 R636-R670). -/

namespace Sys2Proof.Machine

/-! What recording a fault leaves (R636, R650, R652). -/

theorem State.EventKept.fld {lo hi : Nat} {s t : State} (h : s.EventKept lo hi t) {f : Fld} {n : Nat} (hf : lo ≤ f.addr n ∧ f.addr n ≤ hi) :
    t.fld f n = s.fld f n := by
  rw [State.fld, State.fld, h.1 _ hf.1 hf.2]

theorem State.EventKept.flt {lo hi : Nat} {s t : State} (h : s.EventKept lo hi t) : t.flt = s.flt := by rw [h.2]
theorem State.EventKept.hap {lo hi : Nat} {s t : State} (h : s.EventKept lo hi t) : t.hap = s.hap := by rw [h.2]

/-- The class bit of a fault. -/
def State.noteClass (s : State) (cls : Nat) : State := s.setFld F.DEV_FAULT_STAT_CLASSES (s.fld F.DEV_FAULT_STAT_CLASSES ||| 2 ^ (cls - 1))

/-- The cycle of the first fault. -/
def State.noteFirstAt (s : State) : State := { s with flt := { s.flt with firstAt := s.cyc } }

/-- A fault as the first one: its class, place and time. -/
def State.noteFirst (s : State) (cls inst : Nat) : State :=
  let s := (s.noteFirstAt.setFld F.DEV_FAULT_FIRST_CLASS cls).setFld F.DEV_FAULT_FIRST_INSTANCE inst
  let s := s.setRg Reg.DEV_FAULT_TIME_LO (BitVec.ofNat 32 s.devTime)
  s.setRg Reg.DEV_FAULT_TIME_HI (BitVec.ofNat 32 (s.devTime / 2 ^ 32))

/-- Whether a fault becomes the first one. -/
abbrev State.isFirst (s : State) (cls : Nat) : Prop :=
  s.fld F.DEV_FAULT_FIRST_CLASS = 0 ∨ (s.flt.firstAt = s.cyc ∧ cls < s.fld F.DEV_FAULT_FIRST_CLASS)

/-- `FAULT_N` is asserted and waits to be cleared. -/
def State.assertFaultN (s : State) : State := { s with flt := { s.flt with faultN := true, seen := true } }

/-- The record, the `FAULT` bit and the pin of a fault that asserts `FAULT_N`. -/
def State.faultShown (s : State) (cls inst extra : Nat) : State := ((s.faultRecord cls inst extra).setFld F.DEV_FAULT_STAT_FAULT 1).assertFaultN

/-- The class bit, and the first fault, once a fault of this class was detected. -/
def State.faultNoted (s : State) (cls inst : Nat) : State :=
  (if (s.noteClass cls).isFirst cls then (s.noteClass cls).noteFirst cls inst else s.noteClass cls).raise 387

/-- A fault before its trigger and its event. -/
def State.faultHeld (s : State) (cls inst extra : Nat) : State :=
  if assertsFaultN cls then (s.faultNoted cls inst).faultShown cls inst extra else s.faultNoted cls inst

/-- A fault before its event is written. -/
def State.faultLatched (s : State) (cls inst extra : Nat) : State :=
  if assertsFaultN cls && cls != 14 && !(s.faultHeld cls inst extra).safe then (s.faultHeld cls inst extra).rubTrigger 0b000100
  else s.faultHeld cls inst extra

theorem State.fault_eq (s : State) (cls inst extra : Nat) :
    ∃ seq, s.fault cls inst extra = (s.faultLatched cls inst extra).eventSM 0x3401 inst cls inst seq := ⟨_, rfl⟩

/-! The registers of the first fault. -/

theorem State.noteFirstAt_regs (s : State) : s.noteFirstAt.regs = s.regs := by dsimp only [State.noteFirstAt]
theorem State.noteFirstAt_faultN (s : State) : s.noteFirstAt.flt.faultN = s.flt.faultN := by dsimp only [State.noteFirstAt]

theorem State.noteFirst_first (s : State) {cls inst : Nat} (hc : cls < 16) (hi : inst < 65536) :
    (s.noteFirst cls inst).fld F.DEV_FAULT_FIRST_CLASS = cls ∧ (s.noteFirst cls inst).fld F.DEV_FAULT_FIRST_INSTANCE = inst := by
  unfold State.noteFirst
  dsimp only
  rw [State.fld_setRg_ne _ _ (by decide), State.fld_setRg_ne _ _ (by decide), State.fld_setRg_ne _ _ (by decide), State.fld_setRg_ne _ _ (by decide)]
  refine ⟨?_, ?_⟩
  · simp (disch := decide) only [State.fld_setFld_apart]
    exact State.fld_setFld_of_lt (w := 4) _ 0 (by decide) (by omega)
  · exact State.fld_setFld_of_lt (w := 16) _ 0 (by decide) (by omega)

/-- `DEV_FAULT_STAT` is no register of the first fault. -/
theorem State.rg_stat_noteFirst (s : State) (cls inst : Nat) : (s.noteFirst cls inst).rg Reg.DEV_FAULT_STAT = s.rg Reg.DEV_FAULT_STAT := by
  unfold State.noteFirst
  dsimp only
  rw [State.rg_setRg_ne _ _ (by decide), State.rg_setRg_ne _ _ (by decide), State.rg_setFld_ne _ _ _ (by decide), State.rg_setFld_ne _ _ _ (by decide)]
  simp only [State.rg, State.noteFirstAt_regs]

theorem State.noteFirst_faultN (s : State) (cls inst : Nat) : (s.noteFirst cls inst).flt.faultN = s.flt.faultN := by
  simp [State.noteFirst, State.noteFirstAt_faultN]

/-! The parts that do not touch the fault registers. -/

theorem State.faultRecord_regs (s : State) (cls inst extra : Nat) : (s.faultRecord cls inst extra).regs = s.regs := by
  unfold State.faultRecord
  dsimp only
  split
  · rfl
  · rfl

theorem State.assertFaultN_regs (s : State) : s.assertFaultN.regs = s.regs := by dsimp only [State.assertFaultN]
theorem State.assertFaultN_faultN (s : State) : s.assertFaultN.flt.faultN = true := by dsimp only [State.assertFaultN]

/-- The registers of the detected faults are ones that no access changes on its way. -/
theorem quietRange_faults : QuietRange 0x10000500 0x1000050c := ⟨by decide, by decide, by decide⟩

section
variable {lo hi : Nat} (hm : (F.RUB_MISS_COUNT.addr 0 < lo ∨ hi < F.RUB_MISS_COUNT.base) ∧ (F.RUB_MISS_FIRST.addr 0 < lo ∨ hi < F.RUB_MISS_FIRST.base))
include hm

theorem State.rubMissed_kept (s : State) (sources : Nat) : s.EventKept lo hi (s.rubMissed sources) := by
  unfold State.rubMissed
  dsimp only
  split
  · exact ((State.EventKept.setFld s _ _ hm.2).trans (.satInc _ _ _ hm.1)).trans (.raise _ _)
  · exact (State.EventKept.satInc s _ _ hm.1).trans (.raise _ _)

/-- A Rubbing trigger changes no register but its own, and not the pin. -/
theorem State.rubTrigger_kept (s : State) (sources : Nat) :
    (∀ a, lo ≤ a → a ≤ hi → (s.rubTrigger sources).rg a = s.rg a) ∧ (s.rubTrigger sources).flt.faultN = s.flt.faultN ∧
      (s.rubTrigger sources).hap = s.hap := by
  unfold State.rubTrigger
  split_ifs
  · exact ⟨fun _ _ _ => rfl, rfl, rfl⟩
  · exact ⟨(State.rubMissed_kept hm s sources).1, congrArg Flt.faultN (State.rubMissed_kept hm s sources).flt,
      (State.rubMissed_kept hm s sources).hap⟩
  · exact ⟨fun _ _ _ => rfl, rfl, rfl⟩

/-- A fault leaves the registers of a quiet range, and the pin, as they are before its trigger and its event. -/
theorem State.fault_kept (hq : QuietRange lo hi) (s : State) (cls inst extra : Nat) :
    (∀ a, lo ≤ a → a ≤ hi → (s.fault cls inst extra).rg a = (s.faultHeld cls inst extra).rg a) ∧
      (s.fault cls inst extra).flt.faultN = (s.faultHeld cls inst extra).flt.faultN ∧
      (s.fault cls inst extra).hap = (s.faultHeld cls inst extra).hap := by
  obtain ⟨seq, hseq⟩ := s.fault_eq cls inst extra
  have hevent := State.EventKept.eventSM hq (s.faultLatched cls inst extra) 0x3401 inst cls inst seq 0
  have hlatched : (∀ a, lo ≤ a → a ≤ hi → (s.faultLatched cls inst extra).rg a = (s.faultHeld cls inst extra).rg a) ∧
      (s.faultLatched cls inst extra).flt.faultN = (s.faultHeld cls inst extra).flt.faultN ∧
      (s.faultLatched cls inst extra).hap = (s.faultHeld cls inst extra).hap := by
    unfold State.faultLatched
    split
    · exact State.rubTrigger_kept hm _ _
    · exact ⟨fun _ _ _ => rfl, rfl, rfl⟩
  obtain ⟨hregs, hpin, hhap⟩ := hlatched
  rw [hseq]
  exact ⟨fun a h1 h2 => (hevent.1 a h1 h2).trans (hregs a h1 h2), (congrArg Flt.faultN hevent.flt).trans hpin,
    hevent.hap.trans hhap⟩

end

theorem State.faultRegs_kept (s : State) (cls inst extra : Nat) :
    (∀ a, 0x10000500 ≤ a → a ≤ 0x1000050c → (s.fault cls inst extra).rg a = (s.faultHeld cls inst extra).rg a) ∧
      (s.fault cls inst extra).flt.faultN = (s.faultHeld cls inst extra).flt.faultN ∧
      (s.fault cls inst extra).hap = (s.faultHeld cls inst extra).hap := State.fault_kept (by decide) quietRange_faults s cls inst extra

theorem State.fld_fault (s : State) (cls inst extra : Nat) {f : Fld} (hf : 0x10000500 ≤ f.addr 0 ∧ f.addr 0 ≤ 0x1000050c) :
    (s.fault cls inst extra).fld f = (s.faultHeld cls inst extra).fld f := by
  rw [State.fld, State.fld, (s.faultRegs_kept cls inst extra).1 _ hf.1 hf.2]

/-! The registers of `faultHeld`. -/

/-- The class bit and the first fault, as registers. -/
theorem State.faultNoted_regs (s : State) (cls inst : Nat) : (s.faultNoted cls inst).regs =
    (if (s.noteClass cls).isFirst cls then (s.noteClass cls).noteFirst cls inst else s.noteClass cls).regs := State.raise_regs _ _

theorem State.rg_faultNoted_stat (s : State) (cls inst : Nat) : (s.faultNoted cls inst).rg Reg.DEV_FAULT_STAT = (s.noteClass cls).rg Reg.DEV_FAULT_STAT := by
  rw [State.rg, State.faultNoted_regs]
  split
  · exact State.rg_stat_noteFirst _ _ _
  · rfl

theorem State.faultNoted_faultN (s : State) (cls inst : Nat) : (s.faultNoted cls inst).flt.faultN = s.flt.faultN := by
  have hclass : (s.noteClass cls).flt = s.flt := by simp [State.noteClass]
  unfold State.faultNoted
  rw [State.raise_flt]
  split
  · rw [State.noteFirst_faultN, hclass]
  · rw [hclass]

/-- Showing a fault on the pin leaves the class bits and the first fault. -/
theorem State.rg_faultHeld_ne (s : State) (cls inst extra : Nat) {a : Nat} (h : a ≠ Reg.DEV_FAULT_STAT) :
    (s.faultHeld cls inst extra).rg a = (s.faultNoted cls inst).rg a := by
  unfold State.faultHeld State.faultShown
  split
  · rw [State.rg, State.assertFaultN_regs, ← State.rg, State.rg_setFld_ne _ _ _ h, State.rg, State.faultRecord_regs, ← State.rg]
  · rfl

theorem State.fld_classes_faultHeld (s : State) (cls inst extra : Nat) :
    (s.faultHeld cls inst extra).fld F.DEV_FAULT_STAT_CLASSES = (s.noteClass cls).fld F.DEV_FAULT_STAT_CLASSES := by
  have hnoted : (s.faultNoted cls inst).fld F.DEV_FAULT_STAT_CLASSES = (s.noteClass cls).fld F.DEV_FAULT_STAT_CLASSES :=
    congrArg (fun v : Word => bitsOf v 15 1) (s.rg_faultNoted_stat cls inst)
  rw [← hnoted]
  unfold State.faultHeld State.faultShown
  split
  · rw [State.fld_of_regs (State.assertFaultN_regs _), State.fld_setFld_apart _ _ _ (by decide), State.fld_of_regs (State.faultRecord_regs _ _ _ _)]
  · rfl

theorem State.fld_faultHeld_first (s : State) (cls inst extra : Nat) (h : (s.noteClass cls).isFirst cls) {f : Fld} (hf : f.addr 0 ≠ Reg.DEV_FAULT_STAT) :
    (s.faultHeld cls inst extra).fld f = ((s.noteClass cls).noteFirst cls inst).fld f := by
  rw [State.fld, State.rg_faultHeld_ne _ _ _ _ hf, ← State.fld]
  exact State.fld_of_regs ((s.faultNoted_regs cls inst).trans (congrArg State.regs (if_pos h))) _ _

theorem State.bit_classes_noteClass (s : State) {cls : Nat} (h1 : 1 ≤ cls) (h15 : cls ≤ 15) (i : Nat) :
    bit ((s.noteClass cls).fld F.DEV_FAULT_STAT_CLASSES) i = (bit (s.fld F.DEV_FAULT_STAT_CLASSES) i || decide (i = cls - 1)) := by
  have hlt : s.fld F.DEV_FAULT_STAT_CLASSES ||| 2 ^ (cls - 1) < 2 ^ 15 :=
    Nat.or_lt_two_pow (s.fld_lt F.DEV_FAULT_STAT_CLASSES 0) (Nat.pow_lt_pow_right (by decide) (by omega))
  unfold State.noteClass
  rw [State.fld_setFld_of_lt (w := 15) s 0 (by decide) hlt, bit, bit, Nat.testBit_or, Nat.testBit_two_pow]
  simp [eq_comm]

theorem State.fld_noteClass (s : State) (cls : Nat) {f : Fld} (h : F.DEV_FAULT_STAT_CLASSES.Apart f) : (s.noteClass cls).fld f = s.fld f :=
  State.fld_setFld_apart s _ 0 h

theorem faultsKeepTheFirst : Rules.FaultsKeepTheFirst := by
  intro s cls inst h1 h15 hi t
  refine ⟨fun i _ => ?_, fun hc => ⟨?_, ?_⟩, fun hc => ⟨?_, ?_⟩, fun h0 => ?_, fun h0 hat => ?_⟩
  · rw [State.fld_fault _ _ _ _ (by decide), State.fld_classes_faultHeld, State.bit_classes_noteClass s h1 h15]
  · rw [(s.faultRegs_kept cls inst 0).2.1, State.faultHeld, if_pos (by simp [assertsFaultN, hc])]
    exact State.assertFaultN_faultN _
  · rw [State.flag, State.fld_fault _ _ _ _ (by decide), State.faultHeld, if_pos (by simp [assertsFaultN, hc]), State.faultShown,
      State.fld_of_regs (State.assertFaultN_regs _), State.fld_setFld_of_lt (w := 1) _ 0 (by decide) (by decide)]
    rfl
  · rw [(s.faultRegs_kept cls inst 0).2.1, State.faultHeld, if_neg (by simp [assertsFaultN, hc]), State.faultNoted_faultN]
  · rw [State.flag, State.flag, State.fld_fault _ _ _ _ (by decide), State.faultHeld, if_neg (by simp [assertsFaultN, hc]),
      show (s.faultNoted cls inst).fld F.DEV_FAULT_STAT_FAULT = (s.noteClass cls).fld F.DEV_FAULT_STAT_FAULT from
        congrArg (fun v : Word => bitsOf v 30 30) (s.rg_faultNoted_stat cls inst), State.fld_noteClass s cls (by decide)]
  · have hfirst : (s.noteClass cls).isFirst cls := .inl ((s.fld_noteClass cls (by decide)).trans h0)
    obtain ⟨hcls, hinst⟩ := (s.noteClass cls).noteFirst_first (show cls < 16 by omega) hi
    rw [State.fld_fault _ _ _ _ (by decide), State.fld_fault _ _ _ _ (by decide), State.fld_faultHeld_first s cls inst 0 hfirst (by decide),
      State.fld_faultHeld_first s cls inst 0 hfirst (by decide)]
    exact ⟨hcls, hinst⟩
  · have hlater : ¬ (s.noteClass cls).isFirst cls := by
      rw [State.isFirst, s.fld_noteClass cls (by decide), State.noteClass, State.setFld_flt, State.setFld_cyc]
      rintro (h | ⟨h, -⟩)
      · exact h0 h
      · exact hat h
    have hkept : ∀ a, Reg.DEV_FAULT_FIRST ≤ a → a ≤ Reg.DEV_FAULT_TIME_HI → t.rg a = s.rg a := fun a ha ha' => by
      have hstat : a ≠ Reg.DEV_FAULT_STAT := by simp only [Reg.DEV_FAULT_FIRST, Reg.DEV_FAULT_STAT] at *; omega
      rw [(s.faultRegs_kept cls inst 0).1 a (by simp only [Reg.DEV_FAULT_FIRST] at ha; omega) (by simp only [Reg.DEV_FAULT_TIME_HI] at ha'; omega),
        State.rg_faultHeld_ne _ _ _ _ hstat, State.rg, State.faultNoted_regs, if_neg hlater, ← State.rg]
      exact State.rg_setFld_ne _ _ _ hstat
    exact ⟨hkept _ (by decide) (by decide), hkept _ (by decide) (by decide), hkept _ (by decide) (by decide)⟩

/-! The detected faults (R636-R640, R651-R659). -/

/-- `DEV_SWDOG` after a write of the watchdog register. -/
def State.swdogWritten (s : State) (v : Word) : State :=
  if v.getLsbD 31 then (s.setFld F.DEV_SWDOG_PERIOD_MS (bitsOf v 15 0)).setFld F.DEV_SWDOG_ENABLE 1 else s.setFld F.DEV_SWDOG_PERIOD_MS (bitsOf v 15 0)

theorem State.swdogWritten_fields (s : State) (v : Word) :
    (s.swdogWritten v).flag F.DEV_SWDOG_ENABLE = (v.getLsbD 31 || s.flag F.DEV_SWDOG_ENABLE) ∧
    (s.swdogWritten v).fld F.DEV_SWDOG_PERIOD_MS = bitsOf v 15 0 := by
  have hperiod : (s.setFld F.DEV_SWDOG_PERIOD_MS (bitsOf v 15 0)).fld F.DEV_SWDOG_PERIOD_MS = bitsOf v 15 0 :=
    State.fld_setFld_of_lt (w := 16) s 0 (by decide) (bitsOf_lt v 15 0)
  unfold State.swdogWritten
  split
  · rename_i h
    refine ⟨?_, ?_⟩
    · rw [h, Bool.true_or]
      exact State.flag_setFld_one _ _ (by decide)
    · rw [State.fld_setFld_apart _ _ _ (by decide), hperiod]
  · rename_i h
    refine ⟨?_, hperiod⟩
    rw [State.flag_setFld_apart _ _ _ (by decide), Bool.not_eq_true _ |>.mp h, Bool.false_or]

theorem SameRegsBut.swdogWritten (s : State) (v : Word) : SameRegsBut [Reg.DEV_SWDOG] s (s.swdogWritten v) := by
  have hp : F.DEV_SWDOG_PERIOD_MS.addr 0 ∈ [Reg.DEV_SWDOG] := by simp [Fld.addr, F.DEV_SWDOG_PERIOD_MS, Reg.DEV_SWDOG]
  have he : F.DEV_SWDOG_ENABLE.addr 0 ∈ [Reg.DEV_SWDOG] := by simp [Fld.addr, F.DEV_SWDOG_ENABLE, Reg.DEV_SWDOG]
  unfold State.swdogWritten
  split
  · exact (SameRegsBut.setFld s _ _ 0 hp).trans (.setFld _ _ 1 0 he)
  · exact .setFld s _ _ 0 hp

theorem State.swdogWritten_rest (s : State) (v : Word) : s.swdogWritten v = { s with regs := (s.swdogWritten v).regs } := by
  unfold State.swdogWritten
  split
  · apply State.eq_of_parts <;> simp
  · apply State.eq_of_parts <;> simp

/-- The watchdog is kicked. -/
def State.kick (s : State) : State := { s with flt := { s.flt with kicked := s.cyc } }

theorem State.kick_regs (s : State) : s.kick.regs = s.regs := by dsimp only [State.kick]

theorem exec_swdogKick (s : State) (v : Word) :
    exec (.swdogKick .s v) s =
      .next (if v.getLsbD 30 || (v.getLsbD 31 && !s.flag F.DEV_SWDOG_ENABLE) then (s.swdogWritten v).kick else s.swdogWritten v) := by
  rw [exec, execSwdogKick, if_pos rfl, State.swdogWritten, State.kick]

theorem swdogKick_enables (s : State) (v : Word) :
    ∃ t, exec (.swdogKick .s v) s = .next t ∧
      t.flag F.DEV_SWDOG_ENABLE = (v.getLsbD 31 || s.flag F.DEV_SWDOG_ENABLE) ∧ t.fld F.DEV_SWDOG_PERIOD_MS = bitsOf v 15 0 ∧
      (v.getLsbD 30 = true → t.flt.kicked = s.cyc) ∧ (v.getLsbD 30 = false → v.getLsbD 31 = false → t.flt.kicked = s.flt.kicked) ∧
      SameRegsBut [Reg.DEV_SWDOG] s t ∧ t = { s with regs := t.regs, flt := { s.flt with kicked := t.flt.kicked } } := by
  obtain ⟨henable, hperiod⟩ := s.swdogWritten_fields v
  have hregs := SameRegsBut.swdogWritten s v
  have hrest := s.swdogWritten_rest v
  have hflt : (s.swdogWritten v).flt = s.flt := by rw [hrest]
  have hcyc : (s.swdogWritten v).cyc = s.cyc := by rw [hrest]
  rw [exec_swdogKick]
  generalize s.swdogWritten v = u at *
  by_cases hk : (v.getLsbD 30 || (v.getLsbD 31 && !s.flag F.DEV_SWDOG_ENABLE)) = true
  · rw [if_pos hk]
    refine ⟨_, rfl, (State.flag_of_regs u.kick_regs _ _).trans henable, (State.fld_of_regs u.kick_regs _ _).trans hperiod, fun _ => hcyc, ?_,
      hregs.trans (.of_regs u.kick_regs), ?_⟩
    · intro h30 h31
      rw [h30, h31] at hk
      exact absurd hk (by simp)
    · rw [hrest]
      rfl
  · rw [if_neg hk]
    refine ⟨_, rfl, henable, hperiod, fun h30 => absurd (by rw [h30, Bool.true_or]) hk, fun _ _ => by rw [hflt], hregs, ?_⟩
    rw [hrest]

theorem detectedFaultsAreRecorded : Rules.DetectedFaultsAreRecorded := by
  refine ⟨fun s n he hst => ?_, fun s => rfl, fun s arr layer h => ?_, fun s arr h => ?_, fun s => rfl, fun s he hp => ?_, fun s he => ?_,
    swdogKick_enables, fun s who v h => ?_⟩
  · rw [exec, execTimingStall, if_neg (by simp [he, hst])]
  · rw [exec]
    unfold execSramUncorrectable
    dsimp only
    rw [if_pos h]
  · rw [exec]
    unfold execSramUncorrectable
    dsimp only
    rw [if_neg (by omega)]
  · rw [exec, execWatchdogExpiry, if_pos (by simp [he, hp])]
  · rw [exec, execWatchdogExpiry, if_neg (by simp [he])]
  · rw [exec, execSwdogKick, if_neg h]

/-! The fault operations (R667, R670). -/

/-- `FAULT_N` is released. -/
def State.releaseFaultN (s : State) : State := { s with flt := { s.flt with faultN := false } }

theorem State.releaseFaultN_rg (s : State) (a : Nat) : s.releaseFaultN.rg a = s.rg a := by dsimp only [State.rg, State.releaseFaultN]
theorem State.releaseFaultN_flt (s : State) : s.releaseFaultN.flt = { s.flt with faultN := false } := by dsimp only [State.releaseFaultN]
theorem State.releaseFaultN_rest (s : State) : s.releaseFaultN = { s with flt := s.releaseFaultN.flt } := by dsimp only [State.releaseFaultN]

/-- The fault registers after `FAULT_CLEAR`. -/
def State.clearFaultRegs (s : State) : State :=
  ((((s.setFld F.DEV_FAULT_STAT_FAULT 0).setFld F.DEV_FAULT_STAT_CLASSES 0).setRg Reg.DEV_FAULT_FIRST 0).setRg Reg.DEV_FAULT_TIME_LO 0).setRg
    Reg.DEV_FAULT_TIME_HI 0

theorem State.clearFaultRegs_rest (s : State) : s.clearFaultRegs = { s with regs := s.clearFaultRegs.regs } := by
  apply State.eq_of_parts <;> simp [State.clearFaultRegs]

/-- The fault registers, and the pin, after `FAULT_CLEAR`. -/
def State.faultsCleared (s : State) : State := s.releaseFaultN.clearFaultRegs

theorem State.faultsCleared_rest (s : State) : s.faultsCleared = { s with regs := s.faultsCleared.regs, flt := s.faultsCleared.flt } := by
  unfold State.faultsCleared
  rw [State.clearFaultRegs_rest, State.releaseFaultN_rest]

theorem faultClear_clears (s : State) :
    s.faultsCleared.flt = { s.flt with faultN := false } ∧ s.faultsCleared.flag F.DEV_FAULT_STAT_FAULT = false ∧
      s.faultsCleared.fld F.DEV_FAULT_STAT_CLASSES = 0 ∧ s.faultsCleared.rg Reg.DEV_FAULT_FIRST = 0 ∧ s.faultsCleared.rg Reg.DEV_FAULT_TIME_LO = 0 ∧
      s.faultsCleared.rg Reg.DEV_FAULT_TIME_HI = 0 ∧
      SameRegsBut [Reg.DEV_FAULT_STAT, Reg.DEV_FAULT_FIRST, Reg.DEV_FAULT_TIME_LO, Reg.DEV_FAULT_TIME_HI] s s.faultsCleared ∧
      s.faultsCleared = { s with regs := s.faultsCleared.regs, flt := s.faultsCleared.flt } := by
  have hflt : s.faultsCleared.flt = { s.flt with faultN := false } := by
    rw [State.faultsCleared, State.clearFaultRegs_rest]
    exact s.releaseFaultN_flt
  refine ⟨hflt, ?_, ?_, ?_, ?_, ?_, ?_, s.faultsCleared_rest⟩
  · rw [State.flag, State.faultsCleared, State.clearFaultRegs, State.fld_setRg_ne _ _ (by decide), State.fld_setRg_ne _ _ (by decide),
      State.fld_setRg_ne _ _ (by decide), ← State.flag, State.flag_setFld_apart _ _ _ (by decide)]
    exact State.flag_setFld_zero _ _ (by decide)
  · rw [State.faultsCleared, State.clearFaultRegs, State.fld_setRg_ne _ _ (by decide), State.fld_setRg_ne _ _ (by decide), State.fld_setRg_ne _ _ (by decide)]
    exact State.fld_setFld_of_lt (w := 15) _ 0 (by decide) (by decide)
  · rw [State.faultsCleared, State.clearFaultRegs, State.rg_setRg_ne _ _ (by decide), State.rg_setRg_ne _ _ (by decide), State.rg_setRg]
  · rw [State.faultsCleared, State.clearFaultRegs, State.rg_setRg_ne _ _ (by decide), State.rg_setRg]
  · rw [State.faultsCleared, State.clearFaultRegs, State.rg_setRg]
  · intro a ha
    simp only [List.mem_cons, List.not_mem_nil, or_false, not_or] at ha
    obtain ⟨hstat, hfirst, hlo, hhi⟩ := ha
    rw [State.faultsCleared, State.clearFaultRegs, State.rg_setRg_ne _ _ hhi, State.rg_setRg_ne _ _ hlo, State.rg_setRg_ne _ _ hfirst,
      State.rg_setFld_ne _ _ _ hstat, State.rg_setFld_ne _ _ _ hstat, State.releaseFaultN_rg]

theorem faultOperationsQueryAndClear : Rules.FaultOperationsQueryAndClear := by
  refine ⟨fun s k q h => ?_, fun s k q h => ⟨fun hs => ?_, fun hs => ⟨s.faultsCleared, ?_⟩⟩, fun s k q h => ⟨?_, fun hs => ?_⟩, fun s r ho hr => ?_⟩
  · rw [exec, execFaultQuery, h]
  · rw [exec, execFaultClear, h]
    dsimp only
    rw [if_pos hs]
  · obtain ⟨h1, h2, h3, h4, h5, h6, h7, h8⟩ := faultClear_clears s
    refine ⟨h1, h2, h3, h4, h5, h6, h7, h8, ?_⟩
    rw [exec, execFaultClear, h]
    dsimp only
    rw [if_neg (by rw [hs]; decide), State.faultsCleared, State.clearFaultRegs, State.releaseFaultN]
  · rw [exec, execSafeEnter, h]
  · rw [State.enterSafe, if_pos hs]
  · rw [exec, execFaultRecord, if_pos ho, hr]

/-- Settles O50: only `fault` itself writes the fault registers; its trigger and its event leave them, as `State.fault_kept` says. -/
theorem faultsAreRecordedAndCleared : Obligations.FaultsAreRecordedAndCleared :=
  ⟨detectedFaultsAreRecorded, faultsKeepTheFirst, faultOperationsQueryAndClear⟩

end Sys2Proof.Machine
end

section
/-! PROOFS. Links and plugs (05 R202-R206). -/

namespace Sys2Proof.Machine

/-! DPTX_TRAIN and the attempts (R202-R204). -/

/-- `DPTX_STAT[n]` of a link that trained. -/
def State.showTrained (s : State) (n : Nat) : State :=
  (((s.setFld F.DPTX_STAT_TRAINED 1 n).setFld F.DPTX_STAT_RATE (s.fld F.DPTX_LINK_RATE n) n).setFld F.DPTX_STAT_LANES (s.fld F.DPTX_LINK_LANES n) n).setFld
    F.DPTX_STAT_FAILS 0 n

theorem State.linkTrained_eq (s : State) (n : Nat) :
    s.linkTrained n = (s.showTrained n).setOut n { (s.showTrained n).out n with training := none, resuming := (s.showTrained n).flag F.DTG_CTRL_ENABLE n } := by
  unfold State.linkTrained State.showTrained
  rfl

theorem State.showTrained_fields (s : State) (n : Nat) :
    (s.showTrained n).flag F.DPTX_STAT_TRAINED n = true ∧ (s.showTrained n).fld F.DPTX_STAT_RATE n = s.fld F.DPTX_LINK_RATE n ∧
    (s.showTrained n).fld F.DPTX_STAT_LANES n = s.fld F.DPTX_LINK_LANES n ∧ (s.showTrained n).fld F.DPTX_STAT_FAILS n = 0 ∧
    (s.showTrained n).flag F.DTG_CTRL_ENABLE n = s.flag F.DTG_CTRL_ENABLE n := by
  have hrate := s.fld_lt F.DPTX_LINK_RATE n
  have hlanes := s.fld_lt F.DPTX_LINK_LANES n
  unfold State.showTrained
  refine ⟨?_, ?_, ?_, ?_, ?_⟩
  · simp (disch := decide) only [State.flag_setFld_apart]
    exact State.flag_setFld_one _ _ (by decide)
  · simp (disch := decide) only [State.fld_setFld_apart]
    exact State.fld_setFld_of_lt (w := 4) _ n (by decide) hrate
  · simp (disch := decide) only [State.fld_setFld_apart]
    exact State.fld_setFld_of_lt (w := 2) _ n (by decide) hlanes
  · exact State.fld_setFld_of_lt (w := 8) _ n (by decide) (by decide)
  · simp (disch := decide) only [State.flag_setFld_apart]

theorem SameRegsBut.showTrained (s : State) (n : Nat) : SameRegsBut [Reg.DPTX_STAT n] s (s.showTrained n) := by
  have h : Reg.DPTX_STAT n ∈ [Reg.DPTX_STAT n] := by simp
  exact (((SameRegsBut.setFld s F.DPTX_STAT_TRAINED 1 n h).trans (.setFld _ F.DPTX_STAT_RATE _ n h)).trans (.setFld _ F.DPTX_STAT_LANES _ n h)).trans
    (.setFld _ F.DPTX_STAT_FAILS _ n h)

theorem State.showTrained_rest (s : State) (n : Nat) : s.showTrained n = { s with regs := (s.showTrained n).regs } := by
  apply State.eq_of_parts <;> simp [State.showTrained]

theorem linkTrained_shows (s : State) (n : Nat) :
    (s.linkTrained n).flag F.DPTX_STAT_TRAINED n = true ∧ (s.linkTrained n).fld F.DPTX_STAT_RATE n = s.fld F.DPTX_LINK_RATE n ∧
      (s.linkTrained n).fld F.DPTX_STAT_LANES n = s.fld F.DPTX_LINK_LANES n ∧ (s.linkTrained n).fld F.DPTX_STAT_FAILS n = 0 ∧
      ((s.linkTrained n).out n).training = none ∧ ((s.linkTrained n).out n).resuming = s.flag F.DTG_CTRL_ENABLE n ∧
      SameRegsBut [Reg.DPTX_STAT n] s (s.linkTrained n) ∧
      s.linkTrained n = { s with regs := (s.linkTrained n).regs, disp := (s.linkTrained n).disp } := by
  obtain ⟨htrained, hrate, hlanes, hfails, hen⟩ := s.showTrained_fields n
  have hregs := SameRegsBut.showTrained s n
  have hrest := s.showTrained_rest n
  rw [State.linkTrained_eq]
  generalize s.showTrained n = u at *
  have hr := u.setOut_regs n { u.out n with training := none, resuming := u.flag F.DTG_CTRL_ENABLE n }
  refine ⟨(State.flag_of_regs hr _ _).trans htrained, (State.fld_of_regs hr _ _).trans hrate, (State.fld_of_regs hr _ _).trans hlanes,
    (State.fld_of_regs hr _ _).trans hfails, ?_, ?_, hregs.trans (.of_regs hr), ?_⟩
  · rw [State.out_setOut]
  · rw [State.out_setOut]
    exact hen
  · rw [State.setOut, hrest]

/-- Settles O25. -/
theorem linksTrainAndFollowThePlug : Obligations.LinksTrainAndFollowThePlug := by
  refine ⟨fun s n v hg he => ?_, fun s n a h => ⟨?_, fun _ => linkTrained_shows s n, fun ha => ?_, fun ha => ?_⟩, fun s n h => ⟨_, rfl, ?_⟩,
    fun s n h => ?_, fun s n h => ?_⟩
  · rw [exec, execDptxTrain, if_neg (by rw [hg]; decide), if_neg (by decide), if_neg (by rw [he]; decide)]
    have hmay : s.mayRwm .s = true := rfl
    dsimp only
    rw [if_pos hmay]
  · rw [exec, execTrainingAttemptEnd]
    dsimp only
    rw [h]
    rfl
  · rw [exec, execTrainingAttemptEnd]
    dsimp only
    rw [h]
    dsimp only
    rw [if_neg (by decide), if_neg (by omega)]
  · rw [exec, execTrainingAttemptEnd]
    dsimp only
    rw [h]
    dsimp only
    rw [if_neg (by decide), if_pos ha]
  · rw [exec, execHpdUnplug, if_pos h]
  · rw [exec, execHpdPlug, if_neg (by rw [h]; decide)]
  · rw [exec, execIrqHpd, if_pos h]
    dsimp only
    rw [Bool.false_and, if_neg (by decide)]

end Sys2Proof.Machine
end

section
/-! PROOFS. Register commands and troubles of layers (05). -/

namespace Sys2Proof.Machine

/-! The register commands of a timing generator and a slot (R207-R213, R225, R772). -/

/-- `DTG_APPLY[n]` after a write that the register takes. -/
def State.applyWritten (s : State) (n : Nat) (v : Word) : State :=
  if v.getLsbD 31 then (s.setFld F.DTG_APPLY_LINE (bitsOf v 13 0) n).setFld F.DTG_APPLY_ARM 1 n else s.setFld F.DTG_APPLY_LINE (bitsOf v 13 0) n

theorem applyArm_arms {s : State} {who : Who} {n : Nat} {v : Word} (hg : s.gatedAt (Reg.DTG_APPLY n) = false) (hm : s.mayRwm who = true) :
    ∃ t, exec (.applyArm who n v) s = .next t ∧ t.fld F.DTG_APPLY_LINE n = bitsOf v 13 0 ∧
      t.flag F.DTG_APPLY_ARM n = (v.getLsbD 31 || s.flag F.DTG_APPLY_ARM n) ∧ SameRegsBut [Reg.DTG_APPLY n] s t ∧ t = { s with regs := t.regs } := by
  have hexec : exec (.applyArm who n v) s = .next (s.applyWritten n v) := by
    rw [exec, execApplyArm, if_neg (by rw [hg]; decide), if_pos hm]
    rfl
  have hline : (s.setFld F.DTG_APPLY_LINE (bitsOf v 13 0) n).fld F.DTG_APPLY_LINE n = bitsOf v 13 0 :=
    State.fld_setFld_of_lt (w := 14) s n (by decide) (bitsOf_lt v 13 0)
  have hreg : Reg.DTG_APPLY n ∈ [Reg.DTG_APPLY n] := by simp
  refine ⟨_, hexec, ?_⟩
  unfold State.applyWritten
  split
  · rename_i h
    refine ⟨?_, ?_, (SameRegsBut.setFld s F.DTG_APPLY_LINE _ n hreg).trans (.setFld _ F.DTG_APPLY_ARM 1 n hreg), ?_⟩
    · rw [State.fld_setFld_apart _ _ _ (by decide), hline]
    · rw [h, Bool.true_or]
      exact State.flag_setFld_one _ _ (by decide)
    · apply State.eq_of_parts <;> simp
  · rename_i h
    refine ⟨hline, ?_, .setFld s F.DTG_APPLY_LINE _ n hreg, ?_⟩
    · rw [State.flag_setFld_apart _ _ _ (by decide), Bool.not_eq_true _ |>.mp h, Bool.false_or]
    · apply State.eq_of_parts <;> simp

/-- The word of `DPIPE_LCTRL[l]` after a write that the register takes. -/
def layerWord (old v : Word) : Word := putBits (putBits (putBits old 30 25 (bitsOf v 30 25)) 23 16 (bitsOf v 23 16)) 15 12 (bitsOf v 15 12)

theorem layerWord_fields (old v : Word) :
    bitsOf (layerWord old v) 30 25 = bitsOf v 30 25 ∧ bitsOf (layerWord old v) 23 16 = bitsOf v 23 16 ∧ bitsOf (layerWord old v) 15 12 = bitsOf v 15 12 ∧
    bitsOf (layerWord old v) 3 0 = bitsOf old 3 0 ∧ bitsOf (layerWord old v) 31 31 = bitsOf old 31 31 := by
  unfold layerWord
  refine ⟨?_, ?_, ?_, ?_, ?_⟩
  · rw [bitsOf_putBits_ne _ _ _ _ _ _ (by decide) (by decide) (by decide), bitsOf_putBits_ne _ _ _ _ _ _ (by decide) (by decide) (by decide),
      bitsOf_putBits_same _ _ _ _ (by decide) (by decide)]
    exact Nat.mod_eq_of_lt (bitsOf_lt v 30 25)
  · rw [bitsOf_putBits_ne _ _ _ _ _ _ (by decide) (by decide) (by decide), bitsOf_putBits_same _ _ _ _ (by decide) (by decide)]
    exact Nat.mod_eq_of_lt (bitsOf_lt v 23 16)
  · rw [bitsOf_putBits_same _ _ _ _ (by decide) (by decide)]
    exact Nat.mod_eq_of_lt (bitsOf_lt v 15 12)
  · rw [bitsOf_putBits_ne _ _ _ _ _ _ (by decide) (by decide) (by decide), bitsOf_putBits_ne _ _ _ _ _ _ (by decide) (by decide) (by decide),
      bitsOf_putBits_ne _ _ _ _ _ _ (by decide) (by decide) (by decide)]
  · rw [bitsOf_putBits_ne _ _ _ _ _ _ (by decide) (by decide) (by decide), bitsOf_putBits_ne _ _ _ _ _ _ (by decide) (by decide) (by decide),
      bitsOf_putBits_ne _ _ _ _ _ _ (by decide) (by decide) (by decide)]

/-- `DPIPE_LCTRL[l]` after a write that the register takes. -/
def State.layerWritten (s : State) (l : Nat) (v : Word) : State :=
  let u := s.setRg (Reg.DPIPE_LCTRL l) (layerWord (s.rg (Reg.DPIPE_LCTRL l)) v)
  if v.getLsbD 31 then u.setFld F.DPIPE_LCTRL_ARM 1 l else u

theorem State.rg_layerWritten (s : State) (l : Nat) (v : Word) : (s.layerWritten l v).rg (Reg.DPIPE_LCTRL l) =
    if v.getLsbD 31 then putBits (layerWord (s.rg (Reg.DPIPE_LCTRL l)) v) 31 31 1 else layerWord (s.rg (Reg.DPIPE_LCTRL l)) v := by
  unfold State.layerWritten
  dsimp only
  split
  · rw [State.setFld, show F.DPIPE_LCTRL_ARM.addr l = Reg.DPIPE_LCTRL l from rfl, State.rg_setRg, State.rg_setRg]
    rfl
  · rw [State.rg_setRg]

theorem SameRegsBut.layerWritten (s : State) (l : Nat) (v : Word) : SameRegsBut [Reg.DPIPE_LCTRL l] s (s.layerWritten l v) := by
  have h : Reg.DPIPE_LCTRL l ∈ [Reg.DPIPE_LCTRL l] := by simp
  unfold State.layerWritten
  dsimp only
  split
  · exact (SameRegsBut.setRg s _ _ h).trans (.setFld _ F.DPIPE_LCTRL_ARM 1 l h)
  · exact .setRg s _ _ h

theorem State.layerWritten_rest (s : State) (l : Nat) (v : Word) : s.layerWritten l v = { s with regs := (s.layerWritten l v).regs } := by
  unfold State.layerWritten
  dsimp only
  split
  · apply State.eq_of_parts <;> simp
  · apply State.eq_of_parts <;> simp

theorem exec_layerArm {s : State} {who : Who} {l : Nat} {v : Word} (hg : s.gatedAt (Reg.DPIPE_LCTRL l) = false) (hm : s.mayRwm who = true) :
    ∃ x, exec (.layerArm who l v) s = .next ((s.layerWritten l v).setSlot l x) := by
  rw [exec, execLayerArm, if_neg (by rw [hg]; decide), if_pos hm]
  unfold State.layerWritten layerWord
  dsimp only
  split
  · exact ⟨_, rfl⟩
  · exact ⟨_, rfl⟩

/-- The arm bit is beside every other field of the word. -/
theorem bitsOf_layerArmed (w v : Word) {hi lo : Nat} (h : hi < 31) :
    bitsOf (if v.getLsbD 31 then putBits w 31 31 1 else w) hi lo = bitsOf w hi lo := by
  split
  · exact bitsOf_putBits_ne _ _ _ _ _ _ (by decide) (by decide) (.inl h)
  · rfl

theorem layerArm_arms {s : State} {who : Who} {l : Nat} {v : Word} (hg : s.gatedAt (Reg.DPIPE_LCTRL l) = false) (hm : s.mayRwm who = true) :
    ∃ t, exec (.layerArm who l v) s = .next t ∧ bitsOf (t.rg (Reg.DPIPE_LCTRL l)) 30 25 = bitsOf v 30 25 ∧
      bitsOf (t.rg (Reg.DPIPE_LCTRL l)) 23 16 = bitsOf v 23 16 ∧ bitsOf (t.rg (Reg.DPIPE_LCTRL l)) 15 12 = bitsOf v 15 12 ∧
      t.fld F.DPIPE_LCTRL_OUTPUT l = s.fld F.DPIPE_LCTRL_OUTPUT l ∧ t.flag F.DPIPE_LCTRL_ARM l = (v.getLsbD 31 || s.flag F.DPIPE_LCTRL_ARM l) ∧
      SameRegsBut [Reg.DPIPE_LCTRL l] s t ∧ t = { s with regs := t.regs, disp := t.disp } := by
  obtain ⟨x, hexec⟩ := exec_layerArm (v := v) hg hm
  obtain ⟨h30, h23, h15, h3, h31⟩ := layerWord_fields (s.rg (Reg.DPIPE_LCTRL l)) v
  have hrg : ((s.layerWritten l v).setSlot l x).rg (Reg.DPIPE_LCTRL l) =
      if v.getLsbD 31 then putBits (layerWord (s.rg (Reg.DPIPE_LCTRL l)) v) 31 31 1 else layerWord (s.rg (Reg.DPIPE_LCTRL l)) v := by
    rw [State.rg_of_setSlot, State.rg_layerWritten]
  have hout : ((s.layerWritten l v).setSlot l x).fld F.DPIPE_LCTRL_OUTPUT l = bitsOf (((s.layerWritten l v).setSlot l x).rg (Reg.DPIPE_LCTRL l)) 3 0 := rfl
  have harm : ((s.layerWritten l v).setSlot l x).flag F.DPIPE_LCTRL_ARM l =
      decide (bitsOf (((s.layerWritten l v).setSlot l x).rg (Reg.DPIPE_LCTRL l)) 31 31 ≠ 0) := rfl
  have hrest : (s.layerWritten l v).setSlot l x =
      { s with regs := ((s.layerWritten l v).setSlot l x).regs, disp := ((s.layerWritten l v).setSlot l x).disp } := by
    rw [State.layerWritten_rest]
    apply State.eq_of_parts <;> simp
  have hregs : SameRegsBut [Reg.DPIPE_LCTRL l] s ((s.layerWritten l v).setSlot l x) :=
    (SameRegsBut.layerWritten s l v).trans (.of_regs (State.setSlot_regs _ _ _))
  have hflag : s.flag F.DPIPE_LCTRL_ARM l = decide (bitsOf (s.rg (Reg.DPIPE_LCTRL l)) 31 31 ≠ 0) := rfl
  refine ⟨_, hexec, ?_, ?_, ?_, hout.trans ?_, harm.trans ?_, hregs, hrest⟩
  all_goals rw [hrg]
  · rw [bitsOf_layerArmed _ _ (by decide), h30]
  · rw [bitsOf_layerArmed _ _ (by decide), h23]
  · rw [bitsOf_layerArmed _ _ (by decide), h15]
  · rw [bitsOf_layerArmed _ _ (by decide), h3]
    rfl
  · rw [hflag]
    by_cases h : v.getLsbD 31 = true
    · rw [if_pos h, h, bitsOf_putBits_same _ _ _ _ (by decide) (by decide)]
      rfl
    · rw [if_neg h, h31, Bool.not_eq_true _ |>.mp h, Bool.false_or]

/-! Generators (R207-R210). -/

theorem shadowSetsArmByTheirRegisters : Rules.ShadowSetsArmByTheirRegisters := by
  refine ⟨fun s who n v _ hg hm => applyArm_arms hg hm, fun s who l v _ hg hm => layerArm_arms hg hm, fun s who n v hg hm h31 => ⟨_, rfl, fun hen => ?_⟩,
    fun s who n v hg hm h31 => ⟨_, rfl, fun hen hf => ?_⟩, fun s who n v hm => ⟨fun hg => ?_, fun hg => ?_, fun hg => ?_⟩⟩
  · rw [exec, execDtgEnable, if_neg (by rw [hg]; decide), if_neg (by rw [hm]; decide)]
    dsimp only
    rw [h31, if_pos (by decide), if_pos hen]
  · rw [exec, execDtgEnable, if_neg (by rw [hg]; decide), if_neg (by rw [hm]; decide)]
    dsimp only
    rw [h31, if_neg (by decide), if_neg (by rw [hen]; decide), if_neg (by rw [hf]; decide)]
  · rw [exec, execApplyArm, if_neg (by rw [hg]; decide), if_neg (by rw [hm]; decide)]
  · rw [exec, execLayerArm, if_neg (by rw [hg]; decide), if_neg (by rw [hm]; decide)]
  · rw [exec, execDtgEnable, if_neg (by rw [hg]; decide), if_pos (by rw [hm]; decide)]

/-! Fetch faults and underruns (R228, R245, R250, R251). -/

theorem exec_layerFetchFault {s : State} {l reason : Nat} (hu : s.slotUsed l = true) (he : (s.slot l).live.enabled = true)
    (hf : s.flag F.DPIPE_LSTAT_FAULTED l = false) (h1 : 1 ≤ reason) (h4 : reason < 5) (line : Nat) :
    exec (.layerFetchFault l reason line) s = .next ((if reason = 1 ∨ reason = 2 then
        (s.setFld F.DPIPE_LSTAT_REASON reason l).setFld F.DPIPE_LSTAT_FAULTED 1 l else s.setFld F.DPIPE_LSTAT_REASON reason l).layerFaultEvent l reason line) := by
  rw [exec, execLayerFetchFault, if_pos (by simp [hu, he, hf, h1]; omega)]
  dsimp only
  simp only [show ¬ reason = 5 by omega, or_false, if_false]

theorem State.slot_of_disp {s t : State} (h : t.disp = s.disp) (l : Nat) : t.slot l = s.slot l := by
  simp only [State.slot, h]

/-- The counts of slot `l` after a line of underrun. -/
def SlotSt.underrun (x : SlotSt) (line : Nat) : SlotSt :=
  { x with underLines := x.underLines + 1, underFirst := if x.underLines = 0 then line else x.underFirst }

theorem layerUnderrun_counts {s : State} {l line : Nat} (hu : s.slotUsed l = true) (he : (s.slot l).live.enabled = true)
    (hf : s.flag F.DPIPE_LSTAT_FAULTED l = false) :
    ∃ t, exec (.layerUnderrun l line) s = .next t ∧ (t.slot l).underLines = (s.slot l).underLines + 1 ∧
      (t.slot l).underFirst = (if (s.slot l).underLines = 0 then line else (s.slot l).underFirst) ∧
      (t.isPend (112 + s.slotOut l) = true) ∧ SamePendBut [112 + s.slotOut l] s t ∧ SameRegsBut [Reg.DPIPE_LSTAT l] s t ∧
      (∀ j, j ≠ l → t.slot j = s.slot j) ∧ t = { s with regs := t.regs, wld := { s.wld with pend := t.wld.pend }, disp := t.disp } := by
  have hout : ((s.satInc F.DPIPE_LSTAT_UNDERRUNS l).setSlot l ((s.slot l).underrun line)).slotOut l = s.slotOut l := by
    simp only [State.slotOut, State.fld_of_setSlot, State.satInc]
    exact State.fld_setFld_apart _ _ _ (by decide)
  have hlt : s.slotOut l < 16 := s.fld_lt F.DPIPE_LCTRL_OUTPUT l
  have hexec : exec (.layerUnderrun l line) s =
      .next (((s.satInc F.DPIPE_LSTAT_UNDERRUNS l).setSlot l ((s.slot l).underrun line)).raise (112 + s.slotOut l)) := by
    rw [exec, execLayerUnderrun, if_pos (by simp [hu, he, hf]), ← hout]
    rfl
  have hdisp : (((s.satInc F.DPIPE_LSTAT_UNDERRUNS l).setSlot l ((s.slot l).underrun line)).raise (112 + s.slotOut l)).disp =
      (s.setSlot l ((s.slot l).underrun line)).disp := by simp [State.setSlot]
  have hslot : ∀ j, (((s.satInc F.DPIPE_LSTAT_UNDERRUNS l).setSlot l ((s.slot l).underrun line)).raise (112 + s.slotOut l)).slot j =
      (s.setSlot l ((s.slot l).underrun line)).slot j :=
    State.slot_of_disp hdisp
  refine ⟨_, hexec, ?_, ?_, State.isPend_raise_same _ _ (by omega), ?_, ?_, fun j hj => (hslot j).trans (State.slot_setSlot_ne _ _ hj), ?_⟩
  · rw [hslot, State.slot_setSlot]
    rfl
  · rw [hslot, State.slot_setSlot]
    rfl
  · exact (SamePendBut.of_wld (by simp)).trans (.raise _ _ (by simp))
  · exact ((SameRegsBut.satInc s F.DPIPE_LSTAT_UNDERRUNS l 1 (by simp [Fld.addr, F.DPIPE_LSTAT_UNDERRUNS, Reg.DPIPE_LSTAT])).trans
      (.of_regs (State.setSlot_regs _ _ _))).trans (.of_regs (State.raise_regs _ _))
  · apply State.eq_of_parts <;> simp [State.raise]

theorem layerTroubleIsCountedAndReported : Rules.LayerTroubleIsCountedAndReported := by
  refine ⟨fun s l reason line hu he hf h => ?_, fun s l reason line hu he hf h => ?_, fun s l line _ hu he hf => layerUnderrun_counts hu he hf⟩
  · rw [exec_layerFetchFault hu he hf (by omega) (by omega), if_pos h]
  · rw [exec_layerFetchFault hu he hf (by omega) (by omega), if_neg (by omega)]

/-- Settles O27. -/
theorem layerRegistersAndTroubles : Obligations.LayerRegistersAndTroubles :=
  ⟨shadowSetsArmByTheirRegisters, layerTroubleIsCountedAndReported⟩

end Sys2Proof.Machine
end

section
/-! PROOFS. Modes, slots and layer sets (05). -/

namespace Sys2Proof.Machine

/-! Modes and queries (R242-R244, R256, R260, R261). -/

theorem State.refuseHeld_none {s : State} {n : Nat} (why : Nat) (h : (s.out n).held = none) : s.refuseHeld n why = s := by
  rw [State.refuseHeld, h]

/-- MODE_SET of a mode that is not OFF, no mode being held. -/
theorem exec_modeSet {s : State} {k : Nat} {p : Started} {m : Mode} (hp : s.opAt k 0x0801 = some p)
    (hm : modeOf p (s.rg (Reg.DPTX_LINK (p.p8 0))) = m) (hoff : m.off = false) :
    exec (.modeSet k) s = match m.fault p with
      | some o => .next (s.endOp k St.range o)
      | none =>
        let why := s.layersStand (p.p8 0) m.timing
        if why = 1 then .next (s.endOp k St.range)
        else if why = 2 then .next (s.endOp k St.busy 0 4)
        else if why = 3 then .next (s.endOp k St.busy 0 5)
        else
          let u := s.refuseHeld (p.p8 0) 2
          if u.claimed (11 + p.p8 0) then .next ((u.holdMode (p.p8 0) p m).endOp k St.deferred)
          else .next ((u.acceptMode (p.p8 0) m).endOp k St.deferred) := by
  rw [exec]
  unfold execModeSet
  simp only [hp, hm, hoff, Bool.false_and, Bool.false_eq_true, if_false] <;> cases m.fault p <;> simp only

theorem modesAndQueriesAnswer : Rules.ModesAndQueriesAnswer := by
  refine ⟨fun s k p hp hown => ?_, fun s k c p hp hc hno => ?_, fun s k p data hp hw hk => ⟨?_, ?_, ?_⟩, ?_, ?_⟩
  · rw [exec]
    unfold execOutputQuery
    cases hr : p.ring with
    | client c =>
      simp only [hp, hr]
      rw [if_neg (by rw [hown c hr]; decide)]
    | med =>
      simp only [hp, hr]
      rw [if_neg (by decide)]
    | s =>
      simp only [hp, hr]
      rw [if_neg (by decide)]
  · rw [exec]
    unfold execOutputQuery
    simp only [hp, hc]
    rw [if_pos (by rw [hno]; decide)]
  · rw [exec, execAuxXfer, hp]
    dsimp only
    rw [if_neg (by rw [hw]; decide), if_pos hk]
  · rw [exec, execAuxXfer, hp]
    dsimp only
    rw [if_neg (by rw [hw]; decide)]
  · rw [exec, execAuxXfer, hp]
    dsimp only
    rw [if_neg (by rw [hw]; decide)]
  · intro s k p m hp hoff hf hl hh
    have hexec := exec_modeSet hp (m := m) rfl hoff
    simp only [hf, hl, State.refuseHeld_none 2 hh] at hexec
    exact ⟨fun hc => by simpa [hc] using hexec, fun hc => by simpa [hc] using hexec⟩
  · intro s k p m hp hoff
    have hexec := exec_modeSet hp (m := m) rfl hoff
    refine ⟨fun o ho => ?_, fun hf hl => ?_, fun hf hl => ?_⟩
    · simpa only [ho] using hexec
    · simpa [hf, hl] using hexec
    · simpa [hf, hl] using hexec

/-! Slots (R217, R235, R236, R239, R240). -/

/-- Slot `l` assigned to client `c` on output `n` at Z `z`, placed at `pos` with size `size`. -/
def State.assigned (s : State) (l c n z pos size : Nat) : State :=
  let u := ((s.setRg (Reg.DPIPE_LOWNER l) (BitVec.ofNat 32 (2 ^ 31 + c))).setFld F.DPIPE_LCTRL_OUTPUT n l).setFld F.DPIPE_LCTRL_Z z l
  let u := (u.setRg (Reg.DPIPE_LPLACE_POS l) (BitVec.ofNat 32 pos)).setRg (Reg.DPIPE_LPLACE_SIZE l) (BitVec.ofNat 32 size)
  (u.setSlot l { SlotSt.blank with live := u.shadowLayer l }).setFld F.DPIPE_LSTAT_UNDERRUNS 0 l

section
variable (s : State) (l c n z pos size : Nat)

theorem State.assigned_rest : s.assigned l c n z pos size =
    { s with regs := (s.assigned l c n z pos size).regs, disp := (s.assigned l c n z pos size).disp } := by
  unfold State.assigned
  apply State.eq_of_parts <;> simp

theorem SameRegsBut.assigned : SameRegsBut
    [Reg.DPIPE_LOWNER l, Reg.DPIPE_LCTRL l, Reg.DPIPE_LPLACE_POS l, Reg.DPIPE_LPLACE_SIZE l, Reg.DPIPE_LSTAT l] s (s.assigned l c n z pos size) := by
  unfold State.assigned
  dsimp only
  refine SameRegsBut.trans ?_ (.setFld _ F.DPIPE_LSTAT_UNDERRUNS 0 l (by simp [Fld.addr, F.DPIPE_LSTAT_UNDERRUNS, Reg.DPIPE_LSTAT]))
  refine SameRegsBut.trans ?_ (.of_regs (State.setSlot_regs _ _ _))
  exact (SameRegsBut.setRg s _ _ (by simp)).trans ((SameRegsBut.setFld _ F.DPIPE_LCTRL_OUTPUT n l
    (by simp [Fld.addr, F.DPIPE_LCTRL_OUTPUT, Reg.DPIPE_LCTRL])).trans ((SameRegsBut.setFld _ F.DPIPE_LCTRL_Z z l
    (by simp [Fld.addr, F.DPIPE_LCTRL_Z, Reg.DPIPE_LCTRL])).trans ((SameRegsBut.setRg _ _ _ (by simp)).trans (.setRg _ _ _ (by simp)))))

theorem State.slot_assigned {j : Nat} (h : j ≠ l) : (s.assigned l c n z pos size).slot j = s.slot j := by
  unfold State.assigned
  dsimp only
  rw [State.slot_of_disp (State.setFld_disp ..), State.slot_setSlot_ne _ _ h]
  exact State.slot_of_disp (by simp) j

theorem State.rg_assigned_owner : (s.assigned l c n z pos size).rg (Reg.DPIPE_LOWNER l) = BitVec.ofNat 32 (2 ^ 31 + c) := by
  unfold State.assigned
  dsimp only
  rw [State.rg_setFld_ne _ _ _ (by simp only [Fld.addr, F.DPIPE_LSTAT_UNDERRUNS, Reg.DPIPE_LOWNER]; omega), State.rg_of_setSlot,
    State.rg_setRg_ne _ _ (by simp only [Reg.DPIPE_LOWNER, Reg.DPIPE_LPLACE_SIZE]; omega),
    State.rg_setRg_ne _ _ (by simp only [Reg.DPIPE_LOWNER, Reg.DPIPE_LPLACE_POS]; omega),
    State.rg_setFld_ne _ _ _ (by simp only [Fld.addr, F.DPIPE_LCTRL_Z, Reg.DPIPE_LOWNER]; omega),
    State.rg_setFld_ne _ _ _ (by simp only [Fld.addr, F.DPIPE_LCTRL_OUTPUT, Reg.DPIPE_LOWNER]; omega), State.rg_setRg]

theorem State.rg_assigned_ctrl : (s.assigned l c n z pos size).rg (Reg.DPIPE_LCTRL l) =
    ((s.setFld F.DPIPE_LCTRL_OUTPUT n l).setFld F.DPIPE_LCTRL_Z z l).rg (Reg.DPIPE_LCTRL l) := by
  unfold State.assigned
  dsimp only
  rw [State.rg_setFld_ne _ _ _ (by simp only [Fld.addr, F.DPIPE_LSTAT_UNDERRUNS, Reg.DPIPE_LCTRL]; omega), State.rg_of_setSlot,
    State.rg_setRg_ne _ _ (by simp only [Reg.DPIPE_LCTRL, Reg.DPIPE_LPLACE_SIZE]; omega),
    State.rg_setRg_ne _ _ (by simp only [Reg.DPIPE_LCTRL, Reg.DPIPE_LPLACE_POS]; omega)]
  simp only [State.setFld, show F.DPIPE_LCTRL_OUTPUT.addr l = Reg.DPIPE_LCTRL l from rfl, show F.DPIPE_LCTRL_Z.addr l = Reg.DPIPE_LCTRL l from rfl,
    State.rg_setRg]
  rw [State.rg_setRg_ne _ _ (by simp only [Reg.DPIPE_LCTRL, Reg.DPIPE_LOWNER]; omega)]

theorem State.fld_of_rg {u v : State} {f : Fld} {l : Nat} (h : u.rg (f.addr l) = v.rg (f.addr l)) : u.fld f l = v.fld f l := by
  rw [State.fld, State.fld, h]

theorem bitsOf_valid_owner {c : Nat} (h : c < 4096) :
    bitsOf (BitVec.ofNat 32 (2 ^ 31 + c)) 31 31 = 1 ∧ bitsOf (BitVec.ofNat 32 (2 ^ 31 + c)) 11 0 = c := by
  have hlt : 2 ^ 31 + c < 2 ^ 32 := by omega
  simp only [bitsOf, BitVec.toNat_ofNat, Nat.mod_eq_of_lt hlt]
  omega

end

/-- LAYER_ASSIGN of a free slot. -/
theorem layerAssign_assigns {s : State} {k l : Nat} {p : Started} (hp : s.opAt k 0x0803 = some p) (h255 : p.p8 0 = 255)
    (hout : s.hasOutput (p.p8 1) (p.p16 2) = true) (hquota : (s.slotsHeld (p.p16 2)).length < (s.client (p.p16 2)).layers)
    (hroom : (s.slotsOf (p.p8 1)).length < 16)
    (hz : (s.slotsOf (p.p8 1)).any (fun j => s.fld F.DPIPE_LCTRL_Z j == p.p8 4 || ((s.slot j).replace.map (·.1)) == some (p.p8 4)) = false)
    (hfree : (List.range 64).find? (fun j => !s.slotUsed j) = some l) :
    exec (.layerAssign k) s = .next ((s.assigned l (p.p16 2) (p.p8 1) (p.p8 4) (p.p16 8 + p.p16 10 * 0x10000)
      (p.p16 12 + p.p16 14 * 0x10000)).endOp k St.ok l) := by
  have hothers : (s.slotsOf (p.p8 1)).filter (fun l => !(decide (p.p8 0 ≠ 255) && l == p.p8 0)) = s.slotsOf (p.p8 1) := by
    rw [List.filter_eq_self]
    intro a _
    simp [h255]
  rw [exec, execLayerAssign, hp]
  dsimp only
  rw [hothers, if_neg (by rw [hout]; decide), if_neg (by simp [h255]), if_neg (by simp [h255]), if_neg (by simp [h255, hquota]),
    if_neg (by omega), if_neg (by rw [hz]; decide), if_neg (by simp [h255]), hfree]
  rfl

theorem slotsAreAssignedAndReleased : Rules.SlotsAreAssignedAndReleased := by
  refine ⟨fun s k l p hp h255 hout hquota hroom hz hfree hc hn hz4 => ?_, fun s k p hp hout => ?_, fun s k p hp hu => ⟨fun he => ?_, fun he => ?_⟩,
    fun s s1 k p b hp hr hb => ⟨_, rfl, ?_⟩⟩
  · refine ⟨_, layerAssign_assigns hp h255 hout hquota hroom hz hfree, ?_⟩
    generalize hu : s.assigned l (p.p16 2) (p.p8 1) (p.p8 4) (p.p16 8 + p.p16 10 * 0x10000) (p.p16 12 + p.p16 14 * 0x10000) = u
    have hplace : u.place k = some p := by
      rw [← hu, State.place_of_cp (s := s) (by rw [State.assigned_rest])]
      exact State.place_of_opAt hp
    have hown : u.rg (Reg.DPIPE_LOWNER l) = BitVec.ofNat 32 (2 ^ 31 + p.p16 2) := by rw [← hu, State.rg_assigned_owner]
    have hctrl := congrArg (State.rg · (Reg.DPIPE_LCTRL l)) hu
    rw [State.rg_assigned_ctrl] at hctrl
    obtain ⟨hvalid, hclient⟩ := bitsOf_valid_owner hc
    refine ⟨State.result_endOp u _ _ _ _ _ _ hplace, ?_, ?_, ?_, ?_, fun j hj => ?_, ?_, ?_⟩
    · rw [State.slotUsed, State.flag_of_endOp]
      have h : u.fld F.DPIPE_LOWNER_VALID l = 1 := (congrArg (bitsOf · 31 31) hown).trans hvalid
      rw [State.flag, h]
      rfl
    · rw [State.slotOwner, State.fld_of_endOp]
      exact (congrArg (bitsOf · 11 0) hown).trans hclient
    · rw [State.slotOut, State.fld_of_endOp, ← State.fld_of_rg (f := F.DPIPE_LCTRL_OUTPUT) hctrl, State.fld_setFld_apart _ _ _ (by decide)]
      exact State.fld_setFld_of_lt (w := 4) s l (by decide) (by omega)
    · rw [State.fld_of_endOp, ← State.fld_of_rg (f := F.DPIPE_LCTRL_Z) hctrl]
      exact State.fld_setFld_of_lt (w := 4) _ l (by decide) (by omega)
    · rw [State.slot_of_disp (State.endOp_disp ..), ← hu, State.slot_assigned _ _ _ _ _ _ _ hj]
    · rw [← hu]
      exact SameRegsBut.trans (.assigned s l _ _ _ _ _) (.endOp _ _ _ _ _ _ _)
    · rw [← hu, State.assigned_rest]
      apply State.eq_of_parts <;> simp
  · rw [exec, execLayerAssign, hp]
    dsimp only
    rw [if_pos (by rw [hout]; decide)]
  · rw [exec, execLayerUnassign, hp]
    dsimp only
    rw [if_neg (by rw [hu]; decide), if_neg (by rw [he]; decide)]
  · rw [exec, execLayerUnassign, hp]
    dsimp only
    rw [if_neg (by rw [hu]; decide), if_pos (by rw [he]; decide)]
  · rw [exec, execPaletteSet, hp]
    dsimp only
    rw [hr]
    dsimp only
    rw [hb]

/-! Layer sets (R222, R226, R231, R232, R237, R238, R240). -/

theorem exec_layerSet {s : State} {k : Nat} {p : Started} (hp : s.opAt k 0x0805 = some p) (hr : s.slotRefusal p.ring (p.p8 0) 0 = none) {u : State}
    (hu : s.writeLayer p (p.p8 0) = u) :
    exec (.layerSet k) s =
      if !(u.shadowLayer (p.p8 0)).pixelsOk (s.comingTiming (s.slotOut (p.p8 0))) then .next (s.endOp k St.range 28)
      else if !u.buffersOk (s.slotOut (p.p8 0)) then .next (s.endOp k St.busy 0 4)
      else if !u.isoFits s then .next (s.endOp k St.busy 0 5)
      else .next (u.syncIso.endOp k St.deferred) := by
  rw [exec]
  unfold execLayerSet
  simp only [hp, hr, hu]

theorem exec_flip {s : State} {k : Nat} {p : Started} (hp : s.opAt k 0x0806 = some p)
    (hown : ∀ o ∈ flipEntries p, s.slotRefusal p.ring (p.p8 (8 + o)) (8 + o) = none)
    (halign : ∀ o ∈ flipEntries p, isYuv (s.shadowLayer (p.p8 (8 + o))).format = true → p.p64 (24 + o) % 64 = 0) {u : State}
    (hu : s.writeFlip p (flipEntries p) = u) :
    exec (.flip k) s = if u.isoFits s then .next (u.syncIso.endOp k St.deferred) else .next (s.endOp k St.busy 0 5) := by
  have hnone : (flipEntries p).findSome? (fun o => s.slotRefusal p.ring (p.p8 (8 + o)) (8 + o)) = none := List.findSome?_eq_none_iff.mpr hown
  have hfind : (flipEntries p).find? (fun o => isYuv (s.shadowLayer (p.p8 (8 + o))).format && p.p64 (24 + o) % 64 != 0) = none := by
    rw [List.find?_eq_none]
    intro o ho
    cases hy : isYuv (s.shadowLayer (p.p8 (8 + o))).format with
    | true => simp [halign o ho hy]
    | false => simp
  rw [exec]
  unfold execFlip
  simp only [hp, hnone, hfind, hu]

theorem State.rebuffer_regs (s : State) (l : Nat) (t : Timing) : (s.rebuffer l t).regs =
    (s.setRg (Reg.DPIPE_LBUF l) (BitVec.ofNat 32 ((s.shadowLayer l).buffer t))).regs := by
  rw [State.rebuffer]

theorem State.rebuffer_rest (s : State) (l : Nat) (t : Timing) : s.rebuffer l t = { s with regs := (s.rebuffer l t).regs } := by
  unfold State.rebuffer
  apply State.eq_of_parts <;> simp

theorem State.armBy_eq (s : State) (l tag : Nat) : ∃ x, s.armBy l tag = (s.setFld F.DPIPE_LCTRL_ARM 1 l).setSlot l x := ⟨_, by rw [State.armBy]⟩

theorem State.armBy_regs (s : State) (l tag : Nat) : (s.armBy l tag).regs = (s.setFld F.DPIPE_LCTRL_ARM 1 l).regs := by
  unfold State.armBy
  rw [State.setSlot_regs]

theorem State.armBy_rest (s : State) (l tag : Nat) : s.armBy l tag = { s with regs := (s.armBy l tag).regs, disp := (s.armBy l tag).disp } := by
  obtain ⟨x, hx⟩ := State.armBy_eq s l tag
  rw [hx]
  apply State.eq_of_parts <;> simp

theorem State.chargeSlot_regs (s : State) (l : Nat) (t : Timing) : (s.chargeSlot l t).regs = s.regs := by
  unfold State.chargeSlot
  rw [State.setSlot_regs]

theorem State.chargeSlot_rest (s : State) (l : Nat) (t : Timing) : s.chargeSlot l t = { s with disp := (s.chargeSlot l t).disp } := by
  unfold State.chargeSlot
  apply State.eq_of_parts <;> simp

/-- What a shadow set's last steps leave in its registers: the buffer's size and ARM, nothing else. -/
theorem State.rg_armed (s : State) (l tag : Nat) (t : Timing) {a : Nat} (hb : a ≠ Reg.DPIPE_LBUF l) (hc : a ≠ Reg.DPIPE_LCTRL l) :
    (((s.rebuffer l t).armBy l tag).chargeSlot l t).rg a = s.rg a := by
  have hregs : (((s.rebuffer l t).armBy l tag).chargeSlot l t).rg a = ((s.rebuffer l t).setFld F.DPIPE_LCTRL_ARM 1 l).rg a :=
    SameRegsBut.of_regs (l := []) ((State.chargeSlot_regs _ _ _).trans (State.armBy_regs _ _ _)) a (by simp)
  rw [hregs, State.rg_setFld_ne _ 1 l hc, State.rebuffer, State.rg_setRg_ne _ _ hb]

theorem State.flag_armed (s : State) (l tag : Nat) (t : Timing) : (((s.rebuffer l t).armBy l tag).chargeSlot l t).flag F.DPIPE_LCTRL_ARM l = true := by
  rw [State.flag_of_regs ((State.chargeSlot_regs _ _ _).trans (State.armBy_regs _ _ _))]
  exact State.flag_setFld_one _ _ (by decide)

theorem State.rg_put32 (s : State) (a b v : Nat) : (s.put32 b v).rg a = if a = b then BitVec.ofNat 32 v else s.rg a := by
  split
  · rename_i h
    rw [h, State.put32, State.rg_setRg]
  · rename_i h
    rw [State.put32, State.rg_setRg_ne _ _ h]

theorem writeLayer_writes (s : State) (p : Started) (l : Nat) :
    (s.writeLayer p l).flag F.DPIPE_LCTRL_ARM l = true ∧ (s.writeLayer p l).rg (Reg.DPIPE_LADDR_LO l) = BitVec.ofNat 32 (p.p32 8) ∧
    (s.writeLayer p l).rg (Reg.DPIPE_LADDR_HI l) = BitVec.ofNat 32 (p.p16 12) ∧
    (s.writeLayer p l).rg (Reg.DPIPE_LPITCH l) = BitVec.ofNat 32 (p.p16 4) ∧
    (s.writeLayer p l).rg (Reg.DPIPE_LSRC_SIZE l) = BitVec.ofNat 32 (p.p32 28) ∧
    (s.writeLayer p l).rg (Reg.DPIPE_LDST_SIZE l) = BitVec.ofNat 32 (p.p32 36) := by
  unfold State.writeLayer
  refine ⟨State.flag_armed _ _ _ _, ?_, ?_, ?_, ?_, ?_⟩ <;> dsimp only <;>
    rw [State.rg_armed _ _ _ _ (by simp [Reg.DPIPE_LADDR_LO, Reg.DPIPE_LADDR_HI, Reg.DPIPE_LPITCH, Reg.DPIPE_LSRC_SIZE, Reg.DPIPE_LDST_SIZE,
      Reg.DPIPE_LBUF]) (by simp [Reg.DPIPE_LADDR_LO, Reg.DPIPE_LADDR_HI, Reg.DPIPE_LPITCH, Reg.DPIPE_LSRC_SIZE, Reg.DPIPE_LDST_SIZE,
      Reg.DPIPE_LCTRL]), State.rg_of_setSlot]
  all_goals
    simp [State.rg_put32, Reg.DPIPE_LADDR_LO, Reg.DPIPE_LADDR_HI, Reg.DPIPE_LCADDR_LO, Reg.DPIPE_LCADDR_HI, Reg.DPIPE_LPITCH,
      Reg.DPIPE_LSRC_POS, Reg.DPIPE_LSRC_SIZE, Reg.DPIPE_LDST_POS, Reg.DPIPE_LDST_SIZE, Reg.DPIPE_LFILL]

theorem State.writeLayer_rest (s : State) (p : Started) (l : Nat) : s.writeLayer p l =
    { s with regs := (s.writeLayer p l).regs, disp := (s.writeLayer p l).disp } := by
  unfold State.writeLayer
  dsimp only
  rw [State.chargeSlot_rest, State.armBy_rest, State.rebuffer_rest]
  apply State.eq_of_parts <;> simp [State.put32]

theorem layerSetsArmTheirShadow : Rules.LayerSetsArmTheirShadow := by
  refine ⟨?_, ?_, ?_⟩
  · intro s k p l u hp hr
    have hexec := exec_layerSet hp hr (u := u) rfl
    refine ⟨fun hpix => ⟨fun hb hi => ?_, fun hb => ?_, fun hb hi => ?_⟩, fun hpix => ?_⟩
    · rw [hexec, if_neg (by rw [hpix]; decide), if_neg (by rw [hb]; decide), if_neg (by rw [hi]; decide)]
    · rw [hexec, if_neg (by rw [hpix]; decide), if_pos (by rw [hb]; decide)]
    · rw [hexec, if_neg (by rw [hpix]; decide), if_neg (by rw [hb]; decide), if_pos (by rw [hi]; decide)]
    · rw [hexec, if_pos (by rw [hpix]; decide)]
  · intro s p l _ u
    obtain ⟨harm, hlo, hhi, hpitch, hsrc, hdst⟩ := writeLayer_writes s p l
    exact ⟨harm, hlo, hhi, hpitch, hsrc, hdst, State.writeLayer_rest s p l⟩
  · intro s k p u hp hown halign
    have hexec := exec_flip hp hown halign (u := u) rfl
    exact ⟨fun hi => by rw [hexec, if_pos hi], fun hi => by rw [hexec, if_neg (by rw [hi]; decide)]⟩

/-- Settles O28: each operation of class 0x02 takes the branch its checks select; the registers of a shadow set stand at different addresses. -/
theorem modesSlotsAndLayerSets : Obligations.ModesSlotsAndLayerSets :=
  ⟨modesAndQueriesAnswer, slotsAreAssignedAndReleased, layerSetsArmTheirShadow⟩

end Sys2Proof.Machine
end

section
/-! PROOFS. The operations of class 0x04, and blending (07 R333-R340; 08 R354). -/

namespace Sys2Proof.Machine

/-! The operations of class 0x04 (07 R333, R334, R336-R340). -/

/-- `PROOF_CTRL[n]` and `PROOF_SINK[n]` after a GUARD_SET that keeps Proof enabled. -/
def State.guardWritten (s : State) (n : Nat) (p : Started) : State :=
  let u := (s.setFlag F.PROOF_CTRL_ENABLE true n).setFlag F.PROOF_CTRL_GUARD (bit (p.p8 1) 1) n
  let u := u.setFlag F.PROOF_CTRL_SINK_EN (bit (p.p8 1) 2) n
  let u := (u.setFld F.PROOF_CTRL_SINK_PERIOD (p.p8 2) n).setFld F.PROOF_CTRL_AREA (p.p32 4 / 4096) n
  if bit (p.p8 1) 2 then u else u.setFld F.PROOF_SINK_VALID 0 n

section
variable (s : State) (n : Nat) (p : Started)

theorem State.guardWritten_rest : s.guardWritten n p = { s with regs := (s.guardWritten n p).regs } := by
  unfold State.guardWritten
  split <;> apply State.eq_of_parts <;> simp

theorem State.guardWritten_ctrl : (s.guardWritten n p).flag F.PROOF_CTRL_ENABLE n = true ∧
    (s.guardWritten n p).flag F.PROOF_CTRL_GUARD n = bit (p.p8 1) 1 ∧ (s.guardWritten n p).flag F.PROOF_CTRL_SINK_EN n = bit (p.p8 1) 2 := by
  have hsink : ∀ {f : Fld}, F.PROOF_SINK_VALID.Apart f → ∀ u : State,
      (if bit (p.p8 1) 2 then u else u.setFld F.PROOF_SINK_VALID 0 n).flag f n = u.flag f n := by
    intro f h u
    split
    · rfl
    · exact State.flag_setFld_apart _ _ _ h
  unfold State.guardWritten
  dsimp only
  refine ⟨?_, ?_, ?_⟩
  · rw [hsink (by decide), State.flag_setFld_apart _ _ _ (by decide), State.flag_setFld_apart _ _ _ (by decide),
      State.flag_setFlag_apart _ _ _ (by decide), State.flag_setFlag_apart _ _ _ (by decide), State.flag_setFlag_same _ _ _ (by decide)]
  · rw [hsink (by decide), State.flag_setFld_apart _ _ _ (by decide), State.flag_setFld_apart _ _ _ (by decide),
      State.flag_setFlag_apart _ _ _ (by decide), State.flag_setFlag_same _ _ _ (by decide)]
  · rw [hsink (by decide), State.flag_setFld_apart _ _ _ (by decide), State.flag_setFld_apart _ _ _ (by decide),
      State.flag_setFlag_same _ _ _ (by decide)]

/-- Without PROOF_SINK, whose VALID a GUARD_SET clears only where it takes the sink's checks off. -/
theorem SameRegsBut.guardCtrl : SameRegsBut [Reg.PROOF_CTRL n] s
    (((((s.setFlag F.PROOF_CTRL_ENABLE true n).setFlag F.PROOF_CTRL_GUARD (bit (p.p8 1) 1) n).setFlag F.PROOF_CTRL_SINK_EN (bit (p.p8 1) 2) n).setFld
      F.PROOF_CTRL_SINK_PERIOD (p.p8 2) n).setFld F.PROOF_CTRL_AREA (p.p32 4 / 4096) n) := by
  have h : Reg.PROOF_CTRL n ∈ [Reg.PROOF_CTRL n] := by simp
  exact ((((SameRegsBut.setFlag s F.PROOF_CTRL_ENABLE _ n h).trans (.setFlag _ F.PROOF_CTRL_GUARD _ n h)).trans
    (.setFlag _ F.PROOF_CTRL_SINK_EN _ n h)).trans (.setFld _ F.PROOF_CTRL_SINK_PERIOD _ n h)).trans (.setFld _ F.PROOF_CTRL_AREA _ n h)

theorem SameRegsBut.guardWritten : SameRegsBut [Reg.PROOF_CTRL n, Reg.PROOF_SINK n] s (s.guardWritten n p) := by
  have hctrl := (SameRegsBut.guardCtrl s n p).mono (k := [Reg.PROOF_CTRL n, Reg.PROOF_SINK n]) (by simp)
  unfold State.guardWritten
  dsimp only
  split
  · exact hctrl
  · exact hctrl.trans (.setFld _ F.PROOF_SINK_VALID _ n (show Reg.PROOF_SINK n ∈ [Reg.PROOF_CTRL n, Reg.PROOF_SINK n] by simp))

theorem State.guardWritten_sink : (bit (p.p8 1) 2 = false → (s.guardWritten n p).flag F.PROOF_SINK_VALID n = false) ∧
    (bit (p.p8 1) 2 = true → (s.guardWritten n p).rg (Reg.PROOF_SINK n) = s.rg (Reg.PROOF_SINK n)) := by
  unfold State.guardWritten
  refine ⟨fun h => ?_, fun h => ?_⟩
  · rw [if_neg (by rw [h]; decide)]
    exact State.flag_setFld_zero _ _ (by decide)
  · rw [if_pos h]
    exact SameRegsBut.guardCtrl s n p _ (by simp [Reg.PROOF_CTRL, Reg.PROOF_SINK])

end

/-- GUARD_SET of an output with Proof enabled, which keeps its area. -/
theorem guardSet_writes {s : State} {k : Nat} {p : Started} (hp : s.opAt k 0x1000 = some p) (hen : bit (p.p8 1) 0 = true)
    (hon : s.flag F.PROOF_CTRL_ENABLE (p.p8 0) = true) (harea : p.p32 4 / 4096 = s.fld F.PROOF_CTRL_AREA (p.p8 0))
    (hstate : s.fld F.PROOF_STAT_STATE (p.p8 0) = 1) (htake : s.prf.takeover = none)
    (hmeets : ((List.range 8).any (fun m => m != p.p8 0 && s.flag F.PROOF_CTRL_ENABLE m && areasMeet (p.p32 4 / 4096) (s.fld F.PROOF_CTRL_AREA m)) ||
      (List.range 35).any (fun i => decide (s.lockCount (p.p32 4 / 4096 + i) ≠ 0))) = false) :
    exec (.guardSet k) s = .next ((s.guardWritten (p.p8 0) p).endOp k St.ok) := by
  rw [exec]
  unfold execGuardSet State.guardWritten
  simp only [hp, hen, hon, hmeets, hstate, htake]
  rw [if_neg (by simp [← harea]), if_neg (by simp), if_neg (by simp), if_neg (by simp), if_neg (by simp)]

/-- Settles O30: each operation of class 0x04 takes the branch its checks select. -/
theorem proofOperationsFollowTheirRules : Obligations.ProofOperationsFollowTheirRules := by
  refine ⟨?_, ?_, fun s k p hp hen => ?_, fun s k p hp => ⟨fun h => ?_, fun h => ?_⟩, fun s k p hp hg hsp => ?_, fun s k p hp hor => ?_,
    fun s k p hp => ⟨fun hr => ?_, fun hr => ?_⟩⟩
  · intro s k p n hp hen hon harea hstate htake hmeets _ _
    obtain ⟨h31, h30, h29⟩ := s.guardWritten_ctrl n p
    obtain ⟨hoff, hkeep⟩ := s.guardWritten_sink n p
    have hplace : (s.guardWritten n p).place k = some p :=
      (State.place_of_cp (s := s) (by rw [State.guardWritten_rest]) k).trans (State.place_of_opAt hp)
    have hrest : (s.guardWritten n p).endOp k St.ok =
        { s with regs := ((s.guardWritten n p).endOp k St.ok).regs, cp := ((s.guardWritten n p).endOp k St.ok).cp } := by
      rw [State.guardWritten_rest]
      apply State.eq_of_parts <;> simp
    refine ⟨_, guardSet_writes hp hen hon harea hstate htake hmeets, State.result_endOp _ _ _ _ _ _ _ hplace, ?_, ?_, ?_, fun h => ?_,
      (SameRegsBut.guardWritten s n p).trans (.endOp _ _ _ _ _ _ _), fun h => ?_, hrest⟩
    · exact (State.flag_of_endOp _ _ _ _ _ _ _ _ _).trans h31
    · exact (State.flag_of_endOp _ _ _ _ _ _ _ _ _).trans h30
    · exact (State.flag_of_endOp _ _ _ _ _ _ _ _ _).trans h29
    · exact (State.flag_of_endOp _ _ _ _ _ _ _ _ _).trans (hoff h)
    · exact (State.rg_of_endOp _ _ _ _ _ _ _ _).trans (hkeep h)
  · intro s k p n u total hp hen
    have hexec : exec (.windowSet k) s = if 4194304 < total then .next (s.endOp k St.range 8) else .next ((u.queuePass n).endOp k St.ok) := by
      rw [exec]
      unfold execWindowSet
      simp only [hp]
      rw [if_neg (by rw [hen]; decide)]
    exact ⟨fun h => by rw [hexec, if_neg (by omega)], fun h => by rw [hexec, if_pos h]⟩
  · rw [exec]
    unfold execWindowSet
    simp only [hp]
    rw [if_pos (by rw [hen]; decide)]
  · rw [exec, execProofReturn, hp]
    dsimp only
    rw [if_neg (by omega)]
  · rw [exec, execProofReturn, hp]
    dsimp only
    rw [if_pos h]
  · have hexec : exec (.proofForce k) s =
        .next (({ s with prf := { s.prf with forced := SMap.set (fun _ => false) s.prf.forced (p.p8 0) true } } : State).endOp k St.deferred) := by
      rw [exec, execProofForce, hp]
      dsimp only
      rw [if_neg (by simp [hg, hsp])]
    refine ⟨_, hexec, State.result_endOp _ _ _ _ _ _ _ (State.place_of_opAt hp), ?_, ?_⟩
    · rw [State.endOp_prf]
      exact SMap.get_set_same (fun _ => false) s.prf.forced (p.p8 0) true
    · apply State.eq_of_parts <;> simp
  · rw [exec, execProofForce, hp]
    dsimp only
    rw [if_pos]
    rcases hor with h | h
    · exact .inl (by rw [h]; rfl)
    · exact .inr h
  · rw [exec, execProofQuery, hp]
    dsimp only
    rw [if_pos hr]
  · rw [exec, execProofQuery, hp]
    dsimp only
    rw [if_neg hr]

/-! Blending (08 R354). -/

/-- One channel of a blend: the two weighted values, rounded and bounded. -/
def blendChannel (f : Nat × Nat) (u v : Nat) : Nat := min 1023 (roundDiv (u * f.1 + v * f.2) 1023)

theorem Pix.blend_eq (a b : Pix) (op : Nat) : a.blend b op =
    ⟨blendChannel (pdFactors op a.q b.q) a.r b.r, blendChannel (pdFactors op a.q b.q) a.g b.g, blendChannel (pdFactors op a.q b.q) a.b b.b,
      blendChannel (pdFactors op a.q b.q) a.q b.q⟩ := rfl

theorem blendChannel_le (f : Nat × Nat) (u v : Nat) : blendChannel f u v ≤ 1023 := Nat.min_le_left _ _

theorem blendChannel_clear (u v : Nat) : blendChannel (0, 0) u v = 0 := by
  rw [blendChannel, roundDiv]
  omega

theorem blendChannel_left {u : Nat} (v : Nat) (h : u ≤ 1023) : blendChannel (1023, 0) u v = u := by
  simp only [blendChannel, roundDiv]
  omega

theorem blendChannel_right (u : Nat) {v : Nat} (h : v ≤ 1023) : blendChannel (0, 1023) u v = v := by
  simp only [blendChannel, roundDiv]
  omega

theorem blendChannel_comm (x y u v : Nat) : blendChannel (x, y) u v = blendChannel (y, x) v u := by
  rw [blendChannel, blendChannel, Nat.add_comm]

/-- Settles O32: with the factors of its mode a channel is one of the two values, or rounding a multiple of 1023. -/
theorem blendModesKeepTheirMeaning : Obligations.BlendModesKeepTheirMeaning := by
  intro a b har hag hab haq hbr hbg hbb hbq
  refine ⟨?_, ?_, ?_, fun hq => ?_, fun hq => ?_, fun op => ?_⟩
  · simp only [Pix.blend_eq, pdFactors, blendChannel_clear]
  · simp only [Pix.blend_eq, pdFactors, blendChannel_left _ har, blendChannel_left _ hag, blendChannel_left _ hab, blendChannel_left _ haq]
  · simp only [Pix.blend_eq, pdFactors, blendChannel_right _ hbr, blendChannel_right _ hbg, blendChannel_right _ hbb, blendChannel_right _ hbq]
  · have hfactors : pdFactors 3 a.q b.q = (1023, 0) := by rw [pdFactors, hq]
    simp only [Pix.blend_eq, hfactors, blendChannel_left _ har, blendChannel_left _ hag, blendChannel_left _ hab, blendChannel_left _ haq]
  · have hatop : pdFactors 10 a.q b.q = (1023 - b.q, 0) := by rw [pdFactors, hq]
    have hexchanged : pdFactors 9 b.q a.q = (0, 1023 - b.q) := by rw [pdFactors, hq]
    simp only [Pix.blend_eq, hatop, hexchanged, blendChannel_comm 0]
  · exact ⟨blendChannel_le _ _ _, blendChannel_le _ _ _, blendChannel_le _ _ _, blendChannel_le _ _ _⟩

end Sys2Proof.Machine
end

section
/-! PROOFS. Segments and faults of the actuators (10). -/

namespace Sys2Proof.Machine

/-! What the parts of an effect leave of the actuators (10 R429-R448). -/

theorem State.act_of_hap {s t : State} (h : t.hap = s.hap) (a : Nat) : t.act a = s.act a := by
  rw [State.act, State.act, h]

/-- Wear is counted: the actuator keeps all but its counts. -/
theorem State.actWear_act (s : State) (a : Nat) :
    ∃ counted revs drive, (s.actWear a).act a = { s.act a with counted := counted, revs := revs, drive := drive } := by
  unfold State.actWear
  dsimp only
  split
  · exact ⟨_, _, _, State.act_setAct _ _ _⟩
  · exact ⟨_, _, _, (State.act_of_hap ((State.satInc_hap ..).trans (State.satInc_hap ..)) a).trans (State.act_setAct _ _ _)⟩

theorem State.actWear_act_ne (s : State) {a b : Nat} (h : b ≠ a) : (s.actWear a).act b = s.act b := by
  unfold State.actWear
  dsimp only
  split
  · exact State.act_setAct_ne _ _ h
  · exact (State.act_of_hap ((State.satInc_hap ..).trans (State.satInc_hap ..)) b).trans (State.act_setAct_ne _ _ h)

theorem SameRegsBut.actWear (s : State) (a : Nat) : SameRegsBut [Reg.HAP_WEAR a, Reg.HAP_DRIVE_S a] s (s.actWear a) := by
  have hregs : ∀ x, SameRegsBut [Reg.HAP_WEAR a, Reg.HAP_DRIVE_S a] s (s.setAct a x) := fun x => .of_regs (State.setAct_regs _ _ _)
  unfold State.actWear
  dsimp only
  split
  · exact hregs _
  · exact ((hregs _).trans (.satInc _ F.HAP_WEAR_COUNT a _ (by simp [Fld.addr, F.HAP_WEAR_COUNT, Reg.HAP_WEAR]))).trans
      (.satInc _ F.HAP_DRIVE_S_COUNT a _ (by simp [Fld.addr, F.HAP_DRIVE_S_COUNT, Reg.HAP_DRIVE_S]))

theorem State.actWear_rest (s : State) (a : Nat) : s.actWear a = { s with regs := (s.actWear a).regs, hap := (s.actWear a).hap } := by
  unfold State.actWear
  dsimp only
  split <;> apply State.eq_of_parts <;> simp

/-- A field outside the registers of the wear. -/
theorem State.fld_actWear (s : State) (a : Nat) {f : Fld} (h : f.addr a ≠ Reg.HAP_WEAR a ∧ f.addr a ≠ Reg.HAP_DRIVE_S a) :
    (s.actWear a).fld f a = s.fld f a := by
  rw [State.fld, State.fld, SameRegsBut.actWear s a (f.addr a) (by simp [h])]

theorem State.flag_actWear (s : State) (a : Nat) {f : Fld} (h : f.addr a ≠ Reg.HAP_WEAR a ∧ f.addr a ≠ Reg.HAP_DRIVE_S a) :
    (s.actWear a).flag f a = s.flag f a := by
  rw [State.flag, State.flag, State.fld_actWear s a h]

theorem State.doneEvent_kept {lo hi : Nat} (hq : QuietRange lo hi) (s : State) (a : Nat) (e : Effect) (how : Nat) :
    s.EventKept lo hi (s.doneEvent a e how) := by
  unfold State.doneEvent
  dsimp only
  split
  · exact (State.EventKept.event hq s _ _ _ _ _ _ _ _).trans (.raise _ _)
  · exact .raise s _

/-! Coast windows and drive starts (10 R439-R442). -/

/-- A coast window that is not low: its back-EMF is shown, and the window is counted. -/
def State.coasted (s : State) (a bemf : Nat) (e : Effect) : State :=
  let u := (s.actWear a).setFld F.HAP_MEAS_BEMF bemf a
  u.setAct a { u.act a with run := some { e with windows := e.windows + 1 }, low := 0
                            learn := (u.act a).learn.map (fun l => { l with bemfs := bemf :: l.bemfs.take 19 }) }

theorem exec_coastWindow {s : State} {a bemf : Nat} {e : Effect} {g : Seg} (hrun : (s.act a).run = some e) (hseg : e.seg = some g)
    (hphase : g.phase = 1) (hdur : 5 * (e.windows + 1) + 1 ≤ g.dur) (hsig : s.flag F.HAP_STAT_SIG_VALID a = false) :
    exec (.coastWindow a bemf) s = .next (s.coasted a bemf e) := by
  have hsig' : ((s.actWear a).setFld F.HAP_MEAS_BEMF bemf a).flag F.HAP_STAT_SIG_VALID a = false := by
    rw [State.flag_setFld_apart _ _ _ (by decide), State.flag_actWear s a (by simp [Fld.addr, F.HAP_STAT_SIG_VALID, Reg.HAP_WEAR, Reg.HAP_DRIVE_S]), hsig]
  rw [exec]
  unfold execCoastWindow State.coasted
  simp only [hrun, hseg]
  rw [if_neg (by omega)]
  generalize (s.actWear a).setFld F.HAP_MEAS_BEMF bemf a = u at *
  simp only [hsig', Bool.false_and, Bool.false_eq_true, if_false, false_and]

theorem coastWindow_counts {s : State} {a bemf : Nat} {e : Effect} {g : Seg} (hrun : (s.act a).run = some e) (hseg : e.seg = some g)
    (hphase : g.phase = 1) (hdur : 5 * (e.windows + 1) + 1 ≤ g.dur) (hsig : s.flag F.HAP_STAT_SIG_VALID a = false) (hb : bemf < 65536) :
    ∃ t, exec (.coastWindow a bemf) s = .next t ∧ t.fld F.HAP_MEAS_BEMF a = bemf ∧ (t.act a).low = 0 ∧
      (t.act a).run = some { e with windows := e.windows + 1 } ∧ (∀ b, b ≠ a → t.act b = s.act b) ∧
      SameRegsBut [Reg.HAP_MEAS a, Reg.HAP_WEAR a, Reg.HAP_DRIVE_S a] s t ∧ t = { s with regs := t.regs, hap := t.hap } := by
  refine ⟨_, exec_coastWindow hrun hseg hphase hdur hsig, ?_, ?_, ?_, fun b hne => ?_, ?_, ?_⟩ <;> unfold State.coasted <;> dsimp only
  · rw [State.fld_of_regs (State.setAct_regs _ _ _)]
    exact State.fld_setFld_of_lt (w := 16) _ a (by decide) (by omega)
  · rw [State.act_setAct]
  · rw [State.act_setAct]
  · rw [State.act_setAct_ne _ _ hne, State.act_of_hap (State.setFld_hap ..), State.actWear_act_ne s hne]
  · exact (((SameRegsBut.actWear s a).mono (by simp)).trans (.setFld _ F.HAP_MEAS_BEMF _ a (by simp [Fld.addr, F.HAP_MEAS_BEMF, Reg.HAP_MEAS]))).trans
      (.of_regs (State.setAct_regs _ _ _))
  · rw [State.actWear_rest]
    apply State.eq_of_parts <;> simp

/-- A drive start whose current is there: the resistance is shown, and the check is done. -/
def State.openChecked (s : State) (a r : Nat) : State :=
  let u := s.setFld F.HAP_MEAS_R r a
  u.setAct a { s.act a with openDue := none, odd := 0, learn := (s.act a).learn.map (fun l => { l with rsig := r }) }

theorem exec_openCheck {s : State} {a ma c : Nat} {e : Effect} {g : Seg} (hdue : (s.act a).openDue = some c) (hrun : (s.act a).run = some e)
    (hseg : e.seg = some g) (hma : ma ≠ 0) (hsig : s.flag F.HAP_STAT_SIG_VALID a = false) (hopen : (s.act a).duty < 3200 ∨ e.openMa ≤ ma) :
    exec (.openCheck a ma) s = .next (s.openChecked a (min 0xFFFF ((2 * 10 * s.applied127 e g + 127 * ma) / (2 * 127 * ma)))) := by
  have hsig' : ∀ r, (s.setFld F.HAP_MEAS_R r a).flag F.HAP_STAT_SIG_VALID a = false := fun r => by
    rw [State.flag_setFld_apart _ _ _ (by decide), hsig]
  have hclosed : ¬ (3200 ≤ (s.act a).duty ∧ ma < e.openMa) := by omega
  rw [exec]
  unfold execOpenCheck State.openChecked
  simp only [hdue, hrun, hseg, Option.bind_some, Option.map_some, if_neg hma, hsig', Bool.false_and, Bool.false_eq_true, if_false, if_neg hclosed]
  rw [if_neg (by decide)]

theorem openCheck_shows {s : State} {a ma c : Nat} {e : Effect} {g : Seg} (hdue : (s.act a).openDue = some c) (hrun : (s.act a).run = some e)
    (hseg : e.seg = some g) (hma : ma ≠ 0) (hsig : s.flag F.HAP_STAT_SIG_VALID a = false) (hopen : (s.act a).duty < 3200 ∨ e.openMa ≤ ma) :
    ∃ t, exec (.openCheck a ma) s = .next t ∧
      t.fld F.HAP_MEAS_R a = min 0xFFFF ((2 * 10 * s.applied127 e g + 127 * ma) / (2 * 127 * ma)) ∧ (t.act a).openDue = none ∧ (t.act a).odd = 0 ∧
      (∀ b, b ≠ a → t.act b = s.act b) ∧ SameRegsBut [Reg.HAP_MEAS a] s t ∧ t = { s with regs := t.regs, hap := t.hap } := by
  refine ⟨_, exec_openCheck hdue hrun hseg hma hsig hopen, ?_⟩
  generalize hr : min 0xFFFF ((2 * 10 * s.applied127 e g + 127 * ma) / (2 * 127 * ma)) = r
  refine ⟨?_, ?_, ?_, fun b hne => ?_, ?_, ?_⟩ <;> unfold State.openChecked <;> dsimp only
  · rw [State.fld_of_regs (State.setAct_regs _ _ _)]
    exact State.fld_setFld_of_lt (w := 16) _ a (by decide) (by omega)
  · rw [State.act_setAct]
  · rw [State.act_setAct]
  · rw [State.act_setAct_ne _ _ hne, State.act_of_hap (State.setFld_hap ..)]
  · exact (SameRegsBut.setFld s F.HAP_MEAS_R _ a (by simp [Fld.addr, F.HAP_MEAS_R, Reg.HAP_MEAS])).trans (.of_regs (State.setAct_regs _ _ _))
  · apply State.eq_of_parts <;> simp

/-! Actuator faults (10 R439, R440; 17 R636). -/

theorem State.faultHeld_apart (s : State) (cls inst extra : Nat) {a : Nat} (ha : 0x1000050c < a) :
    (s.faultHeld cls inst extra).rg a = s.rg a ∧ (s.faultHeld cls inst extra).hap = s.hap := by
  have hfirst : ∀ u : State, (u.noteFirst cls inst).rg a = u.rg a ∧ (u.noteFirst cls inst).hap = u.hap := by
    intro u
    unfold State.noteFirst
    refine ⟨?_, by simp [State.noteFirstAt]⟩
    dsimp only
    rw [State.rg_setRg_ne _ _ (by simp only [Reg.DEV_FAULT_TIME_HI]; omega), State.rg_setRg_ne _ _ (by simp only [Reg.DEV_FAULT_TIME_LO]; omega),
      State.rg_setFld_ne _ _ _ (by simp only [Fld.addr, F.DEV_FAULT_FIRST_INSTANCE]; omega),
      State.rg_setFld_ne _ _ _ (by simp only [Fld.addr, F.DEV_FAULT_FIRST_CLASS]; omega)]
    simp only [State.rg, State.noteFirstAt_regs]
  have hclass : (s.noteClass cls).rg a = s.rg a ∧ (s.noteClass cls).hap = s.hap :=
    ⟨State.rg_setFld_ne _ _ _ (by simp only [Fld.addr, F.DEV_FAULT_STAT_CLASSES]; omega), State.setFld_hap ..⟩
  have hnoted : (s.faultNoted cls inst).rg a = s.rg a ∧ (s.faultNoted cls inst).hap = s.hap := by
    unfold State.faultNoted
    rw [State.rg_of_raise, State.raise_hap]
    split
    · exact ⟨(hfirst _).1.trans hclass.1, (hfirst _).2.trans hclass.2⟩
    · exact hclass
  have hshown : ∀ u : State, (u.faultShown cls inst extra).rg a = u.rg a ∧ (u.faultShown cls inst extra).hap = u.hap := by
    intro u
    have hregs : (u.faultShown cls inst extra).regs = ((u.faultRecord cls inst extra).setFld F.DEV_FAULT_STAT_FAULT 1).regs := State.assertFaultN_regs _
    refine ⟨?_, ?_⟩
    · have hrg : (u.faultShown cls inst extra).rg a = ((u.faultRecord cls inst extra).setFld F.DEV_FAULT_STAT_FAULT 1).rg a :=
        SameRegsBut.of_regs (l := []) hregs a (by simp)
      rw [hrg, State.rg_setFld_ne _ _ _ (by simp only [Fld.addr, F.DEV_FAULT_STAT_FAULT]; omega)]
      simp only [State.rg, State.faultRecord_regs]
    · unfold State.faultShown State.assertFaultN
      dsimp only
      rw [State.setFld_hap]
      unfold State.faultRecord
      dsimp only
      split <;> rfl
  unfold State.faultHeld
  split
  · exact ⟨(hshown _).1.trans hnoted.1, (hshown _).2.trans hnoted.2⟩
  · exact hnoted

/-- A fault leaves an actuator's registers and state. -/
theorem State.fault_actKept (s : State) (cls inst : Nat) {a : Nat} (ha : a < 8) :
    (s.fault cls inst).rg (Reg.HAP_STAT a) = s.rg (Reg.HAP_STAT a) ∧ (s.fault cls inst).hap = s.hap := by
  have hq : QuietRange (Reg.HAP_STAT a) (Reg.HAP_STAT a) := by constructor <;> simp only [Reg.HAP_STAT] <;> omega
  have hmiss : (F.RUB_MISS_COUNT.addr 0 < Reg.HAP_STAT a ∨ Reg.HAP_STAT a < F.RUB_MISS_COUNT.base) ∧
      (F.RUB_MISS_FIRST.addr 0 < Reg.HAP_STAT a ∨ Reg.HAP_STAT a < F.RUB_MISS_FIRST.base) := by
    simp only [Reg.HAP_STAT, Fld.addr, F.RUB_MISS_COUNT, F.RUB_MISS_FIRST]
    omega
  obtain ⟨hregs, _, hhap⟩ := State.fault_kept hmiss hq s cls inst 0
  obtain ⟨hrg, hheld⟩ := s.faultHeld_apart cls inst 0 (a := Reg.HAP_STAT a) (by simp only [Reg.HAP_STAT]; omega)
  exact ⟨(hregs _ le_rfl le_rfl).trans hrg, hhap.trans hheld⟩

theorem State.actEvent_kept {lo hi : Nat} (hq : QuietRange lo hi) (s : State) (a code d0 d1 d2 : Nat) :
    s.EventKept lo hi (s.actEvent a code d0 d1 d2) := by
  have hmed := State.EventKept.event hq s .med code a d0 d1 d2 0 (ringClient .med)
  unfold State.actEvent
  generalize s.event .med code a d0 d1 d2 = u at *
  dsimp only
  split
  · have hholder := fun c => hmed.trans (State.EventKept.event hq u (.client c) code a d0 d1 d2 0 (ringClient (.client c)))
    split
    · exact (hholder _).trans (.event hq _ _ _ _ _ _ _ _ _)
    · exact hholder _
  · split
    · exact hmed.trans (.event hq _ _ _ _ _ _ _ _ _)
    · exact hmed

/-- The bridge coasts, in state `state`. -/
theorem State.actIdle_act (s : State) (a state : Nat) :
    ((s.actIdle a state).act a).run = none ∧ ((s.actIdle a state).act a).bridge = .coast ∧ ((s.actIdle a state).act a).duty = 0 := by
  have hact : (s.actIdle a state).act a = { s.act a with run := none, bridge := .coast, duty := 0, openDue := none } := by
    unfold State.actIdle
    dsimp only
    rw [State.act_of_hap (State.setFld_hap ..), State.act_of_hap (State.setFld_hap ..), State.act_of_hap (State.setFld_hap ..),
      State.act_of_hap (State.setFld_hap ..), State.act_setAct]
  rw [hact]
  exact ⟨rfl, rfl, rfl⟩

theorem State.actIdle_act_ne (s : State) {a b : Nat} (state : Nat) (h : b ≠ a) : (s.actIdle a state).act b = s.act b := by
  unfold State.actIdle
  dsimp only
  rw [State.act_of_hap (State.setFld_hap ..), State.act_of_hap (State.setFld_hap ..), State.act_of_hap (State.setFld_hap ..),
    State.act_of_hap (State.setFld_hap ..), State.act_setAct_ne _ _ h]

/-- A fault's event, sent when the effect that runs is over. -/
def State.faultTold (s : State) (a kind value : Nat) : State :=
  let u := s.actWear a
  match (u.act a).run with
  | some e => (u.doneEvent a e 3).actEvent a 0x1C02 kind value e.number
  | none => u.actEvent a 0x1C02 kind value 0

theorem State.faultTold_hap {s : State} (a kind value : Nat) : (s.faultTold a kind value).hap = (s.actWear a).hap := by
  have hq : QuietRange 0x10000500 0x1000050c := quietRange_faults
  unfold State.faultTold
  dsimp only
  split
  · exact ((State.doneEvent_kept hq _ a _ 3).trans (State.actEvent_kept hq _ a _ _ _ _)).hap
  · exact (State.actEvent_kept hq _ a _ _ _ _).hap

/-- An actuator's fault before it is recorded. -/
def State.faultCoasts (s : State) (a kind value : Nat) : State :=
  let u := s.faultTold a kind value
  ((u.setAct a { u.act a with learn := none, low := 0 }).setFld F.HAP_STAT_FAULT kind a).actIdle a 3

theorem State.actFault_eq (s : State) (a kind value : Nat) : s.actFault a kind value = ((s.faultCoasts a kind value).raise (224 + a)).fault 9 a := rfl

theorem State.faultCoasts_stat (s : State) (a value : Nat) {kind : Nat} (h : kind < 4) :
    (s.faultCoasts a kind value).fld F.HAP_STAT_FAULT a = kind ∧ (s.faultCoasts a kind value).fld F.HAP_STAT_STATE a = 3 := by
  unfold State.faultCoasts State.actIdle
  dsimp only
  refine ⟨?_, ?_⟩
  · rw [State.fld_setFld_apart _ _ _ (by decide), State.fld_setFld_apart _ _ _ (by decide), State.fld_setFld_apart _ _ _ (by decide),
      State.fld_setFld_apart _ _ _ (by decide), State.fld_of_regs (State.setAct_regs _ _ _)]
    exact State.fld_setFld_of_lt (w := 2) _ a (by decide) (by omega)
  · rw [State.fld_setFld_apart _ _ _ (by decide), State.fld_setFld_apart _ _ _ (by decide), State.fld_setFld_apart _ _ _ (by decide)]
    exact State.fld_setFld_of_lt (w := 2) _ a (by decide) (by omega)

theorem State.faultCoasts_act_ne (s : State) {a b : Nat} (kind value : Nat) (h : b ≠ a) : (s.faultCoasts a kind value).act b = s.act b := by
  unfold State.faultCoasts
  dsimp only
  rw [State.actIdle_act_ne _ _ h, State.act_of_hap (State.setFld_hap ..), State.act_setAct_ne _ _ h, State.act_of_hap (State.faultTold_hap _ _ _),
    State.actWear_act_ne s h]

theorem actFault_coasts (s : State) {a kind : Nat} (value : Nat) (ha : a < 8) (hk : kind < 4) :
    (s.actFault a kind value).fld F.HAP_STAT_FAULT a = kind ∧ (s.actFault a kind value).fld F.HAP_STAT_STATE a = 3 ∧
    ((s.actFault a kind value).act a).run = none ∧ ((s.actFault a kind value).act a).bridge = .coast ∧ ((s.actFault a kind value).act a).duty = 0 ∧
    (∀ b, b ≠ a → (s.actFault a kind value).act b = s.act b) := by
  obtain ⟨hstat, hhap⟩ := State.fault_actKept ((s.faultCoasts a kind value).raise (224 + a)) 9 a ha
  rw [State.rg_of_raise] at hstat
  rw [State.raise_hap] at hhap
  rw [← State.actFault_eq] at hstat hhap
  obtain ⟨hfault, hstate⟩ := s.faultCoasts_stat a value hk
  have hact : (s.actFault a kind value).act a = (s.faultCoasts a kind value).act a := State.act_of_hap hhap a
  obtain ⟨hrun, hbridge, hduty⟩ := State.actIdle_act
    (((s.faultTold a kind value).setAct a { (s.faultTold a kind value).act a with learn := none, low := 0 }).setFld F.HAP_STAT_FAULT kind a) a 3
  refine ⟨(State.fld_of_rg hstat).trans hfault, (State.fld_of_rg hstat).trans hstate, ?_, ?_, ?_, fun b hne => ?_⟩
  · rw [hact]
    exact hrun
  · rw [hact]
    exact hbridge
  · rw [hact]
    exact hduty
  · rw [State.act_of_hap hhap, State.faultCoasts_act_ne s _ _ hne]

/-! Segments (10 R429, R435). -/

theorem State.act_doneEvent (s : State) (a : Nat) (e : Effect) (how b : Nat) : (s.doneEvent a e how).act b = s.act b :=
  State.act_of_hap (State.doneEvent_kept quietRange_faults s a e how).hap b

/-- Settles O38: counting wear leaves what an actuator runs, and an event or a fault leaves every actuator. -/
theorem segmentsRunAndFaultsCoast : Obligations.SegmentsRunAndFaultsCoast := by
  refine ⟨fun s a e hrun hidx => ?_, fun s a e hrun hidx hrounds => ?_, fun s a e hrun hidx hrounds hlearn => ⟨_, rfl, ?_⟩,
    fun s a bemf e g hrun hseg hphase hdur _ hsig hb => coastWindow_counts hrun hseg hphase hdur hsig hb,
    fun s a ma e g c hdue hrun hseg hma _ hsig hopen => openCheck_shows hdue hrun hseg hma hsig hopen, fun s a ma hma hdrives => ?_,
    fun s mv => ?_, fun s a kind value ha hk => actFault_coasts s value ha hk⟩
  · rw [exec, execSegmentEnd, hrun]
    dsimp only
    rw [if_pos hidx]
  · rw [exec, execSegmentEnd, hrun]
    dsimp only
    rw [if_neg (by omega), if_pos hrounds]
  · rw [State.act_doneEvent] at hlearn
    rw [exec, execSegmentEnd, hrun]
    dsimp only
    rw [if_neg (by omega), if_neg (by omega), hlearn, State.act_doneEvent]
  · rw [exec, execOvercurrent, if_pos ⟨hma, hdrives⟩]
  · rw [exec, execVhapMeasure]

end Sys2Proof.Machine
end

section
/-! PROOFS. Effects, triggers and the operations of class 0x07 (10). -/

namespace Sys2Proof.Machine

/-! Starting an effect (10 R434, R436, R439). -/

theorem State.actDuty_act (s : State) (a : Nat) : ∃ d, (s.actDuty a).act a = { s.act a with duty := d } := by
  unfold State.actDuty
  dsimp only
  split
  · exact ⟨_, State.act_setAct _ _ _⟩
  · split
    · exact ⟨_, (State.act_of_hap (State.setFld_hap ..) a).trans (State.act_setAct _ _ _)⟩
    · exact ⟨_, State.act_setAct _ _ _⟩

theorem State.actDuty_act_ne (s : State) {a b : Nat} (h : b ≠ a) : (s.actDuty a).act b = s.act b := by
  unfold State.actDuty
  dsimp only
  split
  · exact State.act_setAct_ne _ _ h
  · split
    · exact (State.act_of_hap (State.setFld_hap ..) b).trans (State.act_setAct_ne _ _ h)
    · exact State.act_setAct_ne _ _ h

theorem SameRegsBut.actDuty (s : State) (a : Nat) : SameRegsBut [Reg.HAP_STAT a] s (s.actDuty a) := by
  unfold State.actDuty
  dsimp only
  split
  · exact .of_regs (State.setAct_regs _ _ _)
  · split
    · exact SameRegsBut.trans (.of_regs (State.setAct_regs _ _ _)) (.setFld _ F.HAP_STAT_SAT _ a (by simp [Fld.addr, F.HAP_STAT_SAT, Reg.HAP_STAT]))
    · exact .of_regs (State.setAct_regs _ _ _)

theorem State.fld_actDuty (s : State) (a : Nat) {f : Fld} (h : F.HAP_STAT_SAT.Apart f) : (s.actDuty a).fld f a = s.fld f a := by
  unfold State.actDuty
  dsimp only
  split
  · exact State.fld_of_regs (State.setAct_regs _ _ _) _ _
  · split
    · exact (State.fld_setFld_apart _ _ _ h).trans (State.fld_of_regs (State.setAct_regs _ _ _) _ _)
    · exact State.fld_of_regs (State.setAct_regs _ _ _) _ _

theorem State.actDuty_rest (s : State) (a : Nat) : s.actDuty a = { s with regs := (s.actDuty a).regs, hap := (s.actDuty a).hap } := by
  unfold State.actDuty
  dsimp only
  split
  · apply State.eq_of_parts <;> simp
  · split <;> apply State.eq_of_parts <;> simp

/-- `HAP_STAT` while a segment of an effect runs. -/
def State.showSeg (s : State) (a : Nat) (e : Effect) : State :=
  (((s.setFld F.HAP_STAT_STATE 2 a).setFld F.HAP_STAT_EFFECT e.number a).setFld F.HAP_STAT_SEGMENT e.idx a).setFlag F.HAP_STAT_SAFETY e.safety a

theorem State.showSeg_shows (s : State) (a : Nat) {e : Effect} (h : e.idx < 256) :
    (s.showSeg a e).fld F.HAP_STAT_STATE a = 2 ∧ (s.showSeg a e).fld F.HAP_STAT_SEGMENT a = e.idx ∧
    (s.showSeg a e).flag F.HAP_STAT_SAFETY a = e.safety := by
  unfold State.showSeg
  refine ⟨?_, ?_, State.flag_setFlag_same _ _ _ (by decide)⟩
  · rw [State.fld_setFlag_apart _ _ _ (by decide), State.fld_setFld_apart _ _ _ (by decide), State.fld_setFld_apart _ _ _ (by decide)]
    exact State.fld_setFld_of_lt (w := 2) _ a (by decide) (by omega)
  · rw [State.fld_setFlag_apart _ _ _ (by decide)]
    exact State.fld_setFld_of_lt (w := 8) _ a (by decide) (by omega)

theorem SameRegsBut.showSeg (s : State) (a : Nat) (e : Effect) : SameRegsBut [Reg.HAP_STAT a] s (s.showSeg a e) := by
  have h : Reg.HAP_STAT a ∈ [Reg.HAP_STAT a] := by simp
  exact (((SameRegsBut.setFld s F.HAP_STAT_STATE 2 a h).trans (.setFld _ F.HAP_STAT_EFFECT _ a h)).trans (.setFld _ F.HAP_STAT_SEGMENT _ a h)).trans
    (.setFlag _ F.HAP_STAT_SAFETY _ a h)

theorem State.showSeg_hap (s : State) (a : Nat) (e : Effect) : (s.showSeg a e).hap = s.hap := by simp [State.showSeg]

theorem State.showSeg_rest (s : State) (a : Nat) (e : Effect) : s.showSeg a e = { s with regs := (s.showSeg a e).regs } := by
  unfold State.showSeg
  apply State.eq_of_parts <;> simp

/-- An actuator that takes a segment up, and the count of its drive starts. -/
def State.driveSeg (s : State) (a : Nat) (e : Effect) (g : Seg) : State :=
  let x := s.act a
  let start := g.bridge.drives && !x.bridge.drives
  let u := s.setAct a { x with
    run := some { e with began := s.cyc, windows := 0, braked := e.braked || g.phase == 2 }, bridge := g.bridge
    openDue := if start then some s.cyc else if g.bridge.drives then x.openDue else none }
  if start then u.satInc F.HAP_STARTS_COUNT a else u

theorem State.driveSeg_act (s : State) (a : Nat) (e : Effect) (g : Seg) :
    ((s.driveSeg a e g).act a).run = some { e with began := s.cyc, windows := 0, braked := e.braked || g.phase == 2 } ∧
    ((s.driveSeg a e g).act a).bridge = g.bridge := by
  unfold State.driveSeg
  dsimp only
  split
  · rw [State.act_of_hap (State.satInc_hap ..), State.act_setAct]
    exact ⟨rfl, rfl⟩
  · rw [State.act_setAct]
    exact ⟨rfl, rfl⟩

theorem State.driveSeg_act_ne (s : State) {a b : Nat} (e : Effect) (g : Seg) (h : b ≠ a) : (s.driveSeg a e g).act b = s.act b := by
  unfold State.driveSeg
  dsimp only
  split
  · rw [State.act_of_hap (State.satInc_hap ..), State.act_setAct_ne _ _ h]
  · rw [State.act_setAct_ne _ _ h]

theorem SameRegsBut.driveSeg (s : State) (a : Nat) (e : Effect) (g : Seg) : SameRegsBut [Reg.HAP_STARTS a] s (s.driveSeg a e g) := by
  unfold State.driveSeg
  dsimp only
  split
  · exact SameRegsBut.trans (.of_regs (State.setAct_regs _ _ _))
      (.satInc _ F.HAP_STARTS_COUNT a _ (by simp [Fld.addr, F.HAP_STARTS_COUNT, Reg.HAP_STARTS]))
  · exact .of_regs (State.setAct_regs _ _ _)

theorem State.driveSeg_rest (s : State) (a : Nat) (e : Effect) (g : Seg) :
    s.driveSeg a e g = { s with regs := (s.driveSeg a e g).regs, hap := (s.driveSeg a e g).hap } := by
  unfold State.driveSeg
  dsimp only
  split <;> apply State.eq_of_parts <;> simp

theorem State.beginSeg_eq {s : State} {a : Nat} {e : Effect} {g : Seg} (h : e.seg = some g) :
    s.beginSeg a e = ((s.driveSeg a e g).showSeg a e).actDuty a := by
  unfold State.beginSeg State.driveSeg State.showSeg
  rw [h]

/-- An actuator that runs nothing, its wear counted. -/
def State.actReady (s : State) (a : Nat) : State :=
  let u := s.actWear a
  u.setAct a { u.act a with run := none, learn := none }

theorem State.startEffect_idle {s : State} {a : Nat} (e : Nat) (o : Origin) (safety : Bool) (segs : List Seg) (rep : Nat) (h : (s.act a).run = none) :
    s.startEffect a e o safety segs rep = (s.actReady a).beginSeg a
      { number := e, origin := o, safety := safety, segs := segs, idx := 0, rounds := rep, braked := false, windows := 0, began := (s.actReady a).cyc
        cfg := (s.actReady a).rg (Reg.HAP_CFG a), drv := (s.actReady a).rg (Reg.HAP_DRIVE a), lim := (s.actReady a).rg (Reg.HAP_LIM a) } := by
  obtain ⟨c, r, d, hact⟩ := s.actWear_act a
  have hrun : ((s.actWear a).act a).run = none := by rw [hact, h]
  unfold State.startEffect State.actReady
  simp only [hrun]

theorem SameRegsBut.actReady (s : State) (a : Nat) : SameRegsBut [Reg.HAP_WEAR a, Reg.HAP_DRIVE_S a] s (s.actReady a) :=
  (SameRegsBut.actWear s a).trans (.of_regs (State.setAct_regs _ _ _))

theorem State.actReady_act_ne (s : State) {a b : Nat} (h : b ≠ a) : (s.actReady a).act b = s.act b := by
  rw [State.actReady, State.act_setAct_ne _ _ h, State.actWear_act_ne s h]

theorem State.actReady_rest (s : State) (a : Nat) : s.actReady a = { s with regs := (s.actReady a).regs, hap := (s.actReady a).hap } := by
  unfold State.actReady
  rw [State.actWear_rest]
  apply State.eq_of_parts <;> simp

/-- The effect that an actuator takes up, before its first segment. -/
def firstRun (s : State) (a e : Nat) (o : Origin) (safety : Bool) (segs : List Seg) (rep : Nat) : Effect :=
  { number := e, origin := o, safety := safety, segs := segs, idx := 0, rounds := rep, braked := false, windows := 0, began := (s.actReady a).cyc
    cfg := s.rg (Reg.HAP_CFG a), drv := s.rg (Reg.HAP_DRIVE a), lim := s.rg (Reg.HAP_LIM a) }

theorem State.startEffect_first {s : State} {a : Nat} (e : Nat) (o : Origin) (safety : Bool) (g : Seg) (l : List Seg) (rep : Nat)
    (h : (s.act a).run = none) :
    s.startEffect a e o safety (g :: l) rep = (((s.actReady a).driveSeg a (firstRun s a e o safety (g :: l) rep) g).showSeg a
      (firstRun s a e o safety (g :: l) rep)).actDuty a := by
  have hregs := SameRegsBut.actReady s a
  rw [State.startEffect_idle e o safety _ rep h, hregs _ (by simp [Reg.HAP_CFG, Reg.HAP_WEAR, Reg.HAP_DRIVE_S]),
    hregs _ (by simp [Reg.HAP_DRIVE, Reg.HAP_WEAR, Reg.HAP_DRIVE_S]), hregs _ (by simp [Reg.HAP_LIM, Reg.HAP_WEAR, Reg.HAP_DRIVE_S])]
  exact State.beginSeg_eq rfl

theorem startEffect_runs {s : State} {a : Nat} (e : Nat) (o : Origin) (safety : Bool) (g : Seg) (l : List Seg) (rep : Nat)
    (hidle : (s.act a).run = none) :
    (∃ r, ((s.startEffect a e o safety (g :: l) rep).act a).run = some r ∧ r.number = e ∧ r.origin = o ∧ r.safety = safety ∧ r.segs = g :: l ∧
      r.idx = 0 ∧ r.rounds = rep ∧ r.cfg = s.rg (Reg.HAP_CFG a) ∧ r.drv = s.rg (Reg.HAP_DRIVE a) ∧ r.lim = s.rg (Reg.HAP_LIM a)) ∧
    ((s.startEffect a e o safety (g :: l) rep).act a).bridge = g.bridge ∧ (s.startEffect a e o safety (g :: l) rep).fld F.HAP_STAT_STATE a = 2 ∧
    (s.startEffect a e o safety (g :: l) rep).flag F.HAP_STAT_SAFETY a = safety ∧
    (s.startEffect a e o safety (g :: l) rep).fld F.HAP_STAT_SEGMENT a = 0 := by
  rw [State.startEffect_first e o safety g l rep hidle]
  generalize hf : firstRun s a e o safety (g :: l) rep = f
  obtain ⟨hrun, hbridge⟩ := (s.actReady a).driveSeg_act a f g
  generalize (s.actReady a).driveSeg a f g = u at *
  obtain ⟨d, hact⟩ := (u.showSeg a f).actDuty_act a
  rw [State.act_of_hap (u.showSeg_hap a f)] at hact
  obtain ⟨hstate, hseg, hsafe⟩ := u.showSeg_shows a (e := f) (by rw [← hf]; exact Nat.zero_lt_succ 255)
  refine ⟨⟨_, by rw [hact]; exact hrun, ?_⟩, by rw [hact]; exact hbridge, ?_, ?_, ?_⟩
  · rw [← hf]
    exact ⟨rfl, rfl, rfl, rfl, rfl, rfl, rfl, rfl, rfl⟩
  · exact (State.fld_actDuty _ a (by decide)).trans hstate
  · rw [State.flag, State.fld_actDuty _ a (by decide), ← State.flag, hsafe, ← hf]
    rfl
  · exact (State.fld_actDuty _ a (by decide)).trans (hseg.trans (by rw [← hf]; rfl))

theorem startEffect_apart {s : State} {a : Nat} (e : Nat) (o : Origin) (safety : Bool) (g : Seg) (l : List Seg) (rep : Nat)
    (hidle : (s.act a).run = none) :
    (∀ b, b ≠ a → (s.startEffect a e o safety (g :: l) rep).act b = s.act b) ∧
    SameRegsBut [Reg.HAP_STAT a, Reg.HAP_WEAR a, Reg.HAP_STARTS a, Reg.HAP_DRIVE_S a] s (s.startEffect a e o safety (g :: l) rep) ∧
    s.startEffect a e o safety (g :: l) rep = { s with regs := (s.startEffect a e o safety (g :: l) rep).regs
                                                       hap := (s.startEffect a e o safety (g :: l) rep).hap } := by
  rw [State.startEffect_first e o safety g l rep hidle]
  refine ⟨fun b hb => ?_, ?_, ?_⟩
  · rw [State.actDuty_act_ne _ hb, State.act_of_hap (State.showSeg_hap _ _ _), State.driveSeg_act_ne _ _ _ hb, State.actReady_act_ne _ hb]
  · exact ((((SameRegsBut.actReady s a).mono (by simp)).trans ((SameRegsBut.driveSeg _ a _ g).mono (by simp))).trans
      ((SameRegsBut.showSeg _ a _).mono (by simp))).trans ((SameRegsBut.actDuty _ a).mono (by simp))
  · rw [State.actDuty_rest, State.showSeg_rest, State.driveSeg_rest, State.actReady_rest]

/-! Triggers (10 R433-R439, R445). -/

theorem State.actRefuses_none (s : State) (a : Nat) (safety : Bool) : s.actRefuses a safety = none ↔
    ((∀ e, (s.act a).run = some e → e.safety = true → safety = true) ∧ s.flag F.HAP_CFG_ENABLE a = true ∧ s.fld F.HAP_STAT_STATE a ≠ 3) := by
  have hbusy : (((s.act a).run.map (·.safety)).getD false && !safety) = false ↔ ∀ e, (s.act a).run = some e → e.safety = true → safety = true := by
    cases hr : (s.act a).run with
    | none => simp
    | some e => cases safety <;> simp
  unfold State.actRefuses
  split_ifs with h1 h2 h3
  · simp only [false_iff]
    rintro ⟨hall, -⟩
    rw [hbusy.mpr hall] at h1
    exact absurd h1 (by decide)
  · simp only [false_iff]
    rintro ⟨-, hen, -⟩
    rw [hen] at h2
    exact absurd h2 (by decide)
  · simp only [false_iff]
    rintro ⟨-, -, hst⟩
    exact hst h3
  · simp only [true_iff]
    refine ⟨hbusy.mp (by simpa using h1), by simpa using h2, h3⟩

theorem triggersStartEffects : Rules.TriggersStartEffects := by
  refine ⟨fun s j hen => ⟨fun h => ?_, fun h => ?_⟩, fun s z h hfind => ⟨_, rfl, ?_⟩, fun s a e o safety segs rep hsafe hsegs => ?_,
    State.actRefuses_none, ?_⟩
  · rw [exec, execHapTrigEdge]
    dsimp only
    rw [if_pos ⟨hen, h⟩]
    rfl
  · rw [exec, execHapTrigEdge]
    dsimp only
    rw [if_pos ⟨hen, h⟩]
    rfl
  · rw [exec, execHapticZoneTrigger, hfind]
  · have hgo : ¬ (s.safe && !safety) = true := by
      rcases hsafe with h | h <;> simp [h]
    unfold State.trigger
    rw [if_neg hgo]
    simp only [hsegs]
    refine ⟨fun h => ?_, fun h => ?_, fun n hn h => ?_⟩
    · simp only [h]
    · simp only [h]
    · simp only [h]
  · intro s a e o safety g l rep _ hidle t
    obtain ⟨hrun, hbridge, hstate, hsafety, hseg⟩ := startEffect_runs e o safety g l rep hidle
    obtain ⟨hothers, hregs, hrest⟩ := startEffect_apart e o safety g l rep hidle
    exact ⟨hrun, hbridge, hstate, hsafety, hseg, hothers, hregs, hrest⟩

/-! The operations of class 0x07 (10 R431-R447). -/

/-- No other ring holds a waveform slot that is free or the ring's own, and the slots from 24 are the S ring's. -/
theorem waveSlot_free {s : State} {r : RingId} {w : Nat} (hslot : w < 24 ∨ r = .s) (hown : ∀ x, s.wave w = some x → x.owner = r) :
    ¬ (((s.wave w).map (fun x => x.owner != r)).getD false = true ∨ (24 ≤ w ∧ r ≠ .s)) := by
  rintro (h | ⟨h24, hs⟩)
  · cases hw : s.wave w with
    | none =>
      rw [hw] at h
      exact absurd h (by simp)
    | some x =>
      rw [hw] at h
      simp [hown x hw] at h
  · rcases hslot with h | h
    · omega
    · exact hs h

theorem hapticOperationsPlayAndLoad : Rules.HapticOperationsPlayAndLoad := by
  refine ⟨fun s k q segs rep hq hnames h0 hforeign hsegs => ?_, fun s k q hq hnames => ?_, fun s k q hq hslot hown hruns => ?_,
    fun s k q hq hslot hown hruns => ?_, fun s k q hq hnames => ⟨_, rfl, ?_⟩, fun s k q hq hclaimed => ⟨fun h2 h3 => ⟨_, rfl, ?_⟩, fun h2 h3 => ?_,
    fun h2 hfree => ⟨_, rfl, ?_⟩⟩⟩
  · have hfar : ¬ (128 ≤ q.p8 1 ∧ s.foreignWave q.ring (q.p8 1 - 128) = true) := fun ⟨h1, h2⟩ => by rw [hforeign h1] at h2; exact absurd h2 (by decide)
    have hplay : exec (.play k) s = match s.actRefuses (q.p8 0) (decide (q.ring = .s)) with
        | some n => .next ((if n = 1 then s.satInc F.HAP_STAT_IGNORED (q.p8 0) else s).endOp k St.busy n)
        | none => .next ((s.startEffect (q.p8 0) (q.p8 1) (.play q.ring q.pkt.tag) (decide (q.ring = .s)) segs rep).endOp k St.ok) := by
      rw [exec, execPlay, hq]
      dsimp only
      rw [if_neg (by rw [hnames]; decide), if_neg hfar, if_neg (by simp [hsegs])]
      cases s.actRefuses (q.p8 0) (decide (q.ring = .s)) with
      | some n => rfl
      | none =>
        dsimp only
        rw [if_neg h0, hsegs]
    refine ⟨fun h => ?_, fun h => ?_, fun n hn h => ?_⟩ <;> rw [hplay, h] <;> dsimp only
    · rw [if_pos rfl]
    · rw [if_neg hn]
  · rw [exec, execPlay, hq]
    dsimp only
    rw [if_pos (by rw [hnames]; decide)]
  · rw [exec, execWaveLoad, hq]
    dsimp only
    rw [if_neg (waveSlot_free hslot hown), if_neg (by rw [hruns]; decide)]
  · rw [exec, execWaveFree, hq]
    dsimp only
    rw [if_neg (waveSlot_free hslot hown), if_neg (by simp [hruns])]
  · rw [exec, execActQuery, hq]
    dsimp only
    rw [if_neg (by rw [hnames]; decide)]
  all_goals
    have hmine : ¬ (q.ring = .med ∧ s.flag F.HAP_CFG_CLAIMED (q.p8 0) = true) := fun ⟨h1, h2⟩ => by rw [hclaimed h1] at h2; exact absurd h2 (by decide)
    rw [exec, execMaint, hq]
    dsimp only
    rw [if_neg hmine]
  · rw [if_pos h2, if_pos h3]
  · rw [if_pos h2, if_neg h3]
  · rw [if_neg h2, hfree]

/-- Settles O39: an actuator that takes an effect drops the old one and begins the first segment; the operations take the branch of their checks. -/
theorem triggersAndPlaysStartEffects : Obligations.TriggersAndPlaysStartEffects := ⟨triggersStartEffects, hapticOperationsPlayAndLoad⟩

end Sys2Proof.Machine
end

section
/-! PROOFS. Generators, streams and the alarm pair of the audio router (11). -/

namespace Sys2Proof.Machine

/-! Tone generators (11 R477-R480). -/

theorem State.stopTone_silent {s : State} {u : Nat} (h : (s.pair u).tone = none) : s.stopTone u = s := by
  rw [State.stopTone, h]

/-- Whether another pair than `u` is on bus `b`. -/
def State.busTaken (s : State) (u : Nat) (b : Option Nat) : Bool := (List.range 7).any (fun w => w != u && b.isSome && (s.pair w).bus == b)

theorem State.busTaken_iff (s : State) (u : Nat) (b : Option Nat) :
    s.busTaken u b = true ↔ b ≠ none ∧ ∃ w, w < 7 ∧ w ≠ u ∧ (s.pair w).bus = b := by
  unfold State.busTaken
  cases b <;> simp [List.any_eq_true]

theorem genSet_attaches {s : State} {k : Nat} {q : Started} {b : Option Nat} (hq : s.opAt k 0x2005 = some q)
    (hb : (if q.p8 1 = 0xFF then none else some (q.p8 1)) = b) :
    exec (.genSet k) s = if s.busTaken (q.p8 0) b then .next (s.endOp k St.busy)
      else
        let t := if (s.pair (q.p8 0)).bus = b then s else
          (s.stopTone (q.p8 0)).setPair (q.p8 0) { (s.stopTone (q.p8 0)).pair (q.p8 0) with beep := none }
        .next (((t.setPair (q.p8 0) { t.pair (q.p8 0) with bus := b, gain := q.p8 2 }).audSync).endOp k St.ok) := by
  rw [exec]
  unfold execGenSet State.busTaken
  simp only [hq, hb]

theorem exec_cadenceStepEnd {s : State} {g u : Nat} {t : Tone} (hu : s.pairOf g = some u) (ht : (s.pair u).tone = some t) :
    exec (.cadenceStepEnd g) s =
      if t.step + 1 < t.cad.steps.length then .next (s.setPair u { s.pair u with tone := some { t with step := t.step + 1, began := s.cyc } })
      else if t.cad.rep = 255 ∨ 0 < t.left then
        .next (s.setPair u { s.pair u with tone := some { t with step := 0, began := s.cyc, left := if t.cad.rep = 255 then t.left else t.left - 1 } })
      else .next (((s.toneDone u t 0).setPair u { s.pair u with tone := none }).audSync) := by
  rw [exec]
  unfold execCadenceStepEnd
  simp only [hu, ht]

theorem State.beep_uncounted (s : State) (g b : Nat) (h : b = 0 ∨ 9 < b ∨ s.pairOf g = none) : s.beep g b = s.satInc F.AUD_STAT_NOGEN := by
  unfold State.beep
  split_ifs with hb
  · rfl
  · rcases h with h | h | h
    · exact absurd (.inl h) hb
    · exact absurd (.inr h) hb
    · rw [h]

/-- Settles O40: each operation takes the branch that the generator's pair and its cadence select. -/
theorem generatorsRunCadencesAndBeeps : Obligations.GeneratorsRunCadencesAndBeeps := by
  refine ⟨?_, fun s k q u hq h15 hu => ⟨fun h3 => ?_, fun h3 h2 => ?_, fun h3 h2 h0 hhigh => ?_⟩, fun s k q hq h15 hr => ?_,
    fun s g u t hu ht => ⟨fun h => ?_, fun h hr => ?_, fun h hr hl => ?_, fun h hr hl => ?_⟩, fun s k q hq h15 => ?_, fun s z h hf => ?_,
    State.beep_uncounted, fun s g b u h0 h9 hu => ?_⟩
  · intro s k q hq b
    have hexec := genSet_attaches hq (b := b) rfl
    refine ⟨fun hb hw => by rw [hexec, if_pos ((s.busTaken_iff _ _).mpr ⟨hb, hw⟩)], fun hfree => ?_⟩
    have hnone : ¬ s.busTaken (q.p8 0) b = true := by
      rw [State.busTaken_iff]
      rintro ⟨hb, w, hw7, hne, hbus⟩
      rcases hfree with hfree | hfree
      · exact hb hfree
      · exact hfree w hw7 hne hbus
    rw [if_neg hnone] at hexec
    refine ⟨fun hsame => ?_, fun hother hsilent => ⟨_, rfl, ?_⟩⟩
    · rw [hexec, if_pos hsame]
    · rw [hexec, if_neg hother, State.stopTone_silent hsilent]
  · rw [exec, execToneSet, hq]
    dsimp only
    rw [if_neg (fun h => h.2 (h15 h.1)), if_pos h3, hu]
  · rw [exec, execToneSet, hq]
    dsimp only
    rw [if_neg (fun h => h.2 (h15 h.1)), if_neg (by rw [h3]; decide), if_pos h2]
  · rw [exec, execToneSet, hq]
    dsimp only
    rw [if_neg (fun h => h.2 (h15 h.1)), if_neg (by rw [h3]; decide), if_neg (by rw [h2]; decide), if_neg (by rw [h0]; decide),
      if_neg (fun h => by rw [hhigh h.1] at h; exact absurd h.2 (by decide)), hu]
  · rw [exec, execToneSet, hq]
    dsimp only
    rw [if_pos ⟨h15, hr⟩]
  · rw [exec_cadenceStepEnd hu ht, if_pos h]
  · rw [exec_cadenceStepEnd hu ht, if_neg (by omega), if_pos (.inl hr), if_pos hr]
  · rw [exec_cadenceStepEnd hu ht, if_neg (by omega), if_pos (.inr hl), if_neg hr]
  · rw [exec_cadenceStepEnd hu ht, if_neg (by omega), if_neg (by omega)]
  · rw [exec, execBeepPlay, hq]
    dsimp only
    rw [if_neg (fun h => h.2 (h15 h.1))]
  · rw [exec, execZoneBeepTrigger, hf]
  · rw [State.beep, if_neg (by omega), hu]

/-! Streams (11 R481-R484, R488). -/

section
variable {s : State} {q : Started} (hnum : numTooHigh q.ring (q.p8 0) (bit (q.p8 1) 0) = false)
  (hname : s.namesStream q.ring (q.p8 0) (bit (q.p8 1) 0) = true)
include hnum hname

theorem exec_streamSetup {k : Nat} (hq : s.opAt k 0x2008 = some q) :
    exec (.streamSetup k) s =
      let key := streamKey (q.p8 0) (bit (q.p8 1) 0)
      let x := newStream (s.streamOwner q.ring (q.p8 0) (bit (q.p8 1) 0)) (q.pkt.params.take 16) 0
      let sw := !bit (q.p8 1) 0 && decide (64 ≤ q.p8 0)
      if ((s.stream key).map (·.started)).getD false then .next (s.endOp k St.busy)
      else if q.p8 2 = 0 then .next (((s.setStream key none).audSync).endOp k St.ok)
      else if sw ∧ x.v then .next (s.endOp k St.range 1)
      else if sw ∧ !inSafetySram x.base (64 + x.size * x.frames) then .next (s.endOp k St.range 8)
      else .next (((s.setStream key (some x)).audSync).endOp k St.ok) := by
  rw [exec]
  unfold execStreamSetup
  simp only [hq, hnum, hname, Bool.not_true, Bool.false_eq_true, if_false]

theorem exec_streamCtrl {k : Nat} {x : AStream} (hq : s.opAt k 0x2009 = some q) (hx : s.stream (streamKey (q.p8 0) (bit (q.p8 1) 0)) = some x) :
    (q.p8 2 = 0 → exec (.streamCtrl k) s = .next ((s.stopStream (streamKey (q.p8 0) (bit (q.p8 1) 0))).endOp k St.ok)) ∧
    (q.p8 2 = 1 → s.safe = false → x.started = false → exec (.streamCtrl k) s =
      .next ((s.startStream (streamKey (q.p8 0) (bit (q.p8 1) 0)) x).endOp k St.ok)) ∧
    (q.p8 2 = 2 → x.started = false → exec (.streamCtrl k) s =
      .next ((s.setStream (streamKey (q.p8 0) (bit (q.p8 1) 0)) (some { x with gain := q.p8 3 })).endOp k St.ok)) := by
  rw [exec]
  unfold execStreamCtrl
  simp only [hq, hnum, hname, hx, Bool.not_true, Bool.false_eq_true, if_false]
  refine ⟨fun h => ?_, fun h hs hst => ?_, fun h hst => ?_⟩
  · simp only [h]
  · simp only [h, hs, hst, Bool.false_eq_true, false_and, if_false]
  · simp only [h, hst, Bool.false_eq_true, false_and, if_false]

end

/-- Settles O41: each operation takes the branch that the stream's state selects. -/
theorem streamsAreSetUpAndFetched : Obligations.StreamsAreSetUpAndFetched := by
  refine ⟨fun s k q hq hnum hname => ⟨fun x hx hst => ?_, fun hstopped => ⟨fun h => ?_, fun h hside => ?_⟩⟩,
    fun s k q x hq hnum hname hx => exec_streamCtrl hnum hname hq hx, fun s n l x hx hst => ⟨fun h => ?_, fun h => ?_⟩,
    fun s t k q x hq hnum hname hx hw => ?_, fun s t k q l hq hnum hname hstopped hr hc => ?_⟩
  · rw [exec_streamSetup hnum hname hq]
    dsimp only
    rw [if_pos (by simp [hx, hst])]
  · rw [exec_streamSetup hnum hname hq]
    dsimp only
    rw [if_neg (by rw [hstopped]; decide), if_pos h]
  · have hplain : (!bit (q.p8 1) 0 && decide (64 ≤ q.p8 0)) = false := by
      rcases hside with h | h
      · simp [h]
      · simp [h]
    rw [exec_streamSetup hnum hname hq]
    dsimp only
    rw [if_neg (by rw [hstopped]; decide), if_neg h, if_neg (by simp [hplain]), if_neg (by simp [hplain])]
  · rw [exec, execStreamFetch, hx]
    dsimp only
    rw [if_neg (by rw [hst]; decide), if_pos h]
  · rw [exec, execStreamFetch, hx]
    dsimp only
    rw [if_neg (by rw [hst]; decide), if_neg (by omega)]
  · rw [exec]
    unfold execAudCtxSave
    simp only [hq, hnum, hname, hx, hw, Bool.not_true, Bool.false_eq_true, if_false]
  · rw [exec]
    unfold execAudCtxRestore
    simp only [hq, hnum, hname, hstopped, hr, hc, Bool.not_true, Bool.false_eq_true, if_false]

/-! The alarm pair (11 R490-R493). -/

/-- The settings of an ALARM_SET. -/
def State.alarmWritten (s : State) (on : Bool) (q : Started) : State :=
  ((((s.setFld F.AUD_CTRL_SRAMP (if q.p16 4 = 0 then 40 else q.p16 4)).setFlag F.AUD_ALARM_ENABLE on).setFlag F.AUD_ALARM_DUCK
    (bit (q.p8 0) 1)).setFld F.AUD_ALARM_DUCK_DB (min 63 (q.p8 1))).setFld F.AUD_ALARM_SLOTS (q.p16 2)

/-- Whether a port carries the slots of an ALARM_SET. -/
def State.alarmReady (s : State) (q : Started) (p : Nat) : Bool :=
  bits (leAt (s.port p) 1 1) 1 0 == 3 && bits (leAt (s.port p) 1 1) 5 4 == 0 && decide (q.p16 2 < 2 ^ leAt (s.port p) 2 1)

theorem exec_alarmSet {s : State} {k : Nat} {q : Started} (hq : s.opAt k 0x200A = some q) :
    exec (.alarmSet k) s =
      let on := bit (q.p8 0) 0
      if !on ∧ s.safe then .next (s.endOp k St.busy)
      else if on ∧ q.p16 2 = 0 then .next (s.endOp k St.range 2)
      else if on ∧ !(s.alarmReady q 6 && s.alarmReady q 7) then .next (s.endOp k St.range)
      else
        let u := s.alarmWritten on q
        let u := if on != s.flag F.AUD_ALARM_ENABLE then u.dropAlarmRoutes else u
        let u := if on then u.clearAlarmFails else u
        .next ((u.showAlarm.audSync).endOp k St.ok) := by
  rw [exec]
  unfold execAlarmSet State.alarmReady State.alarmWritten
  simp only [hq]

/-- Settles O42: a deviation is recorded on the spare that it uses; whether one was used before decides on the safe state. -/
theorem alarmPairFailsOnceThenSafe : Obligations.AlarmPairFailsOnceThenSafe := by
  refine ⟨fun s k q hq hoff => ⟨fun hs => ?_, fun hs hen => ⟨_, rfl, ?_⟩⟩, fun s k q hq hon h0 => ?_, fun s hen hsp => ?_, fun s hen hsp => ?_,
    fun s m hm hen hsp => ⟨_, rfl, ?_⟩, ?_⟩
  · rw [exec_alarmSet hq, hoff]
    dsimp only
    rw [if_pos (by simp [hs])]
  · rw [exec_alarmSet hq, hoff]
    dsimp only
    rw [if_neg (by simp [hs]), if_neg (by simp), if_neg (by simp), hen, if_neg (by decide), if_neg (by decide), State.alarmWritten]
  · rw [exec_alarmSet hq, hon]
    dsimp only
    rw [if_neg (by simp), if_pos ⟨rfl, h0⟩]
  · rw [exec]
    unfold execAlarmLaneMismatch
    dsimp only
    rw [if_neg (by rw [hen]; decide), if_neg (by simp [hsp]), State.satInc_aud, State.setFld_aud]
  · rw [exec]
    unfold execAlarmLaneMismatch
    dsimp only
    rw [if_neg (by rw [hen]; decide), if_pos hsp, State.satInc_aud, State.setFld_aud]
  · rw [exec]
    unfold execAlarmMemberFail
    dsimp only
    rw [if_neg (by simp [hen, hsp]), State.setFld_aud, ite_not]
  · intro s k q ready hq hon h0
    refine ⟨fun h => ?_, fun h6 h7 => ⟨_, rfl, ?_⟩⟩ <;> rw [exec_alarmSet hq, hon] <;> dsimp only
    · have hnot : (s.alarmReady q 6 && s.alarmReady q 7) = false := by
        rcases h with h | h
        · exact Bool.and_eq_false_iff.mpr (.inl h)
        · exact Bool.and_eq_false_iff.mpr (.inr h)
      rw [if_neg (by simp), if_neg (fun h => h0 h.2), if_pos (by simp [hnot])]
    · have hboth : (s.alarmReady q 6 && s.alarmReady q 7) = true := Bool.and_eq_true_iff.mpr ⟨h6, h7⟩
      rw [if_neg (by simp), if_neg (fun h => h0 h.2), if_neg (by simp [hboth]), if_pos rfl]
      cases s.flag F.AUD_ALARM_ENABLE with
      | true => rw [if_neg (by decide), if_pos rfl, State.alarmWritten]
      | false => rw [if_pos (by decide), if_neg (by decide), State.alarmWritten]

end Sys2Proof.Machine
end

section
/-! PROOFS. Ports, routes, buses, swaps, ramps and clocks of the audio router (11). -/

namespace Sys2Proof.Machine

/-! Setting up the router (11 R452-R476, R496). -/

theorem audioSetsPortsRoutesAndBuses : Rules.AudioSetsPortsRoutesAndBuses := by
  refine ⟨fun s k q hq hpair => ⟨fun hr => ?_, fun hp hr hd => ?_⟩, fun s t k q hq hs => ⟨fun hall h0 => ?_, fun hall h0 hl => ?_, fun o hall => ?_⟩,
    fun s k q hq hs h2 => ?_, fun s k q hq h15 h0 hv => ?_,
    fun s k q hq => ⟨fun h2 hs => ?_, fun hs h0 => ?_, fun hs h0 hl => ?_, fun hs h0 hl => ?_⟩,
    fun s k q hq => ⟨fun h1 hold => ?_, fun h2 hold => ?_, fun h3 hs => ?_, fun h3 hs => ?_⟩,
    fun s k q hq hs => ⟨fun h0 => ?_, fun h4 => ?_, fun x h1 hx => ?_⟩⟩
  · rw [exec, execPortSet, hq]
    dsimp only
    rw [if_neg (by rintro ⟨hm, ha, h | h⟩; exacts [(hpair hm ha).1 h, (hpair hm ha).2 h]), if_neg (by simp [hr])]
  · rw [exec, execPortSet, hq]
    dsimp only
    rw [if_neg (by rintro ⟨hm, ha, h | h⟩; exacts [(hpair hm ha).1 h, (hpair hm ha).2 h]), if_pos ⟨hp, hd, hr⟩]
  · rw [exec, execRouteSet, hq]
    dsimp only
    rw [if_neg (fun h => h.1 hs), hall]
    dsimp only
    rw [if_pos h0]
  · rw [exec, execRouteSet, hq]
    dsimp only
    rw [if_neg (fun h => h.1 hs), hall]
    dsimp only
    rw [if_neg h0, if_neg (by rw [hl]; decide)]
  · rw [exec, execRouteSet, hq]
    dsimp only
    rw [if_neg (fun h => h.1 hs), hall]
  · rw [exec, execRouteSet, hq]
    dsimp only
    rw [if_pos ⟨hs, .inl h2⟩]
  · have hsame : ¬ ((bit (q.p8 1) 1 != (s.bus (q.p8 0)).domV) = true ∧ s.busRouted (q.p8 0) = true) := by
      rintro ⟨hne, hrouted⟩
      rcases hv with hv | hv
      · simp [hv] at hne
      · rw [hv] at hrouted
        exact absurd hrouted (by decide)
    rw [exec, execBusSet, hq]
    dsimp only
    rw [if_neg (fun h => h15 h.1), if_neg (fun h => h15 h.1), if_neg hsame, if_pos (by rw [h0]; decide)]
  · rw [exec, execSafeload, hq]
    dsimp only
    rw [if_pos ⟨h2, hs⟩]
  · rw [exec, execSafeload, hq]
    dsimp only
    rw [if_neg (fun h => h.2 hs), if_pos h0]
  · rw [exec, execSafeload, hq]
    dsimp only
    rw [if_neg (fun h => h.2 hs), if_neg h0, if_pos hl]
  · rw [exec, execSafeload, hq]
    dsimp only
    rw [if_neg (fun h => h.2 hs), if_neg h0, if_neg (by rw [hl]; decide)]
  · have hallowed : (decide (s.fld F.AUD_CTRL_STATE = 0 ∨ s.fld F.AUD_CTRL_STATE = 2) || (s.fld F.AUD_CTRL_STATE == 3 && q.ring == .s)) = true := by
      rcases hold with h | h | ⟨h, hs⟩ <;> simp [*]
    rw [exec, execRouterState, hq]
    dsimp only
    rw [h1, if_pos rfl, if_pos hallowed]
  · rw [exec, execRouterState, hq]
    dsimp only
    rw [h2, if_pos (by simp [hold])]
  · rw [exec, execRouterState, hq]
    dsimp only
    rw [h3, if_pos (by simp [hs])]
  · rw [exec, execRouterState, hq]
    dsimp only
    rw [h3, if_neg (by simp [hs])]
  all_goals
    rw [exec]
    unfold execAudioQuery
  · simp [hq, hs, h0]
  · simp [hq, hs, h4]
  · simp [hq, hs, h1, hx, State.namesStream, streamKey]

/-! Swaps, ramps and port clocks (11 R451, R454, R466, R467, R474, R484, R497). -/

theorem bit_zero (n : Nat) : bit 0 n = false := by simp [bit]

/-- A swap of no bank. -/
theorem State.swapBanks_zero (s : State) : s.swapBanks 0 = s := by
  unfold State.swapBanks
  simp [bit_zero]

theorem safeloadSwap_one {s : State} {v : Bool} {w : Swap} (hw : s.aud.swaps = [w]) (hdue : v = true ∨ bit w.banks 1 = false) :
    exec (.safeloadSwap v) s =
      .next (((((s.setAud { s.aud with swaps := [] }).swapBanks w.banks).endOp w.place St.ok).event w.ring 0x2001 noInst w.banks
        ((((s.setAud { s.aud with swaps := [] }).swapBanks w.banks).endOp w.place St.ok).aSamples % 2 ^ 32)).raise 266).audSync := by
  have hgo : (v || !bit w.banks 1) = true := by
    rcases hdue with h | h <;> simp [h]
  rw [exec]
  unfold execSafeloadSwap
  simp only [hw, List.filter_cons, List.filter_nil, hgo, if_true, Bool.not_true, Bool.false_eq_true, if_false, List.foldl_cons, List.foldl_nil,
    Nat.zero_or, List.isEmpty_cons, State.aSamples, State.endOp_cyc]

theorem safeloadSwap_waits {s : State} (hall : ∀ w, w ∈ s.aud.swaps → bit w.banks 1 = true) :
    exec (.safeloadSwap false) s = .next (s.setAud { s.aud with swaps := s.aud.swaps }) := by
  have hdue : s.aud.swaps.filter (fun w => false || !bit w.banks 1) = [] := by
    rw [List.filter_eq_nil_iff]
    intro w hw
    simp [hall w hw]
  have hrest : s.aud.swaps.filter (fun w => !(false || !bit w.banks 1)) = s.aud.swaps := by
    rw [List.filter_eq_self]
    intro w hw
    simp [hall w hw]
  rw [exec]
  unfold execSafeloadSwap
  simp only [hdue, hrest, List.foldl_nil, State.swapBanks_zero, List.isEmpty_nil, if_true]

theorem audioSwapsRampsAndClocks : Rules.AudioSwapsRampsAndClocks := by
  refine ⟨fun s v w hw hdue => safeloadSwap_one hw hdue, fun s hall => ⟨_, safeloadSwap_waits hall, rfl, fun _ => rfl, fun _ => rfl⟩,
    fun s i hi => ?_, fun s i hi => ⟨?_, ?_⟩, fun s i x r hi hx hr => ?_, fun s d f hf => ?_, fun s p rate hc he hm => ⟨_, rfl, ?_⟩,
    fun s p rate hc he hr => ?_⟩
  · rw [exec, execGainRampEnd, if_pos hi]
  · rw [exec, execGainRampEnd, if_neg (by omega), if_pos (by omega), Nat.add_sub_cancel_left]
  · rw [exec, execGainRampEnd, if_neg (by omega), if_neg (by omega), if_pos (by omega), Nat.add_sub_cancel_left]
  · rw [exec, execGainRampEnd, if_neg (by omega), if_neg (by omega), if_neg (by omega), if_pos (by omega), Nat.add_sub_cancel_left, hx]
    dsimp only
    rw [if_neg (by simp [hr])]
    split <;> rfl
  · rw [exec, execCrossfadeEnd]
    dsimp only
    rw [if_neg (by simp [hf])]
  · rw [exec, execPortClockLost, if_pos ⟨hc, he, by rw [hm]; rfl⟩]
  · rw [exec, execPortClockBack, if_pos ⟨by rw [hc]; rfl, he, hr⟩]

/-- Settles O43: the set-up operations take the branch of their checks; a swap that waits for the V domain leaves the router as it is. -/
theorem audioSetsUpAndSwaps : Obligations.AudioSetsUpAndSwaps := ⟨audioSetsPortsRoutesAndBuses, audioSwapsRampsAndClocks⟩

end Sys2Proof.Machine
end

section
/-! PROOFS. The operations of class 0x0B (15). -/

namespace Sys2Proof.Machine

/-! The operations of class 0x0B (15 R590-R608). -/

/-- What a reply that its ring takes leaves. -/
theorem State.replyBytes_ok {s t : State} {k off : Nat} {p : Started} {l : List Byte} (r0 r1 : Nat)
    (h : s.unitWrite (ringWho p.ring) (p.p64 off) l = (none, t)) : s.replyBytes k p off l r0 r1 = t.endOp k St.ok r0 r1 := by
  rw [State.replyBytes, h]

theorem exec_settingsRead {s : State} {k : Nat} {q : Started} (hq : s.opAt k 0x2C03 = some q) (hschema : q.p16 2 ≠ 0) (hopen : s.folioOpen = true) :
    exec (.settingsRead k) s = match s.record 1 (settingsKey q.ring (q.p8 0) (q.p16 2)) with
      | none => .next (s.endOp k St.range 0)
      | some r =>
        if q.p32 4 < (r.body.drop 4).length then .next (s.endOp k St.badLength 0)
        else .next (s.replyBytes k q 8 (r.body.drop 4) (q.p16 2) (r.body.drop 4).length) := by
  rw [exec]
  unfold execSettingsRead
  simp only [hq, if_neg hschema, hopen, if_true] <;>
    cases s.record 1 (settingsKey q.ring (q.p8 0) (q.p16 2)) <;> simp only

theorem exec_logRead {s : State} {k : Nat} {q : Started} (hq : s.opAt k 0x2C04 = some q) (hopen : s.folioOpen = true) :
    exec (.logRead k) s = match (s.activeArea.good.filter (fun r => r.typ == q.p16 0)).reverse[q.p32 4]? with
      | none => .next (s.endOp k St.range 4)
      | some r => .next (s.replyBytes k q 8 r.body r.seq r.body.length) := by
  rw [exec]
  unfold execLogRead
  simp only [hq, hopen, if_true] <;>
    cases (s.activeArea.good.filter (fun r => r.typ == q.p16 0)).reverse[q.p32 4]? <;> simp only

theorem exec_folioAdopt {s : State} {k : Nat} {q : Started} (hq : s.opAt k 0x2C07 = some q) (hadopt : s.fol.adopt = none)
    (hstate : s.fld F.FOL_STAT_STATE ≠ 0) (hA : s.fol.areaA.magic = false) (hB : s.fol.areaB.magic = false) {u : State}
    (hu : s.abandonWrite.setFld F.FOL_STAT_COMPACTING 0 = u) :
    exec (.folioAdopt k) s =
      .next (({ u with fol := { u.fol with compact := none, adopt := some (2 * u.areaBlocks, u.fld F.FOL_STAT_STATE - 1, 0) } } : State).endOp k
        St.deferred) := by
  rw [exec]
  unfold execFolioAdopt
  simp only [hq, hadopt, Option.isSome_none, Bool.false_eq_true, false_or, if_neg hstate, hA, hB, Bool.false_and, if_false, hu, Option.orElse_none,
    Option.getD_none]

/-- Settles O44: a Folio that takes records sends each operation to the branch of its own checks. -/
theorem folioOperationsAskForRecords : Obligations.FolioOperationsAskForRecords := by
  refine ⟨fun s k q hq => ?_, fun s k q hq h0 => ⟨fun ho => ?_, fun ho => ⟨_, rfl, ?_⟩⟩, fun s t k q l hq h0 hun ho hr => ?_, fun s k q hq h0 hun => ?_,
    fun s k q hq hs ho => ⟨fun hn => ?_, fun r hr => ⟨fun hl => ?_, fun t hl ht => ?_⟩⟩, fun s k q hq ho => ⟨fun hn => ?_, fun r t hr ht => ?_⟩,
    fun s k q hq h0 => ⟨fun ho => ?_, fun ho => ?_⟩, fun s k q hq h0 ho => ⟨fun hn => ?_, fun b hb => ⟨_, rfl, ?_⟩⟩,
    fun s k q hq => ⟨fun hbusy => ?_, fun ha hst hA hB => ⟨_, rfl, exec_folioAdopt hq ha hst hA hB rfl⟩⟩⟩
  · rw [exec, execFolioQuery, hq]
  · rw [exec, execFolioFlush, hq]
    dsimp only
    rw [if_neg (fun h => h h0), if_pos (by rw [ho]; decide)]
  · rw [exec, execFolioFlush, hq]
    dsimp only
    rw [if_neg (fun h => h h0), if_neg (by rw [ho]; decide)]
  · rw [exec, execSettingsWrite, hq]
    dsimp only
    rw [if_neg (fun h => h h0), if_neg (by rw [hun]; decide), if_neg (by rw [ho]; decide), hr]
  · rw [exec, execSettingsWrite, hq]
    dsimp only
    rw [if_neg (fun h => h h0), if_pos hun]
  · rw [exec_settingsRead hq hs ho, hn]
  · rw [exec_settingsRead hq hs ho, hr]
    dsimp only
    rw [if_pos hl]
  · rw [exec_settingsRead hq hs ho, hr]
    dsimp only
    rw [if_neg (by omega), State.replyBytes_ok _ _ ht]
  · rw [exec_logRead hq ho, hn]
  · rw [exec_logRead hq ho, hr]
    dsimp only
    rw [State.replyBytes_ok _ _ ht]
  · rw [exec, execCalSet, hq]
    dsimp only
    rw [if_neg (fun h => h h0), if_pos (by rw [ho]; decide)]
  · rw [exec, execCalSet, hq]
    dsimp only
    rw [if_neg (fun h => h h0), if_neg (by rw [ho]; decide)]
  · rw [exec, execCalDone, hq]
    dsimp only
    rw [if_neg (fun h => h h0), if_neg (by rw [ho]; decide), hn]
  · rw [exec, execCalDone, hq]
    dsimp only
    rw [if_neg (fun h => h h0), if_neg (by rw [ho]; decide), hb]
  · rw [exec, execFolioAdopt, hq]
    dsimp only
    rw [if_pos hbusy]

end Sys2Proof.Machine
end

section
/-! PROOFS. The steps of the journal, and power failures (15; 19 R719). -/

namespace Sys2Proof.Machine

/-! The steps of the journal (15 R590-R603). -/

theorem State.folioOpen_of_regs {s t : State} (h : t.regs = s.regs) : t.folioOpen = s.folioOpen := by
  rw [State.folioOpen, State.folioOpen, State.fld_of_regs h]

theorem State.setInactive_regs (s : State) (x : FArea) : (s.setInactive x).regs = s.regs := by
  unfold State.setInactive
  split <;> rfl

theorem flashEraseDone_erases {s : State} {n : Nat} (hpf : s.fol.pfLow = false) (hadopt : s.fol.adopt = none)
    (hc : s.fol.compact = some (.erase (n + 1))) : exec (.flashEraseDone 1 true) s = .next (s.blockErased n) := by
  rw [exec, execFlashEraseDone, if_neg (by decide)]
  unfold State.folioErased
  rw [if_neg (by rw [hpf]; decide), hadopt]
  dsimp only
  rw [hc]
  dsimp only
  rw [if_pos rfl]

/-- The bins of the junction temperature, in tenths of a degree. -/
theorem tjBin_bins (tj : Int) : (tj < -200 → tjBin tj = 0) ∧ (1200 ≤ tj → tjBin tj = 15) ∧
    (∀ b : Nat, 1 ≤ b → b ≤ 14 → -300 + 100 * (b : Int) ≤ tj → tj < -200 + 100 * (b : Int) → tjBin tj = b) := by
  unfold tjBin
  refine ⟨fun h => if_pos h, fun h => ?_, fun b h1 h14 hlo hhi => ?_⟩
  · rw [if_neg (by omega), if_pos h]
  · rw [if_neg (by omega), if_neg (by omega)]
    omega

/-- A minute of the histogram: bin `b` counts one more. -/
theorem histogramMinute_counts {s : State} (tj : Int) (hp : s.flt.poresetHi = true) :
    ∃ t, exec (.histogramMinute tj) s = .next t ∧
      SMap.get (fun _ => 0) t.fol.hist (tjBin tj) = min (SMap.get (fun _ => 0) s.fol.hist (tjBin tj) + 1) 0xFFFFFFFF ∧
      (∀ b, b ≠ tjBin tj → SMap.get (fun _ => 0) t.fol.hist b = SMap.get (fun _ => 0) s.fol.hist b) ∧
      (∀ m, s.fol.tjMax = some m → t.fol.tjMax = some (max m tj)) ∧
      t = { s with fol := { s.fol with hist := t.fol.hist, tjMax := t.fol.tjMax } } := by
  have hexec : exec (.histogramMinute tj) s = .next { s with fol := { s.fol with
      hist := SMap.set (fun _ => 0) s.fol.hist (tjBin tj) (min (SMap.get (fun _ => 0) s.fol.hist (tjBin tj) + 1) 0xFFFFFFFF)
      tjMax := some (match s.fol.tjMax with | some t => max t tj | none => tj) } } := by
    rw [exec]
    unfold execHistogramMinute
    rw [if_neg (by rw [hp]; decide)] <;> cases s.fol.tjMax <;> rfl
  refine ⟨_, hexec, ?_, fun b hb => ?_, fun m hm => ?_, rfl⟩
  · exact SMap.get_set_same (fun _ => 0) s.fol.hist (tjBin tj) _
  · exact SMap.get_set_ne (fun _ => 0) s.fol.hist _ hb
  · dsimp only
    rw [hm]

theorem folioStepsCommitAndCompact : Rules.FolioStepsCommitAndCompact := by
  refine ⟨fun s w n hpf hw => ?_, fun s w n hpf hw => ?_, fun s r l n hpf hw hc => ?_, fun s hpf => ⟨?_, ?_⟩,
    fun s n hpf ha hc => flashEraseDone_erases hpf ha hc, fun s n hpf hc => ⟨_, rfl, ?_⟩, fun s hdue ho => ⟨_, rfl, ?_⟩, fun s hd => ?_,
    fun s tj hp => histogramMinute_counts tj hp, tjBin_bins⟩
  · rw [exec, execFlashProgramDone, if_neg (by rw [hpf]; decide), hw]
    dsimp only
    rw [if_neg (by decide), if_pos (by decide)]
  · rw [exec, execFlashProgramDone, if_neg (by rw [hpf]; decide), hw]
    dsimp only
    rw [if_neg (by decide), if_neg (by decide)]
  · rw [exec, execFlashProgramDone, if_neg (by rw [hpf]; decide), hw]
    dsimp only
    rw [hc]
    dsimp only
    rw [if_pos rfl]
  · rw [exec, execFlashProgramDone, if_pos hpf]
  · rw [exec]
    unfold execCompactionCommit
    split
    · rw [if_pos hpf]
    · rfl
  · rw [exec]
    unfold execCompactionCommit
    rw [hc]
    dsimp only
    rw [if_neg (by rw [hpf]; decide), State.flag_of_regs (State.setInactive_regs _ _)]
  · rw [exec]
    unfold execFlushTimer
    dsimp only
    rw [if_neg (by omega)]
    exact if_pos ((State.folioOpen_of_regs rfl).trans ho)
  · rw [exec, execDayChange, State.today, if_neg hd]

/-! Power failures (15 R606, R607; 19 R719). -/

theorem pwrFailFall_holds {s : State} (hpf : s.fol.pfLow = false) (hv : s.pwr.vault = false) (hp : s.flt.poresetHi = true) :
    ∃ u v, u = (s.raise 3).count 64 ∧ v = ({ u with pwr := { u.pwr with pfAt := some s.cyc } } : State).abandonActivation.abandonWrite ∧
      ∃ x, x = ({ v with fol := { v.fol with pfLow := true, compact := match v.fol.compact with
          | some (.copy _ _) => some (.erase v.areaBlocks)
          | c => c } } : State) ∧
        exec .pwrFailFall s = .next (if x.folioOpen then (x.commitNow 2 x.countersBody).setFld F.FOL_STAT_PF_DONE 1 else x) := by
  have hcyc : ((s.raise 3).count 64).cyc = s.cyc := by
    rw [State.count, State.raise_cyc]
  rw [exec, ← hcyc]
  unfold execPwrFailFall
  rw [if_neg (by simp [hpf, hv, hp])]
  dsimp only
  generalize (s.raise 3).count 64 = u
  refine ⟨_, _, rfl, rfl, _, rfl, ?_⟩
  generalize State.abandonWrite _ = v
  exact (apply_ite Host.Outcome.next _ _ _).symm

theorem powerFailureHoldsTheFolio : Rules.PowerFailureHoldsTheFolio := by
  refine ⟨fun s hpf hv hp => pwrFailFall_holds hpf hv hp, fun s hpf => ⟨?_, ?_⟩, fun s c hpf hat => ?_⟩
  · rw [exec, execPwrFailFall, if_pos (by simp [hpf])]
  · rw [exec, execPwrFailRise, if_pos (by simp)]
  · rw [exec]
    unfold execPwrFailRise
    rw [if_neg (by simp [hpf]), hat]

/-- Settles O45: each step looks at the record being written, then at the compaction; while `PWR_FAIL_N` is low none does anything. -/
theorem folioStepsAndPowerFailure : Obligations.FolioStepsAndPowerFailure := ⟨folioStepsCommitAndCompact, powerFailureHoldsTheFolio⟩

end Sys2Proof.Machine
end

section
/-! PROOFS. Boot and recovery (16; 19 R722). -/

namespace Sys2Proof.Machine

/-! Boot and recovery (16 R617, R618, R621; 19 R722). -/

/-- What a cold reset keeps. -/
theorem afterReset_keeps (s : State) : (s.afterReset false).pending = s.pending ∧ (s.afterReset false).fw.flash = s.fw.flash ∧
    (s.afterReset false).cyc = 0 ∧ (∀ k, (s.afterReset false).place k = none) ∧ (s.afterReset false).wld.pend = 0 := by
  have hcp : (s.afterReset false).cp = State.reset.cp := by
    unfold State.afterReset State.keepPins
    simp only [Bool.not_false, if_true, State.setFld_cp, State.setRg_cp]
  refine ⟨?_, ?_, ?_, fun k => ?_, ?_⟩
  · unfold State.afterReset State.keepPins
    simp only [Bool.not_false, if_true, State.setFld_pending, State.setRg_pending]
  · unfold State.afterReset State.keepPins
    simp only [Bool.not_false, if_true, State.setFld_fw, State.setRg_fw, Fw.kept]
  · unfold State.afterReset State.keepPins
    simp only [Bool.not_false, if_true, State.setFld_cyc, State.setRg_cyc, Bool.false_eq_true, if_false]
  · rw [State.place_of_cp hcp]
    rfl
  · unfold State.afterReset State.keepPins
    simp only [Bool.not_false, if_true, State.setFld_wld, State.setRg_wld]
    rfl

/-- Settles O46: the boot commands look at the power-on reset and at the recovery flag first; a reset keeps the queue and the flash. -/
theorem bootsRunOrRecover : Obligations.BootsRunOrRecover := by
  refine ⟨fun s hp hh => ⟨_, rfl, ?_⟩, fun s hp => ?_, fun s image hr => ⟨_, _, rfl, rfl, ?_⟩, fun s image hr => ?_, afterReset_keeps⟩
  · rw [exec]
    unfold execColdBoot
    rw [if_neg (by simp [hp, hh])]
  · rw [exec]
    unfold execColdBoot
    rw [if_pos (by simp [hp])]
  · rw [exec]
    unfold execUartRecoveryImage
    rw [if_neg (by rw [hr]; decide)]
    dsimp only
    cases imageFault (image.take 512) ((image.drop 512).take (imgLen (image.take 512))) 1 (slotSize 0) s.fw.svn with
    | none => rw [if_pos rfl]
    | some c => rw [if_neg (by simp)]
  · rw [exec]
    unfold execUartRecoveryImage
    rw [if_pos (by rw [hr]; decide)]

end Sys2Proof.Machine
end

section
/-! PROOFS. Staging, activation and confirmation (16). -/

namespace Sys2Proof.Machine

/-! Staging (16 R622, R623, R632, R633). -/

/-- A programmed byte is the AND of the old and the new one. -/
theorem get_programFlash (m : SMap Byte) (off : Nat) (l : List Byte) (a : Nat) :
    SMap.get (fun _ => 0xFF) (programFlash m off l) a =
      if off ≤ a ∧ a < off + l.length then SMap.get (fun _ => 0xFF) m a &&& l.getD (a - off) 0xFF else SMap.get (fun _ => 0xFF) m a := by
  induction l generalizing m off with
  | nil =>
    rw [programFlash, if_neg]
    rintro ⟨h1, h2⟩
    exact absurd h2 (by simpa using h1)
  | cons b t ih =>
    rw [programFlash, ih, SMap.get_set]
    simp only [List.length_cons]
    by_cases heq : a = off
    · subst heq
      rw [if_neg (by omega), if_pos rfl, if_pos (by omega), Nat.sub_self]
      rfl
    · rw [if_neg heq]
      by_cases hin : off + 1 ≤ a ∧ a < off + 1 + t.length
      · have hsub : a - off = a - (off + 1) + 1 := by omega
        rw [if_pos hin, if_pos (by omega), hsub, List.getD_cons_succ]
      · rw [if_neg hin, if_neg (by omega)]

/-- A page of an FW_WRITE that holds its flash port. -/
theorem exec_fwWrite {s t : State} {k u : Nat} {q : Started} {l : List Byte} (hq : s.opAt k 0x3002 = some q) (hfree : s.pairBusy (q.p8 0) = false)
    (hheld : s.holdsIn (.packet k) 2 = some u)
    (hr : s.unitRead (ringWho q.ring) (q.p64 16 + 256 * q.progress) (min 256 (q.p32 8 - 256 * q.progress)) = (.ok l, t)) :
    exec (.fwWrite k) s =
      let v := t.markSlot (q.p8 0) (s.inactiveSlot (q.p8 0)) false
      let w : State := { v with fw := { v.fw with
        flash := programFlash v.fw.flash (slotBase (q.p8 0) (s.inactiveSlot (q.p8 0)) + q.p32 4 + 256 * q.progress) l } }
      if q.p32 8 ≤ 256 * q.progress + min 256 (q.p32 8 - 256 * q.progress) then .next (w.endOpFree k St.ok)
      else .next ((w.setProgress k (q.progress + 1)).withdraw (.packet k)) := by
  rw [exec]
  unfold execFwWrite
  simp only [hq, hfree, Bool.false_eq_true, if_false, hheld, hr]

theorem flashEraseDone_slot {s : State} {j : SlotJob} {l : Grant} (hj : s.fw.jobs.find? (fun j => !j.verify) = some j)
    (hheld : s.heldBy (slotTask j.rank) = some (12, l)) :
    ∃ u v, u = s.releaseUnit 12 ∧
      v = ({ u with fw := { u.fw with
        flash := SMap.clear u.fw.flash (slotBase j.pair j.slot + slotSize j.pair - j.blocks * 0x10000)
          (slotBase j.pair j.slot + slotSize j.pair - j.blocks * 0x10000 + 0x10000)
        jobs := stepJob (fun x => !x.verify) (fun x => if x.blocks ≤ 1 then none else some { x with blocks := x.blocks - 1 }) u.fw.jobs } } : State) ∧
      exec (.flashEraseDone 0 true) s = .next (if j.blocks ≤ 1 then v.eventSM 0x3001 j.pair 0 0 0 else v) := by
  refine ⟨_, _, rfl, rfl, ?_⟩
  rw [exec, execFlashEraseDone, if_pos rfl]
  unfold State.slotErased
  simp only [hj, hheld, Bool.not_true, Bool.false_eq_true, if_false]

theorem exec_fwVerifyDone {s : State} {j : SlotJob} (hj : s.fw.jobs.find? (fun j => j.verify) = some j) :
    exec .fwVerifyDone s =
      let u : State := { s with fw := { s.fw with jobs := stepJob (fun x => x.verify) (fun _ => none) s.fw.jobs } }
      .next (match s.slotFault j.pair j.slot with
        | none => (u.markSlot j.pair j.slot true).eventSM 0x3001 j.pair 1 0 (imgVersion (s.slotHead j.pair j.slot))
        | some c => (u.markSlot j.pair j.slot false).eventSM 0x3001 j.pair 2 c (imgVersion (s.slotHead j.pair j.slot))) := by
  rw [exec]
  unfold execFwVerifyDone
  simp only [hj]
  cases s.slotFault j.pair j.slot <;> simp only [Option.isNone_none, Option.isNone_some]

/-- Settles O47: programming goes byte by byte; the other operations take the branch that the slot's state selects. -/
theorem stagingWritesTheInactiveSlot : Obligations.StagingWritesTheInactiveSlot := by
  refine ⟨fun s k q hq hw hv => ?_, fun s k q hq => ⟨fun hb => ?_, fun hb => ⟨_, rfl, ?_⟩⟩, fun s k q hq hb => ?_,
    fun s t k u q l hq hb hheld hr => ⟨_, rfl, _, rfl, fun hlast => ?_, fun hmore => ?_⟩, fun s k q hq => ⟨fun hb => ?_, fun hb => ?_⟩,
    fun s j hj => ⟨_, rfl, fun hf => ?_, fun c hf => ?_⟩, fun s j l hj hheld => flashEraseDone_slot hj hheld, get_programFlash⟩
  · rw [exec]
    unfold execFwQuery
    simp only [hq, hw, hv, Bool.false_eq_true, if_false]
  · rw [exec, execFwErase, hq]
    dsimp only
    rw [if_pos hb]
  · rw [exec, execFwErase, hq]
    dsimp only
    rw [if_neg (by rw [hb]; decide)]
  · rw [exec, execFwWrite, hq]
    dsimp only
    rw [if_pos hb]
  · rw [exec_fwWrite hq hb hheld hr]
    dsimp only
    rw [if_pos (by omega)]
  · rw [exec_fwWrite hq hb hheld hr]
    dsimp only
    rw [if_neg (by omega)]
  · rw [exec, execFwVerify, hq]
    dsimp only
    rw [if_pos hb]
  · rw [exec, execFwVerify, hq]
    dsimp only
    rw [if_neg (by rw [hb]; decide)]
  · rw [exec_fwVerifyDone hj, hf]
  · rw [exec_fwVerifyDone hj, hf]

/-! Activation and confirmation (16 R624-R631). -/

theorem exec_fwActivate {s : State} {k : Nat} {q : Started} (hq : s.opAt k 0x3004 = some q) :
    exec (.fwActivate k) s =
      if !s.slotVerified (q.p8 0) (s.inactiveSlot (q.p8 0)) then .next (s.endOp k St.checkFailed)
      else if s.fw.window.isSome || !s.folioOpen || s.safe || s.paused then .next (s.endOp k St.busy)
      else
        let u := (s.endOp k St.deferred).beginPause (q.p8 0) false 0 (if q.p8 1 = 0 then 10 else q.p8 1) (bit (q.p8 2) 0)
        .next (u.firmwareRecord 0 (q.p8 0) 0 (u.activeSlot (q.p8 0)) (u.inactiveSlot (q.p8 0)) .commitPoint) := by
  rw [exec, execFwActivate, hq]

theorem exec_activationResume {s : State} {x : Pause} (hx : s.fw.pause = some x) :
    exec .activationResume s =
      if x.back then .next (s.fallBack x)
      else if !x.committed then .next s
      else if x.pair = 0 ∧ sha384 (s.slotBody 0 (s.activeSlot 0)) ≠ ((s.slotHead 0 (s.activeSlot 0)).drop 96).take 48 then
        .next (s.abortActivation x)
      else .next (s.takeOverImage x) := by
  rw [exec, execActivationResume, hx]

/-- FW_CONFIRM of the S ring: its half is done, and the pair is confirmed once the mediator's half is. -/
theorem fwConfirm_confirms {s : State} {k : Nat} {q : Started} (hq : s.opAt k 0x3005 = some q) (h0 : q.progress = 0) (htrial : s.onTrial (q.p8 0) = true)
    (hun : s.flag F.DEV_FW_STAT_UNREADABLE = false) (hsafe : s.safe = false) (hp : s.paused = false) (hr : q.ring = .s) {u : State}
    (hu : { s with fw := { s.fw with sDone := true } } = u) :
    exec (.fwConfirm k) s =
      .next (if s.flag F.DEV_FW_STAT_MED_VOTE = false ∨ s.flag F.DEV_FW_STAT_MED_DONE = true then u.confirm k (q.p8 0) else u.endOp k St.ok) := by
  have hregs : u.regs = s.regs := by rw [← hu]
  have hdone : u.fw.sDone = true := by rw [← hu]
  rw [exec]
  unfold execFwConfirm
  simp only [hq, h0, htrial, hun, hsafe, hp, hr, if_true, hu, hdone, State.flag_of_regs hregs, Bool.true_and, Bool.or_eq_true, Bool.not_eq_true',
    ne_eq, not_true_eq_false, Bool.not_true, Bool.false_eq_true, or_self, if_false]
  split <;> rfl

theorem beginPause_pauses (s : State) (pair cause window : Nat) (back vote : Bool) :
    ∃ t, s.beginPause pair back cause window vote = t ∧
      t.fw.pause = some ⟨pair, back, cause, s.cyc, false, false, window, vote⟩ ∧ t.fld F.DEV_FW_STAT_STATE = (if back then 3 else 2) ∧
      SameRegsBut [Reg.DEV_FW_STAT] s t ∧ t = { s with regs := t.regs, fw := t.fw } := by
  refine ⟨_, rfl, ?_⟩
  unfold State.beginPause
  dsimp only
  generalize hu : ({ s with fw := _ } : State) = u
  have hregs : u.regs = s.regs := by rw [← hu]
  refine ⟨?_, ?_, ?_, ?_⟩
  · rw [State.setFld_fw, ← hu]
  · exact State.fld_setFld_of_lt (w := 2) _ 0 (by decide) (by split <;> omega)
  · exact SameRegsBut.trans (.of_regs hregs) (.setFld u F.DEV_FW_STAT_STATE _ 0 (by simp [Fld.addr, F.DEV_FW_STAT_STATE, Reg.DEV_FW_STAT]))
  · rw [← hu]
    apply State.eq_of_parts <;> simp

/-- Settles O48: an activation, its end and the vote on it go by the slot's check, the pause and the trial. -/
theorem activationsAreTriedAndConfirmed : Obligations.ActivationsAreTriedAndConfirmed := by
  refine ⟨fun s k q hq => ⟨fun hv => ?_, fun hv hbusy => ?_, fun hv hw ho hs hp => ⟨_, rfl, ?_⟩⟩,
    fun s x hx => ⟨fun hb => ?_, fun hb hc => ?_, fun hb hc h1 => ?_, fun hb hc h0 => ?_⟩,
    fun s k q hq h0 => ⟨fun ht => ?_, fun ht hun => ?_, fun ht hun hs hp hr => ⟨_, rfl, fwConfirm_confirms hq h0 ht hun hs hp hr rfl⟩⟩,
    fun s k q hq => ⟨fun ht => ?_, fun ht hp => ?_, fun ht hp => ?_⟩, fun s pair c m hw hp hc => ?_, beginPause_pauses⟩
  · rw [exec_fwActivate hq, if_pos (by rw [hv]; decide)]
  · rw [exec_fwActivate hq, if_neg (by rw [hv]; decide), if_pos]
    rcases hbusy with h | h | h | h <;> simp [h]
  · rw [exec_fwActivate hq, if_neg (by rw [hv]; decide), if_neg (by simp [hw, ho, hs, hp])]
  · rw [exec_activationResume hx, if_pos hb]
  · rw [exec_activationResume hx, if_neg (by rw [hb]; decide), if_pos (by rw [hc]; decide)]
  · rw [exec_activationResume hx, if_neg (by rw [hb]; decide), if_neg (by rw [hc]; decide), if_neg (by omega)]
  · rw [exec_activationResume hx, if_neg (by rw [hb]; decide), if_neg (by rw [hc]; decide)]
    split_ifs with h1 h2 h2
    · exact absurd h2 h1.2
    · rfl
    · rfl
    · exact absurd ⟨h0, h2⟩ h1
  · rw [exec, execFwConfirm, hq]
    dsimp only
    rw [if_neg (fun h => h h0), if_pos (by rw [ht]; decide)]
  · rw [exec, execFwConfirm, hq]
    dsimp only
    rw [if_neg (fun h => h h0), if_neg (by rw [ht]; decide), if_pos hun]
  · rw [exec, execFwAbandon, hq]
    dsimp only
    rw [if_pos (by rw [ht]; decide)]
  · rw [exec, execFwAbandon, hq]
    dsimp only
    rw [if_neg (by rw [ht]; decide), if_pos hp]
  · rw [exec, execFwAbandon, hq]
    dsimp only
    rw [if_neg (by rw [ht]; decide), if_neg (by rw [hp]; decide)]
  · rw [exec, execHealthWindowExpiry, hw]
    dsimp only
    rw [if_neg]
    rintro (h | h)
    · rw [hp] at h
      exact absurd h (by decide)
    · omega

end Sys2Proof.Machine
end

section
/-! PROOFS. Rubbing snapshots (17 R660-R667). -/

namespace Sys2Proof.Machine

/-! Rubbing snapshots (17 R660-R667, R771). -/

/-- Events to a list of clients leave the fault state. -/
theorem State.foldl_event_flt (l : List Nat) (f : State → Nat → State) (h : ∀ (u : State) (c : Nat), (f u c).flt = u.flt) (s : State) :
    (l.foldl f s).flt = s.flt := by
  induction l generalizing s with
  | nil => rfl
  | cons c t ih => rw [List.foldl_cons, ih, h]

theorem State.event_flt (s : State) (r : RingId) (code inst d0 d1 d2 d3 client : Nat) : (s.event r code inst d0 d1 d2 d3 client).flt = s.flt :=
  (State.EventKept.event quietRange_faults s r code inst d0 d1 d2 d3 client).flt

/-- A latch holds the whole snapshot, as the state before it shows it. -/
theorem latch_holds (s : State) (src : Nat) (late : Bool) : ∃ t, s.latch src late = t ∧ t.flt.snapshot = some (s.snapAll src) := by
  refine ⟨_, rfl, ?_⟩
  unfold State.latch
  dsimp only
  rw [State.foldl_event_flt _ _ (fun u c => State.event_flt _ _ _ _ _ _ _ _ _), State.event_flt, State.event_flt, State.raise_flt]

/-- A client's view of a snapshot: its own records, and the first words of the device's. -/
theorem snapView_client (s : State) (r : Nat) (l : List SnapRec) (x : SnapRec) (hx : x ∈ s.snapView (.client r) l) :
    x.owner = r ∨ (x.cls = 0 ∧ x.inst = noInst ∧ ∀ w, w ∈ x.words.drop 2 → w = 0) := by
  rw [State.snapView, List.mem_filterMap] at hx
  obtain ⟨y, -, hy⟩ := hx
  split_ifs at hy with h1 h2
  · right
    rw [← Option.some.inj hy]
    refine ⟨h1.1, h1.2, fun w hw => ?_⟩
    have hlen : (y.words.take 2).length ≤ 2 := List.length_take_le 2 y.words
    rw [List.drop_append, List.drop_eq_nil_of_le hlen, List.nil_append] at hw
    simpa using List.mem_of_mem_drop hw
  · left
    rw [← Option.some.inj hy]
    exact h2

/-- RUB_READ of every class that its ring may see. -/
theorem rubRead_reads {s t : State} {k n : Nat} {q : Started} {l : List SnapRec} (hq : s.opAt k 0x3404 = some q) (hall : q.p16 0 = 0xFFFF)
    (hl : s.flt.snapshot = some l)
    (hp : State.putRecords (ringWho q.ring) (s.fld F.RUB_STAT_SEQ) ((s.snapView q.ring l).take (q.p32 4 / 32)) (q.p64 8) 0 s = (none, n, t)) :
    exec (.rubRead k) s = .next (t.endOp k St.ok n (s.snapView q.ring l).length (s.fld F.RUB_STAT_SEQ)) := by
  have hview : (s.snapView q.ring l).filter (fun x => q.p16 0 == 0xFFFF || x.cls == q.p16 0) = s.snapView q.ring l := by
    rw [List.filter_eq_self]
    intro x _
    simp [hall]
  rw [exec]
  unfold execRubRead
  simp only [hq, hl, hview, hp]
  rw [if_neg (fun h => h.2 hall)]

/-- Settles O49: each Rubbing command looks at the held snapshot first; latching and the events about it leave the snapshot. -/
theorem snapshotsLatchAndAreReleased : Obligations.SnapshotsLatchAndAreReleased := by
  refine ⟨fun s k q hq => ⟨fun hg hr => ?_, fun hg hs => ?_, fun hg hs => ?_, fun hg hr hs => ⟨_, rfl, ?_⟩⟩, fun s => ⟨fun h => ?_, fun h => ?_⟩,
    fun s c src late rest ht => ⟨fun hc => ?_, fun hc hs => ?_, fun hc hs hsrc => ?_⟩, fun s hs hms hp => ?_,
    fun s k q hq => ⟨fun h1 h2 => ?_, fun h1 hs => ?_, fun l n t hall hl hp => rubRead_reads hq hall hl hp⟩, fun s k q hq => ?_, latch_holds,
    snapView_client⟩
  · rw [exec, execRubFire, hq]
    dsimp only
    rw [if_pos ⟨hg, hr⟩]
  · rw [exec, execRubFire, hq]
    dsimp only
    rw [if_neg (by simp [hg]), if_pos hs]
  · rw [exec, execRubFire, hq]
    dsimp only
    rw [if_neg (by simp [hg]), if_neg (by simp [hs]), if_neg (by simp [hg])]
  · rw [exec, execRubFire, hq]
    dsimp only
    rw [if_neg (fun h => h.2 hr), if_neg (by simp [hs]), if_pos hg]
  · rw [exec, execRubInEdge, if_pos h]
  · rw [exec, execRubInEdge, if_neg (by rw [h]; decide)]
  · rw [exec, execRubbingLatch, ht]
    dsimp only
    rw [if_pos hc]
  · rw [exec, execRubbingLatch, ht]
    dsimp only
    rw [if_neg (by omega), if_neg (by simp [hs])]
  · rw [exec, execRubbingLatch, ht]
    dsimp only
    rw [if_neg (by omega), if_pos hs, if_neg hsrc]
  · rw [exec, execRubAutoRelease]
    rw [if_pos (by simp [hs, hms, hp])]
  · rw [exec, execRubRead, hq]
    dsimp only
    rw [if_pos ⟨h1, h2⟩]
  · rw [exec, execRubRead, hq]
    dsimp only
    rw [if_neg (fun h => h.2 h1), hs]
  · rw [exec, execRubRelease, hq]

end Sys2Proof.Machine
end

section
/-! PROOFS. Ports and network time (18). -/

namespace Sys2Proof.Machine

/-! Ports and network time (18 R672-R678, R693, R696). -/

/-- What a PTP message from `port` shows: its port follows the grandmaster, with its offset. -/
def State.ptpShown (s : State) (port : Nat) (off : Int) : State :=
  let u := (s.setFld F.TTH_PORT_STAT_GM_PORT 1 port).setFld F.TTH_PORT_STAT_GM_PORT 0 (1 - port)
  ((u.setFld F.TTH_TIME_STAT_GM 0).setFld F.TTH_TIME_STAT_SYNC 1).setFld F.TTH_TIME_STAT_OFFSET
    ((clampInt (-8388608) 8388607 off % (2 ^ 24 : Int)).toNat)

section
variable (s : State) {port : Nat} (off : Int)

theorem State.ptpShown_rest : s.ptpShown port off = { s with regs := (s.ptpShown port off).regs } := by
  unfold State.ptpShown
  apply State.eq_of_parts <;> simp

theorem SameRegsBut.ptpShown (hp : port < 2) :
    SameRegsBut [Reg.TTH_TIME_STAT, Reg.TTH_PORT_STAT 0, Reg.TTH_PORT_STAT 1] s (s.ptpShown port off) := by
  have htime : Reg.TTH_TIME_STAT ∈ [Reg.TTH_TIME_STAT, Reg.TTH_PORT_STAT 0, Reg.TTH_PORT_STAT 1] := by simp
  have hport : ∀ n, n < 2 → F.TTH_PORT_STAT_GM_PORT.addr n ∈ [Reg.TTH_TIME_STAT, Reg.TTH_PORT_STAT 0, Reg.TTH_PORT_STAT 1] := by
    intro n hn
    obtain rfl | rfl : n = 0 ∨ n = 1 := by omega
    · decide
    · decide
  exact ((((SameRegsBut.setFld s F.TTH_PORT_STAT_GM_PORT 1 port (hport _ hp)).trans (.setFld _ F.TTH_PORT_STAT_GM_PORT 0 _ (hport _ (by omega)))).trans
    (.setFld _ F.TTH_TIME_STAT_GM 0 0 htime)).trans (.setFld _ F.TTH_TIME_STAT_SYNC 1 0 htime)).trans (.setFld _ F.TTH_TIME_STAT_OFFSET _ 0 htime)

theorem State.flag_ptpShown (hp : port < 2) : (s.ptpShown port off).flag F.TTH_TIME_STAT_SYNC = true ∧
    (s.ptpShown port off).flag F.TTH_TIME_STAT_GM = false ∧ (s.ptpShown port off).flag F.TTH_PORT_STAT_GM_PORT port = true ∧
    (s.ptpShown port off).flag F.TTH_PORT_STAT_GM_PORT (1 - port) = false := by
  have hother : F.TTH_PORT_STAT_GM_PORT.addr port ≠ F.TTH_PORT_STAT_GM_PORT.addr (1 - port) := by
    simp only [Fld.addr, F.TTH_PORT_STAT_GM_PORT]
    omega
  have htime : ∀ (u : State) (v : Nat) (f : Fld) (n : Nat), f ∈ [F.TTH_TIME_STAT_GM, F.TTH_TIME_STAT_SYNC, F.TTH_TIME_STAT_OFFSET] → n < 2 →
      (u.setFld f v).flag F.TTH_PORT_STAT_GM_PORT n = u.flag F.TTH_PORT_STAT_GM_PORT n := by
    intro u v f n hf hn
    rw [State.flag, State.flag, State.setFld, State.fld_setRg_ne]
    simp only [List.mem_cons, List.not_mem_nil, or_false] at hf
    rcases hf with rfl | rfl | rfl <;>
      simp only [Fld.addr, F.TTH_PORT_STAT_GM_PORT, F.TTH_TIME_STAT_GM, F.TTH_TIME_STAT_SYNC, F.TTH_TIME_STAT_OFFSET] <;> omega
  unfold State.ptpShown
  refine ⟨?_, ?_, ?_, ?_⟩
  · rw [State.flag_setFld_apart _ _ _ (by decide)]
    exact State.flag_setFld_one _ _ (by decide)
  · rw [State.flag_setFld_apart _ _ _ (by decide), State.flag_setFld_apart _ _ _ (by decide)]
    exact State.flag_setFld_zero _ _ (by decide)
  · rw [htime _ _ _ _ (by simp) hp, htime _ _ _ _ (by simp) hp, htime _ _ _ _ (by simp) hp, State.flag, State.setFld, State.fld_setRg_ne _ _ hother,
      ← State.flag]
    exact State.flag_setFld_one _ _ (by decide)
  · rw [htime _ _ _ _ (by simp) (by omega), htime _ _ _ _ (by simp) (by omega), htime _ _ _ _ (by simp) (by omega)]
    exact State.flag_setFld_zero _ _ (by decide)

end

/-- A PTP message of the grandmaster's port, once it is shown. -/
def State.ptpNoted (s : State) (port : Nat) (off : Int) : State :=
  let u := s.ptpShown port off
  { u with dziv := { u.dziv with lastPtp := u.cyc } }

theorem State.ptpNoted_regs (s : State) (port : Nat) (off : Int) : (s.ptpNoted port off).regs = (s.ptpShown port off).regs := by
  dsimp only [State.ptpNoted]

theorem State.ptpNoted_dziv (s : State) (port : Nat) (off : Int) : (s.ptpNoted port off).dziv = { s.dziv with lastPtp := s.cyc } := by
  unfold State.ptpNoted
  rw [State.ptpShown_rest]

theorem exec_ptpMessage {s : State} {port : Nat} (off : Int) (hup : s.portUp port = true) :
    exec (.ptpMessage port off false) s =
      if !s.dziv.synced ∨ off < -1000000 ∨ 1000000 < off then .next ((s.ptpNoted port off).stepTime (-off))
      else .next { s.ptpNoted port off with devOff := s.devOff + clampInt (-(s.slewMax s.dziv.lastPtp)) (s.slewMax s.dziv.lastPtp) (-off) } := by
  rw [exec]
  unfold execPtpMessage
  rw [if_neg (by rw [hup]; decide), if_neg (by decide)]
  unfold State.ptpNoted State.ptpShown
  simp only [State.slewMax, State.setFld_dziv, State.setFld_cyc, State.setFld_devOff]

theorem ptpMessage_slews {s : State} {port : Nat} {off : Int} (hport : port < 2) (hup : s.portUp port = true) (hsync : s.dziv.synced = true)
    (hlo : -1000000 ≤ off) (hhi : off ≤ 1000000) :
    ∃ t, exec (.ptpMessage port off false) s = .next t ∧
      t.devOff = s.devOff + clampInt (-(s.slewMax s.dziv.lastPtp)) (s.slewMax s.dziv.lastPtp) (-off) ∧
      t.flag F.TTH_TIME_STAT_SYNC = true ∧ t.flag F.TTH_TIME_STAT_GM = false ∧ t.flag F.TTH_PORT_STAT_GM_PORT port = true ∧
      t.flag F.TTH_PORT_STAT_GM_PORT (1 - port) = false ∧
      SameRegsBut [Reg.TTH_TIME_STAT, Reg.TTH_PORT_STAT 0, Reg.TTH_PORT_STAT 1] s t ∧
      t = { s with regs := t.regs, devOff := t.devOff, dziv := { s.dziv with lastPtp := s.cyc } } := by
  have hexec := exec_ptpMessage off hup
  rw [if_neg (by rw [hsync]; simp only [Bool.not_true, Bool.false_eq_true, false_or]; omega)] at hexec
  generalize hd : s.devOff + clampInt (-(s.slewMax s.dziv.lastPtp)) (s.slewMax s.dziv.lastPtp) (-off) = d at hexec
  have hregs : ({ s.ptpNoted port off with devOff := d } : State).regs = (s.ptpShown port off).regs := s.ptpNoted_regs port off
  obtain ⟨hs, hg, hp, ho⟩ := s.flag_ptpShown off hport
  refine ⟨_, hexec, rfl, ?_, ?_, ?_, ?_, (SameRegsBut.ptpShown s off hport).trans (.of_regs hregs), ?_⟩
  · rw [State.flag_of_regs hregs, hs]
  · rw [State.flag_of_regs hregs, hg]
  · rw [State.flag_of_regs hregs, hp]
  · rw [State.flag_of_regs hregs, ho]
  · unfold State.ptpNoted
    rw [State.ptpShown_rest]

theorem ptpMessage_steps {s : State} {port : Nat} {off : Int} (hport : port < 2) (hup : s.portUp port = true)
    (hstep : s.dziv.synced = false ∨ off < -1000000 ∨ 1000000 < off) :
    ∃ u, u.dziv = { s.dziv with lastPtp := s.cyc } ∧ u.devOff = s.devOff ∧
      SameRegsBut [Reg.TTH_TIME_STAT, Reg.TTH_PORT_STAT 0, Reg.TTH_PORT_STAT 1] s u ∧
      exec (.ptpMessage port off false) s = .next (u.stepTime (-off)) := by
  refine ⟨s.ptpNoted port off, s.ptpNoted_dziv port off, ?_, (SameRegsBut.ptpShown s off hport).trans (.of_regs (s.ptpNoted_regs port off)), ?_⟩
  · unfold State.ptpNoted
    rw [State.ptpShown_rest]
  · rw [exec_ptpMessage off hup, if_pos]
    rcases hstep with h | h
    · exact .inl (by rw [h]; rfl)
    · exact .inr h

/-- Settles O51: a PTP message first shows its port, then steps or slews device time; the operations take the branch of their checks. -/
theorem portsTimeAndLockFollowTheNetwork : Obligations.PortsTimeAndLockFollowTheNetwork := by
  refine ⟨fun s k q hq => ⟨fun h1 h2 => ?_, fun h2 hon hen => ⟨_, rfl, ?_⟩⟩, fun s port => ⟨?_, fun h => ?_, fun h => ?_⟩, fun s k q hq => ?_,
    fun s k q hq => ?_, fun s port off hport hup hsync hlo hhi => ptpMessage_slews hport hup hsync hlo hhi,
    fun s port off hport hup hstep => ptpMessage_steps hport hup hstep, fun s d => ⟨_, rfl, rfl⟩, fun s other hsync hgm => ⟨_, _, rfl, rfl, ?_⟩,
    fun s k q hq => ⟨fun h0 => ?_, fun h0 hf => ?_, fun h0 hf hv hvfp hen => ?_⟩⟩
  · rw [exec, execLinkSet, hq]
    dsimp only
    rw [if_pos ⟨h1, h2⟩]
  · rw [exec]
    unfold execLinkSet
    simp only [hq, hon, hen, Bool.and_false, Bool.false_and, Bool.false_eq_true, if_false, State.setFld_dziv, if_true]
    rw [if_neg (fun h => h2 h.2)]
  · rw [exec, execEthLinkChange, if_neg (by simp)]
    rfl
  · rw [exec, execEthLinkChange, if_neg (by rw [h]; decide)]
    rfl
  · rw [exec, execEthLinkChange, if_pos (by rw [h]; decide)]
  · rw [exec, execLinkQuery, hq]
  · rw [exec, execTimeSet, hq]
  · rw [exec, execSyncTimeout, if_neg (by simp [hsync, hgm])]
    dsimp only
    split <;> rfl
  · rw [exec, execLockSet, hq]
    dsimp only
    rw [if_pos (by rw [h0]; decide)]
  · rw [exec, execLockSet, hq]
    dsimp only
    rw [if_neg (by rw [h0]; decide), if_pos (by rw [hf]; decide)]
  · rw [exec, execLockSet, hq]
    dsimp only
    rw [if_neg (by rw [h0]; decide), if_neg (by rw [hf]; decide), if_neg]
    rintro (h | h | h)
    · omega
    · omega
    · rw [hen] at h
      exact absurd h (by decide)

end Sys2Proof.Machine
end

section
/-! PROOFS. The group (18). -/

namespace Sys2Proof.Machine

/-! The group (18 R682-R688). -/

theorem seenBy_le (l : Nat × Nat) (port : Nat) : seenBy l port ≤ max l.1 l.2 := by
  unfold seenBy
  split
  · exact Nat.le_max_left _ _
  · exact Nat.le_max_right _ _

/-- A frame of the group's type on a port that is up. -/
theorem exec_groupFrame {s : State} {port : Nat} {f all p : List Byte} (hup : s.portUp port = true) (hetype : beAt f 16 2 = s.fld F.TTH_GROUP_ETYPE)
    (hall : f.drop 18 = all) (hp : all.take (all.length - 32) = p) :
    exec (.groupFrameReceived port f) s =
      if !s.flag F.TTH_GROUP_VALID ∨ all.length < 56 ∨ hmacSha256 s.dziv.key p ≠ all.drop (all.length - 32) ∨ leAt p 4 4 ≠ s.dziv.group
        ∨ leAt p 0 1 = 0 ∨ 5 < leAt p 0 1 ∨ 1023 < leAt p 2 2 then .next s.refuseFrame
      else if (SMap.get (fun _ => none) (s.member (leAt p 2 2)).seqs (leAt p 0 1)).any (fun l => decide (leAt p 8 8 ≤ max l.1 l.2)) then
        .next (if (SMap.get (fun _ => none) (s.member (leAt p 2 2)).seqs (leAt p 0 1)).any (fun l => decide (seenBy l port < leAt p 8 8))
          then s.putMember (leAt p 2 2) ((s.member (leAt p 2 2)).sawSeq (leAt p 0 1) port (leAt p 8 8)) else s.refuseFrame)
      else if (leAt p 0 1 = 3 ∨ leAt p 0 1 = 4) ∧ s.flag F.TTH_TIME_STAT_SYNC ∧ !s.timeNear (leAt p 16 8) then .next s.refuseFrame
      else .next ((s.putMember (leAt p 2 2) ((s.member (leAt p 2 2)).sawSeq (leAt p 0 1) port (leAt p 8 8))).takeFrame (leAt p 2 2) (leAt p 0 1) p
        (p.drop 24)) := by
  rw [exec]
  unfold execGroupFrameReceived
  rw [if_neg (by simp [hup, hetype])]
  simp only [hall, hp]

/-- Settles O52: a received frame passes its checks, then the copies already seen, then the time; the operations take the branch of their checks. -/
theorem groupMembersAndFrames : Obligations.GroupMembersAndFrames := by
  refine ⟨fun s t k q key hq hr => ⟨_, rfl, ?_⟩, fun s k q hq => ?_, fun s k q hq => ⟨fun hn => ?_, fun h hi hst => ?_, fun h hi hst => ?_⟩,
    fun s k q hq => ⟨fun hp => ?_, fun hp => ?_⟩, fun s hv hdue => ⟨_, rfl, ?_⟩, fun s j hst hfresh => ?_, fun s hdue => ⟨_, rfl, ?_⟩, ?_⟩
  · rw [exec, execGroupSet, hq]
    dsimp only
    rw [hr]
  · rw [exec, execRosterSet, hq]
  · rw [exec, execAdmitMember, hq]
    dsimp only
    rw [hn]
  · rw [exec, execAdmitMember, hq]
    dsimp only
    rw [hi]
    dsimp only
    rw [if_neg (by omega)]
  · rw [exec, execAdmitMember, hq]
    dsimp only
    rw [hi]
    dsimp only
    rw [if_pos (by omega)]
  · rw [exec, execAlarmSend, hq]
    dsimp only
    rw [if_pos (by simp [hp])]
  · rw [exec, execAlarmSend, hq]
    dsimp only
    rw [if_neg (by simpa using hp)]
  · rw [exec]
    unfold execHelloTimer
    rw [if_neg]
    rintro (h | ⟨h, h'⟩)
    · rw [hv] at h
      exact absurd h (by decide)
    · rcases hdue with hd | hd
      · exact h hd
      · rw [hd] at h'
        exact absurd h' (by decide)
  · rw [exec, execMemberTimeout]
    dsimp only
    rw [if_pos ⟨hst, by rw [hfresh]; rfl⟩]
  · have hsome : ¬ (s.flt.groupTrig.filter (fun t => decide (t ≤ s.devTime))).isEmpty = true := by
      obtain ⟨t, ht, hle⟩ := hdue
      rw [List.isEmpty_iff]
      exact List.ne_nil_of_mem (List.mem_filter.mpr ⟨ht, by simpa using hle⟩)
    rw [exec]
    unfold execGroupTriggerTime
    dsimp only
    rw [if_neg hsome]
    rfl
  · intro s port f hup hetype all p m last
    have hexec := exec_groupFrame hup hetype (all := all) (p := p) rfl rfl
    refine ⟨fun hv => ?_, fun hmac => ?_, fun hv hlen hmac hgroup h1 h5 hm => ?_⟩
    · rw [hexec, if_pos (.inl (by rw [hv]; rfl))]
    · rw [hexec, if_pos (.inr (.inr (.inl hmac)))]
    · have hm' : leAt p 2 2 ≤ 1023 := hm
      have hpass : ¬ ((!s.flag F.TTH_GROUP_VALID) = true ∨ all.length < 56 ∨ hmacSha256 s.dziv.key p ≠ all.drop (all.length - 32) ∨
          leAt p 4 4 ≠ s.dziv.group ∨ leAt p 0 1 = 0 ∨ 5 < leAt p 0 1 ∨ 1023 < leAt p 2 2) := by
        rw [hv]
        simp only [Bool.not_true, Bool.false_eq_true, false_or, not_or]
        exact ⟨by omega, fun h => h hmac, fun h => h hgroup, by omega, by omega, by omega⟩
      rw [if_neg hpass] at hexec
      refine ⟨fun l hl hle hlt => ?_, fun l hl hle => ?_, fun hnew hnear => ?_⟩
      · have hl' : SMap.get (fun _ => none) (s.member (leAt p 2 2)).seqs (leAt p 0 1) = some l := hl
        rw [hexec, hl', if_pos (by simpa using hle), if_pos (by simpa using hlt)]
      · have hl' : SMap.get (fun _ => none) (s.member (leAt p 2 2)).seqs (leAt p 0 1) = some l := hl
        rw [hexec, hl', if_pos (by simpa using le_trans hle (seenBy_le l port)), if_neg (by simpa using hle)]
      · have hfirst : ¬ (SMap.get (fun _ => none) (s.member (leAt p 2 2)).seqs (leAt p 0 1)).any (fun l => decide (leAt p 8 8 ≤ max l.1 l.2)) = true := by
          rw [Option.any_eq_true]
          rintro ⟨l, hl, hle⟩
          exact absurd (hnew l hl) (Nat.not_lt.mpr (of_decide_eq_true hle))
        rw [hexec, if_neg hfirst, if_neg (fun h => by rw [hnear] at h; exact absurd h.2.2 (by decide))]

end Sys2Proof.Machine
end

section
/-! PROOFS. Intercom and queue pairs (18 R689-R693). -/

namespace Sys2Proof.Machine

/-! Intercom and client queue pairs (18 R689-R693): one equation for each branch the statement speaks of. -/

theorem execIntercomSet_of_op {s : State} {k : Nat} {q : Started} (hq : s.opAt k 0x3807 = some q) :
    exec (.intercomSet k) s = .next (((s.setIntercom (q.p8 0) { s.intercom (q.p8 0) with
      tx := bit (q.p8 1) 0, rx := bit (q.p8 1) 1, depth := q.p8 2, member := q.p16 4, chan := q.p8 6, buffer := [] }).setRx (q.p8 0) false).endOp
        k St.ok) := by
  rw [exec, execIntercomSet, hq]

theorem execIntercomFrameSend_of_tx {s : State} {j : Nat} {l : List Nat} (htx : (s.intercom j).tx = true) (hl : l.length = 32) :
    exec (.intercomFrameSend j l) s = .next (s.sendGroup 5 (leBytes 1 j ++ l.flatMap (fun v => leBytes 3 v))) := by
  rw [exec, execIntercomFrameSend, if_pos (by simp [htx, hl])]

theorem execIntercomIdle_of_silent {s : State} {j : Nat} (hrx : bit s.aud.rxOn j = true)
    (hp : s.passed (s.intercom j).last (((s.intercom j).depth + 20) * 1000000) = true) :
    exec (.intercomIdle j) s = .next ((s.setIntercom j { s.intercom j with buffer := [] }).setRx j false) := by
  rw [exec, execIntercomIdle]
  dsimp only
  rw [if_pos (by simp [hrx, hp])]

theorem execQpSetup_of_stranger {s : State} {k : Nat} {q : Started} (hq : s.opAt k 0x3808 = some q)
    (hn : s.namesQp q.ring (q.p8 0) = false) : exec (.qpSetup k) s = .next (s.endOp k St.noPermission) := by
  rw [exec, execQpSetup, hq]
  dsimp only
  rw [if_pos (by simp [hn])]

theorem execQpSetup_of_none {s : State} {k : Nat} {q : Started} (hq : s.opAt k 0x3808 = some q)
    (hn : s.namesQp q.ring (q.p8 0) = true) (h0 : q.p8 2 = 0) :
    exec (.qpSetup k) s = .next ((s.setQp (q.p8 0) none).endOp k St.ok) := by
  rw [exec, execQpSetup, hq]
  dsimp only
  rw [if_neg (by simp [hn]), if_pos h0]

theorem execQpSetup_of_holder {s : State} {k c : Nat} {q : Started} (hq : s.opAt k 0x3808 = some q) (hr : q.ring = .client c)
    (hc : s.qpHolder (q.p8 0) = some c) (h0 : q.p8 2 ≠ 0) :
    exec (.qpSetup k) s = .next ((s.setQp (q.p8 0) (some {
      owner := .client c, port := q.p8 1, log := q.p8 2, bcast := bit (q.p8 3) 0, vlan := q.p16 4, mac := (q.pkt.params.drop 8).take 6
      txBase := q.p64 16, rxBase := q.p64 24, txIdx := 0, rxIdx := 0, txIdle := true, rxIdle := true })).endOp k St.ok) := by
  have hn : s.namesQp q.ring (q.p8 0) = true := by rw [hr, State.namesQp, hc]; simp
  rw [exec, execQpSetup, hq]
  dsimp only
  rw [if_neg (by simp [hn]), if_neg h0, hc]

theorem execQpKick_of_qp {s : State} {k : Nat} {q : Started} {x : Qp} (hq : s.opAt k 0x3809 = some q)
    (hn : s.namesQp q.ring (q.p8 0) = true) (hx : s.qp (q.p8 0) = some x) :
    exec (.qpKick k) s = .next ((s.setQp (q.p8 0) (some { x with txIdle := false, rxIdle := false })).endOp k St.ok) := by
  rw [exec, execQpKick, hq]
  dsimp only
  rw [if_neg (by simp [hn]), hx]

section
variable {s t u : State} {n : Nat} {x : Qp} {d f : List Byte}

/-- What QP_TRANSMIT does once it has read the descriptor, up to the length check. -/
theorem execQpTransmit_of_descriptor (hx : s.qp n = some x) (hidle : x.txIdle = false) (hs : s.safe = false) (hu : s.portUp x.port = true)
    (hd : s.unitRead (ringWho x.owner) (x.txBase + 16 * (x.txIdx % 2 ^ x.log)) 16 = (.ok d, t)) :
    (bit (leAt d 10 1) 0 = false → exec (.qpTransmit n) s = .next (t.setQp n (some { x with txIdle := true }))) ∧
    (bit (leAt d 10 1) 0 = true → leAt d 8 2 < 60 → exec (.qpTransmit n) s =
      .next ((t.setQp n (some { x with txIdx := x.txIdx + 1 })).endDescriptor n x (x.txBase + 16 * (x.txIdx % 2 ^ x.log)) (leAt d 10 1) 1 0)) := by
  have hgo : ¬ (x.txIdle ∨ s.safe ∨ !s.portUp x.port) := by simp [hidle, hs, hu]
  refine ⟨fun hown => ?_, fun hown hlen => ?_⟩
  · rw [exec, execQpTransmit, hx]
    dsimp only
    rw [if_neg hgo, hd]
    dsimp only
    rw [if_pos (by simp [hown])]
  · rw [exec, execQpTransmit, hx]
    dsimp only
    rw [if_neg hgo, hd]
    dsimp only
    rw [if_neg (by simp [hown]), if_pos (.inl hlen)]

theorem execQpTransmit_of_frame (hx : s.qp n = some x) (hidle : x.txIdle = false) (hs : s.safe = false) (hu : s.portUp x.port = true)
    (hd : s.unitRead (ringWho x.owner) (x.txBase + 16 * (x.txIdx % 2 ^ x.log)) 16 = (.ok d, t)) (hown : bit (leAt d 10 1) 0 = true)
    (hlo : 60 ≤ leAt d 8 2) (hhi : leAt d 8 2 ≤ 9212)
    (hf : (t.setQp n (some { x with txIdx := x.txIdx + 1 })).unitRead (ringWho x.owner) (leAt d 0 8) (leAt d 8 2) = (.ok f, u))
    (hty : u.deniedType (beAt f 12 2) = false) :
    exec (.qpTransmit n) s =
      .next ((u.sendFrame x.port (tagFrame x.vlan f)).endDescriptor n x (x.txBase + 16 * (x.txIdx % 2 ^ x.log)) (leAt d 10 1) 0 0) := by
  have hlen : ¬ (leAt d 8 2 < 60 ∨ (if x.vlan = 0 then 9216 else 9212) < leAt d 8 2) := by split <;> omega
  rw [exec, execQpTransmit, hx]
  dsimp only
  rw [if_neg (by simp [hidle, hs, hu]), hd]
  dsimp only
  rw [if_neg (by simp [hown]), if_neg hlen, hf]
  dsimp only
  rw [if_neg (by simp [hty])]

end

theorem execQpFrameReceived_of_untagged {s : State} {port : Nat} {f : List Byte} (hs : s.safe = false) (hu : s.portUp port = true)
    (hv : beAt f 12 2 ≠ 0x8100) (hg : beAt f 12 2 ≠ s.fld F.TTH_GROUP_ETYPE) (hp : beAt f 12 2 ≠ 0x88F7) :
    exec (.qpFrameReceived port f) s = .next ((List.range 32).foldl (fun (t : State) n =>
      match t.qp n with
      | some x => if x.takes port 0 f then t.deliver n x f else t
      | none => t) s) := by
  have htag : (beAt f 12 2 == 0x8100) = false := beq_false_of_ne hv
  rw [exec, execQpFrameReceived]
  simp only [htag, Bool.false_eq_true, if_false]
  rw [if_neg (by simp [hs, hu, hg, hp])] <;> rfl

/-- Settles O53: each clause is the branch lemma above that its hypotheses pick out. -/
theorem intercomAndQueuePairsCarryFrames : Obligations.IntercomAndQueuePairsCarryFrames := by
  unfold Obligations.IntercomAndQueuePairsCarryFrames
  refine ⟨?_, ?_, ?_, ?_, ?_, ?_, ?_⟩
  · exact fun _ _ _ hq => execIntercomSet_of_op hq
  · exact fun _ _ _ htx hl => execIntercomFrameSend_of_tx htx hl
  · exact fun _ _ hrx hp => execIntercomIdle_of_silent hrx hp
  · exact fun _ _ _ hq => ⟨execQpSetup_of_stranger hq, execQpSetup_of_none hq, fun _ => execQpSetup_of_holder hq⟩
  · exact fun _ _ _ _ hq hn hx => execQpKick_of_qp hq hn hx
  · intro s t u n x d f hx hidle hs hu hd
    obtain ⟨hwait, hshort⟩ := execQpTransmit_of_descriptor hx hidle hs hu hd
    exact ⟨hwait, hshort, execQpTransmit_of_frame hx hidle hs hu hd⟩
  · exact fun _ _ _ hs hu hv hg hp => execQpFrameReceived_of_untagged hs hu hv hg hp

end Sys2Proof.Machine
end

section
/-! PROOFS. The low-speed ports and pins (20). -/

namespace Sys2Proof.Machine

/-! The ports of the low-speed I/O unit (20 R749-R755). -/

theorem State.portWriter_s (s : State) (p : Nat) : s.portWriter .s p = true := rfl

theorem State.portWriter_med_of_sPort {s : State} {p : Nat} (h : s.sPort p = true) : s.portWriter .med p = false := by
  simp [State.portWriter, h]

section
variable {s : State} {p : Nat}

theorem execLsioCtrlWrite_of_s (v : Word) (hg : s.gatedAt (Reg.LSIO_CTRL p) = false) :
    ∃ u, u = ((s.setFld F.LSIO_CTRL_ENABLE (bitsOf v 31 31) p).setFld F.LSIO_CTRL_LOOPBACK (bitsOf v 30 30) p).setFld F.LSIO_CTRL_RX_TH (bitsOf v 13 8) p ∧
      (v.getLsbD 31 = true → exec (.lsioCtrlWrite .s p v) s = .next (u.portSync p (s.portMask p))) ∧
      (v.getLsbD 31 = false → exec (.lsioCtrlWrite .s p v) s = .next ((u.emptyPort p).portSync p (s.portMask p))) := by
  have hmay : ¬ ((!s.portWriter .s p || !s.mayRwm .s) = true) := by rw [s.portWriter_s]; simp [State.mayRwm, rwmWriter]
  refine ⟨_, rfl, fun hv => ?_, fun hv => ?_⟩
  · rw [exec, execLsioCtrlWrite, if_neg (by simp [hg]), if_neg hmay]
    dsimp only
    rw [if_pos hv]
  · rw [exec, execLsioCtrlWrite, if_neg (by simp [hg]), if_neg hmay]
    dsimp only
    rw [if_neg (by rw [hv]; decide)]

theorem execLsioTxPush_of_s (v : Word) (hg : s.gatedAt (Reg.LSIO_TX_PUSH p) = false) :
    (64 ≤ (s.txFifo p).length → exec (.lsioTxPush .s p v) s = .next (s.portEventBit p F.LSIO_INT_STAT_ERROR)) ∧
    ((s.txFifo p).length < 64 → bit s.lsio.skip p = false → exec (.lsioTxPush .s p v) s =
      .next (((s.setSkip p false).setTx p (s.txFifo p ++ [v.toNat])).portSync p (s.portMask p))) := by
  refine ⟨fun hfull => ?_, fun hroom hskip => ?_⟩
  · rw [exec, execLsioTxPush, if_neg (by simp [hg]), if_neg (by simp [s.portWriter_s]), if_pos hfull]
  · rw [exec, execLsioTxPush, if_neg (by simp [hg]), if_neg (by simp [s.portWriter_s]), if_neg (by omega), if_neg (by simp [hskip])]

theorem execLsioRxPop_of_s (v : Word) (hg : s.gatedAt (Reg.LSIO_RX_POP p) = false) :
    exec (.lsioRxPop .s p v) s = .next ((s.setRxFifo p (s.rxFifo p).tail).portSync p (s.portMask p)) := by
  rw [exec, execLsioRxPop, if_neg (by simp [hg]), if_neg (by simp [s.portWriter_s])]

/-- The mediator's writes to a port of the S-world do nothing (R751). -/
theorem portWrites_of_med (v : Word) (hs : s.sPort p = true) :
    (s.gatedAt (Reg.LSIO_TX_PUSH p) = false → exec (.lsioTxPush .med p v) s = .next s) ∧
    (s.gatedAt (Reg.LSIO_RX_POP p) = false → exec (.lsioRxPop .med p v) s = .next s) ∧
    (s.gatedAt (Reg.LSIO_CTRL p) = false → exec (.lsioCtrlWrite .med p v) s = .next s) := by
  have hmed := State.portWriter_med_of_sPort hs
  refine ⟨fun hg => ?_, fun hg => ?_, fun hg => ?_⟩
  · rw [exec, execLsioTxPush, if_neg (by simp [hg]), if_pos (by simp [hmed])]
  · rw [exec, execLsioRxPop, if_neg (by simp [hg]), if_pos (by simp [hmed])]
  · rw [exec, execLsioCtrlWrite, if_neg (by simp [hg]), if_pos (by simp [hmed])]

/-- A UART's bytes reach the FIFO as they are. -/
theorem State.uartBytes_eq {l : List Nat} (h8 : 8 ≤ p) (h12 : p < 12) (hl : ∀ e, e ∈ l → e < 256) :
    (s.rxEntries p l).map (fun e => e % 2 ^ 32) = l := by
  rw [State.rxEntries, if_neg (by omega), if_pos h12, List.map_map]
  refine (List.map_congr_left fun e he => ?_).trans (List.map_id l)
  have := hl e he
  simp only [Function.comp_apply, id_eq]
  omega

theorem State.takeEntries_of_bytes {l : List Nat} (h8 : 8 ≤ p) (h12 : p < 12) (hne : l ≠ []) (hroom : (s.rxFifo p).length + l.length ≤ 64)
    (hl : ∀ e, e ∈ l → e < 256) : s.takeEntries p l = s.setRxFifo p (s.rxFifo p ++ l) := by
  have herr : l.any (fun e => bit e 8 || bit e 9) = false := by
    refine List.any_eq_false.mpr fun e he => ?_
    have := hl e he
    simp only [bit, Nat.testBit_lt_two_pow (show e < 2 ^ 8 by omega), Nat.testBit_lt_two_pow (show e < 2 ^ 9 by omega)]
    simp
  rw [State.takeEntries, if_neg (by simp [hne]; omega), State.uartBytes_eq h8 h12 hl]
  have htake : l.take (64 - (s.rxFifo p).length) = l := List.take_of_length_le (by omega)
  simp only [if_neg (show ¬ 12 ≤ p by omega), if_neg (show ¬ 64 - (s.rxFifo p).length < l.length by omega), htake, herr, Bool.false_eq_true, and_false,
    if_false]

theorem execLsioRxEntry_of_bytes {l : List Nat} (h8 : 8 ≤ p) (h12 : p < 12) (hen : s.flag F.LSIO_CTRL_ENABLE p = true)
    (hloop : s.flag F.LSIO_CTRL_LOOPBACK p = false) (hne : l ≠ []) (hon : s.powered 44 = true) (hroom : (s.rxFifo p).length + l.length ≤ 64)
    (hl : ∀ e, e ∈ l → e < 256) :
    exec (.lsioRxEntry p l) s = .next ((s.setRxFifo p (s.rxFifo p ++ l)).portSync p (s.portMask p)) := by
  rw [exec, execLsioRxEntry, if_neg (by simp [hen, hloop, hon]), State.takeEntries_of_bytes h8 h12 hne hroom hl]

theorem execLsioTxDone_of_uart (h8 : 8 ≤ p) (h12 : p < 12) (hen : s.flag F.LSIO_CTRL_ENABLE p = true) (hne : s.txFifo p ≠ [])
    (hon : s.powered 44 = true) :
    ∃ u, u = (s.setTx p []).setFld F.LSIO_INT_STAT_DONE 1 p ∧ exec (.lsioTxDone p) s =
      .next ((if s.flag F.LSIO_CTRL_LOOPBACK p then u.takeEntries p (loopEntries p (s.txFifo p)) else u).portSync p (s.portMask p)) := by
  have hsent : sentEntries p (s.txFifo p) = (s.txFifo p).length := by rw [sentEntries, if_neg (by omega), if_pos h12]
  refine ⟨_, rfl, ?_⟩
  rw [exec, execLsioTxDone, hsent]
  dsimp only
  rw [if_neg (by simp [hen, hon, hne]), List.drop_length, List.take_length]

theorem execLsioBusError_of_can (tec rec : Nat) (h12 : 12 ≤ p) (hen : s.flag F.LSIO_CTRL_ENABLE p = true) (hon : s.powered 44 = true) :
    exec (.lsioBusError p tec rec) s =
      .next (((s.setFld F.LSIO_INT_STAT_ERROR 1 p).setRg (Reg.LSIO_ERRCNT (p - 12)) (BitVec.ofNat 32 (min tec 255 * 256 + min rec 255))).portSync p
        (s.portMask p)) := by
  rw [exec, execLsioBusError, if_neg (by simp [hen, hon])]
  dsimp only
  rw [if_neg (by omega), if_pos h12]

theorem execCanStateChange_of_new {st : Nat} (h12 : 12 ≤ p) (hst : st < 3) (hen : s.flag F.LSIO_CTRL_ENABLE p = true)
    (hnew : s.fld F.LSIO_STAT_STATE p ≠ st) (hon : s.powered 44 = true) :
    exec (.canStateChange p st) s = .next ((s.setFld F.LSIO_STAT_STATE st p).portEventBit p F.LSIO_INT_STAT_STATE_CHANGE) := by
  have hgo : ¬ (p < 12 ∨ 3 ≤ st ∨ (!s.flag F.LSIO_CTRL_ENABLE p) = true ∨ s.fld F.LSIO_STAT_STATE p = st ∨ (!s.powered 44) = true) := by
    simp [hen, hnew, hon]
    omega
  rw [exec, execCanStateChange, if_neg hgo]

end

/-! The pins (20 R751, R752, R756). -/

theorem State.rg_setPin_ne {s : State} {reg : Nat → Nat} {i a : Nat} (b : Bool) (h : a ≠ reg (i / 32)) : (s.setPin reg i b).rg a = s.rg a :=
  State.rg_setRg_ne _ _ h

/-- The registers that say how a pin's edge counts stand when its IN and EDGE bits change. -/
theorem State.sPin_setPin {s : State} {reg : Nat → Nat} {i : Nat} (b : Bool) (h : Reg.LSIO_SGPIO (i / 32) ≠ reg (i / 32)) :
    (s.setPin reg i b).sPin i = s.sPin i := by
  rw [State.sPin, State.sPin, State.rg_setPin_ne b h]

theorem State.pinMoves_eq (s : State) (i : Nat) (level : Bool) :
    ∃ u sel, u = s.setPin (fun w => Reg.LSIO_GPIO_IN w) i level ∧
      sel = bitsOf (s.rg (Reg.LSIO_GPIO_IRQ (i / 16))) (2 * (i % 16) + 1) (2 * (i % 16)) ∧
      (bit sel (if level then 0 else 1) = false → exec (.gpioEdge i level) s = .next u) ∧
      (bit sel (if level then 0 else 1) = true → exec (.gpioEdge i level) s =
        .next ((u.setPin (fun w => Reg.LSIO_GPIO_EDGE w) i true).raise ((if s.sPin i then 422 else 414) + i / 8))) := by
  have hirq : Reg.LSIO_GPIO_IRQ (i / 16) ≠ Reg.LSIO_GPIO_IN (i / 32) := by simp only [Reg.LSIO_GPIO_IRQ, Reg.LSIO_GPIO_IN]; omega
  have hspin : (s.setPin (fun w => Reg.LSIO_GPIO_IN w) i level).sPin i = s.sPin i :=
    State.sPin_setPin level (by simp only [Reg.LSIO_SGPIO, Reg.LSIO_GPIO_IN]; omega)
  refine ⟨_, _, rfl, rfl, fun hsel => ?_, fun hsel => ?_⟩
  · rw [exec, execGpioEdge, State.pinMoves, State.rg_setPin_ne level hirq, if_neg (by simp [hsel])]
  · rw [exec, execGpioEdge, State.pinMoves, State.rg_setPin_ne level hirq, if_pos hsel, State.pinSource, hspin]

/-- Only the S-world's writes reach the ownership registers (R750, R751). -/
theorem execLsioSownWrite_of_ungated {s : State} (v : Word) (hg : s.gatedAt Reg.LSIO_SOWN = false) :
    exec (.lsioSownWrite .s Reg.LSIO_SOWN v) s = .next (s.setSown v) ∧ exec (.lsioSownWrite .s (Reg.LSIO_SGPIO 0) v) s = .next (s.setSgpio 0 v) ∧
    exec (.lsioSownWrite .s (Reg.LSIO_SGPIO 1) v) s = .next (s.setSgpio 1 v) ∧
    ∀ who addr, who ≠ .s → exec (.lsioSownWrite who addr v) s = .next s := by
  have hng : ¬ s.gatedAt Reg.LSIO_SOWN = true := by simp [hg]
  have hs : ¬ (Who.s != .s) = true := by decide
  refine ⟨?_, ?_, ?_, fun who addr hwho => ?_⟩
  · rw [exec, execLsioSownWrite, if_neg hng, if_neg hs, if_pos rfl]
  · rw [exec, execLsioSownWrite, if_neg hng, if_neg hs, if_neg (by decide), if_pos rfl]
  · rw [exec, execLsioSownWrite, if_neg hng, if_neg hs, if_neg (by decide), if_neg (by decide), if_pos rfl]
  · rw [exec, execLsioSownWrite, if_neg hng, if_pos (by simp [hwho])]

/-- Settles O57: each clause is the branch lemma above that its hypotheses pick out. -/
theorem lowSpeedPortsAndPins : Obligations.LowSpeedPortsAndPins := by
  unfold Obligations.LowSpeedPortsAndPins
  refine ⟨fun s p v => execLsioCtrlWrite_of_s v, fun s p v => execLsioTxPush_of_s v, fun s p v => execLsioRxPop_of_s v, fun s p v => portWrites_of_med v,
    ?_, ?_, ?_, ?_, fun s i level _ => s.pinMoves_eq i level, fun s v => execLsioSownWrite_of_ungated v⟩
  · exact fun s p l h8 h12 hen hloop hne hon hroom hl => execLsioRxEntry_of_bytes h8 h12 hen hloop hne hon hroom hl
  · exact fun s p h8 h12 hen hne hon => execLsioTxDone_of_uart h8 h12 hen hne hon
  · exact fun s p tec rec h12 hen hon => execLsioBusError_of_can tec rec h12 hen hon
  · exact fun s p st h12 hst hen hnew hon => execCanStateChange_of_new h12 hst hen hnew hon

end Sys2Proof.Machine
end

section
/-! PROOFS. Waking from Sleep (19 R709). -/

namespace Sys2Proof.Machine

/-! A state in which waking does not leave STATE 0: the statement quantifies over every state, and here a mirror's secondary lies so far beyond
DRAM that the counter of corrected words of its channel, as the model numbers channels, has the address of `PWR_STATE`. -/

/-- A mirror whose secondary lies beyond DRAM: the corrections of its first word count at `0x10b00240 + 4 * 0xFFF70`, which is `PWR_STATE`. -/
def farMirror : Mirror := { primary := dramBase, secondary := dramBase + 0x3FFDC * 2 ^ 30, size := 0x200000, releasing := false }

/-- Waking up, with `PWR_STATE` all ones under STATE 4; the S ring's next event entry begins in the middle of a word that `farMirror` serves, and
that word has one damaged symbol. -/
def farMirrorState : State :=
  { State.reset with
    regs := [(Reg.MC_CFG, 4), (Reg.MC_MIRROR, 0x02000000), (Reg.PWR_STATE, 0x9FFFFFFF)]
    cp := { Cp.reset with rings := [(ringKey .s, { RingSet.off with enabled := true, eqBase := dramBase + 16 })] }
    mc := { Mc.reset with inks := [(0, 1)], mirrors := [(0, some farMirror)], damage := [(wordNo farMirror.secondary, [(0, 1)])] } }

/-- The power state that SLEEP_EXIT leaves. -/
def State.stateAfterExit (s : State) : Option Nat :=
  match execSleepExit s with
  | .next t => some (t.fld F.PWR_STATE_STATE)
  | .fault _ => none
  | .refused _ => none

theorem State.stateAfterExit_of_next {s t : State} (h : exec .sleepExit s = .next t) : s.stateAfterExit = some (t.fld F.PWR_STATE_STATE) := by
  rw [exec] at h
  rw [State.stateAfterExit, h]

theorem farMirrorState_wakes : farMirrorState.fld F.PWR_STATE_STATE = 4 ∧ farMirrorState.pwr.railJob = none := by decide +kernel

theorem farMirrorState_exit : farMirrorState.stateAfterExit = some 1 := by decide +kernel

/-- Refutes O54: in `farMirrorState` the event of the wake-up corrects a word, and the correction's count carries into STATE, which ends as 1. -/
theorem not_powerStatesFollowTheirRules : ¬ Obligations.PowerStatesFollowTheirRules := by
  unfold Obligations.PowerStatesFollowTheirRules
  rintro ⟨-, -, -, -, -, hexit, -⟩
  obtain ⟨hstate, hrail⟩ := farMirrorState_wakes
  obtain ⟨t, ht, h0⟩ := hexit farMirrorState hstate hrail
  have h1 := State.stateAfterExit_of_next ht
  rw [farMirrorState_exit, h0] at h1
  exact absurd h1 (by decide)

end Sys2Proof.Machine
end

section
/-! PROOFS. Power domains and S-world claims (19 R698-R700; 02 R83-R90). -/

namespace Sys2Proof.Machine

/-! DOMAIN_SET, branch by branch (19 R698-R700). -/

section
variable {s : State} {k : Nat} {q : Started} (hq : s.opAt k 0x3C01 = some q) (hp : q.progress = 0)
include hq hp

theorem execDomainSet_of_fixed (hf : fixedDomain (q.p8 0) = true) : exec (.domainSet k) s = .next (s.endOp k St.range 0) := by
  rw [exec, execDomainSet, hq]
  dsimp only
  rw [if_neg (by simp [hp]), if_pos hf]

variable (hf : fixedDomain (q.p8 0) = false)
include hf

theorem execDomainSet_of_asleep (ha : s.asleep = true) : exec (.domainSet k) s = .next (s.endOp k St.busy) := by
  rw [exec, execDomainSet, hq]
  dsimp only
  rw [if_neg (by simp [hp]), if_neg (by simp [hf]), if_pos ha]

variable (ha : s.asleep = false)
include ha

theorem execDomainSet_of_on (h1 : q.p8 1 = 1) : exec (.domainSet k) s = .next (s.domainOn k (q.p8 0) q.pkt.tag) := by
  rw [exec, execDomainSet, hq]
  dsimp only
  rw [if_neg (by simp [hp]), if_neg (by simp [hf]), if_neg (by simp [ha]), if_pos h1]

theorem execDomainSet_of_powered (h1 : q.p8 1 ≠ 1) (hon : s.powered (q.p8 0) = true) :
    exec (.domainSet k) s = .next (s.domainCut k (q.p8 0) q) := by
  rw [exec, execDomainSet, hq]
  dsimp only
  rw [if_neg (by simp [hp]), if_neg (by simp [hf]), if_neg (by simp [ha]), if_neg h1, if_pos hon]

theorem execDomainSet_of_off (h0 : q.p8 1 = 0) (hoff : s.powered (q.p8 0) = false) : exec (.domainSet k) s = .next (s.endOp k St.ok) := by
  rw [exec, execDomainSet, hq]
  dsimp only
  rw [if_neg (by simp [hp]), if_neg (by simp [hf]), if_neg (by simp [ha]), if_neg (by simp [h0]), if_neg (by simp [hoff]), if_pos h0]

end

/-! A cut asked for by another party than the S-world (02 R83-R90): what the verdict on the domain makes of it. -/

section
variable {s : State} {k d : Nat} {q : Started} (hr : q.ring ≠ .s)
include hr

theorem State.domainCut_of_kept (hv : s.cutVerdict [d] = 0) : s.domainCut k d q = s.endOp k St.noPermission := by
  rw [State.domainCut]
  simp only [if_neg hr, hv, if_true]

theorem State.domainCut_of_claimed (hv : s.cutVerdict [d] = 1) :
    s.domainCut k d q = s.holdRequest k ⟨if q.p8 1 = 2 then 1 else 0, [d], q.ring, q.pkt.tag⟩ := by
  rw [State.domainCut]
  simp [if_neg hr, hv]

theorem State.domainCut_of_busy (hv : s.cutVerdict [d] = 2) (hforce : bit (q.p8 2) 0 = false) (hb : s.domainBusy d k = true) :
    s.domainCut k d q = s.endOp k St.busy := by
  rw [State.domainCut]
  simp [if_neg hr, hv, hforce, hb]

theorem State.domainCut_of_forced (hv : s.cutVerdict [d] = 2) (hforce : bit (q.p8 2) 0 = true) :
    s.domainCut k d q = ((s.cancelHeld [d] q.pkt.tag).setProgress k 1).startCut d k := by
  rw [State.domainCut]
  simp [if_neg hr, hv, hforce]

end

theorem execDomainRestored_of_waiting {s : State} {d : Nat} {l : List (Nat × Option Nat)} (hl : s.pwr.restoring.filter (fun e => e.1 == d) = l)
    (hne : l ≠ []) (hoff : s.powered d = false) (hcut : s.pwr.cutting.any (fun e => e.1 == d) = false) (ha : s.asleep = false) :
    exec (.domainRestored d) s = .next (l.foldl (fun (t : State) e => match e.2 with
      | some k => t.endOp k St.ok
      | none => t) (({ s with pwr := { s.pwr with restoring := s.pwr.restoring.filter (fun e => e.1 != d) } } : State).restoreDomain d)) := by
  rw [exec, execDomainRestored, hl]
  dsimp only
  rw [if_neg (by simp [hne, hoff, hcut, ha])] <;> rfl

/-! The S-world's claims, and the requests held for them. -/

theorem execPwrSclaimWrite_of_s (s : State) (v : Word) :
    exec (.pwrSclaimWrite .s 0 v) s =
      .next (if (s.setRg Reg.PWR_SCLAIM0 v).asleep then s.setRg Reg.PWR_SCLAIM0 v else (s.setRg Reg.PWR_SCLAIM0 v).restoreClaimed) ∧
    exec (.pwrSclaimWrite .s 1 v) s =
      .next (if (s.setRg Reg.PWR_SCLAIM1 (v &&& 0x3FFF)).asleep then s.setRg Reg.PWR_SCLAIM1 (v &&& 0x3FFF)
        else (s.setRg Reg.PWR_SCLAIM1 (v &&& 0x3FFF)).restoreClaimed) := by
  constructor
  · rw [exec, execPwrSclaimWrite, if_neg (by decide)] <;> rfl
  · rw [exec, execPwrSclaimWrite, if_neg (by decide)] <;> rfl

theorem execPwrSclaimWrite_of_other {who : Who} (s : State) (j : Nat) (v : Word) (h : who ≠ .s) : exec (.pwrSclaimWrite who j v) s = .next s := by
  rw [exec, execPwrSclaimWrite, if_pos (by simp [h])]

section
variable {s : State} {i : Nat} {x : Deferred} (hx : s.wld.deferred[i]? = some x)
include hx

theorem execDeferredApply_of_claimed {d : Nat} (hd : d ∈ x.domains) (hc : s.claimed d = true) : exec (.deferredApply i) s = .next s := by
  have hany : x.domains.any (fun e => s.claimed e) = true := List.any_eq_true.mpr ⟨d, hd, hc⟩
  rw [exec, execDeferredApply, hx]
  dsimp only
  rw [if_pos (by simp [hany])]

theorem execDeferredApply_of_cut {d : Nat} (ha : s.asleep = false) (hk : x.kind ≠ 2) (hd : x.domains = [d]) (hc : s.claimed d = false) :
    ∃ u, u = s.setDeferred (s.wld.deferred.eraseIdx i) ∧ exec (.deferredApply i) s =
      .next ((if u.powered d then u.startCut d (if x.kind = 1 then heldReset else heldOff) else u).event x.ring 0x3C01 noInst x.tag 0) := by
  refine ⟨_, rfl, ?_⟩
  rw [exec, execDeferredApply, hx]
  dsimp only
  rw [if_neg (by simp [ha, hd, hc, hk]), if_neg hk, hd]

theorem execDeferredApply_of_sleep (ha : s.asleep = false) (hk : x.kind = 2) (hs : s.safe = false) (hc : ∀ d, d ∈ x.domains → s.claimed d = false) :
    exec (.deferredApply i) s =
      .next (((s.setDeferred (s.wld.deferred.eraseIdx i)).setFld F.PWR_STATE_STATE 2).event x.ring 0x3C01 noInst x.tag 0) := by
  have hany : x.domains.any (fun e => s.claimed e) = false := List.any_eq_false.mpr fun d hd => by simp [hc d hd]
  rw [exec, execDeferredApply, hx]
  dsimp only
  rw [if_neg (by simp [ha, hany, hs]), if_pos hk]

end

/-- Settles O55: each clause is the branch lemma above that its hypotheses pick out. -/
theorem domainsAndClaimsFollowTheirRules : Obligations.DomainsAndClaimsFollowTheirRules := by
  unfold Obligations.DomainsAndClaimsFollowTheirRules
  refine ⟨?_, ?_, ?_, execPwrSclaimWrite_of_s, fun s _ j v h => execPwrSclaimWrite_of_other s j v h, ?_, ?_, ?_⟩
  · exact fun s k q hq hp => ⟨execDomainSet_of_fixed hq hp, execDomainSet_of_asleep hq hp, execDomainSet_of_on hq hp,
      execDomainSet_of_off hq hp, execDomainSet_of_powered hq hp⟩
  · exact fun s k d q hr => ⟨State.domainCut_of_kept hr, State.domainCut_of_claimed hr, State.domainCut_of_busy hr, State.domainCut_of_forced hr⟩
  · exact fun s d l hl hne hoff hcut ha => ⟨_, rfl, execDomainRestored_of_waiting hl hne hoff hcut ha⟩
  · exact fun s i d x hx ha hk hd hc => execDeferredApply_of_cut hx ha hk hd hc
  · exact fun s i x hx ha hk hs hc => execDeferredApply_of_sleep hx ha hk hs hc
  · exact fun s i d x hx hd hc => execDeferredApply_of_claimed hx hd hc

end Sys2Proof.Machine
end

section
/-! PROOFS. Resets, rails and the always-on domain (19 R711-R725). -/

namespace Sys2Proof.Machine

/-! Resets (19 R721-R725). -/

section
variable {s : State} {k : Nat} {q : Started} (hq : s.opAt k 0x3C02 = some q)
include hq

theorem execReset_of_warm (h1 : q.p8 0 = 1) (hr : q.ring = .s) : exec (.reset k) s = .next ((s.afterReset true).boot true) := by
  rw [exec, execReset, hq]
  dsimp only
  rw [if_pos h1, if_pos hr]

theorem execReset_of_stranger (h1 : q.p8 0 = 1) (hr : q.ring ≠ .s) : exec (.reset k) s = .next (s.endOp k St.noPermission) := by
  rw [exec, execReset, hq]
  dsimp only
  rw [if_pos h1, if_neg hr]

theorem execReset_of_safe (h1 : q.p8 0 ≠ 1) (hp : q.progress = 0) (hs : s.safe = true) : exec (.reset k) s = .next (s.endOp k St.busy) := by
  rw [exec, execReset, hq]
  dsimp only
  rw [if_neg h1, if_neg (by simp [hp]), if_pos hs]

theorem execReset_of_nworld (h1 : q.p8 0 ≠ 1) (hp : q.progress = 0) (hs : s.safe = false) :
    exec (.reset k) s = .next ((s.setProgress k 1).beginNReset) := by
  rw [exec, execReset, hq]
  dsimp only
  rw [if_neg h1, if_neg (by simp [hp]), if_neg (by simp [hs])]

end

theorem execNworldResetDone_of_done {s : State} (hr : s.pwr.nReset = true) (hw : s.nWorkLeft = false) :
    ∃ u, u = ((({ s with pwr := { s.pwr with nReset := false } } : State).clearNDram.releaseCores).event .s 0x3C08 noInst 0 0) ∧
      (u.busyPlaces = [] → exec .nworldResetDone s = .next u) := by
  refine ⟨_, rfl, fun hb => ?_⟩
  rw [exec, execNworldResetDone, if_neg (by simp [hr, hw])]
  dsimp only
  rw [hb, List.foldl_nil]

theorem execResetNLow_of_running {s : State} (hhi : s.flt.poresetHi = true) (hlow : s.pwr.resetLow = false) :
    ∃ t, t = s.afterReset true ∧ exec .resetNLow s = .next { t with pwr := { t.pwr with resetLow := true } } := by
  refine ⟨_, rfl, ?_⟩
  rw [exec, execResetNLow, if_neg (by simp [hhi, hlow])]

theorem execWarmResetRelease_of_low {s : State} (h : s.pwr.resetLow = true) : exec .warmResetRelease s = .next (s.boot true) := by
  rw [exec, execWarmResetRelease, if_pos h]

theorem execPoresetLow_of_running {s : State} (h : s.flt.poresetHi = true) : exec .poresetLow s = .next (s.afterReset false) := by
  rw [exec, execPoresetLow, if_pos h]

/-! The always-on domain (19 R711-R720). -/

theorem execAonPowerUp_of_off {s : State} (hh : s.pwr.hold = false) (hv : s.pwr.vault = false) (hp : s.flt.poresetHi = false) :
    exec .aonPowerUp s = .next { s with pwr := { s.pwr with hold := true } } := by
  rw [exec, execAonPowerUp, if_neg (by simp [hh, hv, hp])]

theorem State.rg_clearRegs_in {s : State} {lo hi a : Nat} (h1 : lo ≤ a) (h2 : a < hi) : (s.clearRegs lo hi).rg a = regReset a :=
  (SMap.get_clear _ _ _ _ _).trans (if_pos ⟨h1, h2⟩)

theorem State.rg_clearRegs_out {s : State} {lo hi a : Nat} (h : a < lo ∨ hi ≤ a) : (s.clearRegs lo hi).rg a = s.rg a :=
  (SMap.get_clear _ _ _ _ _).trans (if_neg (by omega))

theorem execVbatLoss_of_off {s : State} (h : s.flt.poresetHi = false) :
    ∃ t, exec .vbatLoss s = .next t ∧ (∀ a, 0x11000000 ≤ a → a < 0x11001000 → t.rg a = regReset a) ∧ t.fol.counters = [] ∧ t.fol.hist = [] ∧
      t.pwr.vault = false ∧ t.pwr.lost = true ∧ t.pwr.vaultSeal = none := by
  refine ⟨_, by rw [exec, execVbatLoss, if_neg (by simp [h])], fun a h1 h2 => ?_, rfl, rfl, rfl, rfl, rfl⟩
  have hout : a < Reg.LSIO_GPIO_OUT 0 := by simp only [Reg.LSIO_GPIO_OUT]; omega
  have hoe : a < Reg.LSIO_GPIO_OE 0 := by simp only [Reg.LSIO_GPIO_OE]; omega
  calc State.rg _ a = (((s.clearRegs 0x11000000 0x11001000).clearRegs (Reg.LSIO_GPIO_OUT 0) (Reg.LSIO_GPIO_OUT 2)).clearRegs (Reg.LSIO_GPIO_OE 0)
          (Reg.LSIO_GPIO_IRQ 4)).rg a := rfl
    _ = (s.clearRegs 0x11000000 0x11001000).rg a := by rw [State.rg_clearRegs_out (.inl hoe), State.rg_clearRegs_out (.inl hout)]
    _ = regReset a := State.rg_clearRegs_in h1 h2

theorem execVbatLoss_of_powered {s : State} (h : s.flt.poresetHi = true) : exec .vbatLoss s = .next s := by
  rw [exec, execVbatLoss, if_pos (by simp [h])]

/-- What an opening of the case leaves in the always-on registers (R716). -/
def State.caseRegs (s : State) : State :=
  ((s.satInc F.AON_CASE_COUNT).setRg Reg.AON_CASE_TIME (s.rg Reg.AON_RTC)).setFld F.AON_STAT_CASE_OPEN 1

theorem SameRegsBut.caseRegs (s : State) : SameRegsBut [Reg.AON_CASE, Reg.AON_CASE_TIME, Reg.AON_STAT] s s.caseRegs :=
  (SameRegsBut.satInc s F.AON_CASE_COUNT 0 1 (by decide)).trans
    ((SameRegsBut.setRg _ Reg.AON_CASE_TIME _ (by simp)).trans (.setFld _ F.AON_STAT_CASE_OPEN 1 0 (by decide)))

theorem State.caseRegs_rest (s : State) : s.caseRegs = { s with regs := s.caseRegs.regs } := by
  unfold State.caseRegs
  apply State.eq_of_parts <;> simp

theorem State.caseRegs_time (s : State) : s.caseRegs.rg Reg.AON_CASE_TIME = s.rg Reg.AON_RTC := by
  rw [State.caseRegs, State.rg_setFld_ne _ _ _ (by decide), State.rg_setRg]

theorem State.caseRegs_open (s : State) : s.caseRegs.flag F.AON_STAT_CASE_OPEN = true := by
  rw [State.caseRegs, State.flag_setFld_one _ _ (by decide)]

theorem execCaseOpen_of_off {s : State} (h : s.flt.poresetHi = false) :
    exec .caseOpen s = .next { s.caseRegs with pwr := { s.pwr with openings := s.pwr.openings ++ [(s.rg Reg.AON_RTC).toNat] } } := by
  have hpwr : s.caseRegs.pwr = s.pwr := by rw [State.caseRegs_rest]
  have hflt : s.caseRegs.flt = s.flt := by rw [State.caseRegs_rest]
  rw [exec, execCaseOpen]
  dsimp only
  rw [← State.caseRegs, hflt, hpwr, if_pos (by simp [h])]

/-- The opening's time joins the list, whatever state holds the registers. -/
theorem caseOpened_shown {s u : State} (htime : u.rg Reg.AON_CASE_TIME = s.rg Reg.AON_RTC) (hopen : u.flag F.AON_STAT_CASE_OPEN = true)
    (hregs : SameRegsBut [Reg.AON_CASE, Reg.AON_CASE_TIME, Reg.AON_STAT] s u) (hrest : u = { s with regs := u.regs }) :
    ∃ t, Host.Outcome.next (φ := Fault) (ρ := Refusal)
        { u with pwr := { s.pwr with openings := s.pwr.openings ++ [(s.rg Reg.AON_RTC).toNat] } } = .next t ∧
      t.rg Reg.AON_CASE_TIME = s.rg Reg.AON_RTC ∧ t.flag F.AON_STAT_CASE_OPEN = true ∧
      t.pwr.openings = s.pwr.openings ++ [(s.rg Reg.AON_RTC).toNat] ∧
      SameRegsBut [Reg.AON_CASE, Reg.AON_CASE_TIME, Reg.AON_STAT] s t ∧ t = { s with regs := t.regs, pwr := t.pwr } :=
  ⟨_, rfl, htime, hopen, rfl, hregs, by rw [hrest]⟩

theorem caseOpen_of_off {s : State} (h : s.flt.poresetHi = false) :
    ∃ t, exec .caseOpen s = .next t ∧ t.rg Reg.AON_CASE_TIME = s.rg Reg.AON_RTC ∧ t.flag F.AON_STAT_CASE_OPEN = true ∧
      t.pwr.openings = s.pwr.openings ++ [(s.rg Reg.AON_RTC).toNat] ∧
      SameRegsBut [Reg.AON_CASE, Reg.AON_CASE_TIME, Reg.AON_STAT] s t ∧ t = { s with regs := t.regs, pwr := t.pwr } := by
  rw [execCaseOpen_of_off h]
  exact caseOpened_shown s.caseRegs_time s.caseRegs_open (.caseRegs s) s.caseRegs_rest

section
variable {s : State} {k : Nat} {q : Started}

theorem execRtcSet_of_unsynced (hq : s.opAt k 0x3C03 = some q) (hb : bit (q.p8 0) 0 = true) (hs : s.flag F.TTH_TIME_STAT_SYNC = false) :
    exec (.rtcSet k) s = .next (s.endOp k St.busy) := by
  rw [exec, execRtcSet, hq]
  dsimp only
  rw [if_pos (by simp [hb, hs])]

theorem execRtcSet_of_value (hq : s.opAt k 0x3C03 = some q) (hb : bit (q.p8 0) 0 = false) :
    exec (.rtcSet k) s =
      .next ((((s.setRg Reg.AON_RTC (BitVec.ofNat 32 (q.p32 4))).setFld F.AON_STAT_RTC_VALID 1).evalCalendar).endOp k St.ok) := by
  rw [exec, execRtcSet, hq]
  dsimp only
  rw [if_neg (by simp [hb]), if_neg (by simp [hb])]

theorem execPowerQuery_of_op (hq : s.opAt k 0x3C04 = some q) :
    exec (.powerQuery k) s = .next (s.endOp k St.ok (s.rg Reg.PWR_STATE).toNat (s.rg Reg.PWR_SREADY0).toNat (s.rg Reg.PWR_SREADY1).toNat
      (s.rg Reg.AON_STAT).toNat) := by
  rw [exec, execPowerQuery, hq]
  rfl

end

/-! Regulators and voltage (19 R713-R718). -/

section
variable {s : State} {r tries : Nat} {l : List Nat} (hj : s.pwr.railJob = some ⟨true, r :: l, tries⟩)
include hj

theorem execRailPowerGood_of_next (hoff : bit s.pwr.railsOff r = true) :
    exec (.railPowerGood r) s = .next { s with pwr := { s.pwr with
      railsOff := s.pwr.railsOff - 2 ^ r, railJob := if l.isEmpty then none else some ⟨true, l, 0⟩ } } := by
  rw [exec, execRailPowerGood, hj]
  dsimp only
  rw [if_neg (by simp), if_pos hoff]
  rfl

theorem execRailTimeout_of_first (status : Nat) (ht : tries = 0) :
    exec (.railTimeout r status) s = .next { s with pwr := { s.pwr with railJob := some ⟨true, r :: l, 1⟩ } } := by
  rw [exec, execRailTimeout, hj]
  dsimp only
  rw [if_neg (by simp), if_pos ht]

theorem execRailTimeout_of_second (status : Nat) (ht : tries ≠ 0) :
    exec (.railTimeout r status) s =
      .next (((({ s with pwr := { s.pwr with railJob := none, railsOff := railBits s.sleepRails } } : State).setFld F.PWR_STATE_STATE 3).raise 7).event .s
        0x3C07 noInst r status) := by
  rw [exec, execRailTimeout, hj]
  dsimp only
  rw [if_neg (by simp), if_neg ht]

end

theorem execAvsAdjust_of_set {s : State} (he : s.flag F.PWR_AVS_ENABLE = true) (h1 : s.avsRails.length = 1) (hv : s.fld F.PWR_AVS_VOUT_MV ≠ 0) :
    exec (.avsAdjust 1) s = .next (s.setFld F.PWR_AVS_VOUT_MV (min (s.fld F.PWR_AVS_VOUT_MV + 5) 850)) ∧
    exec (.avsAdjust 2) s = .next (s.setFld F.PWR_AVS_VOUT_MV (max (s.fld F.PWR_AVS_VOUT_MV - 5) 650)) := by
  constructor
  · rw [exec, execAvsAdjust, if_neg (by simp [he, h1])]
    dsimp only
    rw [if_neg hv, if_neg hv, if_pos (Eq.refl 1)]
  · rw [exec, execAvsAdjust, if_neg (by simp [he, h1])]
    dsimp only
    rw [if_neg hv, if_neg hv, if_neg (by decide)]

/-- Settles O56: each clause is the branch lemma above that its hypotheses pick out. -/
theorem resetsRailsAndAlwaysOn : Obligations.ResetsRailsAndAlwaysOn := by
  unfold Obligations.ResetsRailsAndAlwaysOn
  refine ⟨?_, fun _ => execNworldResetDone_of_done, fun _ => execResetNLow_of_running, fun _ => execWarmResetRelease_of_low,
    fun _ => execPoresetLow_of_running, fun _ => execAonPowerUp_of_off, fun _ => execVbatLoss_of_off, fun _ => execVbatLoss_of_powered,
    fun _ => caseOpen_of_off, ?_, fun _ _ _ => execPowerQuery_of_op, ?_, fun _ => execAvsAdjust_of_set, ?_⟩
  · exact fun s k q hq => ⟨execReset_of_warm hq, execReset_of_stranger hq, execReset_of_safe hq, execReset_of_nworld hq⟩
  · exact fun s k q hq => ⟨execRtcSet_of_unsynced hq, execRtcSet_of_value hq⟩
  · exact fun s r l tries hj hoff => ⟨execRailPowerGood_of_next hj hoff, execRailTimeout_of_first hj, execRailTimeout_of_second hj⟩
  · intro s
    rw [exec, execTjLimit]

end Sys2Proof.Machine
end

end
